-- ==== Sys2Proof/Word.lean ====
section
/-!
DEFINITION. The word types of the part: bytes, the 32-bit and 64-bit words of the Setup Window (R6), a logical block of
4,096 bytes (R5 and the chapter on numbers, units and data layout), and the keys.
-/

namespace Sys2Proof

/-- One byte. -/
abbrev Byte := BitVec 8

/-- A dword, the unit of a Setup Window access (R6). -/
abbrev Word32 := BitVec 32

/-- A 64-bit register's word (R6). -/
abbrev Word64 := BitVec 64

/-- The 4,096 bytes of user data of a logical block, little-endian: byte 0 is bits 7:0. -/
abbrev Block := BitVec 32768

/-- The 64-byte device check field of a unit. -/
abbrev CheckField := BitVec 512

/-- An AES-256 key, a transport key or a seal key. -/
abbrev Key256 := BitVec 256

end Sys2Proof
end

