-- ==== Sys2Proof/Syntax.lean ====
section
/-!
DEFINITION. The commands the part takes, one constructor for each row of spec/opcode_table.json, and the types of their
operands. What the environment decides (a measured voltage, the bytes of a frame, the outcome of a decoder, whether a
device operation succeeded) is an operand of the command that brings it about.
-/

namespace Sys2Proof

/-- The agents of the Setup Window (R10, R653). -/
inductive Agent where
  | pf0 | pf1
  | core (c : Fin 16)
  | mgmt
  deriving DecidableEq, Repr

/-- A command in flight: its function (tenant number), submission queue and command identifier. -/
structure CmdRef where
  fn : Nat
  qid : Nat
  cid : Nat
  deriving DecidableEq, Repr

/-- An SGL descriptor: its type, sub type and length (R94). -/
structure SglDesc where
  kind : Nat
  sub : Nat
  len : Nat
  addr : Nat
  deriving DecidableEq, Repr

/-- The data pointer of a command, as the front end walks it (R94, R95): the PRP entries in order, or the SGL descriptors. -/
inductive DataPtr where
  | prp (entries : List Nat)
  | sgl (descs : List SglDesc)
  deriving DecidableEq, Repr

/-- A submission queue entry, with what host memory holds at its data pointer for a command whose data goes to the
controller other than logical blocks. -/
structure Sqe where
  opc : Nat
  cid : Nat
  nsid : Nat
  cdw10 : Nat
  cdw11 : Nat
  cdw12 : Nat
  cdw13 : Nat
  cdw14 : Nat
  cdw15 : Nat
  dptr : DataPtr
  data : List Byte
  deriving DecidableEq, Repr

/-- The outcome of the port's check of host protection information (R412). -/
inductive PiCheck where
  | ok | guard | app | ref
  deriving DecidableEq, Repr

/-- Why host software disables or enables a function (R136, R699). -/
inductive FnCause where
  | busMaster | d3hot | vfEnable
  deriving DecidableEq, Repr

/-- An upstream frame that a controller receiver has checked: lane, DIE, TAG, ARG and payload (R295, R307). -/
structure Frame where
  lane : Nat
  die : Nat
  tag : Nat
  arg : Nat
  payload : List Byte
  deriving DecidableEq, Repr

/-- How a decoder ends (R385): success with a number of corrected bits, an erased codeword, or failure. -/
inductive DecodeRes where
  | ok (corrected : Nat)
  | erased
  | fail
  deriving DecidableEq, Repr

/-- A reference's crossings in a calibration sample (R393). -/
structure CalCount where
  up : Nat
  down : Nat
  deriving DecidableEq, Repr

/-- The symbols of a granule burst in error: (device, error pattern) of the stored ones, and the pattern of the four virtual ones, which differ where
the devices answered for another address (R604, R606). -/
structure DramSyms where
  errs : List (Nat × Nat)
  virt : Nat
  deriving DecidableEq, Repr

/-- A handshake agent's answer (R640). -/
inductive HsReply where
  | grant | refuse
  | delay (us : Nat)
  deriving DecidableEq, Repr

/-- An SPDM request, by its code and the parts the responder acts on (R575, R576). -/
structure SpdmMsg where
  code : Nat
  param1 : Nat
  param2 : Nat
  body : List Byte
  deriving DecidableEq, Repr

/-- An IDE_KM request within an SPDM session (R578). -/
structure IdeKmMsg where
  session : Bool
  object : Nat
  stream : Nat
  keySet : Nat
  rxTx : Nat
  key : List Byte
  deriving DecidableEq, Repr

/-- An MCTP control message: command code and data (R676, R732, R733). -/
structure MctpMsg where
  cmd : Nat
  data : List Byte
  deriving DecidableEq, Repr

/-- A naturally aligned read of the Setup Window: its offset, and its size in bytes, 4 or 8 (R6). -/
structure ReadAt where
  off : Nat
  size : Nat
  deriving DecidableEq, Repr

/-- How a start-up stage ends. -/
inductive StageRes where
  | ok
  | fail (cause : Nat)
  deriving DecidableEq, Repr


/-- The commands the part takes: one for each row of spec/opcode_table.json, with the row's operands. -/
inductive Instr where
  /-- MISALIGNED_ACCESS (R7): A Setup Window access narrower than 32 bits or not naturally aligned completes without error, raises the misaligned-access event, discards a write and returns the addressed bytes for a read. -/
  | misalignedAccess (a : Agent) (off : Nat) (size : Nat) (write : Bool) (v : Nat)
  /-- LOW_DWORD_READ (R8): A read of the low dword of a 64-bit register latches the high dword for the reading agent. -/
  | lowDwordRead (a : Agent) (x : ReadAt)
  /-- LOW_DWORD_WRITE (R9): A write of the low dword of a 64-bit register is held for the writing agent without being applied. -/
  | lowDwordWrite (a : Agent) (off : Nat) (v : Nat)
  /-- HIGH_DWORD_WRITE (R10): A write of the high dword of a 64-bit register applies it with the agent's held low dword, or with the current low dword if none is held. -/
  | highDwordWrite (a : Agent) (off : Nat) (v : Nat)
  /-- REGISTER_WRITE (R12): A write to a register with no row of its own acts by its access codes, discarding out-of-range RW values and LK writes after boot lock. -/
  | registerWrite (a : Agent) (off : Nat) (size : Nat) (v : Nat)
  /-- TX_WRITE (R655): A write to a TX field goes to the shadow copy if the owner writes it in an open transaction, and is otherwise discarded with TXERR set. -/
  | txWrite (a : Agent) (off : Nat) (size : Nat) (v : Nat)
  /-- DOORBELL_WRITE (R93): Host software writes a submission queue tail doorbell, which makes new entries available to the front end. -/
  | doorbellWrite (fn : Nat) (qid : Nat) (tail : Nat) (entries : List Sqe)
  /-- CQ_HEAD_DOORBELL (R84): Host software writes a completion queue head doorbell, which frees completion entries. -/
  | cqHeadDoorbell (fn : Nat) (qid : Nat) (head : Nat)
  /-- COMMAND_FETCH (R93): The front end fetches a submission entry when back-pressure allows and checks it in order, completing it with the first failing status. -/
  | commandFetch (fn : Nat) (qid : Nat)
  /-- COMMAND_ADMISSION (R451): A checked command is admitted once every cap bucket of its direction holds a positive level, and its cost is subtracted from all buckets of that direction. -/
  | commandAdmission (r : CmdRef)
  /-- LOCK_GRANT (R99): The Colander grants all entries of a command once no earlier unretired conflicting request overlaps them in the same namespace. -/
  | lockGrant (r : CmdRef)
  /-- BUFFER_GRANT (R203): A waiting buffer request receives a granule from its pool, with requests within reserve served first. -/
  | bufferGrant (p : Nat)
  /-- HOST_DATA_BLOCK (R36): One logical block of write data arrives from host memory, has its protection information verified, is encrypted, and its ciphertext with the device check field is written to DRAM. -/
  | hostDataBlock (r : CmdRef) (data : Block) (mdata : Nat) (pi : PiCheck)
  /-- HOLDUP_CREDIT_GRANT (R251): A waiting credit request for all units of one write or journal record is reserved once it fits under B, in arrival order. -/
  | holdupCreditGrant
  /-- WRITE_COMPLETION (R37): Once every unit is in DRAM with a CSN, passed checks and reserved credit, the port issues the completion entry and the write is accepted and retires. -/
  | writeCompletion (r : CmdRef)
  /-- READ_COMPLETION (R103): Once decoded, checked and decrypted data has been sent to the host, the port issues a read's completion and its lock retires. -/
  | readCompletion (r : CmdRef) (pi : PiCheck)
  /-- FLUSH_COMPLETION (R112): A Flush completes once every stripe holding a covered unit with stripe CSN below C is programmed and closed. -/
  | flushCompletion (r : CmdRef)
  /-- FUA_COMPLETION (R111): A FUA write completes once every unit lies in a programmed stripe that is closed in the journal. -/
  | fuaCompletion (r : CmdRef)
  /-- CREATE_IO_SUBMISSION_QUEUE (R83): The admin command creates an I/O submission queue within the function's assignment. -/
  | createIoSubmissionQueue (r : CmdRef)
  /-- DELETE_IO_SUBMISSION_QUEUE (R84): The admin command deletes an I/O submission queue. -/
  | deleteIoSubmissionQueue (r : CmdRef)
  /-- CREATE_IO_COMPLETION_QUEUE (R82): The admin command creates an I/O completion queue, with its own vector if interrupts are enabled. -/
  | createIoCompletionQueue (r : CmdRef)
  /-- DELETE_IO_COMPLETION_QUEUE (R82): The admin command deletes an I/O completion queue and frees its vector. -/
  | deleteIoCompletionQueue (r : CmdRef)
  /-- GET_LOG_PAGE (R91): The admin command returns a supported log page in the scope of the issuing function. -/
  | getLogPage (r : CmdRef)
  /-- IDENTIFY (R86): The admin command returns Identify data, with namespace lists limited to the tenant's own namespaces. -/
  | identify (r : CmdRef)
  /-- ABORT (R139): The admin command aborts a fetched command that holds no lock grant and has not reached step 8, and otherwise reports not aborted. -/
  | abort (r : CmdRef)
  /-- SET_FEATURES (R92): The admin command sets a supported feature. -/
  | setFeatures (r : CmdRef)
  /-- GET_FEATURES (R92): The admin command returns a supported feature. -/
  | getFeatures (r : CmdRef)
  /-- ASYNCHRONOUS_EVENT_REQUEST (R123): The admin command posts a request that the controller completes when an enabled asynchronous event occurs. -/
  | asynchronousEventRequest (r : CmdRef)
  /-- NAMESPACE_MANAGEMENT (R195): The admin command creates a namespace after the ordered checks, or deletes one and destroys its keys. -/
  | namespaceManagement (r : CmdRef)
  /-- FIRMWARE_COMMIT (R700): The sealed admin command writes, checks or activates a firmware slot by its Commit Action. -/
  | firmwareCommit (r : CmdRef)
  /-- FIRMWARE_IMAGE_DOWNLOAD (R89): The admin command transfers part of a firmware image into firmware-owned DRAM buffers. -/
  | firmwareImageDownload (r : CmdRef)
  /-- DEVICE_SELF_TEST (R480): The admin command starts a short or extended self-test that reads dies within the maintenance share. -/
  | deviceSelfTest (r : CmdRef)
  /-- NAMESPACE_ATTACHMENT (R534): The admin command attaches or detaches a namespace, only to the owner's or partner's controller. -/
  | namespaceAttachment (r : CmdRef)
  /-- DIRECTIVE_SEND (R185): The admin command acts on identify directives and fails for data placement. -/
  | directiveSend (r : CmdRef)
  /-- DIRECTIVE_RECEIVE (R185): The admin command returns directive data and fails for data placement. -/
  | directiveReceive (r : CmdRef)
  /-- VIRTUALIZATION_MANAGEMENT (R79): The admin command assigns flexible queue and vector resources or changes a secondary controller's online state. -/
  | virtualizationManagement (r : CmdRef)
  /-- NVME_MI_SEND (R677): The admin command carries an NVMe-MI request in band on PF0 or PF1. -/
  | nvmeMiSend (r : CmdRef)
  /-- NVME_MI_RECEIVE (R677): The admin command returns an NVMe-MI response in band on PF0 or PF1. -/
  | nvmeMiReceive (r : CmdRef)
  /-- FORMAT_NVM (R571): The sealed admin command gives namespaces new media keys, destroys the old ones and rebinds or unmaps their capacity. -/
  | formatNvm (r : CmdRef)
  /-- SANITIZE (R571): The sealed admin command crypto-erases or block-erases the namespaces in the issuer's scope. -/
  | sanitize (r : CmdRef)
  /-- GET_LBA_STATUS (R193): The admin command reports unmapped and uncorrectable ranges of a placement namespace. -/
  | getLbaStatus (r : CmdRef)
  /-- SEALED_ENVELOPE (R554): The vault checks an envelope's format, key, CMAC, counter and inner command in order, failing at the first check that fails. -/
  | sealedEnvelope (r : CmdRef)
  /-- SEAL_COUNTER_DURABLE (R555): Once the new counter is durable on both store copies, the inner command starts and the envelope completes with its status. -/
  | sealCounterDurable (tenant : Nat)
  /-- TENANT_POLICY_SET (R562): The sealed vendor command changes the sections of a tenant policy that the issuer may change. -/
  | tenantPolicySet (r : CmdRef)
  /-- TENANT_POLICY_GET (R563): The vendor command returns a tenant policy that the issuer may read. -/
  | tenantPolicyGet (r : CmdRef)
  /-- SEAL_STATUS (R560): The vendor command returns the issuing tenant's last accepted counter, envelope outcome and key identifiers. -/
  | sealStatus (r : CmdRef)
  /-- SECURITY_PROTOCOL_INFORMATION (R544): Security Receive of protocol 0x00 reports the supported security protocols. -/
  | securityProtocolInformation (r : CmdRef)
  /-- CERTIFICATE_CHAIN_RECEIVE (R544): Security Receive SPSP 0x0001 returns the slot 0 certificate chain. -/
  | certificateChainReceive (r : CmdRef)
  /-- EXCHANGE_OFFER_RECEIVE (R545): Security Receive SPSP 0x0002 creates a new signed key exchange offer and withdraws the previous one. -/
  | exchangeOfferReceive (r : CmdRef)
  /-- ATTESTATION_NONCE_SEND (R577): Security Send SPSP 0x0003 records the nonce for the next attested report. -/
  | attestationNonceSend (r : CmdRef)
  /-- ATTESTED_REPORT_RECEIVE (R577): Security Receive SPSP 0x0003 returns a signed attested report with the last nonce. -/
  | attestedReportReceive (r : CmdRef)
  /-- KEY_INSTALL (R548): Security Send SPSP 0x0010 decrypts and authenticates a blob and claims the tenant or rotates its keys. -/
  | keyInstall (r : CmdRef)
  /-- TENANT_UNLOCK (R566): Security Send SPSP 0x0012 unlocks a TKVOL tenant whose key identifiers match. -/
  | tenantUnlock (r : CmdRef)
  /-- FLUSH (R112): The I/O command records the current CSN counter value C at fetch and waits for the covered stripes. -/
  | flush (r : CmdRef)
  /-- WRITE (R164): The I/O command reserves flash space in its zone or reclaim group and, in a zone, is checked against and advances the write pointer. -/
  | write (r : CmdRef)
  /-- READ (R46): The I/O command looks up each unit's location, first in the index of accepted writes still in DRAM, and sends die reads. -/
  | read (r : CmdRef)
  /-- WRITE_UNCORRECTABLE (R193): The I/O command marks placement map entries as written uncorrectable. -/
  | writeUncorrectable (r : CmdRef)
  /-- COMPARE (R100): The I/O command reads a range under a shared lock and compares it with host data. -/
  | compare (r : CmdRef)
  /-- WRITE_ZEROES (R193): The I/O command unmaps a placement range, or stores units of zeros in a zone. -/
  | writeZeroes (r : CmdRef)
  /-- DATASET_MANAGEMENT (R190): The I/O command deallocate may unmap placement ranges, and changes nothing in a zoned namespace. -/
  | datasetManagement (r : CmdRef) (taken : Nat)
  /-- VERIFY (R90): The I/O command reads and checks media without transferring data. -/
  | verify (r : CmdRef)
  /-- ZONE_OPEN (R157): Zone Management Send Open moves a zone to Explicitly Opened within the tenant's limits. -/
  | zoneOpen (r : CmdRef)
  /-- ZONE_CLOSE (R157): Zone Management Send Close moves an open zone to Closed and releases its open resource. -/
  | zoneClose (r : CmdRef)
  /-- ZONE_FINISH (R423): Zone Management Send Finish moves a zone to Full and pads and closes its last rows. -/
  | zoneFinish (r : CmdRef)
  /-- ZONE_RESET (R171): Zone Management Send Reset records a new BIND_CSN, queues the old blocks for erase and binds a new member set. -/
  | zoneReset (r : CmdRef)
  /-- ZONE_OFFLINE (R157): Zone Management Send Offline moves a Read Only zone to Offline and queues its blocks for erase. -/
  | zoneOffline (r : CmdRef)
  /-- ZONE_ACTION_ACKNOWLEDGE (R168): A zone action completes once its zone record is in the journal under credit, or on both copies in write-through mode. -/
  | zoneActionAcknowledge (r : CmdRef)
  /-- ZONE_MANAGEMENT_RECEIVE (R175): The I/O command returns Report Zones data. -/
  | zoneManagementReceive (r : CmdRef)
  /-- ZONE_APPEND (R165): The I/O command is assigned the LBA at the write pointer and advances it. -/
  | zoneAppend (r : CmdRef)
  /-- CONTROLLER_ENABLE (R106): CC.EN set from 0 to 1 enables a function's controller. -/
  | controllerEnable (fn : Nat) (ams : Nat) (asqs : Nat) (acqs : Nat)
  /-- CONTROLLER_RESET (R136): CC.EN cleared from 1 to 0 stops fetch, abandons unacknowledged work, deletes I/O queues and releases locks and buffers. -/
  | controllerReset (fn : Nat)
  /-- NORMAL_SHUTDOWN (R116): CC.SHN set to 01b stops fetching, completes fetched commands and starts a flush of all the controller's namespaces. -/
  | normalShutdown (fn : Nat)
  /-- SHUTDOWN_COMPLETE (R116): Once the shutdown flush has completed, the controller reports CSTS.SHST = 10b. -/
  | shutdownComplete (fn : Nat)
  /-- ABRUPT_SHUTDOWN (R117): CC.SHN set to 10b stops fetching, treats fetched commands as under reset and reports shutdown complete. -/
  | abruptShutdown (fn : Nat)
  /-- FUNCTION_LEVEL_RESET (R136): A function-level reset acts as a controller reset on the function, and on a PF's VFs too, freeing their buffers by named-owner free. -/
  | functionLevelReset (fn : Nat)
  /-- FUNCTION_DISABLE (R136): Bus Master Enable cleared, D3hot entered or VF Enable cleared disables functions and drops their unissued completions. -/
  | functionDisable (fn : Nat) (cause : FnCause)
  /-- PERST_ASSERT (R136): Assertion of PERSTA_N or PERSTB_N resets every function of that port as a function-level reset. -/
  | perstAssert (port : Nat)
  /-- PERST_DEASSERT (R693): Deassertion of a port's PERST_N lets the port train its link, answering with retry status until stage 8 ends. -/
  | perstDeassert (port : Nat)
  /-- PORT_LINK_UP (R67): A host port's link trains at a rate and width. -/
  | portLinkUp (port : Nat) (rate : Nat) (width : Nat) (flit : Bool)
  /-- PORT_LINK_DOWN (R136): A port's link goes down or the port fails, which is treated as PERST_N of that port. -/
  | portLinkDown (port : Nat)
  /-- NVM_SUBSYSTEM_RESET (R698): NSSR resets every function, runs a reset flush and restarts the part at stage 1. -/
  | nvmSubsystemReset (fn : Nat)
  /-- STAT_CLR (R12): Writing RLK_CTL.STAT_CLR sets HIWAT to INUSE and clears RLK_MAXWAIT. -/
  | statClr (a : Agent)
  /-- COUNTED_FREE (R210): A counted free decrements a granule's reference count and returns the granule to its pool at zero. -/
  | countedFree (engine : Nat) (p : Nat) (g : Nat)
  /-- NAMED_OWNER_FREE (R211): A named-owner free returns a granule to its pool if the named owner matches its tag. -/
  | namedOwnerFree (engine : Nat) (p : Nat) (g : Nat) (owner : Nat)
  /-- REFERENCE_TAKE (R213): An engine takes a reference on a shared granule, and waits if the count is at 15. -/
  | referenceTake (engine : Nat) (p : Nat) (g : Nat)
  /-- CAPTURE_WINDOW_WRITE (R219): A peer write to the Capture Window is placed by ring offset, advancing the arrived offset A, or is discarded as stray. -/
  | captureWindowWrite (pf : Nat) (off : Nat) (rid : Nat) (bytes : List Byte)
  /-- CAPTURE_UNIT_ACCEPT (R226): A complete zone-stream unit takes a CSN and, once accepted, advances ACK_ROFF. -/
  | captureUnitAccept (ring : Nat)
  /-- CREDIT_SPAN_GRANT (R224): The ring is granted a 1 MiB span backed by a fresh granule, within the window, and CRLIM advances. -/
  | creditSpanGrant (ring : Nat)
  /-- ZONE_QUEUE_PUSH (R228): A write to CAP_ZQ_PUSH binds an Empty zone to the ring and appends it to the ring's zone queue. -/
  | zoneQueuePush (a : Agent) (ring : Nat) (v : Nat)
  /-- STALL_TIMEOUT (R236): At expiry of the Stall Timer the ring faults on a hole, or stores a truncation or pad marker. -/
  | stallTimeout (ring : Nat)
  /-- RING_ARM (R239): CAP_CTL.ARM arms an IDLE ring that meets every condition, storing a zone start marker and starting credit. -/
  | ringArm (a : Agent) (ring : Nat)
  /-- RING_RELEASE (R240): CAP_CTL.RELEASE stops credit and truncates any partial record, so that the ring drains. -/
  | ringRelease (a : Agent) (ring : Nat)
  /-- RELEASE_COMPLETE (R240): Once every complete unit is accepted, the ring stores an end marker, closes its zones to ZSC and returns to IDLE. -/
  | releaseComplete (ring : Nat)
  /-- CAPTURE_COUNT_CLEAR (R12): Writing CAP_CTL.CLR clears CAP_EVCNT of the ring. -/
  | captureCountClear (a : Agent) (ring : Nat)
  /-- BANK_READY (R246): The hold-up bank reaches V_CHG, which starts a waiting or first energy test. -/
  | bankReady (vbank : Nat)
  /-- ENERGY_TEST_REQUEST (R246): Writing HLD_CTL.TEST requests an energy test, which merges with a waiting or running one. -/
  | energyTestRequest (a : Agent)
  /-- TEST_PERIOD_EXPIRY (R246): PERIOD hours after the last test ended, an energy test is requested. -/
  | testPeriodExpiry
  /-- ENERGY_TEST_START (R247): Once reserved credit is within the lowered budget, the charger stops, the voltage is measured and the test load is connected. -/
  | energyTestStart (v0 : Nat) (v1 : Nat)
  /-- TEST_DISCHARGE_END (R247): The bank voltage reaches v1 − DV, so capacitance is computed, the load is disconnected and charging restarts. -/
  | testDischargeEnd (vbank : Nat) (tns : Nat)
  /-- ENERGY_TEST_COMPLETE (R247): Once the bank is READY again, the new budget is computed and the test passes or fails. -/
  | energyTestComplete (vbank : Nat)
  /-- FORCED_FLUSH (R266): HLD_CTL.FORCE with KEY 0x5C starts a Schuss flush as a confirmed loss of VIN does. -/
  | forcedFlush (a : Agent) (key : Nat) (test : Nat)
  /-- VIN_BELOW_THRESHOLD (R257): VINSNS falls below HLD_VLOSS.V, which starts the deglitch time. -/
  | vinBelowThreshold (v : Nat)
  /-- VIN_DIP (R257): VIN recovers before the deglitch time ends, which raises the VIN-dip event. -/
  | vinDip (v : Nat) (low : Nat) (us : Nat)
  /-- VIN_LOSS_CONFIRMED (R258): VIN stays below threshold for DG µs, so the rails move to the bank, fetch, completions and credit stop, and the flush begins. -/
  | vinLossConfirmed
  /-- FLUSH_DRAIN_DONE (R38): The DRAM write queues have drained, and programming of the flush header begins. -/
  | flushDrainDone
  /-- FLUSH_COMMIT_PROGRAMMED (R260): The commit record has been programmed on two packages, ending the image. -/
  | flushCommitProgrammed
  /-- FLUSH_END (R264): Every switched domain is Off after the flush, and a present VIN restarts the part as from a loss of VIN. -/
  | flushEnd
  /-- JOURNAL_PAGE_TIMER (R273): JPAGE × 10 µs after its first record, a journal page is programmed to both copies. -/
  | journalPageTimer
  /-- JOURNAL_PAGE_PROGRAMMED (R252): A journal page completes on both copies, and its records' credit is returned. -/
  | journalPageProgrammed (seq : Nat)
  /-- RDATA (R310): A read-data frame carries the hard-decision bytes of a read range to the front end. -/
  | rdata (link : Nat) (f : Frame)
  /-- SDATA (R314): A soft-data frame carries seven-sense counts z for each bit of the range. -/
  | sdata (link : Nat) (f : Frame)
  /-- DONE (R315): A DONE frame resolves a program, erase, suspend, resume, reference write, configuration or die reset with its result code. -/
  | done (link : Nat) (f : Frame)
  /-- BUSY (R322): A BUSY frame reports that a read's die is programming or erasing, with the remaining time. -/
  | busy (link : Nat) (f : Frame)
  /-- INHIBIT (R332): An INHIBIT frame refuses a program, erase or resume, and the program is returned to the stripe engine. -/
  | inhibit (link : Nat) (f : Frame)
  /-- STATUS_RSP (R339): A status block resolves a timed-out program, erase or control request by its QSTATE. -/
  | statusRsp (link : Nat) (f : Frame)
  /-- NAK (R341): A NAK frame causes a reissue for reasons 0x01 and 0x03 and otherwise resolves the request as failed. -/
  | nak (link : Nat) (f : Frame)
  /-- ALERT (R331): An ALERT frame reports an inhibit change, a die fault or a temperature near TMAX. -/
  | alert (link : Nat) (f : Frame)
  /-- REG_DATA (R343): A bridge register value returns, and a changed BOOTCNT triggers bridge-reset handling. -/
  | regData (link : Nat) (f : Frame)
  /-- TRAIN_RSP (R347): A training response advances a lane's training phase or records its error counts. -/
  | trainRsp (link : Nat) (f : Frame) (errs : Nat)
  /-- CORRUPT_FRAME (R303): A frame that fails HCRC or its frame CRC is discarded and counted. -/
  | corruptFrame (link : Nat) (lane : Nat) (hcrc : Bool)
  /-- TAG_TIMER_EXPIRY (R339): An expired tag timer reissues the request or queries the bridge with STATUS. -/
  | tagTimerExpiry (link : Nat) (tag : Nat)
  /-- QUARANTINE_EXPIRY (R338): QUAR after a reissue, the quarantined tag becomes free. -/
  | quarantineExpiry (link : Nat) (tag : Nat)
  /-- FRAME_LENGTH_TIMEOUT (R302): A frame not wholly received when its frame-length timer expires is discarded and the hunt resumes. -/
  | frameLengthTimeout (link : Nat) (lane : Nat)
  /-- BURST_END (R304): No valid swing for 40 UI ends the burst and discards any partial frame. -/
  | burstEnd (link : Nat) (lane : Nat) (cut : Bool)
  /-- TRAIN_DETECT_TIMER (R347): Every 10 µs in phase 0 the controller sends another TRAIN. -/
  | trainDetectTimer (link : Nat) (lane : Nat)
  /-- INHIBIT_POLL_TIMER (R331): Each 1 ms while an inhibit flag is set, the sequencer polls STATUS. -/
  | inhibitPollTimer (link : Nat)
  /-- DIE_TEMP_POLL (R369): At least every 10 minutes the sequencer sends TEMP to each die. -/
  | dieTempPoll (die : Nat)
  /-- RESETBR (R348): Writing LNK_CTL.RESETBR resets the bridge and trains the link from phase 0. -/
  | resetbr (a : Agent) (link : Nat)
  /-- RETRAIN (R348): Writing LNK_CTL.RETRAIN retrains both lanes from phase 1. -/
  | retrain (a : Agent) (link : Nat)
  /-- LINK_COUNTER_CLEAR (R12): Writing LNK_CNT_CLR clears the link's counters. -/
  | linkCounterClear (a : Agent) (link : Nat)
  /-- HARD_DECODE_DONE (R385): The hard decoder ends with OK_HARD, ERASED or failure, and failure escalates to a soft read or FAIL. -/
  | hardDecodeDone (id : Nat) (res : DecodeRes)
  /-- SOFT_DECODE_DONE (R385): A soft engine ends with OK_SOFT or FAIL, and the block may be reported to media management. -/
  | softDecodeDone (id : Nat) (res : DecodeRes)
  /-- EFFECTIVE_HOURS_TICK (R369): Each hour every die's effective-hours count rises by the temperature-weighted amount. -/
  | effectiveHoursTick
  /-- CALIBRATION_SAMPLE_START (R393): The front end pins a sample block of a candidate band and reads its group. -/
  | calibrationSampleStart (die : Nat) (w : Nat) (k : Nat) (r : Nat) (block : Nat) (grp : Nat)
  /-- CALIBRATION_SAMPLE_END (R395): A completed sample adjusts offsets and soft values, rewrites the band entry and unpins the block. -/
  | calibrationSampleEnd (link : Nat) (ok : Bool) (counts : List CalCount) (errs : Nat) (n0 : List Nat) (n1 : List Nat)
  /-- DDK_COUNTER_CLEAR (R12): Writing DDK_CNT_CLR clears the front end's counters. -/
  | ddkCounterClear (a : Agent) (link : Nat)
  /-- SOFT_ENGINE_FAULT (R387): A soft engine faults, is taken out of service and its queued codewords go to other engines. -/
  | softEngineFault (engine : Nat)
  /-- STRIPE_UNIT_PLACEMENT (R414): The stripe engine places an accepted unit into a stripe row of a zone or placement set. -/
  | stripeUnitPlacement (csn : Nat) (comp : Bool)
  /-- GROUP_PROGRAM (R414): A member's 4-page group whose slots are all filled is sent as a PROGRAM. -/
  | groupProgram (setid : Nat) (m : Nat) (grp : Nat)
  /-- STAGED_READBACK (R420): When a zone row's groups fill, its staged units are read back and programmed at their zone positions. -/
  | stagedReadback (setid : Nat) (row : Nat)
  /-- MEMBER_REPLACEMENT (R427): A member is copied or reconstructed into a block on a new package and MEMBER is updated. -/
  | memberReplacement (setid : Nat) (m : Nat)
  /-- REBUILD_ROW (R433): Rebuild reconstructs one row of a lost member into its replacement within RBSHARE. -/
  | rebuildRow
  /-- RECONSTRUCTION_COMPLETE (R430): Once 16 other members have been read, the unit is computed and checked, with a second computation if needed. -/
  | reconstructionComplete (id : Nat)
  /-- LOST_LBA_SEARCH_END (R439): The map search for a lost placement position's LBA ends, and the deferred error is recorded. -/
  | lostLbaSearchEnd (record : Nat) (pos : Nat)
  /-- INHIBIT_WAIT_TIMEOUT (R426): INHWAIT after an inhibit, the program is resent or the member is replaced. -/
  | inhibitWaitTimeout (die : Nat)
  /-- STRIPE_COUNTER_CLEAR (R12): Writing STR_CNT_CLR clears the stripe counters. -/
  | stripeCounterClear (a : Agent)
  /-- DIE_DISPATCH (R457): When a die can take work, the scheduler sends its next request by class and media-write precedence. -/
  | dieDispatch (die : Nat)
  /-- CLASS_AGEING_TIMEOUT (R447): A class 2 read that has waited AGE ms is served as class 1. -/
  | classAgeingTimeout (die : Nat)
  /-- SUSPHOLD_EXPIRY (R461): SUSPHOLD after a suspension, the die is resumed once no read is outstanding. -/
  | suspholdExpiry (die : Nat)
  /-- SCHEDULER_WINDOW_END (R471): At the end of each window population medians are computed, dies are benched or returned and shares restart. -/
  | schedulerWindowEnd
  /-- LATENCY_MONITOR_CONFIG (R486): A write to SCH_LMON_CFG sets the monitor and clears TOTAL, OVER and MAX. -/
  | latencyMonitorConfig (a : Agent) (v : Nat)
  /-- EPOCH_END (R187): After EPOCH_GIB GiB of host writes to a namespace, every history value decays by a quarter. -/
  | epochEnd (nsix : Nat)
  /-- ERASE_RELEASE (R493): A block on the erase queue is released to its die's media-write queue when the share or the backlog allows. -/
  | eraseRelease
  /-- CHECKPOINT_TIMER (R509): CK1MIN minutes after the last kind 1 cut, a kind 1 checkpoint starts. -/
  | checkpointTimer
  /-- CHECKPOINT_START (R502): A checkpoint record is cut, and the structures are written from that instant into checkpoint sets. -/
  | checkpointStart (kind : Nat)
  /-- CHECKPOINT_COMPLETE (R508): A checkpoint whose directory and sets check becomes complete, and the previous one's sets go to erase. -/
  | checkpointComplete (kind : Nat)
  /-- GC_VICTIM_SELECT (R513): Garbage collection picks the closed superblock with the fewest valid units and relocates them. -/
  | gcVictimSelect (ds : Nat)
  /-- RELOCATION_COMMIT (R500): Once the copies' stripes are closed, map entries still naming the source are set to the copies by compare-and-set. -/
  | relocationCommit (setid : Nat)
  /-- PATROL_VISIT (R517): Each bound block with a closed row has one group read through the ladder once per PATROL hours. -/
  | patrolVisit (die : Nat) (block : Nat) (grp : Nat)
  /-- TEMPERATURE_MINUTE_TICK (R528): Each minute the hottest die temperature is added to the histogram and extremes. -/
  | temperatureMinuteTick
  /-- SPDM_REQUEST (R575): The SPDM responder answers a supported request on the DOE mailbox. -/
  | spdmRequest (pf : Nat) (msg : SpdmMsg)
  /-- IDE_KM_REQUEST (R578): An IDE_KM request in an SPDM session queries, programs, starts or stops a stream key set. -/
  | ideKmRequest (pf : Nat) (msg : IdeKmMsg)
  /-- VAULT_SELF_TEST (R585): Mailbox request 0x01 runs the vault's known-answer and random generator tests. -/
  | vaultSelfTest (a : Agent) (kat : Bool) (rng : Bool)
  /-- VAULT_STORE_COMPACT (R585): Mailbox request 0x02 compacts the vault store. -/
  | vaultStoreCompact (a : Agent)
  /-- SEAL_STATUS_QUERY (R585): Mailbox request 0x03 returns a tenant's Seal Status in SEC_MB_DATA. -/
  | sealStatusQuery (a : Agent)
  /-- VAULT_STORE_WRITE_DONE (R538): A vault store change is programmed and read back on both copies, or on one copy with STATE 2. -/
  | vaultStoreWriteDone (okA : Bool) (okB : Bool)
  /-- DRAM_WRITE_REQUEST (R589): A whole aligned 64-byte write enters a sub-channel write queue. -/
  | dramWriteRequest (addr : Nat) (data : Nat)
  /-- DRAM_READ_REQUEST (R593): A granule read is queued, entering in-order mode on a row match, and is decoded and corrected. -/
  | dramReadRequest (addr : Nat) (sym : DramSyms)
  /-- WRITE_AGE_TIMEOUT (R592): The oldest queued write waiting WMAXAGE µs starts a drain. -/
  | writeAgeTimeout (ch : Nat) (sub : Nat)
  /-- REFRESH_DUE (R598): A due refresh of a rank is issued, or postponed while reads are queued up to PPMAX. -/
  | refreshDue (ch : Nat) (sub : Nat) (rank : Nat)
  /-- MR4_POLL (R597): Each 1 ms the controller reads MR4 of every rank and applies the refresh rate reported. -/
  | mr4Poll (ch : Nat) (mult : Nat)
  /-- ZQ_CALIBRATION_TIMER (R621): Every ZQINT ms after a refresh, a channel runs ZQ calibration. -/
  | zqCalibrationTimer (ch : Nat)
  /-- OSCILLATOR_TIMER (R621): Every OSCINT ms the DQS oscillator runs, and TX delays move if drift exceeds OSCTHR. -/
  | oscillatorTimer (ch : Nat) (drift : Nat)
  /-- TRAINING_OPERATION (R620): DRM_TRN_CTL.GO starts a training operation on a channel. -/
  | trainingOperation (a : Agent) (ch : Nat) (v : Nat)
  /-- TRAINING_OPERATION_DONE (R620): A training operation ends, with lane failures and the first failing burst captured. -/
  | trainingOperationDone (ch : Nat) (fail : Nat) (first : Option Nat) (burst : List Byte)
  /-- DELAY_SET (R620): DRM_TRN_DLY.SET applies a delay or reference value to a lane. -/
  | delaySet (a : Agent) (ch : Nat) (v : Nat)
  /-- MODE_REGISTER_COMMAND (R620): DRM_MR_CMD.GO issues a mode register read or write. -/
  | modeRegisterCommand (a : Agent) (ch : Nat) (v : Nat) (rdata : Nat)
  /-- SCRUB_START (R622): MEM_SCR_CTL.START begins a scrub pass over a valid range, or is refused. -/
  | scrubStart (a : Agent) (v : Nat)
  /-- SCRUB_ABORT (R624): MEM_SCR_CTL.ABORT ends a scrub pass at the next granule. -/
  | scrubAbort (a : Agent)
  /-- SCRUB_PASS_END (R625): A finished pass writes its summary record and raises the scrub-done event. -/
  | scrubPassEnd
  /-- DOMAIN_COMMAND (R643): A PWR_CMD write checks a domain command and starts an entry or return. -/
  | domainCommand (a : Agent) (v : Nat)
  /-- HANDSHAKE_REPLY (R640): A handshake agent grants, refuses or delays an entry. -/
  | handshakeReply (dom : Nat) (reply : HsReply)
  /-- HANDSHAKE_DELAY_EXPIRY (R640): After a DELAY, the agent is asked again, or the entry is refused after HSMAX delays. -/
  | handshakeDelayExpiry (dom : Nat)
  /-- QUIESCE_DONE (R637): The domain has finished its work in hand, so saving and isolation proceed. -/
  | quiesceDone (dom : Nat)
  /-- DOMAIN_ENTRY_COMPLETE (R637): The supply switches to retention or off, and the entry completes. -/
  | domainEntryComplete (dom : Nat)
  /-- DOMAIN_RETURN_COMPLETE (R635): A returning domain reaches On after its return work. -/
  | domainReturnComplete (dom : Nat)
  /-- DOMAIN_RETURN_FAILED (R636): A domain's return fails, so it stays Off and an event is raised. -/
  | domainReturnFailed (dom : Nat) (cause : Nat)
  /-- WAKE_PIN_CHANGE (R647): A WAKE pin changes level, which starts or ends its debounce. -/
  | wakePinChange (pin : Nat) (level : Bool)
  /-- WAKE_EVENT (R647): After DEB µs asserted, the pin sets PEND, abandons entries in its wake set and returns those domains to On. -/
  | wakeEvent (pin : Nat)
  /-- TRANSACTION_BEGIN (R655): GLB_TXN_CTL.BEGIN opens a configuration transaction owned by the writer, or sets BEGINERR. -/
  | transactionBegin (a : Agent)
  /-- TRANSACTION_COMMIT (R656): GLB_TXN_CTL.COMMIT by the owner validates the shadows against every rejection rule. -/
  | transactionCommit (a : Agent) (save : Bool)
  /-- TRANSACTION_ABORT (R655): GLB_TXN_CTL.ABORT by the owner discards the shadows with RESULT 4. -/
  | transactionAbort (a : Agent)
  /-- COMMIT_IMAGE_SAVED (R658): With SAVE set, the image has been programmed and read back, or the commit is rejected with REASON 2. -/
  | commitImageSaved (ok : Bool)
  /-- COMMIT_ISLANDS_HELD (R659): Once every affected island is held at a quiescent point, all shadows are applied together and the islands resume. -/
  | commitIslandsHeld
  /-- TRANSACTION_TIMEOUT (R655): After TMO ms with no owner write, an open transaction is aborted with RESULT 6. -/
  | transactionTimeout
  /-- BOOT_LOCK (R12): Writing GLB_LOCK sets boot lock, which closes LK fields. -/
  | bootLock (a : Agent)
  /-- EVENT_RECORD_ARRIVAL (R664): An event record from a source reaches the fabric, takes an ESN and is routed to the rings and the tenant log. -/
  | eventRecordArrival (src : Nat)
  /-- EVENT_RING_WRITE (R669): A held record is written to a ring with room, TAIL advances and is written to TAILADDR. -/
  | eventRingWrite (ring : Nat) (err : Bool)
  /-- EVENT_HEAD_WRITE (R669): Host software writes EVT_HEAD, making room in the ring. -/
  | eventHeadWrite (a : Agent) (ring : Nat) (head : Nat)
  /-- EVENT_RING_CONFIG (R672): A write to EVT_CFG that enables a ring resets TAIL and HEAD. -/
  | eventRingConfig (a : Agent) (ring : Nat) (v : Nat)
  /-- EVENT_INTERRUPT_TIMER (R671): INTAGE µs after the first unsignalled record, the ring's MSI-X vector is sent. -/
  | eventInterruptTimer (ring : Nat)
  /-- MCTP_CONTROL_MESSAGE (R676): The management endpoint answers an MCTP control message. -/
  | mctpControlMessage (msg : MctpMsg)
  /-- READ_NVME_MI_DATA_STRUCTURE (R677): The NVMe-MI command returns an NVMe-MI data structure. -/
  | readNvmeMiDataStructure (dtyp : Nat) (portid : Nat) (ctlid : Nat)
  /-- NVM_SUBSYSTEM_HEALTH_STATUS_POLL (R679): The NVMe-MI command reports device-scope health and change flags. -/
  | nvmSubsystemHealthStatusPoll (clear : Bool)
  /-- CONTROLLER_HEALTH_STATUS_POLL (R677): The NVMe-MI command reports controller health. -/
  | controllerHealthStatusPoll (start : Nat) (maxent : Nat) (clear : Bool)
  /-- CONFIGURATION_SET (R677): The NVMe-MI command sets the SMBus frequency, health status change or MCTP unit size. -/
  | configurationSet (cid : Nat) (port : Nat) (v : Nat)
  /-- CONFIGURATION_GET (R677): The NVMe-MI command returns a management configuration. -/
  | configurationGet (cid : Nat) (port : Nat)
  /-- VPD_READ (R677): The NVMe-MI command reads the VPD held in the configuration image. -/
  | vpdRead (off : Nat) (len : Nat)
  /-- VPD_WRITE (R677): The NVMe-MI command writes the VPD held in the configuration image. -/
  | vpdWrite (off : Nat) (bytes : List Byte)
  /-- MI_RESET (R677): The NVMe-MI Reset command starts an NVM subsystem reset. -/
  | miReset (rtype : Nat)
  /-- TUNNELLED_ADMIN_COMMAND (R678): An admin command tunnelled over NVMe-MI runs with the rights of PF0 or PF1. -/
  | tunnelledAdminCommand (pf : Nat) (e : Sqe)
  /-- SETUP_WINDOW_ACCESS (R679): Vendor data structure 0xC0 carries a 32-bit Setup Window read or write for the endpoint. -/
  | setupWindowAccess (write : Bool) (off : Nat) (v : Nat)
  /-- VAUX_POR_END (R715): VAUX power-on reset ends, and BIFUR, MGMT_SEL and DBGEN are sampled. -/
  | vauxPorEnd (bifur : Bool) (mgmtSel : Bool) (dbgen : Bool)
  /-- VAUX_LOSS (R698): VAUX falls below its limit with VIN present, which starts a flush and a restart. -/
  | vauxLoss
  /-- ISOLATION_SWITCH_ON (R717): 1 ms after VINSNS is at 2.6 V with VAUX reset ended, ISO_G turns on and slews the VIN node. -/
  | isolationSwitchOn
  /-- VIN_IN_RANGE (R689): The VIN node reaches range with VAUX present, and stage 1 begins. -/
  | vinInRange
  /-- STARTUP_STAGE_COMPLETE (R689): A start-up stage ends, and the next stage begins, or the failure enters recovery mode. -/
  | startupStageComplete (res : StageRes)
  /-- FWS_PROGRAM (R684): FWS_CMD OP 0 programs LEN bytes from FWS_BUF into the NOR. -/
  | fwsProgram (a : Agent) (v : Nat)
  /-- FWS_ERASE (R685): FWS_CMD OP 1 erases a sector under the pending-flag procedure. -/
  | fwsErase (a : Agent) (v : Nat)
  /-- FWS_READ (R683): FWS_CMD OP 2 reads LEN bytes into FWS_BUF, refused in a busy bank. -/
  | fwsRead (a : Agent) (v : Nat)
  /-- FWS_OPERATION_DONE (R684): A NOR program or erase ends, and RESULT is set. -/
  | fwsOperationDone (ok : Bool)
  /-- CORE_READ_BUSY_BANK (R683): A core read of a busy NOR bank bus-faults, and the address is recorded in FWS_FAULT. -/
  | coreReadBusyBank (core : Nat) (addr : Nat)
  /-- REBOOT (R697): FWS_CTL.REBOOT with KEY 0xB0 in recovery mode restarts the part at stage 1. -/
  | reboot (a : Agent) (key : Nat)
  /-- WATCHDOG_EXPIRY (R698): A core watchdog unserviced for 1 s causes a reset acting as an NVM subsystem reset. -/
  | watchdogExpiry (core : Nat) (cause : Nat)
  /-- HOT_ACTIVATION_QUIESCED (R701): Every core-held command completes, the trial boot record is written and the other cores halt. -/
  | hotActivationQuiesced
  /-- HOT_ACTIVATION_TIMEOUT (R702): Core-held commands not completed within 400 ms abandon the activation with Firmware Activation Prohibited. -/
  | hotActivationTimeout
  /-- ACTIVATION_IMAGE_LOADED (R701): Core 0 has copied the slot into SRAM and checked its digest, or restores the previous slot on failure. -/
  | activationImageLoaded (ok : Bool)
  /-- ACTIVATION_COMPLETE (R701): The new firmware adopts the running state, confirms its boot record and fetch resumes. -/
  | activationComplete (ok : Bool) (pause : Nat)
  /-- JUNCTION_TEMP_SAMPLE (R742): The hottest junction sensor crossing the warning or critical temperature raises an event. -/
  | junctionTempSample (t : Int)
  /-- THERMAL_TRIP (R742): After 1 ms at the trip temperature, THERMTRIP_N asserts, ISO_G opens and a flush runs on bank power. -/
  | thermalTrip
  /-- THERMAL_COOLDOWN (R742): The junction falls below critical less 10 °C, and the part restarts and releases THERMTRIP_N. -/
  | thermalCooldown
  /-- LINK_TRAINING_PHASE_TIMEOUT (R347): A training phase that has not met its pass condition within its maximum time ends the attempt, repeats the phase, or counts the lane as failed after ATTEMPTS. -/
  | linkTrainingPhaseTimeout (link : Nat) (lane : Nat)
  /-- TEST_ACCESS_PORT_ACCESS (R703): A use of the test access port, enabled by DBGEN, opens debug route 2 and at first use in a power cycle raises event 0x007, code 0. -/
  | testAccessPortAccess (addr : Nat) (len : Nat)
  /-- CRYSTAL_FAULT (R666): The 25 MHz crystal clock fails, and the always-on clock source raises its critical crystal-fault event. -/
  | crystalFault (cause : Nat)
  /-- MANAGEMENT_ENDPOINT_RESET (R660): The management endpoint is reset, which rolls back a configuration transaction it owns in STATE 1 or 2 and raises event 0x005, code 0. -/
  | managementEndpointReset (cause : Nat)
  /-- FUNCTION_ENABLE (R699): Host software sets Bus Master Enable, returns a function to D0 or sets VF Enable, so that a disabled function can fetch and write again. -/
  | functionEnable (fn : Nat) (cause : FnCause)
  /-- INTERRUPT_COALESCING_TIMER (R92): The aggregation time of the Interrupt Coalescing feature expires, and the pending MSI-X message of a completion queue is sent. -/
  | interruptCoalescingTimer (fn : Nat) (cqid : Nat)
  /-- IDE_STREAM_INSECURE (R579): An IDE stream enters the Insecure state on a link integrity failure, and the IDE-state event is raised while traffic continues. -/
  | ideStreamInsecure (pf : Nat) (stream : Nat) (cause : Nat)
  /-- BANK_ABOVE_V_FLOOR (R244): While charging, the hold-up bank voltage rises past V_FLOOR, and HLD_STAT.STATE moves from UNCHARGED to CHARGING. -/
  | bankAboveVFloor (vbank : Nat)
  /-- DYNAMIC_ADDRESS_ASSIGNMENT (R733): An I3C ENTDAA or SETDASA from the bus controller assigns the endpoint its dynamic address. -/
  | dynamicAddressAssignment (addr : Nat) (setdasa : Bool)
  /-- FWS_OPERATION_TIMEOUT (R684): A NOR program not finished within 10 ms, or an erase not finished within 3 s, ends with FWS_RESULT 0x04. -/
  | fwsOperationTimeout
  deriving DecidableEq, Repr

end Sys2Proof
end

