-- ==== Sys2Proof/Decode.lean ====
section
/-!
DEFINITION. The commands that the opcode table's bits spell. No row of the table gives bits: the part takes its commands as register accesses,
queue entries, frames, pins and timers, never as instruction words.
-/

namespace Sys2Proof

/-- The command that a word spells: none, since no row of the table has bits. -/
def decodeTableWord (_nbits _w : Nat) : Option Instr := none

end Sys2Proof
end

