-- ==== Sys2Proof/Config.lean ====
section
/-!
DEFINITION. What the spec leaves open: values that the machine produces and the spec does not fix are constants here with
no body, so that nothing can be proved of them but what holds of every value. Each is named in the assumption log.
-/

namespace Sys2Proof.Config

/-- A fresh value that the spec does not fix, as a number, by the count of values drawn. -/
opaque freeNat : Nat → Nat

/-- Random bits of the vault's generator (keys, nonces, challenges), by the count of values drawn. -/
opaque random : Nat → Nat

/-- The public value of an ephemeral P-384 key pair, by its private value (97 bytes as a number). -/
opaque p384Public : Nat → Nat

/-- The P-384 shared secret of a private value and a public value. -/
opaque p384Shared : Nat → Nat → Nat

/-- An ECDSA P-384 signature (96 bytes as a number) by the device identity key, over a digest. -/
opaque ecdsaSign : Nat → Nat → Nat

/-- Whether a P-384 signature over a digest verifies under a public key: the key, the signature, the digest. -/
opaque ecdsaVerify : Nat → Nat → Nat → Bool

/-- The SHA-384 digest that the fuses hold for a key slot (R747). -/
opaque keyDigest : Nat → Nat

/-- The device's slot 0 certificate chain, and the other bytes of Identify data that the configuration image supplies. -/
opaque certChain : Nat → Nat

/-- Digests that the spec names and does not give: 1 the boot ROM, 2 the delivered firmware's body, 3 the sequencers' microcode, 4 the
configuration image in use, 5 the certificate chain (R576). -/
opaque measured : Nat → Nat → Nat

/-- A quotient with no defined result: the least-squares line through samples that do not fix one. -/
opaque degenerateFit : Nat → Int

/-- 64 × ln of a quotient of counts, as the front end computes it: the spec gives the real number and no rounding (R394). -/
opaque log64 : Nat → Nat → Int

/-- A share of a die set that has nothing to share: its divisor is 0. -/
opaque undefinedShare : Nat → Nat

/-- MiB of data units that one flush area holds, by the dies in service, SYSBLK and JBLK: the spec does not give the area's size. -/
opaque flushCapacity : List Nat → Nat → Nat → Nat

/-- The word of a register at an offset in a board maker's configuration image, by the image's identity: the spec fixes no layout of the
image's body, and no value of the fields that the default image leaves to the board maker (R746). Image 0 is the delivered one. -/
opaque imageWord : Nat → Nat → Nat

/-- The parity of a codeword, by its code band and its information part: the parity-check matrices are fixed in silicon (R354). -/
opaque ldpcParity : Nat → Nat → Nat

/-- Whether an image meets R682. -/
opaque imageValid : Nat → Bool

/-- The entries of an image's tables, by image, table and index: 0 die descriptors, 1 code band
tables, 2 the factory bad-block list, 3 what else the spec lets an image supply (the flexible shares of R78, the volatile write cache of R86, the identities of R73 and R86, the reference clocks of R730, the guards of R87), 4 the
globally unique identifiers of namespaces, 5 the VPD and the endpoint's UUID and fixed address, 6 the journal region in DRAM. -/
opaque imageTable : Nat → Nat → Nat → Nat

/-- The bits above bit 0 of a supported command's entry in the Commands Supported and Effects log, which the spec does not give. -/
opaque commandEffects : Nat → Nat

end Sys2Proof.Config
end

