-- ==== Sys2Proof/Machine/Map.lean ====
section
/-!
DEFINITION. The containers of the state: a finite map as a list of (key, value) pairs with keys strictly rising, and
the bit-field helpers that the register operations use.
-/

namespace Sys2Proof.Machine

/-- A finite map: (key, value) pairs, keys strictly rising. -/
abbrev AMap (α : Type) := List (Nat × α)

/-- The value listed at a key. -/
def AMap.get? {α : Type} : AMap α → Nat → Option α
  | [], _ => none
  | (k, v) :: m, q => if k = q then some v else AMap.get? m q

/-- The value listed at a key, or a default. -/
def AMap.getD {α : Type} (m : AMap α) (q : Nat) (d : α) : α := (m.get? q).getD d

/-- The map with a value at a key. -/
def AMap.ins {α : Type} : AMap α → Nat → α → AMap α
  | [], q, x => [(q, x)]
  | (k, v) :: m, q, x =>
    if q < k then (q, x) :: (k, v) :: m
    else if q = k then (q, x) :: m
    else (k, v) :: AMap.ins m q x

/-- The map with nothing at a key. -/
def AMap.del {α : Type} : AMap α → Nat → AMap α
  | [], _ => []
  | (k, v) :: m, q => if k = q then AMap.del m q else (k, v) :: AMap.del m q

/-- Change the value at a key, from its default where none is listed. -/
def AMap.upd {α : Type} (m : AMap α) (q : Nat) (d : α) (f : α → α) : AMap α := m.ins q (f (m.getD q d))

/-- Change the value at a key, if one is listed. -/
def AMap.adj {α : Type} (m : AMap α) (q : Nat) (f : α → α) : AMap α :=
  match m.get? q with
  | some v => m.ins q (f v)
  | none => m

/-- The keys strictly rise. -/
def AMap.sorted {α : Type} : AMap α → Bool
  | [] => true
  | [_] => true
  | (k, _) :: (k', v') :: m => decide (k < k') && AMap.sorted ((k', v') :: m)

/-- The entries whose key and value satisfy a test. -/
def AMap.keep {α : Type} (m : AMap α) (p : Nat → α → Bool) : AMap α := m.filter fun e => p e.1 e.2

/-- Change every value. -/
def AMap.mapV {α β : Type} (m : AMap α) (f : Nat → α → β) : AMap β := m.map fun e => (e.1, f e.1 e.2)

/-- Does any entry satisfy a test? -/
def AMap.some? {α : Type} (m : AMap α) (p : Nat → α → Bool) : Bool := m.any fun e => p e.1 e.2

/-- Bits [hi:lo] of a word, as a number. -/
def bits (v : Nat) (hi lo : Nat) : Nat := (v >>> lo) % 2 ^ (hi + 1 - lo)

/-- The mask with ones in bits [hi:lo]. -/
def ones (hi lo : Nat) : Nat := (2 ^ (hi + 1 - lo) - 1) <<< lo

/-- A word with bits [hi:lo] replaced by the low bits of a number. -/
def putBits (v : Nat) (hi lo x : Nat) : Nat :=
  (v - (bits v hi lo) * 2 ^ lo) + (x % 2 ^ (hi + 1 - lo)) * 2 ^ lo

/-- A number as n little-endian bytes (R5). -/
def toBytes (n v : Nat) : List Byte := (List.range n).map fun i => BitVec.ofNat 8 (v >>> (8 * i))

/-- The number that little-endian bytes hold (R5). -/
def ofBytes : List Byte → Nat
  | [] => 0
  | b :: bs => b.toNat + 256 * ofBytes bs

/-- A Bool as 0 or 1. -/
def b2n (b : Bool) : Nat := if b then 1 else 0

/-- A number cut off at the largest value of a width. -/
def sat (w n : Nat) : Nat := if n < 2 ^ w then n else 2 ^ w - 1

/-- An integer as one byte in two's complement. -/
def int8 (t : Int) : Nat := (t % 256).toNat

/-- A page cut or filled up with zeros to a size. -/
def padTo (n : Nat) (b : List Byte) : List Byte := b.take n ++ List.replicate (n - b.length) 0

/-- The smallest n with n · d ≥ a. -/
def ceilDiv (a d : Nat) : Nat := (a + d - 1) / d

/-- The element at a place with a default. -/
def nth {α : Type} (l : List α) (i : Nat) (d : α) : α := l.getD i d

end Sys2Proof.Machine
end

