-- ==== Sys2Proof/Machine/StAlways.lean ====
section
/-!
DEFINITION. The state of the always-on island: the timer, the straps and supplies.
-/

namespace Sys2Proof.Machine

structure AlwaysOn where
  /-- GLB_AOTIME, in ns. -/
  time : Nat
  bifur : Bool
  deriving DecidableEq, Repr

def AlwaysOn.reset : AlwaysOn := ⟨0, false⟩

end Sys2Proof.Machine
end

