-- ==== Sys2Proof/Machine/Memory.lean ====
section
/-!
DEFINITION. Addressed memory as (address, byte) pairs in one canonical form: addresses strictly rising, and no entry equal to what an
unlisted address reads as (for DRAM 0, by the zero fill of R618; for the NOR 0xFF, an erased byte, R685).
-/

namespace Sys2Proof.Machine

/-- A memory: (address, byte) pairs. -/
abbrev Mem := List Host.Cell

/-- The byte at an address. -/
def Mem.read (d : Byte) : Mem → Nat → Byte
  | [], _ => d
  | (k, v) :: m, a => if k = a then v else Mem.read d m a

/-- The memory with a byte written; writing what an unlisted address reads as removes the entry. -/
def Mem.write (d : Byte) : Mem → Nat → Byte → Mem
  | [], a, b => if b = d then [] else [(a, b)]
  | (k, v) :: m, a, b =>
    if a < k then (if b = d then (k, v) :: m else (a, b) :: (k, v) :: m)
    else if a = k then (if b = d then m else (a, b) :: m)
    else (k, v) :: Mem.write d m a b

/-- Every address listed is at least a bound, in strictly rising order, and no listed byte is the default. -/
def Mem.wfFrom (d : Byte) : Nat → Mem → Bool
  | _, [] => true
  | lo, (k, v) :: m => decide (lo ≤ k) && decide (v ≠ d) && Mem.wfFrom d (k + 1) m

/-- The canonical form. -/
def Mem.wf (d : Byte) (m : Mem) : Bool := Mem.wfFrom d 0 m

/-- Write the low n bytes of a number from an address on, the least significant byte first (R5). -/
def Mem.writeLE (d : Byte) : Nat → Mem → Nat → Nat → Mem
  | 0, m, _, _ => m
  | n + 1, m, a, v => Mem.writeLE d n (Mem.write d m a (BitVec.ofNat 8 v)) (a + 1) (v / 256)

/-- Read n bytes from an address on as a number, the least significant byte first (R5). -/
def Mem.readLE (d : Byte) : Nat → Mem → Nat → Nat
  | 0, _, _ => 0
  | n + 1, m, a => (Mem.read d m a).toNat + 256 * Mem.readLE d n m (a + 1)

/-- Write bytes from an address on. -/
def Mem.writeBytes (d : Byte) : Mem → Nat → List Byte → Mem
  | m, _, [] => m
  | m, a, b :: bs => Mem.writeBytes d (Mem.write d m a b) (a + 1) bs

/-- The n bytes from an address on. -/
def Mem.bytes (d : Byte) (m : Mem) (a n : Nat) : List Byte := (List.range n).map fun i => Mem.read d m (a + i)

/-- Set every byte of a range to the default. -/
def Mem.clear (m : Mem) (a n : Nat) : Mem := m.filter fun c => !(a ≤ c.1 && c.1 < a + n)

end Sys2Proof.Machine
end

