-- ==== Sys2Proof/Machine/StBoot.lean ====
section
/-!
DEFINITION. The state of start-up, of the firmware store, of hot activation, of the thermal limits and of the management endpoint
(spec/14_setup_window_events.md to spec/16_package_electrical.md).
-/

namespace Sys2Proof.Machine

/-- A configuration image copy as delivered or as the controller saved it: its sequence number, the image it was made from, and the words
of the registers that it changes, by offset (R658, R681). -/
structure CfgCopy where
  seq : Nat
  base : Nat
  words : AMap Word64
  deriving DecidableEq, Repr

/-- A boot record (R688). -/
structure BootRec where
  seq : Nat
  pref : Nat
  trial : Nat
  deriving DecidableEq, Repr

/-- A running FWS operation (R683 to R685). -/
structure FwsOp where
  op : Nat
  addr : Nat
  len : Nat
  deriving DecidableEq, Repr

/-- Where a hot activation stands (R701). -/
inductive ActPhase where
  | quiescing | loading | adopting
  deriving DecidableEq, Repr

/-- A hot activation: the Commit that asked for it, and the slot. -/
structure Activation where
  ref : CmdRef
  slot : Nat
  phase : ActPhase
  began : Nat
  deriving DecidableEq, Repr

/-- Start-up and the firmware store. -/
structure Boot where
  /-- GLB_STAT.STAGE: 0 before stage 1; 9 once stage 8 has ended. -/
  stage : Nat
  recov : Bool
  /-- The reset type of this start-up (R698, R748), and when stage 1 began. -/
  rtype : Nat
  began : Nat
  /-- A watchdog reset to report at the next start: (core, cause). VAUX was lost with VIN present. -/
  wdog : Option (Nat × Nat)
  vauxLost : Bool
  /-- The NOR: bytes programmed since delivery; slot 1 and copy A still as delivered. -/
  nor : Mem
  factory : Bool
  /-- The two copies; none where a copy's region holds only what the NOR lists. -/
  cfgA : Option CfgCopy
  cfgB : Option CfgCopy
  recs : List BootRec
  /-- Which boot record sector is active: 0 BR0, 1 BR1; it holds the records listed. -/
  brActive : Nat
  /-- The used words of flag sectors F0 and F1, oldest first, and which of the two is active (R685, R686). -/
  f0 : List Nat
  f1 : List Nat
  fActive : Nat
  op : Option FwsOp
  result : Nat
  pendflag : Nat
  fault : Option Nat
  faultValid : Bool
  /-- FWS_SLOT. -/
  run : Nat
  pref : Nat
  trial : Bool
  fallback : Bool
  runSvn : Nat
  /-- The downloaded image, in firmware-owned DRAM. -/
  image : Mem
  imageLen : Nat
  act : Option Activation
  deriving DecidableEq, Repr

/-- Supplies, pins, clocks and temperature. -/
structure Board where
  vaux : Bool
  /-- VSYS in range; the isolation switch on; the VIN node in range. -/
  vsys : Bool
  iso : Bool
  vin : Bool
  flushN : Bool
  thermtripN : Bool
  /-- Straps (R715). -/
  mgmtSel : Bool
  dbgen : Bool
  /-- Junction temperature last sampled, in °C, and whether warning and critical stand (R742). -/
  temp : Int
  warn : Bool
  crit : Bool
  tripped : Bool
  /-- Debug routes used in this power cycle, and the crystal fault. -/
  dbg1 : Bool
  dbg2 : Bool
  crystal : Bool
  deriving DecidableEq, Repr

/-- The management endpoint (R676 to R679, R732, R733). -/
structure Mgmt where
  eid : Nat
  /-- Dynamic I3C address. -/
  addr : Option Nat
  /-- SMBus frequency code, and MCTP unit size, of port 0. -/
  freq : Nat
  unit : Nat
  /-- Health status change flags (R679), as the Composite Controller Status has them. -/
  changes : Nat
  /-- Bytes of the VPD that have been written since delivery; the others are those of the board maker's image. -/
  vpd : AMap Byte
  /-- A Pause control primitive is in force (R677). -/
  paused : Bool
  deriving DecidableEq, Repr

def Boot.reset : Boot :=
  { stage := 0, recov := false, rtype := 1, began := 0, wdog := none, vauxLost := false, nor := [], factory := true
    cfgA := some ⟨1, 0, []⟩, cfgB := none, recs := [], brActive := 0, f0 := [], f1 := [], fActive := 0, op := none, result := 0, pendflag := 0, fault := none
    faultValid := false, run := 0, pref := 0, trial := false, fallback := false, runSvn := 0, image := [], imageLen := 0, act := none }

def Board.reset : Board :=
  { vaux := false, vsys := false, iso := false, vin := false, flushN := false, thermtripN := false, mgmtSel := false
    dbgen := false, temp := 25, warn := false, crit := false, tripped := false, dbg1 := false, dbg2 := false, crystal := false }

def Mgmt.reset : Mgmt := ⟨0, none, 1, 64, 0, [], false⟩

end Sys2Proof.Machine
end

