-- ==== Sys2Proof/Machine/StBuffer.lean ====
section
/-!
DEFINITION. The state of the buffer pool manager and of the capture rings (spec/04_buffers_capture.md).
-/

namespace Sys2Proof.Machine

/-- Who a buffer request is for. -/
inductive BufWho where
  | cmd (r : CmdRef)
  /-- A 1 MiB span of a capture ring (R224), and the copy of a marker that its stream stores (R202). -/
  | span (ring : Nat)
  | marker (ring : Nat)
  /-- The copy of a journal record, by record sequence number (R202). -/
  | record (seq : Nat)
  deriving DecidableEq, Repr

/-- A request waiting for a pool (R203). -/
structure BufReq where
  pool : Nat
  owner : Nat
  who : BufWho
  deriving DecidableEq, Repr

/-- A granule's tag (R208). -/
structure Tag where
  owner : Nat
  named : Bool
  count : Nat
  deriving DecidableEq, Repr

/-- One pool: its free stack as the granules freed and not lent again (newest first) above those never lent, and its
level (R201, R204). -/
structure Pool where
  freed : List Nat
  virgin : Nat
  level : Nat
  deriving DecidableEq, Repr

/-- The buffer pool manager. -/
structure Bpm where
  pools : AMap Pool
  /-- Tags of lent granules by pool × 2^22 + granule; an unlisted granule is free (owner 0x7FF). -/
  tags : AMap Tag
  /-- Waiting requests in arrival order. -/
  waits : List BufReq
  /-- Engines waiting to take a reference on a granule at count 15 (R213). -/
  refWaits : List (Nat × Nat)
  deriving DecidableEq, Repr

/-- A complete or partial unit of a ring's zone stream. -/
structure CapUnit where
  data : Block
  /-- Ring offset just past the unit's last ring byte (R226). -/
  roff : Nat
  /-- Record ends that this unit completes: ring offsets E (R218). -/
  recs : List Nat
  /-- Zone number, zone entry and zone LBA offset of the unit. -/
  zone : Nat
  entry : Nat
  zoff : Nat
  /-- The close records of the stripes that hold it, once it is on flash (R227). -/
  closes : List Nat
  deriving DecidableEq, Repr

/-- A zone of a ring's queue. -/
structure CapZone where
  zone : Nat
  entry : Nat
  deriving DecidableEq, Repr

/-- The states of a capture ring (CAP_STAT.STATE). -/
inductive CapState where
  | idle | armed | nozone | fault | draining
  deriving DecidableEq, Repr

/-- A capture ring. -/
structure CapRing where
  st : CapState
  fault : Nat
  err : Nat
  armId : Nat
  /-- Arrived offset A, credit limit and acknowledged ring offset. -/
  arrived : Nat
  crlim : Nat
  ack : Nat
  /-- Blocks arrived at or beyond A, by ring offset / 64. -/
  blocks : AMap (BitVec 512)
  /-- The record in progress: its start S, LEN, SEQ and FLUSH; none at a record boundary. -/
  recStart : Nat
  inRec : Bool
  recLen : Nat
  recFlush : Bool
  lastSeq : Nat
  anySeq : Bool
  /-- A truncation marker has been stored and no continuation yet (R237). -/
  truncated : Bool
  /-- The unit of the stream being filled: 64-byte pieces, newest first, and the ring offset reached. -/
  cur : List (BitVec 512)
  curRecs : List Nat
  /-- Complete units awaiting acceptance, oldest first (R226). -/
  units : List CapUnit
  /-- Units that hold a CSN and wait for credit or media, oldest first: the unit and its CSN. -/
  inflight : List (CapUnit × Nat)
  /-- The zone queue, current zone first, and the stream offset within the current zone in units (R228, R229). -/
  zq : List CapZone
  /-- The zone that the stream is in, and whether it ends at the next unit boundary (R241). -/
  strm : Option CapZone
  cut : Bool
  zpos : Nat
  ackb : Nat
  zonesUsed : Nat
  zqLow : Bool
  /-- Records accepted in this arming, and since power-on. -/
  recArm : Nat
  records : Nat
  trunc : Nat
  cont : Nat
  seqgap : Nat
  discard : Nat
  /-- 1 MiB spans granted: (span index, granule), oldest first (R224). -/
  spans : List (Nat × Nat)
  /-- The granules that hold its markers until their unit is accepted (R202). -/
  marks : List (Nat × Nat)
  /-- Reason of the release in progress (R240, R241). -/
  release : Nat
  /-- The end marker of a release has been stored (R240). -/
  ended : Bool
  /-- The namespace in force when the ring was armed. -/
  nsix : Nat
  deriving DecidableEq, Repr

/-- What the end marker of a zone stream that power cut off says of its ring (R222, R223, R241). -/
structure CapEnd where
  ring : Nat
  armId : Nat
  roff : Nat
  seq : Nat
  recs : Nat
  deriving DecidableEq, Repr

/-- The capture island. -/
structure Capture where
  rings : AMap CapRing
  /-- The streams that the last loss of power cut off, by zone entry. -/
  ends : AMap CapEnd
  deriving DecidableEq, Repr

def Pool.reset : Pool := ⟨[], 0, 0⟩

def Bpm.reset : Bpm := ⟨[], [], [], []⟩

def CapRing.reset : CapRing :=
  { st := .idle, fault := 0, err := 0, armId := 0, arrived := 0, crlim := 0, ack := 0, blocks := [], recStart := 0,
    inRec := false, recLen := 0, recFlush := false, lastSeq := 0, anySeq := false, truncated := false, cur := [],
    curRecs := [], units := [], inflight := [], zq := [], strm := none, cut := false, zpos := 0, ackb := 0, zonesUsed := 0,
    zqLow := false, recArm := 0, records := 0, trunc := 0, cont := 0, seqgap := 0, discard := 0, spans := [],
    marks := [], release := 0, ended := false, nsix := 0 }

def Capture.reset : Capture := ⟨[], []⟩

end Sys2Proof.Machine
end

