-- ==== Sys2Proof/Machine/StDram.lean ====
section
/-!
DEFINITION. The state of the DRAM controller, of its training helpers, and of the scrubber (spec/12_dram_memory_integrity.md).
-/

namespace Sys2Proof.Machine

/-- A write in a sub-channel's write queue; seq counts the sub-channel's requests in arrival order. -/
structure WqEntry where
  addr : Nat
  data : Nat
  at_ : Nat
  seq : Nat
  deriving DecidableEq, Repr

/-- A read in a sub-channel's read queue, with the symbols that it will find in error. -/
structure RqEntry where
  addr : Nat
  sym : DramSyms
  seq : Nat
  deriving DecidableEq, Repr

/-- Why a bank is in in-order mode: a read of number seq that arrived behind a write of its row, until every write of the bank before it is issued
(R593); or a queued read of number seq whose row a write met, until it is issued (R594). -/
structure OrderHold where
  bank : Nat
  read : Bool
  seq : Nat
  deriving DecidableEq, Repr

/-- A bank: its open row, its activation-count table of R600 in entry order, and its rolling activation count (R602). -/
structure DramBank where
  row : Option Nat
  acts : List (Nat × Nat)
  raa : Nat
  deriving DecidableEq, Repr

/-- A sub-channel. -/
structure SubChan where
  /-- Oldest first. -/
  wq : List WqEntry
  rq : List RqEntry
  /-- Requests so far. -/
  next : Nat
  /-- What holds banks in in-order mode (R593, R594). -/
  holds : List OrderHold
  /-- A drain is running (R591, R592). -/
  draining : Bool
  /-- Banks by rank × 64 + bank group × 8 + bank. -/
  banks : AMap DramBank
  /-- Corrections attributed to each device within the window, newest first: (device, time) (R607). -/
  attrib : List (Nat × Nat)
  /-- Refreshes done, and refreshes postponed (R598), by rank. -/
  refreshed : AMap Nat
  postponed : AMap Nat
  deriving DecidableEq, Repr

/-- A DRAM channel. -/
structure Chan where
  trained : Bool
  sub0 : SubChan
  sub1 : SubChan
  /-- Counters of DRM_CH_CNT. -/
  cnt : AMap Nat
  /-- Corrections in the present second, the second, and those of the one before (the corrected event). -/
  ceSec : Nat
  ceNow : Nat
  cePrev : Nat
  /-- The refresh rate that MR4 reported, as a multiplier code. -/
  mr4 : Nat
  /-- A training operation is running; its result registers. -/
  busy : Bool
  fail : Nat
  first : Option Nat
  /-- Mode registers by sub × 2^20 + rank × 2^16 + device × 256 + address; the last value read. -/
  mr : AMap Nat
  rdata : Nat
  /-- Delays and references by kind × 256 + sub × 128 + rank × 64 + lane. -/
  dly : AMap Nat
  /-- ZQ calibrations and oscillator runs so far. -/
  zq : Nat
  osc : Nat
  deriving DecidableEq, Repr

/-- A scrub pass. -/
structure Scrub where
  busy : Bool
  aborted : Bool
  result : Nat
  sram : Bool
  start : Nat
  len : Nat
  began : Nat
  progress : Nat
  /-- The summary record of R625, 256 bytes. -/
  rec_ : List Byte
  deriving DecidableEq, Repr

/-- DRAM, SRAM counts and the scrubber. -/
structure Dram where
  mem : Mem
  /-- Granules that are uncorrectable until written whole (R610). -/
  bad : List Nat
  chans : AMap Chan
  /-- SRAM: the 32-bit words whose valid bit is set, by word number (R612); those of the stripe-journal SRAM follow the 32 banks. -/
  sram : AMap (BitVec 32)
  /-- The stored bits in error of an SRAM byte, of its 8 data and 5 check bits, by offset (R611). -/
  sramErr : AMap Nat
  /-- Corrections in the present second, the second, and those of the one before (the SRAM corrected event). -/
  sramSec : Nat
  sramNow : Nat
  sramPrev : Nat
  /-- MEM_SRAM_CNT, MEM_SRAM_LASTUE. -/
  sramUe : Nat
  sramCe : Nat
  sramLast : Option Nat
  scrub : Scrub
  /-- Refresh postponement is disabled since a flush (R596). -/
  flushRefresh : Bool
  deriving DecidableEq, Repr

def SubChan.reset : SubChan :=
  { wq := [], rq := [], next := 0, holds := [], draining := false, banks := [], attrib := [], refreshed := [], postponed := [] }

def Chan.reset : Chan :=
  { trained := false, sub0 := SubChan.reset, sub1 := SubChan.reset, cnt := [], ceSec := 0, ceNow := 0, cePrev := 0, mr4 := 0, busy := false,
    fail := 0, first := none, mr := [], rdata := 0, dly := [], zq := 0, osc := 0 }

def Scrub.reset : Scrub := ⟨false, false, 0, false, 0, 0, 0, 0, []⟩

def Dram.reset : Dram :=
  { mem := [], bad := [], chans := [], sram := [], sramErr := [], sramSec := 0, sramNow := 0, sramPrev := 0, sramUe := 0, sramCe := 0, sramLast := none
    scrub := Scrub.reset, flushRefresh := false }

end Sys2Proof.Machine
end

