-- ==== Sys2Proof/Machine/StHold.lean ====
section
/-!
DEFINITION. The state of the hold-up controller, of the Schuss flush and of the Stripe Intent Journal
(spec/05_holdup_journal.md).
-/

namespace Sys2Proof.Machine

/-- The states of the hold-up bank (HLD_STAT.STATE). -/
inductive Bank where
  | uncharged | charging | ready | testing | flushing
  deriving DecidableEq, Repr

/-- Where an energy test stands (R247). -/
inductive TestPhase where
  | none
  /-- Waiting for READY or for reserved credit to fit b_test. -/
  | waiting
  /-- The load is connected. -/
  | loaded
  /-- The load is off and the bank recharges. -/
  | recharging
  deriving DecidableEq, Repr

/-- Who waits for Holdup Budget credit (R250, R251). -/
inductive CreditWho where
  | write (r : CmdRef)
  | capture (ring : Nat)
  | record (seq : Nat)
  deriving DecidableEq, Repr

structure CreditReq where
  who : CreditWho
  bytes : Nat
  deriving DecidableEq, Repr

/-- The body of a journal record (R270). -/
inductive JBody where
  | stripeOpen (stripe hi : Nat)
  | stripeParity (stripe mask pstate : Nat)
  | stripeClose (stripe members hi : Nat)
  | zone (entry action : Nat) (zs : Nat) (wpoff zcap bindCsn : Nat) (members : List (Nat × Nat))
  | mapChange (nsix kind lba nlb first : Nat)
  | superBind (handle group : Nat) (members : List (Nat × Nat))
  | eraseIntent (die block reason : Nat)
  | eraseDone (die block : Nat)
  | memberReplace (setid m die block : Nat)
  | namespaceRec (nsix action kind lbaf nph nsze nsid : Nat)
  | ceiling
  | checkpoint (kind loc : Nat)
  deriving DecidableEq, Repr

/-- A journal record (R269). -/
structure JRec where
  seq : Nat
  tenant : Nat
  csn : Nat
  body : JBody
  /-- Holds credit (R250), or waits for it. -/
  credit : Bool
  /-- On both journal copies. -/
  onBoth : Bool
  /-- The page it was programmed in, if any. -/
  page : Option Nat
  /-- The granule of its copy, once lent (R202). -/
  buf : Option (Nat × Nat)
  deriving DecidableEq, Repr

/-- A data unit of a flush image with its index entry (R263). -/
structure ImageUnit where
  csn : Nat
  tenant : Nat
  nsix : Nat
  kind : Nat
  lba : Nat
  placed : Bool
  stripe : Nat
  pos : Nat
  /-- The reclaim group as R263 names it: a handle number, or 16 + lifetime class. -/
  group : Nat
  /-- The stored data and covered part. -/
  data : Block
  cov : BitVec 384
  deriving DecidableEq, Repr

/-- A journal page: its page sequence number, its first record and the slots it uses (R273, R274). -/
structure JPage where
  seq : Nat
  first : Nat
  used : Nat
  /-- Its last record could not be read from either DRAM image: it is void at recovery (R615). -/
  void : Bool
  deriving DecidableEq, Repr

/-- A flush image (R260 to R263). -/
structure Image where
  area : Nat
  seq : Nat
  ceiling : Nat
  time : Nat
  budget : Nat
  units : List ImageUnit
  /-- The journal tail: its pages, and their records (R260). -/
  pages : List JPage
  tail : List JRec
  /-- The flush packages, in ascending order (R261). -/
  pkgs : List Nat
  /-- How many of its units are on flash, in the order of R260: the header, the index units, the pages of the journal tail, and the data units;
  and whether the commit record is too. -/
  part : Nat
  committed : Bool
  /-- From the detection of the loss to the commit record, in µs. -/
  took : Nat
  deriving DecidableEq, Repr

/-- Where a flush stands (R258 to R264). -/
inductive FlushPhase where
  | none | draining | writing | committed
  deriving DecidableEq, Repr

/-- The hold-up controller. -/
structure Holdup where
  bank : Bank
  /-- Bank voltage in units of 10 mV. -/
  vbank : Nat
  /-- The bank has been READY since power-on (R246). -/
  wasReady : Bool
  test : TestPhase
  again : Bool
  v0 : Nat
  v1 : Nat
  tns : Nat
  /-- Capacitance of the last passing test, and of the last test (µF), its ESR (mΩ) and result (0 none, 1 pass, 2 fail). -/
  cPass : Nat
  cuf : Nat
  esr : Nat
  result : Nat
  testEnd : Nat
  /-- B and HLD_BUDGET.LIMIT, in bytes. -/
  budget : Nat
  limit : Nat
  /-- Bytes reserved (HLD_RESV), and the requests in arrival order (R251). -/
  resv : Nat
  queue : List CreditReq
  wt : Bool
  wtCause : Nat
  /-- VIN below threshold: the lowest voltage and the time it fell (R257). -/
  vinLow : Option Nat
  flush : FlushPhase
  /-- What the flush follows: the reset type of R748. -/
  flushCause : Nat
  imgSeq : Nat
  /-- The two flush areas. -/
  area0 : Option Image
  area1 : Option Image
  /-- The last recovery: units restored, lost, and whether an image was incomplete (STR_LASTFL). -/
  lastUnits : Nat
  lastLost : Nat
  incomplete : Bool
  deriving DecidableEq, Repr

/-- The Stripe Intent Journal. -/
structure Journal where
  /-- Records from the newest checkpoint records onward, oldest first. -/
  recs : List JRec
  nextSeq : Nat
  /-- The open page: sequence number of its first record and the time of it (R273). -/
  openFirst : Option Nat
  openTime : Nat
  pages : List JPage
  /-- Pages on both copies that are still kept (R276), and the last page sequence number on both. -/
  kept : List JPage
  pseq : Nat
  /-- The CSN counter and the ceiling (R24, R25), and the ceiling that a record is making durable. -/
  csn : Nat
  ceiling : Nat
  ceilPend : Option Nat
  /-- Free blocks of each copy, and whether each copy is complete (STR_JSTAT). -/
  freeA : Nat
  freeB : Nat
  okA : Bool
  okB : Bool
  /-- A copy is being re-established, or its new package is not yet saved (R277). -/
  reest : Bool
  saveOwed : Bool
  deriving DecidableEq, Repr

def Holdup.reset : Holdup :=
  { bank := .uncharged, vbank := 0, wasReady := false, test := .none, again := false, v0 := 0, v1 := 0, tns := 0,
    cPass := 0, cuf := 0, esr := 0, result := 0, testEnd := 0, budget := 0, limit := 0, resv := 0, queue := [], wt := true,
    wtCause := 4, vinLow := none, flush := .none, flushCause := 0, imgSeq := 0, area0 := none,
    area1 := none, lastUnits := 0, lastLost := 0, incomplete := false }

def Journal.reset : Journal :=
  { recs := [], nextSeq := 0, openFirst := none, openTime := 0, pages := [], kept := [], pseq := 0, csn := 0, ceiling := 0,
    ceilPend := none, freeA := 0, freeB := 0, okA := false, okB := false, reest := false, saveOwed := false }

end Sys2Proof.Machine
end

