-- ==== Sys2Proof/Machine/StZone.lean ====
section
/-!
DEFINITION. The state of the zone and placement engines: the namespace table, the Zone Descriptor Table, the placement
map and superblocks, and the lifetime estimator (spec/03_zones_placement.md).
-/

namespace Sys2Proof.Machine

/-- The kinds of namespace (R141, R408). -/
inductive NsKind where
  | zoned | placement | companion
  deriving DecidableEq, Repr

/-- The zone states of the Zoned Namespace Command Set. -/
inductive ZState where
  | empty | implicitOpen | explicitOpen | closed | readOnly | full | offline
  deriving DecidableEq, Repr

/-- A deferred record kept with a namespace (R753). -/
structure KeptRec where
  tag : Nat
  reason : Nat
  ring : Nat
  blocks : Nat
  lba : Nat
  csn : Nat
  time : Nat
  lost : Nat
  /-- Made in the present power cycle, and so counted on the owner's controller already (R754). -/
  here : Bool
  deriving DecidableEq, Repr

/-- A namespace of the device namespace table. -/
structure Ns where
  nsid : Nat
  owner : Nat
  kind : NsKind
  lbaf : Nat
  /-- Protection information type (0 none), and metadata as extended LBAs. -/
  pit : Nat
  ext : Bool
  nph : Nat
  nsze : Nat
  /-- Runs of Zone Descriptor Table entries: (first, count) (R177). -/
  runs : List (Nat × Nat)
  /-- Controllers it is attached to. -/
  attached : List Nat
  /-- Write protected (R196, R197). -/
  wp : Bool
  /-- The companion of an LBAF 3 namespace (R408). -/
  comp : Option Nat
  /-- Superblock handles reserved (R182). -/
  handles : Nat
  /-- H[e] by extent (R187), and bytes written in the epoch. -/
  hist : AMap Nat
  epochBytes : Nat
  /-- Units written by host and by relocation, and superblocks erased with nothing relocated, by group (R194). -/
  useHost : AMap Nat
  useReloc : AMap Nat
  useClean : AMap Nat
  /-- CSN of the namespace record (R27). -/
  bindCsn : Nat
  /-- The media key's identity in the vault; none once destroyed (R571). -/
  key : Option Nat
  /-- Records made while attached to no controller, and their total (R753). -/
  kept : List KeptRec
  keptTotal : Nat
  /-- Of the records beyond those kept, how many were made in the present power cycle (R754). -/
  keptHere : Nat
  deriving DecidableEq, Repr

/-- An entry of the Zone Descriptor Table (R178); MEMBER, MLOST and MREBUILD are those of the set with the entry's
index as set id. -/
structure Zone where
  zs : ZState
  bound : Bool
  /-- The capture ring, if the zone is bound to one. -/
  ring : Option Nat
  nsix : Nat
  wpoff : Nat
  zcap : Nat
  bindCsn : Nat
  lastCsn : Nat
  /-- The command whose action is pending (R163). -/
  action : Option CmdRef
  /-- The unreadable-range list (R281). -/
  unread : List (Nat × Nat)
  /-- Highest zone offset actually written plus one, for reads of a Full zone (R170). -/
  written : Nat
  deriving DecidableEq, Repr

/-- A placement or staging superblock's own state (R180, R421). -/
structure Super where
  nsix : Nat
  tenant : Nat
  /-- Reclaim group index within its namespace: 0..NPH−1 handles, then four classes, then relocation (R186). -/
  group : Nat
  /-- Next data slot to fill. -/
  next : Nat
  slots : Nat
  /-- Stopped taking units (R428), or every slot filled. -/
  stopped : Bool
  deriving DecidableEq, Repr

/-- The zone engine and the placement engine. -/
structure Zones where
  /-- The namespace table by namespace index. -/
  ns : AMap Ns
  /-- The Zone Descriptor Table by entry index. -/
  zdt : AMap Zone
  /-- The placement map: entries by namespace index × 2^48 + LBA; unlisted is unmapped (R181). -/
  map : AMap Nat
  /-- Placement superblocks by handle, staging superblocks by staging handle. -/
  sb : AMap Super
  stg : AMap Super
  /-- The open staging superblock of each tenant (R421). -/
  stgOpen : AMap Nat
  /-- Slots reserved in a reclaim group at step 4 and not yet placed, by namespace index × 32 + group (R196). -/
  reserved : AMap Nat
  deriving DecidableEq, Repr

def Zones.reset : Zones := ⟨[], [], [], [], [], [], []⟩

end Sys2Proof.Machine
end

