-- ==== Sys2Proof/Machine/StHost.lean ====
section
/-!
DEFINITION. The state of the host ports: functions, queues, commands in flight, the Colander, completions and other
writes to the host, and the controller-scope logs (spec/02_host_port.md).
-/

namespace Sys2Proof.Machine

/-- The statuses that the spec names, standard and vendor (R132, R135, R744). -/
inductive Status where
  | success | invalidOpcode | invalidField | invalidNsOrFormat | lbaOutOfRange | capacityExceeded
  | nsNotReady | nsWriteProtected | abortRequested | invalidQueueId | invalidQueueSize | invalidCqParam
  | invalidVector | invalidQueueDeletion | abortLimit | aerLimit | invalidFwSlot | invalidFwImage | invalidLogPage | invalidFormat
  | fwNeedsReset | fwNeedsSubsysReset | fwProhibited | featNotSaveable | nsInsufficientCapacity
  | nsIdUnavailable | nsAlreadyAttached | nsNotAttached | controllerListInvalid | selfTestInProgress
  | invalidControllerId | invalidSecondaryState | invalidResourceCount | invalidResourceId
  | sglLengthInvalid | invalidPi | compareFailure | guardError | appTagError | refTagError | unrecoveredRead | sglCountInvalid
  | sglTypeInvalid | prpOffsetInvalid | sanitizeInProgress | overlappingRange | fwRangeUnknown
  | zoneBoundary | zoneFull | zoneReadOnly | zoneOffline | zoneInvalidWrite | tooManyActive | tooManyOpen
  | zoneInvalidTransition
  | sealRequired | sealAuthFailed | sealCounter | sealInner | sealNoKey | tenantScope | plaintextDenied
  | quotaExceeded | dieSetTooSmall | zoneResources | zoneCaptureBound | handleInvalid | fwBelowFloor | txnOpen
  deriving DecidableEq, Repr

/-- A completion queue entry: the command, the queue head it reports, its status and dword 0 (R121). -/
structure Cqe where
  sqid : Nat
  sqhd : Nat
  cid : Nat
  status : Status
  dnr : Bool
  dw0 : Nat
  dw1 : Nat
  phase : Bool
  deriving DecidableEq, Repr

/-- What the part writes to its host, its peers and its management bus, and what it answers an access with. -/
inductive HostOut where
  | cqe (fn cqid slot : Nat) (e : Cqe)
  | msix (fn vec : Nat)
  | block (r : CmdRef) (k : Nat) (data : Block) (mdata : Nat)
  | bytes (r : CmdRef) (data : List Byte)
  | evRecord (ring addr esn src code sev time pay : Nat)
  | evTail (ring addr tail : Nat)
  | creditPush (ring addr crlim ack : Nat)
  | readValue (a : Agent) (off v : Nat)
  | mgmt (data : List Byte)
  | dram (addr : Nat) (data : Nat)
  | doe (pf : Nat) (data : List Byte)
  deriving DecidableEq, Repr

/-- An I/O or admin submission queue (R84, R93, R96). -/
structure Sq where
  cqid : Nat
  size : Nat
  head : Nat
  tail : Nat
  /-- 0 urgent, 1 high, 2 medium, 3 low. -/
  prio : Nat
  /-- Entries in host memory from head to tail, oldest first. -/
  entries : List Sqe
  /-- When its tail doorbell was last written. -/
  bell : Nat
  /-- Opcodes already seen on the queue (R96). -/
  seen : List Nat
  deriving DecidableEq, Repr

/-- A completion queue (R82, R84). -/
structure Cq where
  size : Nat
  head : Nat
  tail : Nat
  phase : Bool
  ien : Bool
  vec : Nat
  /-- Completions posted and not yet signalled (Interrupt Coalescing, R92). -/
  unsig : Nat
  deriving DecidableEq, Repr

/-- An entry of the Deferred Error log (R126); its ESN is that of the record with this tag. -/
structure DefEntry where
  tag : Nat
  nsid : Nat
  reason : Nat
  sqid : Nat
  cid : Nat
  ring : Nat
  blocks : Nat
  lba : Nat
  csn : Nat
  time : Nat
  lost : Nat
  deriving DecidableEq, Repr

/-- The Deferred Error log of a controller (R125 to R130, R754) and the records waiting for DEFER, by NSID (R122). -/
structure DefLog where
  total : Nat
  entries : List DefEntry
  overflow : Bool
  pendNs : AMap Nat
  /-- Records of unknown namespace waiting for any eligible completion (R752). -/
  pendAny : Nat
  deriving DecidableEq, Repr

/-- What a function holds: its controller registers, resources, features, logs, self-test and sanitize (R76 to R92, R136). -/
structure FnState where
  /-- CC.EN, CC.SHN state, CSTS.RDY and CSTS.SHST. -/
  en : Bool
  rdy : Bool
  shn : Nat
  shst : Nat
  /-- CC.AMS: 0 round robin, 1 weighted round robin with urgent. -/
  ams : Nat
  /-- Bus Master Enable, D3hot, and of a physical function VF Enable. -/
  bme : Bool
  d3 : Bool
  vfe : Bool
  /-- Flexible queue pairs and vectors assigned, and whether the secondary controller is online (R79, R80). -/
  vq : Nat
  vi : Nat
  online : Bool
  /-- Feature values by FID, saved values by FID + 256, and the time the timestamp was set at 512 (R92). -/
  feat : AMap Nat
  /-- Events waiting for an Asynchronous Event Request: (type, info, log). -/
  aev : List (Nat × Nat × Nat)
  /-- Event types masked until their log is read: (type, log). -/
  aevMasked : List Nat
  defl : DefLog
  /-- Error Information log, newest first: (sqid, cid, status). -/
  errs : List (Nat × Nat × Status)
  errCount : Nat
  changedNs : List Nat
  /-- Zones changed, by (NSID, ZSLBA), for log 0xBF. -/
  changedZones : List (Nat × Nat)
  /-- Device Self-test: current kind (0 none, 1 short, 2 extended), groups read, groups in all, last result. -/
  dst : Nat
  dstDone : Nat
  dstTotal : Nat
  dstResult : Nat
  /-- Sanitize Status: state (0 never, 1 completed, 2 in progress, 3 failed), and the CDW10 used. -/
  sanState : Nat
  sanCdw10 : Nat
  /-- The blocks that its block erase has sent to the erase queue (R571). -/
  sanBlocks : List Nat
  /-- The CSN that a normal shutdown in progress waits for (R116). -/
  shutFlush : Option Nat
  /-- Configuration space as software wrote it, by dword offset. -/
  cfg : AMap Nat
  deriving DecidableEq, Repr

/-- Where a fetched command stands. -/
inductive Phase where
  /-- Awaiting admission against the tenant's buckets (R448). -/
  | admission
  /-- Ready for the row of its own name. -/
  | ready
  /-- Waiting at the zone engine behind a pending action (R163). -/
  | zoneWait
  /-- Held at the front end because its entries cannot be placed (R751). -/
  | held
  /-- Its lock entries wait in the table. -/
  | lockWait
  /-- Locks granted; buffers being lent (R203). -/
  | buffers
  /-- Write data arriving (steps 5 to 7). -/
  | data
  /-- Waiting for Holdup Budget credit (step 9). -/
  | credit
  /-- Every condition of R37 but the media ones met. -/
  | accepted
  /-- A read whose die reads are out. -/
  | reading
  /-- A zone action waiting for its record (R168), or a map change waiting for credit (R193). -/
  | record
  /-- A Flush waiting for stripes (R112). -/
  | flushing
  /-- Waiting for its sealed counter to be durable, or for the seal queue (R555, R557). -/
  | sealing
  /-- A firmware or self-test operation in progress. -/
  | background
  deriving DecidableEq, Repr

/-- The part of a multi-unit command's buffer needs still to be lent, and what it holds: (pool, granule). -/
structure Buffers where
  want : List Nat
  got : List (Nat × Nat)
  deriving DecidableEq, Repr

/-- One zone of a zone action in progress (R162 to R168): its entry, the action of R270 (1 open, 2 close, 3 finish, 4 reset, 5
offline), its CSN, its journal record, and for a reset the member set chosen. -/
structure ZoneAct where
  entry : Nat
  act : Nat
  csn : Nat
  jrec : Option Nat
  members : List (Nat × Nat)
  /-- The zone's state and write pointer before the action was handled. -/
  prevZs : ZState
  prevWp : Nat
  deriving DecidableEq, Repr

/-- A command the front end has fetched and not completed. -/
structure Cmd where
  ref : CmdRef
  sqe : Sqe
  phase : Phase
  /-- Arrived inside a Sealed Envelope whose counter is durable. -/
  sealed : Bool
  /-- Tunnelled through the management endpoint or by NVMe-MI (R678). -/
  tunnel : Bool
  bellTime : Nat
  cls : Nat
  /-- Namespace index, first LBA and number of blocks, as the zone engine fixed them. -/
  nsix : Nat
  lba : Nat
  nlb : Nat
  /-- Reclaim group (R186). -/
  group : Nat
  bufs : Buffers
  /-- Blocks arrived, or blocks read back. -/
  blocks : Nat
  /-- What arrived: each block's ciphertext and host metadata. -/
  got : List (Block × Nat)
  /-- The keys of the write's units in DRAM. -/
  units : List Nat
  /-- The write opened its zone implicitly (R157). -/
  opened : Bool
  /-- The zones of a zone action. -/
  acts : List ZoneAct
  /-- Lowest data CSN granted (R26); for Flush, C of R112; for a zone action, its CSN. -/
  csn : Option Nat
  /-- Journal records to be durable before completion, by record sequence number. -/
  recs : List Nat
  /-- PRESS and SNOW as seen at fetch, HOLD (R121). -/
  press : Nat
  snow : Bool
  hold : Bool
  /-- A failure found on the way. -/
  status : Status
  /-- Handed to a control core (R96). -/
  core : Bool
  /-- Its place among the commands that wait at the zone engine (R162). -/
  zord : Nat
  /-- The 1 MiB extents in which a unit placed before its acceptance replaced a mapped one (R187). -/
  replaced : List Nat
  /-- The ranges that a map change takes up (R190, R193). -/
  taken : List (Nat × Nat)
  /-- Its media read has been repeated once (R615). -/
  reread : Bool
  deriving DecidableEq, Repr

/-- An entry of the Colander (R98 to R101). -/
structure LockEntry where
  ref : CmdRef
  nsix : Nat
  lo : Nat
  hi : Nat
  excl : Bool
  granted : Bool
  arrive : Nat
  deriving DecidableEq, Repr

/-- The Colander (R98 to R108, RLK registers). Entries in arrival order. -/
structure Colander where
  table : List LockEntry
  hiwat : Nat
  stalls : Nat
  maxwait : Nat
  deriving DecidableEq, Repr

/-- A host port (R63 to R68). -/
structure Port where
  /-- PERST_N asserted. -/
  perst : Bool
  /-- Allowed to train, and link trained. -/
  train : Bool
  up : Bool
  rate : Nat
  width : Nat
  flit : Bool
  deriving DecidableEq, Repr

/-- The host ports and their front ends. -/
structure HostSide where
  portA : Port
  portB : Port
  fns : AMap FnState
  /-- Queues by function × 65,536 + queue identifier. -/
  sqs : AMap Sq
  cqs : AMap Cq
  /-- Commands fetched and not completed, in fetch order. -/
  cmds : List Cmd
  /-- Ports answer with retry status until stage 8 ends (R693); recovery mode enables PF0 alone (R695). -/
  enabled : Bool
  pf0Only : Bool
  /-- A hot activation pauses fetch (R701). -/
  paused : Bool
  /-- Round-robin place and deficits of admission (R452), by tenant. -/
  rrLast : Nat
  deficit : AMap Nat
  /-- How many commands have come to wait at the zone engine (R162). -/
  zoneOrd : Nat
  /-- Virtual time of Amber shares (R206): time and nano-bytes admitted, by tenant. -/
  amberTime : Nat
  amber : AMap Int
  /-- Everything sent outward, newest first. -/
  out : List HostOut
  deriving DecidableEq, Repr

def DefLog.empty : DefLog := ⟨0, [], false, [], 0⟩

/-- A function as reset leaves it: disabled, no queues, features at their defaults. -/
def FnState.reset : FnState :=
  { en := false, rdy := false, shn := 0, shst := 0, ams := 0, bme := false, d3 := false, vfe := false, vq := 0, vi := 0,
    online := false, feat := [], aev := [], aevMasked := [], defl := DefLog.empty, errs := [], errCount := 0,
    changedNs := [], changedZones := [], dst := 0, dstDone := 0, dstTotal := 0, dstResult := 0, sanState := 0,
    sanCdw10 := 0, sanBlocks := [], shutFlush := none, cfg := [] }

def Port.reset : Port := ⟨true, false, false, 0, 0, false⟩

def Colander.reset : Colander := ⟨[], 0, 0, 0⟩

def HostSide.reset : HostSide := ⟨Port.reset, Port.reset, [], [], [], [], false, false, false, 0, [], 0, 0, [], []⟩

end Sys2Proof.Machine
end

