-- ==== Sys2Proof/Machine/StStripe.lean ====
section
/-!
DEFINITION. The state of the stripe engine: the units between DRAM and flash, the sets with their rows, staging, rebuild,
reconstructions and the Lost Stripe List (spec/08_stripes.md, and R46 of spec/01_architecture.md).
-/

namespace Sys2Proof.Machine

/-- The protected 4,144 bytes of an information part: the data in bits 32767:0, the covered part above (R402, R404). -/
abbrev Info := BitVec 33152

/-- The trailer of a unit on flash (R405); TCRC follows from it and the content. -/
structure Trailer where
  die : Nat
  block : Nat
  slot : Nat
  setid : Nat
  lost : Bool
  pad : Bool
  role : Nat
  deriving DecidableEq, Repr

/-- A unit as programmed on flash. -/
structure FlashUnit where
  info : Info
  trailer : Trailer
  deriving DecidableEq, Repr

/-- A unit in DRAM that is not yet on flash (R46): what it holds and where it stands. Keyed by 2 × stripe CSN, plus
1 for a companion unit, whose stripe CSN is that of a data unit (R410). -/
structure DramUnit where
  dcsn : Nat
  tenant : Nat
  nsix : Nat
  lba : Nat
  /-- 0 host, 1 capture, 2 companion (R404). -/
  kind : Nat
  group : Nat
  info : Info
  staged : Bool
  reloc : Bool
  /-- Accepted (R36), holding credit (R250), superseded (R499). -/
  accepted : Bool
  credit : Bool
  superseded : Bool
  /-- Taken in write-through mode: it never asks for credit, and its write waits for its stripe (R42, R227, R255). -/
  through : Bool
  /-- Stripe id and data position, once placed. -/
  place : Option (Nat × Nat)
  /-- For a relocation copy, the source slot: placement handle × 2^18 + slot, or staging likewise. -/
  source : Option Nat
  /-- The command or ring whose completion waits on it. -/
  ref : Option CmdRef
  bufs : List (Nat × Nat)
  /-- The DRAM address of its 4 KiB, in the granules that hold it. -/
  addr : Option Nat
  deriving DecidableEq, Repr

/-- A set of member blocks (R399): members are (global die, block); masks are bit m for member m. -/
structure SetRec where
  members : List (Nat × Nat)
  tenant : Nat
  nsix : Nat
  rows : Nat
  bindCsn : Nat
  mlost : Nat
  mrebuild : Nat
  /-- Its blocks have joined the erase queue. -/
  dead : Bool
  deriving DecidableEq, Repr

/-- What a data position of a row holds. -/
inductive RowPos where
  | empty
  /-- A data unit: its key in DRAM, and its information part. -/
  | unit (key : Nat) (info : Info)
  | pad
  | lost
  /-- A zone position whose unit lies only in the staging superblock (R417, R420). -/
  | staged
  deriving DecidableEq, Repr

/-- A stripe row (R151): its 16 data positions, its parity, and how far it is (R271, R414 to R418). -/
structure Row where
  pos : List RowPos
  p : Option Info
  q : Option Info
  opened : Bool
  parity : Bool
  early : Bool
  closed : Bool
  /-- Lowest and highest stripe CSN. -/
  lo : Nat
  hi : Nat
  /-- Members counted missing when it closed (R435). -/
  missing : Nat
  /-- Declared lost (R431). -/
  lost : Bool
  deriving DecidableEq, Repr

/-- How far a 4-page group is (R414, R426). -/
inductive GroupState where
  | sent | done | failed
  deriving DecidableEq, Repr

structure Group where
  st : GroupState
  /-- Bit 0: DONE 0x06 once; bit 1: a link failure once (R426). -/
  tries : Nat
  /-- Waiting for an inhibit to clear since this time. -/
  inhSince : Option Nat
  deriving DecidableEq, Repr

/-- A reconstruction in progress (R430): the row's set, the member wanted, and the member reads still out. -/
structure Recon where
  setid : Nat
  row : Nat
  member : Nat
  cls : Nat
  /-- The read it serves. -/
  rid : Nat
  picked : List Nat
  out : List Nat
  good : List Nat
  bad : List Nat
  retried : Bool
  deriving DecidableEq, Repr

/-- An entry of the Lost Stripe List (R440). -/
structure LostRec where
  index : Nat
  tenant : Nat
  cause : Nat
  kind : Nat
  stripe : Nat
  members : Nat
  positions : Nat
  nsid : Nat
  lba : Option Nat
  lo : Nat
  tag : Nat
  time : Nat
  /-- Positions whose LBA search has not ended (R439). -/
  search : List Nat
  deriving DecidableEq, Repr

/-- The rebuild in progress (R433). -/
structure Rebuild where
  setid : Nat
  member : Nat
  die : Nat
  block : Nat
  total : Nat
  doneRows : Nat
  /-- Rows placed since the last group of the replacement was programmed, newest first: content, PAD and LOST. -/
  held : List (Info × Bool × Bool)
  deriving DecidableEq, Repr

/-- The stripe engine. -/
structure Stripes where
  dram : AMap DramUnit
  sets : AMap SetRec
  /-- Rows by stripe id: set id × 2^15 + row (R263). -/
  rows : AMap Row
  /-- Groups by (set id × 32 + member) × 1,024 + group. -/
  groups : AMap Group
  /-- The staging index: staged stripe id × 16 + position, by namespace index × 2^48 + LBA (R419). -/
  staging : AMap Nat
  recon : AMap Recon
  nextRecon : Nat
  rebuild : Option Rebuild
  /-- Rebuild-blocked members: set id × 32 + member. -/
  blocked : List Nat
  lost : List LostRec
  lostTotal : Nat
  lostOverflow : Bool
  /-- Tenants whose own overflow bit is set. -/
  lostOvTenants : List Nat
  lostByTenant : AMap Nat
  /-- Data CSNs of writes that a loss of power tore, first and one past the last: none of their units applies (R41). -/
  torn : List (Nat × Nat)
  cnt : AMap Nat
  deriving DecidableEq, Repr

/-- The empty row. -/
def Row.empty : Row :=
  { pos := List.replicate 16 .empty, p := none, q := none, opened := false, parity := false, early := false,
    closed := false, lo := 0, hi := 0, missing := 0, lost := false }

def Stripes.reset : Stripes :=
  { dram := [], sets := [], rows := [], groups := [], staging := [], recon := [], nextRecon := 0, rebuild := none,
    blocked := [], lost := [], lostTotal := 0, lostOverflow := false, lostOvTenants := [], lostByTenant := [], torn := [], cnt := [] }

end Sys2Proof.Machine
end

