-- ==== Sys2Proof/Machine/StMedia.lean ====
section
/-!
DEFINITION. The state of the scheduler, the link units with their sequencers, the Didrinak front ends, and media
management (spec/06 to spec/10).
-/

namespace Sys2Proof.Machine

/-- A token bucket: its level in units of 10^−9 token, and the time it was last brought up to date (R450). -/
structure Bucket where
  level : Int
  time : Nat
  deriving DecidableEq, Repr

/-- A die request (R349, R455). -/
inductive ReqKind where
  | readHard (rid : Nat)
  | readSoft (rid : Nat)
  | setRef (slot band : Nat)
  | program (setid m grp : Nat)
  | erase (block : Nat) (slc : Bool)
  | suspend
  | resume
  | dieReset
  | temp
  | status (qtag : Nat)
  | bridgeCfg (addr v : Nat)
  | bridgeRead (addr : Nat)
  /-- A page of a calibration sample, through a reference slot. -/
  | calRead (block grp page : Nat) (ref : Option Nat)
  deriving DecidableEq, Repr

structure DieReq where
  kind : ReqKind
  cls : Nat
  arrive : Nat
  /-- Counts in the maintenance share (R478). -/
  maint : Bool
  deriving DecidableEq, Repr

/-- What runs on a die (R456, R459 to R462). -/
structure DieOp where
  req : DieReq
  start : Nat
  /-- Suspended since; intervals suspended so far. -/
  susp : Bool
  suspAt : Nat
  suspTime : Nat
  suspN : Nat
  /-- SUSPHOLD has passed since the suspension (R461). -/
  holdOver : Bool
  deriving DecidableEq, Repr

/-- A die as the scheduler sees it. -/
structure SDie where
  q0 : List DieReq
  q1 : List DieReq
  q2 : List DieReq
  mw : List DieReq
  op : Option DieOp
  /-- Reads outstanding at the bridge. -/
  reads : Nat
  suspOut : Option Nat
  lastResume : Option Nat
  /-- A SUSPEND has been refused (DONE 0x04): suspension is excluded until the operation ends. -/
  noSusp : Bool
  /-- Remaining time of the last BUSY, in ns, and when it came. -/
  busy : Nat
  busyAt : Nat
  /-- Estimates: rr in 1/256, pgm and ers in ns, susplat in ns (R469). -/
  rr : Nat
  pgm : Nat
  ers : Nat
  susplat : Nat
  /-- Windows in a row with rr above its limit, with pgm above its limit, and with both at or below theirs (R471). -/
  overN : Nat
  overP : Nat
  underN : Nat
  benched : Bool
  held : Bool
  failed : Bool
  /-- Die time of the two shares in this window, with debts, in ns (R478). -/
  maintNs : Nat
  rebuildNs : Nat
  deriving DecidableEq, Repr

/-- The scheduler. -/
structure Sched where
  /-- Buckets by tenant × 8 + (0 read cap IOPS, 1 read cap bytes, 2 read floor IOPS, 3 read floor bytes, 4 to 7 the same for write); die-set buckets at 2^16 + set. -/
  buckets : AMap Bucket
  dies : AMap SDie
  /-- Die sets in snowplough mode with their factor (R481, R482). -/
  snow : AMap Nat
  /-- Benched links, with their windows in a row at or below the limit (R472). -/
  linkBench : AMap Nat
  total : Nat
  overN : Nat
  max : Nat
  deriving DecidableEq, Repr

/-- A request outstanding on a link (R336). -/
structure TagRec where
  die : Nat
  req : DieReq
  /-- When its last frame has been sent (R477). -/
  sent : Nat
  reissues : Nat
  /-- A STATUS query for this tag is out (R339). -/
  query : Bool
  /-- No other read was outstanding on its die when it was sent (R469). -/
  solo : Bool
  deriving DecidableEq, Repr

/-- A frame the controller has sent: OP, DIE, TAG, LEN, ARG and its command block (R295, R309), the header with its HCRC (R296), and the lane that
takes it and when (R286). -/
structure SentFrame where
  op : Nat
  die : Nat
  tag : Nat
  len : Nat
  arg : Nat
  cmd : Nat
  header : Nat
  lane : Nat
  start : Nat
  deriving DecidableEq, Repr

/-- A lane of a link (R347). -/
structure Lane where
  up : Bool
  /-- In training, its phase, and the attempts made in the phase. -/
  training : Bool
  phase : Nat
  attempts : Nat
  failed : Bool
  dnPreset : Nat
  upPreset : Nat
  /-- Per-phase progress: best (errors, preset) of phase 2, frames and errors of phase 3. -/
  best : Option (Nat × Nat)
  frames : Nat
  errs : Nat
  /-- Downstream frames in error, and the bit errors last reported for the pattern. -/
  dnErrs : Nat
  dnLast : Nat
  /-- Times of the CRC failures in the window, newest first (LNK_RETRAIN). -/
  crcTimes : List Nat
  trigger : Nat
  deriving DecidableEq, Repr

/-- The states of a link (LNK_STAT.STATE). -/
inductive LinkState where
  | down | training | active | degraded | failed
  deriving DecidableEq, Repr

/-- A link unit's sequencer. -/
structure Link where
  st : LinkState
  lane0 : Lane
  lane1 : Lane
  /-- Outstanding and quarantined tags (R336, R338). -/
  tags : AMap TagRec
  quar : List Nat
  nextTag : Nat
  inh : Nat
  id : Nat
  bootcnt : Nat
  bootKnown : Bool
  dies : Nat
  /-- Consecutive tag timeouts (R342). -/
  touts : Nat
  /-- Both lanes in service during a flush (R291). -/
  flushLanes : Bool
  /-- Frames sent, newest first. -/
  sent : List SentFrame
  cnt : AMap Nat
  deriving DecidableEq, Repr

/-- The link units. -/
structure Links where
  links : AMap Link
  /-- Die temperatures last reported, in 0.125 °C, by global die (R369). -/
  temps : AMap Int
  deriving DecidableEq, Repr

/-- A die descriptor (R373). -/
structure Desc where
  tr : List Nat
  trSoft : Nat
  trSlc : Nat
  refmap : Nat
  dac : Nat
  rated : Nat
  wb : List Nat
  bad : Bool
  deriving DecidableEq, Repr

/-- A band entry (R376). -/
structure Band where
  off : List Int
  gain : Nat
  soffs : Int
  valid : Bool
  inherited : Bool
  recal : Bool
  errs : Nat
  calhr : Nat
  deriving DecidableEq, Repr

/-- A reference slot of a die (R380 to R383): 0 empty, 1 being written, 2 written, 3 stale, 4 being written with offsets that are
stale already. -/
structure RefSlot where
  st : Nat
  band : Nat
  used : Nat
  readers : Nat
  deriving DecidableEq, Repr

/-- Whom a unit read serves. -/
inductive RdWho where
  | host (r : CmdRef) (k : Nat)
  | recon (id member : Nat)
  /-- A patrol or self-test read: the function of a self-test, and whether it is the last unit of its group. -/
  | maint (fn : Option Nat) (last : Bool)
  deriving DecidableEq, Repr

/-- Where a unit read stands. -/
inductive RdState where
  | queued | sent | hardDecoding | softWait | softQueued | resolved
  deriving DecidableEq, Repr

/-- The outcomes of the ladder and of the checks after it (R386, R412, R429). -/
inductive RdOut where
  | pending
  | ok (info : Info)
  | zero
  | unreadable
  | lost
  deriving DecidableEq, Repr

/-- A read of one unit in flight. -/
structure UnitRead where
  who : RdWho
  die : Nat
  block : Nat
  slot : Nat
  setid : Nat
  row : Nat
  /-- Member index in the set, and role. -/
  member : Nat
  role : Nat
  cls : Nat
  /-- What the lookup expects (R412, R413). -/
  tenant : Nat
  nsix : Nat
  lba : Nat
  loCsn : Nat
  hiCsn : Nat
  st : RdState
  out : RdOut
  arrive : Nat
  /-- Soft values are in hand; the hard decode has failed. -/
  soft : Bool
  hardFailed : Bool
  final : Bool
  /-- Sent with USEREF 0, since the SET_REF it waited on failed (R384). -/
  noRef : Bool
  /-- The reference slot that the frame out names. -/
  ref : Option Nat
  /-- Served by reconstruction with this id. -/
  recon : Option Nat
  /-- The soft values in hand (R367). -/
  llr : List Int
  deriving DecidableEq, Repr

/-- A calibration sample in progress (R392). -/
structure Calib where
  die : Nat
  band : Nat
  block : Nat
  grp : Nat
  /-- Page reads answered. -/
  pages : Nat
  deriving DecidableEq, Repr

/-- The Didrinak front ends and the soft engines. -/
structure Didrinak where
  reads : AMap UnitRead
  nextRead : Nat
  /-- Descriptors by link, code bands by die × 128 + 8 w + k, band entries by die × 512 + (8 w + k) × 4 + r, EH by die. -/
  desc : AMap Desc
  cbt : AMap Nat
  bands : AMap Band
  eh : AMap Nat
  slots : AMap RefSlot
  useCtr : Nat
  /-- Samples so far of each band (R394), and the sample in progress on each link. -/
  samples : AMap Nat
  calib : AMap Calib
  /-- Soft engines faulted, and the queue of reads for them. -/
  engFault : List Nat
  softQ : List Nat
  cnt : AMap Nat
  deriving DecidableEq, Repr

/-- The states of a block (R490). -/
inductive BlkState where
  | free | bound | eraseQueue | erasing | retired | factoryBad | system
  deriving DecidableEq, Repr

/-- An entry of the Block Information Table (R490). -/
structure Blk where
  pec : Nat
  st : BlkState
  pin : Bool
  refresh : Bool
  rpt : Bool
  wbin : Nat
  member : Nat
  setid : Nat
  rcause : Nat
  closeh : Nat
  /-- Reads since the last erase (RDC is this divided by 1,024). -/
  rdc : Nat
  /-- Reason of its erase intent. -/
  reason : Nat
  deriving DecidableEq, Repr

/-- What a checkpoint holds of the structures of R501, as they stood at its cut. -/
structure CkData where
  ns : AMap Ns
  zdt : AMap Zone
  sets : AMap SetRec
  bit : AMap Blk
  cbt : AMap Nat
  bands : AMap Band
  eh : AMap Nat
  /-- Dies benched, held and failed, and links failed. -/
  benched : List Nat
  held : List Nat
  failed : List Nat
  links : List Nat
  map : AMap Nat
  sb : AMap Super
  stg : AMap Super
  /-- Accepted placement units without a slot: (DCSN, namespace index, LBA, SUPERSEDED). -/
  pending : List (Nat × Nat × Nat × Bool)
  /-- Counters and extremes that run from manufacture (R528). -/
  hc : AMap Nat
  hist : AMap Nat
  tlow : AMap (Int × Nat)
  thigh : AMap (Int × Nat)
  lost : List LostRec
  lostTotal : Nat
  deriving DecidableEq, Repr

/-- A checkpoint kind's progress (R502 to R510). -/
structure Ckpt where
  active : Bool
  seq : Nat
  cutCsn : Nat
  cutRec : Nat
  startTime : Nat
  lastCut : Nat
  cut : CkData
  /-- Last complete checkpoint: its sequence number, record, cut CSN and contents. -/
  doneSeq : Nat
  doneRec : Nat
  doneCsn : Nat
  /-- The always-on timer at its cut. -/
  doneTime : Nat
  done : CkData
  /-- Sets written, each with its 18 blocks, of the one in progress and of the last complete one; next set id of the kind. -/
  sets : List (Nat × List (Nat × Nat))
  doneSets : List (Nat × List (Nat × Nat))
  nextSet : Nat
  deriving DecidableEq, Repr

/-- A copy made by relocation: its key in DRAM, its block, and the map entry or staging index entry of its source. -/
structure RelCopy where
  key : Nat
  nsix : Nat
  lba : Nat
  source : Nat
  deriving DecidableEq, Repr

/-- A superblock under relocation (R514 to R516): the copies not yet committed, and the map change records of those that are. -/
structure Reloc where
  setid : Nat
  copies : List RelCopy
  recs : List Nat
  refresh : Bool
  deriving DecidableEq, Repr

/-- An entry of log 0xC3 (R530). -/
structure EwEntry where
  tag : Nat
  code : Nat
  raised : Bool
  ds : Nat
  value : Nat
  threshold : Nat
  time : Nat
  deriving DecidableEq, Repr

/-- Media management and health. -/
structure Media where
  /-- The Block Information Table by die × 8,192 + block; an unlisted block is system below SYSBLK, else free with PEC 0. -/
  bit : AMap Blk
  /-- Flash content by die × 2^28 + block × 2^15 + slot. -/
  flash : AMap FlashUnit
  /-- The erase queue: (die, block), in order. -/
  erq : List (Nat × Nat)
  ck1 : Ckpt
  ck2 : Ckpt
  ckSeq : Nat
  /-- Units slotted into placement sets since the last kind 2 cut (R509). -/
  slotted : Nat
  /-- Die sets under garbage collection in background mode. -/
  gc : List Nat
  relocs : List Reloc
  /-- Refresh victims: superblock set ids. -/
  victims : List Nat
  /-- Next patrol group by block key. -/
  patrol : AMap Nat
  /-- DONE 0x08 since the die's last erase (R523). -/
  done08 : List Nat
  pkgFailed : List Nat
  /-- Operator conditions active: code × 1,024 + die set (or 1,023 for the device) (R529). -/
  active : List Nat
  ewLog : List EwEntry
  ewTotal : Nat
  ewOverflow : Bool
  /-- Health counters by scope × 16 + counter (scopes: tenant; 2,048 device; 4,096 + namespace index). -/
  hc : AMap Nat
  hist : AMap Nat
  /-- Lowest and highest temperature with their times, by scope. -/
  tlow : AMap (Int × Nat)
  thigh : AMap (Int × Nat)
  /-- FLCAP in MiB (R489). -/
  flcap : Nat
  deriving DecidableEq, Repr

def SDie.reset (susplat : Nat) : SDie :=
  { q0 := [], q1 := [], q2 := [], mw := [], op := none, reads := 0, suspOut := none, lastResume := none, noSusp := false,
    busy := 0, busyAt := 0, rr := 0, pgm := 0, ers := 0, susplat := susplat, overN := 0, overP := 0, underN := 0, benched := false,
    held := false, failed := false, maintNs := 0, rebuildNs := 0 }

def Sched.reset : Sched := ⟨[], [], [], [], 0, 0, 0⟩

def Lane.reset : Lane := ⟨false, false, 0, 0, false, 0, 0, none, 0, 0, 0, 0, [], 0⟩

def Link.reset : Link :=
  { st := .down, lane0 := Lane.reset, lane1 := Lane.reset, tags := [], quar := [], nextTag := 0, inh := 0, id := 0,
    bootcnt := 0, bootKnown := false, dies := 0, touts := 0, flushLanes := false, sent := [], cnt := [] }

def Links.reset : Links := ⟨[], []⟩

def RefSlot.empty : RefSlot := ⟨0, 0, 0, 0⟩

def Band.invalid : Band := ⟨List.replicate 15 0, 16, 0, false, false, false, 0, 0⟩

def Didrinak.reset : Didrinak :=
  { reads := [], nextRead := 0, desc := [], cbt := [], bands := [], eh := [], slots := [], useCtr := 0, samples := [],
    calib := [], engFault := [], softQ := [], cnt := [] }

def CkData.empty : CkData :=
  { ns := [], zdt := [], sets := [], bit := [], cbt := [], bands := [], eh := [], benched := [], held := [], failed := [], links := []
    map := [], sb := [], stg := [], pending := [], hc := [], hist := [], tlow := [], thigh := [], lost := [], lostTotal := 0 }

def Ckpt.reset : Ckpt :=
  { active := false, seq := 0, cutCsn := 0, cutRec := 0, startTime := 0, lastCut := 0, cut := CkData.empty, doneSeq := 0, doneRec := 0
    doneCsn := 0, doneTime := 0, done := CkData.empty, sets := [], doneSets := [], nextSet := 0 }

def Media.reset : Media :=
  { bit := [], flash := [], erq := [], ck1 := Ckpt.reset, ck2 := Ckpt.reset, ckSeq := 0, slotted := 0, gc := [],
    relocs := [], victims := [], patrol := [], done08 := [], pkgFailed := [], active := [], ewLog := [], ewTotal := 0,
    ewOverflow := false, hc := [], hist := [], tlow := [], thigh := [], flcap := 0 }

end Sys2Proof.Machine
end

