-- ==== Sys2Proof/Machine/StPower.lean ====
section
/-!
DEFINITION. The state of the power domain controller and the wake block (spec/13_power_domains.md).
-/

namespace Sys2Proof.Machine

/-- The states of a domain (R627, PWR_DOM.STATE). -/
inductive DomState where
  | on | retention | off | entering | returning
  deriving DecidableEq, Repr

/-- A domain (PWR_DOM). -/
structure Domain where
  st : DomState
  /-- The state before the entry or return in progress, and its target. -/
  prev : DomState
  target : DomState
  /-- Last abort point passed, 7 if none. -/
  ap : Nat
  reason : Nat
  result : Nat
  /-- Consecutive delays of the handshake, and whether the agent is to be asked again later (R640). -/
  delays : Nat
  waiting : Bool
  /-- The entry is to be abandoned at the next abort point: its cause, 8 a command, else the wake pin plus 16 (R639). -/
  abandon : Option Nat
  since : Nat
  deriving DecidableEq, Repr

/-- The power domain controller. -/
structure Power where
  doms : AMap Domain
  cmdDom : Nat
  cmdRes : Nat
  /-- LOCKOK of the last command for the vault (R642). -/
  lockok : Bool
  /-- Levels of the wake pins, and PEND. -/
  pins : Nat
  pend : Nat
  /-- The fabric domain is Off (R629). -/
  dark : Bool
  deriving DecidableEq, Repr

def Domain.reset : Domain :=
  { st := .off, prev := .off, target := .off, ap := 7, reason := 0, result := 0, delays := 0, waiting := false, abandon := none, since := 0 }

def Power.reset : Power := ⟨[], 0, 0, false, 0, 0, false⟩

end Sys2Proof.Machine
end

