-- ==== Sys2Proof/Machine/StSec.lean ====
section
/-!
DEFINITION. The state of the security vault: fuses, the vault store with its tenants and keys, envelopes in progress, the
mailbox, SPDM sessions and IDE streams (spec/11_tenants_security.md). Keys, nonces and identifiers are octet strings (R546).
-/

namespace Sys2Proof.Machine

/-- An exchange offer (R545): its number, the ephemeral private value, the nonce NV, and when it was made. -/
structure Offer where
  num : Nat
  priv : Nat
  nonce : List Nat
  time : Nat
  deriving DecidableEq, Repr

/-- An envelope past its checks: the envelope command, its inner entry and set (0 admin, 1 I/O), and whether its counter is
durable (R555, R557). -/
structure Envelope where
  ref : CmdRef
  inner : Sqe
  io : Bool
  durable : Bool
  deriving DecidableEq, Repr

/-- What the vault holds of a tenant (R549, R560 to R566). -/
structure TenantSec where
  claimed : Bool
  /-- TK and SK, with their identifiers; a locked TKVOL tenant's TK is not held. -/
  tk : Option (List Nat)
  sk : List Nat
  tkid : Nat
  skid : Nat
  counter : Nat
  /-- The operator section of the policy. -/
  nsmgmt : Bool
  nsquota : Nat
  /-- The tenant section. -/
  capture : Bool
  tkvol : Bool
  pvalid : Bool
  partner : Nat
  locked : Bool
  offer : Option Offer
  /-- The nonce for the next attested report (R577). -/
  nonce : Option (List Nat)
  /-- Outcome of the last accepted envelope, and its inner status (R560). -/
  outcome : Nat
  istatus : Nat
  /-- The envelope past its checks and not completed (R557). -/
  env : Option Envelope
  /-- A release has begun (R573). -/
  releasing : Bool
  deriving DecidableEq, Repr

/-- An SPDM session of a physical function (R575). -/
structure Session where
  id : Nat
  /-- 1 handshake, 2 established. -/
  phase : Nat
  secret : Nat
  updates : Nat
  deriving DecidableEq, Repr

/-- The SPDM responder of a physical function: how far the version, capabilities and algorithms exchange is, and its sessions. -/
structure Responder where
  /-- 0 none, 1 version, 2 capabilities, 3 algorithms. -/
  stage : Nat
  sessions : List Session
  deriving DecidableEq, Repr

/-- A PCIe IDE stream of a port (R578): 0 insecure, 1 ready, 2 secure; its programmed keys by key set × 2 + direction. -/
structure IdeStream where
  st : Nat
  keys : AMap (List Byte)
  keySet : Nat
  deriving DecidableEq, Repr

/-- The security vault. -/
structure Vault where
  /-- Fuses (R747): SVN floor, revoked and valid key slots, production part, temperature grade X. -/
  svnFloor : Nat
  krevoked : Nat
  kvalid : Nat
  prod : Bool
  gradeX : Bool
  /-- SEC_STAT.STATE and TRNG. -/
  st : Nat
  trng : Bool
  /-- Each copy of the vault store in the NOR is current; SEC_STAT shows them once the vault has loaded the store. -/
  storeA : Bool
  storeB : Bool
  /-- Changes of the vault store not yet programmed and read back (R538). -/
  writes : Nat
  /-- A rewrite of the whole store is running (mailbox request 0x02). -/
  compacting : Bool
  tenants : AMap TenantSec
  /-- Media keys by key identity; destroyed keys are absent (R541, R571). -/
  keys : AMap (List Nat)
  nextKey : Nat
  /-- Transit keys of capture rings (R536). -/
  transit : AMap (List Nat)
  offerNum : Nat
  sealFail : Nat
  mbBusy : Bool
  mbResult : Nat
  resp0 : Responder
  resp1 : Responder
  nextSession : Nat
  /-- IDE streams by port × 16 + stream; stream 0 of a port is the link stream. -/
  ide : AMap IdeStream
  deriving DecidableEq, Repr

/-- The policy from manufacture (R564). -/
def TenantSec.fresh (t : Nat) : TenantSec :=
  { claimed := false, tk := none, sk := [], tkid := 0, skid := 0, counter := 0, nsmgmt := true, nsquota := 16,
    capture := decide (t < 2), tkvol := false, pvalid := false, partner := 0, locked := false, offer := none, nonce := none,
    outcome := 0, istatus := 0, env := none, releasing := false }

def Responder.reset : Responder := ⟨0, []⟩

def IdeStream.insecure : IdeStream := ⟨0, [], 0⟩

/-- The vault of a production part at power-on (R747). -/
def Vault.reset : Vault :=
  { svnFloor := 0, krevoked := 0, kvalid := 15, prod := true, gradeX := false, st := 0, trng := false, storeA := true,
    storeB := true, writes := 0, compacting := false, tenants := [], keys := [], nextKey := 0, transit := [], offerNum := 0,
    sealFail := 0, mbBusy := false, mbResult := 0, resp0 := Responder.reset, resp1 := Responder.reset, nextSession := 0, ide := [] }

end Sys2Proof.Machine
end

