-- ==== Sys2Proof/Machine/RegMap.lean ====
section
/-!
DEFINITION. The Setup Window's register set, one entry for each register table of the spec (the R<n> and headings of
spec/01 to spec/16): its block offset, its array strides, its fields with their access codes, Reset values and stated
ranges (R5, R6, R12, R13, R745; block bases: R651).
-/

namespace Sys2Proof.Machine

/-- The access codes of R12. -/
inductive Acc where
  | ro | rw | wo | w1c | w1s | tx | lk
  deriving DecidableEq, Repr

/-- Where a field's value after power-on reset comes from (R13): the Reset column, the configuration image, a fuse, or the design. -/
inductive ResetSrc where
  | fixed | image | fuse | design
  deriving DecidableEq, Repr

/-- Every register heading of the spec, by its mnemonic; an array register is one name with indices. -/
inductive RegName where
  | RLK_CFG | RLK_CTL | RLK_STAT | RLK_STALLS | RLK_MAXWAIT | RLK_FN_USE | ZON_STAT | ZON_ERQ
  | ZON_UNBOUND | ZON_PL_USE | ZON_PL_EPOCH | ZON_DS_STAT | ZON_DS_MAP | ZON_TN_LIM | ZON_TN_DS | BPM_CTL
  | BPM_LEVEL | BPM_AMBER | BPM_POOL_BASE | BPM_POOL_CNT | BPM_POOL_FREE | BPM_POOL_AMBER | BPM_POOL_RED | BPM_POOL_STOP
  | BPM_POOL_HYST | BPM_TN_RSV | BPM_CL_RSV | BPM_TN_USE | CAP_WINSUM | CAP_CFG | CAP_NS | CAP_STALL
  | CAP_CTL | CAP_CRPUSH | CAP_ZQ_PUSH | CAP_STAT | CAP_ARRIVED | CAP_CRLIM | CAP_ACK_ROFF | CAP_ZPOS
  | CAP_RECORDS | CAP_EVCNT | HLD_CFG | HLD_VOLT | HLD_EFIXED | HLD_CHG | HLD_VLOSS | HLD_TEST
  | HLD_ESRMAX | HLD_WARN | HLD_CTL | HLD_STAT | HLD_TRES | HLD_TTIME | HLD_BUDGET | HLD_RESV
  | STR_JCFG | STR_JSTAT | STR_JPSEQ | STR_JTAIL | STR_CSNCEIL | STR_FLAREA | STR_LASTFL | LNK_CTL
  | LNK_STAT | LNK_SYNC | LNK_FRAME_TMR | LNK_TAG_TMR0 | LNK_TAG_TMR1 | LNK_QUAR | LNK_RETRAIN | LNK_INH
  | LNK_INH2 | LNK_TXEQ | LNK_BRIDGE_ID | LNK_DIES | LNK_CNT | LNK_CNT_CLR | DDK_CTL | DDK_TBL_BASE
  | DDK_RET_BIN | DDK_RET_CFG | DDK_DECODE | DDK_CAL | DDK_THR | DDK_SOFTQ | DDK_CNT | DDK_CNT_CLR
  | STR_RBCFG | STR_PGMCFG | STR_RBSTAT | STR_RBPEND | STR_RBROWS | STR_STG | STR_STGUNITS | STR_LOSTCNT
  | STR_CNT | STR_CNT_CLR | SCH_CTL | SCH_WIN | SCH_SUSP | SCH_PGM | SCH_SLALOM | SCH_BENCH
  | SCH_SNOW | SCH_DIEWR | SCH_BSTAT | SCH_LMON_CFG | SCH_LMON_TOTAL | SCH_LMON_OVER | SCH_LMON_MAX | SCH_TN_CFG
  | SCH_TN_RCAP | SCH_TN_WCAP | SCH_TN_RFLR | SCH_TN_WFLR | SCH_TN_STAT | SCH_DIE | SCH_DS_SNOW | SCH_LINK
  | ZON_SYSBLK | ZON_CKPT | ZON_CKSTAT | ZON_CKSEQ1 | ZON_CKSEQ2 | ZON_GC | ZON_REFRESH | ZON_PATROL
  | ZON_WARN | ZON_EW_STAT | ZON_DS_HEALTH | SEC_STAT | SEC_FUSE | SEC_SEALFAIL | SEC_MB_CTL | SEC_MB_DATA
  | SEC_TN_STATE | DRM_CFG | DRM_STAT | DRM_ECC | DRM_CH_WQ | DRM_CH_REF | DRM_CH_ACT | DRM_CH_MNT
  | DRM_CH_MARK | DRM_MR_CMD | DRM_TRN_CTL | DRM_TRN_PAT | DRM_TRN_DLY | DRM_TRN_FAIL | DRM_TRN_FIRST | DRM_TRN_CAP
  | DRM_CH_CNT | MEM_SRAM_CNT | MEM_SRAM_LASTUE | MEM_SCR_ADDR | MEM_SCR_LEN | MEM_SCR_CTL | MEM_SCR_STAT | MEM_SCR_REC
  | PWR_CMD | PWR_CMD_STAT | PWR_HS_CFG | PWR_ON | PWR_WAKE_STAT | PWR_WAKE_CFG | PWR_WAKE_SET | PWR_DOM
  | GLB_ID | GLB_STAT | GLB_LOCK | GLB_AOTIME | GLB_CSNCTR | GLB_ESNCTR | GLB_TXN_CTL | GLB_TXN_STAT
  | GLB_TXN_TMO | GLB_TXN_ERR | EVT_CFG | EVT_BASE | EVT_TAILADDR | EVT_HEAD | EVT_TAIL | EVT_LOST
  | EVT_MASK | FWS_CFG | FWS_STAT | FWS_CMD | FWS_ADDR | FWS_RESULT | FWS_SLOT | FWS_FAULT
  | FWS_CTL | FWS_BUF
  deriving DecidableEq, Repr

/-- A named field of a register: bits [hi:lo], access code, Reset value, its source, and the range the table states (R745). -/
structure Fld where
  reg : RegName
  hi : Nat
  lo : Nat
  acc : Acc
  reset : Nat
  src : ResetSrc
  range : Option (Nat × Nat)
  deriving DecidableEq, Repr

/-- Where a register stands: its first offset in the Setup Window, the (stride, count) of each index, and whether it is 64 bits wide (R6). -/
structure Place where
  base : Nat
  s1 : Nat
  n1 : Nat
  s2 : Nat
  n2 : Nat
  wide : Bool
  deriving DecidableEq, Repr

namespace F

def RLK_CFG_FN_CAP : Fld := ⟨.RLK_CFG, 29, 16, .tx, 512, .fixed, some (256, 8192)⟩
def RLK_CFG_FN_RSV : Fld := ⟨.RLK_CFG, 2, 0, .tx, 4, .fixed, some (0, 4)⟩
def RLK_CTL_STAT_CLR : Fld := ⟨.RLK_CTL, 0, 0, .wo, 0, .fixed, none⟩
def RLK_STAT_HIWAT : Fld := ⟨.RLK_STAT, 29, 16, .ro, 0, .fixed, none⟩
def RLK_STAT_INUSE : Fld := ⟨.RLK_STAT, 13, 0, .ro, 0, .fixed, none⟩
def RLK_STALLS_STALLS : Fld := ⟨.RLK_STALLS, 63, 0, .ro, 0, .fixed, none⟩
def RLK_MAXWAIT_MAXWAIT : Fld := ⟨.RLK_MAXWAIT, 31, 0, .ro, 0, .fixed, none⟩
def RLK_FN_USE_USE : Fld := ⟨.RLK_FN_USE, 13, 0, .ro, 0, .fixed, none⟩
def ZON_STAT_ACTIVE : Fld := ⟨.ZON_STAT, 28, 16, .ro, 0, .fixed, none⟩
def ZON_STAT_OPEN : Fld := ⟨.ZON_STAT, 12, 0, .ro, 0, .fixed, none⟩
def ZON_ERQ_BLOCKS : Fld := ⟨.ZON_ERQ, 23, 0, .ro, 0, .fixed, none⟩
def ZON_UNBOUND_COUNT : Fld := ⟨.ZON_UNBOUND, 20, 0, .ro, 0, .fixed, none⟩
def ZON_PL_USE_RESERVED : Fld := ⟨.ZON_PL_USE, 14, 0, .ro, 0, .fixed, none⟩
def ZON_PL_EPOCH_EPOCH_GIB : Fld := ⟨.ZON_PL_EPOCH, 12, 0, .tx, 0, .image, some (1, 4096)⟩
def ZON_DS_STAT_PKGS : Fld := ⟨.ZON_DS_STAT, 29, 24, .ro, 0, .fixed, none⟩
def ZON_DS_STAT_FREE : Fld := ⟨.ZON_DS_STAT, 23, 0, .ro, 0, .fixed, none⟩
def ZON_DS_MAP_DIES : Fld := ⟨.ZON_DS_MAP, 31, 0, .tx, 0, .image, none⟩
def ZON_TN_LIM_ACT : Fld := ⟨.ZON_TN_LIM, 28, 16, .tx, 0, .image, some (1, 4096)⟩
def ZON_TN_LIM_OPEN : Fld := ⟨.ZON_TN_LIM, 12, 0, .tx, 0, .image, some (1, 4096)⟩
def ZON_TN_DS_VALID : Fld := ⟨.ZON_TN_DS, 7, 7, .tx, 0, .image, none⟩
def ZON_TN_DS_DSNUM : Fld := ⟨.ZON_TN_DS, 6, 0, .tx, 0, .image, none⟩
def BPM_CTL_NOM : Fld := ⟨.BPM_CTL, 0, 0, .lk, 1, .fixed, none⟩
def BPM_LEVEL_DEV : Fld := ⟨.BPM_LEVEL, 13, 12, .ro, 0, .fixed, none⟩
def BPM_LEVEL_POOL : Fld := ⟨.BPM_LEVEL, 11, 0, .ro, 0, .fixed, none⟩
def BPM_AMBER_RATE : Fld := ⟨.BPM_AMBER, 7, 0, .tx, 0, .image, some (1, 255)⟩
def BPM_POOL_BASE_BASE : Fld := ⟨.BPM_POOL_BASE, 35, 0, .lk, 0, .image, none⟩
def BPM_POOL_CNT_CNT : Fld := ⟨.BPM_POOL_CNT, 21, 0, .lk, 0, .image, none⟩
def BPM_POOL_FREE_FREE : Fld := ⟨.BPM_POOL_FREE, 21, 0, .ro, 0, .fixed, none⟩
def BPM_POOL_AMBER_THR : Fld := ⟨.BPM_POOL_AMBER, 21, 0, .tx, 0, .image, none⟩
def BPM_POOL_RED_THR : Fld := ⟨.BPM_POOL_RED, 21, 0, .tx, 0, .image, none⟩
def BPM_POOL_STOP_THR : Fld := ⟨.BPM_POOL_STOP, 21, 0, .tx, 0, .image, none⟩
def BPM_POOL_HYST_HYST : Fld := ⟨.BPM_POOL_HYST, 21, 0, .tx, 0, .image, none⟩
def BPM_TN_RSV_W : Fld := ⟨.BPM_TN_RSV, 31, 24, .tx, 0, .image, some (1, 255)⟩
def BPM_TN_RSV_SRSV : Fld := ⟨.BPM_TN_RSV, 19, 16, .tx, 0, .image, some (0, 15)⟩
def BPM_TN_RSV_DRSV : Fld := ⟨.BPM_TN_RSV, 15, 0, .tx, 0, .image, none⟩
def BPM_CL_RSV_SRSV : Fld := ⟨.BPM_CL_RSV, 23, 16, .tx, 0, .image, none⟩
def BPM_CL_RSV_DRSV : Fld := ⟨.BPM_CL_RSV, 15, 0, .tx, 0, .image, none⟩
def BPM_TN_USE_USE : Fld := ⟨.BPM_TN_USE, 23, 0, .ro, 0, .fixed, none⟩
def CAP_WINSUM_MIB : Fld := ⟨.CAP_WINSUM, 10, 0, .ro, 0, .fixed, none⟩
def CAP_CFG_PEERCHK : Fld := ⟨.CAP_CFG, 31, 31, .tx, 0, .fixed, none⟩
def CAP_CFG_PF : Fld := ⟨.CAP_CFG, 30, 30, .tx, 0, .fixed, none⟩
def CAP_CFG_WIN : Fld := ⟨.CAP_CFG, 27, 20, .tx, 16, .fixed, some (1, 128)⟩
def CAP_CFG_ZQLOW : Fld := ⟨.CAP_CFG, 19, 16, .tx, 0, .fixed, none⟩
def CAP_CFG_PEERID : Fld := ⟨.CAP_CFG, 15, 0, .tx, 0, .fixed, none⟩
def CAP_NS_NSID : Fld := ⟨.CAP_NS, 31, 0, .tx, 0, .fixed, none⟩
def CAP_STALL_MS : Fld := ⟨.CAP_STALL, 15, 0, .tx, 1000, .fixed, some (1, 60000)⟩
def CAP_CTL_CLR : Fld := ⟨.CAP_CTL, 2, 2, .wo, 0, .fixed, none⟩
def CAP_CTL_RELEASE : Fld := ⟨.CAP_CTL, 1, 1, .wo, 0, .fixed, none⟩
def CAP_CTL_ARM : Fld := ⟨.CAP_CTL, 0, 0, .wo, 0, .fixed, none⟩
def CAP_CRPUSH_ADDR : Fld := ⟨.CAP_CRPUSH, 63, 4, .tx, 0, .fixed, none⟩
def CAP_CRPUSH_EN : Fld := ⟨.CAP_CRPUSH, 0, 0, .tx, 0, .fixed, none⟩
def CAP_ZQ_PUSH_ZONE : Fld := ⟨.CAP_ZQ_PUSH, 19, 0, .wo, 0, .fixed, none⟩
def CAP_STAT_STATE : Fld := ⟨.CAP_STAT, 31, 29, .ro, 0, .fixed, none⟩
def CAP_STAT_FAULT : Fld := ⟨.CAP_STAT, 23, 16, .ro, 0, .fixed, none⟩
def CAP_STAT_ERR : Fld := ⟨.CAP_STAT, 15, 8, .ro, 0, .fixed, none⟩
def CAP_STAT_ZQ : Fld := ⟨.CAP_STAT, 5, 0, .ro, 0, .fixed, none⟩
def CAP_ARRIVED_A : Fld := ⟨.CAP_ARRIVED, 63, 0, .ro, 0, .fixed, none⟩
def CAP_CRLIM_CRLIM : Fld := ⟨.CAP_CRLIM, 63, 0, .ro, 0, .fixed, none⟩
def CAP_ACK_ROFF_ACK_ROFF : Fld := ⟨.CAP_ACK_ROFF, 63, 0, .ro, 0, .fixed, none⟩
def CAP_ZPOS_ZONE : Fld := ⟨.CAP_ZPOS, 51, 32, .ro, 0, .fixed, none⟩
def CAP_ZPOS_ACKB : Fld := ⟨.CAP_ZPOS, 31, 0, .ro, 0, .fixed, none⟩
def CAP_RECORDS_RECORDS : Fld := ⟨.CAP_RECORDS, 63, 0, .ro, 0, .fixed, none⟩
def CAP_EVCNT_TRUNC : Fld := ⟨.CAP_EVCNT, 63, 48, .ro, 0, .fixed, none⟩
def CAP_EVCNT_CONT : Fld := ⟨.CAP_EVCNT, 47, 32, .ro, 0, .fixed, none⟩
def CAP_EVCNT_SEQGAP : Fld := ⟨.CAP_EVCNT, 31, 16, .ro, 0, .fixed, none⟩
def CAP_EVCNT_DISCARD : Fld := ⟨.CAP_EVCNT, 15, 0, .ro, 0, .fixed, none⟩
def HLD_CFG_STRINGS : Fld := ⟨.HLD_CFG, 27, 24, .tx, 0, .image, some (2, 8)⟩
def HLD_CFG_MARGIN : Fld := ⟨.HLD_CFG, 23, 16, .tx, 0, .image, some (50, 100)⟩
def HLD_CFG_CAP_MIB : Fld := ⟨.HLD_CFG, 15, 0, .tx, 0, .image, some (512, 16384)⟩
def HLD_VOLT_VCHG : Fld := ⟨.HLD_VOLT, 31, 16, .tx, 0, .image, some (2000, 3500)⟩
def HLD_VOLT_VFLOOR : Fld := ⟨.HLD_VOLT, 15, 0, .tx, 2000, .fixed, some (1500, 3000)⟩
def HLD_EFIXED_MJ : Fld := ⟨.HLD_EFIXED, 15, 0, .tx, 0, .image, some (250, 2000)⟩
def HLD_CHG_MA : Fld := ⟨.HLD_CHG, 15, 0, .tx, 250, .fixed, some (50, 1000)⟩
def HLD_VLOSS_DG : Fld := ⟨.HLD_VLOSS, 23, 16, .tx, 2, .fixed, some (1, 20)⟩
def HLD_VLOSS_V : Fld := ⟨.HLD_VLOSS, 15, 0, .tx, 0, .image, some (240, 1200)⟩
def HLD_TEST_PERIOD : Fld := ⟨.HLD_TEST, 31, 24, .tx, 24, .fixed, some (1, 168)⟩
def HLD_TEST_DV : Fld := ⟨.HLD_TEST, 23, 16, .tx, 100, .fixed, some (25, 200)⟩
def HLD_TEST_IMA : Fld := ⟨.HLD_TEST, 15, 0, .tx, 200, .fixed, some (100, 500)⟩
def HLD_ESRMAX_MOHM : Fld := ⟨.HLD_ESRMAX, 15, 0, .tx, 250, .fixed, some (10, 1000)⟩
def HLD_WARN_MIB : Fld := ⟨.HLD_WARN, 15, 0, .tx, 1024, .fixed, none⟩
def HLD_CTL_KEY : Fld := ⟨.HLD_CTL, 15, 8, .wo, 0, .fixed, none⟩
def HLD_CTL_FORCE : Fld := ⟨.HLD_CTL, 1, 1, .wo, 0, .fixed, none⟩
def HLD_CTL_TEST : Fld := ⟨.HLD_CTL, 0, 0, .wo, 0, .fixed, none⟩
def HLD_STAT_STATE : Fld := ⟨.HLD_STAT, 31, 28, .ro, 0, .fixed, none⟩
def HLD_STAT_WT : Fld := ⟨.HLD_STAT, 27, 27, .ro, 1, .fixed, none⟩
def HLD_STAT_LINKS : Fld := ⟨.HLD_STAT, 21, 16, .ro, 0, .fixed, none⟩
def HLD_STAT_VBANK : Fld := ⟨.HLD_STAT, 15, 0, .ro, 0, .fixed, none⟩
def HLD_TRES_CUF : Fld := ⟨.HLD_TRES, 31, 16, .ro, 0, .fixed, none⟩
def HLD_TRES_ESR : Fld := ⟨.HLD_TRES, 15, 4, .ro, 0, .fixed, none⟩
def HLD_TRES_RESULT : Fld := ⟨.HLD_TRES, 1, 0, .ro, 0, .fixed, none⟩
def HLD_TTIME_NS : Fld := ⟨.HLD_TTIME, 63, 0, .ro, 0, .fixed, none⟩
def HLD_BUDGET_LIMIT : Fld := ⟨.HLD_BUDGET, 31, 16, .ro, 0, .fixed, none⟩
def HLD_BUDGET_B : Fld := ⟨.HLD_BUDGET, 15, 0, .ro, 0, .fixed, none⟩
def HLD_RESV_BYTES : Fld := ⟨.HLD_RESV, 63, 0, .ro, 0, .fixed, none⟩
def STR_JCFG_JPAGE : Fld := ⟨.STR_JCFG, 31, 24, .tx, 20, .fixed, some (5, 100)⟩
def STR_JCFG_JBLK : Fld := ⟨.STR_JCFG, 23, 16, .tx, 0, .image, some (4, 64)⟩
def STR_JCFG_JPKGB : Fld := ⟨.STR_JCFG, 12, 8, .tx, 0, .image, none⟩
def STR_JCFG_JPKGA : Fld := ⟨.STR_JCFG, 4, 0, .tx, 0, .image, none⟩
def STR_JSTAT_AOK : Fld := ⟨.STR_JSTAT, 31, 31, .ro, 0, .fixed, none⟩
def STR_JSTAT_BOK : Fld := ⟨.STR_JSTAT, 30, 30, .ro, 0, .fixed, none⟩
def STR_JSTAT_REEST : Fld := ⟨.STR_JSTAT, 29, 29, .ro, 0, .fixed, none⟩
def STR_JSTAT_FREEA : Fld := ⟨.STR_JSTAT, 23, 16, .ro, 0, .fixed, none⟩
def STR_JSTAT_FREEB : Fld := ⟨.STR_JSTAT, 15, 8, .ro, 0, .fixed, none⟩
def STR_JPSEQ_PSEQ : Fld := ⟨.STR_JPSEQ, 63, 0, .ro, 0, .fixed, none⟩
def STR_JTAIL_SLOTS : Fld := ⟨.STR_JTAIL, 19, 0, .ro, 0, .fixed, none⟩
def STR_CSNCEIL_CEIL : Fld := ⟨.STR_CSNCEIL, 63, 0, .ro, 0, .fixed, none⟩
def STR_FLAREA_FLCAP : Fld := ⟨.STR_FLAREA, 31, 16, .ro, 0, .fixed, none⟩
def STR_FLAREA_A1CLEAN : Fld := ⟨.STR_FLAREA, 2, 2, .ro, 0, .fixed, none⟩
def STR_FLAREA_A0CLEAN : Fld := ⟨.STR_FLAREA, 1, 1, .ro, 0, .fixed, none⟩
def STR_FLAREA_NEXT : Fld := ⟨.STR_FLAREA, 0, 0, .ro, 0, .fixed, none⟩
def STR_LASTFL_INCOMPLETE : Fld := ⟨.STR_LASTFL, 63, 63, .ro, 0, .fixed, none⟩
def STR_LASTFL_LOST : Fld := ⟨.STR_LASTFL, 62, 32, .ro, 0, .fixed, none⟩
def STR_LASTFL_UNITS : Fld := ⟨.STR_LASTFL, 31, 0, .ro, 0, .fixed, none⟩
def LNK_CTL_RESETBR : Fld := ⟨.LNK_CTL, 7, 7, .wo, 0, .fixed, none⟩
def LNK_CTL_RETRAIN : Fld := ⟨.LNK_CTL, 6, 6, .wo, 0, .fixed, none⟩
def LNK_CTL_LANES : Fld := ⟨.LNK_CTL, 3, 2, .tx, 0, .fixed, some (0, 2)⟩
def LNK_CTL_EN : Fld := ⟨.LNK_CTL, 0, 0, .tx, 0, .image, none⟩
def LNK_STAT_STATE : Fld := ⟨.LNK_STAT, 31, 29, .ro, 0, .fixed, none⟩
def LNK_STAT_UP1 : Fld := ⟨.LNK_STAT, 28, 28, .ro, 0, .fixed, none⟩
def LNK_STAT_UP0 : Fld := ⟨.LNK_STAT, 27, 27, .ro, 0, .fixed, none⟩
def LNK_STAT_INH : Fld := ⟨.LNK_STAT, 26, 23, .ro, 0, .fixed, none⟩
def LNK_STAT_PHASE : Fld := ⟨.LNK_STAT, 22, 20, .ro, 0, .fixed, none⟩
def LNK_STAT_OUT : Fld := ⟨.LNK_STAT, 9, 0, .ro, 0, .fixed, none⟩
def LNK_SYNC_TOL : Fld := ⟨.LNK_SYNC, 2, 0, .tx, 2, .fixed, some (0, 4)⟩
def LNK_FRAME_TMR_TDSET : Fld := ⟨.LNK_FRAME_TMR, 31, 16, .tx, 20, .fixed, some (5, 1000)⟩
def LNK_FRAME_TMR_FLMARGIN : Fld := ⟨.LNK_FRAME_TMR, 15, 0, .tx, 64, .fixed, some (32, 1024)⟩
def LNK_TAG_TMR0_TREAD : Fld := ⟨.LNK_TAG_TMR0, 31, 16, .tx, 500, .fixed, some (50, 65535)⟩
def LNK_TAG_TMR0_TSHORT : Fld := ⟨.LNK_TAG_TMR0, 15, 0, .tx, 20, .fixed, some (5, 65535)⟩
def LNK_TAG_TMR1_TERASE : Fld := ⟨.LNK_TAG_TMR1, 31, 16, .tx, 300, .fixed, some (10, 65535)⟩
def LNK_TAG_TMR1_TPROG : Fld := ⟨.LNK_TAG_TMR1, 15, 0, .tx, 1000, .fixed, some (10, 65535)⟩
def LNK_QUAR_QUAR : Fld := ⟨.LNK_QUAR, 15, 0, .tx, 1000, .fixed, some (100, 65535)⟩
def LNK_RETRAIN_CRCN : Fld := ⟨.LNK_RETRAIN, 31, 24, .tx, 16, .fixed, some (1, 255)⟩
def LNK_RETRAIN_WIN : Fld := ⟨.LNK_RETRAIN, 23, 16, .tx, 10, .fixed, some (1, 255)⟩
def LNK_RETRAIN_TOUTN : Fld := ⟨.LNK_RETRAIN, 15, 8, .tx, 4, .fixed, some (1, 255)⟩
def LNK_RETRAIN_ATTEMPTS : Fld := ⟨.LNK_RETRAIN, 3, 0, .tx, 3, .fixed, some (1, 15)⟩
def LNK_INH_VMIN : Fld := ⟨.LNK_INH, 31, 16, .tx, 0, .image, some (1000, 3600)⟩
def LNK_INH_THYST : Fld := ⟨.LNK_INH, 15, 8, .tx, 5, .fixed, some (1, 20)⟩
def LNK_INH_TMAX : Fld := ⟨.LNK_INH, 7, 0, .tx, 0, .image, some (40, 125)⟩
def LNK_INH2_LWIN : Fld := ⟨.LNK_INH2, 31, 24, .tx, 10, .fixed, some (1, 255)⟩
def LNK_INH2_LERR : Fld := ⟨.LNK_INH2, 23, 8, .tx, 64, .fixed, some (1, 65535)⟩
def LNK_INH2_TSUSPMIN : Fld := ⟨.LNK_INH2, 7, 0, .tx, 10, .fixed, some (0, 255)⟩
def LNK_TXEQ_DN1 : Fld := ⟨.LNK_TXEQ, 31, 28, .ro, 0, .fixed, none⟩
def LNK_TXEQ_DN0 : Fld := ⟨.LNK_TXEQ, 27, 24, .ro, 0, .fixed, none⟩
def LNK_TXEQ_UP1 : Fld := ⟨.LNK_TXEQ, 23, 20, .ro, 0, .fixed, none⟩
def LNK_TXEQ_UP0 : Fld := ⟨.LNK_TXEQ, 19, 16, .ro, 0, .fixed, none⟩
def LNK_BRIDGE_ID_BOOTCNT : Fld := ⟨.LNK_BRIDGE_ID, 63, 32, .ro, 0, .fixed, none⟩
def LNK_BRIDGE_ID_ID : Fld := ⟨.LNK_BRIDGE_ID, 31, 0, .ro, 0, .fixed, none⟩
def LNK_DIES_DIES : Fld := ⟨.LNK_DIES, 63, 0, .ro, 0, .fixed, none⟩
def LNK_CNT_COUNT : Fld := ⟨.LNK_CNT, 63, 0, .ro, 0, .fixed, none⟩
def LNK_CNT_CLR_CLR : Fld := ⟨.LNK_CNT_CLR, 0, 0, .wo, 0, .fixed, none⟩
def DDK_CTL_CALEN : Fld := ⟨.DDK_CTL, 2, 2, .tx, 1, .fixed, none⟩
def DDK_CTL_SOFTEN : Fld := ⟨.DDK_CTL, 1, 1, .tx, 1, .fixed, none⟩
def DDK_CTL_EN : Fld := ⟨.DDK_CTL, 0, 0, .tx, 0, .image, none⟩
def DDK_TBL_BASE_BASE : Fld := ⟨.DDK_TBL_BASE, 35, 21, .lk, 0, .image, none⟩
def DDK_RET_BIN_RB3 : Fld := ⟨.DDK_RET_BIN, 47, 32, .tx, 2160, .fixed, none⟩
def DDK_RET_BIN_RB2 : Fld := ⟨.DDK_RET_BIN, 31, 16, .tx, 168, .fixed, none⟩
def DDK_RET_BIN_RB1 : Fld := ⟨.DDK_RET_BIN, 15, 0, .tx, 24, .fixed, some (1, 65535)⟩
def DDK_RET_CFG_UNK : Fld := ⟨.DDK_RET_CFG, 31, 16, .tx, 720, .fixed, none⟩
def DDK_RET_CFG_TREF : Fld := ⟨.DDK_RET_CFG, 15, 8, .tx, 40, .fixed, some (0, 85)⟩
def DDK_RET_CFG_TDBL : Fld := ⟨.DDK_RET_CFG, 7, 4, .tx, 10, .fixed, some (5, 15)⟩
def DDK_RET_CFG_OFFMUL : Fld := ⟨.DDK_RET_CFG, 3, 0, .tx, 2, .fixed, some (1, 15)⟩
def DDK_DECODE_HITER : Fld := ⟨.DDK_DECODE, 31, 24, .tx, 16, .fixed, some (1, 63)⟩
def DDK_DECODE_SITER : Fld := ⟨.DDK_DECODE, 23, 16, .tx, 40, .fixed, some (1, 100)⟩
def DDK_DECODE_SQWAIT : Fld := ⟨.DDK_DECODE, 15, 0, .tx, 30, .fixed, some (5, 1000)⟩
def DDK_CAL_PERIOD : Fld := ⟨.DDK_CAL, 31, 24, .tx, 24, .fixed, some (1, 255)⟩
def DDK_CAL_STEP : Fld := ⟨.DDK_CAL, 23, 16, .tx, 2, .fixed, some (1, 8)⟩
def DDK_THR_RECALBITS : Fld := ⟨.DDK_THR, 31, 16, .tx, 120, .fixed, some (1, 8832)⟩
def DDK_THR_SOFTFIRST : Fld := ⟨.DDK_THR, 15, 0, .tx, 8192, .fixed, some (1, 65535)⟩
def DDK_SOFTQ_ENG : Fld := ⟨.DDK_SOFTQ, 23, 16, .ro, 0, .fixed, none⟩
def DDK_SOFTQ_WAIT : Fld := ⟨.DDK_SOFTQ, 15, 0, .ro, 0, .fixed, none⟩
def DDK_CNT_COUNT : Fld := ⟨.DDK_CNT, 63, 0, .ro, 0, .fixed, none⟩
def DDK_CNT_CLR_CLR : Fld := ⟨.DDK_CNT_CLR, 0, 0, .wo, 0, .fixed, none⟩
def STR_RBCFG_RBSHARE : Fld := ⟨.STR_RBCFG, 15, 8, .tx, 20, .fixed, some (1, 50)⟩
def STR_RBCFG_RBEN : Fld := ⟨.STR_RBCFG, 0, 0, .tx, 1, .fixed, none⟩
def STR_PGMCFG_INHWAIT : Fld := ⟨.STR_PGMCFG, 15, 0, .tx, 5, .fixed, some (0, 10000)⟩
def STR_RBSTAT_ACTIVE : Fld := ⟨.STR_RBSTAT, 31, 31, .ro, 0, .fixed, none⟩
def STR_RBSTAT_MEMBER : Fld := ⟨.STR_RBSTAT, 30, 26, .ro, 0, .fixed, none⟩
def STR_RBSTAT_SETID : Fld := ⟨.STR_RBSTAT, 20, 0, .ro, 0, .fixed, none⟩
def STR_RBPEND_SETS : Fld := ⟨.STR_RBPEND, 20, 0, .ro, 0, .fixed, none⟩
def STR_RBROWS_TOTAL : Fld := ⟨.STR_RBROWS, 63, 32, .ro, 0, .fixed, none⟩
def STR_RBROWS_DONE : Fld := ⟨.STR_RBROWS, 31, 0, .ro, 0, .fixed, none⟩
def STR_STG_BOUND : Fld := ⟨.STR_STG, 27, 16, .ro, 0, .fixed, none⟩
def STR_STGUNITS_UNITS : Fld := ⟨.STR_STGUNITS, 63, 0, .ro, 0, .fixed, none⟩
def STR_LOSTCNT_COUNT : Fld := ⟨.STR_LOSTCNT, 63, 0, .ro, 0, .fixed, none⟩
def STR_CNT_COUNT : Fld := ⟨.STR_CNT, 63, 0, .ro, 0, .fixed, none⟩
def STR_CNT_CLR_CLR : Fld := ⟨.STR_CNT_CLR, 0, 0, .wo, 0, .fixed, none⟩
def SCH_CTL_BENCHEN : Fld := ⟨.SCH_CTL, 3, 3, .tx, 1, .fixed, none⟩
def SCH_CTL_RECEN : Fld := ⟨.SCH_CTL, 2, 2, .tx, 1, .fixed, none⟩
def SCH_CTL_SUSPE : Fld := ⟨.SCH_CTL, 1, 1, .tx, 1, .fixed, none⟩
def SCH_CTL_SUSPP : Fld := ⟨.SCH_CTL, 0, 0, .tx, 1, .fixed, none⟩
def SCH_WIN_AGE : Fld := ⟨.SCH_WIN, 31, 24, .tx, 50, .fixed, some (1, 255)⟩
def SCH_WIN_MAINT : Fld := ⟨.SCH_WIN, 23, 16, .tx, 2, .fixed, some (0, 10)⟩
def SCH_WIN_WIN : Fld := ⟨.SCH_WIN, 15, 0, .tx, 100, .fixed, some (10, 1000)⟩
def SCH_SUSP_SUSPMAX : Fld := ⟨.SCH_SUSP, 31, 24, .tx, 8, .fixed, some (1, 63)⟩
def SCH_SUSP_RQMAX : Fld := ⟨.SCH_SUSP, 23, 20, .tx, 2, .fixed, some (1, 8)⟩
def SCH_SUSP_SUSPHOLD : Fld := ⟨.SCH_SUSP, 15, 0, .tx, 100, .fixed, some (10, 10000)⟩
def SCH_PGM_PGMWAIT : Fld := ⟨.SCH_PGM, 31, 16, .tx, 2000, .fixed, some (100, 65535)⟩
def SCH_PGM_SUSPINIT : Fld := ⟨.SCH_PGM, 15, 0, .tx, 200, .fixed, some (10, 2000)⟩
def SCH_SLALOM_RECOVH : Fld := ⟨.SCH_SLALOM, 31, 16, .tx, 20, .fixed, some (1, 1000)⟩
def SCH_SLALOM_DECODE : Fld := ⟨.SCH_SLALOM, 15, 0, .tx, 60, .fixed, some (1, 1000)⟩
def SCH_BENCH_K : Fld := ⟨.SCH_BENCH, 31, 24, .tx, 12, .fixed, some (8, 40)⟩
def SCH_BENCH_UNK : Fld := ⟨.SCH_BENCH, 23, 16, .tx, 8, .fixed, some (4, 39)⟩
def SCH_BENCH_EWSHIFT : Fld := ⟨.SCH_BENCH, 15, 12, .tx, 4, .fixed, some (1, 8)⟩
def SCH_BENCH_BENCHN : Fld := ⟨.SCH_BENCH, 11, 8, .tx, 5, .fixed, some (1, 15)⟩
def SCH_BENCH_BENCHMAX : Fld := ⟨.SCH_BENCH, 7, 0, .tx, 64, .fixed, some (0, 255)⟩
def SCH_SNOW_FMIN : Fld := ⟨.SCH_SNOW, 31, 24, .tx, 32, .fixed, some (1, 255)⟩
def SCH_SNOW_HYST : Fld := ⟨.SCH_SNOW, 23, 16, .tx, 5, .fixed, some (1, 50)⟩
def SCH_SNOW_FLOOR : Fld := ⟨.SCH_SNOW, 15, 0, .tx, 30, .fixed, some (5, 200)⟩
def SCH_DIEWR_DIEWR : Fld := ⟨.SCH_DIEWR, 15, 0, .tx, 293, .fixed, some (10, 1000)⟩
def SCH_BSTAT_HELD : Fld := ⟨.SCH_BSTAT, 23, 12, .ro, 0, .fixed, none⟩
def SCH_BSTAT_BENCHED : Fld := ⟨.SCH_BSTAT, 11, 0, .ro, 0, .fixed, none⟩
def SCH_LMON_CFG_EN : Fld := ⟨.SCH_LMON_CFG, 31, 31, .rw, 0, .fixed, none⟩
def SCH_LMON_CFG_KIND : Fld := ⟨.SCH_LMON_CFG, 30, 30, .rw, 0, .fixed, none⟩
def SCH_LMON_CFG_THR : Fld := ⟨.SCH_LMON_CFG, 15, 0, .rw, 250, .fixed, none⟩
def SCH_LMON_TOTAL_TOTAL : Fld := ⟨.SCH_LMON_TOTAL, 63, 0, .ro, 0, .fixed, none⟩
def SCH_LMON_OVER_OVER : Fld := ⟨.SCH_LMON_OVER, 63, 0, .ro, 0, .fixed, none⟩
def SCH_LMON_MAX_MAX : Fld := ⟨.SCH_LMON_MAX, 31, 0, .ro, 0, .fixed, none⟩
def SCH_TN_CFG_WT : Fld := ⟨.SCH_TN_CFG, 31, 24, .tx, 0, .image, some (1, 255)⟩
def SCH_TN_CFG_RDEPTH : Fld := ⟨.SCH_TN_CFG, 23, 16, .tx, 0, .image, some (1, 255)⟩
def SCH_TN_CFG_WDEPTH : Fld := ⟨.SCH_TN_CFG, 15, 8, .tx, 0, .image, some (1, 255)⟩
def SCH_TN_CFG_MINCLS : Fld := ⟨.SCH_TN_CFG, 1, 0, .tx, 0, .image, some (0, 2)⟩
def SCH_TN_RCAP_BW : Fld := ⟨.SCH_TN_RCAP, 31, 16, .tx, 0, .image, none⟩
def SCH_TN_RCAP_IOPS : Fld := ⟨.SCH_TN_RCAP, 15, 0, .tx, 0, .image, none⟩
def SCH_TN_WCAP_BW : Fld := ⟨.SCH_TN_WCAP, 31, 16, .tx, 0, .image, none⟩
def SCH_TN_WCAP_IOPS : Fld := ⟨.SCH_TN_WCAP, 15, 0, .tx, 0, .image, none⟩
def SCH_TN_RFLR_BW : Fld := ⟨.SCH_TN_RFLR, 31, 16, .tx, 0, .image, none⟩
def SCH_TN_RFLR_IOPS : Fld := ⟨.SCH_TN_RFLR, 15, 0, .tx, 0, .image, none⟩
def SCH_TN_WFLR_BW : Fld := ⟨.SCH_TN_WFLR, 31, 16, .tx, 0, .image, none⟩
def SCH_TN_WFLR_IOPS : Fld := ⟨.SCH_TN_WFLR, 15, 0, .tx, 0, .image, none⟩
def SCH_TN_STAT_RUF : Fld := ⟨.SCH_TN_STAT, 31, 31, .ro, 0, .fixed, none⟩
def SCH_TN_STAT_WUF : Fld := ⟨.SCH_TN_STAT, 30, 30, .ro, 0, .fixed, none⟩
def SCH_TN_STAT_WAITING : Fld := ⟨.SCH_TN_STAT, 6, 0, .ro, 0, .fixed, none⟩
def SCH_DIE_STATE : Fld := ⟨.SCH_DIE, 63, 62, .ro, 0, .fixed, none⟩
def SCH_DIE_SUSPN : Fld := ⟨.SCH_DIE, 61, 56, .ro, 0, .fixed, none⟩
def SCH_DIE_PGM : Fld := ⟨.SCH_DIE, 55, 40, .ro, 0, .fixed, none⟩
def SCH_DIE_SUSPLAT : Fld := ⟨.SCH_DIE, 39, 24, .ro, 0, .fixed, none⟩
def SCH_DIE_RR : Fld := ⟨.SCH_DIE, 23, 12, .ro, 0, .fixed, none⟩
def SCH_DS_SNOW_ACTIVE : Fld := ⟨.SCH_DS_SNOW, 31, 31, .ro, 0, .fixed, none⟩
def SCH_DS_SNOW_F : Fld := ⟨.SCH_DS_SNOW, 8, 0, .ro, 256, .fixed, none⟩
def SCH_LINK_BENCHED : Fld := ⟨.SCH_LINK, 31, 31, .ro, 0, .fixed, none⟩
def SCH_LINK_RR : Fld := ⟨.SCH_LINK, 11, 0, .ro, 0, .fixed, none⟩
def ZON_SYSBLK_SYSBLK : Fld := ⟨.ZON_SYSBLK, 12, 0, .lk, 0, .image, some (1, 512)⟩
def ZON_CKPT_CK2GIB : Fld := ⟨.ZON_CKPT, 31, 16, .tx, 64, .fixed, some (1, 4096)⟩
def ZON_CKPT_CKBUF : Fld := ⟨.ZON_CKPT, 15, 8, .tx, 16, .fixed, some (1, 255)⟩
def ZON_CKPT_CK1MIN : Fld := ⟨.ZON_CKPT, 7, 0, .tx, 30, .fixed, some (5, 255)⟩
def ZON_CKSTAT_ACT1 : Fld := ⟨.ZON_CKSTAT, 31, 31, .ro, 0, .fixed, none⟩
def ZON_CKSTAT_ACT2 : Fld := ⟨.ZON_CKSTAT, 30, 30, .ro, 0, .fixed, none⟩
def ZON_CKSTAT_COPY : Fld := ⟨.ZON_CKSTAT, 15, 0, .ro, 0, .fixed, none⟩
def ZON_CKSEQ1_SEQ : Fld := ⟨.ZON_CKSEQ1, 63, 0, .ro, 0, .fixed, none⟩
def ZON_CKSEQ2_SEQ : Fld := ⟨.ZON_CKSEQ2, 63, 0, .ro, 0, .fixed, none⟩
def ZON_GC_VALIDMAX : Fld := ⟨.ZON_GC, 31, 24, .tx, 75, .fixed, some (10, 100)⟩
def ZON_GC_GCSTOP : Fld := ⟨.ZON_GC, 23, 16, .tx, 60, .fixed, some (6, 250)⟩
def ZON_GC_GCSTART : Fld := ⟨.ZON_GC, 15, 8, .tx, 45, .fixed, some (6, 249)⟩
def ZON_GC_DIEFAIL : Fld := ⟨.ZON_GC, 7, 0, .tx, 5, .fixed, some (1, 50)⟩
def ZON_REFRESH_RETMAX : Fld := ⟨.ZON_REFRESH, 31, 16, .tx, 4380, .fixed, some (24, 65535)⟩
def ZON_REFRESH_RDLIM : Fld := ⟨.ZON_REFRESH, 15, 0, .tx, 2000, .fixed, some (16, 65535)⟩
def ZON_PATROL_PATROL : Fld := ⟨.ZON_PATROL, 15, 0, .tx, 168, .fixed, some (1, 8760)⟩
def ZON_WARN_SPAREW : Fld := ⟨.ZON_WARN, 31, 24, .tx, 10, .fixed, some (1, 50)⟩
def ZON_WARN_WEARW : Fld := ⟨.ZON_WARN, 23, 16, .tx, 90, .fixed, some (50, 255)⟩
def ZON_WARN_BENCHW : Fld := ⟨.ZON_WARN, 15, 8, .tx, 16, .fixed, some (1, 255)⟩
def ZON_WARN_SPREF : Fld := ⟨.ZON_WARN, 7, 0, .tx, 60, .fixed, some (10, 200)⟩
def ZON_EW_STAT_ACTIVE : Fld := ⟨.ZON_EW_STAT, 9, 0, .ro, 0, .fixed, none⟩
def ZON_DS_HEALTH_MAXPEC : Fld := ⟨.ZON_DS_HEALTH, 63, 48, .ro, 0, .fixed, none⟩
def ZON_DS_HEALTH_AVGPEC : Fld := ⟨.ZON_DS_HEALTH, 47, 32, .ro, 0, .fixed, none⟩
def ZON_DS_HEALTH_MINPEC : Fld := ⟨.ZON_DS_HEALTH, 31, 16, .ro, 0, .fixed, none⟩
def ZON_DS_HEALTH_PU : Fld := ⟨.ZON_DS_HEALTH, 15, 8, .ro, 0, .fixed, none⟩
def ZON_DS_HEALTH_AS : Fld := ⟨.ZON_DS_HEALTH, 7, 0, .ro, 0, .fixed, none⟩
def SEC_STAT_STATE : Fld := ⟨.SEC_STAT, 31, 28, .ro, 0, .fixed, none⟩
def SEC_STAT_TRNG : Fld := ⟨.SEC_STAT, 27, 27, .ro, 0, .fixed, none⟩
def SEC_STAT_STOREA : Fld := ⟨.SEC_STAT, 26, 26, .ro, 0, .fixed, none⟩
def SEC_STAT_STOREB : Fld := ⟨.SEC_STAT, 25, 25, .ro, 0, .fixed, none⟩
def SEC_STAT_CLAIMED : Fld := ⟨.SEC_STAT, 10, 0, .ro, 0, .fixed, none⟩
def SEC_FUSE_SVNFLOOR : Fld := ⟨.SEC_FUSE, 29, 24, .ro, 0, .fuse, none⟩
def SEC_FUSE_KREVOKED : Fld := ⟨.SEC_FUSE, 19, 16, .ro, 0, .fuse, none⟩
def SEC_FUSE_KVALID : Fld := ⟨.SEC_FUSE, 11, 8, .ro, 0, .fuse, none⟩
def SEC_FUSE_PROD : Fld := ⟨.SEC_FUSE, 0, 0, .ro, 0, .fuse, none⟩
def SEC_SEALFAIL_COUNT : Fld := ⟨.SEC_SEALFAIL, 63, 0, .ro, 0, .fixed, none⟩
def SEC_MB_CTL_BUSY : Fld := ⟨.SEC_MB_CTL, 31, 31, .ro, 0, .fixed, none⟩
def SEC_MB_CTL_RESULT : Fld := ⟨.SEC_MB_CTL, 23, 16, .ro, 0, .fixed, none⟩
def SEC_MB_CTL_REQ : Fld := ⟨.SEC_MB_CTL, 7, 0, .wo, 0, .fixed, none⟩
def SEC_MB_DATA_DATA : Fld := ⟨.SEC_MB_DATA, 31, 0, .rw, 0, .fixed, none⟩
def SEC_TN_STATE_PARTNER : Fld := ⟨.SEC_TN_STATE, 25, 16, .ro, 0, .fixed, none⟩
def SEC_TN_STATE_NSOWNED : Fld := ⟨.SEC_TN_STATE, 8, 4, .ro, 0, .fixed, none⟩
def SEC_TN_STATE_PARTNERED : Fld := ⟨.SEC_TN_STATE, 3, 3, .ro, 0, .fixed, none⟩
def SEC_TN_STATE_TKVOL : Fld := ⟨.SEC_TN_STATE, 2, 2, .ro, 0, .fixed, none⟩
def SEC_TN_STATE_LOCKED : Fld := ⟨.SEC_TN_STATE, 1, 1, .ro, 0, .fixed, none⟩
def SEC_TN_STATE_CLAIMED : Fld := ⟨.SEC_TN_STATE, 0, 0, .ro, 0, .fixed, none⟩
def DRM_CFG_RATE : Fld := ⟨.DRM_CFG, 11, 10, .lk, 0, .image, some (0, 2)⟩
def DRM_CFG_DENS : Fld := ⟨.DRM_CFG, 9, 8, .lk, 0, .image, some (0, 1)⟩
def DRM_CFG_WIDTH : Fld := ⟨.DRM_CFG, 7, 7, .lk, 0, .image, none⟩
def DRM_CFG_RANKS : Fld := ⟨.DRM_CFG, 6, 6, .lk, 0, .image, none⟩
def DRM_CFG_CHEN : Fld := ⟨.DRM_CFG, 3, 0, .lk, 0, .image, none⟩
def DRM_STAT_READY : Fld := ⟨.DRM_STAT, 31, 31, .ro, 0, .fixed, none⟩
def DRM_STAT_TRAINED : Fld := ⟨.DRM_STAT, 11, 8, .ro, 0, .fixed, none⟩
def DRM_STAT_MARKED : Fld := ⟨.DRM_STAT, 7, 0, .ro, 0, .fixed, none⟩
def DRM_ECC_AUTOMARK : Fld := ⟨.DRM_ECC, 31, 31, .tx, 1, .fixed, none⟩
def DRM_ECC_DEVWIN : Fld := ⟨.DRM_ECC, 23, 16, .tx, 100, .fixed, some (1, 255)⟩
def DRM_ECC_DEVTHR : Fld := ⟨.DRM_ECC, 15, 0, .tx, 64, .fixed, some (1, 65535)⟩
def DRM_CH_WQ_WMAXAGE : Fld := ⟨.DRM_CH_WQ, 23, 16, .tx, 20, .fixed, some (1, 255)⟩
def DRM_CH_WQ_HIWM : Fld := ⟨.DRM_CH_WQ, 15, 8, .tx, 48, .fixed, some (2, 60)⟩
def DRM_CH_WQ_LOWM : Fld := ⟨.DRM_CH_WQ, 7, 0, .tx, 16, .fixed, some (0, 59)⟩
def DRM_CH_REF_SB : Fld := ⟨.DRM_CH_REF, 5, 5, .tx, 0, .image, none⟩
def DRM_CH_REF_FGR : Fld := ⟨.DRM_CH_REF, 4, 4, .tx, 0, .image, none⟩
def DRM_CH_REF_PPMAX : Fld := ⟨.DRM_CH_REF, 3, 0, .tx, 0, .image, some (0, 8)⟩
def DRM_CH_ACT_DRFM : Fld := ⟨.DRM_CH_ACT, 31, 31, .tx, 1, .fixed, none⟩
def DRM_CH_ACT_RFM : Fld := ⟨.DRM_CH_ACT, 30, 30, .tx, 1, .fixed, none⟩
def DRM_CH_ACT_BR : Fld := ⟨.DRM_CH_ACT, 17, 16, .tx, 1, .fixed, some (1, 2)⟩
def DRM_CH_ACT_NRTHR : Fld := ⟨.DRM_CH_ACT, 15, 0, .tx, 2048, .fixed, some (64, 32768)⟩
def DRM_CH_MNT_ZQINT : Fld := ⟨.DRM_CH_MNT, 31, 16, .tx, 128, .fixed, some (16, 1024)⟩
def DRM_CH_MNT_OSCINT : Fld := ⟨.DRM_CH_MNT, 15, 8, .tx, 32, .fixed, some (1, 255)⟩
def DRM_CH_MNT_OSCTHR : Fld := ⟨.DRM_CH_MNT, 7, 0, .tx, 3, .fixed, some (1, 32)⟩
def DRM_CH_MARK_MV1 : Fld := ⟨.DRM_CH_MARK, 9, 9, .rw, 0, .fixed, none⟩
def DRM_CH_MARK_DEV1 : Fld := ⟨.DRM_CH_MARK, 8, 5, .rw, 0, .fixed, some (0, 9)⟩
def DRM_CH_MARK_MV0 : Fld := ⟨.DRM_CH_MARK, 4, 4, .rw, 0, .fixed, none⟩
def DRM_CH_MARK_DEV0 : Fld := ⟨.DRM_CH_MARK, 3, 0, .rw, 0, .fixed, some (0, 9)⟩
def DRM_MR_CMD_GO : Fld := ⟨.DRM_MR_CMD, 31, 31, .wo, 0, .fixed, none⟩
def DRM_MR_CMD_MRR : Fld := ⟨.DRM_MR_CMD, 30, 30, .rw, 0, .fixed, none⟩
def DRM_MR_CMD_SUB : Fld := ⟨.DRM_MR_CMD, 29, 29, .rw, 0, .fixed, none⟩
def DRM_MR_CMD_RANK : Fld := ⟨.DRM_MR_CMD, 28, 28, .rw, 0, .fixed, none⟩
def DRM_MR_CMD_DEV : Fld := ⟨.DRM_MR_CMD, 27, 24, .rw, 0, .fixed, none⟩
def DRM_MR_CMD_MRA : Fld := ⟨.DRM_MR_CMD, 23, 16, .rw, 0, .fixed, none⟩
def DRM_MR_CMD_WDATA : Fld := ⟨.DRM_MR_CMD, 15, 8, .rw, 0, .fixed, none⟩
def DRM_MR_CMD_RDATA : Fld := ⟨.DRM_MR_CMD, 7, 0, .ro, 0, .fixed, none⟩
def DRM_TRN_CTL_GO : Fld := ⟨.DRM_TRN_CTL, 31, 31, .wo, 0, .fixed, none⟩
def DRM_TRN_CTL_BUSY : Fld := ⟨.DRM_TRN_CTL, 30, 30, .ro, 0, .fixed, none⟩
def DRM_TRN_CTL_SUB : Fld := ⟨.DRM_TRN_CTL, 29, 29, .rw, 0, .fixed, none⟩
def DRM_TRN_CTL_RANK : Fld := ⟨.DRM_TRN_CTL, 28, 28, .rw, 0, .fixed, none⟩
def DRM_TRN_CTL_MODE : Fld := ⟨.DRM_TRN_CTL, 27, 24, .rw, 0, .fixed, some (0, 3)⟩
def DRM_TRN_CTL_COUNT : Fld := ⟨.DRM_TRN_CTL, 23, 0, .rw, 0, .fixed, none⟩
def DRM_TRN_PAT_SRC : Fld := ⟨.DRM_TRN_PAT, 31, 30, .rw, 0, .fixed, none⟩
def DRM_TRN_PAT_INVODD : Fld := ⟨.DRM_TRN_PAT, 29, 29, .rw, 0, .fixed, none⟩
def DRM_TRN_PAT_SEED : Fld := ⟨.DRM_TRN_PAT, 15, 0, .rw, 0, .fixed, none⟩
def DRM_TRN_DLY_SET : Fld := ⟨.DRM_TRN_DLY, 31, 31, .wo, 0, .fixed, none⟩
def DRM_TRN_DLY_KIND : Fld := ⟨.DRM_TRN_DLY, 30, 28, .rw, 0, .fixed, some (0, 6)⟩
def DRM_TRN_DLY_SUB : Fld := ⟨.DRM_TRN_DLY, 27, 27, .rw, 0, .fixed, none⟩
def DRM_TRN_DLY_RANK : Fld := ⟨.DRM_TRN_DLY, 26, 26, .rw, 0, .fixed, none⟩
def DRM_TRN_DLY_LANE : Fld := ⟨.DRM_TRN_DLY, 25, 20, .rw, 0, .fixed, some (0, 39)⟩
def DRM_TRN_DLY_VALUE : Fld := ⟨.DRM_TRN_DLY, 11, 0, .rw, 0, .fixed, none⟩
def DRM_TRN_FAIL_LANES : Fld := ⟨.DRM_TRN_FAIL, 39, 0, .ro, 0, .fixed, none⟩
def DRM_TRN_FIRST_VALID : Fld := ⟨.DRM_TRN_FIRST, 31, 31, .ro, 0, .fixed, none⟩
def DRM_TRN_FIRST_BURST : Fld := ⟨.DRM_TRN_FIRST, 23, 0, .ro, 0, .fixed, none⟩
def DRM_TRN_CAP_DATA : Fld := ⟨.DRM_TRN_CAP, 31, 0, .rw, 0, .fixed, none⟩
def DRM_CH_CNT_COUNT : Fld := ⟨.DRM_CH_CNT, 63, 0, .ro, 0, .fixed, none⟩
def MEM_SRAM_CNT_UE : Fld := ⟨.MEM_SRAM_CNT, 63, 32, .ro, 0, .fixed, none⟩
def MEM_SRAM_CNT_CE : Fld := ⟨.MEM_SRAM_CNT, 31, 0, .ro, 0, .fixed, none⟩
def MEM_SRAM_LASTUE_VALID : Fld := ⟨.MEM_SRAM_LASTUE, 31, 31, .ro, 0, .fixed, none⟩
def MEM_SRAM_LASTUE_OFFSET : Fld := ⟨.MEM_SRAM_LASTUE, 25, 0, .ro, 0, .fixed, none⟩
def MEM_SCR_ADDR_START : Fld := ⟨.MEM_SCR_ADDR, 35, 0, .rw, 0, .fixed, none⟩
def MEM_SCR_LEN_LEN : Fld := ⟨.MEM_SCR_LEN, 36, 0, .rw, 0, .fixed, none⟩
def MEM_SCR_CTL_RATE : Fld := ⟨.MEM_SCR_CTL, 15, 8, .rw, 10, .fixed, some (1, 128)⟩
def MEM_SCR_CTL_TARGET : Fld := ⟨.MEM_SCR_CTL, 2, 2, .rw, 0, .fixed, none⟩
def MEM_SCR_CTL_ABORT : Fld := ⟨.MEM_SCR_CTL, 1, 1, .wo, 0, .fixed, none⟩
def MEM_SCR_CTL_START : Fld := ⟨.MEM_SCR_CTL, 0, 0, .wo, 0, .fixed, none⟩
def MEM_SCR_STAT_BUSY : Fld := ⟨.MEM_SCR_STAT, 31, 31, .ro, 0, .fixed, none⟩
def MEM_SCR_STAT_RESULT : Fld := ⟨.MEM_SCR_STAT, 30, 28, .ro, 0, .fixed, none⟩
def MEM_SCR_STAT_PROGRESS : Fld := ⟨.MEM_SCR_STAT, 6, 0, .ro, 0, .fixed, none⟩
def MEM_SCR_REC_DATA : Fld := ⟨.MEM_SCR_REC, 31, 0, .ro, 0, .fixed, none⟩
def PWR_CMD_LOCKOK : Fld := ⟨.PWR_CMD, 11, 11, .wo, 0, .fixed, none⟩
def PWR_CMD_STATE : Fld := ⟨.PWR_CMD, 9, 8, .wo, 0, .fixed, none⟩
def PWR_CMD_DOMAIN : Fld := ⟨.PWR_CMD, 7, 0, .wo, 0, .fixed, none⟩
def PWR_CMD_STAT_DOMAIN : Fld := ⟨.PWR_CMD_STAT, 15, 8, .ro, 0, .fixed, none⟩
def PWR_CMD_STAT_RESULT : Fld := ⟨.PWR_CMD_STAT, 7, 0, .ro, 0, .fixed, none⟩
def PWR_HS_CFG_HSMAX : Fld := ⟨.PWR_HS_CFG, 7, 0, .tx, 16, .fixed, some (1, 255)⟩
def PWR_ON_ON : Fld := ⟨.PWR_ON, 31, 0, .ro, 0, .fixed, none⟩
def PWR_WAKE_STAT_LEVEL : Fld := ⟨.PWR_WAKE_STAT, 15, 8, .ro, 0, .fixed, none⟩
def PWR_WAKE_STAT_PEND : Fld := ⟨.PWR_WAKE_STAT, 7, 0, .w1c, 0, .fixed, none⟩
def PWR_WAKE_CFG_EN : Fld := ⟨.PWR_WAKE_CFG, 31, 31, .tx, 0, .fixed, none⟩
def PWR_WAKE_CFG_POL : Fld := ⟨.PWR_WAKE_CFG, 30, 30, .tx, 0, .fixed, none⟩
def PWR_WAKE_CFG_EDGE : Fld := ⟨.PWR_WAKE_CFG, 29, 29, .tx, 0, .fixed, none⟩
def PWR_WAKE_CFG_DEB : Fld := ⟨.PWR_WAKE_CFG, 7, 0, .tx, 4, .fixed, some (0, 255)⟩
def PWR_WAKE_SET_DOMS : Fld := ⟨.PWR_WAKE_SET, 31, 0, .tx, 0, .fixed, none⟩
def PWR_DOM_STATE : Fld := ⟨.PWR_DOM, 31, 28, .ro, 0, .fixed, none⟩
def PWR_DOM_TARGET : Fld := ⟨.PWR_DOM, 27, 26, .ro, 0, .fixed, none⟩
def PWR_DOM_AP : Fld := ⟨.PWR_DOM, 25, 23, .ro, 7, .fixed, none⟩
def PWR_DOM_CLASS : Fld := ⟨.PWR_DOM, 22, 19, .ro, 0, .design, none⟩
def PWR_DOM_HS : Fld := ⟨.PWR_DOM, 18, 18, .ro, 0, .design, none⟩
def PWR_DOM_REASON : Fld := ⟨.PWR_DOM, 15, 8, .ro, 0, .fixed, none⟩
def PWR_DOM_RESULT : Fld := ⟨.PWR_DOM, 7, 0, .ro, 0, .fixed, none⟩
def GLB_ID_PART : Fld := ⟨.GLB_ID, 31, 16, .ro, 17408, .fixed, none⟩
def GLB_ID_STEP : Fld := ⟨.GLB_ID, 15, 8, .ro, 16, .fixed, none⟩
def GLB_ID_LAYOUT : Fld := ⟨.GLB_ID, 7, 0, .ro, 1, .fixed, none⟩
def GLB_STAT_LOCKED : Fld := ⟨.GLB_STAT, 31, 31, .ro, 0, .fixed, none⟩
def GLB_STAT_GRADE : Fld := ⟨.GLB_STAT, 30, 30, .ro, 0, .fuse, none⟩
def GLB_STAT_BIFUR : Fld := ⟨.GLB_STAT, 29, 29, .ro, 0, .fixed, none⟩
def GLB_STAT_STAGE : Fld := ⟨.GLB_STAT, 23, 16, .ro, 0, .fixed, none⟩
def GLB_LOCK_LOCK : Fld := ⟨.GLB_LOCK, 0, 0, .w1s, 0, .fixed, none⟩
def GLB_AOTIME_NS : Fld := ⟨.GLB_AOTIME, 63, 0, .ro, 0, .fixed, none⟩
def GLB_CSNCTR_CSN : Fld := ⟨.GLB_CSNCTR, 63, 0, .ro, 0, .fixed, none⟩
def GLB_ESNCTR_ESN : Fld := ⟨.GLB_ESNCTR, 47, 0, .ro, 0, .fixed, none⟩
def GLB_TXN_CTL_SAVE : Fld := ⟨.GLB_TXN_CTL, 3, 3, .wo, 0, .fixed, none⟩
def GLB_TXN_CTL_ABORT : Fld := ⟨.GLB_TXN_CTL, 2, 2, .wo, 0, .fixed, none⟩
def GLB_TXN_CTL_COMMIT : Fld := ⟨.GLB_TXN_CTL, 1, 1, .wo, 0, .fixed, none⟩
def GLB_TXN_CTL_BEGIN : Fld := ⟨.GLB_TXN_CTL, 0, 0, .wo, 0, .fixed, none⟩
def GLB_TXN_STAT_STATE : Fld := ⟨.GLB_TXN_STAT, 31, 29, .ro, 0, .fixed, none⟩
def GLB_TXN_STAT_OWNER : Fld := ⟨.GLB_TXN_STAT, 28, 27, .ro, 0, .fixed, none⟩
def GLB_TXN_STAT_RESULT : Fld := ⟨.GLB_TXN_STAT, 26, 24, .ro, 0, .fixed, none⟩
def GLB_TXN_STAT_TXERR : Fld := ⟨.GLB_TXN_STAT, 19, 19, .w1c, 0, .fixed, none⟩
def GLB_TXN_STAT_BEGINERR : Fld := ⟨.GLB_TXN_STAT, 18, 18, .w1c, 0, .fixed, none⟩
def GLB_TXN_STAT_OWNERR : Fld := ⟨.GLB_TXN_STAT, 17, 17, .w1c, 0, .fixed, none⟩
def GLB_TXN_STAT_CMDERR : Fld := ⟨.GLB_TXN_STAT, 16, 16, .w1c, 0, .fixed, none⟩
def GLB_TXN_STAT_TXNUM : Fld := ⟨.GLB_TXN_STAT, 15, 0, .ro, 0, .fixed, none⟩
def GLB_TXN_TMO_MS : Fld := ⟨.GLB_TXN_TMO, 15, 0, .rw, 1000, .fixed, none⟩
def GLB_TXN_ERR_REASON : Fld := ⟨.GLB_TXN_ERR, 31, 26, .ro, 0, .fixed, none⟩
def GLB_TXN_ERR_OFFSET : Fld := ⟨.GLB_TXN_ERR, 25, 0, .ro, 0, .fixed, none⟩
def EVT_CFG_EN : Fld := ⟨.EVT_CFG, 31, 31, .rw, 0, .fixed, none⟩
def EVT_CFG_PF : Fld := ⟨.EVT_CFG, 30, 30, .rw, 0, .fixed, none⟩
def EVT_CFG_MINSEV : Fld := ⟨.EVT_CFG, 29, 28, .rw, 0, .fixed, none⟩
def EVT_CFG_INTEN : Fld := ⟨.EVT_CFG, 27, 27, .rw, 0, .fixed, none⟩
def EVT_CFG_VEC : Fld := ⟨.EVT_CFG, 22, 16, .rw, 0, .fixed, some (1, 64)⟩
def EVT_CFG_INTCNT : Fld := ⟨.EVT_CFG, 15, 8, .rw, 1, .fixed, some (1, 255)⟩
def EVT_CFG_INTAGE : Fld := ⟨.EVT_CFG, 7, 0, .rw, 10, .fixed, some (1, 255)⟩
def EVT_BASE_BASE : Fld := ⟨.EVT_BASE, 63, 12, .rw, 0, .fixed, none⟩
def EVT_BASE_SIZE : Fld := ⟨.EVT_BASE, 3, 0, .rw, 0, .fixed, some (0, 10)⟩
def EVT_TAILADDR_ADDR : Fld := ⟨.EVT_TAILADDR, 63, 2, .rw, 0, .fixed, none⟩
def EVT_HEAD_HEAD : Fld := ⟨.EVT_HEAD, 15, 0, .rw, 0, .fixed, none⟩
def EVT_TAIL_TAIL : Fld := ⟨.EVT_TAIL, 15, 0, .ro, 0, .fixed, none⟩
def EVT_LOST_COUNT : Fld := ⟨.EVT_LOST, 63, 0, .ro, 0, .fixed, none⟩
def EVT_MASK_MASK : Fld := ⟨.EVT_MASK, 31, 0, .rw, 0, .fixed, none⟩
def FWS_CFG_PROTO : Fld := ⟨.FWS_CFG, 29, 28, .lk, 0, .image, some (0, 2)⟩
def FWS_CFG_DUMMY : Fld := ⟨.FWS_CFG, 27, 24, .lk, 0, .image, some (0, 15)⟩
def FWS_CFG_FREQ : Fld := ⟨.FWS_CFG, 23, 16, .lk, 0, .image, some (25, 200)⟩
def FWS_CFG_RWW : Fld := ⟨.FWS_CFG, 15, 15, .lk, 0, .image, none⟩
def FWS_CFG_BANK : Fld := ⟨.FWS_CFG, 11, 8, .lk, 0, .image, some (0, 9)⟩
def FWS_CFG_SIZE : Fld := ⟨.FWS_CFG, 1, 0, .lk, 0, .image, none⟩
def FWS_STAT_BUSY : Fld := ⟨.FWS_STAT, 31, 31, .ro, 0, .fixed, none⟩
def FWS_STAT_RECOV : Fld := ⟨.FWS_STAT, 30, 30, .ro, 0, .fixed, none⟩
def FWS_STAT_BUSYSEC : Fld := ⟨.FWS_STAT, 27, 16, .ro, 0, .fixed, none⟩
def FWS_STAT_PENDFLAG : Fld := ⟨.FWS_STAT, 7, 0, .ro, 0, .fixed, none⟩
def FWS_CMD_GO : Fld := ⟨.FWS_CMD, 31, 31, .wo, 0, .fixed, none⟩
def FWS_CMD_OP : Fld := ⟨.FWS_CMD, 30, 28, .rw, 0, .fixed, some (0, 2)⟩
def FWS_CMD_LEN : Fld := ⟨.FWS_CMD, 8, 0, .rw, 0, .fixed, some (1, 256)⟩
def FWS_ADDR_ADDR : Fld := ⟨.FWS_ADDR, 28, 0, .rw, 0, .fixed, none⟩
def FWS_RESULT_RESULT : Fld := ⟨.FWS_RESULT, 7, 0, .ro, 0, .fixed, none⟩
def FWS_SLOT_TRIAL : Fld := ⟨.FWS_SLOT, 31, 31, .ro, 0, .fixed, none⟩
def FWS_SLOT_FALLBACK : Fld := ⟨.FWS_SLOT, 30, 30, .ro, 0, .fixed, none⟩
def FWS_SLOT_RUNSVN : Fld := ⟨.FWS_SLOT, 21, 16, .ro, 0, .fixed, none⟩
def FWS_SLOT_PREF : Fld := ⟨.FWS_SLOT, 7, 4, .ro, 0, .fixed, none⟩
def FWS_SLOT_RUN : Fld := ⟨.FWS_SLOT, 3, 0, .ro, 0, .fixed, none⟩
def FWS_FAULT_VALID : Fld := ⟨.FWS_FAULT, 31, 31, .w1c, 0, .fixed, none⟩
def FWS_FAULT_ADDR : Fld := ⟨.FWS_FAULT, 28, 0, .ro, 0, .fixed, none⟩
def FWS_CTL_KEY : Fld := ⟨.FWS_CTL, 15, 8, .wo, 0, .fixed, none⟩
def FWS_CTL_REBOOT : Fld := ⟨.FWS_CTL, 0, 0, .wo, 0, .fixed, none⟩
def FWS_BUF_DATA : Fld := ⟨.FWS_BUF, 31, 0, .rw, 0, .fixed, none⟩

end F

/-- The place of each register (R651 and the register headings). -/
def RegName.place : RegName → Place
  | .RLK_CFG => ⟨0x60000, 0x0, 1, 0x0, 1, false⟩
  | .RLK_CTL => ⟨0x60004, 0x0, 1, 0x0, 1, false⟩
  | .RLK_STAT => ⟨0x60008, 0x0, 1, 0x0, 1, false⟩
  | .RLK_STALLS => ⟨0x60010, 0x0, 1, 0x0, 1, true⟩
  | .RLK_MAXWAIT => ⟨0x60018, 0x0, 1, 0x0, 1, false⟩
  | .RLK_FN_USE => ⟨0x60100, 0x4, 1024, 0x0, 1, false⟩
  | .ZON_STAT => ⟨0x70000, 0x0, 1, 0x0, 1, false⟩
  | .ZON_ERQ => ⟨0x70004, 0x0, 1, 0x0, 1, false⟩
  | .ZON_UNBOUND => ⟨0x70008, 0x0, 1, 0x0, 1, false⟩
  | .ZON_PL_USE => ⟨0x70010, 0x0, 1, 0x0, 1, false⟩
  | .ZON_PL_EPOCH => ⟨0x70014, 0x0, 1, 0x0, 1, false⟩
  | .ZON_DS_STAT => ⟨0x70100, 0x4, 128, 0x0, 1, false⟩
  | .ZON_DS_MAP => ⟨0x71000, 0x100, 128, 0x4, 64, false⟩
  | .ZON_TN_LIM => ⟨0x79000, 0x4, 1024, 0x0, 1, false⟩
  | .ZON_TN_DS => ⟨0x7A000, 0x4, 1024, 0x0, 1, false⟩
  | .BPM_CTL => ⟨0x40000, 0x0, 1, 0x0, 1, false⟩
  | .BPM_LEVEL => ⟨0x40004, 0x0, 1, 0x0, 1, false⟩
  | .BPM_AMBER => ⟨0x40008, 0x0, 1, 0x0, 1, false⟩
  | .BPM_POOL_BASE => ⟨0x40100, 0x40, 6, 0x0, 1, true⟩
  | .BPM_POOL_CNT => ⟨0x40108, 0x40, 6, 0x0, 1, false⟩
  | .BPM_POOL_FREE => ⟨0x4010C, 0x40, 6, 0x0, 1, false⟩
  | .BPM_POOL_AMBER => ⟨0x40110, 0x40, 6, 0x0, 1, false⟩
  | .BPM_POOL_RED => ⟨0x40114, 0x40, 6, 0x0, 1, false⟩
  | .BPM_POOL_STOP => ⟨0x40118, 0x40, 6, 0x0, 1, false⟩
  | .BPM_POOL_HYST => ⟨0x4011C, 0x40, 6, 0x0, 1, false⟩
  | .BPM_TN_RSV => ⟨0x41000, 0x4, 1024, 0x0, 1, false⟩
  | .BPM_CL_RSV => ⟨0x42000, 0x4, 6, 0x0, 1, false⟩
  | .BPM_TN_USE => ⟨0x43000, 0x4, 1024, 0x0, 1, false⟩
  | .CAP_WINSUM => ⟨0x50000, 0x0, 1, 0x0, 1, false⟩
  | .CAP_CFG => ⟨0x51000, 0x80, 64, 0x0, 1, false⟩
  | .CAP_NS => ⟨0x51004, 0x80, 64, 0x0, 1, false⟩
  | .CAP_STALL => ⟨0x51008, 0x80, 64, 0x0, 1, false⟩
  | .CAP_CTL => ⟨0x5100C, 0x80, 64, 0x0, 1, false⟩
  | .CAP_CRPUSH => ⟨0x51010, 0x80, 64, 0x0, 1, true⟩
  | .CAP_ZQ_PUSH => ⟨0x51018, 0x80, 64, 0x0, 1, false⟩
  | .CAP_STAT => ⟨0x5101C, 0x80, 64, 0x0, 1, false⟩
  | .CAP_ARRIVED => ⟨0x51020, 0x80, 64, 0x0, 1, true⟩
  | .CAP_CRLIM => ⟨0x51028, 0x80, 64, 0x0, 1, true⟩
  | .CAP_ACK_ROFF => ⟨0x51030, 0x80, 64, 0x0, 1, true⟩
  | .CAP_ZPOS => ⟨0x51038, 0x80, 64, 0x0, 1, true⟩
  | .CAP_RECORDS => ⟨0x51040, 0x80, 64, 0x0, 1, true⟩
  | .CAP_EVCNT => ⟨0x51048, 0x80, 64, 0x0, 1, true⟩
  | .HLD_CFG => ⟨0x30000, 0x0, 1, 0x0, 1, false⟩
  | .HLD_VOLT => ⟨0x30004, 0x0, 1, 0x0, 1, false⟩
  | .HLD_EFIXED => ⟨0x30008, 0x0, 1, 0x0, 1, false⟩
  | .HLD_CHG => ⟨0x3000C, 0x0, 1, 0x0, 1, false⟩
  | .HLD_VLOSS => ⟨0x30010, 0x0, 1, 0x0, 1, false⟩
  | .HLD_TEST => ⟨0x30014, 0x0, 1, 0x0, 1, false⟩
  | .HLD_ESRMAX => ⟨0x30018, 0x0, 1, 0x0, 1, false⟩
  | .HLD_WARN => ⟨0x3001C, 0x0, 1, 0x0, 1, false⟩
  | .HLD_CTL => ⟨0x30020, 0x0, 1, 0x0, 1, false⟩
  | .HLD_STAT => ⟨0x30030, 0x0, 1, 0x0, 1, false⟩
  | .HLD_TRES => ⟨0x30034, 0x0, 1, 0x0, 1, false⟩
  | .HLD_TTIME => ⟨0x30038, 0x0, 1, 0x0, 1, true⟩
  | .HLD_BUDGET => ⟨0x30040, 0x0, 1, 0x0, 1, false⟩
  | .HLD_RESV => ⟨0x30048, 0x0, 1, 0x0, 1, true⟩
  | .STR_JCFG => ⟨0xD0800, 0x0, 1, 0x0, 1, false⟩
  | .STR_JSTAT => ⟨0xD0804, 0x0, 1, 0x0, 1, false⟩
  | .STR_JPSEQ => ⟨0xD0808, 0x0, 1, 0x0, 1, true⟩
  | .STR_JTAIL => ⟨0xD0810, 0x0, 1, 0x0, 1, false⟩
  | .STR_CSNCEIL => ⟨0xD0818, 0x0, 1, 0x0, 1, true⟩
  | .STR_FLAREA => ⟨0xD0820, 0x0, 1, 0x0, 1, false⟩
  | .STR_LASTFL => ⟨0xD0828, 0x0, 1, 0x0, 1, true⟩
  | .LNK_CTL => ⟨0x100000, 0x10000, 32, 0x0, 1, false⟩
  | .LNK_STAT => ⟨0x100004, 0x10000, 32, 0x0, 1, false⟩
  | .LNK_SYNC => ⟨0x100010, 0x10000, 32, 0x0, 1, false⟩
  | .LNK_FRAME_TMR => ⟨0x100040, 0x10000, 32, 0x0, 1, false⟩
  | .LNK_TAG_TMR0 => ⟨0x100044, 0x10000, 32, 0x0, 1, false⟩
  | .LNK_TAG_TMR1 => ⟨0x100048, 0x10000, 32, 0x0, 1, false⟩
  | .LNK_QUAR => ⟨0x10004C, 0x10000, 32, 0x0, 1, false⟩
  | .LNK_RETRAIN => ⟨0x100050, 0x10000, 32, 0x0, 1, false⟩
  | .LNK_INH => ⟨0x100060, 0x10000, 32, 0x0, 1, false⟩
  | .LNK_INH2 => ⟨0x100064, 0x10000, 32, 0x0, 1, false⟩
  | .LNK_TXEQ => ⟨0x100070, 0x10000, 32, 0x0, 1, false⟩
  | .LNK_BRIDGE_ID => ⟨0x100080, 0x10000, 32, 0x0, 1, true⟩
  | .LNK_DIES => ⟨0x100088, 0x10000, 32, 0x0, 1, true⟩
  | .LNK_CNT => ⟨0x100100, 0x10000, 32, 0x8, 12, true⟩
  | .LNK_CNT_CLR => ⟨0x100200, 0x10000, 32, 0x0, 1, false⟩
  | .DDK_CTL => ⟨0x108000, 0x10000, 32, 0x0, 1, false⟩
  | .DDK_TBL_BASE => ⟨0x108008, 0x10000, 32, 0x0, 1, true⟩
  | .DDK_RET_BIN => ⟨0x108010, 0x10000, 32, 0x0, 1, true⟩
  | .DDK_RET_CFG => ⟨0x108018, 0x10000, 32, 0x0, 1, false⟩
  | .DDK_DECODE => ⟨0x10801C, 0x10000, 32, 0x0, 1, false⟩
  | .DDK_CAL => ⟨0x108020, 0x10000, 32, 0x0, 1, false⟩
  | .DDK_THR => ⟨0x108024, 0x10000, 32, 0x0, 1, false⟩
  | .DDK_SOFTQ => ⟨0x108028, 0x10000, 32, 0x0, 1, false⟩
  | .DDK_CNT => ⟨0x108100, 0x10000, 32, 0x8, 12, true⟩
  | .DDK_CNT_CLR => ⟨0x108200, 0x10000, 32, 0x0, 1, false⟩
  | .STR_RBCFG => ⟨0xD0000, 0x0, 1, 0x0, 1, false⟩
  | .STR_PGMCFG => ⟨0xD0004, 0x0, 1, 0x0, 1, false⟩
  | .STR_RBSTAT => ⟨0xD0008, 0x0, 1, 0x0, 1, false⟩
  | .STR_RBPEND => ⟨0xD000C, 0x0, 1, 0x0, 1, false⟩
  | .STR_RBROWS => ⟨0xD0010, 0x0, 1, 0x0, 1, true⟩
  | .STR_STG => ⟨0xD0018, 0x0, 1, 0x0, 1, false⟩
  | .STR_STGUNITS => ⟨0xD0020, 0x0, 1, 0x0, 1, true⟩
  | .STR_LOSTCNT => ⟨0xD0028, 0x0, 1, 0x0, 1, true⟩
  | .STR_CNT => ⟨0xD0100, 0x8, 11, 0x0, 1, true⟩
  | .STR_CNT_CLR => ⟨0xD0200, 0x0, 1, 0x0, 1, false⟩
  | .SCH_CTL => ⟨0x80000, 0x0, 1, 0x0, 1, false⟩
  | .SCH_WIN => ⟨0x80004, 0x0, 1, 0x0, 1, false⟩
  | .SCH_SUSP => ⟨0x80008, 0x0, 1, 0x0, 1, false⟩
  | .SCH_PGM => ⟨0x8000C, 0x0, 1, 0x0, 1, false⟩
  | .SCH_SLALOM => ⟨0x80010, 0x0, 1, 0x0, 1, false⟩
  | .SCH_BENCH => ⟨0x80014, 0x0, 1, 0x0, 1, false⟩
  | .SCH_SNOW => ⟨0x80018, 0x0, 1, 0x0, 1, false⟩
  | .SCH_DIEWR => ⟨0x8001C, 0x0, 1, 0x0, 1, false⟩
  | .SCH_BSTAT => ⟨0x80020, 0x0, 1, 0x0, 1, false⟩
  | .SCH_LMON_CFG => ⟨0x80040, 0x0, 1, 0x0, 1, false⟩
  | .SCH_LMON_TOTAL => ⟨0x80048, 0x0, 1, 0x0, 1, true⟩
  | .SCH_LMON_OVER => ⟨0x80050, 0x0, 1, 0x0, 1, true⟩
  | .SCH_LMON_MAX => ⟨0x80058, 0x0, 1, 0x0, 1, false⟩
  | .SCH_TN_CFG => ⟨0x81000, 0x20, 1024, 0x0, 1, false⟩
  | .SCH_TN_RCAP => ⟨0x81004, 0x20, 1024, 0x0, 1, false⟩
  | .SCH_TN_WCAP => ⟨0x81008, 0x20, 1024, 0x0, 1, false⟩
  | .SCH_TN_RFLR => ⟨0x8100C, 0x20, 1024, 0x0, 1, false⟩
  | .SCH_TN_WFLR => ⟨0x81010, 0x20, 1024, 0x0, 1, false⟩
  | .SCH_TN_STAT => ⟨0x81014, 0x20, 1024, 0x0, 1, false⟩
  | .SCH_DIE => ⟨0x89000, 0x8, 2048, 0x0, 1, true⟩
  | .SCH_DS_SNOW => ⟨0x8D000, 0x4, 128, 0x0, 1, false⟩
  | .SCH_LINK => ⟨0x8D400, 0x4, 32, 0x0, 1, false⟩
  | .ZON_SYSBLK => ⟨0x70040, 0x0, 1, 0x0, 1, false⟩
  | .ZON_CKPT => ⟨0x70044, 0x0, 1, 0x0, 1, false⟩
  | .ZON_CKSTAT => ⟨0x70048, 0x0, 1, 0x0, 1, false⟩
  | .ZON_CKSEQ1 => ⟨0x70050, 0x0, 1, 0x0, 1, true⟩
  | .ZON_CKSEQ2 => ⟨0x70058, 0x0, 1, 0x0, 1, true⟩
  | .ZON_GC => ⟨0x70060, 0x0, 1, 0x0, 1, false⟩
  | .ZON_REFRESH => ⟨0x70064, 0x0, 1, 0x0, 1, false⟩
  | .ZON_PATROL => ⟨0x70068, 0x0, 1, 0x0, 1, false⟩
  | .ZON_WARN => ⟨0x7006C, 0x0, 1, 0x0, 1, false⟩
  | .ZON_EW_STAT => ⟨0x70070, 0x0, 1, 0x0, 1, false⟩
  | .ZON_DS_HEALTH => ⟨0x7B000, 0x8, 128, 0x0, 1, true⟩
  | .SEC_STAT => ⟨0xB0000, 0x0, 1, 0x0, 1, false⟩
  | .SEC_FUSE => ⟨0xB0004, 0x0, 1, 0x0, 1, false⟩
  | .SEC_SEALFAIL => ⟨0xB0008, 0x0, 1, 0x0, 1, true⟩
  | .SEC_MB_CTL => ⟨0xB0010, 0x0, 1, 0x0, 1, false⟩
  | .SEC_MB_DATA => ⟨0xB0100, 0x4, 64, 0x0, 1, false⟩
  | .SEC_TN_STATE => ⟨0xB1000, 0x4, 1024, 0x0, 1, false⟩
  | .DRM_CFG => ⟨0x90000, 0x0, 1, 0x0, 1, false⟩
  | .DRM_STAT => ⟨0x90004, 0x0, 1, 0x0, 1, false⟩
  | .DRM_ECC => ⟨0x90008, 0x0, 1, 0x0, 1, false⟩
  | .DRM_CH_WQ => ⟨0x91000, 0x1000, 4, 0x0, 1, false⟩
  | .DRM_CH_REF => ⟨0x91004, 0x1000, 4, 0x0, 1, false⟩
  | .DRM_CH_ACT => ⟨0x91008, 0x1000, 4, 0x0, 1, false⟩
  | .DRM_CH_MNT => ⟨0x9100C, 0x1000, 4, 0x0, 1, false⟩
  | .DRM_CH_MARK => ⟨0x91010, 0x1000, 4, 0x0, 1, false⟩
  | .DRM_MR_CMD => ⟨0x91020, 0x1000, 4, 0x0, 1, false⟩
  | .DRM_TRN_CTL => ⟨0x91024, 0x1000, 4, 0x0, 1, false⟩
  | .DRM_TRN_PAT => ⟨0x91028, 0x1000, 4, 0x0, 1, false⟩
  | .DRM_TRN_DLY => ⟨0x91030, 0x1000, 4, 0x0, 1, false⟩
  | .DRM_TRN_FAIL => ⟨0x91038, 0x1000, 4, 0x0, 1, true⟩
  | .DRM_TRN_FIRST => ⟨0x91040, 0x1000, 4, 0x0, 1, false⟩
  | .DRM_TRN_CAP => ⟨0x91080, 0x1000, 4, 0x4, 20, false⟩
  | .DRM_CH_CNT => ⟨0x91200, 0x1000, 4, 0x8, 10, true⟩
  | .MEM_SRAM_CNT => ⟨0xA0000, 0x0, 1, 0x0, 1, true⟩
  | .MEM_SRAM_LASTUE => ⟨0xA0008, 0x0, 1, 0x0, 1, false⟩
  | .MEM_SCR_ADDR => ⟨0xA0010, 0x0, 1, 0x0, 1, true⟩
  | .MEM_SCR_LEN => ⟨0xA0018, 0x0, 1, 0x0, 1, true⟩
  | .MEM_SCR_CTL => ⟨0xA0020, 0x0, 1, 0x0, 1, false⟩
  | .MEM_SCR_STAT => ⟨0xA0024, 0x0, 1, 0x0, 1, false⟩
  | .MEM_SCR_REC => ⟨0xA0100, 0x4, 64, 0x0, 1, false⟩
  | .PWR_CMD => ⟨0x20000, 0x0, 1, 0x0, 1, false⟩
  | .PWR_CMD_STAT => ⟨0x20004, 0x0, 1, 0x0, 1, false⟩
  | .PWR_HS_CFG => ⟨0x20008, 0x0, 1, 0x0, 1, false⟩
  | .PWR_ON => ⟨0x20010, 0x4, 5, 0x0, 1, false⟩
  | .PWR_WAKE_STAT => ⟨0x20030, 0x0, 1, 0x0, 1, false⟩
  | .PWR_WAKE_CFG => ⟨0x20040, 0x4, 8, 0x0, 1, false⟩
  | .PWR_WAKE_SET => ⟨0x20100, 0x20, 8, 0x4, 5, false⟩
  | .PWR_DOM => ⟨0x21000, 0x4, 148, 0x0, 1, false⟩
  | .GLB_ID => ⟨0x0, 0x0, 1, 0x0, 1, false⟩
  | .GLB_STAT => ⟨0x4, 0x0, 1, 0x0, 1, false⟩
  | .GLB_LOCK => ⟨0x8, 0x0, 1, 0x0, 1, false⟩
  | .GLB_AOTIME => ⟨0x10, 0x0, 1, 0x0, 1, true⟩
  | .GLB_CSNCTR => ⟨0x18, 0x0, 1, 0x0, 1, true⟩
  | .GLB_ESNCTR => ⟨0x20, 0x0, 1, 0x0, 1, true⟩
  | .GLB_TXN_CTL => ⟨0x100, 0x0, 1, 0x0, 1, false⟩
  | .GLB_TXN_STAT => ⟨0x104, 0x0, 1, 0x0, 1, false⟩
  | .GLB_TXN_TMO => ⟨0x108, 0x0, 1, 0x0, 1, false⟩
  | .GLB_TXN_ERR => ⟨0x10C, 0x0, 1, 0x0, 1, false⟩
  | .EVT_CFG => ⟨0x10000, 0x100, 2, 0x0, 1, false⟩
  | .EVT_BASE => ⟨0x10008, 0x100, 2, 0x0, 1, true⟩
  | .EVT_TAILADDR => ⟨0x10010, 0x100, 2, 0x0, 1, true⟩
  | .EVT_HEAD => ⟨0x10018, 0x100, 2, 0x0, 1, false⟩
  | .EVT_TAIL => ⟨0x1001C, 0x100, 2, 0x0, 1, false⟩
  | .EVT_LOST => ⟨0x10020, 0x100, 2, 0x0, 1, true⟩
  | .EVT_MASK => ⟨0x10080, 0x100, 2, 0x4, 32, false⟩
  | .FWS_CFG => ⟨0xC0000, 0x0, 1, 0x0, 1, false⟩
  | .FWS_STAT => ⟨0xC0004, 0x0, 1, 0x0, 1, false⟩
  | .FWS_CMD => ⟨0xC0008, 0x0, 1, 0x0, 1, false⟩
  | .FWS_ADDR => ⟨0xC000C, 0x0, 1, 0x0, 1, false⟩
  | .FWS_RESULT => ⟨0xC0010, 0x0, 1, 0x0, 1, false⟩
  | .FWS_SLOT => ⟨0xC0014, 0x0, 1, 0x0, 1, false⟩
  | .FWS_FAULT => ⟨0xC0018, 0x0, 1, 0x0, 1, false⟩
  | .FWS_CTL => ⟨0xC0020, 0x0, 1, 0x0, 1, false⟩
  | .FWS_BUF => ⟨0xC0100, 0x4, 64, 0x0, 1, false⟩

/-- The named fields of each register, from the highest bit down; the bits no field names are reserved (R11). -/
def RegName.fields : RegName → List Fld
  | .RLK_CFG => [F.RLK_CFG_FN_CAP, F.RLK_CFG_FN_RSV]
  | .RLK_CTL => [F.RLK_CTL_STAT_CLR]
  | .RLK_STAT => [F.RLK_STAT_HIWAT, F.RLK_STAT_INUSE]
  | .RLK_STALLS => [F.RLK_STALLS_STALLS]
  | .RLK_MAXWAIT => [F.RLK_MAXWAIT_MAXWAIT]
  | .RLK_FN_USE => [F.RLK_FN_USE_USE]
  | .ZON_STAT => [F.ZON_STAT_ACTIVE, F.ZON_STAT_OPEN]
  | .ZON_ERQ => [F.ZON_ERQ_BLOCKS]
  | .ZON_UNBOUND => [F.ZON_UNBOUND_COUNT]
  | .ZON_PL_USE => [F.ZON_PL_USE_RESERVED]
  | .ZON_PL_EPOCH => [F.ZON_PL_EPOCH_EPOCH_GIB]
  | .ZON_DS_STAT => [F.ZON_DS_STAT_PKGS, F.ZON_DS_STAT_FREE]
  | .ZON_DS_MAP => [F.ZON_DS_MAP_DIES]
  | .ZON_TN_LIM => [F.ZON_TN_LIM_ACT, F.ZON_TN_LIM_OPEN]
  | .ZON_TN_DS => [F.ZON_TN_DS_VALID, F.ZON_TN_DS_DSNUM]
  | .BPM_CTL => [F.BPM_CTL_NOM]
  | .BPM_LEVEL => [F.BPM_LEVEL_DEV, F.BPM_LEVEL_POOL]
  | .BPM_AMBER => [F.BPM_AMBER_RATE]
  | .BPM_POOL_BASE => [F.BPM_POOL_BASE_BASE]
  | .BPM_POOL_CNT => [F.BPM_POOL_CNT_CNT]
  | .BPM_POOL_FREE => [F.BPM_POOL_FREE_FREE]
  | .BPM_POOL_AMBER => [F.BPM_POOL_AMBER_THR]
  | .BPM_POOL_RED => [F.BPM_POOL_RED_THR]
  | .BPM_POOL_STOP => [F.BPM_POOL_STOP_THR]
  | .BPM_POOL_HYST => [F.BPM_POOL_HYST_HYST]
  | .BPM_TN_RSV => [F.BPM_TN_RSV_W, F.BPM_TN_RSV_SRSV, F.BPM_TN_RSV_DRSV]
  | .BPM_CL_RSV => [F.BPM_CL_RSV_SRSV, F.BPM_CL_RSV_DRSV]
  | .BPM_TN_USE => [F.BPM_TN_USE_USE]
  | .CAP_WINSUM => [F.CAP_WINSUM_MIB]
  | .CAP_CFG => [F.CAP_CFG_PEERCHK, F.CAP_CFG_PF, F.CAP_CFG_WIN, F.CAP_CFG_ZQLOW, F.CAP_CFG_PEERID]
  | .CAP_NS => [F.CAP_NS_NSID]
  | .CAP_STALL => [F.CAP_STALL_MS]
  | .CAP_CTL => [F.CAP_CTL_CLR, F.CAP_CTL_RELEASE, F.CAP_CTL_ARM]
  | .CAP_CRPUSH => [F.CAP_CRPUSH_ADDR, F.CAP_CRPUSH_EN]
  | .CAP_ZQ_PUSH => [F.CAP_ZQ_PUSH_ZONE]
  | .CAP_STAT => [F.CAP_STAT_STATE, F.CAP_STAT_FAULT, F.CAP_STAT_ERR, F.CAP_STAT_ZQ]
  | .CAP_ARRIVED => [F.CAP_ARRIVED_A]
  | .CAP_CRLIM => [F.CAP_CRLIM_CRLIM]
  | .CAP_ACK_ROFF => [F.CAP_ACK_ROFF_ACK_ROFF]
  | .CAP_ZPOS => [F.CAP_ZPOS_ZONE, F.CAP_ZPOS_ACKB]
  | .CAP_RECORDS => [F.CAP_RECORDS_RECORDS]
  | .CAP_EVCNT => [F.CAP_EVCNT_TRUNC, F.CAP_EVCNT_CONT, F.CAP_EVCNT_SEQGAP, F.CAP_EVCNT_DISCARD]
  | .HLD_CFG => [F.HLD_CFG_STRINGS, F.HLD_CFG_MARGIN, F.HLD_CFG_CAP_MIB]
  | .HLD_VOLT => [F.HLD_VOLT_VCHG, F.HLD_VOLT_VFLOOR]
  | .HLD_EFIXED => [F.HLD_EFIXED_MJ]
  | .HLD_CHG => [F.HLD_CHG_MA]
  | .HLD_VLOSS => [F.HLD_VLOSS_DG, F.HLD_VLOSS_V]
  | .HLD_TEST => [F.HLD_TEST_PERIOD, F.HLD_TEST_DV, F.HLD_TEST_IMA]
  | .HLD_ESRMAX => [F.HLD_ESRMAX_MOHM]
  | .HLD_WARN => [F.HLD_WARN_MIB]
  | .HLD_CTL => [F.HLD_CTL_KEY, F.HLD_CTL_FORCE, F.HLD_CTL_TEST]
  | .HLD_STAT => [F.HLD_STAT_STATE, F.HLD_STAT_WT, F.HLD_STAT_LINKS, F.HLD_STAT_VBANK]
  | .HLD_TRES => [F.HLD_TRES_CUF, F.HLD_TRES_ESR, F.HLD_TRES_RESULT]
  | .HLD_TTIME => [F.HLD_TTIME_NS]
  | .HLD_BUDGET => [F.HLD_BUDGET_LIMIT, F.HLD_BUDGET_B]
  | .HLD_RESV => [F.HLD_RESV_BYTES]
  | .STR_JCFG => [F.STR_JCFG_JPAGE, F.STR_JCFG_JBLK, F.STR_JCFG_JPKGB, F.STR_JCFG_JPKGA]
  | .STR_JSTAT => [F.STR_JSTAT_AOK, F.STR_JSTAT_BOK, F.STR_JSTAT_REEST, F.STR_JSTAT_FREEA, F.STR_JSTAT_FREEB]
  | .STR_JPSEQ => [F.STR_JPSEQ_PSEQ]
  | .STR_JTAIL => [F.STR_JTAIL_SLOTS]
  | .STR_CSNCEIL => [F.STR_CSNCEIL_CEIL]
  | .STR_FLAREA => [F.STR_FLAREA_FLCAP, F.STR_FLAREA_A1CLEAN, F.STR_FLAREA_A0CLEAN, F.STR_FLAREA_NEXT]
  | .STR_LASTFL => [F.STR_LASTFL_INCOMPLETE, F.STR_LASTFL_LOST, F.STR_LASTFL_UNITS]
  | .LNK_CTL => [F.LNK_CTL_RESETBR, F.LNK_CTL_RETRAIN, F.LNK_CTL_LANES, F.LNK_CTL_EN]
  | .LNK_STAT => [F.LNK_STAT_STATE, F.LNK_STAT_UP1, F.LNK_STAT_UP0, F.LNK_STAT_INH, F.LNK_STAT_PHASE, F.LNK_STAT_OUT]
  | .LNK_SYNC => [F.LNK_SYNC_TOL]
  | .LNK_FRAME_TMR => [F.LNK_FRAME_TMR_TDSET, F.LNK_FRAME_TMR_FLMARGIN]
  | .LNK_TAG_TMR0 => [F.LNK_TAG_TMR0_TREAD, F.LNK_TAG_TMR0_TSHORT]
  | .LNK_TAG_TMR1 => [F.LNK_TAG_TMR1_TERASE, F.LNK_TAG_TMR1_TPROG]
  | .LNK_QUAR => [F.LNK_QUAR_QUAR]
  | .LNK_RETRAIN => [F.LNK_RETRAIN_CRCN, F.LNK_RETRAIN_WIN, F.LNK_RETRAIN_TOUTN, F.LNK_RETRAIN_ATTEMPTS]
  | .LNK_INH => [F.LNK_INH_VMIN, F.LNK_INH_THYST, F.LNK_INH_TMAX]
  | .LNK_INH2 => [F.LNK_INH2_LWIN, F.LNK_INH2_LERR, F.LNK_INH2_TSUSPMIN]
  | .LNK_TXEQ => [F.LNK_TXEQ_DN1, F.LNK_TXEQ_DN0, F.LNK_TXEQ_UP1, F.LNK_TXEQ_UP0]
  | .LNK_BRIDGE_ID => [F.LNK_BRIDGE_ID_BOOTCNT, F.LNK_BRIDGE_ID_ID]
  | .LNK_DIES => [F.LNK_DIES_DIES]
  | .LNK_CNT => [F.LNK_CNT_COUNT]
  | .LNK_CNT_CLR => [F.LNK_CNT_CLR_CLR]
  | .DDK_CTL => [F.DDK_CTL_CALEN, F.DDK_CTL_SOFTEN, F.DDK_CTL_EN]
  | .DDK_TBL_BASE => [F.DDK_TBL_BASE_BASE]
  | .DDK_RET_BIN => [F.DDK_RET_BIN_RB3, F.DDK_RET_BIN_RB2, F.DDK_RET_BIN_RB1]
  | .DDK_RET_CFG => [F.DDK_RET_CFG_UNK, F.DDK_RET_CFG_TREF, F.DDK_RET_CFG_TDBL, F.DDK_RET_CFG_OFFMUL]
  | .DDK_DECODE => [F.DDK_DECODE_HITER, F.DDK_DECODE_SITER, F.DDK_DECODE_SQWAIT]
  | .DDK_CAL => [F.DDK_CAL_PERIOD, F.DDK_CAL_STEP]
  | .DDK_THR => [F.DDK_THR_RECALBITS, F.DDK_THR_SOFTFIRST]
  | .DDK_SOFTQ => [F.DDK_SOFTQ_ENG, F.DDK_SOFTQ_WAIT]
  | .DDK_CNT => [F.DDK_CNT_COUNT]
  | .DDK_CNT_CLR => [F.DDK_CNT_CLR_CLR]
  | .STR_RBCFG => [F.STR_RBCFG_RBSHARE, F.STR_RBCFG_RBEN]
  | .STR_PGMCFG => [F.STR_PGMCFG_INHWAIT]
  | .STR_RBSTAT => [F.STR_RBSTAT_ACTIVE, F.STR_RBSTAT_MEMBER, F.STR_RBSTAT_SETID]
  | .STR_RBPEND => [F.STR_RBPEND_SETS]
  | .STR_RBROWS => [F.STR_RBROWS_TOTAL, F.STR_RBROWS_DONE]
  | .STR_STG => [F.STR_STG_BOUND]
  | .STR_STGUNITS => [F.STR_STGUNITS_UNITS]
  | .STR_LOSTCNT => [F.STR_LOSTCNT_COUNT]
  | .STR_CNT => [F.STR_CNT_COUNT]
  | .STR_CNT_CLR => [F.STR_CNT_CLR_CLR]
  | .SCH_CTL => [F.SCH_CTL_BENCHEN, F.SCH_CTL_RECEN, F.SCH_CTL_SUSPE, F.SCH_CTL_SUSPP]
  | .SCH_WIN => [F.SCH_WIN_AGE, F.SCH_WIN_MAINT, F.SCH_WIN_WIN]
  | .SCH_SUSP => [F.SCH_SUSP_SUSPMAX, F.SCH_SUSP_RQMAX, F.SCH_SUSP_SUSPHOLD]
  | .SCH_PGM => [F.SCH_PGM_PGMWAIT, F.SCH_PGM_SUSPINIT]
  | .SCH_SLALOM => [F.SCH_SLALOM_RECOVH, F.SCH_SLALOM_DECODE]
  | .SCH_BENCH => [F.SCH_BENCH_K, F.SCH_BENCH_UNK, F.SCH_BENCH_EWSHIFT, F.SCH_BENCH_BENCHN, F.SCH_BENCH_BENCHMAX]
  | .SCH_SNOW => [F.SCH_SNOW_FMIN, F.SCH_SNOW_HYST, F.SCH_SNOW_FLOOR]
  | .SCH_DIEWR => [F.SCH_DIEWR_DIEWR]
  | .SCH_BSTAT => [F.SCH_BSTAT_HELD, F.SCH_BSTAT_BENCHED]
  | .SCH_LMON_CFG => [F.SCH_LMON_CFG_EN, F.SCH_LMON_CFG_KIND, F.SCH_LMON_CFG_THR]
  | .SCH_LMON_TOTAL => [F.SCH_LMON_TOTAL_TOTAL]
  | .SCH_LMON_OVER => [F.SCH_LMON_OVER_OVER]
  | .SCH_LMON_MAX => [F.SCH_LMON_MAX_MAX]
  | .SCH_TN_CFG => [F.SCH_TN_CFG_WT, F.SCH_TN_CFG_RDEPTH, F.SCH_TN_CFG_WDEPTH, F.SCH_TN_CFG_MINCLS]
  | .SCH_TN_RCAP => [F.SCH_TN_RCAP_BW, F.SCH_TN_RCAP_IOPS]
  | .SCH_TN_WCAP => [F.SCH_TN_WCAP_BW, F.SCH_TN_WCAP_IOPS]
  | .SCH_TN_RFLR => [F.SCH_TN_RFLR_BW, F.SCH_TN_RFLR_IOPS]
  | .SCH_TN_WFLR => [F.SCH_TN_WFLR_BW, F.SCH_TN_WFLR_IOPS]
  | .SCH_TN_STAT => [F.SCH_TN_STAT_RUF, F.SCH_TN_STAT_WUF, F.SCH_TN_STAT_WAITING]
  | .SCH_DIE => [F.SCH_DIE_STATE, F.SCH_DIE_SUSPN, F.SCH_DIE_PGM, F.SCH_DIE_SUSPLAT, F.SCH_DIE_RR]
  | .SCH_DS_SNOW => [F.SCH_DS_SNOW_ACTIVE, F.SCH_DS_SNOW_F]
  | .SCH_LINK => [F.SCH_LINK_BENCHED, F.SCH_LINK_RR]
  | .ZON_SYSBLK => [F.ZON_SYSBLK_SYSBLK]
  | .ZON_CKPT => [F.ZON_CKPT_CK2GIB, F.ZON_CKPT_CKBUF, F.ZON_CKPT_CK1MIN]
  | .ZON_CKSTAT => [F.ZON_CKSTAT_ACT1, F.ZON_CKSTAT_ACT2, F.ZON_CKSTAT_COPY]
  | .ZON_CKSEQ1 => [F.ZON_CKSEQ1_SEQ]
  | .ZON_CKSEQ2 => [F.ZON_CKSEQ2_SEQ]
  | .ZON_GC => [F.ZON_GC_VALIDMAX, F.ZON_GC_GCSTOP, F.ZON_GC_GCSTART, F.ZON_GC_DIEFAIL]
  | .ZON_REFRESH => [F.ZON_REFRESH_RETMAX, F.ZON_REFRESH_RDLIM]
  | .ZON_PATROL => [F.ZON_PATROL_PATROL]
  | .ZON_WARN => [F.ZON_WARN_SPAREW, F.ZON_WARN_WEARW, F.ZON_WARN_BENCHW, F.ZON_WARN_SPREF]
  | .ZON_EW_STAT => [F.ZON_EW_STAT_ACTIVE]
  | .ZON_DS_HEALTH => [F.ZON_DS_HEALTH_MAXPEC, F.ZON_DS_HEALTH_AVGPEC, F.ZON_DS_HEALTH_MINPEC, F.ZON_DS_HEALTH_PU, F.ZON_DS_HEALTH_AS]
  | .SEC_STAT => [F.SEC_STAT_STATE, F.SEC_STAT_TRNG, F.SEC_STAT_STOREA, F.SEC_STAT_STOREB, F.SEC_STAT_CLAIMED]
  | .SEC_FUSE => [F.SEC_FUSE_SVNFLOOR, F.SEC_FUSE_KREVOKED, F.SEC_FUSE_KVALID, F.SEC_FUSE_PROD]
  | .SEC_SEALFAIL => [F.SEC_SEALFAIL_COUNT]
  | .SEC_MB_CTL => [F.SEC_MB_CTL_BUSY, F.SEC_MB_CTL_RESULT, F.SEC_MB_CTL_REQ]
  | .SEC_MB_DATA => [F.SEC_MB_DATA_DATA]
  | .SEC_TN_STATE => [F.SEC_TN_STATE_PARTNER, F.SEC_TN_STATE_NSOWNED, F.SEC_TN_STATE_PARTNERED, F.SEC_TN_STATE_TKVOL, F.SEC_TN_STATE_LOCKED, F.SEC_TN_STATE_CLAIMED]
  | .DRM_CFG => [F.DRM_CFG_RATE, F.DRM_CFG_DENS, F.DRM_CFG_WIDTH, F.DRM_CFG_RANKS, F.DRM_CFG_CHEN]
  | .DRM_STAT => [F.DRM_STAT_READY, F.DRM_STAT_TRAINED, F.DRM_STAT_MARKED]
  | .DRM_ECC => [F.DRM_ECC_AUTOMARK, F.DRM_ECC_DEVWIN, F.DRM_ECC_DEVTHR]
  | .DRM_CH_WQ => [F.DRM_CH_WQ_WMAXAGE, F.DRM_CH_WQ_HIWM, F.DRM_CH_WQ_LOWM]
  | .DRM_CH_REF => [F.DRM_CH_REF_SB, F.DRM_CH_REF_FGR, F.DRM_CH_REF_PPMAX]
  | .DRM_CH_ACT => [F.DRM_CH_ACT_DRFM, F.DRM_CH_ACT_RFM, F.DRM_CH_ACT_BR, F.DRM_CH_ACT_NRTHR]
  | .DRM_CH_MNT => [F.DRM_CH_MNT_ZQINT, F.DRM_CH_MNT_OSCINT, F.DRM_CH_MNT_OSCTHR]
  | .DRM_CH_MARK => [F.DRM_CH_MARK_MV1, F.DRM_CH_MARK_DEV1, F.DRM_CH_MARK_MV0, F.DRM_CH_MARK_DEV0]
  | .DRM_MR_CMD => [F.DRM_MR_CMD_GO, F.DRM_MR_CMD_MRR, F.DRM_MR_CMD_SUB, F.DRM_MR_CMD_RANK, F.DRM_MR_CMD_DEV, F.DRM_MR_CMD_MRA, F.DRM_MR_CMD_WDATA, F.DRM_MR_CMD_RDATA]
  | .DRM_TRN_CTL => [F.DRM_TRN_CTL_GO, F.DRM_TRN_CTL_BUSY, F.DRM_TRN_CTL_SUB, F.DRM_TRN_CTL_RANK, F.DRM_TRN_CTL_MODE, F.DRM_TRN_CTL_COUNT]
  | .DRM_TRN_PAT => [F.DRM_TRN_PAT_SRC, F.DRM_TRN_PAT_INVODD, F.DRM_TRN_PAT_SEED]
  | .DRM_TRN_DLY => [F.DRM_TRN_DLY_SET, F.DRM_TRN_DLY_KIND, F.DRM_TRN_DLY_SUB, F.DRM_TRN_DLY_RANK, F.DRM_TRN_DLY_LANE, F.DRM_TRN_DLY_VALUE]
  | .DRM_TRN_FAIL => [F.DRM_TRN_FAIL_LANES]
  | .DRM_TRN_FIRST => [F.DRM_TRN_FIRST_VALID, F.DRM_TRN_FIRST_BURST]
  | .DRM_TRN_CAP => [F.DRM_TRN_CAP_DATA]
  | .DRM_CH_CNT => [F.DRM_CH_CNT_COUNT]
  | .MEM_SRAM_CNT => [F.MEM_SRAM_CNT_UE, F.MEM_SRAM_CNT_CE]
  | .MEM_SRAM_LASTUE => [F.MEM_SRAM_LASTUE_VALID, F.MEM_SRAM_LASTUE_OFFSET]
  | .MEM_SCR_ADDR => [F.MEM_SCR_ADDR_START]
  | .MEM_SCR_LEN => [F.MEM_SCR_LEN_LEN]
  | .MEM_SCR_CTL => [F.MEM_SCR_CTL_RATE, F.MEM_SCR_CTL_TARGET, F.MEM_SCR_CTL_ABORT, F.MEM_SCR_CTL_START]
  | .MEM_SCR_STAT => [F.MEM_SCR_STAT_BUSY, F.MEM_SCR_STAT_RESULT, F.MEM_SCR_STAT_PROGRESS]
  | .MEM_SCR_REC => [F.MEM_SCR_REC_DATA]
  | .PWR_CMD => [F.PWR_CMD_LOCKOK, F.PWR_CMD_STATE, F.PWR_CMD_DOMAIN]
  | .PWR_CMD_STAT => [F.PWR_CMD_STAT_DOMAIN, F.PWR_CMD_STAT_RESULT]
  | .PWR_HS_CFG => [F.PWR_HS_CFG_HSMAX]
  | .PWR_ON => [F.PWR_ON_ON]
  | .PWR_WAKE_STAT => [F.PWR_WAKE_STAT_LEVEL, F.PWR_WAKE_STAT_PEND]
  | .PWR_WAKE_CFG => [F.PWR_WAKE_CFG_EN, F.PWR_WAKE_CFG_POL, F.PWR_WAKE_CFG_EDGE, F.PWR_WAKE_CFG_DEB]
  | .PWR_WAKE_SET => [F.PWR_WAKE_SET_DOMS]
  | .PWR_DOM => [F.PWR_DOM_STATE, F.PWR_DOM_TARGET, F.PWR_DOM_AP, F.PWR_DOM_CLASS, F.PWR_DOM_HS, F.PWR_DOM_REASON, F.PWR_DOM_RESULT]
  | .GLB_ID => [F.GLB_ID_PART, F.GLB_ID_STEP, F.GLB_ID_LAYOUT]
  | .GLB_STAT => [F.GLB_STAT_LOCKED, F.GLB_STAT_GRADE, F.GLB_STAT_BIFUR, F.GLB_STAT_STAGE]
  | .GLB_LOCK => [F.GLB_LOCK_LOCK]
  | .GLB_AOTIME => [F.GLB_AOTIME_NS]
  | .GLB_CSNCTR => [F.GLB_CSNCTR_CSN]
  | .GLB_ESNCTR => [F.GLB_ESNCTR_ESN]
  | .GLB_TXN_CTL => [F.GLB_TXN_CTL_SAVE, F.GLB_TXN_CTL_ABORT, F.GLB_TXN_CTL_COMMIT, F.GLB_TXN_CTL_BEGIN]
  | .GLB_TXN_STAT => [F.GLB_TXN_STAT_STATE, F.GLB_TXN_STAT_OWNER, F.GLB_TXN_STAT_RESULT, F.GLB_TXN_STAT_TXERR, F.GLB_TXN_STAT_BEGINERR, F.GLB_TXN_STAT_OWNERR, F.GLB_TXN_STAT_CMDERR, F.GLB_TXN_STAT_TXNUM]
  | .GLB_TXN_TMO => [F.GLB_TXN_TMO_MS]
  | .GLB_TXN_ERR => [F.GLB_TXN_ERR_REASON, F.GLB_TXN_ERR_OFFSET]
  | .EVT_CFG => [F.EVT_CFG_EN, F.EVT_CFG_PF, F.EVT_CFG_MINSEV, F.EVT_CFG_INTEN, F.EVT_CFG_VEC, F.EVT_CFG_INTCNT, F.EVT_CFG_INTAGE]
  | .EVT_BASE => [F.EVT_BASE_BASE, F.EVT_BASE_SIZE]
  | .EVT_TAILADDR => [F.EVT_TAILADDR_ADDR]
  | .EVT_HEAD => [F.EVT_HEAD_HEAD]
  | .EVT_TAIL => [F.EVT_TAIL_TAIL]
  | .EVT_LOST => [F.EVT_LOST_COUNT]
  | .EVT_MASK => [F.EVT_MASK_MASK]
  | .FWS_CFG => [F.FWS_CFG_PROTO, F.FWS_CFG_DUMMY, F.FWS_CFG_FREQ, F.FWS_CFG_RWW, F.FWS_CFG_BANK, F.FWS_CFG_SIZE]
  | .FWS_STAT => [F.FWS_STAT_BUSY, F.FWS_STAT_RECOV, F.FWS_STAT_BUSYSEC, F.FWS_STAT_PENDFLAG]
  | .FWS_CMD => [F.FWS_CMD_GO, F.FWS_CMD_OP, F.FWS_CMD_LEN]
  | .FWS_ADDR => [F.FWS_ADDR_ADDR]
  | .FWS_RESULT => [F.FWS_RESULT_RESULT]
  | .FWS_SLOT => [F.FWS_SLOT_TRIAL, F.FWS_SLOT_FALLBACK, F.FWS_SLOT_RUNSVN, F.FWS_SLOT_PREF, F.FWS_SLOT_RUN]
  | .FWS_FAULT => [F.FWS_FAULT_VALID, F.FWS_FAULT_ADDR]
  | .FWS_CTL => [F.FWS_CTL_KEY, F.FWS_CTL_REBOOT]
  | .FWS_BUF => [F.FWS_BUF_DATA]

/-- The registers whose mnemonic begins RLK. -/
def regsRLK : List RegName := [.RLK_CFG, .RLK_CTL, .RLK_STAT, .RLK_STALLS, .RLK_MAXWAIT, .RLK_FN_USE]

/-- The registers whose mnemonic begins ZON. -/
def regsZON : List RegName := [.ZON_STAT, .ZON_ERQ, .ZON_UNBOUND, .ZON_PL_USE, .ZON_PL_EPOCH, .ZON_DS_STAT, .ZON_DS_MAP, .ZON_TN_LIM, .ZON_TN_DS, .ZON_SYSBLK, .ZON_CKPT, .ZON_CKSTAT, .ZON_CKSEQ1, .ZON_CKSEQ2, .ZON_GC, .ZON_REFRESH, .ZON_PATROL, .ZON_WARN, .ZON_EW_STAT, .ZON_DS_HEALTH]

/-- The registers whose mnemonic begins BPM. -/
def regsBPM : List RegName := [.BPM_CTL, .BPM_LEVEL, .BPM_AMBER, .BPM_POOL_BASE, .BPM_POOL_CNT, .BPM_POOL_FREE, .BPM_POOL_AMBER, .BPM_POOL_RED, .BPM_POOL_STOP, .BPM_POOL_HYST, .BPM_TN_RSV, .BPM_CL_RSV, .BPM_TN_USE]

/-- The registers whose mnemonic begins CAP. -/
def regsCAP : List RegName := [.CAP_WINSUM, .CAP_CFG, .CAP_NS, .CAP_STALL, .CAP_CTL, .CAP_CRPUSH, .CAP_ZQ_PUSH, .CAP_STAT, .CAP_ARRIVED, .CAP_CRLIM, .CAP_ACK_ROFF, .CAP_ZPOS, .CAP_RECORDS, .CAP_EVCNT]

/-- The registers whose mnemonic begins HLD. -/
def regsHLD : List RegName := [.HLD_CFG, .HLD_VOLT, .HLD_EFIXED, .HLD_CHG, .HLD_VLOSS, .HLD_TEST, .HLD_ESRMAX, .HLD_WARN, .HLD_CTL, .HLD_STAT, .HLD_TRES, .HLD_TTIME, .HLD_BUDGET, .HLD_RESV]

/-- The registers whose mnemonic begins STR. -/
def regsSTR : List RegName := [.STR_JCFG, .STR_JSTAT, .STR_JPSEQ, .STR_JTAIL, .STR_CSNCEIL, .STR_FLAREA, .STR_LASTFL, .STR_RBCFG, .STR_PGMCFG, .STR_RBSTAT, .STR_RBPEND, .STR_RBROWS, .STR_STG, .STR_STGUNITS, .STR_LOSTCNT, .STR_CNT, .STR_CNT_CLR]

/-- The registers whose mnemonic begins LNK. -/
def regsLNK : List RegName := [.LNK_CTL, .LNK_STAT, .LNK_SYNC, .LNK_FRAME_TMR, .LNK_TAG_TMR0, .LNK_TAG_TMR1, .LNK_QUAR, .LNK_RETRAIN, .LNK_INH, .LNK_INH2, .LNK_TXEQ, .LNK_BRIDGE_ID, .LNK_DIES, .LNK_CNT, .LNK_CNT_CLR]

/-- The registers whose mnemonic begins DDK. -/
def regsDDK : List RegName := [.DDK_CTL, .DDK_TBL_BASE, .DDK_RET_BIN, .DDK_RET_CFG, .DDK_DECODE, .DDK_CAL, .DDK_THR, .DDK_SOFTQ, .DDK_CNT, .DDK_CNT_CLR]

/-- The registers whose mnemonic begins SCH. -/
def regsSCH : List RegName := [.SCH_CTL, .SCH_WIN, .SCH_SUSP, .SCH_PGM, .SCH_SLALOM, .SCH_BENCH, .SCH_SNOW, .SCH_DIEWR, .SCH_BSTAT, .SCH_LMON_CFG, .SCH_LMON_TOTAL, .SCH_LMON_OVER, .SCH_LMON_MAX, .SCH_TN_CFG, .SCH_TN_RCAP, .SCH_TN_WCAP, .SCH_TN_RFLR, .SCH_TN_WFLR, .SCH_TN_STAT, .SCH_DIE, .SCH_DS_SNOW, .SCH_LINK]

/-- The registers whose mnemonic begins SEC. -/
def regsSEC : List RegName := [.SEC_STAT, .SEC_FUSE, .SEC_SEALFAIL, .SEC_MB_CTL, .SEC_MB_DATA, .SEC_TN_STATE]

/-- The registers whose mnemonic begins DRM. -/
def regsDRM : List RegName := [.DRM_CFG, .DRM_STAT, .DRM_ECC, .DRM_CH_WQ, .DRM_CH_REF, .DRM_CH_ACT, .DRM_CH_MNT, .DRM_CH_MARK, .DRM_MR_CMD, .DRM_TRN_CTL, .DRM_TRN_PAT, .DRM_TRN_DLY, .DRM_TRN_FAIL, .DRM_TRN_FIRST, .DRM_TRN_CAP, .DRM_CH_CNT]

/-- The registers whose mnemonic begins MEM. -/
def regsMEM : List RegName := [.MEM_SRAM_CNT, .MEM_SRAM_LASTUE, .MEM_SCR_ADDR, .MEM_SCR_LEN, .MEM_SCR_CTL, .MEM_SCR_STAT, .MEM_SCR_REC]

/-- The registers whose mnemonic begins PWR. -/
def regsPWR : List RegName := [.PWR_CMD, .PWR_CMD_STAT, .PWR_HS_CFG, .PWR_ON, .PWR_WAKE_STAT, .PWR_WAKE_CFG, .PWR_WAKE_SET, .PWR_DOM]

/-- The registers whose mnemonic begins GLB. -/
def regsGLB : List RegName := [.GLB_ID, .GLB_STAT, .GLB_LOCK, .GLB_AOTIME, .GLB_CSNCTR, .GLB_ESNCTR, .GLB_TXN_CTL, .GLB_TXN_STAT, .GLB_TXN_TMO, .GLB_TXN_ERR]

/-- The registers whose mnemonic begins EVT. -/
def regsEVT : List RegName := [.EVT_CFG, .EVT_BASE, .EVT_TAILADDR, .EVT_HEAD, .EVT_TAIL, .EVT_LOST, .EVT_MASK]

/-- The registers whose mnemonic begins FWS. -/
def regsFWS : List RegName := [.FWS_CFG, .FWS_STAT, .FWS_CMD, .FWS_ADDR, .FWS_RESULT, .FWS_SLOT, .FWS_FAULT, .FWS_CTL, .FWS_BUF]

/-- Every register of the Setup Window. -/
def RegName.all : List RegName :=
  regsRLK ++ regsZON ++ regsBPM ++ regsCAP ++ regsHLD ++ regsSTR ++ regsLNK ++ regsDDK ++ regsSCH ++ regsSEC ++ regsDRM ++ regsMEM ++ regsPWR ++ regsGLB ++ regsEVT ++ regsFWS

end Sys2Proof.Machine
end

