-- ==== Sys2Proof/Machine/StWindow.lean ====
section
/-!
DEFINITION. The state of the fabric's own registers: the Setup Window's register file with its latches and held dwords
(R8, R9, R10), the configuration transaction (R654 to R660), and the event fabric with its two rings and the tenant
event logs (R662 to R675).
-/

namespace Sys2Proof.Machine

/-- The configuration transaction: GLB_TXN_STAT, GLB_TXN_ERR, and what R655 and R658 need. -/
structure Txn where
  /-- 0 none open, 1 open, 2 validating, 3 saving, 4 applying (GLB_TXN_STAT.STATE). -/
  state : Nat
  /-- 0 PF0, 1 PF1, 2 firmware, 3 management endpoint (GLB_TXN_STAT.OWNER). -/
  owner : Nat
  result : Nat
  txnum : Nat
  txerr : Bool
  beginerr : Bool
  ownerr : Bool
  cmderr : Bool
  reason : Nat
  offset : Nat
  /-- SAVE of the commit in progress (R658). -/
  save : Bool
  /-- GLB_AOTIME of the last owner write, for the timeout of R655. -/
  lastWrite : Nat
  deriving DecidableEq, Repr

/-- The Setup Window's register file: the fields that software writes (RW, TX and LK), each register at its offset; an
offset with no entry holds its Reset value (R13). -/
structure Window where
  regs : AMap Word64
  /-- The configuration image whose words the img fields take; none before start-up has loaded one (R13, R681). -/
  img : Option Nat
  /-- Shadow copies of the open transaction (R655). -/
  shadow : AMap Word64
  /-- Latched high dwords, by agent and register (R8, R10). -/
  latch : AMap Word32
  /-- Held low dwords, by agent and register (R9, R10). -/
  held : AMap Word32
  txn : Txn
  /-- GLB_LOCK.LOCK (R12). -/
  locked : Bool
  deriving DecidableEq, Repr

/-- A record on its way from its source to the fabric (R664). -/
structure EvRec where
  src : Nat
  code : Nat
  sev : Nat
  /-- The tenant of a record marked T (R666, R674). -/
  tenant : Option Nat
  /-- The 16 payload bytes as one little-endian number (R665). -/
  pay : Nat
  time : Nat
  /-- Names this record to the log entries that carry its ESN (R126, R440). -/
  tag : Nat
  /-- Written to this ring whatever its filters (R670, R673). -/
  only : Option Nat
  /-- Not held for this ring (R673). -/
  except : Option Nat
  deriving DecidableEq, Repr

/-- An event record with its ESN (R662). -/
structure EvOut where
  esn : Nat
  src : Nat
  code : Nat
  sev : Nat
  time : Nat
  pay : Nat
  deriving DecidableEq, Repr

/-- An event ring: what is not in EVT_CFG, EVT_BASE, EVT_TAILADDR, EVT_HEAD and EVT_MASK (R668 to R673). -/
structure EvRing where
  /-- Records held for the ring, oldest first (R670). -/
  hold : List EvOut
  tail : Nat
  /-- EVT_LOST. -/
  lost : Nat
  /-- Records lost since the last code 0 record of source 0x001, and the first lost ESN (R670). -/
  lostNow : Nat
  firstLost : Nat
  /-- Records unsignalled (R671). -/
  unsig : Nat
  deriving DecidableEq, Repr

/-- A Tenant Event log, log page 0xC5 (R674, R675). -/
structure TenantLog where
  total : Nat
  entries : List EvOut
  overflow : Bool
  /-- An asynchronous event has been posted and the log not read since (R675). -/
  posted : Bool
  deriving DecidableEq, Repr

/-- The event fabric. -/
structure Events where
  /-- Records sent by sources and not yet at the fabric, oldest first. -/
  pend : List EvRec
  /-- The epoch in use, which the vault store keeps, and the count within it (R663). -/
  epoch : Nat
  count : Nat
  ring0 : EvRing
  ring1 : EvRing
  logs : AMap TenantLog
  /-- ESNs by record tag, for log entries that name their event. -/
  esns : AMap Nat
  nextTag : Nat
  deriving DecidableEq, Repr

def Txn.reset : Txn := ⟨0, 0, 0, 0, false, false, false, false, 0, 0, false, 0⟩

def EvRing.reset : EvRing := ⟨[], 0, 0, 0, 0, 0⟩

def TenantLog.empty : TenantLog := ⟨0, [], false, false⟩

def Window.reset : Window := ⟨[], none, [], [], [], Txn.reset, false⟩

def Events.reset : Events := ⟨[], 0, 0, EvRing.reset, EvRing.reset, [], [], 0⟩

end Sys2Proof.Machine
end

