-- ==== Sys2Proof/Machine/State.lean ====
section
/-!
DEFINITION. The machine's state: one structure for each island, the queue of waiting commands, and the counter from which
free values are drawn; why a step can fault or be refused; and the state after reset.
-/

namespace Sys2Proof.Machine

/-- The state of the part, one field for each island (spec/01_architecture.md). -/
structure State where
  /-- The always-on island. -/
  ao : AlwaysOn
  /-- The Setup Window's register file and configuration transaction. -/
  win : Window
  /-- The event fabric and its rings. -/
  ev : Events
  /-- The host ports, functions, queues and commands in flight. -/
  host : HostSide
  /-- The Colander. -/
  col : Colander
  /-- The buffer pool manager. -/
  bpm : Bpm
  /-- The capture rings. -/
  cap : Capture
  /-- The hold-up controller and the flush areas. -/
  hld : Holdup
  /-- The Stripe Intent Journal and the CSN counter. -/
  jnl : Journal
  /-- The zone and placement engines. -/
  zon : Zones
  /-- The stripe engine. -/
  str : Stripes
  /-- The scheduler. -/
  sch : Sched
  /-- The link units' sequencers. -/
  lnk : Links
  /-- The Didrinak front ends and soft engines. -/
  ddk : Didrinak
  /-- Media management. -/
  med : Media
  /-- The security vault. -/
  sec : Vault
  /-- The DRAM controller. -/
  drm : Dram
  /-- The power domain controller and the wake block. -/
  pwr : Power
  /-- Start-up and the firmware store. -/
  boot : Boot
  /-- Supplies, pins, clocks and temperature. -/
  brd : Board
  /-- The management endpoint. -/
  mgt : Mgmt
  /-- The model's own: how many free values have been drawn. -/
  free : Nat
  /-- The commands that wait, first in, first out. -/
  pending : List Instr
  deriving DecidableEq, Repr

/-- Why a step can stop with a fault. -/
inductive Fault where
  /-- An access named a DRAM address at or beyond the populated capacity, which R588 says does not exist. Raised by
  DRAM_WRITE_REQUEST and DRAM_READ_REQUEST. Safe: the spec gives such an access no effect. -/
  | noSuchDramAddress (addr : Nat)
  deriving DecidableEq, Repr

/-- Why a command can be refused. -/
inductive Refusal where
  /-- The command has no meaning in the model yet. Safe: the machine stops. -/
  | notModelled (mnemonic : String)
  deriving DecidableEq, Repr

/-- What a meaning answers. -/
abbrev Outcome := Host.Outcome State Fault Refusal

/-- The part as power-on reset leaves it (R13). -/
def State.reset : State :=
  { ao := AlwaysOn.reset, win := Window.reset, ev := Events.reset, host := HostSide.reset, col := Colander.reset,
    bpm := Bpm.reset, cap := Capture.reset, hld := Holdup.reset, jnl := Journal.reset, zon := Zones.reset, str
    := Stripes.reset, sch := Sched.reset, lnk := Links.reset, ddk := Didrinak.reset, med := Media.reset, sec
    := Vault.reset, drm := Dram.reset, pwr := Power.reset, boot := Boot.reset, brd := Board.reset, mgt :=
    Mgmt.reset, free := 0, pending := [] }

/-- Replace the field ao. -/
def State.withAo (s : State) (v : AlwaysOn) : State := { s with ao := v }

/-- Replace the field win. -/
def State.withWin (s : State) (v : Window) : State := { s with win := v }

/-- Replace the field ev. -/
def State.withEv (s : State) (v : Events) : State := { s with ev := v }

/-- Replace the field host. -/
def State.withHost (s : State) (v : HostSide) : State := { s with host := v }

/-- Replace the field col. -/
def State.withCol (s : State) (v : Colander) : State := { s with col := v }

/-- Replace the field bpm. -/
def State.withBpm (s : State) (v : Bpm) : State := { s with bpm := v }

/-- Replace the field cap. -/
def State.withCap (s : State) (v : Capture) : State := { s with cap := v }

/-- Replace the field hld. -/
def State.withHld (s : State) (v : Holdup) : State := { s with hld := v }

/-- Replace the field jnl. -/
def State.withJnl (s : State) (v : Journal) : State := { s with jnl := v }

/-- Replace the field zon. -/
def State.withZon (s : State) (v : Zones) : State := { s with zon := v }

/-- Replace the field str. -/
def State.withStr (s : State) (v : Stripes) : State := { s with str := v }

/-- Replace the field sch. -/
def State.withSch (s : State) (v : Sched) : State := { s with sch := v }

/-- Replace the field lnk. -/
def State.withLnk (s : State) (v : Links) : State := { s with lnk := v }

/-- Replace the field ddk. -/
def State.withDdk (s : State) (v : Didrinak) : State := { s with ddk := v }

/-- Replace the field med. -/
def State.withMed (s : State) (v : Media) : State := { s with med := v }

/-- Replace the field sec. -/
def State.withSec (s : State) (v : Vault) : State := { s with sec := v }

/-- Replace the field drm. -/
def State.withDrm (s : State) (v : Dram) : State := { s with drm := v }

/-- Replace the field pwr. -/
def State.withPwr (s : State) (v : Power) : State := { s with pwr := v }

/-- Replace the field boot. -/
def State.withBoot (s : State) (v : Boot) : State := { s with boot := v }

/-- Replace the field brd. -/
def State.withBrd (s : State) (v : Board) : State := { s with brd := v }

/-- Replace the field mgt. -/
def State.withMgt (s : State) (v : Mgmt) : State := { s with mgt := v }

/-- Replace the field free. -/
def State.withFree (s : State) (v : Nat) : State := { s with free := v }

/-- Replace the field pending. -/
def State.withPending (s : State) (v : List Instr) : State := { s with pending := v }

end Sys2Proof.Machine
end

