-- ==== Sys2Proof/Machine/Regs.lean ====
section
/-!
DEFINITION. The named operations over the Setup Window's register file: finding the register at an offset, reading a
field, and the one operation that stores a register.
-/

namespace Sys2Proof.Machine

/-- A register of the Setup Window: its name and its indices. -/
structure RegRef where
  reg : RegName
  i : Nat
  j : Nat
  deriving DecidableEq, Repr

/-- The register's offset in the Setup Window (R651). -/
def RegRef.off (r : RegRef) : Nat := r.reg.place.base + r.i * r.reg.place.s1 + r.j * r.reg.place.s2

/-- Its width in bytes (R6). -/
def RegRef.size (r : RegRef) : Nat := if r.reg.place.wide then 8 else 4

/-- The index along one dimension that an offset within it falls at. -/
def splitIx (d s n : Nat) : Option (Nat × Nat) :=
  if s = 0 then some (0, d) else if d / s < n then some (d / s, d % s) else none

/-- The register of one name that an offset falls in, and whether in its high dword. -/
def RegName.at? (r : RegName) (off : Nat) : Option (RegRef × Bool) :=
  let p := r.place
  if off < p.base then none
  else
    match splitIx (off - p.base) p.s1 p.n1 with
    | none => none
    | some (i, d) =>
      match splitIx d p.s2 p.n2 with
      | none => none
      | some (j, d) =>
        if d < 4 then some (⟨r, i, j⟩, false)
        else if p.wide && d < 8 then some (⟨r, i, j⟩, true)
        else none

/-- The register that an offset falls in; none for an offset that no block defines (R652). -/
def locate (off : Nat) : Option (RegRef × Bool) := RegName.all.findSome? fun r => r.at? off

/-- The fields of a register that software stores (RW, TX and LK of R12), as a mask. -/
def Fld.mask (f : Fld) : Nat := ones f.hi f.lo

def Acc.stored : Acc → Bool
  | .rw | .tx | .lk => true
  | .ro | .wo | .w1c | .w1s => false

/-- The mask of the fields with an access code that passes a test. -/
def RegName.maskOf (r : RegName) (p : Acc → Bool) : Nat :=
  (r.fields.filter fun f => p f.acc).foldl (fun m f => m ||| f.mask) 0

def RegName.storeMask (r : RegName) : Nat := r.maskOf Acc.stored

/-- The Reset column's value of the stored fields (R13); an img field reads zero until start-up loads it. -/
def RegName.resetWord (r : RegName) : Nat :=
  (r.fields.filter fun f => f.acc.stored).foldl (fun v f => v + f.reset * 2 ^ f.lo) 0

/-- The mask of the fields whose Reset is img. -/
def RegName.imgMask (r : RegName) : Nat := (r.fields.filter fun f => f.src == .image).foldl (fun m f => m ||| f.mask) 0

/-- The stored fields of a register that holds its Reset value: an img field's is the loaded image's. -/
def Window.defaultWord (w : Window) (r : RegRef) : Nat :=
  match w.img with
  | none => r.reg.resetWord
  | some id => if r.reg.imgMask = 0 then r.reg.resetWord else r.reg.resetWord ||| (Config.imageWord id r.off &&& r.reg.imgMask)

/-- The stored fields of a register. -/
def State.regWord (s : State) (r : RegRef) : Nat :=
  match s.win.regs.get? r.off with
  | some v => v.toNat
  | none => s.win.defaultWord r

/-- The committed value of a stored field of an array register. -/
def State.fld (s : State) (f : Fld) (i : Nat := 0) (j : Nat := 0) : Nat := bits (s.regWord ⟨f.reg, i, j⟩) f.hi f.lo

/-- Is a one-bit field set? -/
def State.flag (s : State) (f : Fld) (i : Nat := 0) (j : Nat := 0) : Bool := s.fld f i j == 1

/-- The one operation that stores a register: only the bits of its stored fields are kept, so a reserved field reads as
zero (R11). -/
def Window.put (w : Window) (r : RegRef) (v : Nat) : Window :=
  { w with regs := w.regs.ins r.off (BitVec.ofNat 64 (v &&& r.reg.storeMask)) }

def State.putReg (s : State) (r : RegRef) (v : Nat) : State := s.withWin (s.win.put r v)

/-- Store one field of a register. -/
def State.putFld (s : State) (f : Fld) (i j x : Nat) : State :=
  s.putReg ⟨f.reg, i, j⟩ (putBits (s.regWord ⟨f.reg, i, j⟩) f.hi f.lo x)

def offOf (r : RegName) (i : Nat := 0) (j : Nat := 0) : Nat := RegRef.off ⟨r, i, j⟩

/-- Is a field inside its stated range in a word (R745)? -/
def Fld.inRange (f : Fld) (word : Nat) : Bool :=
  match f.range with
  | none => true
  | some (a, b) => a ≤ bits word f.hi f.lo && bits word f.hi f.lo ≤ b

/-- Does a word put an RW field of a register outside its stated range (R745)? -/
def outOfRange (r : RegName) (v : Nat) : Bool := r.fields.any fun f => f.acc == .rw && !f.inRange v

/-- A word with the bits of a mask taken from another word. -/
def merge (old new mask : Nat) : Nat := (old - (old &&& mask)) + (new &&& mask)

/-- A register's word built from field values, for the registers whose fields are read only. -/
def packed (l : List (Fld × Nat)) : Nat :=
  l.foldl (fun v p => v + (sat (p.1.hi + 1 - p.1.lo) p.2) * 2 ^ p.1.lo) 0

end Sys2Proof.Machine
end

