-- ==== Sys2Proof/Machine/Ops.lean ====
section
/-!
DEFINITION. The shared operations that every family uses: drawing a free value, raising an event, drawing a Commit Sequence
Number, appending to the Stripe Intent Journal, and asking for Holdup Budget credit.
-/

namespace Sys2Proof.Machine

/-- Draw a free value: the count moves on. -/
def State.drew (s : State) : State := s.withFree (s.free + 1)

/-- A diagnostic cause or consumer code of an event: the spec fixes no value but 0 for none (R748). The caller moves the count on. -/
def State.diagCode (s : State) : Nat := 1 + Config.freeNat s.free % 255

/-! ### Events (R662 to R667) -/

/-- Payload fields of the given widths in bytes, packed from byte 0; a value beyond its width saturates (R665). -/
def packPayload : List (Nat × Nat) → Nat
  | [] => 0
  | (w, v) :: l => sat (8 * w) v + 2 ^ (8 * w) * packPayload l

/-- A source sends a record to the fabric (R664). -/
def Events.post (e : Events) (r : EvRec) : Events :=
  { e with pend := e.pend ++ [{ r with tag := e.nextTag }], nextTag := e.nextTag + 1 }

/-- Raise an event: source, code, severity, payload fields as (width, value). -/
def State.raise (s : State) (src code sev : Nat) (pay : List (Nat × Nat)) : State :=
  s.withEv (s.ev.post
    { src := src, code := code, sev := sev, tenant := none, pay := packPayload pay, time := s.ao.time, tag := 0,
      only := none, except := none })

/-- Raise an event marked T: the tenant is the first payload field (R666, R674). -/
def State.raiseT (s : State) (src code sev tenant : Nat) (pay : List (Nat × Nat)) : State :=
  s.withEv (s.ev.post
    { src := src, code := code, sev := sev, tenant := some tenant, pay := packPayload ((2, tenant) :: pay),
      time := s.ao.time, tag := 0, only := none, except := none })

/-- The tag that the next record raised will carry. -/
def State.nextTag (s : State) : Nat := s.ev.nextTag

/-- The event of a discarded register write (R745, R655, R704): source 0x000, code 1. -/
def agentCode : Agent → Nat
  | .pf0 => 0
  | .pf1 => 1
  | .core _ => 2
  | .mgmt => 3

def State.raiseDiscarded (s : State) (off : Nat) (a : Agent) : State :=
  s.raise 0 1 1 [(4, off), (1, agentCode a)]

/-! ### Holdup Budget credit requests (R250, R251) -/

/-- Bytes of credit of one unit: data, check field and index entry (R250). -/
def unitCredit : Nat := 4192

def State.askCredit (s : State) (who : CreditWho) (bytes : Nat) : State :=
  s.withHld { s.hld with queue := s.hld.queue ++ [⟨who, bytes⟩] }

/-! ### The Stripe Intent Journal (R268 to R271) -/

/-- Record slots of 64 bytes (R270). -/
def JBody.slots : JBody → Nat
  | .zone .. => 2
  | .superBind .. => 2
  | _ => 1

/-- Slots used by the records of the open page. -/
def Journal.openUsed (j : Journal) : Nat := (j.recs.filter fun r => r.page.isNone).foldl (fun n r => n + r.body.slots) 0

/-- Close the open page: it waits to be programmed on both copies (R273). -/
def Journal.closePage (j : Journal) : Journal :=
  match j.openFirst with
  | none => j
  | some f =>
    let seq := j.pseq + j.pages.length + 1
    { j with
      pages := j.pages ++ [{ seq := seq, first := f, used := j.openUsed, void := false }]
      recs := j.recs.map fun r => if r.page.isNone then { r with page := some seq } else r
      openFirst := none }

/-- Put a record in the open page, which holds 255 slots and is programmed when it is full (R273). -/
def Journal.append (j : Journal) (tenant csn time : Nat) (b : JBody) : Journal :=
  let j := if 255 < j.openUsed + b.slots then j.closePage else j
  let seq := j.nextSeq
  let j := { j with
    recs := j.recs ++ [{ seq := seq, tenant := tenant, csn := csn, body := b, credit := false, onBoth := false, page := none, buf := none }]
    nextSeq := (seq + 1) % 2 ^ 32
    openFirst := some (j.openFirst.getD seq)
    openTime := if j.openFirst.isSome then j.openTime else time }
  if j.openUsed = 255 then j.closePage else j

/-- The journal's owner tag (R208). -/
def ownerJournal : Nat := 0x442

/-- Append a record: it takes the next record sequence number, joins the open page, and asks for the granule of its copy (R202) and for credit; in
write-through mode it asks for no credit (R255, R268, R273). -/
def State.journal (s : State) (tenant csn : Nat) (b : JBody) : State :=
  let seq := s.jnl.nextSeq
  let s := s.withJnl (s.jnl.append tenant csn s.ao.time b)
  let s := s.withBpm { s.bpm with waits := s.bpm.waits ++ [⟨0, ownerJournal, .record seq⟩] }
  if s.hld.wt then s else s.askCredit (.record seq) (64 * b.slots)

/-- A record is durable once it holds credit or is on both copies (R272). -/
def JRec.durable (r : JRec) : Bool := r.credit || r.onBoth

/-- Is the record with this sequence number durable? A record dropped after a checkpoint is on both copies. -/
def State.durable (s : State) (seq : Nat) : Bool :=
  match s.jnl.recs.find? (fun r => r.seq == seq) with
  | some r => r.durable
  | none => true

/-! ### Commit Sequence Numbers (R24, R25) -/

/-- The step from one ceiling to the next: 2^24 (R25). -/
def ceilStep : Nat := 2 ^ 24

/-- Before the counter reaches the ceiling, journal a ceiling 2^24 higher, once (R25). -/
def State.raiseCeiling (s : State) (n : Nat) : State :=
  if s.jnl.ceilPend.isNone && s.jnl.ceiling < s.jnl.csn + n + ceilStep / 2 then
    let c := s.jnl.ceiling + ceilStep
    let s := s.journal 0xFFFF c .ceiling
    s.withJnl { s.jnl with ceilPend := some c }
  else s

/-- Numbers below the ceiling kept back for zone records that the controller itself appends and that cannot wait: a move to Read Only and a
capture bind and a capture release, of each zone at most once between two commands that waited for csnReady (R25, R27; DESIGN CHOICE, log entry 146). -/
def csnKept : Nat := 2 ^ 22

/-- Has a domain's agent granted an entry that has neither completed nor been abandoned (R641)? -/
def State.granted (s : State) (d : Nat) : Bool :=
  match s.pwr.doms.get? d with
  | some x => x.st == .entering && decide (1 ≤ x.ap) && decide (x.ap ≤ 4)
  | none => false

/-- The hold-up controller or the stripe-journal SRAM has granted an entry: work that takes credit, appends records or opens stripes waits
(R641). -/
def State.logHeld (s : State) : Bool := s.granted 137 || s.granted 134

/-- Can the counter give n numbers and stay within the durable ceiling? Not while the records that go with them must wait (R641). -/
def State.csnReady (s : State) (n : Nat) : Bool := s.jnl.csn + n + csnKept ≤ s.jnl.ceiling && !s.logHeld

/-- Take n consecutive CSNs, and journal a new ceiling if the counter nears it (R24 to R26). The caller has checked csnReady;
the lowest is the counter's present value. -/
def State.takeCsns (s : State) (n : Nat) : State :=
  (s.withJnl { s.jnl with csn := s.jnl.csn + n }).raiseCeiling 0

/-! ### What the part sends outward -/

def State.send (s : State) (o : HostOut) : State := s.withHost { s.host with out := o :: s.host.out }

end Sys2Proof.Machine
end

