-- ==== Sys2Proof/Machine/Geometry.lean ====
section
/-!
DEFINITION. Dies, blocks, die sets and member sets: code bands and unit slots (R147, R148, R359 to R361), the Block
Information Table (R490), die sets (R142 to R144), the choice of a member set (R149, R150), and what a die set owes (R156).
-/

namespace Sys2Proof.Machine

/-- The package, and so the link, of a global die: 32 links of 64 dies (R50). -/
def pkgOf (die : Nat) : Nat := die / 64

/-- The key of a block in the Block Information Table (R490). -/
def blkKey (die block : Nat) : Nat := die * 8192 + block

/-- The key of a unit on flash: global die, block and unit slot as PLOC orders them (R405). -/
def flashKey (die block slot : Nat) : Nat := die * 2 ^ 28 + block * 2 ^ 15 + slot

/-- Units per 4-page group of a code band (R354). -/
def bandUnits : Nat → Nat
  | 0 => 17
  | 1 => 16
  | 2 => 15
  | _ => 14

/-- Codeword length of a code band (R354). -/
def bandLen : Nat → Nat
  | 0 => 4336
  | 1 => 4608
  | 2 => 4912
  | _ => 5264

/-- The code band of a wordline group of a die in a wear bin (R355, R356, R372). -/
def State.codeBand (s : State) (die w k : Nat) : Nat := s.ddk.cbt.getD (die * 128 + 8 * w + k) 1

/-- The units per group of the 16 wordline groups of a die in a wear bin. -/
def State.groupUnits (s : State) (die k : Nat) : List Nat := (List.range 16).map fun w => bandUnits (s.codeBand die w k)

/-- The unit count U(b) (R148). -/
def State.unitCount (s : State) (die k : Nat) : Nat := 64 * (s.groupUnits die k).sum

/-- Where unit slot s lies: wordline group, 4-page group, and unit index in the group (R361). -/
def slotPlace : List Nat → Nat → Nat → Option (Nat × Nat × Nat)
  | [], _, _ => none
  | n :: ns, w, o => if o < 64 * n then some (w, 64 * w + o / n, o % n) else slotPlace ns (w + 1) (o - 64 * n)

/-- The unit slots of a 4-page group: first slot and count (R361). -/
def groupSlots (ns : List Nat) (grp : Nat) : Nat × Nat :=
  let n := nth ns (grp / 64) 0
  (64 * (ns.take (grp / 64)).sum + (grp % 64) * n, n)

/-! ### The Block Information Table -/

def State.sysblk (s : State) : Nat := s.fld F.ZON_SYSBLK_SYSBLK

/-- A block that the table does not list: a system block, or free with no wear (R487, R490). -/
def Blk.blank (st : BlkState) : Blk :=
  { pec := 0, st := st, pin := false, refresh := false, rpt := false, wbin := 0, member := 0, setid := 0, rcause := 0,
    closeh := 0, rdc := 0, reason := 0 }

def State.blk (s : State) (die block : Nat) : Blk :=
  (s.med.bit.get? (blkKey die block)).getD (Blk.blank (if block < s.sysblk then .system else .free))

def State.putBlk (s : State) (die block : Nat) (b : Blk) : State :=
  s.withMed { s.med with bit := s.med.bit.ins (blkKey die block) b }

def State.setBlk (s : State) (die block : Nat) (f : Blk → Blk) : State := s.putBlk die block (f (s.blk die block))

/-- U(b) of a block, by the wear bin at its last erase (R355). -/
def State.blkUnits (s : State) (die block : Nat) : Nat := s.unitCount die (s.blk die block).wbin

/-- The listed blocks of a die: (block, entry). -/
def State.listed (s : State) (die : Nat) : List (Nat × Blk) :=
  (s.med.bit.filter fun e => e.1 / 8192 == die).map fun e => (e.1 % 8192, e.2)

/-- The lowest block from b on that the table does not list, looking at most as far as fuel allows. -/
def firstUnlisted (l : List Nat) : Nat → Nat → Nat
  | 0, b => b
  | fuel + 1, b => if l.contains b then firstUnlisted l fuel (b + 1) else b

/-! ### Dies and die sets -/

def State.sdie (s : State) (die : Nat) : SDie := s.sch.dies.getD die (SDie.reset (100 * s.fld F.SCH_PGM_SUSPINIT))

def State.putSdie (s : State) (die : Nat) (d : SDie) : State := s.withSch { s.sch with dies := s.sch.dies.ins die d }

def State.setSdie (s : State) (die : Nat) (f : SDie → SDie) : State := s.putSdie die (f (s.sdie die))

def State.link (s : State) (n : Nat) : Link := s.lnk.links.getD n Link.reset

def State.putLink (s : State) (n : Nat) (l : Link) : State := s.withLnk { s.lnk with links := s.lnk.links.ins n l }

def State.setLink (s : State) (n : Nat) (f : Link → Link) : State := s.putLink n (f (s.link n))

/-- A die has failed, or its package has (R523). -/
def State.dieFailed (s : State) (die : Nat) : Bool := (s.sdie die).failed || s.med.pkgFailed.contains (pkgOf die)

/-- Global die d belongs to die set ds (R142). -/
def State.inDs (s : State) (ds die : Nat) : Bool := (s.fld F.ZON_DS_MAP_DIES ds (die / 32)).testBit (die % 32)

/-- The dies of a die set, rising; computed word by word. -/
def State.dsDies (s : State) (ds : Nat) : List Nat :=
  (List.range 64).flatMap fun k =>
    let w := s.fld F.ZON_DS_MAP_DIES ds k
    if w = 0 then [] else (List.range 32).filterMap fun i => if w.testBit i then some (32 * k + i) else none

/-- The die set a die belongs to. -/
def State.dsOf (s : State) (die : Nat) : Option Nat := (List.range 128).find? fun ds => s.inDs ds die

/-- The die set assigned to a tenant (R144). -/
def State.tenantDs (s : State) (t : Nat) : Option Nat :=
  if s.flag F.ZON_TN_DS_VALID t then some (s.fld F.ZON_TN_DS_DSNUM t) else none

/-- The packages a list of dies spans, counting dies that have not failed (R143). -/
def State.span (s : State) (dies : List Nat) : List Nat := ((dies.filter fun d => !s.dieFailed d).map pkgOf).dedup

def State.dsSpan (s : State) (ds : Nat) : Nat := (s.span (s.dsDies ds)).length

/-- Good blocks of a die: not system, retired or factory bad, on a die that has not failed (R487, R521, R522). -/
def State.goodOn (s : State) (die : Nat) : Nat :=
  if s.dieFailed die then 0
  else (8192 - s.sysblk) - ((s.listed die).filter fun e => decide (s.sysblk ≤ e.1) && (e.2.st == .retired || e.2.st == .factoryBad)).length

/-- Good blocks of a die that are free or awaiting erase. -/
def State.freeOn (s : State) (die : Nat) : Nat :=
  if s.dieFailed die then 0
  else (8192 - s.sysblk) - ((s.listed die).filter fun e =>
    decide (s.sysblk ≤ e.1) && (e.2.st == .retired || e.2.st == .factoryBad || e.2.st == .bound)).length

/-- G_s of R481. -/
def State.dsGood (s : State) (ds : Nat) : Nat := ((s.dsDies ds).map s.goodOn).sum

/-! ### Sets, and the choice of a member set -/

/-- Handles as set ids (R399). -/
def placementSet (h : Nat) : Nat := 0x100000 + h
def stagingSet (g : Nat) : Nat := 0x180000 + g

/-- The roles of row r (R400): the member that holds data position d, P, or Q. -/
def memberOfData (r d : Nat) : Nat := (r + 2 + d) % 18
def memberOfP (r : Nat) : Nat := r % 18
def memberOfQ (r : Nat) : Nat := (r + 1) % 18

/-- The role of member m in row r: 0 to 15 a data position, 16 P, 17 Q. -/
def roleOf (r m : Nat) : Nat :=
  let k := (m + 18 - r % 18) % 18
  if k = 0 then 16 else if k = 1 then 17 else k - 2

/-- Stripe ids (R263). -/
def stripeId (setid row : Nat) : Nat := setid * 2 ^ 15 + row
def stripeSet (id : Nat) : Nat := id / 2 ^ 15
def stripeRow (id : Nat) : Nat := id % 2 ^ 15

def ZState.isOpen : ZState → Bool
  | .implicitOpen | .explicitOpen => true
  | _ => false

/-- Zones that hold an active resource. -/
def ZState.isActive : ZState → Bool
  | .implicitOpen | .explicitOpen | .closed => true
  | _ => false

/-- An active set of R150. -/
def State.setActive (s : State) (setid : Nat) : Bool :=
  if setid < 0x100000 then
    match s.zon.zdt.get? setid with
    | some z => z.zs.isActive
    | none => false
  else if setid < 0x180000 then
    match s.zon.sb.get? (setid - 0x100000) with
    | some b => !b.stopped && b.next < b.slots
    | none => false
  else
    match s.zon.stg.get? (setid - 0x180000) with
    | some b => !b.stopped && b.next < b.slots
    | none => false

/-- How many active sets hold a member on a package (R150). -/
def State.activeOn (s : State) (pkg : Nat) : Nat :=
  (s.str.sets.filter fun e => s.setActive e.1 && e.2.members.any fun m => pkgOf m.1 == pkg).length

/-- A candidate block: its wear, die and block. -/
structure Cand where
  pec : Nat
  die : Nat
  block : Nat
  deriving DecidableEq, Repr

def Cand.lt (a b : Cand) : Bool :=
  a.pec < b.pec || (a.pec == b.pec && (a.die < b.die || (a.die == b.die && a.block < b.block)))

def Cand.min? (a b : Option Cand) : Option Cand :=
  match a, b with
  | none, b => b
  | a, none => a
  | some x, some y => if Cand.lt y x then some y else some x

/-- The least-worn eligible block of a die for a set of the given rows: free, with enough unit slots (R149). -/
def State.bestOn (s : State) (die rows : Nat) : Option Cand :=
  let l := s.listed die
  let b := firstUnlisted (l.map (·.1)) l.length s.sysblk
  let fresh := if b < 8192 && rows ≤ s.unitCount die 0 then some (Cand.mk 0 die b) else none
  l.foldl (fun c e => if e.2.st == .free && rows ≤ s.unitCount die e.2.wbin then Cand.min? c (some ⟨e.2.pec, die, e.1⟩) else c) fresh

/-- Is a die eligible for a new member set: in the die set, neither benched nor failed (R149)? -/
def State.dieEligible (s : State) (die : Nat) : Bool := !s.dieFailed die && !(s.sdie die).benched

/-- The candidate of a package among some dies. -/
def State.bestOnPkg (s : State) (dies : List Nat) (pkg rows : Nat) : Option Cand :=
  (dies.filter fun d => pkgOf d == pkg && s.dieEligible d).foldl (fun c d => Cand.min? c (s.bestOn d rows)) none

/-- Insert a candidate in the order of R150: wear, active sets on the package, die, block. -/
def insCand (x : Nat × Cand) : List (Nat × Cand) → List (Nat × Cand)
  | [] => [x]
  | y :: ys =>
    let before := x.2.pec < y.2.pec || (x.2.pec == y.2.pec && (x.1 < y.1 || (x.1 == y.1 && Cand.lt x.2 y.2)))
    if before then x :: y :: ys else y :: insCand x ys

/-- A package's candidates put in the order of R150, and the first 18 of them; none where fewer packages offer one. -/
def State.firstEighteen (s : State) (cands : List (Nat × Cand)) : Option (List (Nat × Nat)) :=
  if cands.length < 18 then none
  else some (((cands.foldl (fun l c => insCand c l) []).take 18).map fun c => (c.2.die, c.2.block))

/-- Choose a member set of R150 from some dies; none if fewer than 18 packages offer a block. -/
def State.chooseSet (s : State) (dies : List Nat) (rows : Nat) : Option (List (Nat × Nat)) :=
  s.firstEighteen ((s.span dies).filterMap fun p => (s.bestOnPkg dies p rows).map fun c => (s.activeOn p, c))

/-- The least-worn free system block of a die: one that no checkpoint set holds and that waits for no erase (R487, R503). -/
def State.bestSystem (s : State) (die : Nat) : Option Cand :=
  let l := s.listed die
  let b := firstUnlisted (l.map (·.1)) l.length 0
  let fresh := if b < s.sysblk then some (Cand.mk 0 die b) else none
  l.foldl (fun c e => if e.2.st == .system && e.2.setid == 0 then Cand.min? c (some ⟨e.2.pec, die, e.1⟩) else c) fresh

/-- Choose the 18 system blocks of a checkpoint set by R150 among some dies (R503). -/
def State.chooseSystem (s : State) (dies : List Nat) : Option (List (Nat × Nat)) :=
  s.firstEighteen ((s.span dies).filterMap fun p =>
    ((dies.filter fun d => pkgOf d == p && s.dieEligible d).foldl (fun c d => Cand.min? c (s.bestSystem d)) none).map fun c => (s.activeOn p, c))

/-- What an erased block becomes (R487). -/
def State.erasedState (s : State) (block : Nat) : BlkState := if block < s.sysblk then .system else .free

/-- A replacement block for a member: on a package that holds no other member, with enough rows (R427). -/
def State.chooseReplacement (s : State) (dies : List Nat) (members : List (Nat × Nat)) (m rows : Nat) : Option (Nat × Nat) :=
  let used := (members.zipIdx.filter fun e => e.2 != m).map fun e => pkgOf e.1.1
  let c := ((s.span dies).filter fun p => !used.contains p).foldl (fun c p => Cand.min? c (s.bestOnPkg dies p rows)) none
  c.map fun c => (c.die, c.block)

/-- Bind blocks to a set: STATE, SETID and MEMBER of each entry (R490). -/
def State.bindBlocks (s : State) (setid : Nat) (members : List (Nat × Nat)) : State :=
  members.zipIdx.foldl (fun s e => s.setBlk e.1.1 e.1.2 fun b => { b with st := .bound, setid := setid, member := e.2 }) s

/-- The smallest U(b) of a list of members (R152). -/
def State.minUnits (s : State) (members : List (Nat × Nat)) : Nat :=
  members.foldl (fun n m => min n (s.blkUnits m.1 m.2)) 17408

def State.bindSet (s : State) (setid tenant nsix rows csn : Nat) (members : List (Nat × Nat)) : State :=
  let s := s.bindBlocks setid members
  let r : SetRec :=
    { members := members, tenant := tenant, nsix := nsix, rows := rows, bindCsn := csn, mlost := 0, mrebuild := 0, dead := false }
  s.withStr { s.str with sets := s.str.sets.ins setid r }

/-- A calibration sample of a block is dropped, and the block unpinned (R396, DDK_CNT 11). -/
def State.unpinFor (s : State) (die block : Nat) : State :=
  if (s.blk die block).pin then
    let n := pkgOf die
    (s.setBlk die block fun b => { b with pin := false }).withDdk { s.ddk with
      calib := s.ddk.calib.filter fun e => !(e.2.die == die && e.2.block == block)
      cnt := s.ddk.cnt.upd (n * 16 + 11) 0 fun c => sat 64 (c + 1) }
  else s

/-- Append an erase intent and put a block on the erase queue (R171, R272). A calibration sample of it ends first (R392, R396). -/
def State.queueErase (s : State) (die block reason : Nat) : State :=
  let s := s.unpinFor die block
  let b := s.blk die block
  let s := s.journal 0xFFFF s.jnl.csn (.eraseIntent die block reason)
  let s := s.putBlk die block { b with st := .eraseQueue, reason := reason }
  s.withMed { s.med with erq := s.med.erq ++ [(die, block)] }

/-- Retire a set: its blocks go to the erase queue behind erase intents, its rows and its rebuild are dropped (R171, R438). -/
def State.dropSet (s : State) (setid reason : Nat) : State :=
  match s.str.sets.get? setid with
  | none => s
  | some r =>
    let s := r.members.foldl (fun s m =>
      let why := if (s.blk m.1 m.2).rcause == 0 then reason else 3
      if (s.blk m.1 m.2).st == .bound then s.queueErase m.1 m.2 why else s) s
    let rb := match s.str.rebuild with
      | some b => if b.setid == setid then some b else none
      | none => none
    let s := match rb with
      | some b => s.queueErase b.die b.block 2
      | none => s
    s.withStr { s.str with
      sets := s.str.sets.del setid
      rows := s.str.rows.filter fun e => stripeSet e.1 != setid
      groups := s.str.groups.filter fun e => e.1 / 1024 / 32 != setid
      rebuild := if rb.isSome then none else s.str.rebuild
      blocked := s.str.blocked.filter fun b => b / 32 != setid }

/-! ### Zones of a namespace (R177) -/

/-- The Zone Descriptor Table entry of zone z, counted through the namespace's runs in order (R177). -/
def Ns.entryOf (n : Ns) (z : Nat) : Option Nat :=
  (n.runs.foldl (fun (a : Nat × Option Nat) r =>
    match a.2 with
    | some _ => a
    | none => if z < a.1 + r.2 then (a.1, some (r.1 + (z - a.1))) else (a.1 + r.2, none)) (0, none)).2

def Ns.zones (n : Ns) : Nat := n.nsze / 262144

/-- The zone number that an entry describes. -/
def Ns.zoneOf (n : Ns) (e : Nat) : Option Nat :=
  (n.runs.foldl (fun (a : Nat × Option Nat) r =>
    match a.2 with
    | some _ => a
    | none => if r.1 ≤ e ∧ e < r.1 + r.2 then (a.1, some (a.1 + (e - r.1))) else (a.1 + r.2, none)) (0, none)).2

/-! ### What a die set owes (R156, R422) -/

def State.nsAt (s : State) (nsix : Nat) : Option Ns := s.zon.ns.get? nsix

/-- Die set of a namespace's owner. -/
def State.nsDs (s : State) (n : Ns) : Option Nat := s.tenantDs n.owner

/-- Unbound empty zones of namespaces of a die set. -/
def State.unboundZones (s : State) (ds : Nat) : Nat :=
  (s.zon.zdt.filter fun e => e.2.zs == .empty && !e.2.bound &&
    (match s.nsAt e.2.nsix with
     | some n => s.nsDs n == some ds
     | none => false)).length

/-- Superblocks reserved by the set's placement namespaces and not yet allocated. -/
def State.owedSupers (s : State) (ds : Nat) : Nat :=
  (s.zon.ns.filter fun e => e.2.kind != .zoned && s.nsDs e.2 == some ds).foldl
    (fun n e => n + (e.2.handles - (s.zon.sb.filter fun b => b.2.nsix == e.1).length)) 0

/-- Two staging sets for each tenant of the set with a zoned namespace, less those it holds (R422). -/
def State.owedStaging (s : State) (ds : Nat) (extra : List Nat) : Nat :=
  let tenants := (extra ++ ((s.zon.ns.filter fun e => e.2.kind == .zoned && s.nsDs e.2 == some ds).map fun e => e.2.owner)).dedup
  tenants.foldl (fun n t => n + (2 - (s.zon.stg.filter fun b => b.2.tenant == t).length)) 0

def State.owed (s : State) (ds : Nat) : Nat := s.unboundZones ds + s.owedSupers ds + s.owedStaging ds []

/-- ZON_DS_STAT.FREE: free or awaiting erase, and not owed. -/
def State.dsFree (s : State) (ds : Nat) : Nat := ((s.dsDies ds).map s.freeOn).sum - 18 * s.owed ds

/-- The condition of R156 for n member sets owed. -/
def State.backed (s : State) (ds n : Nat) : Bool :=
  let dies := s.dsDies ds
  18 * n ≤ ((s.span dies).map fun p => min ((dies.filter fun d => pkgOf d == p).map s.freeOn).sum n).sum

end Sys2Proof.Machine
end

