-- ==== Sys2Proof/Machine/Txn.lean ====
section
/-!
DEFINITION. Configuration transactions (R654 to R661 of spec/14_setup_window_events.md): the shadow copies, every rule of the
spec that rejects a transaction (R745, R108, R146, R207, R242, R283, R284, R351, R398, R443, R454, R531, R626, R657), and the
commands TRANSACTION_BEGIN, TRANSACTION_COMMIT, TRANSACTION_ABORT, COMMIT_IMAGE_SAVED, TRANSACTION_TIMEOUT and BOOT_LOCK.
-/

namespace Sys2Proof.Machine

def State.setTxn (s : State) (f : Txn → Txn) : State := s.withWin { s.win with txn := f s.win.txn }

/-- GLB_TXN_STAT.OWNER of an agent. -/
def State.owns (s : State) (a : Agent) : Bool := s.win.txn.state != 0 && s.win.txn.owner == agentCode a

/-- The offsets of the shadowed registers. -/
def Window.shadowed (w : Window) : List Nat := w.shadow.map (·.1)

/-- A register's word after the commit: its TX fields from the shadow, its other fields unchanged. -/
def State.committedWord (s : State) (r : RegRef) (shadow : Nat) : Nat :=
  merge (s.regWord r) shadow (r.reg.maskOf (· == .tx))

/-- The register state that would follow the commit (R656): every shadow applied together. -/
def State.applyShadows (s : State) : State :=
  s.win.shadow.foldl (fun s e => match locate e.1 with
    | some (r, false) => s.putReg r (s.committedWord r e.2.toNat)
    | _ => s) s

/-- A rule that rejects a transaction, in one of its instances: whether it holds, and the registers it concerns. -/
structure TxnRule where
  ok : Bool
  regs : List Nat
  deriving DecidableEq, Repr

/-- Every TX field of the shadowed registers lies inside its stated range (R745). -/
def rangeRules (n : State) : List TxnRule :=
  n.win.shadowed.filterMap fun off => match locate off with
    | some (r, false) => some ⟨(r.reg.fields.filter fun f => f.acc == .tx).all fun f => f.inRange (n.regWord r), [off]⟩
    | _ => none

/-- Active zones of a tenant. -/
def State.activeOf (s : State) (t : Nat) : Nat :=
  (s.zon.zdt.filter fun e => e.2.zs.isActive && (match s.nsAt e.2.nsix with
    | some n => n.owner == t
    | none => false)).length

/-- Open zones of a tenant. -/
def State.openOf (s : State) (t : Nat) : Nat :=
  (s.zon.zdt.filter fun e => e.2.zs.isOpen && (match s.nsAt e.2.nsix with
    | some n => n.owner == t
    | none => false)).length

/-- The references of the shadowed registers of one name. -/
def State.shadowRefs (s : State) (r : RegName) : List RegRef :=
  s.win.shadowed.filterMap fun off => match locate off with
    | some (x, false) => if x.reg = r then some x else none
    | _ => none

def tenants : List Nat := List.range 1024

/-- No die belongs to two die sets (R146), word by word. -/
def disjointRules (n : State) : List TxnRule :=
  (List.range 64).filterMap fun k =>
    let ws := ((List.range 128).map fun d => (d, n.fld F.ZON_DS_MAP_DIES d k)).filter fun x => x.2 != 0
    let bad := ws.filter fun x => ws.any fun y => y.1 != x.1 && (x.2 &&& y.2) != 0
    if bad.isEmpty then none else some ⟨false, bad.map fun x => offOf .ZON_DS_MAP x.1 k⟩

/-- No die leaves a die set while a block of it is bound (R146). -/
def leaveRules (o n : State) : List TxnRule :=
  (n.shadowRefs .ZON_DS_MAP).map fun r =>
    let was := o.fld F.ZON_DS_MAP_DIES r.i r.j
    let now := n.fld F.ZON_DS_MAP_DIES r.i r.j
    let gone := (List.range 32).filter fun b => was.testBit b && !now.testBit b
    ⟨!(gone.any fun b => (o.listed (32 * r.j + b)).any fun e => e.2.st == .bound || e.2.pin), [r.off]⟩

/-- A tenant's die set changes only while the tenant has no namespace (R146). -/
def moveRules (o n : State) : List TxnRule :=
  (n.shadowRefs .ZON_TN_DS).map fun r =>
    ⟨o.regWord r == n.regWord r || !(o.zon.ns.any fun e => e.2.owner == r.i), [r.off]⟩

/-- Every die set assigned to a tenant spans 18 packages (R146). -/
def spanRules (n : State) : List TxnRule :=
  let assigned := tenants.filterMap fun t => (n.tenantDs t).map fun d => (t, d)
  ((assigned.map (·.2)).dedup).map fun d =>
    ⟨18 ≤ n.dsSpan d, ((List.range 64).map fun k => offOf .ZON_DS_MAP d k) ++
      (assigned.filter fun x => x.2 == d).map fun x => offOf .ZON_TN_DS x.1⟩

/-- OPEN lies in 1 to ACT, ACT is not below the active zones, and the ACT limits sum to at most 4,096 (R146). -/
def limitRules (n : State) : List TxnRule :=
  let assigned := tenants.filter fun t => n.flag F.ZON_TN_DS_VALID t
  ((n.shadowRefs .ZON_TN_LIM).map fun r =>
    ⟨n.fld F.ZON_TN_LIM_OPEN r.i ≤ n.fld F.ZON_TN_LIM_ACT r.i && n.activeOf r.i ≤ n.fld F.ZON_TN_LIM_ACT r.i, [r.off]⟩) ++
  [⟨(assigned.map fun t => n.fld F.ZON_TN_LIM_ACT t).sum ≤ 4096,
    (assigned.map fun t => offOf .ZON_TN_LIM t) ++ assigned.map fun t => offOf .ZON_TN_DS t⟩]

/-- Granule bytes of a pool (R200). -/
def granule : Nat → Nat
  | 0 => 256
  | 1 => 1024
  | 2 => 4096
  | 3 => 16384
  | 4 => 65536
  | _ => 1048576

/-- The sum of every reserve, in DRAM or in SRAM (R207). -/
def State.allReserves (s : State) (dram : Bool) : Nat :=
  if dram then (tenants.map fun t => 65536 * s.fld F.BPM_TN_RSV_DRSV t).sum + ((List.range 6).map fun c => 65536 * s.fld F.BPM_CL_RSV_DRSV c).sum
  else (tenants.map fun t => 1024 * s.fld F.BPM_TN_RSV_SRSV t).sum + ((List.range 6).map fun c => 4096 * s.fld F.BPM_CL_RSV_SRSV c).sum

/-- The conditions of R207. -/
def poolRules (n : State) : List TxnRule :=
  let rsv := (tenants.map fun t => offOf .BPM_TN_RSV t) ++ (List.range 6).map fun c => offOf .BPM_CL_RSV c
  ((List.range 6).flatMap fun p =>
    let a := n.fld F.BPM_POOL_AMBER_THR p
    let r := n.fld F.BPM_POOL_RED_THR p
    let st := n.fld F.BPM_POOL_STOP_THR p
    [⟨r < a && st < r, [offOf .BPM_POOL_AMBER p, offOf .BPM_POOL_RED p, offOf .BPM_POOL_STOP p]⟩,
     ⟨a + n.fld F.BPM_POOL_HYST_HYST p ≤ n.fld F.BPM_POOL_CNT_CNT p,
      [offOf .BPM_POOL_CNT p, offOf .BPM_POOL_AMBER p, offOf .BPM_POOL_HYST p]⟩,
     ⟨n.allReserves (2 ≤ p) ≤ granule p * st, offOf .BPM_POOL_STOP p :: rsv⟩]) ++
  tenants.map fun t => ⟨1 ≤ n.fld F.BPM_TN_RSV_W t, [offOf .BPM_TN_RSV t]⟩

/-- A ring that is not IDLE keeps its registers (R242). -/
def ringRules (o n : State) : List TxnRule :=
  [RegName.CAP_CFG, .CAP_NS, .CAP_STALL, .CAP_CRPUSH].flatMap fun name => (n.shadowRefs name).map fun r =>
    ⟨o.regWord r == n.regWord r || (o.cap.rings.getD r.i CapRing.reset).st == .idle, [r.off]⟩

/-- The conditions of R283 and R284. -/
def holdupRules (n : State) : List TxnRule :=
  let cap := n.fld F.HLD_CFG_CAP_MIB
  [⟨n.fld F.HLD_VOLT_VFLOOR + 500 ≤ n.fld F.HLD_VOLT_VCHG, [offOf .HLD_VOLT]⟩,
   ⟨250 ≤ n.fld F.HLD_EFIXED_MJ, [offOf .HLD_EFIXED]⟩,
   ⟨2 ≤ n.fld F.HLD_CFG_STRINGS && n.fld F.HLD_CFG_STRINGS ≤ 8 && 512 ≤ cap && cap % 64 == 0 && (n.med.flcap == 0 || cap ≤ n.med.flcap),
    [offOf .HLD_CFG]⟩,
   ⟨n.fld F.STR_JCFG_JPKGA != n.fld F.STR_JCFG_JPKGB, [offOf .STR_JCFG]⟩]

/-- QUAR is not below TREAD (R351), and the retention bins rise (R398), on every link. -/
def linkRules (n : State) : List TxnRule :=
  (List.range 32).flatMap fun k =>
    [⟨n.fld F.LNK_TAG_TMR0_TREAD k ≤ n.fld F.LNK_QUAR_QUAR k, [offOf .LNK_TAG_TMR0 k, offOf .LNK_QUAR k]⟩,
     ⟨n.fld F.DDK_RET_BIN_RB1 k < n.fld F.DDK_RET_BIN_RB2 k && n.fld F.DDK_RET_BIN_RB2 k < n.fld F.DDK_RET_BIN_RB3 k,
      [offOf .DDK_RET_BIN k]⟩]

/-- A floor's rate is not above the cap of the same kind; an absent cap bounds nothing (R450, R454). -/
def floorOk (cap floor : Nat) : Bool := cap == 0xFFFF || floor ≤ cap

/-- Bytes per second that a floor promises (R454). -/
def floorBytes (bw iops : Nat) : Nat := max (bw * 10000000) (iops * 1000 * 4096)

/-- The conditions of R454. -/
def schedRules (n : State) : List TxnRule :=
  let rd := tenants.map fun t => (t, floorBytes (n.fld F.SCH_TN_RFLR_BW t) (n.fld F.SCH_TN_RFLR_IOPS t))
  let rsum (ts : List (Nat × Nat)) (limit : Nat) : TxnRule := ⟨(ts.map (·.2)).sum ≤ limit, ts.map fun x => offOf .SCH_TN_RFLR x.1⟩
  let share := 100 - n.fld F.SCH_WIN_MAINT - n.fld F.STR_RBCFG_RBSHARE
  (tenants.flatMap fun t =>
    [⟨floorOk (n.fld F.SCH_TN_RCAP_BW t) (n.fld F.SCH_TN_RFLR_BW t) && floorOk (n.fld F.SCH_TN_RCAP_IOPS t) (n.fld F.SCH_TN_RFLR_IOPS t),
      [offOf .SCH_TN_RCAP t, offOf .SCH_TN_RFLR t]⟩,
     ⟨floorOk (n.fld F.SCH_TN_WCAP_BW t) (n.fld F.SCH_TN_WFLR_BW t) && floorOk (n.fld F.SCH_TN_WCAP_IOPS t) (n.fld F.SCH_TN_WFLR_IOPS t),
      [offOf .SCH_TN_WCAP t, offOf .SCH_TN_WFLR t]⟩]) ++
  ((List.range 128).map fun d =>
    let ts := tenants.filter fun t => n.tenantDs t == some d
    let dies := ((n.dsDies d).filter fun x => !n.dieFailed x).length
    ⟨(ts.map fun t => floorBytes (n.fld F.SCH_TN_WFLR_BW t) (n.fld F.SCH_TN_WFLR_IOPS t)).sum * 100 ≤
        dies * n.fld F.SCH_DIEWR_DIEWR * 100000 * share,
      (ts.map fun t => offOf .SCH_TN_WFLR t) ++ [offOf .SCH_WIN, offOf .SCH_DIEWR, offOf .STR_RBCFG]⟩) ++
  [rsum rd 100000000000] ++
  (if n.ao.bifur then
    [rsum (rd.filter fun x => x.1 == 0 || (2 ≤ x.1 && x.1 ≤ 512)) 50000000000,
     rsum (rd.filter fun x => x.1 == 1 || 513 ≤ x.1) 50000000000]
   else []) ++
  [⟨n.fld F.SCH_BENCH_UNK < n.fld F.SCH_BENCH_K, [offOf .SCH_BENCH]⟩]

/-- The conditions of R531 and R626. -/
def mediaRules (n : State) : List TxnRule :=
  [⟨n.fld F.SCH_SNOW_FLOOR < n.fld F.ZON_GC_GCSTART, [offOf .ZON_GC, offOf .SCH_SNOW]⟩,
   ⟨n.fld F.ZON_GC_GCSTART < n.fld F.ZON_GC_GCSTOP, [offOf .ZON_GC]⟩] ++
  (List.range 4).map fun c =>
    ⟨n.fld F.DRM_CH_WQ_LOWM c < n.fld F.DRM_CH_WQ_HIWM c && n.fld F.DRM_CH_WQ_HIWM c ≤ 60, [offOf .DRM_CH_WQ c]⟩

/-- Every rule that rejects a transaction but R657, over the states before and after the commit. -/
def txnRules (o n : State) : List TxnRule :=
  rangeRules n ++ disjointRules n ++ leaveRules o n ++ moveRules o n ++ spanRules n ++ limitRules n ++ poolRules n ++
    ringRules o n ++ holdupRules n ++ linkRules n ++ schedRules n ++ mediaRules n

/-- The registers whose change needs SAVE, and that the commit changes (R657). -/
def structuralChanges (o n : State) : List Nat :=
  n.win.shadowed.filter fun off => match locate off with
    | some (r, false) =>
      match r.reg with
      | .ZON_DS_MAP | .ZON_TN_DS => o.regWord r != n.regWord r
      | .HLD_CFG => o.fld F.HLD_CFG_STRINGS != n.fld F.HLD_CFG_STRINGS
      | .STR_JCFG => o.fld F.STR_JCFG_JPKGA != n.fld F.STR_JCFG_JPKGA || o.fld F.STR_JCFG_JPKGB != n.fld F.STR_JCFG_JPKGB
      | _ => false
    | _ => false

/-- The least of a list of offsets. -/
def least : List Nat → Option Nat
  | [] => none
  | x :: xs => some (match least xs with
    | none => x
    | some y => min x y)

/-- The offset that a failing rule names: the lowest shadowed register it concerns, else the lowest it concerns (R656). -/
def TxnRule.offset (r : TxnRule) (shadowed : List Nat) : Nat :=
  match least (r.regs.filter shadowed.contains) with
  | some x => x
  | none => (least r.regs).getD 0

/-- The reason and the offset of a rejection, if the commit is rejected (R656, R657). -/
def State.rejection (s : State) (save : Bool) : Option (Nat × Nat) :=
  let n := s.applyShadows
  let failed := (txnRules s n).filter fun r => !r.ok
  match least (failed.map fun r => r.offset s.win.shadowed) with
  | some off => some (1, off)
  | none =>
    if save then none
    else (least (structuralChanges s n)).map fun off => (3, off)

/-! ### The ends of a transaction -/

/-- Close the transaction with a result; the shadows go. -/
def State.endTxn (s : State) (result reason off : Nat) : State :=
  s.withWin { s.win with
    shadow := []
    txn := { s.win.txn with state := 0, result := result, reason := reason, offset := off, save := false } }

/-- The configuration event: 2 complete, 3 rejected, 4 aborted or rolled back (R666). -/
def State.txnEvent (s : State) (code : Nat) : State :=
  let t := s.win.txn
  match code with
  | 3 => s.raise 0 3 1 [(2, t.txnum), (1, t.reason), (4, t.offset)]
  | c => s.raise 0 c 0 [(2, t.txnum), (1, t.result)]

def State.rejectTxn (s : State) (reason off : Nat) : State := (s.endTxn 3 reason off).txnEvent 3

/-- Discard the shadows with a result of 4, 5 or 6 (R655, R660). -/
def State.abortTxn (s : State) (result : Nat) : State := (s.endTxn result s.win.txn.reason s.win.txn.offset).txnEvent 4

/-- A reset of the transaction's owner, other than a restart, rolls it back while STATE is 1 or 2 (R660). -/
def State.rollback (s : State) (owner : Nat) : State :=
  if (s.win.txn.state == 1 || s.win.txn.state == 2) && s.win.txn.owner == owner then s.abortTxn 5 else s

/-- A hot activation rolls back whatever transaction is open (R660, R702). -/
def State.rollbackOpen (s : State) : State := s.rollback s.win.txn.owner

/-! ### The commands -/

/-- BEGIN opens a transaction owned by the writer, or sets BEGINERR (R655). -/
def State.beginTxn (s : State) (a : Agent) : State :=
  if s.win.txn.state = 0 then
    s.withWin { s.win with
      shadow := []
      txn := { s.win.txn with state := 1, owner := agentCode a, txnum := (s.win.txn.txnum + 1) % 65536, lastWrite := s.ao.time, save := false } }
  else s.setTxn fun t => { t with beginerr := true }

/-- TRANSACTION_BEGIN (R654, R655). -/
def execTransactionBegin (a : Agent) (s : State) : Outcome := .next (s.beginTxn a)

/-- COMMIT by the owner while STATE is 1 validates; a rejection ends the transaction, a success goes on to saving or applying. Another
agent's COMMIT, or one with no transaction open, sets OWNERR; one during a commit is ignored (R655 to R658). -/
def State.commitTxn (s : State) (a : Agent) (save : Bool) : State :=
  if !s.owns a then s.setTxn fun t => { t with ownerr := true }
  else if s.win.txn.state ≠ 1 then s
  else
    let s := s.setTxn fun t => { t with lastWrite := s.ao.time }
    match s.rejection save with
    | some (reason, off) => s.rejectTxn reason off
    | none => s.setTxn fun t => { t with state := if save then 3 else 4, save := save }

/-- TRANSACTION_COMMIT (R656, R657). -/
def execTransactionCommit (a : Agent) (save : Bool) (s : State) : Outcome := .next (s.commitTxn a save)

/-- ABORT by the owner while STATE is 1 (R655). -/
def State.abortBy (s : State) (a : Agent) : State :=
  if !s.owns a then s.setTxn fun t => { t with ownerr := true }
  else if s.win.txn.state ≠ 1 then s
  else s.abortTxn 4

/-- TRANSACTION_ABORT (R655). -/
def execTransactionAbort (a : Agent) (s : State) : Outcome := .next (s.abortBy a)

/-- A write to GLB_TXN_CTL: one command, none, or several with CMDERR; the owner's starts the idle time anew (R655). -/
def State.writeTxnCtl (s : State) (a : Agent) (v : Nat) : State :=
  let s := if s.owns a && s.win.txn.state == 1 then s.setTxn fun t => { t with lastWrite := s.ao.time } else s
  match v.testBit 0, v.testBit 1, v.testBit 2 with
  | true, false, false => s.beginTxn a
  | false, true, false => s.commitTxn a (v.testBit 3)
  | false, false, true => s.abortBy a
  | false, false, false => s
  | _, _, _ => s.setTxn fun t => { t with cmderr := true }

/-- TRANSACTION_TIMEOUT: TMO ms, if TMO is not 0, have passed with no owner write while STATE is 1 (R655). -/
def execTransactionTimeout (s : State) : Outcome :=
  if s.win.txn.state = 1 ∧ s.fld F.GLB_TXN_TMO_MS ≠ 0 then .next (s.abortTxn 6) else .next s

/-- A TX write: the owner's goes to the shadow while STATE is 1; any other is discarded with TXERR and event code 1 (R655). -/
def State.writeTx (s : State) (a : Agent) (r : RegRef) (v : Nat) : State :=
  if s.owns a && s.win.txn.state == 1 then
    s.withWin { s.win with
      shadow := s.win.shadow.ins r.off (BitVec.ofNat 64 (v &&& r.reg.maskOf (· == .tx)))
      txn := { s.win.txn with lastWrite := s.ao.time } }
  else (s.setTxn fun t => { t with txerr := true }).raiseDiscarded r.off a

/-- BOOT_LOCK: writing 1 to GLB_LOCK.LOCK closes the LK fields (R12). -/
def execBootLock (_a : Agent) (s : State) : Outcome := .next (s.withWin { s.win with locked := true })

end Sys2Proof.Machine
end

