-- ==== Sys2Proof/Machine/Buffers.lean ====
section
/-!
DEFINITION. The buffer pool manager: pools, levels, reserves, tags, and the commands COUNTED_FREE,
NAMED_OWNER_FREE and REFERENCE_TAKE (R200 to R213 of spec/04_buffers_capture.md).
-/

namespace Sys2Proof.Machine


/-- Owners (R208). -/
def ownerRing (n : Nat) : Nat := 0x400 + n
def ownerCommitted : Nat := 0x445
def ownerSelfTest : Nat := 0x444

/-- A tag's key. -/
def tagKey (p g : Nat) : Nat := p * 2 ^ 22 + g

def State.pool (s : State) (p : Nat) : Pool := s.bpm.pools.getD p Pool.reset

/-- Granules of a pool that are lent. -/
def State.lent (s : State) (p : Nat) : Nat := (s.bpm.tags.filter fun e => e.1 / 2 ^ 22 == p).length

/-- The free count F of R204. -/
def State.poolFree (s : State) (p : Nat) : Nat := s.fld F.BPM_POOL_CNT_CNT p - s.lent p

/-- The thresholds of a pool's levels 1 to 3 (R204). -/
def State.levelThr (s : State) (p : Nat) : Nat → Nat
  | 0 => 0
  | 1 => s.fld F.BPM_POOL_AMBER_THR p
  | 2 => s.fld F.BPM_POOL_RED_THR p
  | _ => s.fld F.BPM_POOL_STOP_THR p

/-- The level that a free count falls below (R204). -/
def levelBelow (amber red stop f : Nat) : Nat :=
  if f < stop then 3 else if f < red then 2 else if f < amber then 1 else 0

/-- Move down from a level once F has reached its threshold plus HYST (R204). -/
def State.levelDown (s : State) (p f : Nat) : Nat → Nat
  | 0 => 0
  | l + 1 => if s.levelThr p (l + 1) + s.fld F.BPM_POOL_HYST_HYST p ≤ f then s.levelDown p f l else l + 1

/-- The level of a pool after its free count has changed (R204). -/
def State.newLevel (s : State) (p cur f : Nat) : Nat :=
  let up := levelBelow (s.levelThr p 1) (s.levelThr p 2) (s.levelThr p 3) f
  if cur < up then up else s.levelDown p f cur

/-- The device level: the highest of any pool (R205). -/
def State.devLevel (s : State) : Nat := s.bpm.pools.foldl (fun m e => max m e.2.level) 0

/-- Bring a pool's level up to date and report a change (R204, event sources 0x020 to 0x025). The budget of admission at Amber begins with Amber
(R206). -/
def State.relevel (s : State) (p : Nat) : State :=
  let f := s.poolFree p
  let old := (s.pool p).level
  let new := s.newLevel p old f
  if new = old then s
  else
    let dev := s.devLevel
    let s := s.withBpm { s.bpm with pools := s.bpm.pools.ins p { s.pool p with level := new } }
    let s := if dev ≠ 1 ∧ s.devLevel = 1 then s.withHost { s.host with amberTime := s.ao.time, amber := [] } else s
    s.raise (0x020 + p) 0 (if new = 0 then 0 else 1) [(1, old), (1, new), (4, f)]

/-- The owner's use in bytes, in DRAM (pools 2 to 5) or SRAM (pools 0 and 1). -/
def State.ownerUse (s : State) (owner : Nat) (dram : Bool) : Nat :=
  s.bpm.tags.foldl (fun n e =>
    let p := e.1 / 2 ^ 22
    if e.2.owner == owner && (decide (2 ≤ p) == dram) then n + granule p else n) 0

/-- The reserve class of an owner that is no tenant (R208). -/
def ownerClass (owner : Nat) : Option Nat :=
  if 0x400 ≤ owner ∧ owner ≤ 0x43F then some 0
  else if 0x440 ≤ owner ∧ owner ≤ 0x444 then some (owner - 0x440 + 1)
  else none

/-- An owner's reserve in bytes (BPM_TN_RSV, BPM_CL_RSV); the capture class counts all rings together. -/
def State.reserve (s : State) (owner : Nat) (dram : Bool) : Nat :=
  if owner < 0x400 then
    if dram then 65536 * s.fld F.BPM_TN_RSV_DRSV owner else 1024 * s.fld F.BPM_TN_RSV_SRSV owner
  else
    match ownerClass owner with
    | some c => if dram then 65536 * s.fld F.BPM_CL_RSV_DRSV c else 4096 * s.fld F.BPM_CL_RSV_SRSV c
    | none => 0

/-- The use counted against a reserve. -/
def State.classUse (s : State) (owner : Nat) (dram : Bool) : Nat :=
  if ownerClass owner = some 0 then
    s.bpm.tags.foldl (fun n e =>
      let p := e.1 / 2 ^ 22
      if ownerClass e.2.owner == some 0 && (decide (2 ≤ p) == dram) then n + granule p else n) 0
  else s.ownerUse owner dram

/-- Is an allocation within reserve (R205)? -/
def State.withinReserve (s : State) (owner p : Nat) : Bool :=
  let dram := decide (2 ≤ p)
  s.classUse owner dram + granule p ≤ s.reserve owner dram

/-- The granule that the free stack of a pool gives next (R201). -/
def State.topGranule (s : State) (p : Nat) : Option Nat :=
  match (s.pool p).freed with
  | g :: _ => some g
  | [] => if (s.pool p).virgin < s.fld F.BPM_POOL_CNT_CNT p then some (s.pool p).virgin else none

/-- Pop the stack and tag the granule (R201, R208, R212). -/
def State.lend (s : State) (p g owner : Nat) : State :=
  let pl := s.pool p
  let pl := match pl.freed with
    | _ :: r => { pl with freed := r }
    | [] => { pl with virgin := pl.virgin + 1 }
  let named := s.flag F.BPM_CTL_NOM || owner == ownerSelfTest
  (s.withBpm { s.bpm with
    pools := s.bpm.pools.ins p pl
    tags := s.bpm.tags.ins (tagKey p g) { owner := owner, named := named, count := 1 } }).relevel p

/-- Return a granule to its pool: push it onto the stack (R201). -/
def State.giveBack (s : State) (p g : Nat) : State :=
  let pl := s.pool p
  (s.withBpm { s.bpm with
    pools := s.bpm.pools.ins p { pl with freed := g :: pl.freed }
    tags := s.bpm.tags.del (tagKey p g)
    refWaits := s.bpm.refWaits.filter fun w => w.2 != tagKey p g }).relevel p

/-- One reference less: at the last, the granule returns to its pool (R210). -/
def State.countDown (s : State) (p g : Nat) (t : Tag) : State :=
  if t.count ≤ 1 then s.giveBack p g
  else s.withBpm { s.bpm with
    tags := s.bpm.tags.ins (tagKey p g) { t with count := t.count - 1 }
    refWaits := s.bpm.refWaits.filter fun w => w.2 != tagKey p g }

/-- The holder's own free of a granule that is still lent: a counted free, or by its owner's name where the tag takes no other (R210 to R212). -/
def State.freeHeld (s : State) (p g : Nat) : State :=
  match s.bpm.tags.get? (tagKey p g) with
  | none => s
  | some t => if t.named then s.giveBack p g else s.countDown p g t

/-- The holder's free of several granules. -/
def State.giveBackAll (s : State) (gs : List (Nat × Nat)) : State := gs.foldl (fun s g => s.freeHeld g.1 g.2) s

/-- Free by named owner those of several granules whose tag names the owner (R211, R212). -/
def State.freeNamed (s : State) (owner : Nat) (gs : List (Nat × Nat)) : State :=
  gs.foldl (fun s g => match s.bpm.tags.get? (tagKey g.1 g.2) with
    | some t => if t.owner = owner then s.giveBack g.1 g.2 else s
    | none => s) s

/-- Granules change owner without returning (R209). -/
def State.reown (s : State) (gs : List (Nat × Nat)) (owner : Nat) : State :=
  s.withBpm { s.bpm with tags := gs.foldl (fun m g => m.adj (tagKey g.1 g.2) fun t => { t with owner := owner }) s.bpm.tags }

/-- The refused-free event: granule address, tag owner, freeing engine, flags (R213). Flag 1 is a double free, 2 an overflow. -/
def State.refuseFree (s : State) (p g owner engine flags : Nat) : State :=
  let base := s.fld F.BPM_POOL_BASE_BASE p
  s.raise 0x018 0 2 [(8, base + g * granule p), (2, owner), (1, engine), (1, flags)]

/-- Ask for buffers: the requests join the queue of waiting requests (R203). -/
def State.askBuffers (s : State) (owner : Nat) (who : BufWho) (pools : List Nat) : State :=
  s.withBpm { s.bpm with waits := s.bpm.waits ++ pools.map fun p => ⟨p, owner, who⟩ }

/-- May a request be served at the device level (R205)? -/
def State.levelAllows (s : State) (r : BufReq) : Bool := s.devLevel < 3 || s.withinReserve r.owner r.pool

/-- The next request of a pool to serve: those within reserve in arrival order, then the others (R203, R205). -/
def State.nextRequest (s : State) (p : Nat) : Option BufReq :=
  match s.bpm.waits.find? (fun r => r.pool == p && s.withinReserve r.owner r.pool) with
  | some r => some r
  | none => s.bpm.waits.find? fun r => r.pool == p && s.levelAllows r

/-- Remove the first occurrence of a request. -/
def removeFirst {α : Type} [DecidableEq α] (x : α) : List α → List α
  | [] => []
  | y :: ys => if x = y then ys else y :: removeFirst x ys

/-! ### The data of a command as buffer requests (R202) -/

/-- How many 4 KiB granules' worth of pools the data needs, largest DRAM granule first (R202). -/
def splitData (bytes : Nat) : List Nat :=
  List.replicate (bytes / 1048576) 5 ++ List.replicate (bytes % 1048576 / 65536) 4 ++
    List.replicate (bytes % 65536 / 16384) 3 ++ List.replicate (bytes % 16384 / 4096) 2 ++
    (if bytes % 4096 = 0 then [] else [2])

/-- Every other allocation takes the smallest pool whose granule holds it (R202). -/
def smallestPool (bytes : Nat) : Nat :=
  if bytes ≤ 256 then 0 else if bytes ≤ 1024 then 1 else if bytes ≤ 4096 then 2
  else if bytes ≤ 16384 then 3 else if bytes ≤ 65536 then 4 else 5

/-! ### Frees and references (R210 to R213) -/

/-- COUNTED_FREE: the count falls by one, and at zero the granule returns (R210); refused by R213. -/
def execCountedFree (engine p g : Nat) (s : State) : Outcome :=
  match s.bpm.tags.get? (tagKey p g) with
  | none => .next (s.refuseFree p g 0x7FF engine 1)
  | some t =>
    if t.named then .next (s.refuseFree p g t.owner engine 0)
    else if t.count = 0 then .next (s.refuseFree p g t.owner engine 1)
    else .next (s.countDown p g t)

/-- NAMED_OWNER_FREE: the granule returns if the named owner matches its tag, whatever its count (R211); else refused (R213). -/
def execNamedOwnerFree (engine p g owner : Nat) (s : State) : Outcome :=
  match s.bpm.tags.get? (tagKey p g) with
  | none => .next (s.refuseFree p g 0x7FF engine 1)
  | some t => if t.owner = owner then .next (s.giveBack p g) else .next (s.refuseFree p g t.owner engine 0)

/-- REFERENCE_TAKE: an engine takes a reference on a shared granule (R210); at 15 it is refused and the engine waits (R213). -/
def execReferenceTake (engine p g : Nat) (s : State) : Outcome :=
  match s.bpm.tags.get? (tagKey p g) with
  | none => .next (s.refuseFree p g 0x7FF engine 1)
  | some t =>
    if t.count = 15 then
      .next ((s.withBpm { s.bpm with refWaits := s.bpm.refWaits ++ [(engine, tagKey p g)] }).refuseFree p g t.owner engine 2)
    else .next (s.withBpm { s.bpm with tags := s.bpm.tags.ins (tagKey p g) { t with count := t.count + 1 } })

end Sys2Proof.Machine
end

