-- ==== Sys2Proof/Machine/Front.lean ====
section
/-!
DEFINITION. The command front end's shared operations: functions and their ports, status codes, completion entries with
dword 0, interrupts, deferred error logs, asynchronous events, and Colander requests (spec/02_host_port.md).
-/

namespace Sys2Proof.Machine

/-! ### Functions (R65, R71, R72) -/

def State.fn (s : State) (t : Nat) : FnState := s.host.fns.getD t FnState.reset

def State.putFn (s : State) (t : Nat) (f : FnState) : State := s.withHost { s.host with fns := s.host.fns.ins t f }

def State.setFn (s : State) (t : Nat) (f : FnState → FnState) : State := s.putFn t (f (s.fn t))

/-- Is a tenant number a virtual function's (R72)? -/
def isVf (t : Nat) : Bool := 2 ≤ t && t < 1024

/-- The physical function of a function (R72). -/
def pfOf (t : Nat) : Nat := if t = 0 ∨ (2 ≤ t ∧ t ≤ 512) then 0 else 1

/-- The VFs of a physical function (R72). -/
def vfsOf (pf : Nat) : List Nat := (List.range 511).map fun k => if pf = 0 then 2 + k else 513 + k

/-- The port of a function: 0 port A, 1 port B (R65). -/
def State.portOf (s : State) (t : Nat) : Nat := if s.ao.bifur && pfOf t == 1 then 1 else 0

/-- The functions of a port. -/
def State.portFns (s : State) (port : Nat) : List Nat :=
  if s.ao.bifur then (if port = 0 then 0 :: vfsOf 0 else 1 :: vfsOf 1)
  else if port = 0 then List.range 1024 else []

def State.port (s : State) (p : Nat) : Port := if p = 0 then s.host.portA else s.host.portB

def State.putPort (s : State) (p : Nat) (x : Port) : State :=
  if p = 0 then s.withHost { s.host with portA := x } else s.withHost { s.host with portB := x }

/-- May a function fetch and write: its port is up and enabled, and it is not disabled (R136, R694, R695)? -/
def State.fnLive (s : State) (t : Nat) : Bool :=
  let f := s.fn t
  (s.port (s.portOf t)).up && (s.host.enabled || (s.host.pf0Only && t == 0)) && f.bme && !f.d3 && (!isVf t || (s.fn (pfOf t)).vfe)

/-! ### Queues -/

def qkey (fn qid : Nat) : Nat := fn * 65536 + qid

def State.sq? (s : State) (fn qid : Nat) : Option Sq := s.host.sqs.get? (qkey fn qid)
def State.cq? (s : State) (fn qid : Nat) : Option Cq := s.host.cqs.get? (qkey fn qid)

def State.putSq (s : State) (fn qid : Nat) (q : Sq) : State := s.withHost { s.host with sqs := s.host.sqs.ins (qkey fn qid) q }
def State.putCq (s : State) (fn qid : Nat) (q : Cq) : State := s.withHost { s.host with cqs := s.host.cqs.ins (qkey fn qid) q }

/-- A completion queue has room for one more entry. -/
def Cq.room (q : Cq) : Bool := (q.tail + 1) % q.size != q.head

/-- Command identifiers of tunnelled commands start here: no entry of a queue has one as large (R678). -/
def tunnelCid : Nat := 65536

/-- Can a completion for a command be posted now? The ports post none during a flush (R258). A tunnelled command is answered over the management
bus. -/
def State.cqRoom (s : State) (r : CmdRef) : Bool :=
  if tunnelCid ≤ r.cid then true
  else if s.hld.flush != .none then false
  else match s.sq? r.fn r.qid with
  | some q =>
    match s.cq? r.fn q.cqid with
    | some c => c.room
    | none => true
  | none => true

/-! ### Commands in flight -/

/-- The name under which what a reset command leaves behind goes on: no command ever has it (R128, R136). -/
def ghostRef (r : CmdRef) (k : Nat) : CmdRef := { r with qid := r.qid + 65536 * (k + 1) }

def State.cmd? (s : State) (r : CmdRef) : Option Cmd := s.host.cmds.find? fun c => c.ref == r

def State.setCmd (s : State) (r : CmdRef) (f : Cmd → Cmd) : State :=
  s.withHost { s.host with cmds := s.host.cmds.map fun c => if c.ref = r then f c else c }

def State.dropCmd (s : State) (r : CmdRef) : State :=
  s.withHost { s.host with cmds := s.host.cmds.filter fun c => c.ref != r }

/-! ### Status (R132, R133, R135, R744) -/

/-- Status Code Type and Status Code. The vendor codes are those of R132; those of standard names are the NVMe standards'. -/
def Status.code : Status → Nat × Nat
  | .success => (0, 0x00) | .invalidOpcode => (0, 0x01) | .invalidField => (0, 0x02) | .abortRequested => (0, 0x07)
  | .invalidNsOrFormat => (0, 0x0B) | .sglCountInvalid => (0, 0x0E) | .sglLengthInvalid => (0, 0x0F) | .sglTypeInvalid => (0, 0x11)
  | .prpOffsetInvalid => (0, 0x13) | .sanitizeInProgress => (0, 0x1D) | .nsWriteProtected => (0, 0x20)
  | .lbaOutOfRange => (0, 0x80) | .capacityExceeded => (0, 0x81) | .nsNotReady => (0, 0x82)
  | .invalidCqParam => (1, 0x00) | .invalidQueueId => (1, 0x01) | .invalidQueueSize => (1, 0x02) | .abortLimit => (1, 0x03)
  | .aerLimit => (1, 0x05) | .invalidFwSlot => (1, 0x06) | .invalidFwImage => (1, 0x07) | .invalidVector => (1, 0x08)
  | .invalidLogPage => (1, 0x09) | .invalidFormat => (1, 0x0A) | .fwNeedsReset => (1, 0x0B) | .invalidQueueDeletion => (1, 0x0C)
  | .featNotSaveable => (1, 0x0D) | .fwNeedsSubsysReset => (1, 0x10) | .fwProhibited => (1, 0x13) | .overlappingRange => (1, 0x14)
  | .nsInsufficientCapacity => (1, 0x15) | .nsIdUnavailable => (1, 0x16) | .nsAlreadyAttached => (1, 0x18)
  | .nsNotAttached => (1, 0x1A) | .controllerListInvalid => (1, 0x1C) | .selfTestInProgress => (1, 0x1D)
  | .invalidControllerId => (1, 0x1F) | .invalidSecondaryState => (1, 0x20) | .invalidResourceCount => (1, 0x21)
  | .invalidResourceId => (1, 0x22) | .invalidPi => (1, 0x81) | .fwRangeUnknown => (1, 0x14)
  | .zoneBoundary => (1, 0xB8) | .zoneFull => (1, 0xB9) | .zoneReadOnly => (1, 0xBA) | .zoneOffline => (1, 0xBB)
  | .zoneInvalidWrite => (1, 0xBC) | .tooManyActive => (1, 0xBD) | .tooManyOpen => (1, 0xBE) | .zoneInvalidTransition => (1, 0xBF)
  | .unrecoveredRead => (2, 0x81) | .guardError => (2, 0x82) | .appTagError => (2, 0x83) | .refTagError => (2, 0x84)
  | .compareFailure => (2, 0x85)
  | .sealRequired => (7, 0xC0) | .sealAuthFailed => (7, 0xC1) | .sealCounter => (7, 0xC2) | .sealInner => (7, 0xC3)
  | .sealNoKey => (7, 0xC4) | .tenantScope => (7, 0xC8) | .plaintextDenied => (7, 0xC9) | .quotaExceeded => (7, 0xCA)
  | .dieSetTooSmall => (7, 0xCB) | .zoneResources => (7, 0xD0) | .zoneCaptureBound => (7, 0xD1) | .handleInvalid => (7, 0xD2)
  | .fwBelowFloor => (7, 0xE0) | .txnOpen => (7, 0xE2)

/-- The Do Not Retry bit (R132, R744). -/
def Status.dnr : Status → Bool
  | .success | .nsNotReady | .abortRequested | .tooManyActive | .tooManyOpen | .fwProhibited | .zoneResources | .txnOpen => false
  | _ => true

/-- The Status Field, bits 31:17 of completion dword 3 (R560). -/
def Status.field (s : Status) : Nat := s.code.2 + 2 ^ 8 * s.code.1 + 2 ^ 14 * b2n s.dnr

/-! ### The vault's record of a tenant -/

def State.tsec (s : State) (t : Nat) : TenantSec := s.sec.tenants.getD t (TenantSec.fresh t)

def State.setTsec (s : State) (t : Nat) (f : TenantSec → TenantSec) : State :=
  s.withSec { s.sec with tenants := s.sec.tenants.ins t (f (s.tsec t)) }

/-- A change of the vault store is on its way to both copies (R538). -/
def State.storeWrite (s : State) : State := s.withSec { s.sec with writes := s.sec.writes + 1 }

/-- The inner command of a tenant's envelope has completed (R555, R560). -/
def State.sealDone (s : State) (t : Nat) (st : Status) : State :=
  s.setTsec t fun x => { x with outcome := 1, istatus := st.field, env := none }

/-- The event that a vendor status raises (R133): the command's opcode is named in each. -/
def State.statusEvent (s : State) (t opc nsid presented last : Nat) (st : Status) : State :=
  match st with
  | .sealRequired | .sealAuthFailed | .sealCounter | .sealInner | .sealNoKey =>
    s.raiseT 0x040 0 1 t [(1, st.code.2), (1, 0), (4, presented % 2 ^ 32), (4, last % 2 ^ 32), (1, opc)]
  | .tenantScope | .plaintextDenied => s.raiseT 0x041 0 1 t [(1, opc), (4, nsid)]
  | .quotaExceeded => s.raiseT 0x029 0 1 t [(1, opc), (4, nsid)]
  | .dieSetTooSmall => s.raiseT 0x029 1 1 t [(1, opc), (4, nsid)]
  | .zoneCaptureBound => s.raiseT 0x029 2 1 t [(1, opc), (4, nsid)]
  | .handleInvalid => s.raiseT 0x029 3 1 t [(1, opc), (4, nsid)]
  | .fwBelowFloor => s.raise 0x042 0 1 [(1, opc)]
  | _ => s

/-! ### Features (R92) and asynchronous events (R123) -/

/-- The feature identifiers supported (R92). -/
def featSupported : List Nat := [0x01, 0x02, 0x04, 0x06, 0x07, 0x08, 0x09, 0x0A, 0x0B, 0x0E, 0x17, 0xC0]

def State.feature (s : State) (t fid : Nat) : Nat := (s.fn t).feat.getD fid 0

/-- Vendor asynchronous events are enabled: bit 31 of Asynchronous Event Configuration (DESIGN CHOICE, log entry 139: the spec names no bit). -/
def State.vendorAsync (s : State) (t : Nat) : Bool := (s.feature t 0x0B).testBit 31

/-! ### Completion dword 0 (R120, R121) -/

/-- Is a command an I/O command: fetched from an I/O queue, or the inner command of an envelope for the I/O command set (R552, R558)? -/
def ioCmd (qid opc : Nat) : Bool := qid != 0 || opc == 0x79

/-- Is a command's completion eligible (R120)? -/
def eligible (qid opc : Nat) : Bool :=
  ioCmd qid opc && [0x00, 0x01, 0x02, 0x04, 0x05, 0x08, 0x09, 0x0C, 0x79, 0x7A].contains opc

/-- Dword 0 of an eligible completion from its parts (R121). -/
def dword0 (defer hold : Bool) (press : Nat) (snow : Bool) (defcnt : Nat) : Nat :=
  b2n defer * 2 ^ 31 + b2n hold * 2 ^ 30 + (press % 4) * 2 ^ 28 + b2n snow * 2 ^ 27 + (if defer then sat 8 defcnt else 0) * 2 ^ 16

/-! ### Interrupts (R82, R92) -/

/-- The aggregation threshold and time of Interrupt Coalescing. -/
def State.coalesce (s : State) (t : Nat) : Nat := s.feature t 0x08 % 256

/-- Where the features keep Coalescing Disable of an interrupt vector. -/
def vectorKey (vec : Nat) : Nat := 65536 + vec

/-- After a completion entry is posted: send the queue's MSI-X message, or count it toward the threshold. -/
def State.signal (s : State) (t cqid : Nat) : State :=
  match s.cq? t cqid with
  | none => s
  | some q =>
    if !q.ien then s
    else
      let exempt := cqid == 0 || s.feature t (vectorKey q.vec) == 1
      if s.coalesce t = 0 || exempt || s.coalesce t < q.unsig + 1 then
        (s.putCq t cqid { q with unsig := 0 }).send (.msix t q.vec)
      else s.putCq t cqid { q with unsig := q.unsig + 1 }

/-! ### The Colander (R98 to R107, R751) -/

def overlap (a b : LockEntry) : Bool := a.nsix == b.nsix && a.lo ≤ b.hi && b.lo ≤ a.hi

/-- Two requests conflict unless both are shared (R99). -/
def conflict (a b : LockEntry) : Bool := overlap a b && (a.excl || b.excl)

/-- Entries held by a function, granted or waiting (RLK_FN_USE). -/
def State.lockUse (s : State) (t : Nat) : Nat := (s.col.table.filter fun e => e.ref.fn == t).length

def colanderSize : Nat := 8192

/-- The entries reserved and not in use, over the enabled functions, one excepted (R106). -/
def State.lockReserved (s : State) (t : Nat) : Nat :=
  s.host.fns.foldl (fun n e => if e.1 != t && e.2.en then n + (s.fld F.RLK_CFG_FN_RSV - s.lockUse e.1) else n) 0

/-- Can a command's entries be placed: within FN_CAP, and from the unreserved entries or the function's own reserve (R106, R751)? -/
def State.lockFits (s : State) (t n : Nat) : Bool :=
  s.lockUse t + n ≤ s.fld F.RLK_CFG_FN_CAP &&
  (s.col.table.length + n + s.lockReserved t ≤ colanderSize ||
    (s.lockUse t + n ≤ s.fld F.RLK_CFG_FN_RSV && s.col.table.length + n ≤ colanderSize))

/-- No earlier unretired request of the table conflicts with any entry of a command (R99); the table is in arrival order. -/
def lockClear (table : List LockEntry) (r : CmdRef) : Bool :=
  let mine := table.filter fun e => e.ref == r
  let before := table.takeWhile fun e => e.ref != r
  !(before.any fun e => mine.any fun m => conflict e m)

/-- Place a command's entries at the end of the table; it stalls if they are not granted at that moment (R98, RLK_STALLS). -/
def State.placeLocks (s : State) (r : CmdRef) (excl : Bool) (ranges : List (Nat × Nat × Nat)) : State :=
  let new := ranges.map fun x =>
    { ref := r, nsix := x.1, lo := x.2.1, hi := x.2.2, excl := excl, granted := false, arrive := s.ao.time : LockEntry }
  let table := s.col.table ++ new
  let clear := lockClear table r
  s.withCol { s.col with
    table := table
    hiwat := max s.col.hiwat table.length
    stalls := if clear then s.col.stalls else s.col.stalls + 1 }

/-- Mark a command's entries granted (R99), and keep the longest wait. -/
def State.grantLocks (s : State) (r : CmdRef) : State :=
  let wait := s.col.table.foldl (fun n e => if e.ref == r then max n (s.ao.time - e.arrive) else n) 0
  s.withCol { s.col with
    table := s.col.table.map fun e => if e.ref = r then { e with granted := true } else e
    maxwait := max s.col.maxwait (sat 32 wait) }

/-- Retire a command's entries (R103). -/
def State.retireLocks (s : State) (r : CmdRef) : State :=
  s.withCol { s.col with table := s.col.table.filter fun e => e.ref != r }

/-! ### Posting a completion -/

/-- The number of deferred records that the flag of this completion reports (R122, R752): those of the namespace whose NSID the command carries. A
Flush with NSID 0xFFFF_FFFF is a completion for no one namespace (DESIGN CHOICE, log entry 140). -/
def FnState.deferred (f : FnState) (nsid : Nat) : Nat := f.defl.pendNs.getD nsid 0 + f.defl.pendAny

/-- A response of the management endpoint: its status, 24 bits of the response, and its data (R676, R677). -/
def miAnswer (status resp : Nat) (data : List Byte) : List Byte := toBytes 1 status ++ toBytes 3 resp ++ data

/-- Write the completion entry of a command, and signal it (R36, R120 to R124). A function that may not write drops it (R136). -/
def State.postCqe (s : State) (c : Cmd) (st : Status) (dw0 dw1 : Nat) : State :=
  let t := c.ref.fn
  if c.tunnel then s.send (.mgmt (miAnswer 0 0 (toBytes 4 dw0 ++ toBytes 4 dw1 ++ toBytes 4 (c.ref.cid % 65536 + 2 ^ 17 * st.field))))
  else match s.sq? t c.ref.qid with
  | none => s
  | some q =>
    match s.cq? t q.cqid with
    | none => s
    | some cq =>
      if !(s.fnLive t) then s
      else
        let f := s.fn t
        let el := eligible c.ref.qid c.sqe.opc
        let n := f.deferred c.sqe.nsid
        let ext := (s.feature t 0xC0).testBit 0
        let d0 := if el then dword0 (decide (0 < n)) (ext && c.hold) (if ext then c.press else 0) (ext && c.snow) n else dw0
        let e : Cqe := { sqid := c.ref.qid, sqhd := q.head, cid := c.ref.cid, status := st, dnr := st.dnr, dw0 := d0, dw1 := dw1, phase := cq.phase }
        let tail := (cq.tail + 1) % cq.size
        let s := s.send (.cqe t q.cqid cq.tail e)
        let s := s.putCq t q.cqid { cq with tail := tail, phase := if tail = 0 then !cq.phase else cq.phase }
        let s := if el && 0 < n then
            s.setFn t fun f => { f with defl := { f.defl with pendNs := f.defl.pendNs.del c.sqe.nsid, pendAny := 0 } }
          else s
        let s := if st = .success then s
          else s.setFn t fun f => { f with errs := ((c.ref.qid, c.ref.cid, st) :: f.errs).take 256, errCount := f.errCount + 1 }
        s.signal t q.cqid

/-- What the event of a vendor status names: the NSID, or for a policy command the target tenant. -/
def Cmd.named (c : Cmd) : Nat := if c.ref.qid = 0 ∧ (c.sqe.opc = 0xC5 ∨ c.sqe.opc = 0xC6) then c.sqe.cdw10 % 1024 else c.sqe.nsid

/-- Complete a command: its entry is posted, an event may follow, its locks retire, its own buffers return, and it leaves the table of
commands in flight (R103, R209). -/
def State.completeEv (s : State) (c : Cmd) (st : Status) (dw0 dw1 : Nat) (ev : State → State) : State :=
  let s := ev (s.postCqe c st dw0 dw1)
  let s := s.retireLocks c.ref
  let s := s.giveBackAll c.bufs.got
  let s := s.withBpm { s.bpm with waits := s.bpm.waits.filter fun w => w.who != .cmd c.ref }
  let s := if c.sealed then s.sealDone c.ref.fn st else s
  s.dropCmd c.ref

/-- Complete a command; a vendor status raises its event (R133). -/
def State.complete (s : State) (c : Cmd) (st : Status) (dw0 : Nat := 0) (dw1 : Nat := 0) : State :=
  s.completeEv c st dw0 dw1 fun s => s.statusEvent c.ref.fn c.sqe.opc c.named 0 (s.tsec c.ref.fn).counter st

/-- Send a host buffer's bytes and complete with success. -/
def State.completeBytes (s : State) (c : Cmd) (b : List Byte) (dw0 : Nat := 0) : State :=
  (s.send (.bytes c.ref b)).complete c .success dw0

/-- Run an admin or other one-step command: it is enabled once fetched and ready, with room for its completion. -/
def State.runReady (s : State) (r : CmdRef) (qid0 : Bool) (opc : Nat) (f : Cmd → State) : Outcome :=
  match s.cmd? r with
  | none => .next s
  | some c =>
    if c.phase = .ready ∧ c.sqe.opc = opc ∧ decide (c.ref.qid = 0) = qid0 ∧ s.cqRoom r = true then .next (f c) else .next s

/-- Run an admin command that changes the vault store: the change takes effect, and the command completes, once it is programmed and read
back (R538). A plan answers the state that follows and dword 0, or the status of a failure; what the command waits for besides is an
argument. -/
def State.runStored (s : State) (r : CmdRef) (opc : Nat) (waits : Cmd → Bool) (plan : Cmd → Except Status (State × Nat)) : Outcome :=
  match s.cmd? r with
  | none => .next s
  | some c =>
    if c.sqe.opc = opc ∧ c.ref.qid = 0 ∧ s.cqRoom r = true then
      match c.phase with
      | .ready => match plan c with
        | .error st => .next (s.complete c st)
        | .ok _ => .next (s.setCmd r fun c => { c with phase := .background }).storeWrite
      | .background =>
        if waits c || 0 < s.sec.writes then .next s
        else match plan c with
          | .error st => .next (s.complete c st)
          | .ok (t, dw0) => .next (t.complete c .success dw0)
      | _ => .next s
    else .next s

/-! ### Asynchronous events (R123, ASYNCHRONOUS_EVENT_REQUEST) -/

/-- Complete one outstanding Asynchronous Event Request with the oldest waiting event. -/
def State.pumpAsync (s : State) (t : Nat) : State :=
  match (s.fn t).aev, s.host.cmds.find? fun c => c.ref.fn == t && c.ref.qid == 0 && c.sqe.opc == 0x0C && c.phase == .background with
  | (ty, info, log) :: rest, some c =>
    if s.cqRoom c.ref then
      (s.setFn t fun f => { f with aev := rest }).complete c .success (ty + 2 ^ 8 * info + 2 ^ 16 * log)
    else s
  | _, _ => s

/-- Post an asynchronous event (type, information, log page) on a function, unless its log is still unread since the last one. -/
def State.asyncEvent (s : State) (t type info log : Nat) : State :=
  if (s.fn t).aevMasked.contains log then s
  else (s.setFn t fun f => { f with aev := f.aev ++ [(type, info, log)], aevMasked := f.aevMasked ++ [log] }).pumpAsync t

/-- A group of the self-test has been read; the last one ends the test with success (R480). Results hold the kind of test in bits 7:4. -/
def FnState.selfTestStep (f : FnState) : FnState :=
  if f.dst = 0 then f
  else if f.dstTotal ≤ f.dstDone + 1 then { f with dstDone := f.dstDone + 1, dst := 0, dstResult := 16 * f.dst }
  else { f with dstDone := f.dstDone + 1 }

/-- The saved feature values, put in force: what a controller level reset leaves (R92). -/
def FnState.savedFeat (f : FnState) : AMap Nat :=
  let saved := f.feat.filter fun e => 256 ≤ e.1 && e.1 < 512
  (saved.map fun e => (e.1 - 256, e.2)) ++ saved

/-! ### Namespaces as commands name them -/

/-- The namespace index of an NSID. -/
def State.nsOf? (s : State) (nsid : Nat) : Option (Nat × Ns) :=
  (s.zon.ns.find? fun e => e.2.nsid == nsid && e.2.kind != .companion).map fun e => (e.1, e.2)

def Ns.attachedTo (n : Ns) (t : Nat) : Bool := n.attached.contains t

def State.putNs (s : State) (nsix : Nat) (n : Ns) : State := s.withZon { s.zon with ns := s.zon.ns.ins nsix n }

def State.setNs (s : State) (nsix : Nat) (f : Ns → Ns) : State := s.withZon { s.zon with ns := s.zon.ns.adj nsix f }

/-! ### Counters (R527, R528) -/

/-- Health counters: 0 units resolved OK_SOFT, 1 reconstructions served to reads, 2 Unrecovered Read Error completions, 3 check-field
failures, 4 deferred error records, 5 Lost Stripe List entries, 6 units relocated by garbage collection, 7 by refresh, 8 host units written,
9 blocks retired, 10 end-to-end failures. -/
def hcKey (scope i : Nat) : Nat := scope * 16 + i

/-- Count for the device. -/
def State.countDevice (s : State) (i n : Nat) : State :=
  s.withMed { s.med with hc := s.med.hc.upd (hcKey 2048 i) 0 (· + n) }

/-- Count for the device and for a die set, whose scope is 3,072 and its number. -/
def State.countSet (s : State) (ds i n : Nat) : State :=
  s.withMed { s.med with hc := (s.med.hc.upd (hcKey 2048 i) 0 (· + n)).upd (hcKey (3072 + ds) i) 0 (· + n) }

/-- Count for a namespace, its owner, and the device (R525). -/
def State.countHealth (s : State) (nsix i n : Nat) : State :=
  let owner := match s.nsAt nsix with
    | some x => x.owner
    | none => 2047
  s.withMed { s.med with
    hc := ((s.med.hc.upd (hcKey 2048 i) 0 (· + n)).upd (hcKey owner i) 0 (· + n)).upd (hcKey (4096 + nsix) i) 0 (· + n) }

/-! ### Deferred errors (R122 to R130, R752 to R754) -/

/-- Add an entry to a Deferred Error log (R130). -/
def DefLog.add (l : DefLog) (e : DefEntry) : DefLog :=
  if l.entries.length < 255 then { l with total := l.total + 1, entries := l.entries ++ [e] }
  else { l with total := l.total + 1, overflow := true }

/-- Record an entry on a controller; flag it for DEFER where the namespace is attached (R122), and post the vendor
asynchronous event (R123). -/
def State.deferOn (s : State) (t : Nat) (e : DefEntry) (flag any : Bool) : State :=
  let s := s.setFn t fun f =>
    let l := f.defl.add e
    let l := if any then { l with pendAny := l.pendAny + 1 }
      else if flag then { l with pendNs := l.pendNs.upd e.nsid 0 (· + 1) } else l
    { f with defl := l }
  if s.vendorAsync t then s.asyncEvent t 7 0x00 0xC0 else s

/-- Keep a record with a namespace attached to no controller (R753). -/
def Ns.keep (n : Ns) (e : DefEntry) : Ns :=
  let k : KeptRec := { tag := e.tag, reason := e.reason, ring := e.ring, blocks := e.blocks, lba := e.lba, csn := e.csn, time := e.time, lost := e.lost, here := true }
  if n.kept.length < 255 then { n with kept := n.kept ++ [k], keptTotal := n.keptTotal + 1 }
  else { n with keptTotal := n.keptTotal + 1, keptHere := n.keptHere + 1 }

/-- A new power cycle begins: the records kept were made in an earlier one (R754), and the history values are gone (R188). -/
def Ns.newCycle (n : Ns) : Ns := { n with kept := n.kept.map fun k => { k with here := false }, keptHere := 0, hist := [] }

/-- Record a deferred error for a namespace (R122): on every controller it is attached to, on its owner's where it is not
attached there, and with the namespace where it is attached to none (R753). SQID and CID appear only on the controller of the
function that issued the write (R128). -/
def State.deferError (s : State) (nsix : Nat) (e : DefEntry) (origin : Option CmdRef) : State :=
  match s.nsAt nsix with
  | none => s
  | some n =>
    let entry (t : Nat) : DefEntry :=
      match origin with
      | some r => if r.fn = t ∧ r.qid < 65536 then { e with nsid := n.nsid, sqid := r.qid, cid := r.cid } else { e with nsid := n.nsid, sqid := 0xFFFF, cid := 0xFFFF }
      | none => { e with nsid := n.nsid, sqid := 0xFFFF, cid := 0xFFFF }
    let s := s.countHealth nsix 4 1
    let s := n.attached.foldl (fun s t => s.deferOn t (entry t) true false) s
    let s := if n.attached.contains n.owner then s else s.deferOn n.owner (entry n.owner) false false
    if n.attached.isEmpty then s.setNs nsix fun n => n.keep e else s

/-- Record a deferred error whose namespace is unknown, on every controller (R752). -/
def State.deferUnknown (s : State) (e : DefEntry) : State :=
  let e := { e with nsid := 0xFFFFFFFF, sqid := 0xFFFF, cid := 0xFFFF }
  let s := s.countDevice 4 1
  let ts := (0 :: 1 :: s.zon.ns.flatMap fun x => x.2.attached).dedup
  ts.foldl (fun s t => s.deferOn t e false true) s

/-- Flag a record for DEFER on a controller's next eligible completion for its namespace (R122). -/
def DefLog.flag (l : DefLog) (nsid : Nat) : DefLog := { l with pendNs := l.pendNs.upd nsid 0 (· + 1) }

/-- A kept record as an entry of a controller's log. -/
def KeptRec.entry (k : KeptRec) (nsid : Nat) : DefEntry :=
  { tag := k.tag, nsid := nsid, reason := k.reason, sqid := 0xFFFF, cid := 0xFFFF, ring := k.ring, blocks := k.blocks, lba := k.lba, csn := k.csn
    time := k.time, lost := k.lost }

/-- Add a namespace's kept records to a controller's log at attachment, unless already there, and flag them (R122, R753). The header total of the
owner's controller counts the records of the present power cycle already (R754). -/
def State.addKept (s : State) (nsix t : Nat) : State :=
  match s.nsAt nsix with
  | none => s
  | some n =>
    let had := (s.fn t).defl.entries.map fun e => e.tag
    let s := n.kept.foldl (fun s k =>
      let s := s.setFn t fun f =>
        let l := if had.contains k.tag then f.defl
          else if t = n.owner ∧ k.here = true then { f.defl.add (k.entry n.nsid) with total := f.defl.total }
          else f.defl.add (k.entry n.nsid)
        { f with defl := l.flag n.nsid }
      if s.vendorAsync t then s.asyncEvent t 7 0x00 0xC0 else s) s
    let extra := n.keptTotal - n.kept.length
    let s := if 0 < extra then
        s.setFn t fun f => { f with defl := { f.defl with
          total := f.defl.total + (if t = n.owner then extra - n.keptHere else extra), overflow := true } }
      else s
    s.setNs nsix fun n => { n with kept := [], keptTotal := 0, keptHere := 0 }

/-- Forget the flags of a namespace that leaves a controller: its NSID may come to name another (R122). -/
def State.unflag (s : State) (t nsid : Nat) : State :=
  s.setFn t fun f => { f with defl := { f.defl with pendNs := f.defl.pendNs.del nsid } }

/-! ### Namespace protection and notices (R196, R197) -/

/-- Namespace attribute changed notice to every controller a namespace is attached to. -/
def State.nsChanged (s : State) (nsix : Nat) : State :=
  match s.nsAt nsix with
  | none => s
  | some n => n.attached.foldl (fun s t =>
      let s := s.setFn t fun f => { f with changedNs := if f.changedNs.contains n.nsid then f.changedNs else f.changedNs ++ [n.nsid] }
      if (s.feature t 0x0B).testBit 8 then s.asyncEvent t 2 0x00 0x04 else s) s

/-- Zone descriptor changed notice. -/
def State.zoneChanged (s : State) (nsix zslba : Nat) : State :=
  match s.nsAt nsix with
  | none => s
  | some n => n.attached.foldl (fun s t =>
      let s := s.setFn t fun f => { f with changedZones := f.changedZones ++ [(n.nsid, zslba)] }
      if (s.feature t 0x0B).testBit 27 then s.asyncEvent t 2 0xEF 0xBF else s) s

end Sys2Proof.Machine
end

