-- ==== Sys2Proof/Machine/Early.lean ====
section
/-!
DEFINITION. Health of die sets, and the operator's early warnings (R524, R528 to R530 of spec/10_media_management.md).
-/

namespace Sys2Proof.Machine

/-! ### Spare and wear (R524) -/

/-- The good blocks' PEC over some dies: (lowest, sum, highest, number); blocks that the table does not list have PEC 0. -/
def State.pecOf (s : State) (dies : List Nat) : Nat × Nat × Nat × Nat :=
  dies.foldl (fun a d =>
    if s.dieFailed d then a
    else
      let l := (s.listed d).filter fun e => e.2.st != .retired && e.2.st != .factoryBad && e.2.st != .system
      let n := s.goodOn d
      let lo := if l.length < n then 0 else l.foldl (fun m e => min m e.2.pec) 65535
      (min a.1 lo, a.2.1 + (l.map fun e => e.2.pec).sum, l.foldl (fun m e => max m e.2.pec) a.2.2.1, a.2.2.2 + n)) (65535, 0, 0, 0)

/-- The lowest rated cycle count among some dies' descriptors. -/
def State.ratedPec (s : State) (dies : List Nat) : Nat :=
  ((dies.map pkgOf).dedup.filterMap fun l => (s.ddk.desc.get? l).map (·.rated)).foldl min 65535

/-- AS_s. The quotient is not defined for a set without good blocks; it is a free value then. -/
def State.spareOf (s : State) (ds : Nat) : Nat :=
  let d := ceilDiv (s.dsGood ds * s.fld F.ZON_WARN_SPREF) 1000
  min 100 (if d = 0 then Config.undefinedShare ds else 100 * s.dsFree ds / d)

/-- PU_s, likewise. -/
def State.usedOf (s : State) (ds : Nat) : Nat :=
  let p := s.pecOf (s.dsDies ds)
  let r := s.ratedPec (s.dsDies ds)
  min 255 (if p.2.2.2 = 0 ∨ r = 0 then Config.undefinedShare (128 + ds) else 100 * p.2.1 / (p.2.2.2 * r))

/-! ### Early warnings (R529, R530) -/

def ewKey (code : Nat) (ds : Option Nat) : Nat := code * 1024 + ds.getD 1023

/-- A change of a condition: the event, the log entry, and the asynchronous events on PF0 and PF1 (R529). -/
def State.ewChange (s : State) (code : Nat) (ds : Option Nat) (on : Bool) (value threshold : Nat) : State :=
  let tag := s.nextTag
  let d := ds.getD 0xFFFF
  let s := s.raise (match ds with
    | some d => 0x280 + d
    | none => 0x03B) (if on then 0 else 1) (if on then 1 else 0) [(1, code), (1, b2n on), (2, d), (4, value), (4, threshold)]
  let e : EwEntry := { tag := tag, code := code, raised := on, ds := d, value := value, threshold := threshold, time := s.ao.time }
  let full := decide (255 ≤ s.med.ewLog.length)
  let s := s.withMed { s.med with
    ewLog := (if full then s.med.ewLog.drop 1 else s.med.ewLog) ++ [e], ewTotal := s.med.ewTotal + 1, ewOverflow := s.med.ewOverflow || full }
  let s := s.withMgt { s.mgt with changes := s.mgt.changes ||| 0x1000 }
  [0, 1].foldl (fun s t => if s.vendorAsync t then s.asyncEvent t 7 0x01 0xC3 else s) s

/-- Raise a condition that is not active. -/
def State.ewRaise (s : State) (code : Nat) (ds : Option Nat) (value threshold : Nat) : State :=
  if s.med.active.contains (ewKey code ds) then s
  else (s.withMed { s.med with active := s.med.active ++ [ewKey code ds] }).ewChange code ds true value threshold

/-- Clear a condition that is active. -/
def State.ewClear (s : State) (code : Nat) (ds : Option Nat) (value threshold : Nat) : State :=
  if s.med.active.contains (ewKey code ds) then
    (s.withMed { s.med with active := s.med.active.filter fun k => k != ewKey code ds }).ewChange code ds false value threshold
  else s

/-- Conditions 0x01 and 0x02 of a die set. -/
def State.ewSpare (s : State) (ds : Nat) : State :=
  let w := s.fld F.ZON_WARN_SPAREW
  let a := s.spareOf ds
  let s := if a ≤ w then s.ewRaise 0x01 (some ds) a w else if w + 5 ≤ a then s.ewClear 0x01 (some ds) a w else s
  let u := s.usedOf ds
  if s.fld F.ZON_WARN_WEARW ≤ u then s.ewRaise 0x02 (some ds) u (s.fld F.ZON_WARN_WEARW) else s

def State.benchedN (s : State) : Nat := (s.sch.dies.filter fun e => e.2.benched).length
def State.heldN (s : State) : Nat := (s.sch.dies.filter fun e => e.2.held).length

/-- Condition 0x03. -/
def State.ewBench (s : State) : State :=
  let n := s.benchedN + s.heldN
  let w := s.fld F.ZON_WARN_BENCHW
  if w ≤ n then s.ewRaise 0x03 none n w else s.ewClear 0x03 none n w

end Sys2Proof.Machine
end

