-- ==== Sys2Proof/Machine/Buckets.lean ====
section
/-!
DEFINITION. The token buckets of admission: rates, depths, levels and charges (R450, R451, R452), and the die-set bucket of snowplough mode (R483).
-/

namespace Sys2Proof.Machine

/-- The snowplough factor of a tenant's die set, out of 256 (R482, R483). -/
def State.snowF (s : State) (t : Nat) : Nat :=
  match s.tenantDs t with
  | some ds => s.sch.snow.getD ds 256
  | none => 256

def State.inSnow (s : State) (t : Nat) : Bool :=
  match s.tenantDs t with
  | some ds => (s.sch.snow.get? ds).isSome
  | none => false

/-- Rate in tokens per second of a tenant's bucket k: 0 read cap IOPS, 1 read cap bytes, 2 read floor IOPS, 3 read floor bytes,
4 to 7 the same for write; none if the bucket is absent (R450, R483). -/
def State.bucketRate (s : State) (t k : Nat) : Option Nat :=
  let bw := match k / 2 with
    | 0 => (F.SCH_TN_RCAP_BW, F.SCH_TN_RCAP_IOPS)
    | 1 => (F.SCH_TN_RFLR_BW, F.SCH_TN_RFLR_IOPS)
    | 2 => (F.SCH_TN_WCAP_BW, F.SCH_TN_WCAP_IOPS)
    | _ => (F.SCH_TN_WFLR_BW, F.SCH_TN_WFLR_IOPS)
  let raw := if k % 2 = 0 then s.fld bw.2 t else s.fld bw.1 t
  let absent := if (k / 2) % 2 = 0 then 0xFFFF else 0
  if raw = absent then none
  else
    let rate := raw * (if k % 2 = 0 then 1000 else 10000000)
    some (if 4 ≤ k then rate * s.snowF t / 256 else rate)

/-- Depth of a bucket in 10^−9 token (R450). -/
def State.bucketDepth (s : State) (t k rate : Nat) : Nat :=
  rate * (if k < 4 then s.fld F.SCH_TN_CFG_RDEPTH t else s.fld F.SCH_TN_CFG_WDEPTH t) * 1000000

/-- A bucket's level now: it rises at the rate and never exceeds the depth (R450); a bucket not used yet is full. -/
def levelNow (b : Option Bucket) (rate depth now : Nat) : Int :=
  match b with
  | none => depth
  | some b => min (depth : Int) (b.level + rate * (now - b.time))

def State.bucketLevel (s : State) (t k : Nat) : Option Int :=
  (s.bucketRate t k).map fun r => levelNow (s.sch.buckets.get? (t * 8 + k)) r (s.bucketDepth t k r) s.ao.time

/-- Every cap bucket of a direction holds a positive level (R451). -/
def State.capsOpen (s : State) (t dir : Nat) : Bool :=
  [4 * dir, 4 * dir + 1].all fun k => match s.bucketLevel t k with
    | some l => 0 < l
    | none => true

/-- Under floor in a direction (R452). -/
def State.underFloor (s : State) (t dir : Nat) : Bool :=
  [4 * dir + 2, 4 * dir + 3].any fun k => match s.bucketLevel t k with
    | some l => 0 < l
    | none => false

/-- Subtract a command's cost from a bucket (R451). -/
def State.chargeBucket (s : State) (t k cost : Nat) : State :=
  match s.bucketLevel t k with
  | none => s
  | some l => s.withSch { s.sch with buckets := s.sch.buckets.ins (t * 8 + k) ⟨l - cost * 1000000000, s.ao.time⟩ }

/-- The die-set bucket of snowplough mode (R483): rate f × N' × DIEWR, depth 1 ms. -/
def State.snowRate (s : State) (ds : Nat) : Nat :=
  s.sch.snow.getD ds 256 * ((s.dsDies ds).filter fun d => s.dieEligible d).length * s.fld F.SCH_DIEWR_DIEWR * 100000 / 256

def State.snowLevel (s : State) (ds : Nat) : Int :=
  levelNow (s.sch.buckets.get? (65536 + ds)) (s.snowRate ds) (s.snowRate ds * 1000000) s.ao.time

/-- May a write pass its die set's snowplough bucket? -/
def State.snowOpen (s : State) (t dir : Nat) : Bool :=
  if dir = 1 ∧ s.inSnow t then
    match s.tenantDs t with
    | some ds => 0 < s.snowLevel ds
    | none => true
  else true

def State.chargeSnow (s : State) (t dir bytes : Nat) : State :=
  if dir = 1 ∧ s.inSnow t then
    match s.tenantDs t with
    | some ds =>
      let b : Bucket := ⟨s.snowLevel ds - bytes * 1000000000, s.ao.time⟩
      s.withSch { s.sch with buckets := s.sch.buckets.ins (65536 + ds) b }
    | none => s
  else s

/-- Every bucket brought up to date at its present rate: done before anything that sets a rate changes, since a level rises at the rate of its time
(R450). -/
def State.settleBuckets (s : State) : State :=
  s.withSch { s.sch with buckets := s.sch.buckets.mapV fun k b =>
    if k < 65536 then (match s.bucketLevel (k / 8) (k % 8) with
      | some l => ⟨l, s.ao.time⟩
      | none => b)
    else ⟨s.snowLevel (k - 65536), s.ao.time⟩ }

end Sys2Proof.Machine
end

