-- ==== Sys2Proof/Machine/Unit.lean ====
section
/-!
DEFINITION. Units: CRC-32C, arithmetic in GF(2^8), P and Q with the recovery table, and the device check field (R402 to R407,
R412, R413 of spec/08_stripes.md).
-/

namespace Sys2Proof.Machine

/-! ### Cyclic redundancy checks -/

/-- One bit of a reflected CRC. -/
def crcBit (poly crc : Nat) (b : Bool) : Nat :=
  if (crc.testBit 0) != b then (crc / 2) ^^^ poly else crc / 2

/-- Bits 0 to n − 1 of a number through a reflected CRC, the low bit of byte 0 first. -/
def crcBits (poly v : Nat) : Nat → Nat → Nat → Nat
  | 0, _, crc => crc
  | n + 1, i, crc => crcBits poly v n (i + 1) (crcBit poly crc (v.testBit i))

/-- CRC-32C of the first n bytes of a little-endian number. -/
def crc32c (n v : Nat) : Nat := (crcBits 0x82F63B78 v (8 * n) 0 0xFFFFFFFF) ^^^ 0xFFFFFFFF

/-- CRC-32C of a list of bytes. -/
def crc32cBytes (b : List Byte) : Nat := crc32c b.length (ofBytes b)

/-! ### GF(2^8) with 0x11D (R402) -/

/-- Ones in the low bit of each of n bytes. -/
def lowOnes (n : Nat) : Nat := (2 ^ (8 * n) - 1) / 255

/-- g times every byte of an information part. -/
def Info.dbl (x : Info) : Info :=
  let hi := (x >>> 7) &&& BitVec.ofNat 33152 (lowOnes 4144)
  ((x &&& BitVec.ofNat 33152 (0x7F * lowOnes 4144)) <<< 1) ^^^ hi ^^^ (hi <<< 2) ^^^ (hi <<< 3) ^^^ (hi <<< 4)

/-- A constant times every byte. -/
def Info.scale (x : Info) (c : Nat) : Info :=
  ((List.range 8).foldl (fun (a : Info × Info) i => (if c.testBit i then a.1 ^^^ a.2 else a.1, Info.dbl a.2)) (0, x)).1

/-- g times a byte. -/
def gfDbl (a : Nat) : Nat := if a < 128 then 2 * a else (2 * a - 256) ^^^ 0x1D

/-- The product of two bytes. -/
def gfMul (a b : Nat) : Nat :=
  ((List.range 8).foldl (fun (s : Nat × Nat) i => (if b.testBit i then s.1 ^^^ s.2 else s.1, gfDbl s.2)) (0, a)).1

/-- A byte to a power. -/
def gfPow (a : Nat) : Nat → Nat
  | 0 => 1
  | n + 1 => gfMul a (gfPow a n)

/-- g^d. -/
def gPow (d : Nat) : Nat := gfPow 2 d

/-- The inverse of a nonzero byte. -/
def gfInv (a : Nat) : Nat := gfPow a 254

/-- P of 16 data positions (R402). -/
def parityP (ds : List Info) : Info := ds.foldl (fun p d => p ^^^ d) 0

/-- Q of data positions given with their numbers (R402). -/
def parityQOf (ds : List (Nat × Info)) : Info := ds.foldl (fun q x => q ^^^ x.2.scale (gPow x.1)) 0

def parityQ (ds : List Info) : Info := parityQOf (ds.zipIdx.map fun x => (x.2, x.1))

/-- Recovery of data position x from the surviving data positions and P (R403). -/
def recoverByP (p : Info) (ds : List (Nat × Info)) : Info := p ^^^ parityP (ds.map (·.2))

/-- Recovery of data position x from the other data positions and Q (R403). -/
def recoverByQ (x : Nat) (q : Info) (ds : List (Nat × Info)) : Info := (q ^^^ parityQOf ds).scale (gfInv (gPow x))

/-- Recovery of data positions x < y from the others, P and Q: (D_x, D_y) (R403). -/
def recoverTwo (x y : Nat) (p q : Info) (ds : List (Nat × Info)) : Info × Info :=
  let pxy := p ^^^ parityP (ds.map (·.2))
  let qxy := q ^^^ parityQOf ds
  let dy := (pxy.scale (gPow x) ^^^ qxy).scale (gfInv (gPow x ^^^ gPow y))
  (pxy ^^^ dy, dy)

/-! ### The covered part (R404, R407) -/

/-- A field of the covered part, by its first byte and its width in bytes. -/
def Info.covered (i : Info) (byte n : Nat) : Nat := (i.toNat >>> (32768 + 8 * byte)) % 2 ^ (8 * n)

def Info.data (i : Info) : Block := i.setWidth 32768
def Info.dcsn (i : Info) : Nat := i.covered 0 8
def Info.scsn (i : Info) : Nat := i.covered 8 8
def Info.lba (i : Info) : Nat := i.covered 16 5
def Info.ident (i : Info) : Nat := i.covered 24 4
def Info.tenant (i : Info) : Nat := bits i.ident 31 22
def Info.nsix (i : Info) : Nat := bits i.ident 21 10
def Info.kind (i : Info) : Nat := bits i.ident 9 8
def Info.isStaged (i : Info) : Bool := i.ident.testBit 1
def Info.isReloc (i : Info) : Bool := i.ident.testBit 0
def Info.hmeta (i : Info) : Nat := i.covered 28 16
def Info.dcrc (i : Info) : Nat := i.covered 44 4

/-- IDENT of R404. -/
def identOf (tenant nsix kind : Nat) (staged reloc : Bool) : Nat :=
  (tenant % 1024) * 2 ^ 22 + (nsix % 4096) * 2 ^ 10 + (kind % 4) * 2 ^ 8 + b2n staged * 2 + b2n reloc

/-- The information part of a data unit: the stored data, the covered part, and DCRC over both (R404). -/
def mkInfo (data : Block) (dcsn scsn lba tenant nsix kind hmeta : Nat) (staged reloc : Bool) : Info :=
  let cov := dcsn % 2 ^ 64 + (scsn % 2 ^ 64) * 2 ^ 64 + (lba % 2 ^ 40) * 2 ^ 128 +
    identOf tenant nsix kind staged reloc * 2 ^ 192 + (hmeta % 2 ^ 128) * 2 ^ 224
  let body := data.toNat + cov * 2 ^ 32768
  BitVec.ofNat 33152 (body + crc32c 4140 body * 2 ^ 33120)

/-- DCRC holds (R404, R412). -/
def Info.dcrcOk (i : Info) : Bool := i.dcrc == crc32c 4140 i.toNat

/-- The same content as a copy with a new stripe CSN and flags (R30, R417). -/
def Info.recopy (i : Info) (scsn : Nat) (staged reloc : Bool) : Info :=
  mkInfo i.data i.dcsn scsn i.lba i.tenant i.nsix i.kind i.hmeta staged reloc

/-- HMETA of a host unit by the LBA format (R407). -/
def hmetaOf (lbaf md : Nat) : Nat :=
  match lbaf with
  | 1 => md % 2 ^ 64
  | 2 => md % 2 ^ 128
  | 3 => (md >>> 384) % 2 ^ 128
  | _ => 0

/-! ### The trailer (R405) -/

/-- PLOC. -/
def Trailer.ploc (t : Trailer) : Nat := t.die * 2 ^ 53 + t.block * 2 ^ 40 + t.slot * 2 ^ 25

/-- ROLE. -/
def Trailer.roleByte (t : Trailer) : Nat := b2n t.lost * 128 + b2n t.pad * 64 + t.role % 32

/-- TCRC over bytes 59:40 of the check field. -/
def FlashUnit.tcrc (u : FlashUnit) : Nat :=
  crc32c 20 (u.info.covered 40 8 + u.trailer.ploc * 2 ^ 64 + u.trailer.setid % 2 ^ 21 * 2 ^ 128 + u.trailer.roleByte * 2 ^ 152)

/-- The 64-byte check field of a unit on flash. -/
def FlashUnit.checkField (u : FlashUnit) : CheckField :=
  BitVec.ofNat 512 (u.info.toNat / 2 ^ 32768 + u.trailer.ploc * 2 ^ 384 + u.trailer.setid % 2 ^ 21 * 2 ^ 448 +
    u.trailer.roleByte * 2 ^ 472 + u.tcrc * 2 ^ 480)

end Sys2Proof.Machine
end

