-- ==== Sys2Proof/Machine/FlashRead.lean ====
section
/-!
DEFINITION. Units as flash holds them: the checks of R412 and R413 for a unit read from its place, and its reconstruction from the other members of
its row (R403, R429, R430).
-/

namespace Sys2Proof.Machine

def SetRec.memberLost (r : SetRec) (m : Nat) : Bool := r.mlost.testBit m

/-- Does a data unit pass the checks before its program (R412)? -/
def unitPasses (r : SetRec) (i : Info) : Bool := i.dcrcOk && i.tenant == r.tenant

/-! ### Units on flash (R405, R412) -/

def State.flashAt (s : State) (die block slot : Nat) : Option FlashUnit := s.med.flash.get? (flashKey die block slot)

def State.putFlash (s : State) (die block slot : Nat) (u : FlashUnit) : State :=
  s.withMed { s.med with flash := s.med.flash.ins (flashKey die block slot) u }

/-- A unit as it is programmed at a place (R405). -/
def flashUnit (die block slot setid role : Nat) (x : Info × Bool × Bool) : FlashUnit :=
  { info := x.1, trailer := { die := die, block := block, slot := slot, setid := setid, lost := x.2.2, pad := x.2.1, role := role } }

/-- The trailer is the one that the lookup expects, and the unit does not carry LOST (R412, R429). -/
def FlashUnit.expected (u : FlashUnit) (die block slot setid role : Nat) : Bool :=
  u.trailer.die == die && u.trailer.block == block && u.trailer.slot == slot && u.trailer.setid == setid && u.trailer.role == role &&
    !u.trailer.lost

/-- Does the content of a role pass the checks of R412 for a source unit of relocation, rebuild or reconstruction? A data unit's DCRC, its tenant
and namespace as the set has them, and its data CSN below the counter and, in a zone set, above its binding's (R413); pads, P and Q carry none. -/
def State.contentOk (s : State) (setid : Nat) (r : SetRec) (role : Nat) (pad : Bool) (i : Info) : Bool :=
  role == 16 || role == 17 || pad || i == 0 ||
    (unitPasses r i && (decide (0x180000 ≤ setid) || i.nsix == r.nsix) && (decide (0x100000 ≤ setid) || decide (r.bindCsn < i.dcsn)) &&
      decide (i.dcsn < s.jnl.csn))

/-- Member m's unit of a row from its block; none where it is unreadable (R429, R437). -/
def State.readMember (s : State) (setid : Nat) (r : SetRec) (m row : Nat) : Option (Info × Bool) :=
  if r.memberLost m then none
  else
    let b := nth r.members m (0, 0)
    match s.flashAt b.1 b.2 row with
    | none => none
    | some u =>
      if u.expected b.1 b.2 row setid (roleOf row m) && s.contentOk setid r (roleOf row m) u.trailer.pad u.info then some (u.info, u.trailer.pad)
      else none

/-! ### Reconstruction (R403, R430) -/

/-- The 18 contents of a row by role, from those that can be read; useQ takes Q where P would do. -/
def recoverRow (avail : AMap Info) (useQ : Bool) : Option (List Info) :=
  let have_ := (List.range 16).filterMap fun d => (avail.get? d).map fun i => (d, i)
  let gone := (List.range 16).filter fun d => (avail.get? d).isNone
  let fill (l : AMap Info) : List Info :=
    let ds := (List.range 16).map fun d => l.getD d 0
    ds ++ [parityP ds, parityQ ds]
  match gone, avail.get? 16, avail.get? 17 with
  | [], _, _ => some (fill avail)
  | [x], some p, none => some (fill (avail.ins x (recoverByP p have_)))
  | [x], some p, some q => some (fill (avail.ins x (if useQ then recoverByQ x q have_ else recoverByP p have_)))
  | [x], none, some q => some (fill (avail.ins x (recoverByQ x q have_)))
  | [x, y], some p, some q =>
    let xy := recoverTwo x y p q have_
    some (fill ((avail.ins x xy.1).ins y xy.2))
  | _, _, _ => none

/-- The readable members of a row by role, one excepted. -/
def State.readable (s : State) (setid : Nat) (r : SetRec) (row m : Nat) : AMap Info :=
  (List.range 18).foldl (fun (a : AMap Info) k =>
    if k = m then a else match s.readMember setid r k row with
      | some x => a.ins (roleOf row k) x.1
      | none => a) []

/-- Member m's unit of a row by reconstruction, computed again with Q in place of P where the first result fails its check (R430). -/
def State.rebuildUnit (s : State) (setid : Nat) (r : SetRec) (m row : Nat) : Option (Info × Bool) :=
  let avail := s.readable setid r row m
  let role := roleOf row m
  let try_ (useQ : Bool) : Option (Info × Bool) := (recoverRow avail useQ).bind fun l =>
    let i := nth l role 0
    if s.contentOk setid r role false i then some (i, i == 0 && role != 16 && role != 17) else none
  (try_ false).or (try_ true)

/-- Member m's unit of a row, read or reconstructed. -/
def State.obtain (s : State) (setid : Nat) (r : SetRec) (m row : Nat) : Option (Info × Bool) :=
  (s.readMember setid r m row).or (s.rebuildUnit setid r m row)

end Sys2Proof.Machine
end

