-- ==== Sys2Proof/Machine/SqeFields.lean ====
section
/-!
DEFINITION. The fields of submission queue entries that the rows read (the NVMe command formats; R184, R544, R551).
-/

namespace Sys2Proof

open Machine

/-- NLB of an I/O command, as a count of blocks. -/
def Sqe.nlb (e : Sqe) : Nat := e.cdw12 % 65536 + 1

def Sqe.slba (e : Sqe) : Nat := e.cdw10 + 2 ^ 32 * e.cdw11

def Sqe.fua (e : Sqe) : Bool := e.cdw12.testBit 30

/-- Directive Type and Directive Specific (R184). -/
def Sqe.dtype (e : Sqe) : Nat := bits e.cdw12 23 20

def Sqe.dspec (e : Sqe) : Nat := bits e.cdw13 31 16

/-- Zone Send Action and Select All of Zone Management Send. -/
def Sqe.zsa (e : Sqe) : Nat := bits e.cdw13 7 0

def Sqe.selectAll (e : Sqe) : Bool := e.cdw13.testBit 8

/-- The ranges of Dataset Management: (SLBA, number of blocks), from the 16-byte descriptors in host memory. -/
def dsmRanges : Nat → List Byte → List (Nat × Nat)
  | 0, _ => []
  | n + 1, b =>
    if b.length < 16 then []
    else (ofBytes ((b.drop 8).take 8), ofBytes ((b.drop 4).take 4)) :: dsmRanges n (b.drop 16)

def Sqe.ranges (e : Sqe) : List (Nat × Nat) := dsmRanges (e.cdw10 % 256 + 1) e.data

/-- The deallocate attribute of Dataset Management. -/
def Sqe.dealloc (e : Sqe) : Bool := e.cdw11.testBit 2

/-- Security Send of a key operation: security protocol 0xF0 with SPSP 0x0010 (R544, R551). -/
def Sqe.keyOp (e : Sqe) : Bool := bits e.cdw10 31 24 == 0xF0 && bits e.cdw10 23 8 == 0x0010

/-- Must a command arrive inside a Sealed Envelope (R89, R90, R131, R551)? -/
def Sqe.mustSeal (e : Sqe) (qid : Nat) : Bool :=
  if qid = 0 then [0x0D, 0x10, 0x15, 0x80, 0x84, 0xC5].contains e.opc || (e.opc == 0x81 && e.keyOp)
  else e.opc == 0x79 && e.zsa == 0x04 && e.selectAll

/-- The fields of Get Log Page: Log Page Identifier, Log Specific Parameter, Retain Asynchronous Event, length and offset in bytes. -/
def Sqe.lid (e : Sqe) : Nat := bits e.cdw10 7 0
def Sqe.lsp (e : Sqe) : Nat := bits e.cdw10 14 8
def Sqe.rae (e : Sqe) : Bool := e.cdw10.testBit 15
def Sqe.logLen (e : Sqe) : Nat := 4 * (bits e.cdw10 31 16 + 65536 * bits e.cdw11 15 0 + 1)
def Sqe.lpo (e : Sqe) : Nat := e.cdw12 + 2 ^ 32 * e.cdw13

end Sys2Proof
end

