-- ==== Sys2Proof/Machine/Stripes.lean ====
section
/-!
DEFINITION. Stripe rows: the groups that hold them, filling, parity, early close, staging, closing and the return of credit
(R399 to R426 of spec/08_stripes.md, R43, R253, R271), snowplough mode as FREE moves (R481, R482), and the commands
STRIPE_UNIT_PLACEMENT and GROUP_PROGRAM.
-/

namespace Sys2Proof.Machine

/-! ### Rows and the groups that hold them (R361, R414) -/

def State.set? (s : State) (setid : Nat) : Option SetRec := s.str.sets.get? setid

def State.row (s : State) (setid row : Nat) : Row := s.str.rows.getD (stripeId setid row) Row.empty

def State.putRow (s : State) (setid row : Nat) (r : Row) : State :=
  s.withStr { s.str with rows := s.str.rows.ins (stripeId setid row) r }

def State.setRow (s : State) (setid row : Nat) (f : Row → Row) : State := s.putRow setid row (f (s.row setid row))

def groupKey (setid m grp : Nat) : Nat := (setid * 32 + m) * 1024 + grp

/-- The units per group of member m's block, by the wear bin of its last erase. -/
def State.memberUnits (s : State) (r : SetRec) (m : Nat) : List Nat :=
  let b := nth r.members m (0, 0)
  s.groupUnits b.1 (s.blk b.1 b.2).wbin

/-- The 4-page group of member m that holds a row. -/
def State.rowGroup (s : State) (r : SetRec) (m row : Nat) : Option Nat :=
  (slotPlace (s.memberUnits r m) 0 row).map fun p => p.2.1

/-- The rows of a group of member m: first and count, spare rows included. -/
def State.groupSpan (s : State) (r : SetRec) (m grp : Nat) : Nat × Nat := groupSlots (s.memberUnits r m) grp

/-- The last row of the set held by any group, on any member, that holds a row (R416). -/
def State.rowEnd (s : State) (r : SetRec) (row : Nat) : Nat :=
  (List.range 18).foldl (fun e m => match s.rowGroup r m row with
    | some g => max e (min (r.rows - 1) ((s.groupSpan r m g).1 + (s.groupSpan r m g).2 - 1))
    | none => e) row

/-- A data position counts as filled: its group may be programmed with what it holds (R414). -/
def RowPos.ready : RowPos → Bool
  | .unit _ _ | .pad | .lost => true
  | .empty | .staged => false

def RowPos.isEmpty : RowPos → Bool
  | .empty => true
  | _ => false

/-- The information part of a data position; pads and lost markers count as zero. -/
def RowPos.info : RowPos → Info
  | .unit _ i => i
  | _ => 0

def Row.full (r : Row) : Bool := r.pos.all RowPos.ready

/-- The data positions filled, as the mask of R270. -/
def Row.mask (r : Row) : Nat := (r.pos.zipIdx.filter fun x => !x.1.isEmpty).foldl (fun m x => m + 2 ^ x.2) 0

/-- What member m holds in a row: its information part, and whether it is a pad or a lost marker; none while it is not filled. -/
def Row.at? (r : Row) (role : Nat) : Option (Info × Bool × Bool) :=
  if role = 16 then r.p.map fun i => (i, false, false)
  else if role = 17 then r.q.map fun i => (i, false, false)
  else match nth r.pos role .empty with
    | .unit _ i => some (i, false, false)
    | .pad => some (0, true, false)
    | .lost => some (0, false, true)
    | _ => none

/-- What slot s of member m is programmed with: a spare row's slot takes a pad (R424). -/
def State.slotContent (s : State) (setid : Nat) (r : SetRec) (m slot : Nat) : Option (Info × Bool × Bool) :=
  if r.rows ≤ slot then some (0, true, false) else (s.row setid slot).at? (roleOf slot m)

/-- Every slot of a group of member m holds a unit (R414). -/
def State.groupFull (s : State) (setid : Nat) (r : SetRec) (m grp : Nat) : Bool :=
  let sp := s.groupSpan r m grp
  (List.range sp.2).all fun i => (s.slotContent setid r m (sp.1 + i)).isSome

def State.groupState (s : State) (setid m grp : Nat) : Option GroupState :=
  (s.str.groups.get? (groupKey setid m grp)).map (·.st)

/-- A row is programmed once every group holding it has completed on every member that is not lost (R415, R435). -/
def State.rowProgrammed (s : State) (setid : Nat) (r : SetRec) (row : Nat) : Bool :=
  (List.range 18).all fun m => r.memberLost m || (match s.rowGroup r m row with
    | some g => s.groupState setid m g == some .done
    | none => false)

/-- The key of a unit in DRAM. -/
def unitKey (scsn : Nat) (comp : Bool) : Nat := 2 * scsn + b2n comp

/-! ### Counters (STR_CNT) -/

def State.countStr (s : State) (i n : Nat) : State :=
  s.withStr { s.str with cnt := s.str.cnt.upd i 0 fun c => sat 64 (c + n) }

/-! ### Filling, parity and closing (R271, R402, R415) -/

/-- Append the stripe open record of a row, once, before any member of it is programmed (R271). -/
def State.openRow (s : State) (setid : Nat) (r : SetRec) (row lo hi : Nat) : State :=
  if (s.row setid row).opened then s
  else
    let s := s.setRow setid row fun x => { x with opened := true, lo := lo, hi := hi }
    s.journal r.tenant lo (.stripeOpen (stripeId setid row) hi)

/-- Compute P and Q of a row whose 16 positions are filled, and append the parity record (R271, R415). -/
def State.parityRow (s : State) (setid : Nat) (r : SetRec) (row : Nat) (early : Bool) : State :=
  let x := s.row setid row
  if x.full && !x.parity then
    let ds := x.pos.map RowPos.info
    let s := s.putRow setid row { x with p := some (parityP ds), q := some (parityQ ds), parity := true, early := early || x.early }
    s.journal r.tenant x.lo (.stripeParity (stripeId setid row) x.mask (if early || x.early then 2 else 1))
  else s

/-- Put something at a data position of a row, and compute the parity once the row is full. -/
def State.fillPos (s : State) (setid : Nat) (r : SetRec) (row d : Nat) (x : RowPos) (early : Bool) : State :=
  let scsn := match x with
    | .unit _ i => some i.scsn
    | _ => none
  let s := s.openRow setid r row (scsn.getD s.jnl.csn) (scsn.getD s.jnl.csn)
  let s := s.setRow setid row fun y => { y with
    pos := y.pos.set d x
    lo := match scsn with
      | some c => min y.lo c
      | none => y.lo
    hi := match scsn with
      | some c => max y.hi c
      | none => y.hi }
  s.parityRow setid r row early

/-- Fill every empty data position of a row with pads (R416). -/
def State.padRow (s : State) (setid : Nat) (r : SetRec) (row : Nat) : State :=
  let empties := ((s.row setid row).pos.zipIdx.filter fun x => x.1.isEmpty).map (·.2)
  let s := empties.foldl (fun s d => s.fillPos setid r row d .pad true) s
  s.parityRow setid r row true

/-- Return credit (R43, R252). -/
def State.returnCredit (s : State) (n : Nat) : State := s.withHld { s.hld with resv := s.hld.resv - n }

/-- A unit's data is on flash in a closed stripe: its credit returns, its buffers return, and it leaves the index of R46. -/
def State.retireUnit (s : State) (key : Nat) : State :=
  match s.str.dram.get? key with
  | none => s
  | some u =>
    let s := if u.credit then s.returnCredit unitCredit else s
    let s := s.withStr { s.str with dram := s.str.dram.del key }
    s.giveBackAll (u.bufs.filter fun g => !(s.str.dram.any fun e => e.2.bufs.contains g) &&
      !(s.cap.rings.any fun r => r.2.spans.any fun x => g == (5, x.2)))

/-- The key of a namespace's logical block in the staging index and the placement map. -/
def lbaKey (nsix lba : Nat) : Nat := nsix * 2 ^ 48 + lba

/-- The zone position of a staged unit: set id, row and data position. -/
def State.zonePlace (s : State) (nsix lba : Nat) : Option (Nat × Nat × Nat) :=
  match s.nsAt nsix with
  | none => none
  | some n =>
    (n.entryOf (lba / 262144)).map fun e => (e, lba % 262144 / 16, lba % 16)

/-- A staged copy is in a closed staging stripe: its original leaves DRAM, and its zone position is served from staging (R418,
R420). -/
def State.settleStaged (s : State) (u : DramUnit) : State :=
  match s.str.dram.find? fun e => e.2.dcsn == u.dcsn && !e.2.staged && e.2.nsix == u.nsix && e.2.lba == u.lba with
  | none => s
  | some (k, _) =>
    let s := s.retireUnit k
    match s.zonePlace u.nsix u.lba with
    | none => s
    | some (e, row, d) =>
      if (s.row e row).parity then s
      else s.setRow e row fun x => { x with pos := x.pos.set d (match nth x.pos d .empty with
        | .unit _ _ => .staged
        | y => y) }

/-- Drop the staging index entries of the positions of a closed zone row (R419). -/
def State.unstage (s : State) (nsix zslba row : Nat) : State :=
  (List.range 16).foldl (fun s d =>
    s.withStr { s.str with staging := s.str.staging.del (lbaKey nsix (zslba + 16 * row + d)) }) s

/-- Does a Flush cover a unit: of a namespace it names, with a stripe CSN below C and no relocation flag (R112)? A unit that is neither
accepted nor placed lies in no stripe. -/
def flushCovers (named : Nat → Bool) (csn key : Nat) (u : DramUnit) : Bool :=
  named u.nsix && decide (key / 2 < csn) && !u.reloc && (u.accepted || u.place.isSome)

/-- The namespaces a Flush names: its NSID's and that one's companion, or every namespace attached to its function. -/
def State.flushNames (s : State) (fn nsid : Nat) (nsix : Nat) : Bool :=
  s.zon.ns.any fun e => (e.2.nsid == nsid || nsid == 0xFFFFFFFF) && e.2.kind != .companion && e.2.attached.contains fn &&
    (e.1 == nsix || e.2.comp == some nsix)

/-- What waits for a unit's stripe to be closed in the journal notes the close record's sequence number: the unit's own write (R42, R111), its capture
ring (R227), and the Flushes that cover the unit (R112). -/
def State.noteClose (s : State) (key seq : Nat) : State :=
  match s.str.dram.get? key with
  | none => s
  | some u =>
    let s := s.withCap { s.cap with rings := s.cap.rings.mapV fun _ r => { r with
      inflight := r.inflight.map fun x => if unitKey x.2 false = key then ({ x.1 with closes := x.1.closes ++ [seq] }, x.2) else x } }
    s.withHost { s.host with cmds := s.host.cmds.map fun c =>
      if (u.ref == some c.ref || (c.phase == .flushing && flushCovers (s.flushNames c.ref.fn c.sqe.nsid) (c.csn.getD 0) key u)) = true then
        { c with recs := c.recs ++ [seq] }
      else c }

/-- Close a row: append the close record, set CLOSEH of the set's blocks, then return the credit of its units (R43, R271, R492). -/
def State.closeRow (s : State) (setid : Nat) (r : SetRec) (row : Nat) : State :=
  let x := s.row setid row
  if x.closed || !x.parity || !s.rowProgrammed setid r row then s
  else
    let s := s.setRow setid row fun x => { x with closed := true, missing := r.mlost }
    let seq := s.jnl.nextSeq
    let s := s.journal r.tenant x.lo (.stripeClose (stripeId setid row) (0x3FFFF - r.mlost) x.hi)
    let s := x.pos.foldl (fun s p => match p with
      | .unit c _ => s.noteClose c seq
      | _ => s) s
    let s := r.members.foldl (fun s m => s.setBlk m.1 m.2 fun b => { b with closeh := s.ddk.eh.getD m.1 0 / 16 }) s
    let s := s.countStr 0 1
    let s := if x.early && x.pos.any (fun p => p == .pad) then s.countStr 1 1 else s
    x.pos.foldl (fun s p => match p with
      | .unit c i =>
        let s := match s.str.dram.get? c with
          | some u => if u.staged then s.settleStaged u else s
          | none => s
        let s := s.retireUnit c
        if setid < 0x100000 then s.withStr { s.str with staging := s.str.staging.del (lbaKey i.nsix i.lba) } else s
      | _ => s) s

/-- Close every row of a range that has become programmed. -/
def State.closeRows (s : State) (setid : Nat) (r : SetRec) (first n : Nat) : State :=
  (List.range n).foldl (fun s i => if first + i < r.rows then s.closeRow setid r (first + i) else s) s

/-! ### Early close and staging (R416, R417, R421, R749) -/

/-- Early close of a row of a placement or staging set (R416). -/
def State.earlyClose (s : State) (setid row : Nat) : State :=
  match s.set? setid with
  | none => s
  | some r =>
    let e := s.rowEnd r row
    let s := (List.range (e + 1 - row)).foldl (fun s i => s.padRow setid r (row + i)) s
    let next := 16 * (e + 1)
    if setid < 0x180000 then
      s.withZon { s.zon with sb := s.zon.sb.adj (setid - 0x100000) fun b => { b with next := max b.next next } }
    else s.withZon { s.zon with stg := s.zon.stg.adj (setid - 0x180000) fun b => { b with next := max b.next next } }

/-- The lowest handle of a range that no superblock has. -/
def freeHandle (used : List Nat) : Nat → Nat → Option Nat
  | 0, _ => none
  | n + 1, h => if used.contains h then freeHandle used n (h + 1) else some h

/-- Data slots of a superblock (R180). -/
def superSlots (h umin : Nat) : Nat := let n := min 262144 (16 * umin); if h = 16383 then min n 262142 else n

/-- Bind a superblock of a tenant: choose its set, journal the bind, and list it (R150, R180, R270, R421). None where no set can be
chosen, or while the CSN ceiling leaves no number for the bind (R25). -/
def State.bindSuper (s : State) (staging : Bool) (nsix tenant group : Nat) : Option (State × Nat) :=
  match s.tenantDs tenant with
  | none => none
  | some ds =>
    let tbl := if staging then s.zon.stg else s.zon.sb
    match freeHandle (tbl.map (·.1)) (if staging then 2048 else 16384) 0, s.chooseSet (s.dsDies ds) 14336 with
    | some h, some members =>
      if !s.csnReady 1 then none else
      let slots := superSlots (if staging then 0 else h) (s.minUnits members)
      let setid := if staging then stagingSet h else placementSet h
      let csn := s.jnl.csn
      let s := (s.takeCsns 1).bindSet setid tenant nsix (ceilDiv slots 16) csn members
      let s := s.journal tenant csn (.superBind (setid % 2 ^ 20) group members)
      let b : Super := { nsix := nsix, tenant := tenant, group := group, next := 0, slots := slots, stopped := false }
      some (if staging then (s.withZon { s.zon with stg := s.zon.stg.ins h b, stgOpen := s.zon.stgOpen.ins tenant h }, h)
        else (s.withZon { s.zon with sb := s.zon.sb.ins h b }, h))
    | _, _ => none

/-- A tenant's open staging superblock, bound if it has none; none where none can be bound (R421). -/
def State.openStaging (s : State) (tenant : Nat) : Option (State × Nat) :=
  match s.zon.stgOpen.get? tenant with
  | some g =>
    match s.zon.stg.get? g with
    | some b => if b.next < b.slots && !b.stopped then some (s, g) else s.bindSuper true 0xFFF tenant 0
    | none => s.bindSuper true 0xFFF tenant 0
  | none => s.bindSuper true 0xFFF tenant 0

/-- Stage one unit of a zone row: a copy with STAGED set and a new SCSN in the tenant's staging superblock (R417). -/
def State.stageUnit (s : State) (key : Nat) : State :=
  match s.str.dram.get? key with
  | none => s
  | some u =>
    if u.staged || (s.str.staging.get? (lbaKey u.nsix u.lba)).isSome || !s.csnReady 2 then s
    else
      match s.openStaging u.tenant with
      | none =>
        match s.tenantDs u.tenant with
        | some ds => s.raiseT (0x280 + ds) 3 2 u.tenant []
        | none => s
      | some (s, g) =>
        match s.zon.stg.get? g, s.set? (stagingSet g) with
        | some b, some r =>
          let c := s.jnl.csn
          let s := s.takeCsns 1
          let info := u.info.recopy c true false
          let place := (stripeId (stagingSet g) (b.next / 16), b.next % 16)
          let copy : DramUnit := { u with info := info, staged := true, credit := false, place := some place, bufs := [], addr := none }
          let s := s.withStr { s.str with
            dram := s.str.dram.ins (2 * c) copy
            staging := s.str.staging.ins (lbaKey u.nsix u.lba) (place.1 * 16 + place.2) }
          let s := s.withZon { s.zon with stg := s.zon.stg.ins g { b with next := b.next + 1 } }
          (s.fillPos (stagingSet g) r (b.next / 16) (b.next % 16) (.unit (2 * c) info) false).countStr 3 1
        | _, _ => s

/-- Does the completion or the acceptance of a unit's write wait on its stripe, in write-through mode or since it was taken in it (R42, R749)? -/
def State.wtWaits (s : State) (u : DramUnit) : Bool := (s.hld.wt || u.through) && !u.accepted

/-- Is every group that holds a row full, on each member that is not lost, so that the row needs no further unit to be programmed (R115, R414)? -/
def State.rowReady (s : State) (setid : Nat) (r : SetRec) (row : Nat) : Bool :=
  (List.range 18).all fun m => r.memberLost m || (match s.rowGroup r m row with
    | some g => s.groupFull setid r m g
    | none => true)

/-- Stage the units of a zone row that hold credit or whose completion waits (R417). -/
def State.stageRow (s : State) (setid row : Nat) : State :=
  let us := (s.row setid row).pos.filterMap fun p => match p with
    | .unit c _ => match s.str.dram.get? c with
      | some u => if u.credit || s.wtWaits u then some c else none
      | none => none
    | _ => none
  if us.isEmpty then s else (us.foldl (fun s c => s.stageUnit c) s).countStr 2 1

/-- Close a stripe early: by padding, or in a zone by staging every unprogrammed row of the groups that hold it (R115, R416, R417). -/
def State.closeEarly (s : State) (id : Nat) : State :=
  let setid := stripeSet id
  match s.set? setid with
  | none => s
  | some r =>
    if (s.row setid (stripeRow id)).closed then s
    else if setid < 0x100000 then
      (List.range (s.rowEnd r (stripeRow id) + 1 - stripeRow id)).foldl (fun s i => s.stageRow setid (stripeRow id + i)) s
    else
      let s := s.earlyClose setid (stripeRow id)
      s

/-- After staging, the staging stripes that hold copies close early too, so that their credit returns. -/
def State.closeStaging (s : State) (tenant : Nat) : State :=
  match s.zon.stgOpen.get? tenant with
  | none => s
  | some g =>
    match s.zon.stg.get? g with
    | some b => if b.next = 0 then s else
      let row := (b.next - 1) / 16
      match s.set? (stagingSet g) with
      | some r => if s.rowReady (stagingSet g) r row then s else s.earlyClose (stagingSet g) row
      | none => s
    | none => s

/-! ### Snowplough mode (R481, R482) -/

/-- FL_s. -/
def State.snowFloor (s : State) (ds : Nat) : Nat := s.dsGood ds * s.fld F.SCH_SNOW_FLOOR / 1000

/-- F of R482. -/
def State.snowFactor (s : State) (ds : Nat) : Nat :=
  256 - ((256 - s.fld F.SCH_SNOW_FMIN) * (s.snowFloor ds - s.dsFree ds)) / max 1 (s.snowFloor ds)

/-- Background garbage collection of a die set begins or ends as its FREE changes (R512). -/
def State.gcMode (s : State) (ds : Nat) : State :=
  let free := s.dsFree ds
  let on := s.med.gc.contains ds
  if !on && decide (free < s.dsGood ds * s.fld F.ZON_GC_GCSTART / 1000) then s.withMed { s.med with gc := s.med.gc ++ [ds] }
  else if on && decide (s.dsGood ds * s.fld F.ZON_GC_GCSTOP / 1000 ≤ free) then s.withMed { s.med with gc := s.med.gc.filter fun d => d != ds }
  else s

/-- A die set enters or leaves snowplough mode, or its factor follows FREE (R481, R482); its bucket is full as it enters. -/
def State.resnow (s : State) (ds : Nat) : State :=
  let s := s.gcMode ds
  let free := s.dsFree ds
  let fl := s.snowFloor ds
  match s.sch.snow.get? ds with
  | none =>
    if free < fl then
      let s := s.settleBuckets
      (s.withSch { s.sch with snow := s.sch.snow.ins ds (s.snowFactor ds), buckets := s.sch.buckets.del (65536 + ds) }).raise (0x200 + ds) 0 1 [(4, free), (4, fl)]
    else s
  | some f =>
    if fl + s.dsGood ds * s.fld F.SCH_SNOW_HYST / 1000 ≤ free then
      let s := s.settleBuckets
      (s.withSch { s.sch with snow := s.sch.snow.del ds }).raise (0x200 + ds) 1 0 [(4, free), (4, fl)]
    else
      let n := s.snowFactor ds
      let s := if n = f then s else s.settleBuckets
      let s := s.withSch { s.sch with snow := s.sch.snow.ins ds n }
      if n / 32 = f / 32 then s else s.raise (0x200 + ds) 2 0 [(2, n)]

/-- The die set of a tenant may have changed its FREE. -/
def State.resnowTenant (s : State) (t : Nat) : State :=
  match s.tenantDs t with
  | some ds => s.resnow ds
  | none => s

/-! ### Units still in DRAM (R46, R187) -/

/-- Does a unit still hold its block: a zone's does; a placement unit does while it waits for a slot and nothing has superseded it, or while the
map names its slot (R498, R499)? -/
def State.unitStands (s : State) (u : DramUnit) : Bool :=
  match s.nsAt u.nsix with
  | none => false
  | some n =>
    n.kind == .zoned || (match u.place with
      | none => !u.superseded
      | some (id, d) => s.zon.map.get? (lbaKey u.nsix u.lba) == some ((stripeSet id - 0x100000) * 2 ^ 18 + 16 * stripeRow id + d))

/-- The newest accepted unit for a logical block that is still in DRAM (R46). -/
def State.dramUnit (s : State) (nsix lba : Nat) : Option DramUnit :=
  s.str.dram.foldl (fun b e =>
    if e.2.nsix == nsix && e.2.lba == lba && e.2.accepted && !e.2.staged && !e.2.reloc && s.unitStands e.2 then
      match b with
      | some u => if u.dcsn < e.2.dcsn then some e.2 else b
      | none => some e.2
    else b) none

/-- Is a block of a placement namespace mapped to a unit (R187)? -/
def State.mapped (s : State) (nsix lba : Nat) : Bool :=
  (match s.zon.map.get? (lbaKey nsix lba) with
    | some e => decide (e < 0xFFFFFFFE)
    | none => false) || (s.dramUnit nsix lba).isSome

/-- A 1 MiB extent with its namespace (R187). -/
def extentKey (nsix lba : Nat) : Nat := nsix * 2 ^ 48 + lba / 256

/-! ### Placing a unit (R153, R421, R498, R499) -/

/-- The command of a unit, where it still stands in the accepted phase and its completion waits for flash (R42, R111). -/
def State.mayPlace (s : State) (u : DramUnit) : Bool :=
  u.accepted || (match u.ref with
    | some r => match s.cmd? r with
      | some c => c.phase == .accepted && (c.sqe.fua || u.through)
      | none => false
    | none => u.through)

/-- The open superblock of a reclaim group, one bound if it has none. -/
def State.openSuper (s : State) (nsix tenant group : Nat) : Option (State × Nat) :=
  match s.zon.sb.find? fun b => b.2.nsix == nsix && b.2.group == group && !b.2.stopped && b.2.next < b.2.slots &&
      (s.set? (placementSet b.1)).isSome with
  | some (h, _) => some (s, h)
  | none => (s.bindSuper false nsix tenant group).map fun x => (x.1.resnowTenant tenant, x.2)

/-- Count a unit written to a group, for the Placement Usage log (R194). -/
def State.countUse (s : State) (nsix group : Nat) (reloc : Bool) : State :=
  s.setNs nsix fun n => if reloc then { n with useReloc := n.useReloc.upd group 0 (· + 1) } else { n with useHost := n.useHost.upd group 0 (· + 1) }

/-- A unit that is placed before its write is accepted notes what it replaces, for the write's acceptance (R187). -/
def State.noteReplaced (s : State) (u : DramUnit) : State :=
  match u.ref with
  | some r =>
    if !u.accepted && !u.reloc && s.mapped u.nsix u.lba then s.setCmd r fun c => { c with replaced := c.replaced ++ [extentKey u.nsix u.lba] } else s
  | none => s

/-- Assign a slot of the reclaim group's superblock to a placement unit, and change the map entry unless the unit is superseded or a
relocation copy (R498, R499). -/
def State.placeSlot (s : State) (key : Nat) (u : DramUnit) : State :=
  match s.openSuper u.nsix u.tenant u.group with
  | none => s
  | some (s, h) =>
    match s.zon.sb.get? h, s.set? (placementSet h) with
    | some b, some r =>
      let row := b.next / 16
      let s := s.noteReplaced u
      let s := s.withZon { s.zon with
        sb := s.zon.sb.ins h { b with next := b.next + 1 }
        map := if u.superseded || u.reloc then s.zon.map else s.zon.map.ins (lbaKey u.nsix u.lba) (h * 2 ^ 18 + b.next) }
      let s := s.withStr { s.str with dram := s.str.dram.ins key { u with place := some (stripeId (placementSet h) row, b.next % 16) } }
      let s := s.withMed { s.med with slotted := s.med.slotted + 1 }
      let s := s.countUse u.nsix u.group u.reloc
      let s := if u.reloc then s else
        s.withZon { s.zon with reserved := s.zon.reserved.upd (u.nsix * 32 + u.group) 0 (· - 1) }
      s.fillPos (placementSet h) r row (b.next % 16) (.unit key u.info) false
    | _, _ => s

/-- Put a zone unit at the row and position of its zone offset (R153). -/
def State.placeZone (s : State) (key : Nat) (u : DramUnit) : State :=
  match s.zonePlace u.nsix u.lba with
  | none => s
  | some (e, row, d) =>
    match s.set? e with
    | none => s
    | some r =>
      let s := s.withStr { s.str with dram := s.str.dram.ins key { u with place := some (stripeId e row, d) } }
      s.fillPos e r row d (.unit key u.info) false

def State.placeUnit (s : State) (key : Nat) (u : DramUnit) : State :=
  match s.nsAt u.nsix with
  | none => s
  | some n => if n.kind = .zoned then s.placeZone key u else s.placeSlot key u

/-- In write-through mode, once no further unit for a stripe is queued, the stripe closes early (R749). -/
def State.wtClose (s : State) (key : Nat) : State :=
  match s.str.dram.get? key with
  | none => s
  | some u =>
    if s.wtWaits u && !(s.str.dram.any fun e => e.2.place.isNone && e.2.nsix == u.nsix && e.2.group == u.group && s.mayPlace e.2) then
      match u.place with
      | some (id, _) => match s.set? (stripeSet id) with
        | some r => if s.rowReady (stripeSet id) r (stripeRow id) then s else (s.closeEarly id).closeStaging u.tenant
        | none => s
      | none => s
    else s

/-! ### Pressure of the Holdup Budget (R254, R261) -/

/-- Links in a state. -/
def State.linksIn (s : State) (st : LinkState) : List Nat := (List.range 32).filter fun k => (s.link k).st == st

/-- The flush packages in ascending order (R261). -/
def State.flushPkgs (s : State) : List Nat :=
  let a := s.linksIn .active
  if 18 ≤ a.length then a
  else (List.range 32).filter fun k => (s.link k).st == .active || (s.link k).st == .degraded

/-- Are there fewer than 18 flush packages (R261)? -/
def State.fewPkgs (s : State) : Bool := decide (s.flushPkgs.length < 18)

/-- Is any flush package half-rate (R261)? -/
def State.halfRate (s : State) : Bool := s.flushPkgs.any fun k => (s.link k).st == .degraded

/-- Partly filled stripes whose units hold credit, by lowest stripe CSN: (lowest, stripe id, bytes their closing frees). -/
def State.partStripes (s : State) : List (Nat × Nat × Nat) :=
  s.str.rows.filterMap fun e =>
    let us := e.2.pos.filterMap fun p => match p with
      | .unit k _ => match s.str.dram.get? k with
        | some u => if u.credit && (s.str.staging.get? (lbaKey u.nsix u.lba)).isNone then some k else none
        | none => none
      | _ => none
    if e.2.parity || us.isEmpty then none else some (e.2.lo, e.1, unitCredit * us.length)

/-- Close partly filled stripes, lowest stripe CSN first, until what stays reserved falls below half of B (R254). -/
def State.closePartial (s : State) : Nat → Nat → State
  | 0, _ => s
  | fuel + 1, left =>
    if 2 * left < s.hld.budget then s
    else
      match s.partStripes.foldl (fun (b : Option (Nat × Nat × Nat)) x => match b with
        | none => some x
        | some y => if x.1 < y.1 then some x else some y) none with
      | none => s
      | some (_, id, n) =>
        let t := match s.set? (stripeSet id) with
          | some r => r.tenant
          | none => 0
        ((s.closeEarly id).closeStaging t).closePartial fuel (left - n)

/-- What R254 asks of the present reservation: it acts when credit is reserved, when a unit joins a stripe, and when B falls. With fewer than 18
flush packages B is 0, and stripes close early until nothing is reserved (R261). -/
def State.pressCredit (s : State) : State :=
  if (!s.hld.wt || s.fewPkgs) && 3 * s.hld.budget < 4 * s.hld.resv then s.closePartial s.partStripes.length s.hld.resv else s

/-! ### Flush (R112, R115) -/

/-- The units still in DRAM that a Flush covers. -/
def State.coveredUnits (s : State) (fn nsid csn : Nat) : List (Nat × DramUnit) :=
  (s.str.dram.filter fun e => flushCovers (s.flushNames fn nsid) csn e.1 e.2).map fun e => (e.1, e.2)

/-- Close early the stripes that a Flush waits for, once every unit it covers has its place (R115). -/
def State.closeFor (s : State) (fn nsid csn : Nat) : State :=
  let us := s.coveredUnits fn nsid csn
  if us.any fun u => u.2.place.isNone then s
  else us.foldl (fun s u => match u.2.place with
    | some (id, _) => if (s.str.dram.get? u.1).isSome then (s.closeEarly id).closeStaging u.2.tenant else s
    | none => s) s

/-- The Flushes in progress: those of commands, and those of normal shutdowns (R112, R116). -/
def State.flushesNow (s : State) : List (Nat × Nat × Nat) :=
  (s.host.cmds.filterMap fun c => if c.phase = .flushing then some (c.ref.fn, c.sqe.nsid, c.csn.getD 0) else none) ++
    s.host.fns.filterMap fun f => f.2.shutFlush.map fun csn => (f.1, 0xFFFFFFFF, csn)

def State.closeForFlushes (s : State) : State := s.flushesNow.foldl (fun s f => s.closeFor f.1 f.2.1 f.2.2) s

/-- STRIPE_UNIT_PLACEMENT: the stripe engine places a unit into a stripe row of a zone or placement set (R153, R414, R415). Not
enabled before the unit may be placed, or while no superblock can be bound. -/
def execStripeUnitPlacement (csn : Nat) (comp : Bool) (s : State) : Outcome :=
  let key := unitKey csn comp
  match s.str.dram.get? key with
  | none => .next s
  | some u =>
    if u.place.isNone && (u.reloc || s.mayPlace u) && !s.logHeld then .next ((((s.placeUnit key u).wtClose key).closeForFlushes).pressCredit) else .next s

/-! ### Programming a group (R412, R414) -/

/-- Does DRAM hold some granule of a unit's data uncorrectable (R412, R615)? -/
def State.spoiled (s : State) (key : Nat) : Bool :=
  match (s.str.dram.get? key).bind (·.addr) with
  | some a => s.drm.bad.any fun b => decide (a ≤ b) && decide (b < a + 4096)
  | none => false

/-- The data positions in a group of member m whose unit fails its check: (row, position, SCSN, information part). -/
def State.badUnits (s : State) (setid : Nat) (r : SetRec) (m grp : Nat) : List (Nat × Nat × Nat × Info) :=
  let sp := s.groupSpan r m grp
  (List.range sp.2).filterMap fun k =>
    let row := sp.1 + k
    if r.rows ≤ row then none
    else match nth (s.row setid row).pos (roleOf row m) .empty with
      | .unit c i => if unitPasses r i && !s.spoiled c then none else some (row, roleOf row m, c, i)
      | _ => none

/-- Add blocks to a zone's unreadable-range list (R281). -/
def Zone.mark (z : Zone) (off n : Nat) : Zone := { z with unread := z.unread ++ [(off, n)] }

/-- Pad the position of a unit that fails its check, recompute the row's parity, and record the deferred error (R412). Its block reads as a media
error (R59): a zone lists it as unreadable, and no map entry names a pad. -/
def State.padBad (s : State) (setid : Nat) (r : SetRec) (x : Nat × Nat × Nat × Info) : State :=
  let (row, d, c, i) := x
  let s := s.setRow setid row fun y =>
    let pos := y.pos.set d .pad
    if y.parity then { y with pos := pos, p := some (parityP (pos.map RowPos.info)), q := some (parityQ (pos.map RowPos.info)) }
    else { y with pos := pos }
  let tag := s.nextTag
  let unit := s.str.dram.get? c
  let ring := match unit with
    | some u => if u.kind = 1 then (match s.zon.zdt.get? setid with
      | some z => z.ring.getD 0xFFFF
      | none => 0xFFFF) else 0xFFFF
    | none => 0xFFFF
  let s := s.raise 0x030 0 2 [(8, stripeId setid row), (1, d), (1, if i.dcrcOk && !s.spoiled c then 2 else 1)]
  let s := (s.countStr 9 1).deferError r.nsix
    { tag := tag, nsid := 0, reason := 2, sqid := 0xFFFF, cid := 0xFFFF, ring := ring, blocks := 1, lba := i.lba, csn := i.dcsn,
      time := s.ao.time, lost := 0xFFFFFFFF } (unit.bind fun u => u.ref)
  let s := if setid < 0x100000 then s.withZon { s.zon with zdt := s.zon.zdt.adj setid fun z => z.mark (16 * row + d) 1 } else s
  s.retireUnit c

/-- The program of a group joins its die's media-write queue (R414, R455). -/
def State.queueProgram (s : State) (setid : Nat) (r : SetRec) (m grp : Nat) : State :=
  let die := (nth r.members m (0, 0)).1
  let req : DieReq := { kind := .program setid m grp, cls := 1, arrive := s.ao.time, maint := false }
  let old := (s.str.groups.get? (groupKey setid m grp)).getD ⟨.sent, 0, none⟩
  let s := s.withStr { s.str with groups := s.str.groups.ins (groupKey setid m grp) { old with st := .sent } }
  s.setSdie die fun d => { d with mw := d.mw ++ [req] }

/-- GROUP_PROGRAM: a 4-page group of a member whose every slot holds a unit is programmed, one group at a time and in group order
(R412, R414). -/
def execGroupProgram (setid m grp : Nat) (s : State) : Outcome :=
  match s.set? setid with
  | none => .next s
  | some r =>
    if m < 18 ∧ grp < 1024 ∧ r.memberLost m = false ∧ (s.groupState setid m grp).isNone = true ∧
        s.groupFull setid r m grp = true ∧ (s.groupSpan r m grp).1 < r.rows ∧ (grp = 0 ∨ s.groupState setid m (grp - 1) = some .done) ∧ s.hld.flush = .none then
      let s := (s.badUnits setid r m grp).foldl (fun s x => s.padBad setid r x) s
      .next (s.queueProgram setid r m grp)
    else .next s

end Sys2Proof.Machine
end

