-- ==== Sys2Proof/Machine/Holdup.lean ====
section
/-!
DEFINITION. The hold-up bank, energy tests and the Holdup Budget (R243 to R257, R261 of spec/05_holdup_journal.md): the budget
formula, write-through mode, the margin event, and the commands BANK_READY, BANK_ABOVE_V_FLOOR, ENERGY_TEST_REQUEST,
TEST_PERIOD_EXPIRY, ENERGY_TEST_START, TEST_DISCHARGE_END, ENERGY_TEST_COMPLETE, VIN_BELOW_THRESHOLD and VIN_DIP.
-/

namespace Sys2Proof.Machine

def mib : Nat := 1048576

/-- The limit of R249 in bytes, for a capacitance in µF and a charge voltage in units of 10 mV. The energy is kept in units of
10^−10 J × 200 × STRINGS, and r_flush in bytes per second. -/
def State.budgetLimit (s : State) (c vchg : Nat) : Nat :=
  let n := s.flushPkgs.length
  let strings := s.fld F.HLD_CFG_STRINGS
  let vf := s.fld F.HLD_VOLT_VFLOOR
  let usable := c * (vchg * vchg - vf * vf) * (strings - 1) * s.fld F.HLD_CFG_MARGIN
  let fixed := s.fld F.HLD_EFIXED_MJ * 10000000 * 200 * strings
  let rate := (if s.halfRate then 3125000000 else 6250000000) * n
  (usable - fixed) * rate / (200 * strings * 42 * 10000000000)

/-- B in bytes from a capacitance and a charge voltage, with at least 18 flush packages (R249). -/
def State.budgetOf (s : State) (c vchg : Nat) : Nat :=
  if s.flushPkgs.length < 18 then 0
  else
    min (min (s.fld F.HLD_CFG_CAP_MIB * mib) (s.med.flcap * mib)) (64 * mib * (s.budgetLimit c vchg / (64 * mib)))

/-- A test is past its start. -/
def TestPhase.running : TestPhase → Bool
  | .loaded | .recharging => true
  | _ => false

/-- B as R249 gives it now: 0 before a test has passed and after one has failed; with V_CHG − DV while a test runs (R247). -/
def State.budgetNow (s : State) : Nat :=
  let v := s.fld F.HLD_VOLT_VCHG
  if s.hld.result != 1 || s.hld.cPass == 0 then 0
  else s.budgetOf s.hld.cPass (if s.hld.test.running then v - s.fld F.HLD_TEST_DV else v)

/-- The documented minimum of R255. -/
def budgetMin : Nat := 512 * mib

/-- Enter write-through mode with a cause of R748. -/
def State.enterWt (s : State) (cause : Nat) : State :=
  if s.hld.wt then s
  else (s.withHld { s.hld with wt := true, wtCause := cause }).raise 0x011 1 1 [(1, cause), (4, s.hld.budget / mib)]

/-- The cause of write-through mode from what makes B fall short (R748). -/
def State.wtWhy (s : State) : Nat :=
  if s.hld.result = 0 then 4 else if s.hld.result ≠ 1 then 2 else if s.flushPkgs.length < 18 then 3 else 1

/-- The margin comparison of R256, with the early warning 0x04. -/
def State.checkMargin (s : State) : State :=
  let w := s.fld F.HLD_WARN_MIB
  let b := s.hld.budget / mib
  if s.hld.budget < w * mib then (s.raise 0x011 0 1 [(4, b), (4, w)]).ewRaise 0x04 none b w
  else s.ewClear 0x04 none b w

/-- Bring B up to date with its inputs; a fall below the minimum enters write-through mode, and a change after the first test is
compared with HLD_WARN (R249, R255, R256). -/
def State.rebudget (s : State) : State :=
  let b := s.budgetNow
  if b = s.hld.budget then s
  else
    let s := s.withHld { s.hld with budget := b }
    let s := if b < budgetMin then s.enterWt s.wtWhy else s
    (if s.hld.result = 0 then s else s.checkMargin).pressCredit

/-- The bank after V_CHG has changed: held within 0.25 V of it, READY; below that, CHARGING (R244, R245). -/
def State.recharge (s : State) : State :=
  if s.hld.bank = .ready ∧ s.hld.vbank + 25 < s.fld F.HLD_VOLT_VCHG then s.withHld { s.hld with bank := .charging } else s

/-- Ask for an energy test: it joins a test that waits, and gives one further test while one runs (R246). -/
def State.requestTest (s : State) : State :=
  match s.hld.test with
  | .none => s.withHld { s.hld with test := .waiting }
  | .waiting => s
  | _ => s.withHld { s.hld with again := true }

/-- BANK_READY: the bank reaches V_CHG (R244). The first time after power-on it raises the bank-charged event and asks for a test
(R246). Not enabled in a test or a flush, or below V_CHG − 0.25 V. -/
def execBankReady (vbank : Nat) (s : State) : Outcome :=
  let v := s.fld F.HLD_VOLT_VCHG
  if (s.hld.bank = .uncharged ∨ s.hld.bank = .charging) ∧ v ≤ vbank + 25 ∧ vbank ≤ v + 25 then
    let first := !s.hld.wasReady
    let s := s.withHld { s.hld with bank := .ready, vbank := vbank, wasReady := true }
    .next (if first then (s.raise 0x010 0 0 [(2, vbank), (4, s.ao.time / 1000)]).requestTest else s)
  else .next s

/-- BANK_ABOVE_V_FLOOR: UNCHARGED becomes CHARGING (R244). -/
def execBankAboveVFloor (vbank : Nat) (s : State) : Outcome :=
  if s.hld.bank = .uncharged ∧ s.fld F.HLD_VOLT_VFLOOR ≤ vbank then
    .next (s.withHld { s.hld with bank := .charging, vbank := vbank })
  else .next s

/-- ENERGY_TEST_REQUEST: a write of HLD_CTL.TEST (R246). -/
def execEnergyTestRequest (_a : Agent) (s : State) : Outcome := .next s.requestTest

/-- TEST_PERIOD_EXPIRY: PERIOD hours since the last test ended (R246). -/
def execTestPeriodExpiry (s : State) : Outcome := .next s.requestTest

/-- b_test of R247. -/
def State.testBudget (s : State) : Nat :=
  if s.hld.result != 1 || s.hld.cPass == 0 then 0
  else s.budgetOf s.hld.cPass (s.fld F.HLD_VOLT_VCHG - s.fld F.HLD_TEST_DV)

/-- The budget that new reservations must fit: b_test while a test waits (R247). -/
def State.creditLimit (s : State) : Nat :=
  if s.hld.test = .waiting ∧ s.hld.bank = .ready then min s.hld.budget s.testBudget else s.hld.budget

/-- Does a request made now wait for the Holdup Budget: behind the requests ahead of it, it does not fit under the budget, or write-through mode holds
its completion (R118, R121, R251, R255)? -/
def State.creditWaits (s : State) (bytes : Nat) : Bool :=
  s.hld.wt || decide (s.creditLimit < s.hld.resv + (s.hld.queue.map fun q => q.bytes).sum + bytes)

/-- MiB of the checkpoint copy buffer in use while a checkpoint is in progress: nothing tells how far its writing is, so this is a free value that
the buffer's size bounds (R502). -/
def State.ckCopied (s : State) : Nat :=
  if s.med.ck1.active || s.med.ck2.active then Config.freeNat s.free % (16 * s.fld F.ZON_CKPT_CKBUF + 1) else 0

/-- The copy buffer is full: a change waits, and writes with it at step 9 of the write path (R502). -/
def State.ckFull (s : State) : Bool :=
  (s.med.ck1.active || s.med.ck2.active) && decide (s.ckCopied = 16 * s.fld F.ZON_CKPT_CKBUF)

/-- ENERGY_TEST_START: with the bank READY and reserved credit within b_test, the charger stops, the load is connected, and v0 and v1
are measured (R247). -/
def execEnergyTestStart (v0 v1 : Nat) (s : State) : Outcome :=
  if s.hld.test = .waiting ∧ s.hld.bank = .ready ∧ s.hld.resv ≤ s.testBudget ∧ v1 ≤ v0 then
    let b := s.testBudget
    let s := s.withHld { s.hld with
      test := .loaded, bank := .testing, v0 := v0, v1 := v1, vbank := v1, budget := b
      esr := (v0 - v1) * 10000 / s.fld F.HLD_TEST_IMA }
    let s := if b < budgetMin then s.enterWt s.wtWhy else s
    .next (if s.hld.result = 0 then s else s.checkMargin).pressCredit
  else .next s

/-- TEST_DISCHARGE_END: the bank is at v1 − DV; C = IMA × t ÷ DV, and the charger restarts (R247). -/
def execTestDischargeEnd (vbank tns : Nat) (s : State) : Outcome :=
  if s.hld.test = .loaded ∧ vbank + s.fld F.HLD_TEST_DV ≤ s.hld.v1 then
    .next (s.withHld { s.hld with
      test := .recharging, vbank := vbank, tns := tns
      cuf := s.fld F.HLD_TEST_IMA * tns / (s.fld F.HLD_TEST_DV * 10000) })
  else .next s

/-- Leave write-through mode after a passing test (R255). -/
def State.leaveWt (s : State) : State :=
  if s.hld.wt then
    (s.withHld { s.hld with wt := false, wtCause := 0 }).raise 0x011 1 0 [(1, 5), (4, s.hld.budget / mib)]
  else s

/-- The string-loss comparison of R248. -/
def State.stringLost (s : State) : Bool :=
  0 < s.hld.cPass && s.hld.cPass < 2 * s.fld F.HLD_CFG_STRINGS * (s.hld.cPass - s.hld.cuf)

/-- ENERGY_TEST_COMPLETE: the bank is READY again; the new budget is computed, the test passes or fails, and its result is recorded and
reported (R247, R248, R255, R256). -/
def execEnergyTestComplete (vbank : Nat) (s : State) : Outcome :=
  let v := s.fld F.HLD_VOLT_VCHG
  if s.hld.test = .recharging ∧ v ≤ vbank + 25 ∧ vbank ≤ v + 25 then
    let bnew := s.budgetOf s.hld.cuf v
    let esrOk := s.hld.esr ≤ s.fld F.HLD_ESRMAX_MOHM
    let pass := esrOk && budgetMin ≤ bnew
    let result := if pass then 1 else if esrOk then 3 else 2
    let old := s.hld.cPass
    let lost := s.stringLost
    let s := s.withHld { s.hld with
      test := if s.hld.again then .waiting else .none
      again := false, bank := .ready, vbank := vbank, result := result, testEnd := s.ao.time
      cPass := if pass then s.hld.cuf else s.hld.cPass
      limit := s.budgetLimit s.hld.cuf v
      budget := if pass then bnew else 0 }
    let s := s.raise 0x010 1 (if pass then 0 else 2) [(2, s.hld.cuf), (2, s.hld.esr), (4, s.hld.budget / mib), (1, result)]
    let s := if lost then s.raise 0x010 2 2 [(2, old), (2, s.hld.cuf)] else s
    let s := if pass then s.leaveWt else s.enterWt 2
    .next s.checkMargin.pressCredit
  else .next s

/-- VIN_BELOW_THRESHOLD: VINSNS falls below HLD_VLOSS.V, and the deglitch time starts (R257). -/
def execVinBelowThreshold (v : Nat) (s : State) : Outcome :=
  if v < s.fld F.HLD_VLOSS_V ∧ s.hld.vinLow.isNone = true ∧ s.hld.flush = .none then
    .next (s.withHld { s.hld with vinLow := some s.ao.time })
  else .next s

/-- VIN_DIP: VIN recovers within the deglitch time, which raises the VIN-dip event and changes nothing else (R257). -/
def execVinDip (v low us : Nat) (s : State) : Outcome :=
  if s.hld.vinLow.isSome = true ∧ s.fld F.HLD_VLOSS_V ≤ v ∧ low < s.fld F.HLD_VLOSS_V ∧ us < s.fld F.HLD_VLOSS_DG ∧ s.hld.flush = .none then
    .next ((s.withHld { s.hld with vinLow := none }).raise 0x012 0 1 [(2, low), (4, us)])
  else .next s

end Sys2Proof.Machine
end

