-- ==== Sys2Proof/Machine/Image.lean ====
section
/-!
DEFINITION. The configuration image as the registers see it (R13, R658, R681): the copy in use, saving the img fields, and loading them.
-/

namespace Sys2Proof.Machine

/-- A byte of the NOR (R680, R685). -/
def Boot.norByte (b : Boot) (a : Nat) : Byte := Mem.read 0xFF b.nor a

/-- Base of a configuration image copy's region (R680). -/
def cfgBase (k : Nat) : Nat := if k = 0 then 0x2000000 else 0x2100000

/-! ### Programming (R684, R685) -/

/-- FWS_BUF as bytes. -/
def State.fwsBuf (s : State) : List Byte := (List.range 64).flatMap fun i => toBytes 4 (s.fld F.FWS_BUF_DATA i)

/-- Program bytes: a program only turns ones into zeros. With nothing programmed as intended, the bits meant to turn are free (R684). -/
def State.programNor (s : State) (addr : Nat) (bs : List Byte) (whole : Bool) : State :=
  let b := s.boot
  let f := s.free
  let nor := bs.zipIdx.foldl (fun m x =>
    let a := addr + x.2
    let keep : Byte := if whole then 0 else BitVec.ofNat 8 (Config.freeNat (f + x.2))
    Mem.write 0xFF m a (Mem.read 0xFF m a &&& (x.1 ||| keep))) b.nor
  let cut (k : Nat) (c : Option CfgCopy) : Option CfgCopy := if cfgBase k ≤ addr ∧ addr < cfgBase k + 0x100000 then none else c
  let s := s.withBoot { b with nor := nor, factory := b.factory && 0x1000000 ≤ addr, cfgA := cut 0 b.cfgA, cfgB := cut 1 b.cfgB }
  if whole then s else s.withFree (s.free + bs.length)

/-- Power leaves while a program runs: what was meant to turn is free (R684, R685). An erase that is cut short is done again at stage 1 (R687). -/
def State.cutProgram (s : State) : State :=
  match s.boot.op with
  | some o => if o.op = 0 then s.programNor o.addr (s.fwsBuf.take o.len) false else s
  | none => s

/-! ### The copies -/

/-- A copy that a tool has programmed byte by byte: its header must check (R681), and its identity is that of all its bytes. -/
def Boot.rawCopy (b : Boot) (k : Nat) : Option CfgCopy :=
  let base := cfgBase k
  let len := Mem.readLE 0xFF 4 b.nor (base + 4)
  if Mem.readLE 0xFF 4 b.nor base = 0x43464749 ∧ 64 ≤ len ∧ len ≤ 0x100000 ∧ Mem.readLE 0xFF 4 b.nor (base + 16) = 1 ∧
      Mem.readLE 0xFF 4 b.nor (base + 60) = crc32cBytes (Mem.bytes 0xFF b.nor base 60 ++ Mem.bytes 0xFF b.nor (base + 64) (len - 64)) then
    some ⟨Mem.readLE 0xFF 8 b.nor (base + 8), 1 + Mem.readLE 0xFF 0x100000 b.nor base, []⟩
  else none

/-- What a copy's region holds. -/
def Boot.copyAt (b : Boot) (k : Nat) : Option CfgCopy := ((if k = 0 then b.cfgA else b.cfgB)).or (b.rawCopy k)

/-- The two copies, with the number of each: 0 copy A, 1 copy B. -/
def Boot.copies (b : Boot) : List (Nat × CfgCopy) :=
  ((b.copyAt 0).toList.map fun c => (0, c)) ++ ((b.copyAt 1).toList.map fun c => (1, c))

/-- The copy in use: of those valid, the one with the higher sequence number (R681, R682). -/
def Boot.inUse (b : Boot) : Option (Nat × CfgCopy) :=
  (b.copies.filter fun c => Config.imageValid c.2.base).foldl (fun x c => match x with
    | none => some c
    | some y => if y.2.seq < c.2.seq then some c else some y) none

/-- The words of the img fields in force, over those of an image. -/
def State.imgWords (s : State) (under : AMap Word64) : AMap Word64 :=
  s.win.regs.foldl (fun (m : AMap Word64) e => match locate e.1 with
    | some (r, false) => if r.reg.imgMask = 0 then m else m.ins e.1 (e.2 &&& BitVec.ofNat 64 r.reg.imgMask)
    | _ => m) under

/-- Write the img fields into the copy that is not in use (R658, R681). -/
def State.saveImage (s : State) : State :=
  let cur := s.boot.inUse
  let base := s.win.img.getD 0
  let seq := (s.boot.copies.foldl (fun n c => max n c.2.seq) 0) + 1
  let words := s.imgWords (match cur with
    | some c => if c.2.base = base then c.2.words else []
    | none => [])
  let c : CfgCopy := { seq := seq, base := base, words := words }
  match cur with
  | some (0, _) => s.withBoot { s.boot with cfgB := some c }
  | _ => s.withBoot { s.boot with cfgA := some c }

/-- Give the img fields the values of an image; every other field keeps its Reset value (R13). -/
def State.loadImage (s : State) (base : Nat) (words : AMap Word64) : State :=
  let s := s.withWin { s.win with img := some base }
  words.foldl (fun s e => match locate e.1 with
    | some (r, false) => s.putReg r (merge (s.regWord r) e.2.toNat r.reg.imgMask)
    | _ => s) s

end Sys2Proof.Machine
end

