-- ==== Sys2Proof/Machine/Crypto.lean ====
section
/-!
DEFINITION. The ciphers and digests that the spec names: AES-256 (FIPS 197), XTS (IEEE 1619), AES-CMAC and SHA-384, on octet
strings (R541 to R548). Tables are packed little-endian, sixteen entries to a number.
-/

namespace Sys2Proof.Machine

/-- The S-box of FIPS 197, sixteen bytes to a number. -/
def aesSbox : List Nat :=
  [0x76ABD7FE2B670130C56F6BF27B777C63,
   0xC072A49CAFA2D4ADF04759FA7DC982CA,
   0x1531D871F1E5A534CCF73F362693FDB7,
   0x75B227EBE28012079A059618C323C704,
   0x842FE329B3D63B52A05A6E1B1A2C8309,
   0xCF584C4A39BECB6A5BB1FC20ED00D153,
   0xA89F3C507F02F94585334D43FBAAEFD0,
   0xD2F3FF1021DAB6BCF5389D928F40A351,
   0x73195D643D7EA7C41744975FEC130CCD,
   0xDB0B5EDE14B8EE4688902A22DC4F8160,
   0x79E4959162ACD3C25C2406490A3A32E0,
   0x8AE7A65EAF4566CA94ED58D6D37C8E7,
   0x8A8BBD4B1F74DDE8C6B4A61C2E2578BA,
   0x9E1DC186B95735610EF6034866B53E70,
   0xDF2855CEE9871E9B948ED9691198F8E1,
   0x16BB54B00F2D99416842E6BF0D89A18C]

/-- Its inverse. -/
def aesInvSbox : List Nat :=
  [0xFBD7F3819EA340BF38A53630D56A0952,
   0xCBE9DEC444438E3487FF2F9B8239E37C,
   0x4EC3FA420B954CEE3D23C2A632947B54,
   0x25D18B6D49A25B76B224D92866A12E08,
   0x92B6655DCC5CA4D41698688664F6F872,
   0x849D8DA75746155EDAB9EDFD5048706C,
   0x645B3B80558E4F70AD3BC8C00ABD890,
   0x6B8A130103BDAFC1020F3FCA8F1E2CD0,
   0x73E6B4F0CECFF297EADC674F4111913A,
   0x6EDF751CE837F9E28535ADE72274AC96,
   0x1BBE18AA0E62B76F89C5291D711AF147,
   0xF45ACD78FEC0DB9A2079D2C64B3E56FC,
   0x5FEC8027591012B131C7078833A8DD1F,
   0xEF9CC9939F7AE52D0D4AB519A97F5160,
   0x619953833CBBEBC8B0F52AAE4D3BE0A0,
   0x7D0C2155631469E126D677BA7E042B17]

/-- The round constants of SHA-384, four words to a number. -/
def shaK : List Nat :=
  [0xE9B5DBA58189DBBCB5C0FBCFEC4D3B2F7137449123EF65CD428A2F98D728AE22,
   0xAB1C5ED5DA6D8118923F82A4AF194F9B59F111F1B605D0193956C25BF348B538,
   0x550C7DC3D5FFB4E2243185BE4EE4B28C12835B0145706FBED807AA98A3030242,
   0xC19BF174CF6926949BDC06A725C7123580DEB1FE3B1696B172BE5D74F27B896F,
   0x240CA1CC77AC9C650FC19DC68B8CD5B5EFBE4786384F25E3E49B69C19EF14AD2,
   0x76F988DA831153B55CB0A9DCBD41FBD44A7484AA6EA6E4832DE92C6F592B0275,
   0xBF597FC7BEEF0EE4B00327C898FB213FA831C66D2DB43210983E5152EE66DFAB,
   0x142929670A0E6E7006CA6351E003826FD5A79147930AA725C6E00BF33DA88FC2,
   0x53380D139D95B3DF4D2C6DFC5AC42AED2E1B21385C26C92627B70A8546D22FFC,
   0x92722C851482353B81C2C92E47EDAEE6766A0ABB3C77B2A8650A73548BAF63DE,
   0xC76C51A30654BE30C24B8B70D0F89791A81A664BBC423001A2BFE8A14CF10364,
   0x106AA07032BBD1B8F40E35855771202AD69906245565A910D192E819D6EF5218,
   0x34B0BCB5E19B48A82748774CDF8EEB991E376C085141AB5319A4C116B8D2D0C8,
   0x682E6FF3D6B2B8A35B9CCA4F7763E3734ED8AA4AE3418ACB391C0CB3C5C95A63,
   0x8CC702081A6439EC84C87814A1F0AB7278A5636F43172F60748F82EE5DEFB2FC,
   0xC67178F2E372532BBEF9A3F7B2C67915A4506CEBDE82BDE990BEFFFA23631E28,
   0xF57D4F7FEE6ED178EADA7DD6CDE0EB1ED186B8C721C0C207CA273ECEEA26619C,
   0x1B710B35131C471B113F9804BEF90DAE0A637DC5A2C898A606F067AA72176FBA,
   0x431D67C49C100D4C3C9EBE0A15C9BEBC32CAAB7B40C7249328DB77F523047D84,
   0x6C44198C4A4758175FCB6FAB3AD6FAEC597F299CFC657E2A4CC5D4BECB3E42B6]

/-- The initial hash value of SHA-384. -/
def shaInit : List Nat :=
  [0xCBBB9D5DC1059ED8, 0x629A292A367CD507, 0x9159015A3070DD17, 0x152FECD8F70E5939,
   0x67332667FFC00B31, 0x8EB44A8768581511, 0xDB0C2E0D64F98FA7, 0x47B5481DBEFA4FA4]

/-- Entry i of a packed table: per entries of w bits to a number. -/
def packedAt (t : List Nat) (w per i : Nat) : Nat := ((nth t (i / per) 0) >>> (w * (i % per))) % 2 ^ w

def sbox (b : Nat) : Nat := packedAt aesSbox 8 16 b
def invSbox (b : Nat) : Nat := packedAt aesInvSbox 8 16 b

/-! ### AES-256 -/

/-- x times a byte modulo the polynomial 0x11B of AES. -/
def xtime (a : Nat) : Nat := if a < 128 then 2 * a else (2 * a - 256) ^^^ 0x1B

/-- The product of two bytes in the field of AES. -/
def aesMul (a b : Nat) : Nat :=
  ((List.range 4).foldl (fun (s : Nat × Nat) i => (if b.testBit i then s.1 ^^^ s.2 else s.1, xtime s.2)) (0, a)).1

def xorBytes (a b : List Nat) : List Nat := List.zipWith (· ^^^ ·) a b

/-- Key expansion: a 4-byte word from the word before it and the word eight before it. -/
def keyWord (i rcon : Nat) (prev back : List Nat) : List Nat :=
  if i % 8 = 0 then
    match (prev.rotateLeft 1).map sbox with
    | a :: r => xorBytes back ((a ^^^ rcon) :: r)
    | [] => back
  else if i % 8 = 4 then xorBytes back (prev.map sbox)
  else xorBytes back prev

/-- The words of the key schedule, newest first. -/
def keySchedule : Nat → Nat → Nat → List (List Nat) → List (List Nat)
  | 0, _, _, ws => ws
  | n + 1, i, rcon, ws =>
    keySchedule n (i + 1) (if i % 8 = 0 then xtime rcon else rcon) (keyWord i rcon (nth ws 0 []) (nth ws 7 []) :: ws)

/-- Cut a list into pieces of four. -/
def fours : Nat → List Nat → List (List Nat)
  | 0, _ => []
  | n + 1, l => l.take 4 :: fours n (l.drop 4)

/-- The 15 round keys, 16 bytes each, of a 32-byte key. -/
def roundKeys (key : List Nat) : List (List Nat) :=
  let ws := (keySchedule 52 8 1 (fours 8 key).reverse).reverse
  (List.range 15).map fun r => ((ws.drop (4 * r)).take 4).flatten

/-- ShiftRows on bytes in column order, by a shift of each row. -/
def shiftRows (sgn : Nat) (s : List Nat) : List Nat :=
  (List.range 16).map fun i => nth s ((i + sgn * 4 * (i % 4)) % 16) 0

def mixColumn (m : List Nat) (c : List Nat) : List Nat :=
  (List.range 4).map fun r => (List.range 4).foldl (fun a k => a ^^^ aesMul (nth c k 0) (nth m ((k + 4 - r) % 4) 0)) 0

def mixColumns (m : List Nat) (s : List Nat) : List Nat := ((fours 4 s).map (mixColumn m)).flatten

/-- AES-256 encryption of a 16-byte block under its round keys. -/
def aesEnc (ks : List (List Nat)) (b : List Nat) : List Nat :=
  let s := xorBytes b (nth ks 0 [])
  let s := (List.range 13).foldl (fun s r => xorBytes (mixColumns [2, 3, 1, 1] (shiftRows 1 (s.map sbox))) (nth ks (r + 1) [])) s
  xorBytes (shiftRows 1 (s.map sbox)) (nth ks 14 [])

/-- AES-256 decryption of a 16-byte block under its round keys. -/
def aesDec (ks : List (List Nat)) (b : List Nat) : List Nat :=
  let s := (shiftRows 3 (xorBytes b (nth ks 14 []))).map invSbox
  let s := (List.range 13).foldl (fun s r => (shiftRows 3 (mixColumns [14, 11, 13, 9] (xorBytes s (nth ks (13 - r) [])))).map invSbox) s
  xorBytes s (nth ks 0 [])

/-! ### Octet strings -/

/-- n octets of a number, lowest first. -/
def octets (n v : Nat) : List Nat := (List.range n).map fun i => (v >>> (8 * i)) % 256

/-- The number of octets, lowest first. -/
def ofOctets : List Nat → Nat
  | [] => 0
  | b :: bs => b + 256 * ofOctets bs

/-- n octets of a number, highest first (FIPS 186-5 and FIPS 197 order, R546). -/
def octetsBE (n v : Nat) : List Nat := (octets n v).reverse

def ofOctetsBE (l : List Nat) : Nat := ofOctets l.reverse

/-- Cut a list into pieces of 16. -/
def sixteens : Nat → List Nat → List (List Nat)
  | 0, _ => []
  | n + 1, l => l.take 16 :: sixteens n (l.drop 16)

/-! ### XTS-AES-256 (R541, R542) -/

/-- The next tweak: times alpha in GF(2^128), the number little-endian. -/
def xtsNext (t : Nat) : Nat := if t < 2 ^ 127 then 2 * t else (2 * t - 2 ^ 128) ^^^ 0x87

/-- Blocks through a cipher under rising tweaks. -/
def xtsBlocks (f : List Nat → List Nat) : Nat → List (List Nat) → List Nat
  | _, [] => []
  | t, b :: bs => let w := octets 16 t; xorBytes (f (xorBytes b w)) w ++ xtsBlocks f (xtsNext t) bs

/-- One data unit of 4,096 bytes under a 64-byte key, with an LBA as the tweak; enc chooses the direction. -/
def xts (enc : Bool) (key : List Nat) (lba : Nat) (data : Block) : Block :=
  let k1 := roundKeys (key.take 32)
  let k2 := roundKeys (key.drop 32)
  let t := ofOctets (aesEnc k2 (octets 16 lba))
  BitVec.ofNat 32768 (ofOctets (xtsBlocks (if enc then aesEnc k1 else aesDec k1) t (sixteens 256 (octets 4096 data.toNat))))

/-! ### AES-CMAC (R548, R552) -/

/-- A CMAC subkey from the one before it, as a big-endian number. -/
def cmacSub (l : Nat) : Nat := if l < 2 ^ 127 then 2 * l else (2 * l - 2 ^ 128) ^^^ 0x87

/-- AES-CMAC under a 32-byte key. -/
def cmac (key msg : List Nat) : List Nat :=
  let ks := roundKeys key
  let k1 := cmacSub (ofOctetsBE (aesEnc ks (List.replicate 16 0)))
  let k2 := cmacSub k1
  let n := max 1 (ceilDiv msg.length 16)
  let last := msg.drop (16 * (n - 1))
  let fin := if last.length = 16 then xorBytes last (octetsBE 16 k1)
    else xorBytes (last ++ [0x80] ++ List.replicate (15 - last.length) 0) (octetsBE 16 k2)
  let x := (sixteens (n - 1) msg).foldl (fun x b => aesEnc ks (xorBytes x b)) (List.replicate 16 0)
  aesEnc ks (xorBytes x fin)

/-! ### SHA-384 (R539, R548, R580) -/

def rotr64 (x n : Nat) : Nat := (x >>> n) ||| ((x <<< (64 - n)) % 2 ^ 64)

def add64 (l : List Nat) : Nat := l.sum % 2 ^ 64

/-- The message schedule, newest first. -/
def shaSchedule : Nat → List Nat → List Nat
  | 0, w => w
  | n + 1, w =>
    let a := nth w 1 0
    let b := nth w 14 0
    let s1 := rotr64 a 19 ^^^ rotr64 a 61 ^^^ (a >>> 6)
    let s0 := rotr64 b 1 ^^^ rotr64 b 8 ^^^ (b >>> 7)
    shaSchedule n (add64 [s1, nth w 6 0, s0, nth w 15 0] :: w)

/-- One round on the eight working variables. -/
def shaRound (v : List Nat) (k w : Nat) : List Nat :=
  let a := nth v 0 0
  let b := nth v 1 0
  let c := nth v 2 0
  let e := nth v 4 0
  let s1 := rotr64 e 14 ^^^ rotr64 e 18 ^^^ rotr64 e 41
  let ch := (e &&& nth v 5 0) ^^^ ((2 ^ 64 - 1 - e) &&& nth v 6 0)
  let t1 := add64 [nth v 7 0, s1, ch, k, w]
  let s0 := rotr64 a 28 ^^^ rotr64 a 34 ^^^ rotr64 a 39
  let mj := (a &&& b) ^^^ (a &&& c) ^^^ (b &&& c)
  [add64 [t1, s0, mj], a, b, c, add64 [nth v 3 0, t1], e, nth v 5 0, nth v 6 0]

/-- One 128-byte block. -/
def shaBlock (h : List Nat) (b : List Nat) : List Nat :=
  let w0 := (List.range 16).map fun i => ofOctetsBE ((b.drop (8 * i)).take 8)
  let ws := (shaSchedule 64 w0.reverse).reverse
  let v := (List.range 80).foldl (fun v i => shaRound v (packedAt shaK 64 4 i) (nth ws i 0)) h
  List.zipWith (fun x y => add64 [x, y]) h v

/-- The padded message. -/
def shaPad (m : List Nat) : List Nat :=
  m ++ [0x80] ++ List.replicate ((239 - m.length % 128) % 128) 0 ++ octetsBE 16 (8 * m.length)

def shaBlocks : Nat → List Nat → List Nat → List Nat
  | 0, h, _ => h
  | n + 1, h, m => shaBlocks n (shaBlock h (m.take 128)) (m.drop 128)

/-- The 48-byte SHA-384 digest of an octet string. -/
def sha384 (m : List Nat) : List Nat :=
  let p := shaPad m
  (((shaBlocks (p.length / 128) shaInit p).take 6).map (octetsBE 8)).flatten

end Sys2Proof.Machine
end

