-- ==== Sys2Proof/Machine/Keys.lean ====
section
/-!
DEFINITION. The vault's shared operations: random draws, key identifiers, media keys and block encryption, claims, locks and
partnerships (R532 to R543, R560, R566 to R568, R571 of spec/11_tenants_security.md).
-/

namespace Sys2Proof.Machine

/-- Which physical function governs a tenant (R532). -/
def governs (pf t : Nat) : Bool := (pf == 0 && 2 ≤ t && t ≤ 512) || (pf == 1 && 513 ≤ t && t ≤ 1023)

/-- Random octets of the vault's generator. -/
def State.drawOctets (s : State) (n : Nat) : List Nat := octets n (Config.random s.free)

/-- A 512-bit media key whose halves differ: a key with equal halves is discarded and drawn again (R541). -/
def drawMediaKey : Nat → State → State × List Nat
  | 0, s => (s.drew, s.drawOctets 64)
  | n + 1, s =>
    let k := s.drawOctets 64
    if k.take 32 = k.drop 32 then drawMediaKey n s.drew else (s.drew, k)

/-- A key identifier: the first 8 bytes of its SHA-384 digest (R539). -/
def keyId (k : List Nat) : Nat := ofOctets ((sha384 k).take 8)

/-- Generate and store a media key; answers its identity in the vault (R541, R570). -/
def State.newMediaKey (s : State) : State × Nat :=
  let (s, k) := drawMediaKey 64 s
  let id := s.sec.nextKey
  (s.withSec { s.sec with keys := s.sec.keys.ins id k, nextKey := id + 1 }, id)

/-- Destroy a media key, with its event (R571). cmd is the opcode of the destroying command. -/
def State.destroyKey (s : State) (owner nsix cmd : Nat) (id : Option Nat) : State :=
  match id with
  | none => s
  | some k => (s.withSec { s.sec with keys := s.sec.keys.del k }).raiseT 0x041 6 0 owner [(2, nsix), (1, cmd)]

def State.mediaKey (s : State) (nsix : Nat) : Option (List Nat) :=
  match s.nsAt nsix with
  | some n => match n.key with
    | some k => s.sec.keys.get? k
    | none => none
  | none => none

/-- A logical block encrypted or decrypted under its namespace's media key (R541, R542). -/
def State.crypt (s : State) (enc : Bool) (nsix lba : Nat) (b : Block) : Block :=
  match s.mediaKey nsix with
  | some k => xts enc k lba b
  | none => b

/-- May I/O commands run on a namespace: its key is held, and its owner is not locked (R566, R584)? -/
def State.nsReady (s : State) (nsix : Nat) (n : Ns) : Bool := !(s.tsec n.owner).locked && (s.mediaKey nsix).isSome

/-- Partners (R568). -/
def State.partners (s : State) (a b : Nat) : Bool :=
  let x := s.tsec a
  let y := s.tsec b
  x.pvalid && y.pvalid && x.partner == b && y.partner == a

def State.partnerOf (s : State) (t : Nat) : Option Nat :=
  let x := s.tsec t
  if x.pvalid && s.partners t x.partner then some x.partner else none

/-- Namespaces a tenant owns, companions apart (R195). -/
def State.owned (s : State) (t : Nat) : List (Nat × Ns) :=
  (s.zon.ns.filter fun e => e.2.owner == t && e.2.kind != .companion).map fun e => (e.1, e.2)

/-- Byte 32 of Seal Status (R560). -/
def State.tenantByte (s : State) (t : Nat) : Nat :=
  let x := s.tsec t
  b2n x.claimed + 2 * b2n x.locked + 4 * b2n x.tkvol + 8 * b2n (s.partnerOf t).isSome

/-- The 64 bytes of Seal Status (R560). -/
def State.sealStatus (s : State) (t : Nat) : List Byte :=
  let x := s.tsec t
  toBytes 8 x.counter ++ toBytes 1 x.outcome ++ toBytes 1 0 ++ toBytes 2 (if x.outcome = 1 then x.istatus else 0) ++ toBytes 4 0 ++
    toBytes 8 x.tkid ++ toBytes 8 x.skid ++ toBytes 1 (s.tenantByte t) ++ toBytes 31 0

/-- The 64 bytes of a tenant policy (R561). -/
def State.policyBytes (s : State) (t : Nat) : List Byte :=
  let x := s.tsec t
  toBytes 2 t ++ toBytes 2 0 ++ toBytes 1 (b2n x.nsmgmt) ++ toBytes 1 x.nsquota ++ toBytes 2 0 ++
    toBytes 1 (b2n x.capture + 2 * b2n x.tkvol + 4 * b2n x.pvalid) ++ toBytes 1 0 ++ toBytes 2 x.partner ++
    toBytes 1 (s.tenantByte t) ++ toBytes 51 0

/-- The event of a claim, a release or a rotation: codes 1, 2 and 3 of source 0x041 (R666). -/
def State.keyEvent (s : State) (code t : Nat) (tkid skid : Nat) : State :=
  s.raiseT 0x041 code 0 t [(2, 0), (6, tkid % 2 ^ 48), (6, skid % 2 ^ 48)]

end Sys2Proof.Machine
end

