-- ==== Sys2Proof/Machine/ZoneRules.lean ====
section
/-!
DEFINITION. What a zone's state and write pointer say of a command that names it (R157, R161, R164, R165, R170 of spec/03_zones_placement.md): the
zone rules of check 4 of R93.
-/

namespace Sys2Proof.Machine

def State.zone? (s : State) (e : Nat) : Option Zone := s.zon.zdt.get? e

/-- The entry and the descriptor of the zone that holds an LBA. -/
def State.zoneAt (s : State) (n : Ns) (lba : Nat) : Option (Nat × Zone) :=
  (n.entryOf (lba / 262144)).bind fun e => (s.zone? e).map fun z => (e, z)

/-- The status of a zone that cannot be written. -/
def Zone.writeStatus (z : Zone) : Status :=
  if z.ring.isSome then .zoneCaptureBound
  else match z.zs with
    | .readOnly => .zoneReadOnly
    | .offline => .zoneOffline
    | .full => .zoneFull
    | _ => .success

/-- The rules that a write of n blocks at an LBA, or an append, meets in its zone (R161, R164, R165). -/
def Zone.writeRules (z : Zone) (append : Bool) (lba nlb : Nat) : Status :=
  match z.writeStatus with
  | .success =>
    if !append && lba != lba / 262144 * 262144 + z.wpoff then .zoneInvalidWrite
    else if z.zcap < z.wpoff + nlb then .zoneBoundary
    else .success
  | st => st

/-- What a zone action does to a zone: the state it takes (none where it changes nothing), or a failure (R157). -/
def actionResult (act : Nat) (z : Zone) : Except Status (Option ZState) :=
  match act, z.zs with
  | 1, .empty | 1, .closed | 1, .implicitOpen => .ok (some .explicitOpen)
  | 1, .explicitOpen => .ok none
  | 2, .implicitOpen | 2, .explicitOpen => .ok (some .closed)
  | 2, .closed => .ok none
  | 3, .empty | 3, .implicitOpen | 3, .explicitOpen | 3, .closed => .ok (some .full)
  | 3, .full => .ok none
  | 4, .implicitOpen | 4, .explicitOpen | 4, .closed | 4, .full => .ok (some .empty)
  | 4, .empty => .ok none
  | 5, .readOnly => .ok (some .offline)
  | 5, .offline => .ok none
  | _, _ => .error .zoneInvalidTransition

/-- The action of R270 that a Zone Send Action asks for: 1 open, 2 close, 3 finish, 4 reset, 5 offline; none for one that R175 does not list. -/
def actOfZsa : Nat → Option Nat
  | 0x01 => some 2
  | 0x02 => some 3
  | 0x03 => some 1
  | 0x04 => some 4
  | 0x05 => some 5
  | _ => none

/-- Does a range of blocks touch an Offline zone (R170)? -/
def State.touchesOffline (s : State) (n : Ns) (lba nlb : Nat) : Bool :=
  n.kind == .zoned && (List.range (nlb / 262144 + 2)).any fun i => match s.zoneAt n (min (lba + 262144 * i) (lba + nlb - 1)) with
    | some (_, z) => z.zs == .offline
    | none => false

/-- The zone rules of check 4 as they stand for an I/O command (R93). A zone with an action pending settles nothing yet (R163). -/
def State.zoneRules (s : State) (e : Sqe) (n : Ns) : Status :=
  if n.kind ≠ .zoned then .success
  else if e.opc = 0x02 ∨ e.opc = 0x05 ∨ e.opc = 0x0C then (if s.touchesOffline n e.slba e.nlb then .zoneOffline else .success)
  else
    match s.zoneAt n e.slba with
    | none => .success
    | some (_, z) =>
      if z.action.isSome then .success
      else if e.opc = 0x01 ∨ e.opc = 0x08 then z.writeRules false e.slba e.nlb
      else if e.opc = 0x7D then z.writeRules true e.slba e.nlb
      else if e.opc = 0x79 ∧ e.selectAll = false then
        (if z.ring.isSome then .zoneCaptureBound
        else match actOfZsa e.zsa with
          | none => .success
          | some act => match actionResult act z with
            | .error st => st
            | .ok _ => .success)
      else .success

end Sys2Proof.Machine
end

