-- ==== Sys2Proof/Machine/Fetch.lean ====
section
/-!
DEFINITION. Queues, fetch and admission: DOORBELL_WRITE, CQ_HEAD_DOORBELL, COMMAND_FETCH with the checks of R93,
COMMAND_ADMISSION with the token buckets of R448 to R453 and the Amber limit of R206, and LOCK_GRANT (R98 to R107, R751).
-/

namespace Sys2Proof.Machine

/-! ### Supported opcodes (R89, R90, R131) -/

def adminAll : List Nat :=
  [0x00, 0x01, 0x02, 0x04, 0x05, 0x06, 0x08, 0x09, 0x0A, 0x0C, 0x0D, 0x14, 0x15, 0x19, 0x1A, 0x80, 0x81, 0x82, 0x84, 0x86,
   0xC4, 0xC5, 0xC6, 0xC7]

def adminPf : List Nat := [0x10, 0x11, 0x1C, 0x1D, 0x1E]

def ioOpcodes : List Nat := [0x00, 0x01, 0x02, 0x04, 0x05, 0x08, 0x09, 0x0C, 0x79, 0x7A, 0x7D]

def opSupported (t qid opc : Nat) : Bool :=
  if qid = 0 then adminAll.contains opc || (!isVf t && adminPf.contains opc) else ioOpcodes.contains opc

/-- Does a command name an LBA range by SLBA and NLB? -/
def hasRange (opc : Nat) : Bool := [0x01, 0x02, 0x04, 0x05, 0x08, 0x0C].contains opc

/-- Does it transfer logical blocks? -/
def transfers (opc : Nat) : Bool := [0x01, 0x02, 0x05, 0x7D].contains opc

/-- Does it change data (check 9 of R93, R196)? -/
def changesData (e : Sqe) : Bool :=
  [0x01, 0x04, 0x08, 0x79, 0x7D].contains e.opc || (e.opc == 0x09 && e.dealloc)

/-! ### Data pointers (R94, R95) -/

def maxSglDescs : Nat := 1024

/-- The status of a data pointer that is not well-formed. SGL types: 0 Data Block, 1 Bit Bucket, 2 Segment, 3 Last Segment. PRP entries after the
first are held to 4,096-byte alignment whatever CC.MPS is (DESIGN CHOICE, log entry 141). -/
def dptrStatus (read : Bool) : DataPtr → Status
  | .prp es =>
    match es with
    | [] => .success
    | p :: rest => if p % 4 ≠ 0 ∨ rest.any (fun q => q % 4096 != 0) then .prpOffsetInvalid else .success
  | .sgl ds =>
    if maxSglDescs < ds.length then .sglCountInvalid
    else if ds.any (fun d => !(d.kind ≤ 3) || d.sub != 0 || (d.kind == 1 && !read)) then .sglTypeInvalid
    else .success

/-- An SGL segment crosses a 4 KiB page in host memory: a control core walks it (R96). -/
def crossesPage : DataPtr → Bool
  | .prp _ => false
  | .sgl ds => ds.any fun d => (d.kind == 2 || d.kind == 3) && decide (4096 < d.addr % 4096 + d.len)

/-- The commands that carry data between host memory and the part. -/
def carriesData (qid opc : Nat) : Bool :=
  if qid = 0 then [0x02, 0x06, 0x09, 0x0A, 0x0D, 0x11, 0x15, 0x19, 0x1A, 0x1D, 0x1E, 0x81, 0x82, 0x86, 0xC4, 0xC5, 0xC6, 0xC7].contains opc
  else transfers opc || opc == 0x09 || opc == 0x7A

/-- The bytes that an admin command asks to transfer, by the length field that its command set gives it. -/
def adminBytes (e : Sqe) : Nat :=
  if e.opc = 0x02 then e.logLen
  else if e.opc = 0x06 then 4096
  else if e.opc = 0x11 ∨ e.opc = 0x19 ∨ e.opc = 0x1A then 4 * (e.cdw10 + 1)
  else if e.opc = 0x81 ∨ e.opc = 0x82 then e.cdw11
  else if e.opc = 0x86 then 4 * (e.cdw12 + 1)
  else if e.opc = 0xC4 then e.cdw10
  else 0

/-- MDTS: 2 MiB (R86). -/
def maxXfer : Nat := 2097152

/-- The metadata bytes of a block (R87). -/
def metaBytes : Nat → Nat
  | 1 => 8
  | 2 => 16
  | 3 => 64
  | _ => 0

/-- The bytes that an I/O command transfers: metadata counts where it is part of extended LBAs (PRESUMED from the NVMe specifications, log entry
142). -/
def ioBytes (e : Sqe) (n : Ns) : Nat :=
  if transfers e.opc then (4096 + (if n.ext then metaBytes n.lbaf else 0)) * e.nlb
  else if e.opc = 0x7A then 4 * (e.cdw12 + 1)
  else 0

/-- Does a data pointer describe a length exactly: under PRP by construction, under SGL by its Data Block descriptors (R552)? -/
def describes (p : DataPtr) (n : Nat) : Bool :=
  match p with
  | .prp _ => true
  | .sgl ds => ((ds.filter fun d => d.kind == 0).map fun d => d.len).sum == n

/-! ### The checks of R93, in order -/

/-- Check 2: the namespace must be attached; a Flush may name every namespace (R112). Admin commands name theirs in their own rows. -/
def State.checkNs (s : State) (t qid : Nat) (e : Sqe) : Bool :=
  if qid = 0 then true
  else if e.opc = 0x00 ∧ e.nsid = 0xFFFFFFFF then true
  else
    match s.nsOf? e.nsid with
    | some (_, n) => n.attachedTo t
    | none => false

/-- Check 4: the range lies inside the namespace, and the command is one the namespace's kind has (R167). -/
def State.checkRange (e : Sqe) (n : Ns) : Status :=
  if n.kind = .zoned ∧ e.opc = 0x04 then .invalidOpcode
  else if n.kind ≠ .zoned ∧ (e.opc = 0x79 ∨ e.opc = 0x7A ∨ e.opc = 0x7D) then .invalidOpcode
  else if hasRange e.opc then (if e.slba + e.nlb ≤ n.nsze then .success else .lbaOutOfRange)
  else if e.opc = 0x09 then (if e.ranges.all fun r => r.1 + r.2 ≤ n.nsze then .success else .lbaOutOfRange)
  else if e.opc = 0x7D then
    (if n.nsze ≤ e.slba then .lbaOutOfRange else if e.slba % 262144 = 0 then .success else .invalidField)
  else if e.opc = 0x79 then
    (if !e.selectAll && decide (n.nsze ≤ e.slba) then .lbaOutOfRange else if (actOfZsa e.zsa).isNone then .invalidField else .success)
  else if e.opc = 0x7A then (if e.slba < n.nsze then .success else .lbaOutOfRange)
  else .success

/-- Check 7: reference-tag checking that the protection type rules out. -/
def checkPi (e : Sqe) (n : Ns) : Status :=
  let chkRef := e.cdw12.testBit 26
  if !(transfers e.opc || e.opc == 0x0C || e.opc == 0x08) then .success
  else if n.pit = 1 ∧ chkRef ∧ e.opc ≠ 0x7D ∧ e.cdw14 ≠ e.slba % 2 ^ 32 then .invalidPi
  else if n.pit = 3 ∧ chkRef then .invalidPi
  else .success

/-- Check 8 (R184). -/
def checkDirective (e : Sqe) (n : Ns) : Status :=
  if e.opc ≠ 0x01 ∧ e.opc ≠ 0x08 ∧ e.opc ≠ 0x7D then .success
  else if e.dtype = 0 then .success
  else if e.dtype ≠ 2 ∨ n.kind = .zoned then .invalidField
  else if e.dspec < n.nph then .success else .handleInvalid

/-- Checks 5 to 9 of R93 for an I/O command on a namespace, in order. -/
def checkLater (e : Sqe) (n : Ns) : Status :=
  if maxXfer < ioBytes e n then .invalidField
  else
    match (if carriesData 1 e.opc then dptrStatus (e.opc == 0x02) e.dptr else .success) with
    | .success =>
      match checkPi e n with
      | .success =>
        match checkDirective e n with
        | .success => if changesData e ∧ n.wp then .nsWriteProtected else .success
        | st => st
      | st => st
    | st => st

/-- The first failing check of R93 for an I/O command on a namespace. The zone engine applies the zone rules when it handles a command (R162 to
R166); a command that fails a later check never reaches it, so they are applied to it here, ahead of that check. -/
def State.checkIo (s : State) (e : Sqe) (n : Ns) : Status :=
  match State.checkRange e n with
  | .success =>
    match checkLater e n with
    | .success => .success
    | st => match s.zoneRules e n with
      | .success => st
      | z => z
  | st => st

/-- The checks of R93 in order: opcode, namespace, seal, then those of the namespace. -/
def State.fetchStatus (s : State) (t qid : Nat) (e : Sqe) (sealed : Bool) : Status :=
  if !opSupported t qid e.opc then .invalidOpcode
  else if !s.checkNs t qid e then .invalidNsOrFormat
  else if e.mustSeal qid && !sealed && !(qid == 0 && e.opc == 0x81 && !(s.tsec t).claimed) then .sealRequired
  else if qid = 0 then
    (if maxXfer < adminBytes e then .invalidField
      else if carriesData 0 e.opc && !sealed then
        (match dptrStatus false e.dptr with
          | .success => if e.opc = 0xC4 ∧ describes e.dptr e.cdw10 = false then .sglLengthInvalid else .success
          | st => st)
      else .success)
  else
    match s.nsOf? e.nsid with
    | some (k, n) => if s.nsReady k n then s.checkIo e n else .nsNotReady
    | none => .success

/-! ### Classes and admission (R445, R448 to R453) -/

/-- The latency class of a command from its queue's priority (R445). -/
def State.classOf (s : State) (t prio : Nat) : Nat :=
  let c := if (s.fn t).ams = 0 then 1 else if prio ≤ 1 then 0 else if prio = 2 then 1 else 2
  max c (s.fld F.SCH_TN_CFG_MINCLS t)

/-- The direction (0 read, 1 write) and byte cost of a command; none if it is not charged (R449). -/
def charge (e : Sqe) (qid : Nat) (zoned : Bool) : Option (Nat × Nat) :=
  if !ioCmd qid e.opc then none
  else if e.opc = 0x02 ∨ e.opc = 0x05 ∨ e.opc = 0x0C then some (0, 4096 * e.nlb)
  else if e.opc = 0x01 ∨ e.opc = 0x7D then some (1, 4096 * e.nlb)
  else if e.opc = 0x08 then some (1, if zoned then 4096 * e.nlb else 0)
  else if e.opc = 0x04 ∨ e.opc = 0x09 ∨ e.opc = 0x79 then some (1, 0)
  else none

/-- Bytes of data that a command transfers (R206). -/
def xferBytes (e : Sqe) (qid : Nat) : Nat := if qid ≠ 0 ∧ transfers e.opc then 4096 * e.nlb else 0

/-- Is a command's namespace zoned? -/
def State.zonedNs (s : State) (nsid : Nat) : Bool :=
  match s.nsOf? nsid with
  | some (_, n) => n.kind == .zoned
  | none => false

/-- Direction and cost of a command in flight. -/
def State.cmdCharge (s : State) (c : Cmd) : Option (Nat × Nat) := charge c.sqe c.ref.qid (s.zonedNs c.sqe.nsid)

/-- Commands of a tenant that await admission. -/
def State.awaiting (s : State) (t : Nat) : List Cmd := s.host.cmds.filter fun c => c.ref.fn == t && c.phase == .admission

/-- The first command of each tenant and direction that awaits admission, as (tenant, cost), with cap tokens available. -/
def State.contenders (s : State) (dir : Nat) : List (Nat × Nat) :=
  let ts := ((s.host.cmds.filter fun c => c.phase == .admission).map fun c => c.ref.fn).dedup
  ts.filterMap fun t =>
    match (s.awaiting t).findSome? fun c => match s.cmdCharge c with
        | some (d, n) => if d = dir then some n else none
        | none => none with
    | some n => if s.capsOpen t dir && s.snowOpen t dir then some (t, n) else none
    | none => none

/-- Place in the round from the tenant after the one served last. -/
def roundAfter (last t : Nat) : Nat := (t + 2048 - last - 1) % 1024

/-- Rounds of deficit round robin that a tenant needs: its quantum is WT × 4,096 bytes. -/
def State.roundsNeeded (s : State) (dir : Nat) (x : Nat × Nat) : Nat :=
  ceilDiv (x.2 - s.host.deficit.getD (2 * x.1 + dir) 0) (4096 * max 1 (s.fld F.SCH_TN_CFG_WT x.1))

/-- The tenant that admission serves next in a direction (R452). -/
def State.servedNext (s : State) (dir : Nat) : Option Nat :=
  let all := s.contenders dir
  let floor := all.filter fun x => s.underFloor x.1 dir
  let pick (l : List (Nat × Nat)) (key : Nat × Nat → Nat) : Option (Nat × Nat) :=
    l.foldl (fun b x => match b with
      | none => some x
      | some y => if key x < key y ∨ (key x = key y ∧ roundAfter s.host.rrLast x.1 < roundAfter s.host.rrLast y.1) then some x else some y) none
  if floor.isEmpty then (pick all (s.roundsNeeded dir)).map (·.1) else (pick floor (fun _ => 0)).map (·.1)

/-- Deficits after a tenant outside its floor is served. -/
def State.serveDeficit (s : State) (dir t : Nat) : State :=
  if s.underFloor t dir then s.withHost { s.host with rrLast := t }
  else
    match (s.contenders dir).find? fun x => x.1 == t with
    | none => s
    | some x =>
      let k := s.roundsNeeded dir x
      let m := (s.contenders dir).foldl (fun m y =>
        m.ins (2 * y.1 + dir) (m.getD (2 * y.1 + dir) 0 + k * 4096 * s.fld F.SCH_TN_CFG_WT y.1)) s.host.deficit
      s.withHost { s.host with rrLast := t, deficit := m.ins (2 * t + dir) (m.getD (2 * t + dir) 0 - x.2) }

/-! ### Amber (R206) -/

/-- Functions with a command awaiting admission, and the sum of their weights. -/
def State.amberFns (s : State) : List Nat := ((s.host.cmds.filter fun c => c.phase == .admission).map fun c => c.ref.fn).dedup

/-- Share RATE since the last change among the functions with commands waiting, in proportion to W; the share is kept in
10^−6 byte, since RATE GB/s is RATE bytes per ns. -/
def State.amberAdvance (s : State) : State :=
  if s.devLevel ≠ 1 then s.withHost { s.host with amberTime := s.ao.time, amber := [] }
  else
    let fs := s.amberFns
    let w := (fs.map fun t => s.fld F.BPM_TN_RSV_W t).sum
    let dt := s.ao.time - s.host.amberTime
    let m := fs.foldl (fun (m : AMap Int) t =>
      m.ins t (s.host.amber.getD t 0 + ((s.fld F.BPM_AMBER_RATE * dt * 1000000 * s.fld F.BPM_TN_RSV_W t / max 1 w : Nat) : Int))) []
    s.withHost { s.host with amberTime := s.ao.time, amber := m }

/-- May a command transferring these bytes be admitted at Amber? -/
def State.amberOpen (s : State) (t bytes : Nat) : Bool :=
  s.devLevel != 1 || bytes == 0 || decide ((bytes * 1000000 : Nat) ≤ s.host.amber.getD t 0)

def State.amberCharge (s : State) (t bytes : Nat) : State :=
  if s.devLevel ≠ 1 then s
  else s.withHost { s.host with amber := s.host.amber.upd t 0 fun x => x - (bytes * 1000000 : Nat) }

/-! ### Lock requests of a command (R100, R101, R409) -/

/-- Insert a range in order of its low end. -/
def insRange (x : Nat × Nat) : List (Nat × Nat) → List (Nat × Nat)
  | [] => [x]
  | y :: ys => if x.1 ≤ y.1 then x :: y :: ys else y :: insRange x ys

/-- Join a range with those after it, in rising order of their low ends, as long as they overlap or abut it. -/
def joinRange : Nat × Nat → List (Nat × Nat) → List (Nat × Nat)
  | x, [] => [x]
  | x, y :: ys => if y.1 ≤ x.2 + 1 then joinRange (x.1, max x.2 y.2) ys else x :: joinRange y ys

/-- Merge ranges, in rising order of their low ends, that overlap or abut (R101). -/
def mergeRanges : List (Nat × Nat) → List (Nat × Nat)
  | [] => []
  | x :: xs => joinRange x xs

def mergedRanges (l : List (Nat × Nat)) : List (Nat × Nat) := mergeRanges (l.foldl (fun m x => insRange x m) [])

/-- The companion entries of ranges on an LBAF 3 namespace (R409). -/
def companionRanges (l : List (Nat × Nat)) : List (Nat × Nat) := mergedRanges (l.map fun x => (x.1 / 64, x.2 / 64))

/-- The whole span of some ranges, as one range. -/
def spanRange (l : List (Nat × Nat)) : List (Nat × Nat) :=
  match l with
  | [] => []
  | x :: xs => [xs.foldl (fun a y => (min a.1 y.1, max a.2 y.2)) x]

def maxEntries : Nat := 64

/-- Entries for some ranges of a namespace: (namespace index, low, high), at most 64 (R101). -/
def lockEntries (nsix : Nat) (comp : Option Nat) (ranges : List (Nat × Nat)) : List (Nat × Nat × Nat) :=
  let main := mergedRanges ranges
  let side := match comp with
    | some _ => companionRanges ranges
    | none => []
  let (main, side) := if main.length + side.length ≤ maxEntries then (main, side) else (spanRange main, spanRange side)
  (main.map fun x => (nsix, x.1, x.2)) ++ (match comp with
    | some k => side.map fun x => (k, x.1, x.2)
    | none => [])

/-- The blocks of the zones that a Reset, Finish or Offline changes: of one zone, or of each that a Select All takes up. -/
def Cmd.zoneRanges (c : Cmd) (n : Ns) : List (Nat × Nat) :=
  if c.sqe.selectAll then (c.acts.filterMap fun a => n.zoneOf a.entry).map fun z => (z * 262144, z * 262144 + 262143)
  else [(c.sqe.slba / 262144 * 262144, c.sqe.slba / 262144 * 262144 + 262143)]

/-- The mode and the entries of a command's lock request; none if it takes no lock (R100). A Select All takes the entry of each zone it changes, merged
and bounded by R101 (DESIGN CHOICE, log entry 143). -/
def State.cmdLocks (s : State) (c : Cmd) : Option (Bool × List (Nat × Nat × Nat)) :=
  match s.nsAt c.nsix with
  | none => none
  | some n =>
    if !ioCmd c.ref.qid c.sqe.opc then none
    else
      let one := [(c.lba, c.lba + c.nlb - 1)]
      if c.sqe.opc = 0x02 ∨ c.sqe.opc = 0x05 ∨ c.sqe.opc = 0x0C then some (false, lockEntries c.nsix n.comp one)
      else if c.sqe.opc = 0x01 ∨ c.sqe.opc = 0x04 ∨ c.sqe.opc = 0x08 ∨ c.sqe.opc = 0x7D then some (true, lockEntries c.nsix n.comp one)
      else if c.sqe.opc = 0x09 ∧ c.sqe.dealloc then
        some (true, lockEntries c.nsix n.comp ((c.sqe.ranges.filter fun r => 0 < r.2).map fun r => (r.1, r.1 + r.2 - 1)))
      else if c.sqe.opc = 0x79 ∧ (c.sqe.zsa = 0x02 ∨ c.sqe.zsa = 0x04 ∨ c.sqe.zsa = 0x05) then
        some (true, lockEntries c.nsix n.comp (c.zoneRanges n))
      else none

/-- Is an earlier command of the same function held at the front end (R751)? -/
def State.heldBefore (s : State) (r : CmdRef) : Bool :=
  (s.host.cmds.takeWhile fun c => c.ref != r).any fun c => c.ref.fn == r.fn && c.phase == .held

/-- Send a command's lock request to the Colander: its entries are placed, or the command is held (R98, R751). -/
def State.requestLocks (s : State) (c : Cmd) : State :=
  match s.cmdLocks c with
  | none => s.setCmd c.ref fun c => { c with phase := .data }
  | some (excl, es) =>
    if s.lockFits c.ref.fn es.length && !s.heldBefore c.ref then
      (s.placeLocks c.ref excl es).setCmd c.ref fun c => { c with phase := .lockWait }
    else s.setCmd c.ref fun c => { c with phase := .held }

/-- The granule for the copy of an SGL of more than the one descriptor that the command itself holds (R202; DESIGN CHOICE, log entry 153). -/
def sglCopy : DataPtr → List Nat
  | .sgl (_ :: d :: ds) => [smallestPool (16 * (d :: ds).length)]
  | _ => []

/-- The buffers a command asks for once its locks are granted (R202): its data, its separate metadata, and the copy of its SGL. -/
def State.cmdBuffers (s : State) (c : Cmd) : List Nat :=
  if c.sqe.opc = 0x01 ∨ c.sqe.opc = 0x02 ∨ c.sqe.opc = 0x05 ∨ c.sqe.opc = 0x7D then
    (match s.nsAt c.nsix with
    | some n =>
      let md := metaBytes n.lbaf
      if n.ext then splitData ((4096 + md) * c.nlb)
      else splitData (4096 * c.nlb) ++ (if md = 0 then [] else [smallestPool (md * c.nlb)])
    | none => splitData (4096 * c.nlb)) ++ sglCopy c.sqe.dptr
  else if c.sqe.opc = 0x08 ∧ s.zonedNs c.sqe.nsid then splitData (4096 * c.nlb)
  else []

/-! ### The commands -/

/-- DOORBELL_WRITE: the tail doorbell makes new entries available (R93). A tail outside the queue, or one that does not match
the entries made available, leaves the queue as it is. -/
def execDoorbellWrite (fn qid tail : Nat) (entries : List Sqe) (s : State) : Outcome :=
  match s.sq? fn qid with
  | none => .next s
  | some q =>
    if tail < q.size ∧ tail = (q.tail + entries.length) % q.size ∧ q.entries.length + entries.length < q.size then
      .next (s.putSq fn qid { q with tail := tail, entries := q.entries ++ entries, bell := s.ao.time })
    else .next s

/-- CQ_HEAD_DOORBELL: the head doorbell frees completion entries (R84). A head outside the posted entries is ignored. -/
def execCqHeadDoorbell (fn qid head : Nat) (s : State) : Outcome :=
  match s.cq? fn qid with
  | none => .next s
  | some q =>
    if head < q.size ∧ (head + q.size - q.head) % q.size ≤ (q.tail + q.size - q.head) % q.size then
      .next ((s.putCq fn qid { q with head := head }).pumpAsync fn)
    else .next s

/-- May the front end fetch from a function (R106, R116, R117, R205, R258, R453, R694)? -/
def State.mayFetch (s : State) (t : Nat) : Bool :=
  let f := s.fn t
  s.fnLive t && f.en && f.shn == 0 && !s.host.paused && s.hld.flush == .none && s.win.locked && !s.flag F.BPM_CTL_NOM &&
  (match s.devLevel with
   | 0 => true
   | 1 => true
   | 2 => decide (s.ownerUse t true < s.reserve t true)
   | _ => false) &&
  decide (s.lockUse t < s.fld F.RLK_CFG_FN_CAP) && decide ((s.awaiting t).length < 64)

/-- Does an erasing command cover a namespace (R571, R573)? -/
def erases (e : Sqe) (t : Nat) (n : Ns) : Bool :=
  if e.opc = 0x80 then e.nsid == n.nsid || (e.nsid == 0xFFFFFFFF && n.owner == t)
  else if e.opc = 0x84 then n.owner == t || governs t n.owner
  else if e.opc = 0x0D then e.cdw10 % 16 == 1 && (e.nsid == n.nsid || (e.nsid == 0xFFFFFFFF && n.owner == t))
  else e.opc == 0xC5 && e.cdw11.testBit 0 && n.owner == e.cdw10 % 1024

/-- Is a command of a function for a namespace: it names its NSID, or every namespace that it may (R104, R112)? -/
def namesNs (t qid : Nat) (e : Sqe) (n : Ns) : Bool :=
  e.nsid == n.nsid || (e.nsid == 0xFFFFFFFF && (n.attachedTo t || n.owner == t) && (if qid = 0 then e.opc == 0x80 || e.opc == 0x0D else e.opc == 0x00))

/-- An erasing command waits for the entries of a namespace that a command is for, and nothing more is fetched for it (R104). -/
def State.formatWaits (s : State) (t qid : Nat) (e : Sqe) : Bool :=
  s.zon.ns.any fun x => namesNs t qid e x.2 &&
    s.host.cmds.any fun c => c.ref.qid == 0 && c.phase == .background && erases c.sqe c.ref.fn x.2

/-- A command as fetched. -/
def State.newCmd (s : State) (fn qid : Nat) (q : Sq) (e : Sqe) (sealed tunnel : Bool) : Cmd :=
  let ns := s.nsOf? e.nsid
  { ref := ⟨fn, qid, e.cid⟩, sqe := e
    phase := if (charge e qid (s.zonedNs e.nsid)).isSome then .admission else .ready
    sealed := sealed, tunnel := tunnel, bellTime := q.bell, cls := s.classOf fn q.prio
    nsix := match ns with
      | some (k, _) => k
      | none => 0
    lba := e.slba, nlb := e.nlb, group := 0, bufs := ⟨[], []⟩, blocks := 0, got := [], units := [], opened := false, acts := []
    csn := if qid ≠ 0 ∧ e.opc = 0x00 then some s.jnl.csn else none
    recs := [], press := s.devLevel, snow := s.inSnow fn, hold := false, status := .success
    core := qid == 0 || !q.seen.contains e.opc || crossesPage e.dptr, zord := 0, replaced := [], taken := [], reread := false }

/-- COMMAND_FETCH: the front end fetches the entry at a queue's head when back-pressure allows, checks it in the order of R93,
and completes it with the first failing status (R93 to R96, R118). -/
def execCommandFetch (fn qid : Nat) (s : State) : Outcome :=
  match s.sq? fn qid with
  | none => .next s
  | some q =>
    match q.entries with
    | [] => .next s
    | e :: rest =>
      if s.mayFetch fn && !s.formatWaits fn qid e && s.cqRoom ⟨fn, qid, e.cid⟩ && (s.cmd? ⟨fn, qid, e.cid⟩).isNone then
        let s := s.amberAdvance
        let seen := if q.seen.contains e.opc then q.seen else q.seen ++ [e.opc]
        let s := s.putSq fn qid { q with head := (q.head + 1) % q.size, entries := rest, seen := seen }
        let c := s.newCmd fn qid q e false false
        match s.fetchStatus fn qid e false with
        | .success => .next (s.withHost { s.host with cmds := s.host.cmds ++ [c] })
        | st => .next (s.complete c st)
      else .next s

/-- The first command of a function, in fetch order, that waits for admission in a direction. -/
def State.firstAwaiting (s : State) (t dir : Nat) : Option CmdRef :=
  ((s.awaiting t).find? fun d => match s.cmdCharge d with
    | some (x, _) => x == dir
    | none => false).map (·.ref)

/-- COMMAND_ADMISSION: a command is admitted once every cap bucket of its direction holds a positive level, in fetch order within
its tenant and direction; its cost leaves every bucket of the direction (R448 to R453, R206). A read, Compare or Verify then
sends its lock request (R98). -/
def execCommandAdmission (r : CmdRef) (s : State) : Outcome :=
  match s.cmd? r with
  | none => .next s
  | some c =>
    match s.cmdCharge c with
    | none => .next s
    | some (dir, cost) =>
      let a := s.amberAdvance
      if c.phase = .admission ∧ s.firstAwaiting r.fn dir = some r ∧ s.servedNext dir = some r.fn ∧ a.amberOpen r.fn (xferBytes c.sqe r.qid) = true then
        let s := (a.serveDeficit dir r.fn).amberCharge r.fn (xferBytes c.sqe r.qid)
        let s := [4 * dir, 4 * dir + 2].foldl (fun s k => s.chargeBucket r.fn k 1) s
        let s := [4 * dir + 1, 4 * dir + 3].foldl (fun s k => s.chargeBucket r.fn k cost) s
        let s := s.chargeSnow r.fn dir cost
        if dir = 0 then .next (s.requestLocks c) else .next (s.setCmd r fun c => { c with phase := .ready })
      else .next s

/-- LOCK_GRANT: a held command's entries are placed as soon as they fit (R751); a placed command's entries are all granted once no
earlier unretired request conflicts with any of them (R99, R100). Buffers are asked for next (R203). -/
def execLockGrant (r : CmdRef) (s : State) : Outcome :=
  match s.cmd? r with
  | none => .next s
  | some c =>
    match c.phase with
    | .held => .next (s.requestLocks c)
    | .lockWait =>
      if lockClear s.col.table r then
        let s := s.grantLocks r
        let want := s.cmdBuffers c
        let s := s.setCmd r fun c => { c with bufs := ⟨want, []⟩, phase := if want.isEmpty then .data else .buffers }
        .next (s.askBuffers r.fn (.cmd r) want)
      else .next s
    | _ => .next s

end Sys2Proof.Machine
end

