-- ==== Sys2Proof/Machine/ZoneBase.lean ====
section
/-!
DEFINITION. The Zone Descriptor Table: finding a zone, its state codes, its journal record, and the zone state change event (R157, R178,
R270, R750).
-/

namespace Sys2Proof.Machine

/-- The zone state codes. -/
def ZState.code : ZState → Nat
  | .empty => 0x1 | .implicitOpen => 0x2 | .explicitOpen => 0x3 | .closed => 0x4
  | .readOnly => 0xD | .full => 0xE | .offline => 0xF

def State.putZone (s : State) (e : Nat) (z : Zone) : State := s.withZon { s.zon with zdt := s.zon.zdt.ins e z }

def State.setZone (s : State) (e : Nat) (f : Zone → Zone) : State := s.withZon { s.zon with zdt := s.zon.zdt.adj e f }

def State.zoneMembers (s : State) (e : Nat) : List (Nat × Nat) :=
  match s.set? e with
  | some r => r.members
  | none => []

/-- Append a zone record with the zone's present state (R270). -/
def State.zoneRecord (s : State) (tenant csn e action : Nat) : State :=
  match s.zone? e with
  | none => s
  | some z => s.journal tenant csn (.zone e action z.zs.code z.wpoff z.zcap z.bindCsn (s.zoneMembers e))

/-- The record sequence number that the next record takes. -/
def State.nextRec (s : State) : Nat := s.jnl.nextSeq

/-- The zone state change event, for a change that nothing asked for (R750). -/
def State.zoneEvent (s : State) (e : Nat) : State :=
  match s.zone? e with
  | none => s
  | some z =>
    match s.nsAt z.nsix with
    | none => s
    | some n => s.raise 0x028 0 1 [(4, n.nsid), (4, (n.zoneOf e).getD 0), (1, z.zs.code)]

end Sys2Proof.Machine
end

