-- ==== Sys2Proof/Machine/CaptureRing.lean ====
section
/-!
DEFINITION. Capture rings: the zone stream with its markers, zone switching, faults and releases (R214 to R241 of
spec/04_buffers_capture.md).
-/

namespace Sys2Proof.Machine

def State.capRing (s : State) (n : Nat) : CapRing := s.cap.rings.getD n CapRing.reset

def State.putCapRing (s : State) (n : Nat) (r : CapRing) : State := s.withCap { s.cap with rings := s.cap.rings.ins n r }

def State.setCapRing (s : State) (n : Nat) (f : CapRing → CapRing) : State := s.putCapRing n (f (s.capRing n))

/-- Raise an event of a ring's source. -/
def State.raiseRingEv (s : State) (n code sev : Nat) (pay : List (Nat × Nat)) : State := s.raise (0x0E0 + n) code sev pay

/-! ### Markers (R222, R223) -/

/-- The fields of a marker. -/
structure Marker where
  type : Nat
  reason : Nat
  roff : Nat
  seq : Nat
  arg1 : Nat
  arg2 : Nat
  deriving DecidableEq, Repr

/-- The 64 bytes of a marker (R222). -/
def Marker.block (m : Marker) (ring armId span time : Nat) : BitVec 512 :=
  let v := 0xA55A0C4D + m.type % 256 * 2 ^ 32 + m.reason % 256 * 2 ^ 40 + ring % 256 * 2 ^ 48 + armId % 2 ^ 32 * 2 ^ 64 +
    span % 2 ^ 32 * 2 ^ 96 + m.roff % 2 ^ 64 * 2 ^ 128 + m.seq % 2 ^ 64 * 2 ^ 192 + m.arg1 % 2 ^ 64 * 2 ^ 256 +
    m.arg2 % 2 ^ 64 * 2 ^ 320 + time % 2 ^ 64 * 2 ^ 384
  BitVec.ofNat 512 (v + crc32c 60 v * 2 ^ 480)

/-- ZCAP of the zone that the stream is in. -/
def State.streamCap (s : State) (r : CapRing) : Nat :=
  match r.strm with
  | some z => match s.zone? z.entry with
    | some d => d.zcap
    | none => 0
  | none => 0

/-- Does the zone stream have room for one more unit in its zone? -/
def State.streamRoom (s : State) (r : CapRing) : Bool := !r.cut && decide (r.zpos < s.streamCap r)

/-- The namespace index of the zone that the stream is in. -/
def State.streamNs (s : State) (r : CapRing) : Nat :=
  match r.strm with
  | some z => match s.zone? z.entry with
    | some d => d.nsix
    | none => r.nsix
  | none => r.nsix

/-- Join 64 pieces of 64 bytes, newest first, into a unit. -/
def joinPieces (ps : List (BitVec 512)) : Block :=
  BitVec.ofNat 32768 (ps.foldl (fun (v : Nat) p => v * 2 ^ 512 + p.toNat) 0)

/-- Put a 64-byte piece into the zone stream; the 64th completes a unit, which the port turns into media ciphertext (R226, R536, R542).
roff is the ring offset just past the piece's ring byte, or the present one for a marker. -/
def State.putPiece (s : State) (n roff : Nat) (p : BitVec 512) : State :=
  let r := s.capRing n
  let cur := p :: r.cur
  if cur.length < 64 then s.putCapRing n { r with cur := cur }
  else
    match r.strm with
    | none => s.putCapRing n { r with cur := [] }
    | some z =>
      let lba := z.zone * 262144 + r.zpos
      let u : CapUnit :=
        { data := s.crypt true (s.streamNs r) lba (joinPieces cur), roff := roff, recs := r.curRecs, zone := z.zone, entry := z.entry, zoff := r.zpos, closes := [] }
      s.putCapRing n { r with cur := [], curRecs := [], units := r.units ++ [u], zpos := r.zpos + 1 }

/-- Zero fill to the next unit boundary (R223). -/
def State.fillUnit (s : State) (n roff : Nat) : Nat → State
  | 0 => s
  | k + 1 => if (s.capRing n).cur.isEmpty then s else (s.putPiece n roff 0).fillUnit n roff k

/-- The end of the contiguous run of blocks that have arrived, from a block on. -/
def runEnd (m : AMap (BitVec 512)) : Nat → Nat → Nat
  | 0, k => k
  | f + 1, k => if (m.get? k).isSome then runEnd m f (k + 1) else k

/-- The arrived offset A (R219): past what the stream has taken lie the blocks that wait for a zone (R230). -/
def CapRing.reach (r : CapRing) : Nat := 64 * runEnd r.blocks r.blocks.length (r.arrived / 64)

/-- Store a marker, whose copy takes a granule (R202); types 2, 4, 5 and 6 are zero-filled to the next unit boundary (R223). -/
def State.putMarker (s : State) (n : Nat) (m : Marker) : State :=
  let s := s.askBuffers (ownerRing n) (.marker n) [smallestPool 64]
  let r := s.capRing n
  let fill := m.type == 2 || 4 ≤ m.type
  let span := if fill then 4096 - 64 * r.cur.length else 64
  let s := s.putPiece n r.arrived (m.block n r.armId span s.ao.time)
  if fill then s.fillUnit n r.arrived 64 else s

/-- SEQ of the last header, 0 if none. -/
def CapRing.seqNow (r : CapRing) : Nat := if r.anySeq then r.lastSeq else 0

/-! ### Zones of a ring (R229 to R231) -/

/-- Queued zones after the current one. -/
def CapRing.queuedAfter (r : CapRing) : Nat := r.zq.length - 1

/-- The zone-queue-low event (R231). -/
def State.checkLow (s : State) (n : Nat) : State :=
  let r := s.capRing n
  let lim := s.fld F.CAP_CFG_ZQLOW n
  if lim ≤ r.queuedAfter then s.putCapRing n { r with zqLow := false }
  else if r.zqLow || r.st == .idle || r.st == .draining then s
  else (s.putCapRing n { r with zqLow := true }).raiseRingEv n 5 1 [(1, r.queuedAfter)]

/-- Begin the stream in the first zone of the queue, with its zone start marker (R223, R229). -/
def State.startZone (s : State) (n prev : Nat) : State :=
  let r := s.capRing n
  match r.zq with
  | [] => s
  | z :: _ =>
    let s := s.putCapRing n { r with strm := some z, cut := false, zpos := 0, ackb := 0, cur := [], curRecs := [] }
    s.putMarker n ⟨1, 0, r.arrived, r.seqNow, prev, r.zonesUsed⟩

/-- The stream has reached the end of its zone: it goes on in the next queued zone, or the ring enters NOZONE (R229, R230). -/
def State.switchZone (s : State) (n : Nat) : State :=
  let r := s.capRing n
  match r.strm with
  | none => s
  | some old =>
    let rest := r.zq.filter fun z => z.entry != old.entry
    if rest.isEmpty then
      if r.st = .armed then (s.putCapRing n { r with st := .nozone }).raiseRingEv n 4 1 [(4, old.zone)] else s
    else
      let s := s.putCapRing n { r with zq := rest, zonesUsed := r.zonesUsed + 1, st := .armed }
      (s.startZone n old.zone).checkLow n

/-- Switch zones if the stream's zone is full, or ends at this unit boundary. -/
def State.settleZone (s : State) (n : Nat) : State :=
  let r := s.capRing n
  if r.cur.isEmpty && r.strm.isSome && !s.streamRoom r && (r.st == .armed || r.st == .nozone) then s.switchZone n else s

/-! ### Faults (R241) -/

/-- Fault a ring: a fault marker at A, the blocks beyond the stream discarded, and no more credit. -/
def State.faultRing (s : State) (n reason : Nat) : State :=
  let r := s.capRing n
  let disc := r.blocks.length
  let room := s.streamRoom r || !r.cur.isEmpty
  let s := s.putCapRing n { r with st := .fault, fault := reason, blocks := [], discard := sat 16 (r.discard + disc) }
  let s := if room then s.putMarker n ⟨6, 3, r.arrived, r.seqNow, reason, disc⟩ else s
  s.raiseRingEv n 3 2 [(1, reason), (8, r.reach), (4, disc)]

/-! ### Arrival (R218 to R221, R237, R238) -/

/-- Does a header pass R218? -/
def headerOk (h : Nat) : Bool :=
  let len := bits h 127 64
  bits h 31 0 == 0xA55A0C4E && bits h 47 32 == 1 && bits h 55 49 == 0 && 1 ≤ len && len ≤ 2 ^ 34 && bits h 511 480 == crc32c 60 h

/-- The end E of a record that starts at S (R218). -/
def recEnd (st len : Nat) : Nat := st + 64 + 64 * ceilDiv len 64

/-- Take the header at A: it faults the ring (R220), or starts a record, with a gap in SEQ reported (R221). -/
def State.takeHeader (s : State) (n : Nat) (b : BitVec 512) : State :=
  let r := s.capRing n
  let h := b.toNat
  if !headerOk h then s.faultRing n 4
  else
    let seq := bits h 191 128
    let want := (r.lastSeq + 1) % 2 ^ 64
    let gap := r.anySeq && seq != want
    let s := s.putCapRing n { r with
      inRec := true, recStart := r.arrived, recLen := bits h 127 64, recFlush := h.testBit 48, lastSeq := seq, anySeq := true
      seqgap := if gap then sat 16 (r.seqgap + 1) else r.seqgap }
    if gap then s.raiseRingEv n 2 1 [(8, want), (8, seq)] else s

/-- The block at A goes into the zone stream, behind a continuation marker after a truncation (R237); at the record's end a pad marker
follows where FLUSH asks for one (R238). -/
def State.takeBlock (s : State) (n : Nat) (b : BitVec 512) : State :=
  let r := s.capRing n
  let s := if r.truncated then
      let s := s.putMarker n ⟨3, 0, r.arrived, r.lastSeq, r.arrived - r.recStart - 64, recEnd r.recStart r.recLen - r.arrived⟩
      (s.setCapRing n fun r => { r with truncated := false, cont := sat 16 (r.cont + 1) }).settleZone n
    else s
  let a := r.arrived + 64
  let last := recEnd r.recStart r.recLen == a
  if (s.capRing n).st != .armed then s else
  let s := s.setCapRing n fun r => { r with
    arrived := a, blocks := r.blocks.del (r.arrived / 64), curRecs := if last then r.curRecs ++ [a] else r.curRecs }
  let s := s.putPiece n a b
  if last then
    let s := s.setCapRing n fun r => { r with inRec := false }
    if r.recFlush && !(s.capRing n).cur.isEmpty then s.putMarker n ⟨4, 0, a, r.lastSeq, 0, 0⟩ else s
  else s

/-- Take blocks at A while they have arrived and the ring is ARMED. -/
def State.feedRing (s : State) (n : Nat) : Nat → State
  | 0 => s
  | fuel + 1 =>
    let s := s.settleZone n
    let r := s.capRing n
    if r.st != .armed then s
    else match r.blocks.get? (r.arrived / 64) with
      | none => s
      | some b =>
        let s := if r.inRec then s else s.takeHeader n b
        if (s.capRing n).st == .fault then s else (s.takeBlock n b).feedRing n fuel

/-! ### Release (R240, R241) -/

/-- A bound zone leaves its ring: to Closed, or to Full where its stream filled it. byItself tells a release that the controller starts
(R750). -/
def State.unbindZone (s : State) (e : Nat) (full byItself : Bool) : State :=
  match s.zone? e with
  | none => s
  | some z =>
    if z.ring.isNone then s
    else
      let csn := s.jnl.csn
      let s := (s.takeCsns 1).setZone e fun z => { z with zs := if full then .full else .closed, ring := none }
      let owner := match s.nsAt z.nsix with
        | some n => n.owner
        | none => 0xFFFF
      let s := s.zoneRecord owner csn e 8
      if byItself && !full then s.zoneEvent e else s

/-- Start the release of a ring (R240): an IDLE ring closes its queued zones; another stops granting credit, closes a partial record with a
truncation marker, and drains. -/
def State.releaseRing (s : State) (n reason : Nat) : State :=
  let r := s.capRing n
  match r.st with
  | .draining => s
  | .idle =>
    let s := r.zq.foldl (fun s z => s.unbindZone z.entry false (reason != 2)) s
    s.setCapRing n fun r => { r with zq := [] }
  | _ =>
    let partially := r.inRec && !r.truncated
    let room := s.streamRoom r || !r.cur.isEmpty
    let s := s.putCapRing n { r with
      st := .draining, release := reason, ended := false, blocks := []
      trunc := if partially && room then sat 16 (r.trunc + 1) else r.trunc }
    if partially && room then
      s.putMarker n ⟨2, reason, r.arrived, r.lastSeq, min r.recLen (r.arrived - r.recStart - 64), r.recLen⟩
    else s

/-- The namespaces that a ring stores into: its own, and those of its queued zones. -/
def State.ringNs (s : State) (r : CapRing) : List Nat :=
  (if r.st = .idle then [] else [r.nsix]) ++ r.zq.filterMap fun z => (s.zone? z.entry).map fun d => d.nsix

/-- Release the rings that store into a namespace which becomes write-protected (R241). -/
def State.releaseNs (s : State) (nsix : Nat) : State :=
  s.cap.rings.foldl (fun s e => if (s.ringNs e.2).contains nsix then s.releaseRing e.1 6 else s) s

/-- Release the rings served by a physical function, or storing for a tenant, that is reset or disabled (R241). -/
def State.releaseFn (s : State) (t : Nat) : State :=
  s.cap.rings.foldl (fun s e =>
    let mine := (t < 2 && s.fld F.CAP_CFG_PF e.1 == t) || (s.ringNs e.2).any fun k => match s.nsAt k with
      | some n => n.owner == t
      | none => false
    if mine && (e.2.st != .idle || !e.2.zq.isEmpty) then s.releaseRing e.1 4 else s) s

/-- The current zone of a ring becomes Read Only: the stream goes on at the next unit boundary in the next queued zone (R241). -/
def State.capZoneLost (s : State) (e : Nat) : State :=
  s.cap.rings.foldl (fun s x =>
    match x.2.strm with
    | some z => if z.entry = e then (s.setCapRing x.1 fun r => { r with cut := true }).settleZone x.1 else s
    | none => s) s

end Sys2Proof.Machine
end

