-- ==== Sys2Proof/Machine/Zones.lean ====
section
/-!
DEFINITION. The zone engine and the placement engine (R154 to R173, R186 to R198, R233, R423, R755, R750): binding zones, the zone
state machine, write handling, reservation of placement space, and the commands WRITE, WRITE_ZEROES, ZONE_APPEND,
WRITE_UNCORRECTABLE, DATASET_MANAGEMENT, ZONE_OPEN, ZONE_CLOSE, ZONE_FINISH, ZONE_RESET, ZONE_OFFLINE and
ZONE_ACTION_ACKNOWLEDGE.
-/

namespace Sys2Proof.Machine

/-! ### Write protection (R196, R197) -/

/-- Make a namespace write-protected, with a namespace attribute changed notice; capture rings that store into it are released (R196,
R197, R241). -/
def State.protectNs (s : State) (nsix : Nat) : State :=
  match s.nsAt nsix with
  | some n => if n.wp then s else (((s.setNs nsix fun n => { n with wp := true }).nsChanged nsix).ewRaise 0x09 (s.tenantDs n.owner) n.nsid 0).releaseNs nsix
  | none => s

/-! ### Binding a zone (R152, R154, R155) -/

/-- A member set for a tenant's zone (R150); every good block has at least 14,336 unit slots (R148). -/
def State.chooseZoneSet (s : State) (tenant : Nat) : Option (List (Nat × Nat)) :=
  match s.tenantDs tenant with
  | some ds => s.chooseSet (s.dsDies ds) 14336
  | none => none

/-- ZCAP of a member set (R152). -/
def State.capOf (s : State) (members : List (Nat × Nat)) : Nat := min 262144 (16 * s.minUnits members)

/-- An Empty zone's descriptor, bound or not (R154, R155). -/
def Zone.fresh (nsix bindCsn zcap : Nat) (bound : Bool) : Zone :=
  { zs := .empty, bound := bound, ring := none, nsix := nsix, wpoff := 0, zcap := zcap, bindCsn := bindCsn, lastCsn := 0,
    action := none, unread := [], written := 0 }

/-- Make a zone Empty: bound to a chosen set, or unbound with ZCAP 229,376 where none could be chosen (R154, R155). -/
def State.bindEmpty (s : State) (nsix e tenant csn : Nat) (members : Option (List (Nat × Nat))) : State :=
  match members with
  | some ms =>
    let cap := s.capOf ms
    (s.bindSet e tenant nsix (cap / 16) csn ms).putZone e (Zone.fresh nsix csn cap true)
  | none => s.putZone e (Zone.fresh nsix csn 229376 false)

/-- Bind an unbound zone when a write, an append or an Open first needs it; ZCAP stays 229,376 (R155, R270). None where no set can be
chosen. -/
def State.bindLate (s : State) (n : Ns) (nsix e : Nat) : Option State :=
  match s.zone? e with
  | none => none
  | some z =>
    if z.bound then some s
    else
      match s.chooseZoneSet n.owner with
      | none => none
      | some ms =>
        let s := (s.bindSet e n.owner nsix (229376 / 16) z.bindCsn ms).setZone e fun z => { z with bound := true, zcap := 229376 }
        some ((s.zoneRecord n.owner z.bindCsn e 9).resnowTenant n.owner)

/-! ### Zone resources (R157, R159, R160, R750) -/

/-- Is this an I/O command that writes a zone and has not retired? -/
def Cmd.writesZone (c : Cmd) (nsix z : Nat) : Bool :=
  (c.sqe.opc == 0x01 || c.sqe.opc == 0x08 || c.sqe.opc == 0x7D) && ioCmd c.ref.qid c.sqe.opc && c.nsix == nsix &&
    c.lba / 262144 == z && c.phase != .admission && c.phase != .ready && c.phase != .zoneWait

/-- The tenant's ZSIO zones that hold no unretired write, as (LAST_CSN, entry). -/
def State.closable (s : State) (tenant : Nat) : List (Nat × Nat) :=
  s.zon.zdt.filterMap fun x =>
    match s.nsAt x.2.nsix with
    | none => none
    | some n =>
      if x.2.zs == .implicitOpen && n.owner == tenant && x.2.action.isNone &&
          !(s.host.cmds.any fun c => c.writesZone x.2.nsix ((n.zoneOf x.1).getD 0)) then some (x.2.lastCsn, x.1) else none

/-- The pair with the least first part. -/
def leastPair : List (Nat × Nat) → Option (Nat × Nat)
  | [] => none
  | x :: xs => match leastPair xs with
    | none => some x
    | some y => if x.1 ≤ y.1 then some x else some y

/-- Implicit close: the tenant's idle ZSIO zone with the lowest LAST_CSN closes (R160). -/
def State.closeImplicit (s : State) (tenant : Nat) : Option State :=
  (leastPair (s.closable tenant)).map fun x =>
    let csn := s.jnl.csn
    let s := (s.takeCsns 1).setZone x.2 fun z => { z with zs := .closed }
    (s.zoneRecord tenant csn x.2 2).zoneEvent x.2

/-- Open a zone, implicitly or by an Open: the ACT and OPEN limits, the binding, and the new state (R155, R157, R159, R160). -/
def State.openZone (s : State) (n : Ns) (nsix e : Nat) (z : Zone) (explicit : Bool) : State × Status :=
  let t := n.owner
  let nz := if explicit then ZState.explicitOpen else .implicitOpen
  if z.zs.isOpen then (if explicit then s.setZone e fun z => { z with zs := .explicitOpen } else s, .success)
  else if z.zs = .empty ∧ s.fld F.ZON_TN_LIM_ACT t < s.activeOf t + 1 then (s, .tooManyActive)
  else
    let room := s.openOf t + 1 ≤ s.fld F.ZON_TN_LIM_OPEN t
    let cleared := if room then some s else if explicit then none else s.closeImplicit t
    match cleared with
    | none => (s, .tooManyOpen)
    | some s' =>
      match s'.bindLate n nsix e with
      | none => (s.protectNs nsix, .zoneResources)
      | some s' => (s'.setZone e fun z => { z with zs := nz }, .success)

/-! ### Failing a write whose range is consumed (R166, R755) -/

/-- Fill the zone positions of a range with pads (R755). -/
def State.padZoneRange (s : State) (nsix lba nlb : Nat) : State :=
  (List.range nlb).foldl (fun s i =>
    match s.zonePlace nsix (lba + i) with
    | none => s
    | some (e, row, d) =>
      match s.set? e with
      | none => s
      | some r => if (nth (s.row e row).pos d .empty).isEmpty then s.fillPos e r row d .pad true else s) s

/-- A zone action that is handled and never granted its locks leaves no trace: its zones take their states and write pointers of before (R139, R168;
DESIGN CHOICE, log entry 145). -/
def State.undoActions (s : State) (c : Cmd) : State :=
  c.acts.foldl (fun s a => s.setZone a.entry fun z =>
    { z with zs := a.prevZs, wpoff := a.prevWp, action := if z.action = some c.ref then none else z.action }) s

/-- Release what a failed, aborted or abandoned command has reserved: its zone range turns to pads, and its placement slots return
(R166, R196, R755); a zone action is undone. A unit that was granted credit stays, for it is applied (R41). -/
def State.abandonWrite (s : State) (c : Cmd) : State :=
  match s.nsAt c.nsix with
  | none => s
  | some n =>
    if c.sqe.opc = 0x79 ∧ ioCmd c.ref.qid c.sqe.opc = true then s.undoActions c
    else if !(c.sqe.opc == 0x01 || c.sqe.opc == 0x08 || c.sqe.opc == 0x7D) || c.phase == .admission || c.phase == .ready || c.phase == .zoneWait then s
    else if c.units.any (fun k => (s.str.dram.get? k).isSome) then s
    else if n.kind = .zoned then s.padZoneRange c.nsix c.lba c.nlb
    else if c.sqe.opc = 0x01 then
      s.withZon { s.zon with reserved := s.zon.reserved.upd (c.nsix * 32 + c.group) 0 (· - c.nlb) }
    else s

/-- Complete a write that failed after the zone engine or the placement engine accepted it. -/
def State.failWrite (s : State) (c : Cmd) (st : Status) : State := (s.abandonWrite c).complete c st

/-! ### Handling a write at the zone engine (R161 to R166) -/

/-- Is a command a zone action on every zone? -/
def Cmd.allZones (c : Cmd) : Bool := c.sqe.opc == 0x79 && c.sqe.selectAll

/-- Do two commands for the zone engine name one zone? -/
def Cmd.sameZone (a b : Cmd) : Bool :=
  a.nsix == b.nsix && (a.allZones || b.allZones || a.sqe.slba / 262144 == b.sqe.slba / 262144)

/-- Does a command that reached the zone engine earlier still wait there for the same zone (R162)? -/
def State.zoneQueued (s : State) (c : Cmd) : Bool :=
  s.host.cmds.any fun x => x.phase == .zoneWait && x.ref != c.ref && x.sameZone c && (c.phase != .zoneWait || decide (x.zord < c.zord))

/-- A command waits at the zone engine, behind those that came before it (R162, R163). -/
def State.waitZone (s : State) (c : Cmd) : State :=
  if c.phase = .zoneWait then s
  else
    let k := s.host.zoneOrd
    (s.setCmd c.ref fun c => { c with phase := .zoneWait, zord := k }).withHost
      { (s.setCmd c.ref fun c => { c with phase := .zoneWait, zord := k }).host with zoneOrd := k + 1 }

/-- Handle a write, a Write Zeroes or an append: wait behind a pending action and those that wait for it, or check it, open the zone, advance the write
pointer past the whole range, and send the lock request (R162 to R166). -/
def State.handleZoneWrite (s : State) (c : Cmd) (n : Ns) (append : Bool) : State :=
  match s.zoneAt n c.sqe.slba with
  | none => s.complete c .lbaOutOfRange
  | some (e, z) =>
    if z.action.isSome || s.zoneQueued c then s.waitZone c
    else
      match z.writeRules append c.sqe.slba c.nlb with
      | .success =>
        match s.openZone n c.nsix e z false with
        | (s, .success) =>
          let lba := c.sqe.slba / 262144 * 262144 + z.wpoff
          let s := s.setZone e fun z =>
            let wp := z.wpoff + c.nlb
            { z with wpoff := wp, written := wp, zs := if wp = z.zcap then .full else z.zs }
          let s := s.setCmd c.ref fun c => { c with lba := lba, opened := !z.zs.isOpen }
          match s.cmd? c.ref with
          | some c => s.requestLocks c
          | none => s
        | (s, st) => s.complete c st
      | st => s.complete c st

/-! ### Reservation in the placement region (R186, R187, R196) -/

/-- The class of an extent (R187). -/
def classOfHist (h : Nat) : Nat := if 256 ≤ h then 0 else if 64 ≤ h then 1 else if 16 ≤ h then 2 else 3

/-- The reclaim group of a write: its handle, or its extent's lifetime class (R186). -/
def Ns.groupOf (n : Ns) (e : Sqe) (lba : Nat) : Nat :=
  if e.dtype = 2 then e.dspec else n.nph + classOfHist (n.hist.getD (lba / 256) 0)

/-- Slots not yet filled of the group's superblocks that take units. -/
def State.openSlots (s : State) (nsix group : Nat) : Nat :=
  s.zon.sb.foldl (fun k b => if b.2.nsix == nsix && b.2.group == group && !b.2.stopped then k + (b.2.slots - b.2.next) else k) 0

/-- Superblocks that a namespace may still bind from its reservation (R182). -/
def State.supersLeft (s : State) (nsix : Nat) (n : Ns) : Nat := n.handles - (s.zon.sb.filter fun b => b.2.nsix == nsix).length

/-- Does a group find free slots for n more units (R196)? -/
def State.slotsFor (s : State) (nsix : Nat) (n : Ns) (group k : Nat) : Bool :=
  s.zon.reserved.getD (nsix * 32 + group) 0 + k ≤ s.openSlots nsix group ||
    (0 < s.supersLeft nsix n && (s.chooseZoneSet n.owner).isSome)

/-- Units of a superblock that the map names. -/
def State.validUnits (s : State) (h : Nat) : Nat := (s.zon.map.filter fun e => e.2 < 0xFFFFFFFE && e.2 / 2 ^ 18 == h).length

/-- Garbage collection could free a superblock of the namespace: one that is filled or stopped and not wholly valid. -/
def State.gcCould (s : State) (nsix : Nat) : Bool :=
  s.zon.sb.any fun b => b.2.nsix == nsix && (b.2.stopped || b.2.slots ≤ b.2.next) && s.validUnits b.1 < b.2.slots

/-- Handle a placement write: fix its group, reserve its slots, and send the lock request; with no space it fails and protects the
namespace, or waits while garbage collection can free a superblock (R186, R196). -/
def State.handlePlacementWrite (s : State) (c : Cmd) (n : Ns) : State :=
  let g := n.groupOf c.sqe c.lba
  if s.slotsFor c.nsix n g c.nlb then
    let s := s.withZon { s.zon with reserved := s.zon.reserved.upd (c.nsix * 32 + g) 0 (· + c.nlb) }
    let s := s.setCmd c.ref fun c => { c with group := g }
    match s.cmd? c.ref with
    | some c => s.requestLocks c
    | none => s
  else if s.gcCould c.nsix then s
  else (s.protectNs c.nsix).complete c .capacityExceeded

/-! ### Granting CSNs (R26, R27, R29, R410) -/

/-- Which of a command's granules holds its unit i, walking the granules in the order lent. -/
def granuleOf (gs : List (Nat × Nat)) (i : Nat) : Option (Nat × Nat) :=
  (gs.foldl (fun (a : Nat × Option (Nat × Nat)) g =>
    match a.2 with
    | some _ => a
    | none => if 4096 * i < a.1 + granule g.1 then (a.1, some g) else (a.1 + granule g.1, none)) (0, none)).2

/-- The DRAM address at which a byte of a command's data lies, walking its granules in the order lent (R202). -/
def State.dataAddr (s : State) : List (Nat × Nat) → Nat → Option Nat
  | [], _ => none
  | g :: gs, n => if n < granule g.1 then some (s.fld F.BPM_POOL_BASE_BASE g.1 + g.2 * granule g.1 + n) else s.dataAddr gs (n - granule g.1)

/-- The unit that a map entry names: in DRAM as it waits there, or on flash as a read gives it, checked against what the lookup expects and
reconstructed where it does not pass (R48, R412, R413). -/
def State.slotInfo (s : State) (nsix lba entry : Nat) : Option Info :=
  let setid := placementSet (entry / 2 ^ 18)
  let slot := entry % 2 ^ 18
  match nth (s.row setid (slot / 16)).pos (slot % 16) .empty with
  | .unit k i =>
    if (s.str.dram.get? k).isSome then some i
    else match s.set? setid with
      | none => none
      | some r => match s.obtain setid r (memberOfData (slot / 16) (slot % 16)) (slot / 16) with
        | some (x, _) => if x.nsix = nsix ∧ x.lba = lba then some x else none
        | none => none
  | _ => none

/-- The plaintext of a companion block (R410); none where its unit is unreadable. -/
def State.companionBlock (s : State) (k block : Nat) : Option Block :=
  match s.dramUnit k block with
  | some u => some (s.crypt false k block u.info.data)
  | none =>
    match s.zon.map.get? (lbaKey k block) with
    | none => some 0
    | some e => if e = 0xFFFFFFFF then some 0 else (s.slotInfo k block e).map fun i => s.crypt false k block i.data

/-- A block with 64 bytes of metadata at a place (R408). -/
def putMeta (b : Block) (i md : Nat) : Block :=
  (b &&& ~~~(BitVec.ofNat 32768 (2 ^ 512 - 1) <<< (512 * i))) ||| (BitVec.ofNat 32768 (md % 2 ^ 512) <<< (512 * i))

/-- The units of a write: (lba, CSN, ciphertext, metadata). -/
def unitsOf (lba csn : Nat) (got : List (Block × Nat)) : List (Nat × Nat × Block × Nat) :=
  got.zipIdx.map fun x => (lba + x.2, csn + x.2, x.1.1, x.1.2)

/-- Add a unit to DRAM, not yet accepted. -/
def State.addUnit (s : State) (key : Nat) (u : DramUnit) : State := s.withStr { s.str with dram := s.str.dram.ins key u }

/-- The companion units of a write to an LBAF 3 namespace: one for each companion block touched, with the highest data CSN given to a
block of it (R410). Nothing gives the old metadata of a unit that cannot be read: it is a free value (log entry 154). Answers the keys. -/
def State.addCompanions (s : State) (c : Cmd) (n : Ns) (k : Nat) (us : List (Nat × Nat × Block × Nat)) : State × List Nat :=
  let blocks := (us.map fun u => u.1 / 64).dedup
  blocks.foldl (fun (a : State × List Nat) b =>
    let mine := us.filter fun u => u.1 / 64 == b
    let csn := mine.foldl (fun m u => max m u.2.1) 0
    let old := (a.1.companionBlock k b).getD (BitVec.ofNat 32768 (Config.freeNat b))
    let plain := mine.foldl (fun p u => putMeta p (u.1 % 64) u.2.2.2) old
    let info := mkInfo (a.1.crypt true k b plain) csn csn b n.owner k 2 0 false false
    let grp := match a.1.nsAt k with
      | some x => x.nph + classOfHist (x.hist.getD (b / 256) 0)
      | none => 0
    let key := unitKey csn true
    let u : DramUnit :=
      { dcsn := csn, tenant := n.owner, nsix := k, lba := b, kind := 2, group := grp, info := info, staged := false, reloc := false,
        accepted := false, credit := false, superseded := false, through := s.hld.wt, place := none, source := none, ref := some c.ref, bufs := [], addr := none }
    let s := a.1.addUnit key u
    (s.withZon { s.zon with reserved := s.zon.reserved.upd (k * 32 + grp) 0 (· + 1) }, a.2 ++ [key])) (s, [])

/-- The data unit of one block of a write: (LBA, data CSN, block, host metadata), with the granules that it holds and those that the command
leaves over. -/
def State.hostUnit (s : State) (c : Cmd) (n : Ns) (rest : List (Nat × Nat)) (u : Nat × Nat × Block × Nat) : DramUnit :=
  { dcsn := u.2.1, tenant := n.owner, nsix := c.nsix, lba := u.1, kind := 0, group := c.group
    info := mkInfo u.2.2.1 u.2.1 u.2.1 u.1 n.owner c.nsix 0 (hmetaOf n.lbaf u.2.2.2) false false
    staged := false, reloc := false, accepted := false, credit := false, superseded := false, through := s.hld.wt, place := none
    source := none, ref := some c.ref, bufs := (granuleOf c.bufs.got (u.1 - c.lba)).toList ++ rest
    addr := s.dataAddr c.bufs.got ((if n.ext then 4096 + metaBytes n.lbaf else 4096) * (u.1 - c.lba)) }

/-- Steps 8 and 9 for a write whose blocks are all in DRAM: consecutive CSNs, its units, its implicit open's record, and the request for
credit, which write-through mode does not make (R26, R27, R251, R255). Its granules go with the units; those of metadata and of what an extended block
holds beyond 4 KiB go with all of them (R202, R209). -/
def State.grantCsns (s : State) (c : Cmd) (n : Ns) : State :=
  let csn := s.jnl.csn
  let us := unitsOf c.lba csn c.got
  let s := s.takeCsns c.nlb
  let mine := us.map fun u => granuleOf c.bufs.got (u.1 - c.lba)
  let rest := c.bufs.got.filter fun g => !mine.contains (some g)
  let s := us.foldl (fun s u => s.addUnit (unitKey u.2.1 false) (s.hostUnit c n rest u)) s
  let keys := us.map fun u => unitKey u.2.1 false
  let (s, more) := match n.lbaf, n.comp with
    | 3, some k => s.addCompanions c n k us
    | _, _ => (s, [])
  let s := if c.opened then
      match n.entryOf (c.lba / 262144) with
      | some e => s.zoneRecord n.owner csn e 1
      | none => s
    else s
  let bytes := unitCredit * (keys.length + more.length)
  let waits := s.creditWaits bytes
  let s := s.setCmd c.ref fun c => { c with
    csn := some csn, units := keys ++ more, got := [], hold := waits, phase := if s.hld.wt then .accepted else .credit
    bufs := { c.bufs with got := [] } }
  if s.hld.wt then s else s.askCredit (.write c.ref) bytes

/-! ### Commands that change a map (R190, R193, R499) -/

/-- Earlier accepted units of a block that have no slot are superseded (R499). -/
def State.supersede (s : State) (nsix lba : Nat) (below : Nat) : State :=
  s.withStr { s.str with dram := s.str.dram.mapV fun _ u =>
    if u.nsix = nsix ∧ u.lba = lba ∧ u.accepted = true ∧ u.place.isNone = true ∧ u.dcsn < below then { u with superseded := true } else u }

/-- Set the map entries of a range, as a map change that is durable does (R193, R498). -/
def State.setMap (s : State) (nsix lba nlb : Nat) (v : Option Nat) : State :=
  (List.range nlb).foldl (fun s i =>
    let s := s.supersede nsix (lba + i) (2 ^ 64)
    s.withZon { s.zon with map := match v with
      | some x => s.zon.map.ins (lbaKey nsix (lba + i)) x
      | none => s.zon.map.del (lbaKey nsix (lba + i)) }) s

/-- Append the map change records of a command, one for each range, and wait for them (R193, R270). kind: 1 deallocate, 2 Write Zeroes,
3 Write Uncorrectable. -/
def State.recordMap (s : State) (c : Cmd) (n : Ns) (kind csns : Nat) (ranges : List (Nat × Nat)) : State :=
  let csn := s.jnl.csn
  let waits := s.creditWaits (64 * ranges.length)
  let s := s.takeCsns csns
  let (s, recs) := ranges.foldl (fun (a : State × List Nat) r =>
    (a.1.journal n.owner csn (.mapChange c.nsix kind r.1 r.2 (if kind = 3 then 0xFFFFFFFE else 0xFFFFFFFF)), a.2 ++ [a.1.nextRec])) (s, [])
  s.setCmd c.ref fun c => { c with csn := some csn, recs := recs, taken := ranges, hold := c.hold || waits, phase := .record }

/-- The ranges that a map-changing command changes. -/
def Cmd.mapRanges (c : Cmd) : List (Nat × Nat) :=
  if c.sqe.opc = 0x09 then c.sqe.ranges.filter fun r => 0 < r.2 else [(c.lba, c.nlb)]

/-! ### Zone actions (R157, R161 to R163, R168, R171, R233, R423) -/

/-- The states that a Select All action takes up. -/
def selectStates (act : Nat) (z : ZState) : Bool :=
  match act, z with
  | 1, .closed => true
  | 2, .implicitOpen | 2, .explicitOpen => true
  | 3, .implicitOpen | 3, .explicitOpen | 3, .closed => true
  | 4, .implicitOpen | 4, .explicitOpen | 4, .closed | 4, .full => true
  | 5, .readOnly => true
  | _, _ => false

/-- The entries that an action addresses, in increasing zone order; a Select All skips zones bound to a capture ring (R233). -/
def State.actionZones (s : State) (c : Cmd) (n : Ns) (act : Nat) : List Nat :=
  if c.sqe.selectAll then
    (List.range n.zones).filterMap fun i =>
      match n.entryOf i with
      | none => none
      | some e => match s.zone? e with
        | some z => if z.ring.isNone && selectStates act z.zs then some e else none
        | none => none
  else (n.entryOf (c.sqe.slba / 262144)).toList

/-- Handle an action on one zone: the state, and the resources with it, change at once (R168); a Reset or Finish marks the zone action
pending (R163). -/
def State.handleAction (s : State) (c : Cmd) (n : Ns) (act e : Nat) : State × Status :=
  match s.zone? e with
  | none => (s, .invalidField)
  | some z =>
    if z.ring.isSome then (s, .zoneCaptureBound)
    else
      match actionResult act z with
      | .error st => (s, st)
      | .ok none => (s, .success)
      | .ok (some nz) =>
        let opened := if act = 1 then s.openZone n c.nsix e z true else (s, .success)
        match opened with
        | (s, .success) =>
          let was := (z.zs, z.wpoff)
          let s := s.setZone e fun z => { z with
            zs := nz
            wpoff := if act = 3 then z.zcap else z.wpoff
            action := if act = 3 ∨ act = 4 then some c.ref else z.action }
          (s.setCmd c.ref fun c => { c with acts := c.acts ++ [⟨e, act, 0, none, [], was.1, was.2⟩] }, .success)
        | (s, st) => (s, st)

/-- Append the zone records of an action: each takes a CSN, in increasing zone order; a Reset chooses the new member set here
(R27, R168, R171). -/
def State.recordActions (s : State) (c : Cmd) (n : Ns) : State :=
  let waits := s.creditWaits (128 * c.acts.length)
  let (s, acts) := c.acts.foldl (fun (a : State × List ZoneAct) x =>
    let csn := a.1.jnl.csn
    let s := a.1.takeCsns 1
    if x.act = 4 then
      let ms := s.chooseZoneSet n.owner
      let s := match ms with
        | some ms => s.bindBlocks x.entry ms
        | none => s
      let cap := match ms with
        | some ms => s.capOf ms
        | none => 229376
      let seq := s.nextRec
      (s.journal n.owner csn (.zone x.entry 4 ZState.empty.code 0 cap csn (ms.getD [])),
        a.2 ++ [{ x with csn := csn, jrec := some seq, members := ms.getD [] }])
    else
      let seq := s.nextRec
      (s.zoneRecord n.owner csn x.entry x.act, a.2 ++ [{ x with csn := csn, jrec := some seq }])) (s, [])
  s.setCmd c.ref fun c => { c with
    acts := acts, phase := .record, hold := c.hold || waits
    csn := acts.head?.map (·.csn) }

/-- Handle a zone action of any kind. Open and Close take no lock and go straight to their records (R100). -/
def State.zoneAction (s : State) (c : Cmd) (n : Ns) (act : Nat) : State :=
  let (s', st) := (s.actionZones c n act).foldl (fun (a : State × Status) e =>
    match a.2 with
    | .success => a.1.handleAction c n act e
    | _ => a) (s, .success)
  match st with
  | .success =>
    match s'.cmd? c.ref with
    | none => s'
    | some c' =>
      if c'.acts.isEmpty then s'.complete c' .success
      else if act = 1 ∨ act = 2 then s'.recordActions c' n
      else s'.requestLocks c'
  | st => s'.complete c st

/-- An action waits while its zone has another action pending, and behind those that wait for its zone (R162). -/
def State.actionBlocked (s : State) (c : Cmd) (n : Ns) (act : Nat) : Bool :=
  s.zoneQueued c || (s.actionZones c n act).any fun e => match s.zone? e with
    | some z => z.action.isSome
    | none => false

/-- The row of a zone action's own name: at its first run it is handled; once its locks are granted its records are appended. A write-protected
namespace fails it at either (R196, R197). -/
def State.runZoneAction (s : State) (r : CmdRef) (act : Nat) : Outcome :=
  match s.cmd? r with
  | none => .next s
  | some c =>
    match s.nsAt c.nsix with
    | none => .next s
    | some n =>
      if c.sqe.opc = 0x79 ∧ actOfZsa c.sqe.zsa = some act ∧ s.csnReady (262144 + 8) = true ∧ s.cqRoom r = true then
        match c.phase with
        | .ready | .zoneWait =>
          if s.actionBlocked c n act then .next (s.waitZone c)
          else if n.wp then .next (s.complete c .nsWriteProtected)
          else .next (s.zoneAction c n act)
        | .data => if n.wp then .next (s.failWrite c .nsWriteProtected) else .next (s.recordActions c n)
        | _ => .next s
      else .next s

/-- ZONE_OPEN (R157, R159, R160). -/
def execZoneOpen (r : CmdRef) (s : State) : Outcome := s.runZoneAction r 1

/-- ZONE_CLOSE (R157). -/
def execZoneClose (r : CmdRef) (s : State) : Outcome := s.runZoneAction r 2

/-- ZONE_FINISH (R157, R163, R423). -/
def execZoneFinish (r : CmdRef) (s : State) : Outcome := s.runZoneAction r 3

/-- ZONE_RESET (R157, R163, R171). -/
def execZoneReset (r : CmdRef) (s : State) : Outcome := s.runZoneAction r 4

/-- ZONE_OFFLINE (R157). -/
def execZoneOffline (r : CmdRef) (s : State) : Outcome := s.runZoneAction r 5

/-- A zone becomes Full by Finish: on every member, the empty positions beyond the last written LBA in the rows of the groups that hold the
last written row fill with pads (R423). -/
def State.finishRows (s : State) (e : Nat) : State :=
  match s.zone? e, s.set? e with
  | some z, some r =>
    if z.written = 0 then s
    else
      let row := (z.written - 1) / 16
      let last := s.rowEnd r row
      (List.range (last + 1 - row)).foldl (fun s i =>
        let q := row + i
        let s := s.setRow e q fun x => { x with early := true }
        (List.range 16).foldl (fun s d =>
          if z.written ≤ 16 * q + d && (nth (s.row e q).pos d .empty).isEmpty then s.fillPos e r q d .pad true else s) s) s
  | _, _ => s

/-- A Reset at its acknowledge point: BIND_CSN, the old blocks to the erase queue, the units of the old binding gone, and the new binding
(R171, R281). The credit of a unit that goes with its binding returns at once, for its stripe never closes (R43; DESIGN CHOICE, log entry 144). -/
def State.applyReset (s : State) (nsix : Nat) (n : Ns) (a : ZoneAct) : State :=
  let zn := (n.zoneOf a.entry).getD 0
  let inZone (l : Nat) : Bool := l / 262144 == zn
  let old := s.str.dram.filter fun u => u.2.nsix == nsix && inZone u.2.lba && u.2.dcsn ≤ a.csn
  let s := old.foldl (fun s u => s.retireUnit u.1) s
  let s := s.withStr { s.str with staging := s.str.staging.filter fun e => !(e.1 / 2 ^ 48 == nsix && inZone (e.1 % 2 ^ 48)) }
  let s := s.dropSet a.entry 1
  (s.bindEmpty nsix a.entry n.owner a.csn (if a.members.isEmpty then none else some a.members)).resnowTenant n.owner

/-- One zone's action reaches its acknowledge point. -/
def State.applyAction (s : State) (nsix : Nat) (n : Ns) (a : ZoneAct) : State :=
  let s := match a.act with
    | 3 => s.finishRows a.entry
    | 4 => s.applyReset nsix n a
    | 5 => (s.dropSet a.entry 1).resnowTenant n.owner
    | _ => s
  s.setZone a.entry fun z => { z with action := none, bound := z.bound && a.act != 5 }

/-- ZONE_ACTION_ACKNOWLEDGE: once its zone records are in the journal under credit, or on both copies in write-through mode, the action
is applied and completes (R168). -/
def execZoneActionAcknowledge (r : CmdRef) (s : State) : Outcome :=
  match s.cmd? r with
  | none => .next s
  | some c =>
    match s.nsAt c.nsix with
    | none => .next s
    | some n =>
      if c.sqe.opc = 0x79 ∧ c.phase = .record ∧ c.acts.all (fun a => s.durable (a.jrec.getD 0)) = true ∧ s.cqRoom r = true ∧
          s.hld.flush = .none then
        .next ((c.acts.foldl (fun s a => s.applyAction c.nsix n a) s).complete c .success)
      else .next s

/-! ### The rows of the writing commands -/

/-- A writing command's handling, with the write-protection that it meets, before it is handled or before its CSN (R196, R197). -/
def State.runWrite (s : State) (r : CmdRef) (opc : Nat) (f : Cmd → Ns → State) : Outcome :=
  match s.cmd? r with
  | none => .next s
  | some c =>
    match s.nsAt c.nsix with
    | none => .next s
    | some n =>
      if c.sqe.opc = opc ∧ r.qid ≠ 0 ∧ (c.phase = .ready ∨ c.phase = .zoneWait ∨ c.phase = .data) ∧ s.csnReady (c.nlb + 8) = true ∧
          s.cqRoom r = true ∧ s.hld.flush = .none then
        if n.wp then .next (s.failWrite c .nsWriteProtected) else .next (f c n)
      else .next s

/-- WRITE: space is reserved in the zone or the reclaim group, and in a zone the write is checked against the write pointer and advances
it (R164, R186, R196). -/
def execWrite (r : CmdRef) (s : State) : Outcome :=
  s.runWrite r 0x01 fun c n =>
    if c.phase = .data then s
    else if n.kind = .zoned then s.handleZoneWrite c n false else s.handlePlacementWrite c n

/-- ZONE_APPEND: the LBA at the write pointer is assigned (R165). -/
def execZoneAppend (r : CmdRef) (s : State) : Outcome :=
  s.runWrite r 0x7D fun c n => if c.phase = .data then s else s.handleZoneWrite c n true

/-- WRITE_ZEROES: in a zone, units of zeros like a Write; in a placement namespace, a map change (R167, R193). -/
def execWriteZeroes (r : CmdRef) (s : State) : Outcome :=
  s.runWrite r 0x08 fun c n =>
    if n.kind = .zoned then
      if c.phase = .data then
        let zeros := (List.range c.nlb).map fun i => (s.crypt true c.nsix (c.lba + i) 0, 0)
        s.grantCsns { c with got := zeros } n
      else s.handleZoneWrite c n false
    else if c.phase = .data then s.recordMap c n 2 c.nlb c.mapRanges
    else s.requestLocks c

/-- WRITE_UNCORRECTABLE on a placement namespace: a map change to 0xFFFF_FFFE (R193). -/
def execWriteUncorrectable (r : CmdRef) (s : State) : Outcome :=
  s.runWrite r 0x04 fun c n => if c.phase = .data then s.recordMap c n 3 c.nlb c.mapRanges else s.requestLocks c

/-- Some of the elements of a list, by the bits of a mask. -/
def masked {α : Type} (mask : Nat) (l : List α) : List α := (l.zipIdx.filter fun x => mask.testBit x.2).map (·.1)

/-- DATASET_MANAGEMENT: deallocate takes its lock entries (R100). On a placement namespace it is a hint, taken up for the ranges that the mask names and
left for the others (R190); on a zoned one it changes nothing (R167). Every other attribute is ignored (R90). -/
def execDatasetManagement (r : CmdRef) (taken : Nat) (s : State) : Outcome :=
  s.runWrite r 0x09 fun c n =>
    if c.phase = .data then
      let rs := masked taken c.mapRanges
      if n.kind = .zoned ∨ rs = [] then s.complete c .success else s.recordMap c n 1 1 rs
    else if c.sqe.dealloc = false ∨ c.mapRanges = [] then s.complete c .success
    else s.requestLocks c

end Sys2Proof.Machine
end

