-- ==== Sys2Proof/Machine/JournalPages.lean ====
section
/-!
DEFINITION. Journal pages and the two copies (R252, R261, R273 to R277 of spec/05_holdup_journal.md), with the commands JOURNAL_PAGE_TIMER and
JOURNAL_PAGE_PROGRAMMED.
-/

namespace Sys2Proof.Machine

/-- Pages of a journal block in single-level mode. -/
def jnlBlockPages : Nat := 1024

/-- Blocks of a copy's ring that hold kept pages, and the one in use. -/
def Journal.blocksUsed (j : Journal) : Nat := (((j.kept.map fun p => p.seq / jnlBlockPages) ++ [(j.pseq + 1) / jnlBlockPages]).dedup).length

/-! ### The DRAM images (R268, R615, R616) -/

/-- The journal region in DRAM: its base in steps of 64 KiB, and its pages. The configuration image lays it out (log entry 162). -/
def State.journalBase (s : State) : Nat := Config.imageTable (s.win.img.getD 0) 6 0 % 2 ^ 19 * 65536
def State.journalPages (s : State) : Nat := Config.imageTable (s.win.img.getD 0) 6 1 % 2 ^ 14 + 1

/-- The DRAM address of a slot of a page in an image, 0 or 1: the two lie 512 bytes apart, which is another channel in every configuration (R588,
R616). Slot 0 is the page's header. -/
def State.slotAddr (s : State) (image page slot : Nat) : Nat :=
  let b := (page % s.journalPages * 256 + slot) * 64
  s.journalBase + b / 512 * 1024 + b % 512 + 512 * (image % 2)

/-- Is a slot uncorrectable in both images? One that is readable in either serves (R615). -/
def State.slotGone (s : State) (page slot : Nat) : Bool := [0, 1].all fun i => s.drm.bad.contains (s.slotAddr i page slot)

/-- The first record of a page that neither image gives, with the slots up to it. -/
def State.goneRecord (s : State) (page : Nat) : Nat → List JRec → Option (JRec × Nat)
  | _, [] => none
  | at_, r :: rs =>
    if (List.range r.body.slots).any fun i => s.slotGone page (at_ + i) then some (r, at_ + r.body.slots - 1) else s.goneRecord page (at_ + r.body.slots) rs

/-- A page whose record neither image gives ends with it and is void; what follows goes into a page of its own (R615). -/
def State.cutPage (s : State) (p : JPage) (rest : List JPage) : State :=
  let mine := s.jnl.recs.filter fun r => r.page == some p.seq
  match s.goneRecord p.seq 1 mine with
  | none => s
  | some (r, used) =>
    let after := (mine.dropWhile fun x => x.seq != r.seq).drop 1
    match after with
    | [] => s.withJnl { s.jnl with pages := { p with void := true } :: rest }
    | x :: _ =>
      let moved (y : JRec) : JRec := match y.page with
        | some q => if p.seq < q ∨ (q = p.seq ∧ (after.any fun z => z.seq == y.seq) = true) then { y with page := some (q + 1) } else y
        | none => y
      s.withJnl { s.jnl with
        recs := s.jnl.recs.map moved
        pages := { p with used := used, void := true } :: { p with seq := p.seq + 1, first := x.seq, used := p.used - used } ::
          rest.map fun q => { q with seq := q.seq + 1 } }

/-- Bring the free blocks of each copy up to date (STR_JSTAT). -/
def State.countFree (s : State) : State :=
  let free := s.fld F.STR_JCFG_JBLK - s.jnl.blocksUsed
  s.withJnl { s.jnl with freeA := if s.jnl.okA then free else 0, freeB := if s.jnl.okB then free else 0 }

/-- Make every namespace write-protected (R261, R277). -/
def State.protectAll (s : State) : State := s.zon.ns.foldl (fun s e => s.protectNs e.1) s

/-- The pages of a copy: both are programmed while each copy has a package. -/
def State.copiesReady (s : State) : Bool := (s.jnl.okA && s.jnl.okB) || s.jnl.reest

/-- A record has reached both copies: its credit and its granule return, and a ceiling takes effect (R25, R202, R252). -/
def State.recordOnBoth (s : State) (r : JRec) : State :=
  let s := s.giveBackAll r.buf.toList
  let s := s.withBpm { s.bpm with waits := s.bpm.waits.filter fun w => w.who != .record r.seq }
  let s := if r.credit then s.returnCredit (64 * r.body.slots) else s
  let s := s.withHld { s.hld with queue := s.hld.queue.filter fun q => q.who != .record r.seq }
  if r.body = .ceiling then
    s.withJnl { s.jnl with ceiling := max s.jnl.ceiling r.csn, ceilPend := if s.jnl.ceilPend = some r.csn then none else s.jnl.ceilPend }
  else s

/-- The records of a page are on both copies. -/
def State.pageOnBoth (s : State) (seq : Nat) : State :=
  let mine := s.jnl.recs.filter fun r => r.page == some seq && !r.onBoth
  let s := mine.foldl (fun s r => s.recordOnBoth r) s
  s.withJnl { s.jnl with recs := s.jnl.recs.map fun r => if r.page = some seq then { r with onBoth := true, credit := false, buf := none } else r }

/-- JOURNAL_PAGE_TIMER: JPAGE × 10 µs after its first record, the open page is programmed (R273). -/
def execJournalPageTimer (s : State) : Outcome := .next (s.withJnl s.jnl.closePage)

/-- JOURNAL_PAGE_PROGRAMMED: the oldest page waiting is on both copies, and its records' credit returns (R252). A copy being re-established has
by then taken every record from the newest checkpoint records on (R277). While checkpoints cannot be chosen, a copy at its last free block protects
every namespace (R261). -/
def execJournalPageProgrammed (seq : Nat) (s : State) : Outcome :=
  match s.jnl.pages with
  | [] => .next s
  | p :: rest =>
    if p.seq = seq ∧ s.copiesReady = true then
      let s := (s.cutPage p rest).pageOnBoth seq
      let s := s.withJnl { s.jnl with pages := s.jnl.pages.drop 1, kept := s.jnl.kept ++ s.jnl.pages.take 1, pseq := seq }
      let s := if s.jnl.reest then s.withJnl { s.jnl with reest := false, okA := true, okB := true } else s
      let s := s.countFree
      .next (if s.fewPkgs && ((s.jnl.okA && s.jnl.freeA ≤ 1) || (s.jnl.okB && s.jnl.freeB ≤ 1)) then s.protectAll else s)
    else .next s

/-- Drop the pages and the records that precede the newest checkpoint record of each kind, once its checkpoint is complete (R276). -/
def State.trimJournal (s : State) : State :=
  let keep := min s.med.ck1.doneRec s.med.ck2.doneRec
  let kept := s.jnl.kept.filter fun p => (s.jnl.recs.any fun r => r.page == some p.seq && decide (keep ≤ r.seq))
  (s.withJnl { s.jnl with
    kept := kept
    recs := s.jnl.recs.filter fun r => !r.onBoth || (match r.page with
      | some p => kept.any fun k => k.seq == p
      | none => true) }).countFree

end Sys2Proof.Machine
end

