-- ==== Sys2Proof/Machine/Health.lean ====
section
/-!
DEFINITION. Blocks, dies and packages that fail (R277, R432, R435, R522, R523; FLCAP: R489): retiring a block, the failure of a die and of a
package, the members they lose, and the journal copy that a failed package held.
-/

namespace Sys2Proof.Machine

/-! ### FLCAP (R489) -/

/-- Dies that links report present and that have not failed. -/
def State.diesInService (s : State) : List Nat :=
  (List.range 32).flatMap fun n => (List.range 64).filterMap fun d =>
    if (s.link n).dies.testBit d && !s.dieFailed (64 * n + d) then some (64 * n + d) else none

/-- Compute FLCAP again; B follows it (R249, R489). -/
def State.recap (s : State) : State :=
  (s.withMed { s.med with flcap := Config.flushCapacity s.diesInService s.sysblk (s.fld F.STR_JCFG_JBLK) }).rebudget

/-! ### A journal copy's package (R277) -/

/-- The package that takes over a journal copy: the lowest ACTIVE link, else the lowest DEGRADED one, that does not hold the other copy. -/
def State.newCopyPkg (s : State) (other : Nat) : Option Nat :=
  match ((s.linksIn .active) ++ (s.linksIn .degraded)).filter fun p => p != other && !s.med.pkgFailed.contains p with
  | p :: _ => some p
  | [] => none

/-- Save the configuration image for a new journal package. Nothing fixes whether the save succeeds; if it fails it is owed (R277). -/
def State.saveCopyPkg (s : State) : State :=
  if Config.freeNat s.free % 2 = 1 then
    let s := s.drew.saveImage
    s.withJnl { s.jnl with saveOwed := false }
  else
    let s := s.drew
    s.withJnl { s.jnl with saveOwed := true }

/-- A journal copy (0 A, 1 B) is to be written on a package. -/
def State.reestablish (s : State) (copy old new : Nat) : State :=
  let s := s.withJnl { s.jnl with reest := true, okA := s.jnl.okA && copy != 0, okB := s.jnl.okB && copy != 1 }
  s.countFree.raise 0x033 0 1 [(1, copy), (1, old), (1, new)]

/-- The package of a journal copy has failed (R277). -/
def State.copyLost (s : State) (copy : Nat) : State :=
  let a := s.fld F.STR_JCFG_JPKGA
  let b := s.fld F.STR_JCFG_JPKGB
  let old := if copy = 0 then a else b
  match s.newCopyPkg (if copy = 0 then b else a) with
  | some p =>
    let s := s.putFld (if copy = 0 then F.STR_JCFG_JPKGA else F.STR_JCFG_JPKGB) 0 0 p
    (s.reestablish copy old p).saveCopyPkg
  | none =>
    let s := s.withJnl { s.jnl with okA := s.jnl.okA && copy != 0, okB := s.jnl.okB && copy != 1 }
    (s.countFree.protectAll).raise 0x033 0 1 [(1, copy), (1, old), (1, 0xFF)]

/-! ### Members lost (R432, R435) -/

/-- A member is lost: its pending groups are dropped, and the rows that only it held up close without it. -/
def State.loseMember (s : State) (setid m : Nat) : State :=
  match s.set? setid with
  | none => s
  | some r =>
    if r.memberLost m then s
    else
      let r := { r with mlost := r.mlost ||| 2 ^ m }
      let s := s.withStr { s.str with
        sets := s.str.sets.ins setid r
        groups := s.str.groups.filter fun e => !(e.1 / 1024 == setid * 32 + m && e.2.st != .done) }
      let open_ := (s.str.rows.filter fun e => stripeSet e.1 == setid && e.2.parity && !e.2.closed).map fun e => stripeRow e.1
      open_.foldl (fun s row => s.closeRow setid r row) s

/-- Every member that a test of its die and block selects is lost. -/
def State.loseMembers (s : State) (p : Nat → Nat → Bool) : State :=
  s.str.sets.foldl (fun s e =>
    (e.2.members.zipIdx.filter fun m => p m.1.1 m.1.2).foldl (fun s m => s.loseMember e.1 m.2) s) s

/-- Blocks of a failed die: those bound stay with their set until it is rebuilt, and carry RCAUSE 4 (R522). -/
def State.markDieBlocks (s : State) (die : Nat) : State :=
  (s.listed die).foldl (fun s e =>
    if e.2.st == .bound then s.setBlk die e.1 fun b => { b with rcause := if b.rcause = 0 then 4 else b.rcause } else s) s

/-- FREE, spare and the budget after blocks have left service. -/
def State.afterLoss (s : State) (die : Nat) : State :=
  match s.dsOf die with
  | some ds => (s.resnow ds).ewSpare ds
  | none => s

/-! ### Packages and dies (R523) -/

/-- Declare a package failed, with a cause of R748. -/
def State.packageFail (s : State) (pkg cause : Nat) : State :=
  if s.med.pkgFailed.contains pkg then s
  else
    let s := s.settleBuckets.withMed { s.med with pkgFailed := s.med.pkgFailed ++ [pkg] }
    let dies := (List.range 64).map fun d => 64 * pkg + d
    let present := dies.filter fun d => (s.link pkg).dies.testBit (d % 64)
    let s := present.foldl (fun s d => s.setSdie d fun x => { x with failed := true, op := none, q0 := [], q1 := [], q2 := [], mw := [] }) s
    let s := (s.raise 0x039 1 2 [(1, pkg), (1, cause)]).ewRaise 0x0A none pkg 0
    let s := present.foldl (fun s d => s.markDieBlocks d) s
    let s := s.loseMembers fun d _ => pkgOf d == pkg
    let s := if s.fld F.STR_JCFG_JPKGA = pkg then s.copyLost 0 else if s.fld F.STR_JCFG_JPKGB = pkg then s.copyLost 1 else s
    let ds := (present.filterMap fun d => s.dsOf d).dedup
    (ds.foldl (fun s d => (s.resnow d).ewSpare d) s).recap

/-- Declare a die failed, with a cause of R748. When every die that its link reported has failed, so has the package. -/
def State.dieFail (s : State) (die cause : Nat) : State :=
  if s.dieFailed die then s
  else
    let s := s.settleBuckets.setSdie die fun x => { x with failed := true, op := none, q0 := [], q1 := [], q2 := [], mw := [] }
    let s := (s.raise 0x039 0 2 [(2, die), (1, cause)]).ewRaise 0x0A none die 0
    let s := s.markDieBlocks die
    let s := s.loseMembers fun d _ => d == die
    let s := (s.afterLoss die).recap
    let pkg := pkgOf die
    if (List.range 64).all fun d => !(s.link pkg).dies.testBit d || (s.sdie (64 * pkg + d)).failed then s.packageFail pkg 2 else s

/-! ### Retiring a block (R522) -/

/-- Retired blocks of a die, those on their way to it among them. -/
def State.retiredOn (s : State) (die : Nat) : Nat :=
  ((s.listed die).filter fun e => e.2.st == .retired || (1 ≤ e.2.rcause && e.2.rcause ≤ 3)).length

/-- Record that a block is to be retired: RCAUSE, the block-retired event, and the die's share of retired blocks (R522, R523). The first cause
stands. -/
def State.retireBlock (s : State) (die block cause : Nat) : State :=
  let b := s.blk die block
  if b.rcause ≠ 0 then s
  else
    let s := s.putBlk die block { b with rcause := cause }
    let s := (s.raise 0x038 0 1 [(2, die), (2, block), (1, cause), (2, b.pec)])
    let s := match s.dsOf die with
      | some ds => s.countSet ds 9 1
      | none => s.countDevice 9 1
    let s := s.afterLoss die
    if (8192 - s.sysblk) * s.fld F.ZON_GC_DIEFAIL < 100 * s.retiredOn die then s.dieFail die 4 else s

end Sys2Proof.Machine
end

