-- ==== Sys2Proof/Machine/Writes.lean ====
section
/-!
DEFINITION. Steps 5 to 11 of the write path (R36 to R42, R109 to R115, R187, R250 to R255, R485, R486): arrival of data, credit,
the acknowledge point, FUA and Flush, and the commands HOST_DATA_BLOCK, HOLDUP_CREDIT_GRANT, WRITE_COMPLETION, FUA_COMPLETION, FLUSH,
FLUSH_COMPLETION, EPOCH_END and LATENCY_MONITOR_CONFIG.
-/

namespace Sys2Proof.Machine

/-! ### The latency monitor (R485, R486) -/

/-- Count an operation of one kind with a latency, or excess, in ns. -/
def State.monitor (s : State) (kind ns : Nat) : State :=
  if s.flag F.SCH_LMON_CFG_EN && s.fld F.SCH_LMON_CFG_KIND == kind then
    s.withSch { s.sch with
      total := s.sch.total + 1
      overN := if s.fld F.SCH_LMON_CFG_THR * 100 < ns then s.sch.overN + 1 else s.sch.overN
      max := Nat.max s.sch.max (sat 32 (ns / 100)) }
  else s

/-- A write of SCH_LMON_CFG clears TOTAL, OVER and MAX. -/
def State.writeLmon (s : State) (v : Nat) : State :=
  (s.withSch { s.sch with total := 0, overN := 0, max := 0 }).putReg ⟨.SCH_LMON_CFG, 0, 0⟩ v

/-- LATENCY_MONITOR_CONFIG. -/
def execLatencyMonitorConfig (_a : Agent) (v : Nat) (s : State) : Outcome := .next (s.writeLmon v)

/-! ### Data (R93, R412, R541) -/

def piStatus : PiCheck → Status
  | .ok => .success
  | .guard => .guardError
  | .app => .appTagError
  | .ref => .refTagError

/-- HOST_DATA_BLOCK: a block's protection information is verified, the block is encrypted, and its ciphertext reaches DRAM; after the last
one, steps 8 and 9 follow (R26, R36, R250, R251), which a namespace that has become write-protected fails (R196, R197). A failed check fails the write (R755). The host's data of a Compare is kept as it is. -/
def execHostDataBlock (r : CmdRef) (data : Block) (mdata : Nat) (pi : PiCheck) (s : State) : Outcome :=
  match s.cmd? r with
  | none => .next s
  | some c =>
    match s.nsAt c.nsix with
    | none => .next s
    | some n =>
      let write := c.sqe.opc == 0x01 || c.sqe.opc == 0x7D
      if c.phase = .data ∧ (write || c.sqe.opc == 0x05) = true ∧ c.blocks < c.nlb ∧ s.csnReady (c.nlb + 8) = true ∧ s.hld.flush = .none ∧
          s.cqRoom r = true then
        match pi with
        | .ok =>
          if write && c.blocks + 1 == c.nlb && n.wp then .next (s.failWrite c .nsWriteProtected) else
          let b := if write then s.crypt true c.nsix (c.lba + c.blocks) data else data
          let c' := { c with blocks := c.blocks + 1, got := c.got ++ [(b, mdata)] }
          let s := s.setCmd r fun _ => c'
          .next (if write && c'.blocks == c.nlb then s.grantCsns c' n else s)
        | bad => .next (s.failWrite c (piStatus bad))
      else .next s

/-! ### The acknowledge point (R36 to R42, R187, R209, R499) -/

/-- The records that cover a write are durable: the tenant's records up to the close record of the last stripe that holds a unit of it or a staged
copy of one. The open and parity records, the bind of the set, and the record of the zone's opening stand before that one (R42, R111). -/
def State.coverDurable (s : State) (tenant : Nat) (closes : List Nat) : Bool :=
  (s.jnl.recs.reverse.dropWhile fun r => !closes.contains r.seq).all fun r => r.durable || r.tenant != tenant

/-- The extents, with their namespaces, in which a write replaces a mapped unit: those noted when a unit was placed, and those of the units that have
no place yet (R187). -/
def State.replacedBy (s : State) (c : Cmd) : List Nat :=
  (c.replaced ++ c.units.filterMap fun k => match s.str.dram.get? k with
    | some u => if u.place.isNone && s.mapped u.nsix u.lba then some (extentKey u.nsix u.lba) else none
    | none => none).dedup

/-- The lifetime history of an accepted write: 16 more for each extent in which it replaces a mapped unit, its companion's among them (R187). -/
def State.countHistory (s : State) (c : Cmd) : State :=
  let s := (s.replacedBy c).foldl (fun s e => s.setNs (e / 2 ^ 48) fun n =>
    { n with hist := n.hist.upd (e % 2 ^ 48) 0 fun x => min 4095 (x + 16) }) s
  s.setNs c.nsix fun n => { n with epochBytes := n.epochBytes + 4096 * c.nlb }

/-- LAST_CSN of a zone: the highest data CSN accepted into it (R178). -/
def State.raiseLastCsn (s : State) (n : Ns) (u : DramUnit) : State :=
  match n.entryOf (u.lba / 262144) with
  | some e => s.setZone e fun z => { z with lastCsn := max z.lastCsn u.dcsn }
  | none => s

/-- Accept one unit: it raises its zone's LAST_CSN or supersedes earlier units of its block that have no slot, and its granule passes to committed
data (R178, R209, R499). -/
def State.acceptUnit (s : State) (key : Nat) : State :=
  match s.str.dram.get? key with
  | none => s
  | some u =>
    let s := match s.nsAt u.nsix with
      | some n => if n.kind = NsKind.zoned then s.raiseLastCsn n u else s.supersede u.nsix u.lba u.dcsn
      | none => s
    let s := s.withStr { s.str with dram := s.str.dram.adj key fun u => { u with accepted := true } }
    s.reown u.bufs ownerCommitted

/-- The zone's LAST_CSN after a write of which units may be on flash already. -/
def State.raiseLast (s : State) (n : Ns) (c : Cmd) : State :=
  match n.entryOf (c.lba / 262144) with
  | some e => s.setZone e fun z => { z with lastCsn := max z.lastCsn (c.csn.getD 0 + c.nlb - 1) }
  | none => s

/-- Accept a write: its units counted (R527), history, the zone's LAST_CSN, and its units. -/
def State.acceptWrite (s : State) (c : Cmd) : State :=
  let s := match s.nsAt c.nsix with
    | some n => if n.kind = NsKind.zoned then s.raiseLast n c else s.countHistory c
    | none => s
  let s := c.units.foldl (fun s k => s.acceptUnit k) s
  s.countHealth c.nsix 8 c.nlb

/-! ### Credit (R250, R251, R254) -/

/-- Mark a record as holding credit; a CSN ceiling record raises the ceiling (R25, R272). -/
def State.creditRecord (s : State) (seq : Nat) : State :=
  let ceil := s.jnl.recs.any fun r => r.seq == seq && r.body == .ceiling
  s.withJnl { s.jnl with
    recs := s.jnl.recs.map fun r => if r.seq = seq then { r with credit := true } else r
    ceiling := if ceil then s.jnl.ceilPend.getD s.jnl.ceiling else s.jnl.ceiling
    ceilPend := if ceil then none else s.jnl.ceilPend }

/-- Mark the units of a write as holding credit. A write whose command a reset has removed is applied (R41). -/
def State.creditWrite (s : State) (r : CmdRef) (credit : Bool) : State :=
  let gone := (s.cmd? r).isNone
  let mine := s.str.dram.filter fun e => e.2.ref == some r && !e.2.accepted && !e.2.staged
  let s := s.withStr { s.str with dram := s.str.dram.mapV fun _ u =>
    if (u.ref == some r && !u.accepted && !u.staged) = true then { u with credit := credit || u.credit, through := !credit && !u.credit } else u }
  let s := if gone then mine.foldl (fun s e => (s.acceptUnit e.1).countHealth e.2.nsix 8 (b2n (e.2.kind == 0))) s else s
  s.setCmd r fun c => if c.phase = .credit then { c with phase := .accepted } else c

/-- The oldest unit of a ring's zone stream that asks for credit gets it, or in write-through mode goes on without (R226, R227). -/
def State.creditCapture (s : State) (ring : Nat) (credit : Bool) : State :=
  match (s.cap.rings.getD ring CapRing.reset).inflight.find? fun u => match s.str.dram.get? (unitKey u.2 false) with
      | some d => !d.credit && !d.through
      | none => false with
  | none => s
  | some u => s.withStr { s.str with dram := s.str.dram.adj (unitKey u.2 false) fun d => { d with credit := credit, through := !credit } }

/-- Does a request come from the write path, not from the journal? -/
def CreditWho.isWrite : CreditWho → Bool
  | .record _ => false
  | _ => true

/-- HOLDUP_CREDIT_GRANT: the request at the head of the queue is reserved once it fits under B (R251); in write-through mode it goes on
without credit (R255). A write waits while the checkpoint copy buffer is full (R502), and every request while the hold-up controller has granted an entry (R641). -/
def execHoldupCreditGrant (s : State) : Outcome :=
  match s.hld.queue with
  | [] => .next s
  | q :: rest =>
    if s.hld.flush ≠ .none ∨ s.granted 137 = true then .next s
    else if s.ckFull && q.who.isWrite then .next s.drew
    else if s.hld.wt then
      let s := s.withHld { s.hld with queue := rest }
      .next (match q.who with
        | .write r => s.creditWrite r false
        | .capture ring => s.creditCapture ring false
        | .record _ => s)
    else if s.hld.resv + q.bytes ≤ s.creditLimit then
      let s := s.withHld { s.hld with queue := rest, resv := s.hld.resv + q.bytes }
      .next (match q.who with
        | .write r => s.creditWrite r true
        | .capture ring => s.creditCapture ring true
        | .record seq => s.creditRecord seq).pressCredit
    else .next s

/-- The tenant of a command's namespace. -/
def State.nsOwner (s : State) (nsix : Nat) : Nat :=
  match s.nsAt nsix with
  | some n => n.owner
  | none => 0

/-- Every unit of a write holds credit, or lies in a closed stripe with its records durable (R37, R42). -/
def State.writeCovered (s : State) (c : Cmd) : Bool :=
  let flash := c.units.filter fun k => match s.str.dram.get? k with
    | some u => !u.credit
    | none => true
  flash.all (fun k => (s.str.dram.get? k).isNone) &&
    (flash.isEmpty || s.coverDurable (s.nsOwner c.nsix) c.recs)

/-- Apply a map change of a command at its acknowledge point (R193, R498). -/
def State.applyMapChange (s : State) (c : Cmd) : State :=
  c.taken.foldl (fun s r => s.setMap c.nsix r.1 r.2 (if c.sqe.opc = 0x04 then some 0xFFFFFFFE else none)) s

/-- Is this a command that units carry? -/
def Cmd.carriesUnits (c : Cmd) : Bool := c.sqe.opc == 0x01 || c.sqe.opc == 0x7D || c.sqe.opc == 0x08

/-- Complete an accepted write; an append's entry names its LBA (R165). -/
def State.finishWrite (s : State) (c : Cmd) : State :=
  let s := (s.acceptWrite c).monitor 1 (s.ao.time - c.bellTime)
  if c.sqe.opc = 0x7D then s.complete c .success (c.lba % 2 ^ 32) (c.lba / 2 ^ 32) else s.complete c .success

/-- WRITE_COMPLETION: the acknowledge point (R36, R37, R42, R193). -/
def execWriteCompletion (r : CmdRef) (s : State) : Outcome :=
  match s.cmd? r with
  | none => .next s
  | some c =>
    if s.cqRoom r = true ∧ s.hld.flush = .none ∧ c.ref.qid ≠ 0 then
      match c.phase with
      | .accepted => if c.carriesUnits && !c.sqe.fua && s.writeCovered c then .next (s.finishWrite c) else .next s
      | .record =>
        if (c.sqe.opc == 0x08 || c.sqe.opc == 0x04 || c.sqe.opc == 0x09) && c.recs.all s.durable then
          .next ((s.applyMapChange c).complete c .success)
        else .next s
      | _ => .next s
    else .next s

/-- FUA_COMPLETION: every unit lies in a programmed stripe that is closed in the journal (R111). -/
def execFuaCompletion (r : CmdRef) (s : State) : Outcome :=
  match s.cmd? r with
  | none => .next s
  | some c =>
    if s.cqRoom r = true ∧ s.hld.flush = .none ∧ c.phase = .accepted ∧ c.carriesUnits = true ∧ c.sqe.fua = true ∧
        c.units.all (fun k => (s.str.dram.get? k).isNone) = true ∧
        s.coverDurable (s.nsOwner c.nsix) c.recs = true then .next (s.finishWrite c)
    else .next s

/-! ### Flush (R112 to R115) -/

/-- The close records, not yet durable, of the tenants whose namespaces a Flush names. -/
def State.openCloses (s : State) (fn nsid : Nat) : List Nat :=
  s.jnl.recs.filterMap fun r => match r.body with
    | .stripeClose .. => if !r.durable && s.zon.ns.any (fun e => e.2.owner == r.tenant && s.flushNames fn nsid e.1) then some r.seq else none
    | _ => none

/-- FLUSH: it waits for the stripes of every unit it covers, and they close early; those that have closed already it awaits in the journal (R112,
R115). C was recorded at fetch. -/
def execFlush (r : CmdRef) (s : State) : Outcome :=
  s.runReady r false 0x00 fun c =>
    (s.setCmd r fun c => { c with phase := .flushing, recs := s.openCloses r.fn c.sqe.nsid }).closeFor r.fn c.sqe.nsid (c.csn.getD 0)

/-- Every stripe that a Flush covers is programmed and closed in the journal (R112). -/
def State.flushDone (s : State) (fn nsid csn : Nat) (closes : List Nat) : Bool :=
  (s.coveredUnits fn nsid csn).isEmpty && closes.all s.durable

/-- FLUSH_COMPLETION. -/
def execFlushCompletion (r : CmdRef) (s : State) : Outcome :=
  match s.cmd? r with
  | none => .next s
  | some c =>
    if c.phase = .flushing ∧ s.cqRoom r = true ∧ s.hld.flush = .none ∧ s.flushDone r.fn c.sqe.nsid (c.csn.getD 0) c.recs = true then
      .next (s.complete c .success)
    else .next s

/-! ### The end of an epoch (R187) -/

/-- EPOCH_END: every history value loses a quarter. Not enabled before EPOCH_GIB GiB of host writes. -/
def execEpochEnd (nsix : Nat) (s : State) : Outcome :=
  match s.nsAt nsix with
  | none => .next s
  | some n =>
    let len := s.fld F.ZON_PL_EPOCH_EPOCH_GIB * 2 ^ 30
    if n.kind = .placement ∧ len ≤ n.epochBytes ∧ 0 < len then
      .next (s.setNs nsix fun n => { n with epochBytes := n.epochBytes - len, hist := n.hist.mapV fun _ h => h - h / 4 })
    else .next s

end Sys2Proof.Machine
end

