-- ==== Sys2Proof/Machine/Replace.lean ====
section
/-!
DEFINITION. Reading rows from flash, reconstruction, member replacement, rebuild and lost rows (R403, R412, R420, R426 to R442 of
spec/08_stripes.md), with the commands MEMBER_REPLACEMENT, REBUILD_ROW, STAGED_READBACK, LOST_LBA_SEARCH_END, INHIBIT_WAIT_TIMEOUT and
STRIPE_COUNTER_CLEAR.
-/

namespace Sys2Proof.Machine

/-! ### Lost rows (R431, R439 to R441) -/

def kindOfSet (setid : Nat) : Nat := if setid < 0x100000 then 0 else if setid < 0x180000 then 1 else if setid < 0x1F0000 then 2 else 3

/-- The single occurrence of an operator condition (R529). -/
def State.ewOnce (s : State) (code : Nat) (ds : Option Nat) (value threshold : Nat) : State := s.ewChange code ds true value threshold

/-- Put an entry in the Lost Stripe List (R441). -/
def Stripes.addLost (x : Stripes) (e : LostRec) : Stripes :=
  let n := { x with lostTotal := x.lostTotal + 1, lostByTenant := x.lostByTenant.upd e.tenant 0 (· + 1) }
  match x.lost with
  | old :: rest =>
    if 1023 ≤ x.lost.length then { n with lost := rest ++ [e], lostOverflow := true, lostOvTenants := (old.tenant :: x.lostOvTenants).dedup }
    else { n with lost := x.lost ++ [e] }
  | [] => { n with lost := [e] }

/-- The LBA of data position 0 of a zone row. -/
def State.rowLba (s : State) (setid row : Nat) : Option Nat :=
  if setid < 0x100000 then
    (s.zon.zdt.get? setid).bind fun z => (s.nsAt z.nsix).bind fun n => (n.zoneOf setid).map fun k => k * 262144 + 16 * row
  else none

/-- A deferred error for one lost unit (R126, R439). Nothing gives the data CSN of a unit that cannot be read, so it is a free value. -/
def State.deferLost (s : State) (nsix lba tag index : Nat) : State :=
  (s.drew.deferError nsix
    { tag := tag, nsid := 0, reason := 1, sqid := 0xFFFF, cid := 0xFFFF, ring := 0xFFFF, blocks := 1, lba := lba, csn := Config.freeNat s.free
      time := s.ao.time, lost := index } none)

/-- Declare a row lost: its lost positions, the list entry, the event, and the deferred errors whose LBA is known at once (R439). -/
def State.rowLost (s : State) (setid row cause members : Nat) : State :=
  match s.set? setid with
  | none => s
  | some r =>
    let x := s.row setid row
    if x.lost then s
    else
      let gone := (List.range 16).filter fun d => members.testBit (memberOfData row d)
      let live := gone.filter fun d => match nth x.pos d .empty with
        | .unit k _ => (s.str.dram.get? k).isNone
        | _ => false
      let infos := live.filterMap fun d => match nth x.pos d .empty with
        | .unit _ i => some (d, i)
        | _ => none
      let index := s.str.lostTotal % 2 ^ 32
      let id := stripeId setid row
      let kind := kindOfSet setid
      let tag := s.nextTag
      let e : LostRec :=
        { index := index, tenant := r.tenant, cause := cause, kind := kind, stripe := id, members := members
          positions := gone.foldl (fun n d => n + 2 ^ d) 0
          nsid := if kind = 2 then 0xFFFFFFFF else match s.nsAt r.nsix with
            | some n => if n.kind = NsKind.companion then 0xFFFFFFFF else n.nsid
            | none => 0xFFFFFFFF
          lba := s.rowLba setid row, lo := x.lo, tag := tag, time := s.ao.time, search := if kind = 1 then live else [] }
      let s := s.raise 0x032 0 3 [(4, index), (8, id), (4, members)]
      let s := (s.withStr (s.str.addLost e)).setRow setid row fun y => { y with lost := true, pos := gone.foldl (fun p d => p.set d .lost) y.pos }
      let s := (s.countHealth r.nsix 5 1).ewOnce 0x08 (s.tenantDs r.tenant) index 0
      if kind = 0 then
        match s.rowLba setid row with
        | some lba => live.foldl (fun s d => s.deferLost r.nsix (lba + d) tag index) s
        | none => s
      else if kind = 2 then
        infos.foldl (fun s x =>
          if s.str.staging.get? (lbaKey x.2.nsix x.2.lba) = some (id * 16 + x.1) then s.deferLost x.2.nsix x.2.lba tag index else s) s
      else s

/-- The members of a row that cannot be read. -/
def State.unreadableMask (s : State) (setid : Nat) (r : SetRec) (row : Nat) : Nat :=
  (List.range 18).foldl (fun n m => if (s.readMember setid r m row).isNone then n + 2 ^ m else n) 0

/-- LOST_LBA_SEARCH_END: the search of a namespace's map for a lost placement position ends, and where an entry names it the deferred error
is recorded (R439). -/
def execLostLbaSearchEnd (record pos : Nat) (s : State) : Outcome :=
  match s.str.lost.find? fun e => e.index == record && e.search.contains pos with
  | none => .next s
  | some e =>
    let s := s.withStr { s.str with lost := s.str.lost.map fun x =>
      if x.index = record then { x with search := x.search.filter fun p => p != pos } else x }
    let entry := (stripeSet e.stripe - 0x100000) * 2 ^ 18 + 16 * stripeRow e.stripe + pos
    match s.zon.map.find? fun x => x.2 == entry with
    | some x => .next (s.deferLost (x.1 / 2 ^ 48) (x.1 % 2 ^ 48) e.tag e.index)
    | none => .next s

/-! ### A set whose member cannot be replaced (R157, R158, R428) -/

/-- A zone leaves its capture ring: a ring whose stream is in it goes on in the next queued zone at the next unit boundary (R241). -/
def State.leaveRing (s : State) (e : Nat) (ring : Option Nat) : State :=
  match ring with
  | none => s
  | some n =>
    let s := s.setCapRing n fun r => match r.strm with
      | some z => if z.entry = e then { r with cut := true } else { r with zq := r.zq.filter fun q => q.entry != e }
      | none => { r with zq := r.zq.filter fun q => q.entry != e }
    s.settleZone n

/-- A zone becomes Read Only; its resources go with its state, and the move takes a CSN and a zone record (R27, R157, R270). -/
def State.zoneToReadOnly (s : State) (e : Nat) : State :=
  match s.zone? e with
  | none => s
  | some z =>
    match s.nsAt z.nsix with
    | none => s
    | some n =>
      let csn := s.jnl.csn
      let s := ((s.takeCsns 1).setZone e fun z => { z with zs := .readOnly, ring := none }).leaveRing e z.ring
      let s := s.zoneRecord n.owner csn e 6
      (s.zoneEvent e).zoneChanged z.nsix ((n.zoneOf e).getD 0 * 262144)

/-- Note once that a member of a set has no replacement, with its event and its warning (R428). -/
def State.blockMember (s : State) (setid m tenant : Nat) : State :=
  if s.str.blocked.contains (setid * 32 + m) then s
  else
    let s := s.withStr { s.str with blocked := s.str.blocked ++ [setid * 32 + m] }
    (s.raise 0x031 2 2 [(4, setid), (1, m)]).ewRaise 0x07 (s.tenantDs tenant) setid 0

/-- A zone that lost a member becomes read only while it is active. -/
def State.stopZone (s : State) (setid : Nat) : State :=
  match s.zone? setid with
  | some z => if z.zs.isActive then s.zoneToReadOnly setid else s
  | none => s

/-- A superblock that lost a member closes its open stripes, takes no further unit and becomes a victim. -/
def State.stopSuper (s : State) (setid : Nat) : State :=
  let open_ := (s.str.rows.filter fun e => stripeSet e.1 == setid && !e.2.parity).map fun e => stripeRow e.1
  let s := open_.foldl (fun s row => if (s.row setid row).parity then s else s.earlyClose setid row) s
  let s := if setid < 0x180000 then
      s.withZon { s.zon with sb := s.zon.sb.adj (setid - 0x100000) fun b => { b with stopped := true } }
    else s.withZon { s.zon with stg := s.zon.stg.adj (setid - 0x180000) fun b => { b with stopped := true } }
  s.withMed { s.med with victims := if s.med.victims.contains setid then s.med.victims else s.med.victims ++ [setid] }

/-- R428 for a set, with member m lost. -/
def State.noReplacement (s : State) (setid m : Nat) : State :=
  match s.set? setid with
  | none => s
  | some r =>
    let s := (s.loseMember setid m).blockMember setid m r.tenant
    if setid < 0x100000 then s.stopZone setid else s.stopSuper setid

/-! ### Placing rows in a replacement block (R427, R433) -/

/-- The groups of a block that lie wholly in its first n rows, spare rows of the last group counted, by the block's own code bands. -/
def State.wholeGroups (s : State) (die block rows n : Nat) : List Nat :=
  let us := s.groupUnits die (s.blk die block).wbin
  (List.range 1024).takeWhile fun g =>
    let sp := groupSlots us g
    sp.1 < n && min rows (sp.1 + sp.2) ≤ n

/-- Write rows of a set to a replacement block, those of its whole groups, and mark the groups done. -/
def State.writeGroups (s : State) (setid : Nat) (r : SetRec) (m die block n : Nat) (content : State → Nat → Info × Bool × Bool) : State :=
  let us := s.groupUnits die (s.blk die block).wbin
  let gs := s.wholeGroups die block r.rows n
  gs.foldl (fun s g =>
    let sp := groupSlots us g
    let s := (List.range sp.2).foldl (fun s i =>
      let slot := sp.1 + i
      s.putFlash die block slot (flashUnit die block slot setid (roleOf slot m) (if r.rows ≤ slot then (0, true, false) else content s slot))) s
    s.withStr { s.str with groups := s.str.groups.ins (groupKey setid m g) ⟨.done, 0, none⟩ }) s

/-- Take the old block out of the set: to the erase queue where its die still works (R427). -/
def State.releaseOld (s : State) (die block : Nat) : State :=
  if s.dieFailed die then s
  else s.queueErase die block (if (s.blk die block).rcause = 0 then 2 else 3)

/-- Make a replacement block member m of a set: the member replace record, MEMBER, and the old block's erase intent (R427, R433). -/
def State.adopt (s : State) (setid : Nat) (r : SetRec) (m die block : Nat) : State :=
  let old := nth r.members m (0, 0)
  let s := s.journal r.tenant s.jnl.csn (.memberReplace setid m die block)
  let s := s.setBlk die block fun b => { b with st := .bound, setid := setid, member := m, closeh := (s.blk old.1 old.2).closeh }
  let s := s.withStr { s.str with
    sets := s.str.sets.adj setid fun r =>
      { r with members := r.members.set m (die, block), mlost := r.mlost - (r.mlost &&& 2 ^ m), mrebuild := r.mrebuild - (r.mrebuild &&& 2 ^ m) }
    blocked := s.str.blocked.filter fun b => b != setid * 32 + m }
  let s := s.releaseOld old.1 old.2
  let still (b : Nat) : Bool := match s.set? (b / 32) with
    | some q => s.tenantDs q.tenant == s.tenantDs r.tenant
    | none => false
  let s := if !s.str.blocked.any still then s.ewClear 0x07 (s.tenantDs r.tenant) setid 0 else s
  s.resnowTenant r.tenant

/-- Drop what is known of the groups of a member. -/
def State.clearGroups (s : State) (setid m : Nat) : State :=
  s.withStr { s.str with groups := s.str.groups.filter fun e => e.1 / 1024 != setid * 32 + m }

/-- Rows below the first group of member m that is not programmed. -/
def State.rowsDone (s : State) (setid : Nat) (r : SetRec) (m : Nat) : Nat :=
  ((List.range 1024).takeWhile fun g => s.groupState setid m g == some .done).foldl (fun n g =>
    max n (min r.rows ((s.groupSpan r m g).1 + (s.groupSpan r m g).2))) 0

/-- The content of member m in a row for a replacement: read, reconstructed, or a lost marker where the row is lost (R427, R431, R433). -/
def State.sourceOf (s : State) (setid : Nat) (r : SetRec) (m row : Nat) : Option (Info × Bool × Bool) :=
  (s.obtain setid r m row).map fun x => (x.1, x.2, false)

/-- Declare lost every row below n of which member m can be neither read nor reconstructed. -/
def State.loseRows (s : State) (setid : Nat) (r : SetRec) (m n cause : Nat) : State :=
  (List.range n).foldl (fun s row =>
    if (s.sourceOf setid r m row).isNone then s.rowLost setid row cause (s.unreadableMask setid r row) else s) s

/-- Member replacement (R427). -/
def State.replaceMember (s : State) (setid m : Nat) : State :=
  match s.set? setid with
  | none => s
  | some r =>
    match s.tenantDs r.tenant with
    | none => s
    | some ds =>
      match s.chooseReplacement (s.dsDies ds) r.members m r.rows with
      | none => s.noReplacement setid m
      | some b =>
        let old := nth r.members m (0, 0)
        let n := s.rowsDone setid r m
        let content := (List.range n).map fun row => (s.sourceOf setid r m row).getD (0, false, true)
        let s := s.loseRows setid r m n 2
        let s := (s.clearGroups setid m).writeGroups setid r m b.1 b.2 n fun _ row => nth content row (0, true, false)
        let s := s.adopt setid r m b.1 b.2
        let s := (s.raise 0x030 1 1 [(4, setid), (1, m), (2, old.1), (2, old.2), (2, b.1), (2, b.2)]).countStr 7 1
        match s.set? setid with
        | some r => s.closeRows setid r 0 n
        | none => s

/-- Must member m of a set be replaced: a group of it has failed for good, its block is to be retired or refreshed in a zone set, or its die
is benched while the set is open (R426, R472, R519)? -/
def State.mustReplace (s : State) (setid : Nat) (r : SetRec) (m : Nat) : Bool :=
  let b := nth r.members m (0, 0)
  let blk := s.blk b.1 b.2
  !r.memberLost m && !s.dieFailed b.1 &&
    ((s.str.groups.any fun e => e.1 / 1024 == setid * 32 + m && e.2.st == .failed) || (1 ≤ blk.rcause && blk.rcause ≤ 2) ||
      (decide (setid < 0x100000) && blk.refresh) || (s.setActive setid && (s.sdie b.1).benched))

/-- MEMBER_REPLACEMENT: a member that must be replaced moves into a block on another package, or its set is handled by R428. -/
def execMemberReplacement (setid m : Nat) (s : State) : Outcome :=
  match s.set? setid with
  | none => .next s
  | some r => if m < 18 ∧ s.mustReplace setid r m = true ∧ s.hld.flush = .none ∧ s.logHeld = false then .next (s.replaceMember setid m) else .next s

/-! ### Rebuild (R433 to R438) -/

/-- The lost members of a set, lowest first. -/
def SetRec.lostMembers (r : SetRec) : List Nat := (List.range 18).filter fun m => r.memberLost m

/-- Sets with a lost member in the order of R433: two lost members first, then the lowest set id. -/
def State.lostSets (s : State) : List (Nat × SetRec) :=
  let l := s.str.sets.filter fun e => !e.2.lostMembers.isEmpty && !e.2.dead
  (l.filter fun e => 2 ≤ e.2.lostMembers.length) ++ (l.filter fun e => e.2.lostMembers.length < 2)

/-- The members to rebuild, in order: (set id, set, member). -/
def State.rebuildOrder (s : State) : List (Nat × SetRec × Nat) :=
  s.lostSets.flatMap fun e => e.2.lostMembers.map fun m => (e.1, e.2, m)

/-- A replacement for a lost member, if the die set has one. -/
def State.spareFor (s : State) (r : SetRec) (m : Nat) : Option (Nat × Nat) :=
  (s.tenantDs r.tenant).bind fun ds => s.chooseReplacement (s.dsDies ds) r.members m r.rows

/-- Programmed rows of a set, which form its beginning. -/
def State.programmedRows (s : State) (setid : Nat) (r : SetRec) : Nat :=
  ((List.range r.rows).takeWhile fun row => s.rowProgrammed setid r row && (s.row setid row).parity).length

/-- Does the next row complete a group of the replacement? -/
def State.rebuildWhole (s : State) (b : Rebuild) (r : SetRec) : Bool :=
  let us := s.groupUnits b.die (s.blk b.die b.block).wbin
  match (slotPlace us 0 b.doneRows).map fun p => p.2.1 with
  | some g => min r.rows ((groupSlots us g).1 + (groupSlots us g).2) == b.doneRows + 1
  | none => false

/-- Begin the rebuild of the first member that can be rebuilt; a member without a spare block is blocked (R428, R433). -/
def State.startRebuild (s : State) : State :=
  match s.rebuildOrder.find? fun x => (s.spareFor x.2.1 x.2.2).isSome || !s.str.blocked.contains (x.1 * 32 + x.2.2) with
  | none => s
  | some (setid, r, m) =>
    match s.spareFor r m with
    | none => s.noReplacement setid m
    | some (die, block) =>
      let n := s.programmedRows setid r
      let s := s.setBlk die block fun b => { b with st := .bound, setid := setid, member := m }
      let s := s.withStr { s.str with
        sets := s.str.sets.adj setid fun r => { r with mrebuild := r.mrebuild ||| 2 ^ m }
        rebuild := some { setid := setid, member := m, die := die, block := block, total := n, doneRows := 0, held := [] } }
      (s.raise 0x031 0 1 [(4, setid), (1, m), (4, n)]).ewOnce 0x05 (s.tenantDs r.tenant) setid 0

/-- The rebuild share's limit in a window, in ns (R434, R478). -/
def State.rebuildLimit (s : State) : Nat := s.fld F.SCH_WIN_WIN * s.fld F.STR_RBCFG_RBSHARE * 10000

/-- Dies that the next row of a rebuild works: those of 16 other members that are not lost, which are read, and the replacement's, where its group is
programmed. -/
def State.rebuildDies (s : State) (b : Rebuild) (r : SetRec) : List Nat :=
  let ms := ((List.range 18).filter fun m => m != b.member && !r.memberLost m).take 16
  (ms.map fun m => (nth r.members m (0, 0)).1) ++ (if s.rebuildWhole b r then [b.die] else [])

/-- May the next row's reads and program start: is the rebuild share's count of each of those dies below its limit (R434, R478)? -/
def State.rebuildMay (s : State) (b : Rebuild) (r : SetRec) : Bool :=
  (s.rebuildDies b r).all fun d => decide ((s.sdie d).rebuildNs < s.rebuildLimit)

/-- Charge the rebuild share of those dies with the die time of each operation (R434, R477). The row tells of no operation how long it took: each
time is a free value (log entry 155). -/
def State.chargeRebuild (s : State) (b : Rebuild) (r : SetRec) : State :=
  (s.rebuildDies b r).foldl (fun s d => s.drew.setSdie d fun x => { x with rebuildNs := x.rebuildNs + Config.freeNat s.free }) s

/-- Place the next row of the rebuild; when its group of the replacement is complete, the group is programmed. -/
def State.rebuildNext (s : State) (b : Rebuild) (r : SetRec) : State :=
  let row := b.doneRows
  let lostThere := (nth (s.row b.setid row).pos (roleOf row b.member) .empty) == .lost
  let x := s.rebuildUnit b.setid r b.member row
  let s := if x.isNone && !lostThere then s.rowLost b.setid row 1 (s.unreadableMask b.setid r row) else s
  let c : Info × Bool × Bool := match x with
    | some y => if lostThere then (0, false, true) else (y.1, y.2, false)
    | none => (0, false, true)
  let held := c :: b.held
  let whole := s.rebuildWhole b r
  let s := s.chargeRebuild b r
  let s := s.countStr 8 1
  if whole then
    let first := row + 1 - held.length
    let s := held.reverse.zipIdx.foldl (fun s x =>
      s.putFlash b.die b.block (first + x.2) (flashUnit b.die b.block (first + x.2) b.setid (roleOf (first + x.2) b.member) x.1)) s
    s.withStr { s.str with rebuild := some { b with doneRows := row + 1, held := [] } }
  else s.withStr { s.str with rebuild := some { b with doneRows := row + 1, held := held } }

/-- The rebuild of a member is finished (R433). -/
def State.endRebuild (s : State) (b : Rebuild) (r : SetRec) : State :=
  let us := s.groupUnits b.die (s.blk b.die b.block).wbin
  let gs := s.wholeGroups b.die b.block r.rows b.doneRows
  let s := s.clearGroups b.setid b.member
  let s := gs.foldl (fun s g =>
    let sp := groupSlots us g
    let s := (List.range sp.2).foldl (fun s i => if sp.1 + i < r.rows then s else
      s.putFlash b.die b.block (sp.1 + i) (flashUnit b.die b.block (sp.1 + i) b.setid (roleOf (sp.1 + i) b.member) (0, true, false))) s
    s.withStr { s.str with groups := s.str.groups.ins (groupKey b.setid b.member g) ⟨.done, 0, none⟩ }) s
  let s := (s.withStr { s.str with rebuild := none }).adopt b.setid r b.member b.die b.block
  (s.raise 0x031 1 0 [(4, b.setid), (1, b.member), (4, b.doneRows)]).ewOnce 0x06 (s.tenantDs r.tenant) b.setid 0

/-- REBUILD_ROW: the rebuild takes its next row while the rebuild share allows, begins, or ends (R433, R434). RBEN 0 pauses it at the next row. -/
def execRebuildRow (s : State) : Outcome :=
  if s.flag F.STR_RBCFG_RBEN = true ∧ s.hld.flush = .none ∧ s.logHeld = false then
    match s.str.rebuild with
    | none => .next s.startRebuild
    | some b =>
      match s.set? b.setid with
      | none => .next (s.withStr { s.str with rebuild := none })
      | some r =>
        if b.doneRows < s.programmedRows b.setid r then (if s.rebuildMay b r then .next (s.rebuildNext b r) else .next s) else .next (s.endRebuild b r)
  else .next s

/-! ### Staged units back to their zone positions (R420) -/

/-- A staged unit's content, from DRAM, from the staging row, or by reconstruction. -/
def State.stagedInfo (s : State) (place : Nat) : Option Info :=
  let setid := stripeSet (place / 16)
  let row := stripeRow (place / 16)
  match s.set? setid with
  | none => none
  | some r =>
    match nth (s.row setid row).pos (place % 16) .empty with
    | .unit k i => if (s.str.dram.get? k).isSome || !(s.row setid row).closed then some i else (s.obtain setid r (memberOfData row (place % 16)) row).map (·.1)
    | _ => none

/-- Every row of the groups that hold a row has something at each data position. -/
def State.groupsFilled (s : State) (setid : Nat) (r : SetRec) (row : Nat) : Bool :=
  (List.range 18).all fun m => match s.rowGroup r m row with
    | some g =>
      let sp := s.groupSpan r m g
      (List.range sp.2).all fun i => r.rows ≤ sp.1 + i || (s.row setid (sp.1 + i)).pos.all fun p => !p.isEmpty
    | none => false

/-- STAGED_READBACK: the staged units of a zone row whose groups are full return to their zone positions, without STAGED and with SCSN equal
to DCSN (R420). A staged unit that is lost leaves a lost marker. -/
def execStagedReadback (setid row : Nat) (s : State) : Outcome :=
  match s.set? setid with
  | none => .next s
  | some r =>
    if setid < 0x100000 ∧ row < r.rows ∧ s.groupsFilled setid r row = true then
      match s.rowLba setid row with
      | none => .next s
      | some lba =>
        let ds := (List.range 16).filter fun d => nth (s.row setid row).pos d .empty == .staged
        let s := ds.foldl (fun s d =>
          match s.str.staging.get? (lbaKey r.nsix (lba + d)) with
          | none => s.setRow setid row fun x => { x with pos := x.pos.set d .lost }
          | some p =>
            match s.stagedInfo p with
            | some i => (s.setRow setid row fun x => { x with pos := x.pos.set d (.unit (unitKey i.dcsn false) (i.recopy i.dcsn false false)) }).countStr 4 1
            | none =>
              let sid := stripeSet (p / 16)
              let s := match s.set? sid with
                | some q => s.rowLost sid (stripeRow (p / 16)) 2 (s.unreadableMask sid q (stripeRow (p / 16)))
                | none => s
              s.setRow setid row fun x => { x with pos := x.pos.set d .lost }) s
        .next (s.parityRow setid r row (s.row setid row).early)
    else .next s

/-! ### Inhibited programs (R426) -/

/-- The link of a group's block, from its key. -/
def State.groupDie (s : State) (key : Nat) : Option Nat :=
  (s.set? (key / 1024 / 32)).map fun r => (nth r.members (key / 1024 % 32) (0, 0)).1

/-- Send again the programs that wait for a link's inhibit flags. -/
def State.resendInhibited (s : State) (link : Nat) : State :=
  let ks := s.str.groups.filter fun e => e.2.inhSince.isSome && (match s.groupDie e.1 with
    | some d => pkgOf d == link
    | none => false)
  ks.foldl (fun s e =>
    let setid := e.1 / 1024 / 32
    match s.set? setid with
    | none => s
    | some r =>
      (s.withStr { s.str with groups := s.str.groups.ins e.1 { e.2 with inhSince := none } }).queueProgram setid r (e.1 / 1024 % 32) (e.1 % 1024)) s

/-- The group whose program stands suspended on a die. -/
def State.suspendedGroup (s : State) (die : Nat) : Option Nat :=
  match (s.sdie die).op with
  | some o => match o.req.kind with
    | .program setid m grp => if o.susp then some (groupKey setid m grp) else none
    | _ => none
  | none => none

/-- INHIBIT_WAIT_TIMEOUT: INHWAIT after an inhibit of a die's program, or of its RESUME, it is sent again if the link's flags have cleared, else
its member must be replaced (R426, R462). -/
def execInhibitWaitTimeout (die : Nat) (s : State) : Outcome :=
  if (s.link (pkgOf die)).inh = 0 then .next (s.resendInhibited (pkgOf die))
  else
    .next (s.withStr { s.str with groups := s.str.groups.mapV fun k g =>
      if (g.inhSince.isSome = true ∧ s.groupDie k = some die) ∨ s.suspendedGroup die = some k then { g with st := .failed, inhSince := none } else g })

/-- STRIPE_COUNTER_CLEAR: every STR_CNT reads 0. -/
def execStripeCounterClear (_a : Agent) (s : State) : Outcome := .next (s.withStr { s.str with cnt := [] })

end Sys2Proof.Machine
end

