-- ==== Sys2Proof/Machine/Wire.lean ====
section
/-!
DEFINITION. Frames on the wire (R292 to R298 of spec/06_lozil_link.md): the header with HCRC, the frame CRC, and the scrambler.
-/

namespace Sys2Proof.Machine

/-! ### CRCs, most significant bit first, without reflection (R293, R296, R297) -/

/-- One bit of a CRC of a width with a generator polynomial. -/
def wireCrcBit (width poly : Nat) (c : Nat) (b : Bool) : Nat :=
  let top := c.testBit (width - 1) != b
  let c := (2 * c) % 2 ^ width
  if top then c ^^^ poly else c

/-- The bits of a number of a width, most significant first. -/
def msbBits (width v : Nat) : List Bool := (List.range width).map fun i => v.testBit (width - 1 - i)

/-- HCRC over bits 63:16 of a header (R296). -/
def headerCrc (top48 : Nat) : Nat := (msbBits 48 top48).foldl (wireCrcBit 16 0x8BB7) 0xFFFF

/-- The frame CRC over the 64 header bits and the payload (R297). -/
def frameCrc (header : Nat) (payload : List Byte) : Nat :=
  ((msbBits 64 header ++ payload.flatMap fun b => msbBits 8 b.toNat).foldl (wireCrcBit 32 0x1EDC6F41) 0xFFFFFFFF) ^^^ 0xFFFFFFFF

/-! ### The header (R295) -/

/-- Bits 63:16 of a header: OP, DIE, TAG, LEN and ARG. -/
def headerTop (op die tag len arg : Nat) : Nat :=
  op % 32 * 2 ^ 43 + die % 64 * 2 ^ 37 + tag % 1024 * 2 ^ 27 + len % 32768 * 2 ^ 12 + arg % 4096

/-- The 64-bit header with its HCRC (R295, R296). -/
def headerBits (op die tag len arg : Nat) : Nat :=
  let h := headerTop op die tag len arg
  h * 65536 + headerCrc h

/-- Does a received header pass HCRC (R301)? -/
def headerPasses (h : Nat) : Bool := h % 65536 == headerCrc (h / 65536 % 2 ^ 48)

/-- Does a received frame pass its frame CRC (R303)? -/
def framePasses (header : Nat) (payload : List Byte) (crc : Nat) : Bool := crc == frameCrc header payload

/-! ### The scrambler (R298) -/

/-- One step: the bit b and the next state. -/
def scrStep (s : Nat) : Bool × Nat :=
  let b := s.testBit 30 != s.testBit 27
  (b, (2 * s) % 2 ^ 31 + (if b then 1 else 0))

/-- The first n bits of the sequence from a state. -/
def scrBits : Nat → Nat → List Bool
  | _, 0 => []
  | s, n + 1 => (scrStep s).1 :: scrBits (scrStep s).2 n

/-- Bits XORed with the sequence from a state. -/
def scramble (seed : Nat) (bs : List Bool) : List Bool := (bs.zip (scrBits seed bs.length)).map fun x => x.1 != x.2

/-- A frame as it is sent: the sync mark, then the scrambled header, payload and frame CRC (R292, R294, R298). Those of TRAIN and TRAIN_RSP frames
leave payload and CRC as they are. -/
def wireBits (header : Nat) (payload : List Byte) : List Bool :=
  let body := (payload.flatMap fun b => msbBits 8 b.toNat) ++ msbBits 32 (frameCrc header payload)
  let training := header / 2 ^ 59 % 32 == 0x1E || header / 2 ^ 59 % 32 == 0x1F
  msbBits 32 0x2F4C6B1D ++ (if training then scramble 0x7FFFFFFF (msbBits 64 header) ++ body else scramble 0x7FFFFFFF (msbBits 64 header ++ body))

/-! ### Receiving (R300 to R305) -/

/-- The number that bits spell, the first the most significant. -/
def bitsNum (l : List Bool) : Nat := l.foldl (fun n b => 2 * n + (if b then 1 else 0)) 0

/-- Does a 32-bit window match the sync mark: do they differ in no more than TOL bits (R300)? -/
def syncMatches (tol : Nat) (w : List Bool) : Bool :=
  w.length == 32 && decide (((w.zip (msbBits 32 0x2F4C6B1D)).filter fun x => x.1 != x.2).length ≤ tol)

/-- UI from a good HCRC until the frame-length timer expires (R302). -/
def frameLengthTime (len margin : Nat) : Nat := 8 * len + 32 + margin

/-- What a receiver meets in a burst: a header that fails HCRC, a frame, with whether its frame CRC is good, or a frame that the burst's end cuts
off. -/
inductive RxEvent where
  | badHeader
  | frame (header : Nat) (payload : List Bool) (good : Bool)
  | cut (header : Nat)
  deriving DecidableEq, Repr

/-- The bits of bytes back from a payload's. -/
def bytesOf (n : Nat) (l : List Bool) : List Byte := (List.range n).map fun i => BitVec.ofNat 8 (bitsNum ((l.drop (8 * i)).take 8))

/-- Hunt through the bits of a burst after its preamble (R299 to R305). A failed header is looked at again from the bit after the first of the window
that matched; after a frame the hunt goes on behind it. The first argument bounds the bits looked at. -/
def huntFrames (tol : Nat) : Nat → List Bool → List RxEvent
  | 0, _ => []
  | fuel + 1, l =>
    if l.length < 32 then []
    else if !syncMatches tol (l.take 32) then huntFrames tol fuel (l.drop 1)
    else if l.length < 96 then []
    else
      let h := bitsNum (scramble 0x7FFFFFFF ((l.drop 32).take 64))
      if !headerPasses h then .badHeader :: huntFrames tol fuel (l.drop 1)
      else
        let n := 8 * (h / 2 ^ 28 % 32768)
        let body := (l.drop 96).take (n + 32)
        if body.length < n + 32 then [.cut h]
        else
          let training := h / 2 ^ 59 % 32 == 0x1E || h / 2 ^ 59 % 32 == 0x1F
          let plain := if training then body else (scramble 0x7FFFFFFF ((l.drop 32).take (64 + n + 32))).drop 64
          .frame h (plain.take n) (framePasses h (bytesOf (n / 8) plain) (bitsNum (plain.drop n))) :: huntFrames tol fuel (l.drop (96 + n + 32))

/-! ### Frames that wait for a lane (R286, R328) -/

/-- The nominal time of a frame with its preamble, in ns: 32 UI to the ns (R285, R289, R292). -/
def frameTime (len : Nat) : Nat := (64 + 32 + 64 + 8 * len + 32) / 32

/-- SUSPEND, RESUME, STATUS and DIE_RESET frames: no lane starts a PROGRAM, DATA or read frame while one waits (R328). -/
def SentFrame.first (f : SentFrame) : Bool := f.op == 0x06 || f.op == 0x07 || f.op == 0x08 || f.op == 0x0D

/-- The frames that yield to them. -/
def SentFrame.yields (f : SentFrame) : Bool := f.op == 0x01 || f.op == 0x02 || f.op == 0x03 || f.op == 0x04

/-- When a lane is next idle: the end of the last frame on it. -/
def Link.laneFree (l : Link) (k : Nat) : Nat := ((l.sent.filter fun f => f.lane == k).map fun f => f.start + frameTime f.len).foldl max 0

/-- The downstream lanes in service: both, unless only one is up. -/
def Link.lanes (l : Link) : List Nat := if l.lane0.up && !l.lane1.up then [0] else if l.lane1.up && !l.lane0.up then [1] else [0, 1]

/-- Both lanes in service for a flush, whatever LNK_CTL.LANES holds, but for one that has failed (R291). -/
def Link.bothLanes (l : Link) : Link :=
  { l with flushLanes := true, lane0 := { l.lane0 with up := !l.lane0.failed }, lane1 := { l.lane1 with up := !l.lane1.failed } }

/-- Give a frame the lane that is idle first. -/
def Link.start (l : Link) (now : Nat) (f : SentFrame) : Link :=
  let k := l.lanes.foldl (fun b k => if l.laneFree k < l.laneFree b then k else b) (l.lanes.headD 0)
  { l with sent := { f with lane := k, start := max now (l.laneFree k) } :: l.sent }

/-- Put a frame in line: a SUSPEND, RESUME, STATUS or DIE_RESET frame goes before the PROGRAM, DATA and read frames that no lane has started (R328). -/
def Link.enqueue (l : Link) (now : Nat) (f : SentFrame) : Link :=
  if f.first then
    let back := (l.sent.takeWhile fun g => g.yields && decide (now < g.start))
    let l := { l with sent := l.sent.drop back.length }
    back.reverse.foldl (fun l g => l.start now g) (l.start now f)
  else l.start now f

/-- When the last frame of a tag has been sent, or will have been. -/
def Link.sentBy (l : Link) (tag : Nat) : Nat := ((l.sent.filter fun f => f.tag == tag && f.op != 0x1E).map fun f => f.start + frameTime f.len).foldl max 0

end Sys2Proof.Machine
end

