-- ==== Sys2Proof/Machine/LinkBase.lean ====
section
/-!
DEFINITION. The link units' sequencers (spec/06_lozil_link.md): counters, tags, the frames that a request takes, reissue bookkeeping, and
the start of training; with where a unit lies on flash and which read band and reference slot its read uses (R354 to R384 of
spec/07_didrinak_read_channel.md).
-/

namespace Sys2Proof.Machine

/-! ### Counters (LNK_CNT, DDK_CNT) -/

def State.linkCount (s : State) (n i k : Nat) : State := s.setLink n fun l => { l with cnt := l.cnt.upd i 0 fun c => sat 64 (c + k) }

/-- Front-end counters by link × 16 + counter. -/
def State.countDdk (s : State) (n i k : Nat) : State :=
  s.withDdk { s.ddk with cnt := s.ddk.cnt.upd (n * 16 + i) 0 fun c => sat 64 (c + k) }

/-- May a link carry requests (R349)? -/
def State.linkUp (s : State) (n : Nat) : Bool := (s.link n).st == .active || (s.link n).st == .degraded

/-! ### Where a unit lies (R148, R354, R359 to R363) -/

/-- The place of a unit on its die: wordline group, wear bin, 4-page group, index in the group, and codeword length. -/
structure UnitPlace where
  w : Nat
  k : Nat
  grp : Nat
  j : Nat
  len : Nat
  deriving DecidableEq, Repr

def State.unitPlace (s : State) (die block slot : Nat) : UnitPlace :=
  let k := (s.blk die block).wbin
  match slotPlace (s.groupUnits die k) 0 slot with
  | some (w, grp, j) => ⟨w, k, grp, j, bandLen (s.codeBand die w k)⟩
  | none => ⟨0, k, 0, 0, bandLen 1⟩

def pageBytes : Nat := 18432

/-- Page of the first byte, its column, and the page of the last byte. -/
def UnitPlace.page (p : UnitPlace) : Nat := p.j * p.len / pageBytes
def UnitPlace.col (p : UnitPlace) : Nat := p.j * p.len % pageBytes
def UnitPlace.lastPage (p : UnitPlace) : Nat := (p.j * p.len + p.len - 1) / pageBytes
def UnitPlace.straddles (p : UnitPlace) : Bool := p.page != p.lastPage

/-- The die descriptor of a link, if its CRC holds. -/
def State.descOf (s : State) (die : Nat) : Option Desc :=
  (s.ddk.desc.get? (pkgOf die)).bind fun d => if d.bad then none else some d

/-- The die sense time of a unit's read, in ns (R363). -/
def State.senseTime (s : State) (die : Nat) (p : UnitPlace) (soft : Bool) : Nat :=
  match s.ddk.desc.get? (pkgOf die) with
  | none => 0
  | some d =>
    let n := p.lastPage + 1 - p.page
    if soft then 1000 * d.trSoft * n
    else 1000 * ((List.range n).map fun i => nth d.tr (p.page + i) 0).sum

/-! ### Read bands and reference slots (R368 to R384) -/

/-- The key of a band entry: its die and its index (8 w + k) × 4 + r (R372). -/
def bandKey (die w k r : Nat) : Nat := die * 512 + (8 * w + k) * 4 + r

def State.band (s : State) (key : Nat) : Band := s.ddk.bands.getD key Band.invalid

/-- Write a band entry; every slot that holds the band is stale once the entry changes (R377, R382). -/
def State.putBand (s : State) (key : Nat) (b : Band) : State :=
  if s.ddk.bands.get? key = some b then s
  else
    s.withDdk { s.ddk with
      bands := s.ddk.bands.ins key b
      slots := s.ddk.slots.mapV fun k x => if k / 16 = key / 512 ∧ x.band = key % 512 ∧ x.st = 2 then { x with st := 3 }
        else if k / 16 = key / 512 ∧ x.band = key % 512 ∧ x.st = 1 then { x with st := 4 } else x }

def State.setRecal (s : State) (key : Nat) : State := s.putBand key { s.band key with recal := true }

/-- The retention bin of a block now (R370, R492). -/
def State.retentionBin (s : State) (die block : Nat) : Nat :=
  let age := s.ddk.eh.getD die 0 / 16 - (s.blk die block).closeh
  let n := pkgOf die
  ([s.fld F.DDK_RET_BIN_RB1 n, s.fld F.DDK_RET_BIN_RB2 n, s.fld F.DDK_RET_BIN_RB3 n].filter fun b => b ≤ age).length

/-- The retention bins nearest to one, lower before higher (R378). -/
def binsNear (r : Nat) : List Nat :=
  ((List.range 3).flatMap fun d => (if d + 1 ≤ r then [r - (d + 1)] else []) ++ (if r + d + 1 < 4 then [r + d + 1] else []))

/-- The band that a read of band (w, k, r) uses (R378); none where no band of w and k is valid. -/
def State.usedBand (s : State) (die w k r : Nat) : Option Nat :=
  ((r :: binsNear r).find? fun q => (s.band (bandKey die w k q)).valid).map fun q => bandKey die w k q

/-- First use of a band that is not calibrated: it is copied from the band it borrows, and RECAL is set (R378, R397). -/
def State.touchBand (s : State) (die w k r : Nat) : State :=
  let own := bandKey die w k r
  if (s.band own).valid then s
  else match s.usedBand die w k r with
    | some q => s.putBand own { s.band q with inherited := true, recal := true }
    | none => s.setRecal own

/-! ### The tables in DRAM (R372, and the faults of their granules) -/

/-- Where a link's tables lie. -/
def State.tableBase (s : State) (link : Nat) : Nat := s.fld F.DDK_TBL_BASE_BASE link * 2 ^ 21

/-- Where the entry idx, (8 w + k) × 4 + r, of a die lies. -/
def State.bandAddr (s : State) (die idx : Nat) : Nat := s.tableBase (pkgOf die) + 0x1000 + die % 64 * 0x4000 + idx * 32

/-- A band entry whose granule is uncorrectable is rewritten with VALID clear, with the entry beside it, and the band-table event is raised. -/
def State.checkBand (s : State) (key : Nat) : State :=
  let die := key / 512
  let g := s.bandAddr die (key % 512) / 64 * 64
  if s.drm.bad.contains g then
    let s := s.withDrm { s.drm with bad := s.drm.bad.filter fun a => a != g }
    let s := (s.putBand (key / 2 * 2) Band.invalid).putBand (key / 2 * 2 + 1) Band.invalid
    s.raise (0x0C0 + pkgOf die) 1 2 [(1, die % 64), (2, key % 512)]
  else s

/-- A die descriptor with an uncorrectable granule fails: its link reads with the defaults, and calibration stops there. -/
def State.checkDesc (s : State) (die : Nat) : State :=
  let n := pkgOf die
  match s.descOf die with
  | some d =>
    if (List.range 4).any fun i => s.drm.bad.contains (s.tableBase n + 64 * i) then
      (s.withDdk { s.ddk with desc := s.ddk.desc.ins n { d with bad := true } }).raise (0x0C0 + n) 1 2 [(1, 0), (2, 0xFFFF)]
    else s
  | none => s

/-- What a read that uses a band's offsets must do about reference slots (R380 to R384). -/
inductive RefStep where
  | plain
  | use (slot : Nat)
  | write (slot : Nat)
  | wait
  deriving DecidableEq, Repr

def State.refSlot (s : State) (die i : Nat) : RefSlot := s.ddk.slots.getD (die * 16 + i) RefSlot.empty

def State.setRefSlot (s : State) (die i : Nat) (f : RefSlot → RefSlot) : State :=
  s.withDdk { s.ddk with slots := s.ddk.slots.ins (die * 16 + i) (f (s.refSlot die i)) }

/-- The slot to write: an empty one, else the least recently used that no read names and that is not being written. -/
def State.victimSlot (s : State) (die : Nat) : Option Nat :=
  ((List.range 16).filter fun i => (s.refSlot die i).st != 1 && (s.refSlot die i).st != 4 && (s.refSlot die i).readers == 0).foldl (fun b i => match b with
    | none => some i
    | some j =>
      let key (x : RefSlot) : Nat := if x.st = 0 then 0 else x.used + 1
      if key (s.refSlot die i) < key (s.refSlot die j) then some i else some j) none

/-- The slot step of a read through a band, by its key. -/
def State.refStep (s : State) (die key : Nat) : RefStep :=
  match (List.range 16).find? fun i => (s.refSlot die i).st != 0 && (s.refSlot die i).band == key % 512 with
  | some i =>
    let x := s.refSlot die i
    if x.st = 2 then .use i else if x.st = 1 ∨ x.st = 4 then .wait else if x.readers = 0 then .write i else .wait
  | none => match s.victimSlot die with
    | some i => .write i
    | none => .wait

/-- A read takes a slot. -/
def State.takeSlot (s : State) (die i : Nat) : State :=
  let s := s.withDdk { s.ddk with useCtr := s.ddk.useCtr + 1 }
  s.setRefSlot die i fun x => { x with used := s.ddk.useCtr, readers := x.readers + 1 }

def State.leaveSlot (s : State) (die : Nat) (i : Option Nat) : State :=
  match i with
  | some i => s.setRefSlot die i fun x => { x with readers := x.readers - 1 }
  | none => s

/-! ### Unit reads -/

def State.uread (s : State) (rid : Nat) : Option UnitRead := s.ddk.reads.get? rid

def State.setRead (s : State) (rid : Nat) (f : UnitRead → UnitRead) : State := s.withDdk { s.ddk with reads := s.ddk.reads.adj rid f }

def State.dropRead (s : State) (rid : Nat) : State :=
  s.withDdk { s.ddk with reads := s.ddk.reads.del rid, softQ := s.ddk.softQ.filter fun q => q != rid }

/-! ### Frames (R295, R307, R309, R311, R313) -/

def ReqKind.op : ReqKind → Nat
  | .readHard _ => 0x01
  | .calRead _ _ page _ => if page < 4 then 0x01 else 0x02
  | .readSoft _ => 0x02
  | .program .. => 0x03
  | .erase .. => 0x05
  | .suspend => 0x06
  | .resume => 0x07
  | .status _ => 0x08
  | .setRef .. => 0x09
  | .temp => 0x0A
  | .bridgeCfg .. => 0x0B
  | .bridgeRead _ => 0x0C
  | .dieReset => 0x0D

/-- A command block as a little-endian number (R309). -/
def cmdBlock (a0 a1 col cnt b8 b9 : Nat) : Nat := a0 + a1 * 2 ^ 16 + col * 2 ^ 32 + cnt * 2 ^ 48 + b8 * 2 ^ 64 + b9 * 2 ^ 72

/-- Byte 8 of a read's command block. -/
def refByte (ref : Option Nat) : Nat :=
  match ref with
  | some i => 16 * i + 2
  | none => 0

/-- The command block of a unit read (R362). -/
def State.readBlock (s : State) (rid : Nat) : Nat :=
  match s.uread rid with
  | none => 0
  | some u =>
    let p := s.unitPlace u.die u.block u.slot
    cmdBlock u.block (p.grp * 4 + p.page) p.col p.len (refByte u.ref) 0

/-- The 16 bytes behind the command block of a SET_REF: 15 signed offsets of a band, and zero (R313). -/
def Band.refBytes (b : Band) : Nat := ofBytes ((List.range 15).map fun i => BitVec.ofNat 8 (int8 (nth b.off i 0)))

/-- The frames of a request to a die: (OP, LEN, ARG, command block and what follows it). -/
def State.framesOf (s : State) (die : Nat) (k : ReqKind) : List (Nat × Nat × Nat × Nat) :=
  match k with
  | .readHard rid => [(0x01, 16, 0, s.readBlock rid)]
  | .readSoft rid => [(0x02, 16, 0, s.readBlock rid)]
  | .calRead block grp page ref =>
    if page < 4 then [(0x01, 16, 0, cmdBlock block (grp * 4 + page) 0 pageBytes (refByte ref) 0)]
    else [(0x02, 16, 0, cmdBlock block (grp * 4 + (page - 4) / 3) ((page - 4) % 3 * 6144) 6144 (refByte ref) 0)]
  | .program setid m grp =>
    let b := match s.set? setid with
      | some r => (nth r.members m (0, 0)).2
      | none => 0
    (0x03, 16, 0, cmdBlock b (grp * 4) 0 0 0 4) :: (List.range 4).map fun i => (0x04, pageBytes, i, 0)
  | .erase block slc => [(0x05, 16, 0, cmdBlock block 0 0 0 (b2n slc) 0)]
  | .status qtag => [(0x08, 16, 0, cmdBlock qtag 0 0 0 0 0)]
  | .setRef slot band => [(0x09, 32, 0, cmdBlock 0 0 0 0 (16 * slot) 0 + (s.band (die * 512 + band % 512)).refBytes * 2 ^ 128)]
  | .bridgeCfg addr v => [(0x0B, 16, 0, addr + v % 2 ^ 32 * 2 ^ 32)]
  | .bridgeRead addr => [(0x0C, 16, 0, addr)]
  | k => [(k.op, 0, 0, 0)]

/-! ### Tags (R336, R338) -/

def tagCount : Nat := 1023

/-- The next tag that is neither outstanding nor quarantined. -/
def Link.freeTag (l : Link) : Option Nat :=
  ((List.range tagCount).find? fun i =>
    let t := (l.nextTag + i) % tagCount
    (l.tags.get? t).isNone && !l.quar.contains t).map fun i => (l.nextTag + i) % tagCount

def ReqKind.isRead : ReqKind → Bool
  | .readHard _ => true
  | .readSoft _ => true
  | .calRead .. => true
  | _ => false

/-- A frame as the controller makes it, before a lane takes it (R295, R296). -/
def newFrame (op die tag len arg cmd : Nat) : SentFrame :=
  { op := op, die := die, tag := tag, len := len, arg := arg, cmd := cmd, header := headerBits op die tag len arg, lane := 0, start := 0 }

/-- Send a request's frames under a tag; each waits for a lane in its turn (R286, R328). Each outstanding request holds when its last frame is sent,
from which its die time runs (R477). -/
def State.sendUnder (s : State) (n tag reissues : Nat) (die : Nat) (req : DieReq) : State :=
  let fs := (s.framesOf die req.kind).map fun f => newFrame f.1 (die % 64) tag f.2.1 f.2.2.1 f.2.2.2
  let solo := !((s.link n).tags.any fun t => t.2.die == die && t.2.req.kind.isRead)
  let t : TagRec := { die := die, req := req, sent := s.ao.time, reissues := reissues, query := false, solo := solo }
  let s := s.setLink n fun l =>
    let l := fs.foldl (fun l f => l.enqueue s.ao.time f) { l with tags := l.tags.ins tag t, nextTag := (tag + 1) % tagCount }
    { l with tags := l.tags.mapV fun k x => { x with sent := max x.sent (l.sentBy k) } }
  s.linkCount n 11 fs.length

/-- Send a request if a tag is free. -/
def State.sendReq (s : State) (die : Nat) (req : DieReq) : State :=
  match (s.link (pkgOf die)).freeTag with
  | some t => s.sendUnder (pkgOf die) t 0 die req
  | none => s

def State.canSend (s : State) (die : Nat) : Bool := s.linkUp (pkgOf die) && (s.link (pkgOf die)).freeTag.isSome

/-- A control request, outside the die's queues. -/
def State.control (s : State) (die : Nat) (k : ReqKind) : State :=
  s.sendReq die { kind := k, cls := 0, arrive := s.ao.time, maint := false }

/-- A request is resolved: its tag is free. -/
def State.freeTag (s : State) (n tag : Nat) : State := s.setLink n fun l => { l with tags := l.tags.del tag, touts := 0 }

/-! ### Training (R344 to R348) -/

def Link.lane (l : Link) (k : Nat) : Lane := if k = 0 then l.lane0 else l.lane1

def Link.putLane (l : Link) (k : Nat) (x : Lane) : Link := if k = 0 then { l with lane0 := x } else { l with lane1 := x }

def State.setLane (s : State) (n k : Nat) (f : Lane → Lane) : State := s.setLink n fun l => l.putLane k (f (l.lane k))

/-- TRAIN frames of a phase: their number, pattern and first preset (R344, R347). -/
def trainFrames : Nat → Nat × Nat
  | 0 => (1, 0)
  | 1 => (64, 3)
  | 2 => (8, 3)
  | _ => (4096, 1)

/-- Send the TRAIN frames of a phase, kept as one entry with their number (log entry 34). -/
def State.sendTrain (s : State) (n phase : Nat) : State :=
  let f := trainFrames phase
  let s := s.setLink n fun l => { l with
    sent := newFrame 0x1E 0 0 (if phase = 0 then 0 else 4096) (phase * 512 + f.2 * 64) f.1 :: l.sent }
  s.linkCount n 11 f.1

/-- The values of the bridge registers that the LNK block gives (R334). -/
def State.bridgeRegs (s : State) (n : Nat) : List (Nat × Nat) :=
  [(0x10, s.fld F.LNK_INH_VMIN n), (0x14, s.fld F.LNK_INH_THYST n * 256 + s.fld F.LNK_INH_TMAX n),
   (0x18, s.fld F.LNK_INH2_LWIN n * 65536 + s.fld F.LNK_INH2_LERR n), (0x1C, s.fld F.LNK_INH2_TSUSPMIN n * 10),
   (0x20, s.fld F.LNK_FRAME_TMR_TDSET n), (0x24, s.fld F.LNK_CTL_LANES n), (0x28, s.fld F.LNK_SYNC_TOL n)]

/-- Write every bridge register (R334, R343). -/
def State.writeBridge (s : State) (n : Nat) : State := (s.bridgeRegs n).foldl (fun s x => s.control (64 * n) (.bridgeCfg x.1 x.2)) s

/-- Phase 4: ID, BOOTCNT and DIES are read and every register is written. -/
def State.configureBridge (s : State) (n : Nat) : State :=
  ([0x00, 0x04, 0x08, 0x0C].foldl (fun s a => s.control (64 * n) (.bridgeRead a)) s).writeBridge n

/-- Begin a phase on a lane. -/
def State.startPhase (s : State) (n k phase : Nat) : State :=
  let s := s.setLane n k fun x => { x with phase := phase, best := none, frames := 0, errs := 0, dnErrs := 0, dnLast := 0 }
  if phase = 4 then s.configureBridge n else s.sendTrain n phase

/-- A lane is in use by LNK_CTL.LANES: 0 both, 1 lane 0, 2 lane 1. -/
def State.laneWanted (s : State) (n k : Nat) : Bool := let v := s.fld F.LNK_CTL_LANES n; v == 0 || v == 3 || v == k + 1

/-- The state of a link from its lanes: while one lane is up and the other retrains, traffic goes on. -/
def State.settleLink (s : State) (n : Nat) : State :=
  let l := s.link n
  let up := l.lane0.up || l.lane1.up
  let train := l.lane0.training || l.lane1.training
  let failed := l.lane0.failed || l.lane1.failed
  let st : LinkState :=
    if train then (if up && (l.st == .active || l.st == .degraded) then l.st else .training)
    else if up then (if failed then .degraded else .active)
    else if failed then .failed else .down
  s.setLink n fun l => { l with st := st }

/-- Train a lane from a phase with a trigger of R748, 0 at start-up. -/
def State.trainLane (s : State) (n k phase trigger : Nat) : State :=
  let s := s.setLane n k fun x => { x with up := false, training := true, failed := false, attempts := 0, trigger := trigger, crcTimes := [] }
  let s := if trigger = 0 then s else s.linkCount n 9 1
  (s.settleLink n).startPhase n k phase

/-- Train both lanes of a link. -/
def State.trainLink (s : State) (n phase trigger : Nat) : State :=
  let ks := [0, 1].filter fun k => s.laneWanted n k
  let s := ks.foldl (fun s k => s.setLane n k fun x => { x with up := false }) s
  ks.foldl (fun s k => s.trainLane n k phase trigger) s

end Sys2Proof.Machine
end

