-- ==== Sys2Proof/Machine/Codeword.lean ====
section
/-!
DEFINITION. Codewords, their randomiser, soft values and cells (R354, R357, R359, R364 to R367, R374, R393 of spec/07_didrinak_read_channel.md).
-/

namespace Sys2Proof.Machine

/-! ### Codewords and groups as programmed (R354, R357, R359) -/

/-- The scrambler's state at the start of a codeword (R357). -/
def codewordSeed (block grp j : Nat) : Nat := block % 2 ^ 13 * 2 ^ 18 + grp % 2 ^ 10 * 2 ^ 8 + j % 32 * 2 ^ 3 + 5

/-- Bytes of bits, most significant first. -/
def packBits : List Bool → List Byte
  | a :: b :: c :: d :: e :: f :: g :: h :: rest =>
    BitVec.ofNat 8 ([a, b, c, d, e, f, g, h].foldl (fun n x => 2 * n + (if x then 1 else 0)) 0) :: packBits rest
  | _ => []

/-- Bytes XORed with a codeword's sequence; taken off the same way (R357). The bits of a byte go in transmission order (R293; DEDUCED, log entry
158). -/
def randomise (seed : Nat) (bs : List Byte) : List Byte := packBits (scramble seed (bs.flatMap fun b => msbBits 8 b.toNat))

/-- A unit's codeword: its 4,160 bytes, then the parity of its code band, which the matrices in silicon give (R354; a free function). -/
def codeword (cb : Nat) (u : FlashUnit) : List Byte :=
  let info := u.info.data.toNat + u.checkField.toNat * 2 ^ 32768
  toBytes 4160 info ++ toBytes (bandLen cb - 4160) (Config.ldpcParity cb info)

/-- The 73,728 bytes of a 4-page group as programmed: its units' codewords randomised, and pad bytes 0xA5 (R357, R359). -/
def groupBytes (block grp cb : Nat) (us : List FlashUnit) : List Byte :=
  let l := us.zipIdx.flatMap fun x => randomise (codewordSeed block grp x.2) (codeword cb x.1)
  (l ++ List.replicate (73728 - l.length) 0xA5#8).take 73728

/-- A page of a group: what a DATA frame carries (R311, R359). -/
def groupPage (bytes : List Byte) (p : Nat) : List Byte := (bytes.drop (18432 * p)).take 18432

/-- The column of unit j of a single-level page, four codewords of code band 1 (R358). -/
def slcColumn (j : Nat) : Nat := j * 4608

/-- A single-level page as programmed: four units' codewords, each randomised under its wordline and j (R357, R358). -/
def slcPage (block wordline : Nat) (us : List FlashUnit) : List Byte :=
  us.zipIdx.flatMap fun x => randomise (codewordSeed block wordline x.2) (codeword 1 x.1)

/-! ### Soft values (R364 to R367) -/

/-- z for bits 7 to 0 of each byte of a soft range, from the three bytes that SDATA holds for it (R366). -/
def sdataZ : List Byte → List Nat
  | a :: b :: c :: rest =>
    let w := a.toNat * 65536 + b.toNat * 256 + c.toNat
    ((List.range 8).map fun i => bits w (23 - 3 * i) (21 - 3 * i)) ++ sdataZ rest
  | _ => []

/-- The hard decision of a bit (R365). -/
def hardOf (z : Nat) : Bool := 4 ≤ z

/-- The log-likelihood value of a bit, positive in favour of 1 (R367). -/
def llrOf (gain : Nat) (soffs : Int) (z : Nat) (flip : Bool) : Int :=
  let v := max (-31) (min 31 (Int.tdiv ((gain : Int) * (2 * (z : Int) - 7) - soffs) 16))
  if flip then -v else v

/-- The soft values of a codeword, derandomised (R367). -/
def llrsOf (seed gain : Nat) (soffs : Int) (payload : List Byte) : List Int :=
  let zs := sdataZ payload
  (zs.zip (scrBits seed zs.length)).map fun x => llrOf gain soffs x.1 x.2

/-- The derandomised hard decisions of a soft read (R365, R367). -/
def hardBits (seed : Nat) (payload : List Byte) : List Bool := scramble seed ((sdataZ payload).map hardOf)

/-- GAIN and SOFFS of a unit read: those of the band that it uses; without a valid one 16 and 0 (R367, R378). -/
def State.softScale (s : State) (u : UnitRead) : Nat × Int :=
  let p := s.unitPlace u.die u.block u.slot
  match s.usedBand u.die p.w p.k (s.retentionBin u.die u.block) with
  | some q => ((s.band q).gain, (s.band q).soffs)
  | none => (16, 0)

/-- What SDATA gives the soft engine for a unit (R366, R367). -/
def State.softValues (s : State) (u : UnitRead) (payload : List Byte) : List Int :=
  let p := s.unitPlace u.die u.block u.slot
  llrsOf (codewordSeed u.block p.grp p.j) (s.softScale u).1 (s.softScale u).2 payload

/-! ### Cells (R374, R393) -/

/-- The page that reference i uses, from REFMAP (R373). -/
def refPage (refmap i : Nat) : Nat := bits refmap (2 * i - 1) (2 * i - 2)

/-- What a cell in a state reads on a page: 1 XOR the parity of the references at or below the state that the page uses (R374). -/
def cellBit (refmap st p : Nat) : Bool := ((List.range 16).filter fun i => 1 ≤ i && i ≤ st && refPage refmap i == p).length % 2 == 0

/-- The state that reads as four page bits; none where the REFMAP gives no such state (R374, R375). -/
def cellState (refmap : Nat) (pages : List Bool) : Option Nat := (List.range 16).find? fun st => (List.range 4).map (cellBit refmap st) == pages

/-- Bit b of byte c of a page is in cell 8 c + (7 − b) (R374). -/
def pageBit (page : List Byte) (cell : Nat) : Bool := (nth page (cell / 8) 0).toNat.testBit (7 - cell % 8)

/-- The state of a cell from the four pages of its wordline. -/
def stateOf (refmap : Nat) (pages : List (List Byte)) (cell : Nat) : Option Nat := cellState refmap (pages.map fun p => pageBit p cell)

/-- The counts of a sample over some cells: those whose raw state is one above or one below their true state crossed reference i upward or downward
(R393). -/
def crossings (refmap : Nat) (raw true_ : List (List Byte)) (cells i : Nat) : CalCount :=
  (List.range cells).foldl (fun c k => match stateOf refmap raw k, stateOf refmap true_ k with
    | some r, some t => { up := if r = t + 1 ∧ r = i then c.up + 1 else c.up, down := if t = r + 1 ∧ t = i then c.down + 1 else c.down }
    | _, _ => c) ⟨0, 0⟩

end Sys2Proof.Machine
end

