-- ==== Sys2Proof/Machine/Sched.lean ====
section
/-!
DEFINITION. The scheduler (R444 to R447, R455 to R468 of spec/09_scheduling.md): the queues of a die, the service-time model, the Slalom
decision, reconstructions, and what a read of a unit comes to (R385, R412, R429 to R431).
-/

namespace Sys2Proof.Machine

/-! ### Queues (R455) -/

/-- A request joins the read queue of its class. -/
def State.queueRead (s : State) (die : Nat) (q : DieReq) : State :=
  s.setSdie die fun d =>
    if q.cls = 0 then { d with q0 := d.q0 ++ [q] } else if q.cls = 1 then { d with q1 := d.q1 ++ [q] } else { d with q2 := d.q2 ++ [q] }

def ReqKind.rid? : ReqKind → Option Nat
  | .readHard r => some r
  | .readSoft r => some r
  | _ => none

/-- Take a unit read out of the queues of its die (R468). -/
def State.unqueue (s : State) (die rid : Nat) : State :=
  let keep (l : List DieReq) := l.filter fun q => q.kind.rid? != some rid
  s.setSdie die fun d => { d with q0 := keep d.q0, q1 := keep d.q1, q2 := keep d.q2 }

/-! ### The service-time model (R463, R469) -/

def DieOp.isProgram (o : DieOp) : Bool :=
  match o.req.kind with
  | .program .. => true
  | _ => false

/-- busy(d), in ns. -/
def State.busyFor (s : State) (die : Nat) : Nat :=
  let d := s.sdie die
  match d.op with
  | none => if d.busyAt = s.ao.time then d.busy else 0
  | some o =>
    if d.busyAt = s.ao.time ∧ 0 < d.busy then d.busy
    else (if o.isProgram then d.pgm else d.ers) - (s.ao.time - o.start - o.suspTime)

/-- May the running operation of a die be suspended (R459)? -/
def State.suspAllowed (s : State) (die : Nat) : Bool :=
  let d := s.sdie die
  match d.op with
  | none => false
  | some o =>
    !o.susp && d.suspOut.isNone && !d.noSusp &&
    (if o.isProgram then s.flag F.SCH_CTL_SUSPP else s.flag F.SCH_CTL_SUSPE) &&
    decide (o.suspN < s.fld F.SCH_SUSP_SUSPMAX) &&
    (match d.lastResume with
     | none => true
     | some t => decide (t + 10000 * s.fld F.LNK_INH2_TSUSPMIN (pkgOf die) ≤ s.ao.time))

/-- tR × rr, in ns. -/
def State.readTime (s : State) (die block slot : Nat) : Nat := s.senseTime die (s.unitPlace die block slot) false * (s.sdie die).rr / 256

/-- x(q), in ns. -/
def State.xTime (s : State) (die block slot : Nat) : Nat :=
  frameTime (s.unitPlace die block slot).len + 10 * s.fld F.SCH_SLALOM_DECODE

/-- The rated sense time of the reads ahead of a new read of a class. -/
def State.aheadTime (s : State) (die cls : Nat) : Nat :=
  s.ddk.reads.foldl (fun n e =>
    if e.2.die == die && e.2.cls ≤ cls && (e.2.st == .queued || e.2.st == .sent) then
      n + s.senseTime die (s.unitPlace die e.2.block e.2.slot) false else n) 0

/-- wait(m). -/
def State.waitTime (s : State) (die cls : Nat) : Nat :=
  match (s.sdie die).op with
  | none => s.aheadTime die cls
  | some o =>
    if o.susp then s.aheadTime die cls
    else if s.suspAllowed die then min (s.busyFor die) (s.sdie die).susplat else s.busyFor die

/-- est(m, u) for the unit of a row on a member. -/
def State.memberEst (s : State) (r : SetRec) (row cls m : Nat) : Nat :=
  let b := nth r.members m (0, 0)
  s.waitTime b.1 cls + s.readTime b.1 b.2 row + s.xTime b.1 b.2 row

/-! ### The Slalom decision (R464 to R466) -/

inductive Decision where
  | wait
  | suspend
  | reconstruct (picks : List Nat)
  deriving DecidableEq, Repr

/-- Insert by a key; equal keys keep their order. -/
def insKey (x : Nat × Nat) : List (Nat × Nat) → List (Nat × Nat)
  | [] => [x]
  | y :: ys => if x.1 < y.1 then x :: y :: ys else y :: insKey x ys

/-- The members of a row other than m that may be picked: neither lost nor on a failed die (R465). -/
def State.pickable (s : State) (r : SetRec) (m : Nat) : List Nat :=
  (List.range 18).filter fun k => k != m && !r.memberLost k && !s.dieFailed (nth r.members k (0, 0)).1

/-- The pickable members in order of their estimates. -/
def State.byEst (s : State) (r : SetRec) (row m cls : Nat) : List (Nat × Nat) :=
  (s.pickable r m).foldl (fun l k => insKey (s.memberEst r row cls k, k) l) []

/-- Is reconstruction allowed for a read (R465, R466)? -/
def State.recAllowed (s : State) (u : UnitRead) : Bool :=
  match s.set? u.setid with
  | none => false
  | some r =>
    s.flag F.SCH_CTL_RECEN && decide (u.cls ≤ 1) && (s.row u.setid u.row).closed && decide (16 ≤ (s.pickable r u.member).length) &&
    (match u.who with
     | .recon _ _ => false
     | _ => true)

/-- The decision of R464 for a read, with suspension or reconstruction excluded where asked. -/
def State.slalom (s : State) (u : UnitRead) (susp : Bool) : Decision :=
  if u.cls = 2 then .wait
  else
    let d := s.sdie u.die
    let own := s.readTime u.die u.block u.slot + s.xTime u.die u.block u.slot
    let tWait := s.busyFor u.die + own
    let tSusp : Option Nat :=
      if !susp then none
      else match d.op with
        | some o =>
          if o.susp then (if o.holdOver then none else some own)
          else match d.suspOut with
            | some t => some (d.susplat - (s.ao.time - t) + own)
            | none => if s.suspAllowed u.die then some (d.susplat + own) else none
        | none => none
    let tRec : Option (Nat × List Nat) :=
      if s.recAllowed u then
        match s.set? u.setid with
        | some r =>
          let l := (s.byEst r u.row u.member u.cls).take 16
          some ((l.foldl (fun n x => max n x.1) 0) + 100 * s.fld F.SCH_SLALOM_RECOVH, l.map (·.2))
        | none => none
      else none
    let best : Nat × Decision := match tSusp with
      | some t => if t < tWait then (t, .suspend) else (tWait, .wait)
      | none => (tWait, .wait)
    match tRec with
    | some (t, picks) => if t < best.1 then .reconstruct picks else best.2
    | none => best.2

/-- Send SUSPEND for the running operation of a die (R459). -/
def State.sendSuspend (s : State) (die : Nat) : State :=
  let d := s.sdie die
  if d.suspOut.isNone && (match d.op with
      | some o => !o.susp
      | none => false) && s.canSend die then
    (s.control die .suspend).setSdie die fun d => { d with suspOut := some s.ao.time }
  else s

/-! ### Unit reads and reconstructions (R430, R466, R467) -/

/-- A new unit read. -/
def State.newRead (s : State) (u : UnitRead) : State × Nat :=
  (s.withDdk { s.ddk with reads := s.ddk.reads.ins s.ddk.nextRead u, nextRead := s.ddk.nextRead + 1 }, s.ddk.nextRead)

/-- The band that a read goes through. -/
def State.readBand (s : State) (u : UnitRead) : Nat :=
  let p := s.unitPlace u.die u.block u.slot
  bandKey u.die p.w p.k (s.retentionBin u.die u.block)

/-- Soft-first reads (R385). -/
def State.softFirst (s : State) (u : UnitRead) : Bool :=
  let p := s.unitPlace u.die u.block u.slot
  match s.usedBand u.die p.w p.k (s.retentionBin u.die u.block) with
  | some b => s.fld F.DDK_THR_SOFTFIRST (pkgOf u.die) < (s.band b).errs
  | none => false

/-- A die request for a unit read. -/
def State.readReq (s : State) (rid : Nat) (u : UnitRead) (soft : Bool) : DieReq :=
  { kind := if soft then .readSoft rid else .readHard rid, cls := u.cls, arrive := s.ao.time
    maint := match u.who with
      | .maint _ _ => true
      | _ => false }

/-- A read joins its die's queue; a read aimed at a die that is programming, erasing, benched or held is decided at once, with
reconstruction where the decision takes it (R464, R474). -/
def State.arriveWith (s : State) (rid : Nat) (soft : Bool) (recon : State → Nat → List Nat → State) : State :=
  match s.uread rid with
  | none => s
  | some u =>
    let s := (s.setRead rid fun u => { u with st := .queued }).queueRead u.die (s.readReq rid u soft)
    let d := s.sdie u.die
    if d.op.isNone && !d.benched && !d.held then s
    else match s.slalom u true with
      | .wait => s
      | .suspend => s.sendSuspend u.die
      | .reconstruct picks => recon (s.unqueue u.die rid) rid picks

/-- A member read never starts a reconstruction (R466). -/
def State.arriveMember (s : State) (rid : Nat) (soft : Bool) : State := s.arriveWith rid soft fun s _ _ => s

/-- Read member k of a reconstruction's row. -/
def State.readForRecon (s : State) (id : Nat) (c : Recon) (r : SetRec) (k : Nat) (final : Bool) : State :=
  let b := nth r.members k (0, 0)
  let u : UnitRead :=
    { who := .recon id k, die := b.1, block := b.2, slot := c.row, setid := c.setid, row := c.row, member := k, role := roleOf c.row k
      cls := c.cls, tenant := r.tenant, nsix := r.nsix, lba := 0, loCsn := 0, hiCsn := 0, st := .queued, out := .pending, arrive := s.ao.time
      soft := false, hardFailed := false, final := final, noRef := false, ref := none, recon := none, llr := [] }
  let (s, rid) := s.newRead u
  s.arriveMember rid (final || s.softFirst u)

/-- Start the reconstruction of a read's unit from 16 picked members (R430). -/
def State.startRecon (s : State) (rid : Nat) (picks : List Nat) : State :=
  match s.uread rid with
  | none => s
  | some u =>
    match s.set? u.setid with
    | none => s
    | some r =>
      let id := s.str.nextRecon
      let c : Recon :=
        { setid := u.setid, row := u.row, member := u.member, cls := u.cls, rid := rid, picked := picks, out := picks, good := [], bad := []
          retried := false }
      let s := s.withStr { s.str with recon := s.str.recon.ins id c, nextRecon := id + 1 }
      let s := s.setRead rid fun u => { u with recon := some id }
      picks.foldl (fun s k => s.readForRecon id c r k false) s

/-- A host, patrol or self-test read arrives at the scheduler. -/
def State.arrive (s : State) (rid : Nat) : State :=
  match s.uread rid with
  | none => s
  | some u => s.arriveWith rid (s.softFirst u) State.startRecon

/-! ### Where reads end -/

/-- Hand a host command its unit: the stored data and HMETA, a unit of zeros, or a failure. -/
def State.giveUnit (s : State) (r : CmdRef) (k : Nat) (out : RdOut) : State :=
  s.setCmd r fun c =>
    let i := if c.sqe.opc = 0x05 then c.nlb + k else k
    match out with
    | .ok info => { c with got := c.got.set i (info.data, info.hmeta + 2 ^ 128), blocks := c.blocks + 1 }
    | .zero => { c with blocks := c.blocks + 1 }
    | _ => { c with blocks := c.blocks + 1, status := .unrecoveredRead }

/-- The final reads of R431: every unreadable member that is not lost, the wanted one among them, with READ_SOFT and no SQWAIT limit. -/
def State.finalReads (s : State) (id : Nat) : State :=
  match s.str.recon.get? id with
  | none => s
  | some c =>
    match s.set? c.setid with
    | none => s
    | some r =>
      let ks := ((c.member :: c.bad).dedup).filter fun k => !r.memberLost k && !s.dieFailed (nth r.members k (0, 0)).1
      let c := { c with retried := true, out := c.out ++ ks, bad := c.bad.filter fun k => !ks.contains k }
      let s := s.withStr { s.str with recon := s.str.recon.ins id c }
      ks.foldl (fun s k => s.readForRecon id c r k true) s

/-- Members of a reconstruction not read yet. -/
def State.unread (s : State) (c : Recon) (r : SetRec) : List Nat :=
  (s.pickable r c.member).filter fun k => !c.picked.contains k

/-- A member read of a reconstruction has ended (R430, R467). -/
def State.memberDone (s : State) (id k : Nat) (ok : Bool) : State :=
  match s.str.recon.get? id with
  | none => s
  | some c =>
    let c := { c with out := c.out.filter (· != k), good := if ok then c.good ++ [k] else c.good, bad := if ok then c.bad else c.bad ++ [k] }
    let s := s.withStr { s.str with recon := s.str.recon.ins id c }
    if ok then s
    else match s.set? c.setid with
      | none => s
      | some r =>
        match s.unread c r with
        | n :: _ =>
          let c := { c with picked := c.picked ++ [n], out := c.out ++ [n] }
          (s.withStr { s.str with recon := s.str.recon.ins id c }).readForRecon id c r n false
        | [] => if c.out.isEmpty && decide (c.good.length < 16) && !c.retried then s.finalReads id else s

/-- An unreadable unit goes to reconstruction (R429, R430): 16 of the other members, or, where fewer can be read, those there are. -/
def State.toRecon (s : State) (rid : Nat) (u : UnitRead) : State :=
  match s.set? u.setid with
  | none => s
  | some r => s.startRecon rid (((s.byEst r u.row u.member u.cls).take 16).map (·.2))

/-- What the checks after decode give (R412, R413). -/
def State.checkUnit (s : State) (u : UnitRead) : RdOut :=
  match s.flashAt u.die u.block u.slot with
  | none => .unreadable
  | some f =>
    if !f.expected u.die u.block u.slot u.setid u.role then .unreadable
    else if f.trailer.pad then .zero
    else match u.who with
      | .host _ _ =>
        let i := f.info
        if i.dcrcOk && i.tenant == u.tenant && i.nsix == u.nsix && i.lba == u.lba && decide (u.loCsn < i.dcsn) && decide (i.dcsn ≤ u.hiCsn) then .ok i
        else .unreadable
      | _ => if u.role = 16 ∨ u.role = 17 ∨ (f.info.dcrcOk = true ∧ f.info.tenant = u.tenant) then .ok f.info else .unreadable

/-- A unit read is resolved with an outcome: it goes to its command, to its reconstruction, or is done with (R352, R386). -/
def State.resolveRead (s : State) (rid : Nat) (out : RdOut) : State :=
  match s.uread rid with
  | none => s
  | some u =>
    let s := s.setRead rid fun u => { u with st := .resolved, out := out }
    match u.who with
    | .host r k =>
      if out = .unreadable && u.recon.isNone then s.toRecon rid u
      else (s.giveUnit r k out).dropRead rid
    | .recon id k =>
      let ok := match out with
        | .ok _ => true
        | .zero => true
        | _ => false
      (s.dropRead rid).memberDone id k ok
    | .maint fn last =>
      let s := match fn with
        | some t => if last then s.setFn t FnState.selfTestStep else s
        | none => s
      s.dropRead rid

/-- The outcome of a decoded unit: the checks of the read path, with their counters (R412, STR_CNT 10). -/
def State.decoded (s : State) (rid : Nat) : State :=
  match s.uread rid with
  | none => s
  | some u =>
    let out := s.checkUnit u
    let s := if out = .unreadable then (s.countStr 10 1).countHealth u.nsix 3 1 else s
    s.resolveRead rid out

/-- The check of a reconstructed unit: a host read expects the contents that its lookup names (R412, R413), another read the contents of its
place. -/
def State.reconCheck (s : State) (u : UnitRead) (r : SetRec) (role : Nat) (i : Info) : RdOut :=
  if i = 0 then .zero
  else match u.who with
    | .host _ _ =>
      if i.dcrcOk && i.tenant == u.tenant && i.nsix == u.nsix && i.lba == u.lba && decide (u.loCsn < i.dcsn) && decide (i.dcsn ≤ u.hiCsn) then .ok i
      else .unreadable
    | _ => if s.contentOk u.setid r role false i then .ok i else .unreadable

/-- The outcome of a reconstruction from the members that read good, without Q or with it (R430, R431). -/
def State.reconOut (s : State) (c : Recon) (r : SetRec) (u : UnitRead) (useQ : Bool) : RdOut :=
  let avail := c.good.foldl (fun (a : AMap Info) k => match s.readMember c.setid r k c.row with
    | some x => a.ins (roleOf c.row k) x.1
    | none => a) []
  match recoverRow avail useQ with
  | some l => s.reconCheck u r (roleOf c.row c.member) (nth l (roleOf c.row c.member) 0)
  | none => .unreadable

/-- RECONSTRUCTION_COMPLETE (R430, R431): every member read is answered. A unit that passes its checks, first without Q and then with it,
resolves the read; if none does, the unread members are read once more, and then the row is lost. -/
def execReconstructionComplete (id : Nat) (s : State) : Outcome :=
  match s.str.recon.get? id with
  | none => .next s
  | some c =>
    match s.set? c.setid, s.uread c.rid with
    | some r, some u =>
      if c.out = [] then
        let first := s.reconOut c r u false
        let out := if first = .unreadable then s.reconOut c r u true else first
        let s := s.countStr 5 1
        let s := if first = .unreadable then s.countStr 6 1 else s
        if out ≠ .unreadable then
          let s := s.withStr { s.str with recon := s.str.recon.del id }
          .next ((s.countHealth u.nsix 1 1).resolveRead c.rid out)
        else if c.retried = false then .next (s.finalReads id)
        else
          let gone := (List.range 18).filter fun k => r.memberLost k || c.bad.contains k || (k == c.member && !c.good.contains k)
          let s := s.withStr { s.str with recon := s.str.recon.del id }
          let s := s.rowLost c.setid c.row 2 (gone.foldl (fun n k => n + 2 ^ k) 0)
          .next (s.resolveRead c.rid .lost)
      else .next s
    | _, _ => .next (s.withStr { s.str with recon := s.str.recon.del id })

/-! ### Sending (R456 to R458, R460, R461, R478 to R479, R497) -/

/-- The fault of R497: a read aimed at a block that is not bound is not sent. -/
def State.refuseRead (s : State) (rid : Nat) (u : UnitRead) : State :=
  let b := s.blk u.die u.block
  let st := match b.st with
    | .free => 0
    | .bound => 1
    | .eraseQueue => 2
    | .erasing => 3
    | .retired => 4
    | .factoryBad => 5
    | .system => 6
  (s.raise 0x038 2 2 [(2, u.die), (2, u.block), (1, st)]).resolveRead rid (match u.who with
    | .host _ _ => .lost
    | _ => .unreadable)

/-- Request a refresh of a block, with its trigger (R748): a superblock becomes a refresh victim, and a zone's member is replaced. -/
def State.requestRefresh (s : State) (die block trigger : Nat) : State :=
  let b := s.blk die block
  if b.st ≠ .bound ∨ b.refresh = true then s
  else
    let s := (s.putBlk die block { b with refresh := true }).raise 0x038 1 0 [(2, die), (2, block), (1, trigger)]
    if b.setid < 0x100000 ∨ s.med.victims.contains b.setid = true then s else s.withMed { s.med with victims := s.med.victims ++ [b.setid] }

/-- A read is sent to a block: RDC, and the refresh that RDLIM asks for (R490, R518). -/
def State.countRead (s : State) (die block : Nat) : State :=
  let b := s.blk die block
  let s := s.putBlk die block { b with rdc := b.rdc + 1 }
  if s.fld F.ZON_REFRESH_RDLIM ≤ min 65535 ((b.rdc + 1) / 1024) then s.requestRefresh die block 2 else s

/-- Send a unit read that stands at the head of its queue, or the SET_REF it needs first (R380, R381). Answers whether the read left the
queue. -/
def State.sendRead (s : State) (die : Nat) (q : DieReq) : State × Bool :=
  match q.kind.rid?.bind s.uread, q.kind.rid? with
  | some u, some rid =>
    if (s.blk u.die u.block).st ≠ .bound then (s.refuseRead rid u, true)
    else
      let p := s.unitPlace u.die u.block u.slot
      let r := s.retentionBin u.die u.block
      let s := ((s.checkDesc die).checkBand (bandKey die p.w p.k r)).touchBand die p.w p.k r
      let step : RefStep := match s.usedBand die p.w p.k r, s.descOf die, u.noRef with
        | some key, some _, false => s.refStep die key
        | _, _, _ => .plain
      let go (s : State) (ref : Option Nat) : State × Bool :=
        let s := s.setRead rid fun u => { u with st := .sent, ref := ref }
        let s := (s.sendReq die q).setSdie die fun d => { d with reads := d.reads + 1 }
        let soft := match q.kind with
          | .readSoft _ => true
          | _ => false
        let s := s.countRead die u.block
        let s := if p.straddles then s.countDdk (pkgOf die) 7 1 else s
        (if soft && !u.soft && u.st == .queued && !u.final && s.softFirst u then s.countDdk (pkgOf die) 8 1 else s, true)
      match step with
      | .plain => go s none
      | .use i => go (s.takeSlot die i) (some i)
      | .write i =>
        match s.usedBand die p.w p.k r with
        | some key =>
          let s := s.setRefSlot die i fun x => { x with st := 1, band := key % 512 }
          ((s.control die (.setRef i (key % 512))).countDdk (pkgOf die) 9 1, false)
        | none => (s, false)
      | .wait => (s, false)
  | _, _ => match q.kind with
    | .calRead block grp page _ =>
      match s.ddk.calib.get? (pkgOf die) with
      | some c =>
        if c.die = die ∧ c.block = block ∧ c.grp = grp then
          let w := grp / 64
          let k := (s.blk die block).wbin
          let r := s.retentionBin die block
          let s := (s.checkDesc die).checkBand (bandKey die w k r)
          let go (s : State) (ref : Option Nat) : State × Bool :=
            (((s.sendReq die { q with kind := .calRead block grp page ref }).setSdie die fun d => { d with reads := d.reads + 1 }).countRead die block, true)
          match s.usedBand die w k r, s.descOf die with
          | some key, some _ =>
            match s.refStep die key with
            | .plain => go s none
            | .use i => go (s.takeSlot die i) (some i)
            | .write i =>
              let s := s.setRefSlot die i fun x => { x with st := 1, band := key % 512 }
              ((s.control die (.setRef i (key % 512))).countDdk (pkgOf die) 9 1, false)
            | .wait => (s, false)
          | _, _ => go s none
        else (s, true)
      | none => (s, true)
    | _ => (s, true)

/-- The limit of the maintenance share in a window, in ns (R478). -/
def State.maintLimit (s : State) : Nat := s.fld F.SCH_WIN_WIN * s.fld F.SCH_WIN_MAINT * 10000

/-- A maintenance read of a die is outstanding (R479). -/
def State.maintOut (s : State) (die : Nat) : Bool := (s.link (pkgOf die)).tags.any fun t => t.2.die == die && t.2.req.maint

/-- May a class 2 read start? -/
def State.bgAllowed (s : State) (die : Nat) (q : DieReq) : Bool :=
  !q.maint || (decide ((s.sdie die).maintNs < s.maintLimit) && !s.maintOut die)

/-- What the scheduler takes of a queue: its first request, but in the queue of class 1 a maintenance read, which has aged (R447), only while its
share lets it start and no other read waits there (R478, R479). -/
def State.headOf (s : State) (die k : Nat) : Option DieReq :=
  let d := s.sdie die
  if k = 0 then d.q0.head?
  else if k = 1 then (d.q1.find? fun q => !q.maint).or (d.q1.find? fun q => s.bgAllowed die q)
  else d.q2.head?

/-- Send the request that a queue of a die has first. -/
def State.sendHead (s : State) (die k : Nat) : State :=
  match s.headOf die k with
  | none => s
  | some q =>
    let (s, gone) := s.sendRead die q
    if gone then
      s.setSdie die fun d => if k = 0 then { d with q0 := d.q0.erase q } else if k = 1 then { d with q1 := d.q1.erase q } else { d with q2 := d.q2.erase q }
    else s

/-- Start the program or erase at the head of the media-write queue (R456). An erase waits for the link's inhibit flags (R332). -/
def State.startWrite (s : State) (die : Nat) : State :=
  let d := s.sdie die
  match d.mw with
  | [] => s
  | q :: rest =>
    let op : DieOp := { req := q, start := s.ao.time, susp := false, suspAt := 0, suspTime := 0, suspN := 0, holdOver := false }
    let s := (s.sendReq die q).putSdie die { d with mw := rest, op := some op, noSusp := false }
    match q.kind with
    | .erase block _ => s.setBlk die block fun b => { b with st := .erasing }
    | _ => s

def State.writeReady (s : State) (die : Nat) (d : SDie) : Bool :=
  match d.mw with
  | [] => false
  | q :: _ => d.op.isNone && (match q.kind with
    | .erase block _ => (s.link (pkgOf die)).inh == 0 && !(s.blk die block).pin
    | _ => true)

/-- The head of the media-write queue has waited more than PGMWAIT. -/
def State.writeOverdue (s : State) (d : SDie) : Bool :=
  match d.mw with
  | [] => false
  | q :: _ => decide (1000 * s.fld F.SCH_PGM_PGMWAIT < s.ao.time - q.arrive)

/-- Serve a suspended die: its reads of class 0 and 1, then RESUME (R460, R461). -/
def State.serveSuspended (s : State) (die : Nat) (o : DieOp) : State :=
  let d := s.sdie die
  let waits := !d.q0.isEmpty || d.q1.any fun q => !q.maint
  if waits && !o.holdOver then
    if d.reads < s.fld F.SCH_SUSP_RQMAX then s.sendHead die (if d.q0.isEmpty then 1 else 0) else s
  else if d.reads = 0 ∧ (s.link (pkgOf die)).inh = 0 ∧ !((s.link (pkgOf die)).tags.any fun t => t.2.die == die && t.2.req.kind == .resume) then
    s.control die .resume
  else s

/-- The reads of a failed die are resolved as unreadable (R429). -/
def State.failReads (s : State) (die : Nat) : State :=
  let rs := (s.ddk.reads.filter fun e => e.2.die == die && (e.2.st == .queued || e.2.st == .sent || e.2.st == .softQueued || e.2.st == .hardDecoding)).map (·.1)
  let s := s.setSdie die fun d => { d with q0 := [], q1 := [], q2 := [], mw := [], reads := 0 }
  rs.foldl (fun s r => s.resolveRead r .unreadable) s

/-- DIE_DISPATCH: the scheduler sends the next request of a die by the precedence of R457 and R458. -/
def execDieDispatch (die : Nat) (s : State) : Outcome :=
  let d := s.sdie die
  let room := decide (d.reads < s.fld F.SCH_SUSP_RQMAX)
  if s.dieFailed die then .next (s.failReads die)
  else if s.hld.flush ≠ .none ∨ s.canSend die = false then .next s
  else match d.op with
    | some o => if o.susp then .next (s.serveSuspended die o) else .next s
    | none =>
      if !d.q0.isEmpty && room then .next (s.sendHead die 0)
      else if s.writeOverdue d && s.writeReady die d then .next (s.startWrite die)
      else if d.q0.isEmpty && (s.headOf die 1).isSome && room then .next (s.sendHead die 1)
      else if d.q0.isEmpty && (s.headOf die 1).isNone && s.writeReady die d then .next (s.startWrite die)
      else if d.q0.isEmpty && (s.headOf die 1).isNone && room then
        match d.q2 with
        | q :: _ => if s.bgAllowed die q then .next (s.sendHead die 2) else .next s
        | [] => .next s
      else .next s

/-- Decide reads that wait for a die, with suspension or without (R464). -/
def State.decideReads (s : State) (die : Nat) (rs : List Nat) (susp : Bool) : State :=
  rs.foldl (fun s rid => match s.uread rid with
    | none => s
    | some u => match s.slalom u susp with
      | .reconstruct picks => (s.unqueue die rid).startRecon rid picks
      | .suspend => s.sendSuspend die
      | .wait => s) s

/-- CLASS_AGEING_TIMEOUT: class 2 reads that have waited AGE ms are served as class 1 from then on (R447); those that wait for a busy or a benched
die are decided as such (R464). -/
def execClassAgeingTimeout (die : Nat) (s : State) : Outcome :=
  let lim := 1000000 * s.fld F.SCH_WIN_AGE
  let old (q : DieReq) : Bool := decide (q.arrive + lim ≤ s.ao.time)
  let rs := ((s.sdie die).q2.filter fun q => old q && !q.maint).filterMap fun q => q.kind.rid?
  let s := s.setSdie die fun d =>
    { d with q1 := d.q1 ++ ((d.q2.filter old).map fun q => { q with cls := 1 }), q2 := d.q2.filter fun q => !old q }
  let s := rs.foldl (fun s rid => s.setRead rid fun u => { u with cls := 1 }) s
  let d := s.sdie die
  .next (if d.op.isSome || d.benched || d.held then s.decideReads die rs true else s)

/-- Decide again the reads of class 0 and 1 that wait for a die, with suspension excluded (R461, R462). -/
def State.redecide (s : State) (die : Nat) : State :=
  let d := s.sdie die
  s.decideReads die ((d.q0 ++ d.q1).filterMap fun q => q.kind.rid?) false

/-- SUSPHOLD_EXPIRY: SUSPHOLD µs after the SUSPEND's DONE, no further read goes to the suspended die; it resumes once none is outstanding
(R461). -/
def execSuspholdExpiry (die : Nat) (s : State) : Outcome :=
  match (s.sdie die).op with
  | some o =>
    if o.susp then
      let s := s.setSdie die fun d => { d with op := some { o with holdOver := true } }
      let s := s.redecide die
      if s.hld.flush = .none ∧ s.canSend die = true then .next (s.serveSuspended die { o with holdOver := true }) else .next s
    else .next s
  | none => .next s

end Sys2Proof.Machine
end

