-- ==== Sys2Proof/Machine/MediaOps.lean ====
section
/-!
DEFINITION. What the end of a program or an erase does (R426 of spec/08_stripes.md; R469, R477 of spec/09_scheduling.md; R491, R494 to R496 of
spec/10_media_management.md).
-/

namespace Sys2Proof.Machine

/-! ### Estimates and die time (R469, R478) -/

/-- est + (sample − est) / 2^EWSHIFT, rounded down. -/
def State.ewma (s : State) (est sample : Nat) : Nat := (est * 2 ^ s.fld F.SCH_BENCH_EWSHIFT + sample - est) / 2 ^ s.fld F.SCH_BENCH_EWSHIFT

/-- Time since a request was sent, less the suspended intervals of the operation it names. -/
def State.opTime (s : State) (die sent : Nat) : Nat :=
  match (s.sdie die).op with
  | some o => s.ao.time - sent - o.suspTime - (if o.susp then s.ao.time - o.suspAt else 0)
  | none => s.ao.time - sent

/-- Charge the maintenance share with an operation's die time (R477, R478). -/
def State.chargeMaint (s : State) (die : Nat) (maint : Bool) (t : Nat) : State :=
  if maint then s.setSdie die fun d => { d with maintNs := d.maintNs + t } else s

/-- The die has ended its program or erase. -/
def State.clearOp (s : State) (die : Nat) : State := s.setSdie die fun d => { d with op := none, suspOut := none, noSusp := false }

/-! ### Programs (R426) -/

def State.setGroup (s : State) (key : Nat) (f : Group → Group) : State := s.withStr { s.str with groups := s.str.groups.adj key f }

/-- What a group's program leaves on flash, and the rows it completes (R405, R415). -/
def State.groupDone (s : State) (setid : Nat) (r : SetRec) (m grp : Nat) : State :=
  let b := nth r.members m (0, 0)
  let sp := s.groupSpan r m grp
  let s := (List.range sp.2).foldl (fun s i => match s.slotContent setid r m (sp.1 + i) with
    | some x => s.putFlash b.1 b.2 (sp.1 + i) (flashUnit b.1 b.2 (sp.1 + i) setid (roleOf (sp.1 + i) m) x)
    | none => s) s
  let s := s.setGroup (groupKey setid m grp) fun g => { g with st := .done, inhSince := none }
  s.closeRows setid r sp.1 sp.2

/-- The member of a group must be replaced. -/
def State.groupFails (s : State) (setid m grp : Nat) : State :=
  s.setGroup (groupKey setid m grp) fun g => { g with st := .failed, inhSince := none }

/-- Die fault: the event, and the second DONE 0x08 since the die's last erase fails it (R523). -/
def State.done08 (s : State) (die : Nat) : State :=
  let s := s.raise (0x0A0 + pkgOf die) 1 2 [(1, die % 64)]
  if s.med.done08.contains die then s.dieFail die 3 else s.withMed { s.med with done08 := s.med.done08 ++ [die] }

/-- How a program ended. -/
inductive ProgEnd where
  | code (n : Nat)
  | failed
  | linkFail
  deriving DecidableEq, Repr

/-- A group's program has ended (R426). One that the set no longer waits for changes nothing but its die. -/
def State.programEnd (s : State) (die sent setid m grp : Nat) (e : ProgEnd) : State :=
  let t := s.opTime die sent
  let s := s.clearOp die
  match s.set? setid with
  | none => s
  | some r =>
    if (nth r.members m (0, 0)).1 ≠ die ∨ s.groupState setid m grp ≠ some .sent then s
    else
      let block := (nth r.members m (0, 0)).2
      let tries := match s.str.groups.get? (groupKey setid m grp) with
        | some g => g.tries
        | none => 0
      let bad (s : State) : State := (s.groupFails setid m grp).retireBlock die block 1
      let again (s : State) (bit : Nat) : State :=
        (s.setGroup (groupKey setid m grp) fun g => { g with tries := g.tries + bit }).queueProgram setid r m grp
      match e with
      | .code 0 => (s.setSdie die fun d => { d with pgm := s.ewma d.pgm t }).groupDone setid r m grp
      | .code 6 => if tries % 2 = 1 then bad s else again s 1
      | .code 1 => bad s
      | .code 8 => (bad s).done08 die
      | .linkFail => if tries / 2 = 1 then s.groupFails setid m grp else again s 2
      | _ => s.groupFails setid m grp

/-! ### Erases (R494 to R496) -/

/-- The wear bin of an erase count under a link's descriptor (R373, R491). -/
def State.wearBin (s : State) (die pec : Nat) : Nat :=
  match s.ddk.desc.get? (pkgOf die) with
  | some d => (d.wb.filter fun b => b ≤ pec).length
  | none => 0

/-- Flash holds nothing in an erased block. -/
def State.wipeBlock (s : State) (die block : Nat) : State :=
  s.withMed { s.med with flash := s.med.flash.filter fun e => e.1 / 2 ^ 15 != die * 8192 + block }

/-- A superblock's handle returns once no block of its retired set waits for its erase (R494). -/
def State.returnHandle (s : State) (setid : Nat) : State :=
  if setid < 0x100000 ∨ 0x1F0000 ≤ setid ∨ (s.set? setid).isSome then s
  else if s.med.bit.any fun e => e.2.setid == setid && (e.2.st == .eraseQueue || e.2.st == .erasing) then s
  else if setid < 0x180000 then s.withZon { s.zon with sb := s.zon.sb.del (setid - 0x100000) }
  else s.withZon { s.zon with stg := s.zon.stg.del (setid - 0x180000) }

/-- How an erase ended: a DONE code, or no answer that says so. -/
def State.eraseEnd (s : State) (die sent block : Nat) (req : DieReq) (code : Option Nat) : State :=
  let t := s.opTime die sent
  let s := (s.clearOp die).chargeMaint die req.maint t
  let b := s.blk die block
  if b.st ≠ .erasing then s
  else
    let doneRec (s : State) : State := s.journal 0xFFFF s.jnl.csn (.eraseDone die block)
    let settle (s : State) : State := (s.returnHandle b.setid).afterLoss die
    if b.reason = 3 then
      settle (((doneRec s).putBlk die block { b with st := .retired }).wipeBlock die block)
    else match code with
      | some 0 =>
        let s := s.setSdie die fun d => { d with ers := s.ewma d.ers t }
        let s := doneRec s
        let s := s.putBlk die block
          { b with pec := min 65535 (b.pec + 1), wbin := s.wearBin die (b.pec + 1), st := s.erasedState block, refresh := false, rpt := false, rdc := 0
                   reason := 0, setid := 0, member := 0 }
        let s := s.withMed { s.med with done08 := s.med.done08.filter fun d => d != die }
        settle (s.wipeBlock die block)
      | some c =>
        if c = 2 ∨ c = 8 then
          let s := doneRec (s.queueErase die block 3)
          let s := s.retireBlock die block 2
          if c = 8 then s.done08 die else s
        else s.setSdie die fun d => { d with mw := req :: d.mw }
      | none => s.setSdie die fun d => { d with mw := req :: d.mw }

end Sys2Proof.Machine
end

