-- ==== Sys2Proof/Machine/Links.lean ====
section
/-!
DEFINITION. The link commands (R299 to R350 of spec/06_lozil_link.md): what each upstream frame does, timers, reissue, bridge resets, inhibit,
training, and the register writes RESETBR, RETRAIN and LINK_COUNTER_CLEAR.
-/

namespace Sys2Proof.Machine

/-- The number that bytes lo to hi of a payload hold; a byte of higher number is more significant. -/
def frameNum (f : Frame) (hi lo : Nat) : Nat := ofBytes ((f.payload.drop lo).take (hi + 1 - lo))

/-- A 16-bit two's complement number. -/
def signed16 (v : Nat) : Int := if v < 32768 then v else (v : Int) - 65536

/-! ### Resolving requests (R349) -/

/-- A read has left the bridge: the die's count, its reference slot, and the die time of maintenance (R381, R477). -/
def State.readBack (s : State) (t : TagRec) : State :=
  let slot := match t.req.kind with
    | .calRead _ _ _ ref => ref
    | _ => (t.req.kind.rid?.bind s.uread).bind fun u => u.ref
  let s := (s.setSdie t.die fun d => { d with reads := d.reads - 1 }).chargeMaint t.die t.req.maint (s.ao.time - t.sent)
  let s := s.leaveSlot t.die slot
  match t.req.kind.rid? with
  | some rid => s.setRead rid fun u => { u with ref := none }
  | none => s

/-- Reads of a die that wait for a band are sent without it from now on (R384). -/
def State.noRefs (s : State) (die band : Nat) : State :=
  s.withDdk { s.ddk with reads := s.ddk.reads.mapV fun _ u =>
    let p := s.unitPlace u.die u.block u.slot
    if u.die = die ∧ u.st = .queued ∧ s.usedBand die p.w p.k (s.retentionBin die u.block) = some (die * 512 + band) then { u with noRef := true } else u }

/-- A SET_REF has resolved (R381, R384). -/
def State.refDone (s : State) (die slot band : Nat) (ok : Bool) : State :=
  if ok then s.setRefSlot die slot fun x => { x with st := if x.st = 4 then 3 else if x.st = 1 then 2 else x.st }
  else (s.setRefSlot die slot fun _ => RefSlot.empty).noRefs die band

/-- A calibration sample ends with nothing changed: the block is unpinned (R393, R396, DDK_CNT 11). -/
def State.dropSample (s : State) (n : Nat) : State :=
  match s.ddk.calib.get? n with
  | none => s
  | some c =>
    let s := s.withDdk { s.ddk with calib := s.ddk.calib.del n }
    (s.setBlk c.die c.block fun b => { b with pin := false }).countDdk n 11 1

/-- A lane has passed its last phase: it is up, and its training has ended (R347). -/
def State.laneUp (s : State) (n k : Nat) : State :=
  let trigger := ((s.link n).lane k).trigger
  let before := s.linkUp n
  let s := (s.setLane n k fun x => { x with up := true, training := false, failed := false, attempts := 0 }).settleLink n
  let s := if trigger = 0 then s else s.raise (0x080 + n) 3 0 [(1, k), (1, trigger)]
  if !before && s.linkUp n then
    let l := s.link n
    let eq := l.lane0.upPreset + 16 * l.lane1.upPreset + 256 * l.lane0.dnPreset + 4096 * l.lane1.dnPreset
    (s.raise (0x080 + n) 0 0 [(1, b2n l.lane0.up + 2 * b2n l.lane1.up), (2, eq)]).rebudget
  else s

/-- Phase 4 ends once every bridge register has been answered for. -/
def State.configAnswered (s : State) (n : Nat) : State :=
  if (s.link n).tags.any fun t => match t.2.req.kind with
    | .bridgeCfg .. => true
    | .bridgeRead _ => true
    | _ => false
  then s
  else [0, 1].foldl (fun s k => let x := (s.link n).lane k; if x.training && x.phase == 4 then s.laneUp n k else s) s

/-- Resolve a request as failed: by a NAK or, with link set, as a link failure (R341, R342). -/
def State.requestFailed (s : State) (n : Nat) (t : TagRec) (link : Bool) : State :=
  match t.req.kind with
  | .readHard rid => (s.readBack t).resolveRead rid .unreadable
  | .readSoft rid => (s.readBack t).resolveRead rid .unreadable
  | .calRead .. => (s.readBack t).dropSample n
  | .program setid m grp => s.programEnd t.die t.sent setid m grp (if link then .linkFail else .failed)
  | .erase block _ => s.eraseEnd t.die t.sent block t.req none
  | .setRef slot band => s.refDone t.die slot band false
  | .suspend => s.setSdie t.die fun d => { d with suspOut := none }
  | .resume => s
  | .dieReset => s
  | .temp => s
  | .status q => s.setLink n fun l => { l with tags := l.tags.adj q fun t => { t with query := false } }
  | .bridgeCfg .. => s.configAnswered n
  | .bridgeRead _ => s.configAnswered n

/-- A DONE result code resolves a request (R315). -/
def State.doneWith (s : State) (n : Nat) (t : TagRec) (code : Nat) : State :=
  match t.req.kind with
  | .program setid m grp => s.programEnd t.die t.sent setid m grp (.code code)
  | .erase block _ => s.eraseEnd t.die t.sent block t.req (some code)
  | .setRef slot band => s.refDone t.die slot band (code == 0)
  | .suspend =>
    if code = 0 then
      s.setSdie t.die fun d => { d with
        suspOut := none, susplat := s.ewma d.susplat (s.ao.time - t.sent)
        op := d.op.map fun o => { o with susp := true, suspAt := s.ao.time, suspN := o.suspN + 1, holdOver := false } }
    else if code = 4 then (s.setSdie t.die fun d => { d with suspOut := none, noSusp := true }).redecide t.die
    else s.setSdie t.die fun d => { d with suspOut := none }
  | .resume =>
    s.setSdie t.die fun d => { d with
      lastResume := some s.ao.time
      op := d.op.map fun o => if o.susp then { o with susp := false, suspTime := o.suspTime + (s.ao.time - o.suspAt), holdOver := false } else o }
  | .bridgeCfg .. => s.configAnswered n
  | _ => s

/-- Reissue a request under a new tag, or give up after three (R338, R342). -/
def State.reissue (s : State) (n tag : Nat) : State :=
  match (s.link n).tags.get? tag with
  | none => s
  | some t =>
    if 3 ≤ t.reissues then
      let s := s.raise (0x080 + n) 4 1 [(1, t.die % 64), (1, t.req.kind.op), (2, tag)]
      let s := s.setLink n fun l => { l with tags := l.tags.del tag, quar := l.quar ++ [tag] }
      (s.requestFailed n t true).trainLink n 1 3
    else
      match (s.link n).freeTag with
      | none => s
      | some q =>
        let s := s.setLink n fun l => { l with tags := l.tags.del tag, quar := l.quar ++ [tag] }
        (s.sendUnder n q (t.reissues + 1) t.die t.req).linkCount n 4 1

/-- A response frame arrives under a tag: the request it answers, if one is outstanding; else it is discarded and counted, and ends the
quarantine of its tag (R306, R338). -/
def State.receive (s : State) (n : Nat) (f : Frame) : State × Option TagRec :=
  let s := s.linkCount n 10 1
  match (s.link n).tags.get? f.tag with
  | some t => (s, if t.die % 64 = f.die then some t else none)
  | none => ((s.setLink n fun l => { l with quar := l.quar.filter fun q => q != f.tag }).linkCount n 8 1, none)

/-! ### Inhibit flags and the status block (R318, R330, R331) -/

/-- The flags of a link as last reported. VSUP and DTEMP are those of the report. -/
def State.setInh (s : State) (n die inh vsup dtemp : Nat) : State :=
  if (s.link n).inh = inh then s
  else
    let s := (s.setLink n fun l => { l with inh := inh }).raise (0x0A0 + n) 0 1 [(1, die), (1, inh), (2, vsup), (2, dtemp)]
    if inh = 0 then s.resendInhibited n else s

/-- Take in the status block of STATUS_RSP and ALERT. -/
def State.statusBlock (s : State) (n : Nat) (f : Frame) : State :=
  let s := s.withLnk { s.lnk with temps := s.lnk.temps.ins (64 * n + f.die) (signed16 (frameNum f 5 4)) }
  s.setInh n f.die (frameNum f 3 3 % 16) (frameNum f 9 8) (frameNum f 5 4)

/-! ### The frame commands -/

/-- The page reads of a sample: four, and in every fourth sample of the band three more, which read one page with READ_SOFT (R393, R394). -/
def State.sampleReads (s : State) (band : Nat) : Nat := if (s.ddk.samples.getD band 0 + 1) % 4 = 0 then 7 else 4

/-- A page of a calibration sample has come: ask for the next one, if the sample still stands (R393, R394, R396). Which page has the most raw errors
is a free value here; a page of READ_SOFT takes three ranges (R309). -/
def State.samplePage (s : State) (n die block grp page : Nat) : State :=
  match s.ddk.calib.get? n with
  | none => s
  | some c =>
    if c.die = die ∧ c.block = block ∧ c.grp = grp then
      let c := { c with pages := c.pages + 1 }
      let s := s.withDdk { s.ddk with calib := s.ddk.calib.ins n c }
      let next := if page < 3 ∨ 4 ≤ page then page + 1 else 4 + 3 * (Config.freeNat s.free % 4)
      let s := if page = 3 then s.drew else s
      if c.pages < s.sampleReads c.band then
        s.setSdie c.die fun d => { d with
          q2 := d.q2 ++ [{ kind := .calRead c.block c.grp next none, cls := 2, arrive := s.ao.time, maint := true }] }
      else s
    else s

/-- The sample of rr of a read that was alone on its die (R469). -/
def State.sampleRr (s : State) (t : TagRec) (rid : Nat) : State :=
  match s.uread rid with
  | none => s
  | some u =>
    let p := s.unitPlace u.die u.block u.slot
    let tr := s.senseTime u.die p false
    if t.solo && decide (0 < tr) then
      s.setSdie t.die fun d => { d with rr := s.ewma d.rr (256 * (s.ao.time - t.sent - frameTime p.len) / tr) }
    else s

/-- RDATA: the hard-decision bytes of a read (R310, R385). -/
def execRdata (link : Nat) (f : Frame) (s : State) : Outcome :=
  match s.receive link f with
  | (s, some t) =>
    match t.req.kind with
    | .readHard rid =>
      let s := ((s.freeTag link f.tag).sampleRr t rid).readBack t
      .next (s.setRead rid fun u => { u with st := .hardDecoding })
    | .calRead block grp page _ =>
      if page < 4 then .next (((s.freeTag link f.tag).readBack t).samplePage link t.die block grp page) else .next s
    | _ => .next s
  | (s, none) => .next s

/-- SDATA: soft values, three bits for each bit of the range, which give the log-likelihood values for the soft engine (R366, R367). A soft-first read is decoded on its hard decisions first; another read's values join the soft engines' queue (R314,
R385). -/
def execSdata (link : Nat) (f : Frame) (s : State) : Outcome :=
  match s.receive link f with
  | (s, some t) =>
    match t.req.kind with
    | .readSoft rid =>
      let s := (s.freeTag link f.tag).readBack t
      match s.uread rid with
      | some u =>
        let llr := s.softValues u f.payload
        if u.hardFailed then
          .next (s.withDdk { s.ddk with
            reads := s.ddk.reads.adj rid fun u => { u with soft := true, llr := llr, st := .softQueued }
            softQ := s.ddk.softQ ++ [rid] })
        else .next (s.setRead rid fun u => { u with soft := true, llr := llr, st := .hardDecoding })
      | none => .next s
    | .calRead block grp page _ =>
      if 4 ≤ page then .next (((s.freeTag link f.tag).readBack t).samplePage link t.die block grp page) else .next s
    | _ => .next s
  | (s, none) => .next s

/-- DONE: the result of a program, erase, suspend, resume, reference write, bridge write or die reset (R315). -/
def execDone (link : Nat) (f : Frame) (s : State) : Outcome :=
  match s.receive link f with
  | (s, some t) =>
    match t.req.kind with
    | .readHard _ => .next s
    | .readSoft _ => .next s
    | .calRead .. => .next s
    | .status _ => .next s
    | .temp => .next s
    | .bridgeRead _ => .next s
    | _ => .next ((s.freeTag link f.tag).doneWith link t f.arg)
  | (s, none) => .next s

/-- BUSY: the read's die is programming or erasing, with the time that remains; the scheduler decides the read again (R316, R322, R464). -/
def execBusy (link : Nat) (f : Frame) (s : State) : Outcome :=
  let s := s.linkCount link 5 1
  match s.receive link f with
  | (s, some t) =>
    let s0 := ((s.freeTag link f.tag).setSdie t.die fun d => { d with busy := f.arg % 1024 * 10000, busyAt := s.ao.time })
    let front (s : State) : State := s.setSdie t.die fun d =>
      if t.req.cls = 0 then { d with q0 := t.req :: d.q0 } else if t.req.cls = 1 then { d with q1 := t.req :: d.q1 } else { d with q2 := t.req :: d.q2 }
    match t.req.kind.rid? with
    | some rid =>
      let s := front ((s0.readBack t).setRead rid fun u => { u with st := .queued })
      match s.uread rid with
      | none => .next s
      | some u => match s.slalom u true with
        | .wait => .next s
        | .suspend => .next (s.sendSuspend t.die)
        | .reconstruct picks => .next ((s.unqueue t.die rid).startRecon rid picks)
    | none => match t.req.kind with
      | .calRead .. => .next (front (s0.readBack t))
      | _ => .next s
  | (s, none) => .next s

/-- INHIBIT: a program returns to the stripe engine, an erase to its queue, and a RESUME leaves its operation suspended (R332, R462). The
frame carries no supply voltage, so the event's is a free value. -/
def execInhibit (link : Nat) (f : Frame) (s : State) : Outcome :=
  let s := s.linkCount link 6 1
  match s.receive link f with
  | (s, some t) =>
    let dtemp := (s.lnk.temps.getD t.die 0).emod 65536
    let vsup := Config.freeNat s.free % 65536
    let flags (s : State) : State := s.drew.setInh link f.die (f.arg % 16) vsup dtemp.toNat
    match t.req.kind with
    | .program setid m grp =>
      let s := ((s.freeTag link f.tag).clearOp t.die).setGroup (groupKey setid m grp) fun g => { g with inhSince := some s.ao.time }
      .next (flags s)
    | .erase .. =>
      let s := ((s.freeTag link f.tag).clearOp t.die).setSdie t.die fun d => { d with op := none, mw := t.req :: d.mw }
      .next (flags s)
    | .resume => .next (flags (s.freeTag link f.tag))
    | _ => .next s
  | (s, none) => .next s

/-- STATUS_RSP: temperatures and flags; and for a query, what became of the command it names (R339, R340). -/
def execStatusRsp (link : Nat) (f : Frame) (s : State) : Outcome :=
  match s.receive link f with
  | (s, some t) =>
    match t.req.kind with
    | .temp => .next ((s.freeTag link f.tag).statusBlock link f)
    | .status q =>
      let s := (s.freeTag link f.tag).statusBlock link f
      match (s.link link).tags.get? q with
      | some r =>
        if r.query then
          match frameNum f 1 1 with
          | 0 => .next (s.reissue link q)
          | 5 => .next (s.reissue link q)
          | 4 => .next ((s.freeTag link q).doneWith link r (frameNum f 2 2))
          | _ => .next (s.setLink link fun l => { l with tags := l.tags.adj q fun t => { t with query := false } })
        else .next s
      | none => .next s
    | _ => .next s
  | (s, none) => .next s

/-- NAK: reasons 1 and 3 reissue, any other resolves the request as failed; a die reported present that does not answer has failed (R317,
R341, R523). -/
def execNak (link : Nat) (f : Frame) (s : State) : Outcome :=
  let s := s.linkCount link 7 1
  match s.receive link f with
  | (s, some t) =>
    if f.arg = 1 ∨ f.arg = 3 then .next (s.reissue link f.tag)
    else
      let s := s.freeTag link f.tag
      let s := if f.arg = 4 ∧ (s.link link).dies.testBit f.die = true then s.dieFail t.die 1 else s
      .next (s.requestFailed link t false)
  | (s, none) => .next s

/-- ALERT: flags, die fault, or a temperature near TMAX; BOOTCNT is read (R319, R331, R343, R523). -/
def execAlert (link : Nat) (f : Frame) (s : State) : Outcome :=
  if f.tag = 0x3FF then
    let s := (s.linkCount link 10 1).statusBlock link f
    let die := 64 * link + f.die
    let s := if f.arg = 3 then (s.raise (0x0A0 + link) 1 2 [(1, f.die)]).dieFail die 2 else s
    .next (s.control (64 * link) (.bridgeRead 0x04))
  else .next ((s.linkCount link 10 1).linkCount link 8 1)

/-- The bridge has reset (R343, R383). -/
def State.bridgeReset (s : State) (n old new : Nat) : State :=
  let ts := (s.link n).tags
  let s := ts.foldl (fun s e => match e.2.req.kind with
    | .program setid m grp => (s.freeTag n e.1).programEnd e.2.die e.2.sent setid m grp .failed
    | _ => s.reissue n e.1) s
  let s := s.withDdk { s.ddk with slots := s.ddk.slots.filter fun e => pkgOf (e.1 / 16) != n }
  (s.writeBridge n).raise (0x0A0 + n) 2 1 [(4, old), (4, new)]

/-- REG_DATA: a bridge register's value; a changed BOOTCNT is a bridge reset (R334, R343). -/
def execRegData (link : Nat) (f : Frame) (s : State) : Outcome :=
  match s.receive link f with
  | (s, some t) =>
    match t.req.kind with
    | .bridgeRead addr =>
      let v := frameNum f 3 0
      let s := s.freeTag link f.tag
      let l := s.link link
      let s := match addr with
        | 0x00 => s.putLink link { l with id := v }
        | 0x04 =>
          let s := s.putLink link { l with bootcnt := v, bootKnown := true }
          if l.bootKnown && l.bootcnt != v then s.bridgeReset link l.bootcnt v else s
        | 0x08 => s.putLink link { l with dies := l.dies / 2 ^ 32 * 2 ^ 32 + v }
        | _ => s.putLink link { l with dies := v * 2 ^ 32 + l.dies % 2 ^ 32 }
      .next (s.configAnswered link)
    | _ => .next s
  | (s, none) => .next s

/-! ### Training (R344 to R348) -/

/-- A link whose lanes have all failed is FAILED, and its package with it: every outstanding request resolves as a link failure. -/
def State.linkFails (s : State) (n cause : Nat) : State :=
  let s := (s.raise (0x080 + n) 2 2 [(1, cause)]).packageFail n 1
  let ts := (s.link n).tags
  let s := s.setLink n fun l => { l with tags := [] }
  (ts.foldl (fun s e => match e.2.req.kind.rid? with
    | some rid => (s.readBack e.2).resolveRead rid .unreadable
    | none => s) s).rebudget

/-- A phase's attempt on a lane has failed: it is repeated, or the lane is out of service after ATTEMPTS. -/
def State.attemptFails (s : State) (n k : Nat) : State :=
  let x := (s.link n).lane k
  if x.attempts + 1 < s.fld F.LNK_RETRAIN_ATTEMPTS n then
    (s.setLane n k fun x => { x with attempts := x.attempts + 1 }).startPhase n k x.phase
  else
    let before := (s.link n).st
    let s := (s.setLane n k fun x => { x with up := false, training := false, failed := true }).raise (0x080 + n) 1 1 [(1, k), (1, x.phase)]
    let s := s.settleLink n
    if (s.link n).st = .failed then s.linkFails n (if x.phase ≤ 1 then 1 else 2)
    else if (s.link n).st = .degraded ∧ before ≠ .degraded then
      let l := s.link n
      if before = .training then
        let eq := l.lane0.upPreset + 16 * l.lane1.upPreset + 256 * l.lane0.dnPreset + 4096 * l.lane1.dnPreset
        (s.raise (0x080 + n) 0 0 [(1, b2n l.lane0.up + 2 * b2n l.lane1.up), (2, eq)]).rebudget
      else s.rebudget
    else s

/-- Go on to the next phase. -/
def State.nextPhase (s : State) (n k phase : Nat) : State := (s.setLane n k fun x => { x with attempts := 0 }).startPhase n k phase

/-- TRAIN_RSP: a training response counts in its lane's phase, and ends it once every response is in (R345, R347). errs is the number of bit
errors that the controller counts in the upstream pattern. -/
def execTrainRsp (link : Nat) (f : Frame) (errs : Nat) (s : State) : Outcome :=
  let s := s.linkCount link 10 1
  let x := (s.link link).lane f.lane
  if !x.training || f.arg / 512 % 8 != x.phase || decide (2 ≤ f.lane) then .next s
  else
    match x.phase with
    | 0 => .next (s.nextPhase link f.lane 1)
    | 1 =>
      let s := s.setLane link f.lane fun x => { x with frames := x.frames + 1, dnPreset := frameNum f 4 4 % 8 }
      if x.frames + 1 < 64 then .next s else .next (s.nextPhase link f.lane 2)
    | 2 =>
      let best := match x.best with
        | none => (errs, f.arg / 8 % 8)
        | some b => if errs < b.1 then (errs, f.arg / 8 % 8) else b
      let s := s.setLane link f.lane fun x => { x with frames := x.frames + 1, best := some best }
      if x.frames + 1 < 8 then .next s
      else .next ((s.setLane link f.lane fun x => { x with upPreset := best.2 }).nextPhase link f.lane 3)
    | 3 =>
      let last := if x.frames % 1024 = 0 then 0 else x.dnLast
      let dn := x.dnErrs + (if frameNum f 3 0 = last then 0 else 1)
      let up := x.errs + (if errs = 0 then 0 else 1)
      let s := s.setLane link f.lane fun x => { x with frames := x.frames + 1, errs := up, dnErrs := dn, dnLast := frameNum f 3 0 }
      if x.frames + 1 < 4096 then .next s
      else if up ≤ 1 ∧ dn ≤ 1 then .next (s.nextPhase link f.lane 4)
      else .next (s.attemptFails link f.lane)
    | _ => .next s

/-- TRAIN_DETECT_TIMER: in phase 0 another TRAIN is sent every 10 µs (R347). -/
def execTrainDetectTimer (link lane : Nat) (s : State) : Outcome :=
  let x := (s.link link).lane lane
  if x.training && x.phase == 0 then .next (s.sendTrain link 0) else .next s

/-- LINK_TRAINING_PHASE_TIMEOUT: a phase that has not met its pass condition in time ends the attempt (R347). -/
def execLinkTrainingPhaseTimeout (link lane : Nat) (s : State) : Outcome :=
  if lane < 2 ∧ ((s.link link).lane lane).training = true then .next (s.attemptFails link lane) else .next s

/-! ### Corrupt and partial frames (R301 to R304) -/

/-- CORRUPT_FRAME: a frame that fails HCRC or its frame CRC is discarded and counted; CRCN failures of a lane within WIN retrain it. -/
def execCorruptFrame (link lane : Nat) (hcrc : Bool) (s : State) : Outcome :=
  let s := s.linkCount link (if hcrc then 0 else 1) 1
  let x := (s.link link).lane lane
  if x.up then
    let times := s.ao.time :: x.crcTimes.filter fun t => s.ao.time < t + 1000000 * s.fld F.LNK_RETRAIN_WIN link
    let s := s.setLane link lane fun x => { x with crcTimes := times }
    if s.fld F.LNK_RETRAIN_CRCN link ≤ times.length then .next (s.trainLane link lane 1 1) else .next s
  else .next s

/-- FRAME_LENGTH_TIMEOUT: the frame is discarded and the hunt goes on (R302). -/
def execFrameLengthTimeout (link _lane : Nat) (s : State) : Outcome := .next (s.linkCount link 2 1)

/-- BURST_END: a frame that is not wholly received is discarded (R304). -/
def execBurstEnd (link _lane : Nat) (cut : Bool) (s : State) : Outcome := .next (if cut then s.linkCount link 2 1 else s)

/-! ### Timers and polls (R331, R336 to R339, R369) -/

/-- What a tag's expiry asks for. -/
def ReqKind.queried : ReqKind → Bool
  | .program .. => true
  | .erase .. => true
  | .suspend => true
  | .resume => true
  | .dieReset => true
  | _ => false

/-- TAG_TIMER_EXPIRY: reissue, or ask the bridge what became of the request (R339); TOUTN of them in a row retrain the link. -/
def execTagTimerExpiry (link tag : Nat) (s : State) : Outcome :=
  match (s.link link).tags.get? tag with
  | none => .next s
  | some t =>
    if s.linkUp link then
      let s := (s.linkCount link 3 1).setLink link fun l => { l with touts := l.touts + 1 }
      let s :=
        if t.req.kind.queried then
          if t.query then s
          else (s.setLink link fun l => { l with tags := l.tags.adj tag fun t => { t with query := true } }).control t.die (.status tag)
        else s.reissue link tag
      if s.fld F.LNK_RETRAIN_TOUTN link ≤ (s.link link).touts ∧ s.linkUp link = true then
        .next ((s.setLink link fun l => { l with touts := 0 }).trainLink link 1 2)
      else .next s
    else .next s

/-- QUARANTINE_EXPIRY: the tag is free again (R338). -/
def execQuarantineExpiry (link tag : Nat) (s : State) : Outcome :=
  .next (s.setLink link fun l => { l with quar := l.quar.filter fun q => q != tag })

/-- INHIBIT_POLL_TIMER: STATUS is polled while a flag is set (R331). QTAG 0x3FF names no command (R326). -/
def execInhibitPollTimer (link : Nat) (s : State) : Outcome :=
  if (s.link link).inh ≠ 0 ∧ s.canSend (64 * link) = true then .next (s.control (64 * link) (.status 0x3FF)) else .next s

/-- DIE_TEMP_POLL: TEMP is sent to a die (R369). -/
def execDieTempPoll (die : Nat) (s : State) : Outcome :=
  if (s.link (pkgOf die)).dies.testBit (die % 64) = true ∧ s.canSend die = true then .next (s.control die .temp) else .next s

/-! ### Register writes -/

/-- RESETBR: the bridge is reset and the link trains from phase 0 (R348). -/
def execResetbr (_a : Agent) (link : Nat) (s : State) : Outcome :=
  if s.flag F.LNK_CTL_EN link then .next (s.trainLink link 0 5) else .next s

/-- RETRAIN: both lanes train from phase 1 (R348). -/
def execRetrain (_a : Agent) (link : Nat) (s : State) : Outcome :=
  if s.flag F.LNK_CTL_EN link then .next (s.trainLink link 1 4) else .next s

/-- LINK_COUNTER_CLEAR: every LNK_CNT of the link reads 0. -/
def execLinkCounterClear (_a : Agent) (link : Nat) (s : State) : Outcome := .next (s.setLink link fun l => { l with cnt := [] })

end Sys2Proof.Machine
end

