-- ==== Sys2Proof/Machine/CheckCode.lean ====
section
/-!
DEFINITION. The DRAM check code (R604, R605 of spec/12_dram_memory_integrity.md): a Reed–Solomon code over GF(2^8) with 16 check bytes.
-/

namespace Sys2Proof.Machine

/-- A polynomial, coefficient of the highest power first, times (x − a^j). -/
def timesRoot (p : List Nat) (j : Nat) : List Nat := List.zipWith (· ^^^ ·) (p ++ [0]) (0 :: p.map fun c => gfMul c (gfPow 2 j))

/-- The generator polynomial: the product of (x − a^j) for j = 0 to 15. -/
def rsGenerator : List Nat := (List.range 16).foldl timesRoot [1]

/-- One step of the division by the generator: 16 remainder symbols and the next symbol. -/
def rsStep (rem : List Nat) (b : Nat) : List Nat :=
  let f := rem.headD 0 ^^^ b
  List.zipWith (· ^^^ ·) (rem.drop 1 ++ [0]) ((rsGenerator.drop 1).map fun g => gfMul g f)

/-- The 16 check symbols of a message, whose first symbol is the coefficient of the highest power (DEDUCED from the order of R604, log entry 164). -/
def rsCheck (msg : List Nat) : List Nat := msg.foldl rsStep (List.replicate 16 0)

/-- The message of a granule: 4 virtual symbols, bits 37 to 6 of its address, the least significant byte first, and its 64 data bytes. -/
def granuleMsg (a data : Nat) : List Nat := (toBytes 4 (a / 64) ++ toBytes 64 data).map fun b => b.toNat

/-- The 84 symbols of a granule's codeword (R604). -/
def granuleCodeword (a data : Nat) : List Nat := granuleMsg a data ++ rsCheck (granuleMsg a data)

/-- What is stored of it: data and check bytes. -/
def granuleStored (a data : Nat) : List Nat := (granuleCodeword a data).drop 4

/-- Syndrome j: the value of a word at a^j; all are 0 exactly for a codeword. -/
def rsSyndrome (w : List Nat) (j : Nat) : Nat := w.foldl (fun acc c => gfMul acc (gfPow 2 j) ^^^ c) 0

/-- Do the stored symbols of an address pass the check? -/
def granulePasses (a : Nat) (stored : List Nat) : Bool :=
  (List.range 16).all fun j => rsSyndrome (((toBytes 4 (a / 64)).map fun b => b.toNat) ++ stored) j == 0

/-- The device that holds stored symbol i, with 8 (×4) or 16 (×8) symbols of each (R605). -/
def symbolDevice (perDevice i : Nat) : Nat := i / perDevice

end Sys2Proof.Machine
end

