-- ==== Sys2Proof/Machine/Sram.lean ====
section
/-!
DEFINITION. On-chip SRAM (R50, R611 to R614 of spec/12_dram_memory_integrity.md): 32 banks of 2 MiB with the stripe-journal SRAM behind them, valid
bits, and the check bits of each byte.
-/

namespace Sys2Proof.Machine

/-- Bytes of a bank, and of the 32 banks. -/
def sramBank : Nat := 2097152
def sramSize : Nat := 32 * sramBank

/-- The bank of an offset; 32 is the stripe-journal SRAM, whose offsets follow (log entry 116). -/
def bankAt (off : Nat) : Nat := off / sramBank

/-- Is the valid bit of an offset's word set (R612)? -/
def Dram.sramValid (d : Dram) (off : Nat) : Bool := (d.sram.get? (off / 4)).isSome

/-- A byte; a word whose valid bit is clear reads as zero (R612). -/
def Dram.sramByte (d : Dram) (off : Nat) : Byte := ((d.sram.getD (off / 4) 0).extractLsb' (8 * (off % 4)) 8)

/-- Bits in error of a byte's 13 stored bits; a word whose valid bit is clear has good check bits. -/
def Dram.sramFlips (d : Dram) (off : Nat) : Nat :=
  if d.sramValid off then ((List.range 13).filter fun i => (d.sramErr.getD off 0).testBit i).length else 0

/-- Write a byte and its check bits only; the first write of a word makes its other bytes zero (R611, R612). -/
def Dram.sramWrite (d : Dram) (off : Nat) (b : Byte) : Dram :=
  let k := 8 * (off % 4)
  let w := d.sram.getD (off / 4) 0
  { d with
    sram := d.sram.ins (off / 4) ((w &&& ~~~((0xFF : BitVec 32) <<< k)) ||| (b.zeroExtend 32 <<< k))
    sramErr := if d.sramValid off then d.sramErr.del off else d.sramErr.filter fun e => e.1 / 4 != off / 4 }

/-- Clear every valid bit of the banks of a range (R613). -/
def State.clearSram (s : State) (lo hi : Nat) : State :=
  let away (k : Nat) : Bool := !(decide (lo ≤ k) && decide (k ≤ hi))
  s.withDrm { s.drm with
    sram := s.drm.sram.filter fun e => away (bankAt (4 * e.1))
    sramErr := s.drm.sramErr.filter fun e => away (bankAt e.1) }

/-- The corrected event, for the first correction in each second. -/
def State.sramEvent (s : State) : State :=
  let d := s.drm
  let sec := s.ao.time / 1000000000
  if d.sramSec = sec ∧ d.sramNow ≠ 0 then s.withDrm { d with sramNow := d.sramNow + 1 }
  else
    let prev := if d.sramSec + 1 = sec then d.sramNow else 0
    (s.withDrm { d with sramSec := sec, sramNow := 1, sramPrev := prev }).raise 0x048 0 0 [(4, prev)]

/-- Read a byte: a single error is corrected, counted and written back at once; two or more are detected (R611, R614). -/
def State.readSram (s : State) (off : Nat) : State × Option Byte :=
  let b := s.drm.sramByte off
  match s.drm.sramFlips off with
  | 0 => (s, some b)
  | 1 => ((s.withDrm { s.drm.sramWrite off b with sramCe := sat 32 (s.drm.sramCe + 1) }).sramEvent, some b)
  | _ => (s.withDrm { s.drm with sramUe := sat 32 (s.drm.sramUe + 1), sramLast := some off }, none)

/-- The bytes of a range that are in error. -/
def Dram.sramBad (d : Dram) (start n : Nat) : List Nat :=
  (d.sramErr.filter fun e => decide (start ≤ e.1) && decide (e.1 < start + n) && d.sramFlips e.1 != 0).map (·.1)

/-- A pass over a range of SRAM reads every byte (R622): what it corrects is written back, and what it cannot correct is only recorded. -/
def State.scrubSram (s : State) (start n : Nat) : State :=
  (s.drm.sramBad start n).foldl (fun s off => (s.readSram off).1) s

/-- The 64-byte granules of a list of offsets. -/
def granulesOf (offs : List Nat) : List Nat := (offs.map fun o => o / 64 * 64).dedup

end Sys2Proof.Machine
end

