-- ==== Sys2Proof/Machine/Dram.lean ====
section
/-!
DEFINITION. The DRAM controller, the training helpers and the scrubber (R586 to R626 of spec/12_dram_memory_integrity.md), with the commands
DRAM_WRITE_REQUEST, DRAM_READ_REQUEST, WRITE_AGE_TIMEOUT, REFRESH_DUE, MR4_POLL, ZQ_CALIBRATION_TIMER, OSCILLATOR_TIMER, TRAINING_OPERATION,
TRAINING_OPERATION_DONE, DELAY_SET, MODE_REGISTER_COMMAND, SCRUB_START, SCRUB_ABORT and SCRUB_PASS_END.
-/

namespace Sys2Proof.Machine

/-! ### The address map (R586, R588) -/

/-- Is a channel populated? -/
def State.chanOn (s : State) (n : Nat) : Bool := (s.fld F.DRM_CFG_CHEN).testBit n

def State.channels (s : State) : List Nat := (List.range 4).filter s.chanOn

/-- GiB of one rank of one sub-channel. -/
def State.rankGib (s : State) : Nat :=
  (if s.flag F.DRM_CFG_WIDTH then 4 else 8) * (if s.fld F.DRM_CFG_DENS = 1 then 2 else 1)

/-- The populated capacity in bytes. -/
def State.dramSize (s : State) : Nat := s.channels.length * 2 * (1 + s.fld F.DRM_CFG_RANKS) * s.rankGib * 2 ^ 30

/-- The sub-channel index i of an address. -/
def State.subIndex (s : State) (a : Nat) : Nat :=
  if s.channels.length = 4 then bits a 10 8 ^^^ bits a 21 19 ^^^ bits a 32 30 else bits a 9 8 ^^^ bits a 20 19 ^^^ bits a 31 30

/-- The local address L. -/
def State.localAddr (s : State) (a : Nat) : Nat :=
  if s.channels.length = 4 then bits a 35 11 * 256 + bits a 7 0 else bits a 35 10 * 256 + bits a 7 0

/-- Where an address lies. -/
structure DramPlace where
  ch : Nat
  sub : Nat
  rank : Nat
  bank : Nat
  row : Nat
  deriving DecidableEq, Repr

/-- Burst-index bits of a row beyond the low two, and bank bits, of the device geometry (PRESUMED from JESD79-5, log entry 30). -/
def State.burstBits (s : State) : Nat := if s.flag F.DRM_CFG_WIDTH then 4 else 5
def State.bankBits (s : State) : Nat := if s.fld F.DRM_CFG_DENS = 1 then 2 else 1

def State.dramPlace (s : State) (a : Nat) : DramPlace :=
  let i := s.subIndex a
  let l := s.localAddr a / 256
  let bg := l % 8
  let l := l / 8 / 2 ^ s.burstBits
  let bk := l % 2 ^ s.bankBits
  let l := l / 2 ^ s.bankBits
  let rk := if s.flag F.DRM_CFG_RANKS then l % 2 else 0
  let l := if s.flag F.DRM_CFG_RANKS then l / 2 else l
  ⟨i / 2, i % 2, rk, rk * 64 + bg * 8 + bk, l⟩

/-! ### Channels -/

def State.chan (s : State) (n : Nat) : Chan := s.drm.chans.getD n Chan.reset

def State.putChan (s : State) (n : Nat) (c : Chan) : State := s.withDrm { s.drm with chans := s.drm.chans.ins n c }

def State.setChan (s : State) (n : Nat) (f : Chan → Chan) : State := s.putChan n (f (s.chan n))

def Chan.sub (c : Chan) (k : Nat) : SubChan := if k = 0 then c.sub0 else c.sub1

def Chan.putSub (c : Chan) (k : Nat) (x : SubChan) : Chan := if k = 0 then { c with sub0 := x } else { c with sub1 := x }

def State.setSub (s : State) (n k : Nat) (f : SubChan → SubChan) : State := s.setChan n fun c => c.putSub k (f (c.sub k))

/-- Add to a counter of DRM_CH_CNT. -/
def State.countChan (s : State) (n i k : Nat) : State := s.setChan n fun c => { c with cnt := c.cnt.upd i 0 fun x => sat 64 (x + k) }

/-! ### Row activation tracking (R600 to R603) -/

def DramBank.closed : DramBank := ⟨none, [], 0⟩

/-- The lowest count of a table, at its lowest index. -/
def leastCount : List (Nat × Nat) → Option Nat
  | [] => none
  | (_, c) :: l => some (match leastCount l with
    | none => c
    | some d => min c d)

/-- Replace the first entry of a count. -/
def replaceCount (c r : Nat) : List (Nat × Nat) → List (Nat × Nat)
  | [] => []
  | (x, d) :: l => if d = c then (r, c + 1) :: l else (x, d) :: replaceCount c r l

/-- Count an activation of a row: the table after it, and the row's count (R600). -/
def countAct (t : List (Nat × Nat)) (r : Nat) : List (Nat × Nat) × Nat :=
  match t.find? fun e => e.1 == r with
  | some e => (t.map fun x => if x.1 = r then (r, x.2 + 1) else x, e.2 + 1)
  | none =>
    if t.length < 64 then (t ++ [(r, 1)], 1)
    else
      let c := (leastCount t).getD 0
      (replaceCount c r t, c + 1)

/-- The refresh management threshold that the devices of a rank report, if they require it: MR58 (PRESUMED from JESD79-5, log entry 30). -/
def Chan.rfmThreshold (c : Chan) (sub rank : Nat) : Option Nat :=
  let v := c.mr.getD (sub * 2 ^ 20 + rank * 2 ^ 16 + 58) 0
  if v.testBit 0 then some (8 * max 1 (bits v 4 1)) else none

/-- Open a row of a bank: an activation unless it is open already, with the neighbour refreshes and the refresh management that it brings
(R600 to R602). -/
def State.openBank (s : State) (p : DramPlace) : State :=
  let c := s.chan p.ch
  let sc := c.sub p.sub
  let b := sc.banks.getD p.bank DramBank.closed
  if b.row = some p.row then s
  else
    let (t, n) := countAct b.acts p.row
    let near := decide (s.fld F.DRM_CH_ACT_NRTHR p.ch ≤ n)
    let t := if near then t.map fun x => if x.1 = p.row then (p.row, 0) else x else t
    let raa := b.raa + 1
    let rfm := match c.rfmThreshold p.sub p.rank with
      | some k => if s.flag F.DRM_CH_ACT_RFM p.ch && decide (k ≤ raa) then some k else none
      | none => none
    let b : DramBank := ⟨some p.row, t, raa - rfm.getD 0⟩
    let s := s.setSub p.ch p.sub fun sc => { sc with banks := sc.banks.ins p.bank b }
    let s := if near then s.countChan p.ch 7 1 else s
    if rfm.isSome then s.countChan p.ch 8 1 else s

/-! ### Queues (R591 to R595) -/

/-- Is a hold of in-order mode still in force? -/
def State.holds (s : State) (x : SubChan) (h : OrderHold) : Bool :=
  if h.read then x.rq.any fun r => r.seq == h.seq else x.wq.any fun e => decide (e.seq < h.seq) && (s.dramPlace e.addr).bank == h.bank

/-- Is a bank in in-order mode? -/
def State.ordered (s : State) (ch sub bank : Nat) : Bool :=
  let x := (s.chan ch).sub sub
  x.holds.any fun h => h.bank == bank && s.holds x h

/-- A bank enters in-order mode, or stays in it for one reason more. -/
def State.holdOrder (s : State) (ch sub : Nat) (h : OrderHold) : State :=
  let new := !s.ordered ch sub h.bank
  let s := s.setSub ch sub fun x => { x with holds := x.holds ++ [h] }
  if new then s.countChan ch 6 1 else s

/-- Drop the holds that have ended. -/
def State.pruneHolds (s : State) (ch sub : Nat) : State :=
  s.setSub ch sub fun x => { x with holds := x.holds.filter fun h => s.holds x h }

/-- Issue a queued write: its granule holds the data, and is no longer uncorrectable (R610). -/
def State.issueWrite (s : State) (e : WqEntry) : State :=
  let p := s.dramPlace e.addr
  let s := s.setSub p.ch p.sub fun x => { x with wq := x.wq.filter fun w => w.seq != e.seq }
  let s := ((s.pruneHolds p.ch p.sub).openBank p).countChan p.ch 1 1
  s.withDrm { s.drm with mem := Mem.writeLE 0 64 s.drm.mem e.addr e.data, bad := s.drm.bad.filter fun a => a != e.addr }

/-- Queue a write; HIWM entries start a drain (R591). A queued read of its row puts the bank into in-order mode (R594). -/
def State.queueWrite (s : State) (a data : Nat) : State :=
  let p := s.dramPlace a
  let x := (s.chan p.ch).sub p.sub
  let s := match (x.rq.filter fun r => s.dramPlace r.addr == p).getLast? with
    | some r => s.holdOrder p.ch p.sub ⟨p.bank, true, r.seq⟩
    | none => s
  s.setSub p.ch p.sub fun x =>
    let wq := x.wq ++ [⟨a, data % 2 ^ 512, s.ao.time, x.next⟩]
    { x with wq := wq, next := x.next + 1, draining := x.draining || decide (s.fld F.DRM_CH_WQ_HIWM p.ch ≤ wq.length) }

/-- Is the channel of an address in service? -/
def State.dramLive (s : State) (a : Nat) : Bool := (s.chan (s.dramPlace a).ch).trained

/-- DRAM_WRITE_REQUEST: a whole, aligned granule joins its sub-channel's write queue (R589, R591). An address beyond the populated capacity
does not exist. -/
def execDramWriteRequest (addr data : Nat) (s : State) : Outcome :=
  if s.dramSize ≤ addr then .fault (.noSuchDramAddress addr)
  else
    let p := s.dramPlace addr
    if addr % 64 = 0 ∧ s.dramLive addr = true ∧ ((s.chan p.ch).sub p.sub).wq.length < 64 then .next (s.queueWrite addr data) else .next s

/-! ### Reads and the check code (R593, R604 to R610) -/

/-- Nonzero bytes of an error pattern: stored symbols in error. -/
def badSymbols : Nat → Nat → Nat
  | 0, _ => 0
  | n + 1, v => (if v % 256 = 0 then 0 else 1) + badSymbols n (v / 256)

/-- Stored symbols of a device (R605). -/
def State.devSymbols (s : State) : Nat := if s.flag F.DRM_CFG_WIDTH then 16 else 8

def State.markedDev (s : State) (ch sub : Nat) : Option Nat :=
  if sub = 0 then (if s.flag F.DRM_CH_MARK_MV0 ch then some (s.fld F.DRM_CH_MARK_DEV0 ch) else none)
  else (if s.flag F.DRM_CH_MARK_MV1 ch then some (s.fld F.DRM_CH_MARK_DEV1 ch) else none)

/-- Symbols in error, by device. -/
def State.symErrs (s : State) (sym : DramSyms) : List (Nat × Nat) :=
  (sym.errs.map fun e => (e.1, badSymbols s.devSymbols e.2)).filter fun e => e.2 != 0

/-- Is a granule with these errors correctable (R606)? -/
def State.correctable (s : State) (ch sub : Nat) (errs : List (Nat × Nat)) : Bool :=
  match s.markedDev ch sub with
  | none => decide ((errs.map (·.2)).sum ≤ 8)
  | some d => if s.devSymbols = 8 then decide (((errs.filter fun e => e.1 != d).map (·.2)).sum ≤ 4)
    else decide (((errs.filter fun e => e.1 != d).map (·.2)).sum = 0)

/-- Does the decoder name a virtual symbol: an error that it can locate, in the granule address (R606)? -/
def State.addressError (s : State) (ch sub : Nat) (errs : List (Nat × Nat)) (y : DramSyms) : Nat :=
  let v := badSymbols 4 y.virt
  if v = 0 then 0
  else b2n (match s.markedDev ch sub with
    | none => decide ((errs.map (·.2)).sum + v ≤ 8)
    | some d => if s.devSymbols = 8 then decide (((errs.filter fun e => e.1 != d).map (·.2)).sum + v ≤ 4) else false)

/-- Mark a device (R607, R619). Why it was marked is a diagnostic code that the spec gives no value. -/
def State.markDevice (s : State) (ch sub dev : Nat) : State :=
  let s := if sub = 0 then (s.putFld F.DRM_CH_MARK_MV0 ch 0 1).putFld F.DRM_CH_MARK_DEV0 ch 0 dev
    else (s.putFld F.DRM_CH_MARK_MV1 ch 0 1).putFld F.DRM_CH_MARK_DEV1 ch 0 dev
  s.drew.raise (0x058 + ch) 2 1 [(1, sub), (1, dev), (1, s.diagCode)]

/-- Attribute a correction, and mark the device once DEVTHR of them fell within DEVWIN ms (R607). -/
def State.attribute (s : State) (ch sub : Nat) (errs : List (Nat × Nat)) : State :=
  match (errs.map (·.1)).dedup with
  | [d] =>
    let since := s.ao.time - 1000000 * s.fld F.DRM_ECC_DEVWIN
    let s := s.setSub ch sub fun x => { x with attrib := ((d, s.ao.time) :: x.attrib).filter fun e => since ≤ e.2 }
    let n := (((s.chan ch).sub sub).attrib.filter fun e => e.1 == d).length
    if s.flag F.DRM_ECC_AUTOMARK && decide (s.fld F.DRM_ECC_DEVTHR ≤ n) && (s.markedDev ch sub).isNone then s.markDevice ch sub d else s
  | _ => s

/-- The corrected event, for the first correction of a channel in each second. -/
def State.correctedEvent (s : State) (ch : Nat) : State :=
  let c := s.chan ch
  let sec := s.ao.time / 1000000000
  if c.ceSec = sec ∧ c.ceNow ≠ 0 then s.putChan ch { c with ceNow := c.ceNow + 1 }
  else
    let prev := if c.ceSec + 1 = sec then c.ceNow else 0
    (s.putChan ch { c with ceSec := sec, ceNow := 1, cePrev := prev }).raise (0x058 + ch) 0 0 [(4, prev)]

/-- A correction: counted, attributed, and its write-back queued at once, or dropped where a write of the granule came after the read (R607, R609;
log entry 159). It passes a full queue. -/
def State.corrected (s : State) (r : RqEntry) (data : Nat) (errs : List (Nat × Nat)) : State :=
  let p := s.dramPlace r.addr
  let s := ((s.countChan p.ch 2 1).correctedEvent p.ch).attribute p.ch p.sub errs
  let wq := ((s.chan p.ch).sub p.sub).wq
  if wq.any fun e => e.addr == r.addr && decide (r.seq < e.seq) then s.countChan p.ch 5 1
  else
    (if wq.length < 64 then s.queueWrite r.addr data else s.issueWrite ⟨r.addr, data % 2 ^ 512, s.ao.time, ((s.chan p.ch).sub p.sub).next⟩).countChan p.ch 4 1

/-- An uncorrectable granule: it stays so until written whole (R610, R615). Who consumed it is a diagnostic code without a fixed value. -/
def State.uncorrectable (s : State) (a addrErr : Nat) : State :=
  let p := s.dramPlace a
  let s := s.withDrm { s.drm with bad := if s.drm.bad.contains a then s.drm.bad else s.drm.bad ++ [a] }
  (s.countChan p.ch 3 1).drew.raise (0x058 + p.ch) 1 2 [(8, a), (1, s.diagCode), (1, addrErr)]

/-- Refreshes in a full refresh cycle of a bank (PRESUMED from JESD79-5, log entry 30). -/
def State.refreshCycle (s : State) (ch : Nat) : Nat :=
  8192 * (if s.flag F.DRM_CH_REF_FGR ch then 2 else 1) * (if s.flag F.DRM_CH_REF_SB ch then 2 ^ s.bankBits else 1)

/-- Issue refreshes of a rank back to back: its rows close, and a full cycle clears the tables of its banks (R598, R603). -/
def State.refreshRank (s : State) (ch sub rank k : Nat) : State :=
  let n := ((s.chan ch).sub sub).refreshed.getD rank 0 + k
  let cycle := s.refreshCycle ch
  let whole := decide (cycle ≤ n)
  let thr := k * ((s.chan ch).rfmThreshold sub rank).getD 0
  s.setSub ch sub fun x => { x with
    refreshed := x.refreshed.ins rank (if whole then n - cycle else n)
    postponed := x.postponed.ins rank 0
    banks := x.banks.mapV fun q b => if q / 64 = rank then { b with row := none, raa := b.raa - thr, acts := if whole then [] else b.acts } else b }

/-- Has a rank a read queued? -/
def State.readsOf (s : State) (ch sub rank : Nat) : Bool := ((s.chan ch).sub sub).rq.any fun r => (s.dramPlace r.addr).rank == rank

/-- Once a rank's read queue empties, its postponed refreshes are issued (R598). -/
def State.refreshFreed (s : State) (ch sub rank : Nat) : State :=
  let k := ((s.chan ch).sub sub).postponed.getD rank 0
  if k = 0 ∨ s.readsOf ch sub rank = true then s else s.refreshRank ch sub rank k

/-- Answer a read that is issued: the granule is decoded, its symbols in error given (R606 to R610). -/
def State.decodeRead (s : State) (r : RqEntry) : State :=
  let p := s.dramPlace r.addr
  let data := Mem.readLE 0 64 s.drm.mem r.addr
  let errs := s.symErrs r.sym
  if s.drm.bad.contains r.addr || r.sym.virt % 2 ^ 32 != 0 || !s.correctable p.ch p.sub errs then
    s.uncorrectable r.addr (s.addressError p.ch p.sub errs r.sym)
  else if errs.isEmpty then s.send (.dram r.addr data)
  else (s.corrected r data errs).send (.dram r.addr data)

/-- Issue a queued read (R591). -/
def State.issueRead (s : State) (r : RqEntry) : State :=
  let p := s.dramPlace r.addr
  let s := s.setSub p.ch p.sub fun x => { x with rq := x.rq.filter fun w => w.seq != r.seq }
  let s := ((s.pruneHolds p.ch p.sub).openBank p).countChan p.ch 0 1
  (s.decodeRead r).refreshFreed p.ch p.sub p.rank

/-- A queued command. -/
inductive DramCmd where
  | rd (r : RqEntry)
  | wr (e : WqEntry)
  deriving DecidableEq, Repr

def DramCmd.seq : DramCmd → Nat
  | .rd r => r.seq
  | .wr e => e.seq

def DramCmd.addr : DramCmd → Nat
  | .rd r => r.addr
  | .wr e => e.addr

/-- Insert a command in arrival order. -/
def insCmd (c : DramCmd) : List DramCmd → List DramCmd
  | [] => [c]
  | d :: l => if c.seq < d.seq then c :: d :: l else d :: insCmd c l

/-- The commands of a bank that arrived before one, in arrival order. -/
def State.before (s : State) (ch sub : Nat) (c : DramCmd) : List DramCmd :=
  let x := (s.chan ch).sub sub
  let all := (x.rq.map DramCmd.rd ++ x.wq.map DramCmd.wr).filter fun d => decide (d.seq < c.seq) && (s.dramPlace d.addr).bank == (s.dramPlace c.addr).bank
  all.foldl (fun l d => insCmd d l) []

def State.issueCmd (s : State) : DramCmd → State
  | .rd r => s.issueRead r
  | .wr e => s.issueWrite e

/-- Issue a command; a bank in in-order mode issues those that arrived before it first (R593, R594). -/
def State.issue (s : State) (ch sub : Nat) (c : DramCmd) : State :=
  let s := if s.ordered ch sub (s.dramPlace c.addr).bank then (s.before ch sub c).foldl (fun s d => s.issueCmd d) s else s
  s.issueCmd c

/-- Issue the oldest write of a sub-channel. -/
def State.drainOne (s : State) (ch sub : Nat) : State :=
  match ((s.chan ch).sub sub).wq with
  | [] => s
  | e :: _ => s.issue ch sub (.wr e)

/-- Issue the oldest write; a drain goes on while more than LOWM are left (R591). -/
def State.drainNext (s : State) (ch sub : Nat) : State :=
  (s.drainOne ch sub).setSub ch sub fun x => { x with draining := decide (s.fld F.DRM_CH_WQ_LOWM ch < x.wq.length) }

/-- What a sub-channel issues next: a write while it drains, else its oldest read, else, its read queue being empty, its oldest write (R591,
R592). -/
def State.subStep (s : State) (ch sub : Nat) : State :=
  let x := (s.chan ch).sub sub
  if x.draining then s.drainNext ch sub
  else match x.rq with
    | r :: _ => s.issue ch sub (.rd r)
    | [] => if x.wq.isEmpty then s else s.drainNext ch sub

def State.drainStep (s : State) : State := s.channels.foldl (fun s n => (s.subStep n 0).subStep n 1) s

/-- Drain a sub-channel's whole write queue, in arrival order, before any read (R596). -/
def State.drainAll (s : State) (ch sub : Nat) : State :=
  (((s.chan ch).sub sub).wq.foldl (fun s e => s.issueWrite e) s).setSub ch sub fun x => { x with draining := false }

def State.drainEverything (s : State) : State :=
  s.channels.foldl (fun s n => (s.drainAll n 0).drainAll n 1) s

def State.queuesEmpty (s : State) : Bool := s.channels.all fun n => (s.chan n).sub0.wq.isEmpty && (s.chan n).sub1.wq.isEmpty

/-- Queue a read; a queued write of its row puts the bank into in-order mode (R593). -/
def State.joinReads (s : State) (a : Nat) (sym : DramSyms) : State :=
  let p := s.dramPlace a
  let x := (s.chan p.ch).sub p.sub
  let s := if x.wq.any fun e => s.dramPlace e.addr == p then s.holdOrder p.ch p.sub ⟨p.bank, false, x.next⟩ else s
  s.setSub p.ch p.sub fun x => { x with rq := x.rq ++ [⟨a, sym, x.next⟩], next := x.next + 1 }

/-- DRAM_READ_REQUEST: the read is queued. With no drain running and no read ahead of it, it is issued at once; another waits for them (R589, R591,
R593, R604 to R610). -/
def execDramReadRequest (addr : Nat) (sym : DramSyms) (s : State) : Outcome :=
  if s.dramSize ≤ addr then .fault (.noSuchDramAddress addr)
  else
    let p := s.dramPlace addr
    let x := (s.chan p.ch).sub p.sub
    if addr % 64 = 0 ∧ s.dramLive addr = true ∧ x.rq.length < 64 then
      let t := s.joinReads addr sym
      .next (if x.draining || !x.rq.isEmpty then t else t.issue p.ch p.sub (.rd ⟨addr, sym, x.next⟩))
    else .next s

/-- WRITE_AGE_TIMEOUT: the oldest queued write has waited WMAXAGE µs, and a drain starts (R592). -/
def execWriteAgeTimeout (ch sub : Nat) (s : State) : Outcome :=
  if ch < 4 ∧ sub < 2 ∧ (s.chan ch).trained = true ∧ ((s.chan ch).sub sub).wq.isEmpty = false then .next (s.drainNext ch sub) else .next s

/-! ### Refresh and calibration (R597 to R603, R621) -/

/-- REFRESH_DUE: postponed while a read of the rank is queued and fewer than PPMAX are, and issued otherwise, with those postponed (R598). A flush
ends postponement (R596). -/
def execRefreshDue (ch sub rank : Nat) (s : State) : Outcome :=
  if ch < 4 ∧ sub < 2 ∧ rank ≤ s.fld F.DRM_CFG_RANKS ∧ (s.chan ch).trained = true then
    let k := ((s.chan ch).sub sub).postponed.getD rank 0
    if s.readsOf ch sub rank ∧ k < s.fld F.DRM_CH_REF_PPMAX ch ∧ s.drm.flushRefresh = false then
      let s := (s.setSub ch sub fun x => { x with postponed := x.postponed.ins rank (k + 1) }).countChan ch 9 1
      .next (if k + 1 = s.fld F.DRM_CH_REF_PPMAX ch then s.refreshRank ch sub rank (k + 1) else s)
    else .next (s.refreshRank ch sub rank (k + 1))
  else .next s

/-- MR4_POLL: the refresh rate that the devices report (R597). -/
def execMr4Poll (ch mult : Nat) (s : State) : Outcome :=
  if ch < 4 ∧ (s.chan ch).trained = true then .next (s.setChan ch fun c => { c with mr4 := mult }) else .next s

/-- ZQ_CALIBRATION_TIMER (R621). -/
def execZqCalibrationTimer (ch : Nat) (s : State) : Outcome :=
  if ch < 4 ∧ (s.chan ch).trained = true then .next (s.setChan ch fun c => { c with zq := c.zq + 1 }) else .next s

/-- Move every TX delay of a channel: kinds 0 and 1 (R621). -/
def Chan.moveTx (c : Chan) (drift : Nat) : Chan :=
  { c with dly := c.dly.mapV fun k v => if k / 256 ≤ 1 then (v + drift) % 4096 else v }

/-- OSCILLATOR_TIMER: the devices' oscillator is run, and a drift beyond OSCTHR moves the TX delays (R621). -/
def execOscillatorTimer (ch drift : Nat) (s : State) : Outcome :=
  if ch < 4 ∧ (s.chan ch).trained = true then
    let far := decide (s.fld F.DRM_CH_MNT_OSCTHR ch < drift)
    .next (s.setChan ch fun c => let c := { c with osc := c.osc + 1 }; if far then c.moveTx drift else c)
  else .next s

/-! ### Training (R617 to R620) -/

/-- Zero fill of a channel: every granule of it is zero with good check bits (R618). -/
def State.zeroFill (s : State) (ch : Nat) : State :=
  s.withDrm { s.drm with
    mem := s.drm.mem.filter fun c => (s.dramPlace c.1).ch != ch
    bad := s.drm.bad.filter fun a => (s.dramPlace a).ch != ch }

/-- Full training of a channel passes: it holds zeros and is in service (R617, R618). -/
def State.trainChan (s : State) (ch : Nat) : State :=
  (s.zeroFill ch).setChan ch fun c => { c with trained := true, sub0 := SubChan.reset, sub1 := SubChan.reset }

/-- Training of a channel failed: the event, whose phase and lanes the state gives (R619). -/
def State.trainFailed (s : State) (ch phase : Nat) : State :=
  s.raise (0x058 + ch) 3 3 [(1, phase), (8, (s.chan ch).fail)]

/-- A write of DRM_TRN_CTL: GO starts an operation unless one runs; out of range it is discarded whole (R745). -/
def State.writeTrnCtl (s : State) (a : Agent) (ch v : Nat) : State :=
  if outOfRange .DRM_TRN_CTL v then s.raiseDiscarded (offOf .DRM_TRN_CTL ch) a else
  let s := s.putReg ⟨.DRM_TRN_CTL, ch, 0⟩ v
  if v.testBit 31 && !(s.chan ch).busy then s.setChan ch fun c => { c with busy := true, fail := 0 } else s

/-- TRAINING_OPERATION. -/
def execTrainingOperation (a : Agent) (ch v : Nat) (s : State) : Outcome := if ch < 4 then .next (s.writeTrnCtl a ch v) else .next s

/-- The captured burst in DRM_TRN_CAP. -/
def State.putBurst (s : State) (ch : Nat) (burst : List Byte) : State :=
  (List.range 20).foldl (fun s i => s.putReg ⟨.DRM_TRN_CAP, ch, i⟩ (ofBytes ((burst.drop (4 * i)).take 4))) s

/-- TRAINING_OPERATION_DONE: the sticky fail bit of each lane, and the first failing burst raw. -/
def execTrainingOperationDone (ch fail : Nat) (first : Option Nat) (burst : List Byte) (s : State) : Outcome :=
  if ch < 4 ∧ (s.chan ch).busy = true then
    let s := s.setChan ch fun c => { c with busy := false, fail := fail % 2 ^ 40, first := first }
    .next (if first.isSome then s.putBurst ch burst else s)
  else .next s

/-- A write of DRM_TRN_DLY: SET applies VALUE; out of range it is discarded whole (R745). -/
def State.writeTrnDly (s : State) (a : Agent) (ch v : Nat) : State :=
  if outOfRange .DRM_TRN_DLY v then s.raiseDiscarded (offOf .DRM_TRN_DLY ch) a else
  let s := s.putReg ⟨.DRM_TRN_DLY, ch, 0⟩ v
  if v.testBit 31 then
    s.setChan ch fun c => { c with dly := c.dly.ins (bits v 30 28 * 256 + bits v 27 20) (bits v 11 0) }
  else s

/-- DELAY_SET. -/
def execDelaySet (a : Agent) (ch v : Nat) (s : State) : Outcome := if ch < 4 then .next (s.writeTrnDly a ch v) else .next s

/-- A write of DRM_MR_CMD: GO issues a mode register read, whose value is given, or a write to every device of the rank. -/
def State.writeMrCmd (s : State) (ch v rdata : Nat) : State :=
  let s := s.putReg ⟨.DRM_MR_CMD, ch, 0⟩ v
  let key := bits v 29 29 * 2 ^ 20 + bits v 28 28 * 2 ^ 16 + bits v 23 16
  if !v.testBit 31 then s
  else if v.testBit 30 then
    s.setChan ch fun c => { c with rdata := rdata % 256, mr := c.mr.ins (key + 256 * bits v 27 24) (rdata % 256) }
  else s.setChan ch fun c => { c with mr := (List.range 10).foldl (fun m d => m.ins (key + 256 * d) (bits v 15 8)) c.mr }

/-- MODE_REGISTER_COMMAND. -/
def execModeRegisterCommand (_a : Agent) (ch v rdata : Nat) (s : State) : Outcome :=
  if ch < 4 then .next (s.writeMrCmd ch v rdata) else .next s

/-! ### The scrubber (R622 to R625) -/

def State.setScrub (s : State) (f : Scrub → Scrub) : State := s.withDrm { s.drm with scrub := f s.drm.scrub }

/-- Is the range of MEM_SCR_ADDR and MEM_SCR_LEN refused (R623)? -/
def State.scrubRefused (s : State) (sram : Bool) : Nat :=
  let a := s.fld F.MEM_SCR_ADDR_START
  let n := s.fld F.MEM_SCR_LEN_LEN
  if s.drm.scrub.busy then 1
  else if a % 64 ≠ 0 ∨ n % 64 ≠ 0 ∨ n = 0 ∨ (if sram then 67108864 else s.dramSize) < a + n then 2 else 0

def State.startScrub (s : State) : State :=
  let sram := s.flag F.MEM_SCR_CTL_TARGET
  match s.scrubRefused sram with
  | 0 => s.setScrub fun x => { x with
      busy := true, aborted := false, result := 0, sram := sram, start := s.fld F.MEM_SCR_ADDR_START, len := s.fld F.MEM_SCR_LEN_LEN
      began := s.ao.time, progress := 0 }
  | k => s.setScrub fun x => { x with result := k }

def State.abortScrub (s : State) : State := s.setScrub fun x => if x.busy then { x with aborted := true } else x

/-- A write of MEM_SCR_CTL: out of range it is discarded whole (R745). -/
def State.writeScrCtl (s : State) (a : Agent) (v : Nat) : State :=
  let r : RegRef := ⟨.MEM_SCR_CTL, 0, 0⟩
  if bits v 15 8 < 1 ∨ 128 < bits v 15 8 then s.raiseDiscarded r.off a
  else
    let s := s.putReg r v
    let s := if v.testBit 1 then s.abortScrub else s
    if v.testBit 0 then s.startScrub else s

/-- SCRUB_START (R622, R623). -/
def execScrubStart (a : Agent) (v : Nat) (s : State) : Outcome := .next (s.writeScrCtl a v)

/-- SCRUB_ABORT (R624). -/
def execScrubAbort (_a : Agent) (s : State) : Outcome := .next s.abortScrub

/-- The granules of the part of a pass that is done, that are uncorrectable. -/
def State.scrubFound (s : State) (n : Nat) : List Nat :=
  let x := s.drm.scrub
  if x.sram then granulesOf ((s.drm.sramBad x.start n).filter fun o => 1 < s.drm.sramFlips o)
  else s.drm.bad.filter fun a => x.start ≤ a && a < x.start + n

/-- The granules that the pass corrects: those of SRAM whose errors are all single (R614). DRAM errors come with the reads of commands. -/
def State.scrubFixed (s : State) (n : Nat) : Nat :=
  let x := s.drm.scrub
  if x.sram then ((granulesOf (s.drm.sramBad x.start n)).filter fun g => !(s.scrubFound n).contains g).length else 0

/-- Insert an address in order. -/
def insAddr (x : Nat) : List Nat → List Nat
  | [] => [x]
  | y :: ys => if x ≤ y then x :: y :: ys else y :: insAddr x ys

/-- The summary record of R625. -/
def State.scrubRecord (s : State) (n : Nat) (found : List Nat) : List Byte :=
  let x := s.drm.scrub
  let addrs := (found.foldl (fun l a => insAddr a l) []).take 16
  let body := toBytes 4 0x53435242 ++ toBytes 1 (b2n x.sram) ++ toBytes 1 (b2n x.aborted) ++ toBytes 1 addrs.length ++ toBytes 1 0 ++
    toBytes 8 x.start ++ toBytes 8 x.len ++ toBytes 8 n ++ toBytes 8 (s.scrubFixed n) ++ toBytes 8 found.length ++ toBytes 8 0 ++
    toBytes 8 (s.ao.time - x.began) ++ toBytes 8 x.began ++ toBytes 8 0 ++ (addrs.flatMap fun a => toBytes 8 a) ++
    toBytes (8 * (16 - addrs.length)) 0 ++ toBytes 44 0
  body ++ toBytes 4 (crc32cBytes body)

/-- SCRUB_PASS_END: the pass has covered its range, or ends at a granule that nothing fixes after an ABORT (R624, R625). -/
def execScrubPassEnd (s : State) : Outcome :=
  let x := s.drm.scrub
  if x.busy then
    let n := if x.aborted then 64 * (Config.freeNat s.free % (x.len / 64 + 1)) else x.len
    let found := s.scrubFound n
    let rec_ := s.scrubRecord n found
    let fixed := s.scrubFixed n
    let s := if x.sram then s.scrubSram x.start n else s
    let s := s.drew.setScrub fun x => { x with busy := false, progress := 100 * n / x.len, rec_ := rec_ }
    .next (s.raise 0x049 0 0 [(1, b2n x.sram), (1, b2n x.aborted), (6, 0), (4, fixed), (4, found.length)])
  else .next s

end Sys2Proof.Machine
end

