-- ==== Sys2Proof/Machine/Power.lean ====
section
/-!
DEFINITION. Power domains and wake pins (R627 to R650 of spec/13_power_domains.md), with the commands DOMAIN_COMMAND, HANDSHAKE_REPLY,
HANDSHAKE_DELAY_EXPIRY, QUIESCE_DONE, DOMAIN_ENTRY_COMPLETE, DOMAIN_RETURN_COMPLETE, DOMAIN_RETURN_FAILED, and WAKE_PIN_CHANGE.
-/

namespace Sys2Proof.Machine

/-! ### The domains (R630) -/

def domains : Nat := 148

/-- CLASS of PWR_DOM: 0 F, 1 L, 2 B, 3 C, 4 S, 5 E, 6 K, 7 M, 8 Q, 9 P, 10 V, 11 H. -/
def domClass (d : Nat) : Nat :=
  if d < 64 then 6 else if d < 72 then 5 else if d < 88 then 3 else if d < 92 then 1 else if d < 96 then 7
  else if d < 98 then 9 else if d < 102 then 8 else if d < 135 then 4 else if d = 136 then 10 else if d = 137 then 11
  else if d = 139 then 2 else if d = 144 then 0 else 1

/-- The nine handshake domains. -/
def domHs (d : Nat) : Bool := (92 ≤ d && d ≤ 97) || d == 134 || d == 136 || d == 137

/-- Has a domain a Retention state? -/
def domRet (d : Nat) : Bool := !(96 ≤ d && d ≤ 101)

def State.chanDoms (s : State) : List Nat := s.channels.map fun n => 92 + n

/-- What a domain requires. -/
def State.requires (s : State) (d : Nat) : List Nat :=
  let own :=
    if d < 32 then [143]
    else if d < 64 then (d - 32) :: s.chanDoms
    else if d < 72 then []
    else if d < 88 then (88 + (d - 72) / 4) :: (List.range 8).map (102 + ·)
    else if d < 92 then (List.range 8).map (102 + ·)
    else if d < 96 then [72]
    else if d < 98 then
      (if d = 97 then [100, 101] else if s.ao.bifur then [98, 99] else [98, 99, 100, 101]) ++ [138, 139, 140, 141, 142, 143, 136, 137, 72]
    else if d < 110 then []
    else if d < 134 then s.chanDoms
    else if d = 135 then [139, 140, 142]
    else if d = 139 then (List.range 24).map (110 + ·) ++ s.chanDoms
    else if d = 140 ∨ d = 141 then s.chanDoms
    else if d = 142 then [134, 139] ++ s.chanDoms
    else []
  if d = 144 then [] else own ++ [144]

def State.dom (s : State) (d : Nat) : Domain := s.pwr.doms.getD d Domain.reset

def State.putDom (s : State) (d : Nat) (x : Domain) : State := s.withPwr { s.pwr with doms := s.pwr.doms.ins d x }

def State.setDom (s : State) (d : Nat) (f : Domain → Domain) : State := s.putDom d (f (s.dom d))

/-- On 2, Retention 1, Off 0 (R631). -/
def DomState.level : DomState → Nat
  | .on => 2
  | .retention => 1
  | _ => 0

/-- The code of a state in PWR_DOM and in events: 0 On, 1 Retention, 2 Off, 3 entering, 4 returning. -/
def DomState.code : DomState → Nat
  | .on => 0
  | .retention => 1
  | .off => 2
  | .entering => 3
  | .returning => 4

/-- The state that the order of R631 counts: an entering domain its state before, a returning one On. -/
def Domain.level (x : Domain) : Nat :=
  match x.st with
  | .entering => x.prev.level
  | .returning => 2
  | y => y.level

def State.isOn (s : State) (d : Nat) : Bool := (s.dom d).st == .on

/-- Domains that require d, at once. -/
def State.dependents (s : State) (d : Nat) : List Nat := (List.range domains).filter fun e => (s.requires e).contains d

/-- The order of R631 holds with d at a level. -/
def State.orderOk (s : State) (d lvl : Nat) : Bool :=
  (s.dependents d).all (fun e => (s.dom e).level ≤ lvl) && (s.requires d).all fun e => lvl ≤ (s.dom e).level

/-! ### Wake sets (R647, R648) -/

def State.inWakeSet (s : State) (p d : Nat) : Bool := (s.fld F.PWR_WAKE_SET_DOMS p (d / 32)).testBit (d % 32)

def State.wakeSet (s : State) (p : Nat) : List Nat := (List.range domains).filter fun d => s.inWakeSet p d

/-- Requirements of some domains, and theirs. -/
def State.closure (s : State) : Nat → List Nat → List Nat
  | 0, ds => ds
  | n + 1, ds => s.closure n (ds ++ ds.flatMap s.requires).dedup

/-- The domains of a pin's wake set with every requirement. -/
def State.wakeAll (s : State) (p : Nat) : List Nat := s.closure 9 (s.wakeSet p)

/-- Is a pin asserted (R647)? -/
def State.asserted (s : State) (p : Nat) : Bool := s.pwr.pins.testBit p == s.flag F.PWR_WAKE_CFG_POL p

/-- A level-mode pin that is asserted holds a domain (R648). -/
def State.heldByPin (s : State) (d : Nat) : Bool :=
  (List.range 8).any fun p => s.flag F.PWR_WAKE_CFG_EN p && !s.flag F.PWR_WAKE_CFG_EDGE p && s.asserted p && (s.wakeAll p).contains d

/-! ### Commands (R632, R633, R643, R644) -/

/-- The link unit or front end, or capture, is in use (R632). -/
def State.inUse (s : State) (d : Nat) : Bool :=
  if d < 64 then s.flag F.LNK_CTL_EN (d % 32)
  else if d = 135 then s.cap.rings.any fun e => e.2.st != .idle
  else false

/-- A way remains to return a port to On (R633). -/
def State.returnPath (s : State) (d : Nat) : Bool :=
  s.isOn (193 - d) || s.isOn 146 || (List.range 8).any fun p => s.flag F.PWR_WAKE_CFG_EN p && s.inWakeSet p d

def domTarget : Nat → DomState
  | 0 => .on
  | 1 => .retention
  | _ => .off

/-- The result of a command (PWR_CMD_STAT.RESULT). A flush accepts no new entry (R650); the result that it gives is our choice (log entry
31). -/
def State.domResult (s : State) (d t : Nat) : Nat :=
  let x := s.dom d
  let tgt := domTarget t
  if domains ≤ d then 1
  else if t = 3 ∨ (t = 1 ∧ !domRet d) ∨ (t = 1 ∧ x.st = .off) ∨ (d = 97 ∧ t = 0 ∧ !s.ao.bifur) then 2
  else if x.st = tgt ∨ ((x.st = .entering ∨ x.st = .returning) ∧ x.target = tgt) then 8
  else if x.st = .entering then (if t = 0 then 0 else 4)
  else if x.st = .returning then 4
  else if t ≠ 0 ∧ s.hld.flush ≠ .none then 4
  else if !s.orderOk d tgt.level then 3
  else if t = 0 then 0
  else if s.heldByPin d then 5
  else if s.inUse d then 6
  else if (d = 96 ∨ d = 97) ∧ !s.returnPath d then 7
  else 0

/-- Begin a return (R635). -/
def State.beginReturn (s : State) (d : Nat) : State :=
  let x := s.dom d
  if x.st = .retention ∨ x.st = .off then
    s.putDom d { x with st := .returning, prev := x.st, target := .on, ap := 7, since := s.ao.time }
  else s

/-- Ask that an entry be abandoned: cause 8 for a command, 9 for a flush, else a wake pin; the event's cause is a diagnostic code (R639). -/
def State.abandonEntry (s : State) (d cause : Nat) : State :=
  let x := s.dom d
  if x.st = .entering ∧ x.abandon = none then s.putDom d { x with abandon := some cause } else s

/-- The domain is as though no entry had been requested; the command or wake event that abandoned an entry from Retention then returns it to On
(R639). -/
def State.undoEntry (s : State) (d : Nat) : State :=
  let x := s.dom d
  let s := (s.putDom d { x with st := x.prev, ap := 7, result := 3, abandon := none, waiting := false, delays := 0 }).drew.raise (0x120 + d) 2 0
    [(1, x.target.code), (1, x.ap), (1, s.diagCode)]
  if x.abandon = some 9 then s else s.beginReturn d

/-- An abort point is reached: the entry is abandoned there if that was asked (R637, R639). -/
def State.atPoint (s : State) (d ap : Nat) : State :=
  let s := s.setDom d fun x => { x with ap := ap }
  if (s.dom d).abandon.isSome then s.undoEntry d else s

/-- Begin an entry: AP0 is passed, and a domain without a handshake passes AP1 at once (R637). -/
def State.beginEntry (s : State) (d : Nat) (t : DomState) : State :=
  let x := s.dom d
  let s := s.putDom d { x with
    st := .entering, prev := x.st, target := t, ap := 0, delays := 0, waiting := false, abandon := none, since := s.ao.time }
  if domHs d then s else s.atPoint d 1

/-- A write of PWR_CMD (R643, R644). -/
def State.writePwrCmd (s : State) (v : Nat) : State :=
  let d := bits v 7 0
  let t := bits v 9 8
  let res := s.domResult d t
  let s := s.withPwr { s.pwr with cmdDom := d, cmdRes := res, lockok := if res = 0 ∧ t ≠ 0 ∧ d = 136 then v.testBit 11 else s.pwr.lockok }
  if res ≠ 0 then s
  else if t = 0 then (if (s.dom d).st = .entering then s.abandonEntry d 8 else s.beginReturn d)
  else s.beginEntry d (domTarget t)

/-- DOMAIN_COMMAND. -/
def execDomainCommand (_a : Agent) (v : Nat) (s : State) : Outcome := .next (s.writePwrCmd v)

/-! ### Handshakes (R640, R641) -/

/-- Slots of records not yet on both copies (STR_JTAIL.SLOTS). -/
def State.tailSlots (s : State) : Nat := (s.jnl.recs.filter fun r => !r.onBoth).foldl (fun n r => n + r.body.slots) 0

/-- The reason for which an agent refuses, if it does. -/
def State.hsRefuses (s : State) (d : Nat) (t : DomState) : Option Nat :=
  if d < 96 then
    (if t = .off ∧ (!s.zon.ns.isEmpty ∨ s.med.bit.any (fun e => e.2.st == .bound)) then some 6 else none)
  else if d < 98 then
    (if s.host.fns.any fun e => s.portOf e.1 == d - 96 && (e.2.en || e.2.bme) then some 1 else none)
  else if d = 137 then (if s.hld.flush ≠ .none then some 3 else if s.hld.resv ≠ 0 ∨ s.tailSlots ≠ 0 then some 2 else none)
  else if d = 136 then
    (if t = .off ∧ !s.pwr.lockok ∧ s.sec.tenants.any (fun e => e.2.tkvol && e.2.claimed && !e.2.locked) then some 4 else none)
  else if s.tailSlots ≠ 0 ∨ s.str.rows.any (fun e => e.2.opened && !e.2.closed) then some 5
  else none

/-- Does a scrub pass cover part of a channel? A pass over DRAM is taken to cover every channel. -/
def State.scrubCovers (s : State) : Bool := s.drm.scrub.busy && !s.drm.scrub.sram

/-- Does an agent delay? -/
def State.hsDelays (s : State) (d : Nat) : Bool :=
  if d < 96 then
    let c := s.chan (d - 92)
    !c.sub0.wq.isEmpty || !c.sub1.wq.isEmpty || s.scrubCovers || (c.sub0.postponed ++ c.sub1.postponed).any fun x => x.2 != 0
  else if d < 98 then s.host.cqs.any fun e => s.portOf (e.1 / 65536) == d - 96 && 0 < e.2.unsig
  else if d = 137 then s.hld.test.running
  else if d = 136 then 0 < s.sec.writes || s.sec.compacting || s.sec.mbBusy || s.sec.tenants.any fun e => e.2.env.isSome
  else !s.jnl.pages.isEmpty

/-- The entry ends refused (R640). -/
def State.refuseEntry (s : State) (d reason : Nat) : State :=
  let x := s.dom d
  (s.putDom d { x with st := x.prev, ap := 7, result := 2, reason := reason, abandon := none, waiting := false, delays := 0 }).raise (0x120 + d) 1 1
    [(1, x.target.code), (1, reason)]

/-- HANDSHAKE_REPLY: the agent grants, refuses or delays, as the table of R641 has it (R640). -/
def execHandshakeReply (dom : Nat) (reply : HsReply) (s : State) : Outcome :=
  let x := s.dom dom
  if domHs dom = true ∧ x.st = .entering ∧ x.ap = 0 ∧ x.waiting = false then
    match reply, s.hsRefuses dom x.target with
    | .refuse, some r => .next (s.refuseEntry dom r)
    | .grant, none => if s.hsDelays dom then .next s else .next ((s.setDom dom fun x => { x with delays := 0 }).atPoint dom 1)
    | .delay us, none =>
      if s.hsDelays dom = true ∧ 1 ≤ us ∧ us ≤ 65535 then
        (if s.fld F.PWR_HS_CFG_HSMAX ≤ x.delays + 1 then .next (s.refuseEntry dom 7)
          else .next (s.putDom dom { x with delays := x.delays + 1, waiting := true }))
      else .next s
    | _, _ => .next s
  else .next s

/-- HANDSHAKE_DELAY_EXPIRY: the agent is asked again (R640). -/
def execHandshakeDelayExpiry (dom : Nat) (s : State) : Outcome :=
  if (s.dom dom).st = .entering ∧ (s.dom dom).waiting = true then .next (s.setDom dom fun x => { x with waiting := false }) else .next s

/-! ### Entry (R637, R638, R642) -/

/-- The stripe engine closes partly filled stripes early (R638). -/
def State.closeAllPartial (s : State) : State := s.partStripes.foldl (fun s x => s.closeEarly x.2.2) s

/-- May the work in hand of a domain be finished? The stripe engine waits until HLD_RESV is zero (R638). -/
def State.quiesced (s : State) (d : Nat) : Bool := d != 142 || s.hld.resv == 0

/-- QUIESCE_DONE: step 2 ends at AP2 (R637, R638). While the stripe engine still holds reserved credit, its partly filled stripes close early
and it waits. -/
def execQuiesceDone (dom : Nat) (s : State) : Outcome :=
  let x := s.dom dom
  if x.st = .entering ∧ x.ap = 1 ∧ x.prev = .on then
    (if s.quiesced dom then .next (s.atPoint dom 2) else .next s.closeAllPartial)
  else .next s

/-- Lock a tenant with TKVOL set: its TK leaves the vault, with the event (R566, R642). -/
def State.lockTenant (s : State) (t : Nat) : State :=
  let x := s.tsec t
  if x.claimed && x.tkvol && !x.locked then (s.setTsec t fun x => { x with locked := true, tk := none }).raiseT 0x041 4 0 t [] else s

/-- What a domain loses at step 5 of an entry to Off. -/
def State.loseDomain (s : State) (d : Nat) : State :=
  if d < 32 then s.putLink d Link.reset
  else if 92 ≤ d ∧ d < 96 then (s.zeroFill (d - 92)).setChan (d - 92) fun c => { c with trained := false }
  else if d = 96 ∨ d = 97 then s.putPort (d - 96) { s.port (d - 96) with up := false, rate := 0, width := 0, flit := false }
  else if d = 135 then s.withCap Capture.reset
  else if d = 136 then s.sec.tenants.foldl (fun s e => s.lockTenant e.1) (s.withSec { s.sec with st := 0, resp0 := Responder.reset, resp1 := Responder.reset, ide := [] })
  else if d = 137 then s.withHld { s.hld with bank := .uncharged, vbank := 0, test := .none, again := false, result := 0 }
  else if d = 138 then s.withCol Colander.reset
  else if d = 139 then s.withBpm Bpm.reset
  else if d = 143 then s.withSch Sched.reset
  else if d = 145 then s.withBoot { s.boot with op := none, result := 0 }
  else if d = 146 then s.withMgt Mgmt.reset
  else if d = 144 then s.withPwr { s.pwr with dark := true }
  else s

/-- The entry is complete (step 5), with its event. -/
def State.completeEntry (s : State) (d : Nat) : State :=
  let x := s.dom d
  let s := s.putDom d { x with st := x.target, ap := 7, result := 1, abandon := none }
  let s := s.raise (0x120 + d) 0 0 [(1, x.target.code)]
  if x.target = .off then s.loseDomain d else s

/-- DOMAIN_ENTRY_COMPLETE: steps 3 to 5, with AP3 and AP4 on the way; from Retention, step 5 alone (R637). -/
def execDomainEntryComplete (dom : Nat) (s : State) : Outcome :=
  let x := s.dom dom
  if x.st = .entering ∧ ((x.prev = .on ∧ x.ap = 2) ∨ (x.prev = .retention ∧ x.ap = 1)) then
    (if x.abandon.isSome then .next (if x.prev = .on then s.atPoint dom 3 else s.undoEntry dom) else .next (s.completeEntry dom))
  else .next s

/-! ### Return (R634 to R636, R642) -/

/-- The vault starts: its self-test has passed, the store is loaded from the copies that are current, and every tenant with TKVOL set is locked
(R538, R566, R584, R634). -/
def State.vaultStart (s : State) : State :=
  let st := if s.sec.storeA && s.sec.storeB then 1 else if s.sec.storeA || s.sec.storeB then 2 else 3
  let s := s.withSec { s.sec with st := st, trng := true }
  if st = 3 then s.withSec { s.sec with tenants := [], keys := [] }
  else s.sec.tenants.foldl (fun s e => s.lockTenant e.1) s

/-- A soft engine that had faulted is in service again once it has been Off (log entry 35). -/
def State.engineBack (s : State) (e : Nat) : State :=
  if s.ddk.engFault.contains e then
    let none_ := decide (8 ≤ s.ddk.engFault.length)
    let s := (s.withDdk { s.ddk with engFault := s.ddk.engFault.filter fun x => x != e }).raise (0x050 + e) 1 0 [(1, 0)]
    if none_ then s.raise 0x04A 1 0 [] else s
  else s

/-- What a return from Off does. -/
def State.afterOff (s : State) (d : Nat) : State :=
  if 92 ≤ d ∧ d < 96 then s.trainChan (d - 92)
  else if 64 ≤ d ∧ d < 72 then s.engineBack (d - 64)
  else if 102 ≤ d ∧ d ≤ 134 then s.clearSram (d - 102) (d - 102)
  else if d = 136 then s.vaultStart
  else s

/-- At each return of the hold-up controller, B is 0 until the bank is READY and a test passes (R642). -/
def State.holdupReturns (s : State) : State :=
  let bank : Bank := if s.hld.bank = .uncharged then .uncharged else .charging
  ((s.withHld { s.hld with result := 0, test := .waiting, again := false, bank := bank }).enterWt 4).rebudget

/-- A domain reaches On. -/
def State.completeReturn (s : State) (d : Nat) : State :=
  let x := s.dom d
  let s := s.putDom d { x with st := .on, ap := 7 }
  let s := if x.prev = .off then s.afterOff d else s
  let s := if d = 137 then s.holdupReturns else s
  s.raise (0x120 + d) 3 0 [(1, x.prev.code), (4, (s.ao.time - x.since) / 1000)]

/-- DOMAIN_RETURN_COMPLETE: every requirement is On, and the domain is On (R634, R635). -/
def execDomainReturnComplete (dom : Nat) (s : State) : Outcome :=
  if (s.dom dom).st = .returning ∧ (s.requires dom).all s.isOn = true then .next (s.completeReturn dom) else .next s

/-- DOMAIN_RETURN_FAILED: the domain stays Off (R636). -/
def execDomainReturnFailed (dom cause : Nat) (s : State) : Outcome :=
  if (s.dom dom).st = .returning ∧ (s.requires dom).all s.isOn = true then
    .next ((s.setDom dom fun x => { x with st := .off, ap := 7 }).raise (0x120 + dom) 4 2 [(1, cause)])
  else .next s

/-! ### Wake pins (R646 to R648) -/

/-- WAKE_PIN_CHANGE: the level of a pin as the always-on island samples it. -/
def execWakePinChange (pin : Nat) (level : Bool) (s : State) : Outcome :=
  if pin < 8 then .next (s.withPwr { s.pwr with pins := putBits s.pwr.pins pin pin (b2n level) }) else .next s

/-! ### Start-up and flushes (R649, R650) -/

/-- Every start-up brings every domain to On, port B apart in the x16 configuration (R649). -/
def State.allOn (s : State) : State :=
  s.withPwr { s.pwr with
    dark := false
    doms := (List.range domains).map fun d => (d, { Domain.reset with st := if d = 97 ∧ !s.ao.bifur then .off else .on }) }

/-- A flush abandons every entry, and returns the DRAM channels in Retention with their requirements (R650). -/
def State.domainsForFlush (s : State) : State :=
  let s := (List.range domains).foldl (fun s d => s.abandonEntry d 9) s
  let chans := s.chanDoms.filter fun d => (s.dom d).st == .retention
  (s.closure 9 chans).foldl (fun s d => s.beginReturn d) s

end Sys2Proof.Machine
end

