-- ==== Sys2Proof/Machine/ReadChannel.lean ====
section
/-!
DEFINITION. The decode ladder, effective hours, calibration and the soft engines (R369 to R398 of spec/07_didrinak_read_channel.md), with the
reports that media management acts on (R518, R520 of spec/10_media_management.md).
-/

namespace Sys2Proof.Machine

/-! ### Soft engines (R353, R387, R388) -/

/-- Soft engines that have not faulted. -/
def State.enginesLeft (s : State) : List Nat := (List.range 8).filter fun e => !s.ddk.engFault.contains e

/-- Soft engines On and in service (DDK_SOFTQ.ENG). -/
def State.enginesOn (s : State) : List Nat := s.enginesLeft.filter fun e => s.isOn (64 + e)

/-- Codeword bytes queued ahead of a read of a class. -/
def State.softAhead (s : State) (cls : Nat) : Nat :=
  s.ddk.softQ.foldl (fun n rid => match s.uread rid with
    | some u => if u.cls ≤ cls then n + (s.unitPlace u.die u.block u.slot).len else n
    | none => n) 0

/-- Ask for the return of a soft engine's domain, as a command for On would (R388, R645). -/
def State.wakeEngine (s : State) : State :=
  match s.enginesLeft with
  | e :: _ => if s.domResult (64 + e) 0 = 0 then (if (s.dom (64 + e)).st = .entering then s.abandonEntry (64 + e) 8 else s.beginReturn (64 + e)) else s
  | [] => s

/-- Whether the estimated soft wait exceeds SQWAIT; where no engine is On, one is woken, and its return delay is a free value. -/
def State.softTooLong (s : State) (u : UnitRead) : State × Bool :=
  let lim := s.fld F.DDK_DECODE_SQWAIT (pkgOf u.die)
  match s.enginesLeft, s.enginesOn with
  | [], _ => (s, true)
  | _, [] => (s.drew.wakeEngine, decide (lim < s.softAhead u.cls / 2000 + Config.freeNat s.free))
  | _, on => (s, decide (lim * 2000 * on.length < s.softAhead u.cls))

/-! ### Reports and refresh (R389, R518 to R520) -/

/-- The front end reports a block after OK_SOFT or FAIL; a second report since its last erase retires it (R389, R520). -/
def State.reportBlock (s : State) (die block : Nat) : State :=
  if (s.blk die block).st ≠ .bound then s
  else
    let s := s.requestRefresh die block 1
    if (s.blk die block).rpt then s.retireBlock die block 3 else s.setBlk die block fun b => { b with rpt := true }

/-! ### The ladder (R385, R386, R389) -/

/-- Set RECAL in a read's own band. -/
def State.recalRead (s : State) (u : UnitRead) : State :=
  let p := s.unitPlace u.die u.block u.slot
  s.setRecal (bandKey u.die p.w p.k (s.retentionBin u.die u.block))

/-- The ladder ends in FAIL or FAIL_QUEUED: counter 4 or 5, and after FAIL the report. -/
def State.ladderFails (s : State) (rid : Nat) (u : UnitRead) (queued : Bool) : State :=
  let s := s.countDdk (pkgOf u.die) (if queued then 5 else 4) 1
  let s := if queued then s else s.reportBlock u.die u.block
  s.resolveRead rid .unreadable

/-- HARD_DECODE_DONE: the hard decoder's end. A failure goes on to the soft engines, with a soft read first where there are no soft values
yet. -/
def execHardDecodeDone (id : Nat) (res : DecodeRes) (s : State) : Outcome :=
  match s.uread id with
  | none => .next s
  | some u =>
    if u.st ≠ .hardDecoding then .next s
    else
      let n := pkgOf u.die
      match res with
      | .erased => .next ((s.countDdk n 6 1).resolveRead id .unreadable)
      | .ok c =>
        let s := (s.countDdk n 0 1).countDdk n 1 c
        let s := if s.fld F.DDK_THR_RECALBITS n < c then s.recalRead u else s
        .next (s.decoded id)
      | .fail =>
        let s := (s.countDdk n 2 1).recalRead u
        if s.flag F.DDK_CTL_SOFTEN n = false then .next (s.ladderFails id u false)
        else if u.soft then
          if s.enginesLeft.isEmpty then .next (s.ladderFails id u true)
          else
            let s := s.setRead id fun u => { u with hardFailed := true, st := .softQueued }
            .next (s.withDdk { s.ddk with softQ := s.ddk.softQ ++ [id] })
        else
          let x := s.softTooLong u
          if x.2 then .next (x.1.ladderFails id u true)
          else
            let s := x.1.setRead id fun u => { u with hardFailed := true }
            .next (s.arriveWith id true fun s r p => match u.who with
              | .recon _ _ => s
              | _ => s.startRecon r p)

/-- Queued codewords that are served before one: those of a more urgent class, and those of its class that came first. -/
def State.softRank (s : State) (id : Nat) (u : UnitRead) : Nat :=
  let ahead (l : List Nat) (p : Nat → Bool) : Nat := (l.filter fun q => match s.uread q with
    | some v => p v.cls
    | none => false).length
  ahead s.ddk.softQ (fun c => c < u.cls) + ahead (s.ddk.softQ.takeWhile fun q => q != id) (fun c => c == u.cls)

/-- SOFT_DECODE_DONE: a soft engine has decoded a codeword, or not; the engines take codewords by class and then by arrival (R387). -/
def execSoftDecodeDone (id : Nat) (res : DecodeRes) (s : State) : Outcome :=
  match s.uread id with
  | none => .next s
  | some u =>
    if u.st ≠ .softQueued ∨ s.enginesOn.length ≤ s.softRank id u then .next s
    else
      let s := s.withDdk { s.ddk with softQ := s.ddk.softQ.filter fun q => q != id }
      match res with
      | .ok _ =>
        let s := ((s.countDdk (pkgOf u.die) 3 1).recalRead u).reportBlock u.die u.block
        .next ((s.countHealth u.nsix 0 1).decoded id)
      | _ => .next ((s.recalRead u).ladderFails id u false)

/-! ### Effective hours (R369, R518) -/

/-- The largest n with n ^ b ≤ v, looking at k bits. -/
def rootFloor (b v : Nat) : Nat → Nat → Nat
  | 0, n => n
  | k + 1, n => let m := n + 2 ^ k; rootFloor b v k (if m ^ b ≤ v then m else n)

/-- 16 × 2^(x / y), rounded down. -/
def hourStep (x y : Nat) : Nat := rootFloor y (16 ^ y * 2 ^ x) (x / y + 6) 0

/-- What a die's hour adds: by the temperature last reported to its sequencer; 16 before any report. -/
def State.hourOf (s : State) (die : Nat) : Nat :=
  let n := pkgOf die
  match s.lnk.temps.get? die with
  | none => 16
  | some t =>
    let d := t - 8 * (s.fld F.DDK_RET_CFG_TREF n : Int)
    if d ≤ 0 then 16 else hourStep d.toNat (8 * s.fld F.DDK_RET_CFG_TDBL n)

/-- Has a set a closed row? -/
def State.hasClosed (s : State) (setid : Nat) : Bool := s.str.rows.any fun e => stripeSet e.1 == setid && e.2.closed

/-- Blocks of a die whose retention age has reached RETMAX are refreshed. -/
def State.retentionCheck (s : State) (die : Nat) : State :=
  (s.listed die).foldl (fun s e =>
    let age := s.ddk.eh.getD die 0 / 16 - e.2.closeh
    if e.2.st == .bound && decide (s.fld F.ZON_REFRESH_RETMAX ≤ age) && s.hasClosed e.2.setid then s.requestRefresh die e.1 3 else s) s

/-- EFFECTIVE_HOURS_TICK: every die's EH grows by the hour's amount. -/
def execEffectiveHoursTick (s : State) : Outcome :=
  let dies := (List.range 32).flatMap fun n => (List.range 64).filterMap fun d => if (s.link n).dies.testBit d then some (64 * n + d) else none
  let s := dies.foldl (fun s d => s.withDdk { s.ddk with eh := s.ddk.eh.upd d 0 (· + s.hourOf d) }) s
  .next (dies.foldl (fun s d => s.retentionCheck d) s)

/-! ### Calibration (R390 to R397) -/

/-- Is a band a calibration candidate (R390)? -/
def State.calCandidate (s : State) (key : Nat) : Bool :=
  let b := s.band key
  b.recal || !b.valid || decide (s.fld F.DDK_CAL_PERIOD (pkgOf (key / 512)) < s.ddk.eh.getD (key / 512) 0 / 16 - b.calhr)

/-- May a group of a block be the sample of a band (R392)? -/
def State.canSample (s : State) (die w k r block grp : Nat) : Bool :=
  let b := s.blk die block
  b.st == .bound && !b.pin && b.wbin == k && grp / 64 == w && s.retentionBin die block == r &&
    (match s.set? b.setid with
     | some x => (List.range x.rows).all fun row => (s.row b.setid row).closed
     | none => false)

/-- CALIBRATION_SAMPLE_START: a candidate band's sample pins its block, and its group's pages are read in class 2 (R391 to R393). -/
def execCalibrationSampleStart (die w k r block grp : Nat) (s : State) : Outcome :=
  let n := pkgOf die
  if w < 16 ∧ k < 8 ∧ r < 4 ∧ s.flag F.DDK_CTL_CALEN n = true ∧ (s.ddk.calib.get? n).isNone = true ∧ (s.descOf die).isSome = true ∧
      s.dieFailed die = false ∧ s.calCandidate (bandKey die w k r) = true ∧ s.canSample die w k r block grp = true ∧ s.hld.flush = .none then
    let s := (s.touchBand die w k r).setBlk die block fun b => { b with pin := true }
    let s := s.withDdk { s.ddk with calib := s.ddk.calib.ins n { die := die, band := bandKey die w k r, block := block, grp := grp, pages := 0 } }
    .next (s.setSdie die fun d => { d with
      q2 := d.q2 ++ [{ kind := .calRead block grp 0 none, cls := 2, arrive := s.ao.time, maint := true }] })
  else .next s

/-- One reference's new offset (R393). -/
def newOffset (off : Int) (c : CalCount) (step : Nat) : Int :=
  let diff := (c.up : Int) - c.down
  if max 8 ((c.up + c.down) / 4) < diff.natAbs then max (-128) (min 127 (off + step * diff.sign)) else off

/-- A quotient that the spec does not round: the free value picks either neighbour. -/
def freeQuot (a b : Int) (f : Nat) : Int := if a % b = 0 then a / b else a / b + (f % 2 : Nat)

/-- The weighted least-squares line through the points of R394: GAIN and SOFFS. -/
def fitSoft (n0 n1 : List Nat) (f : Nat) : Nat × Int :=
  let pts : List (Int × Int × Int) := (List.range 8).map fun z =>
    let a := nth n1 z 0
    let b := nth n0 z 0
    ((a + b : Nat), 2 * (z : Int) - 7, max (-496) (min 496 (Config.log64 (a + 1) (b + 1))))
  let sum (g : Int × Int × Int → Int) : Int := (pts.map g).foldl (· + ·) 0
  let sw := sum fun p => p.1
  let sx := sum fun p => p.1 * p.2.1
  let sy := sum fun p => p.1 * p.2.2
  let sxx := sum fun p => p.1 * p.2.1 * p.2.1
  let sxy := sum fun p => p.1 * p.2.1 * p.2.2
  let d := sw * sxx - sx * sx
  let slope := if d = 0 then Config.degenerateFit f else freeQuot (sw * sxy - sx * sy) d (Config.freeNat f)
  let cut := if d = 0 then Config.degenerateFit (f + 1) else freeQuot (sy * sxx - sx * sxy) d (Config.freeNat (f + 1))
  ((max 1 (min 255 slope)).toNat, max (-128) (min 127 (-cut)))

/-- CALIBRATION_SAMPLE_END: the sample's counts move the band's offsets, and every fourth sample sets its soft values; a sample with a unit that
did not decode, or whose block no longer reads through the band, changes nothing (R393 to R396). -/
def execCalibrationSampleEnd (link : Nat) (ok : Bool) (counts : List CalCount) (errs : Nat) (n0 n1 : List Nat) (s : State) : Outcome :=
  match s.ddk.calib.get? link with
  | none => .next s
  | some c =>
    let w := c.band % 512 / 32
    let k := c.band % 512 / 4 % 8
    let r := c.band % 4
    let blk := s.blk c.die c.block
    if c.pages < s.sampleReads c.band then .next s
    else if !ok || blk.st != .bound || blk.wbin != k || s.retentionBin c.die c.block != r then .next (s.dropSample link)
    else
      let b := s.band c.band
      let step := s.fld F.DDK_CAL_STEP link
      let off := (List.range 15).map fun i => newOffset (nth b.off i 0) (nth counts i ⟨0, 0⟩) step
      let cb := s.codeBand c.die w k
      let e := errs * 2 ^ 20 / (bandUnits cb * bandLen cb * 8)
      let m := s.ddk.samples.getD c.band 0 + 1
      let soft := if m % 4 = 0 then fitSoft n0 n1 s.free else (b.gain, b.soffs)
      let s := if m % 4 = 0 then s.drew.drew else s
      let s := s.withDdk { s.ddk with samples := s.ddk.samples.ins c.band m, calib := s.ddk.calib.del link }
      let s := s.putBand c.band
        { off := off, gain := soft.1, soffs := soft.2, valid := true, inherited := false, recal := false, errs := e
          calhr := s.ddk.eh.getD c.die 0 / 16 }
      let s := (s.setBlk c.die c.block fun b => { b with pin := false }).countDdk link 10 1
      if s.fld F.DDK_THR_SOFTFIRST link < e then .next (s.raise (0x0C0 + link) 0 1 [(1, c.die % 64), (1, w), (1, k), (1, r), (4, e)]) else .next s

/-- DDK_COUNTER_CLEAR: every DDK_CNT of the link reads 0. -/
def execDdkCounterClear (_a : Agent) (link : Nat) (s : State) : Outcome :=
  .next (s.withDdk { s.ddk with cnt := s.ddk.cnt.filter fun e => e.1 / 16 != link })

/-- SOFT_ENGINE_FAULT: the engine leaves service and its codewords go to the others; with none left they resolve as FAIL_QUEUED. -/
def execSoftEngineFault (engine : Nat) (s : State) : Outcome :=
  if engine < 8 ∧ s.ddk.engFault.contains engine = false then
    let s := (s.drew.withDdk { s.ddk with engFault := s.ddk.engFault ++ [engine] }).raise (0x050 + engine) 0 2 [(1, s.diagCode)]
    if s.enginesLeft.isEmpty then
      let s := s.raise 0x04A 0 2 []
      let q := s.ddk.softQ
      let s := s.withDdk { s.ddk with softQ := [] }
      .next (q.foldl (fun s rid => match s.uread rid with
        | some u => s.ladderFails rid u true
        | none => s) s)
    else .next s
  else .next s

end Sys2Proof.Machine
end

