-- ==== Sys2Proof/Machine/Bench.lean ====
section
/-!
DEFINITION. The end of a scheduler window: medians, benching, returns and the shares (R470 to R478 of spec/09_scheduling.md), with the write of
the latency monitor's configuration.
-/

namespace Sys2Proof.Machine

/-- Insert into a rising list. -/
def insNat (x : Nat) : List Nat → List Nat
  | [] => [x]
  | y :: ys => if x ≤ y then x :: y :: ys else y :: insNat x ys

/-- The median of some values; of an even number, the lower of the middle two. -/
def median (l : List Nat) : Nat :=
  let l := l.foldr insNat []
  nth l ((l.length - 1) / 2) 0

/-- Dies that a link reports present and that have not failed. -/
def State.linkDies (s : State) (n : Nat) : List Nat :=
  (List.range 64).filterMap fun d => if (s.link n).dies.testBit d && !s.dieFailed (64 * n + d) then some (64 * n + d) else none

/-- Two links' die descriptors agree in bytes 19:0 (R470). -/
def Desc.sameDie (a b : Desc) : Bool :=
  a.tr == b.tr && a.trSoft == b.trSoft && a.trSlc == b.trSlc && a.refmap == b.refmap && a.dac == b.dac && a.rated == b.rated

/-- The population of a link's dies (R470). -/
def State.population (s : State) (n : Nat) : List Nat :=
  match s.ddk.desc.get? n with
  | none => s.linkDies n
  | some d => (List.range 32).flatMap fun k => match s.ddk.desc.get? k with
    | some e => if d.sameDie e then s.linkDies k else []
    | none => []

/-- The medians of rr and pgm over the population of a link's dies. -/
def State.medians (s : State) (n : Nat) : Nat × Nat :=
  let l := s.population n
  (median (l.map fun d => (s.sdie d).rr), median (l.map fun d => (s.sdie d).pgm))

/-- Count a die's windows against its medians (R471). -/
def State.countWindow (s : State) (die : Nat) (med : Nat × Nat) : State :=
  let k := s.fld F.SCH_BENCH_K
  let u := s.fld F.SCH_BENCH_UNK
  s.setSdie die fun d => { d with
    overN := if k * med.1 < 4 * d.rr then d.overN + 1 else 0
    overP := if k * med.2 < 4 * d.pgm then d.overP + 1 else 0
    underN := if 4 * d.rr ≤ u * med.1 ∧ 4 * d.pgm ≤ u * med.2 then d.underN + 1 else 0 }

/-- Count a link's windows, and bench it or return it (R472). -/
def State.benchLink (s : State) (n : Nat) (med : Nat) : State :=
  let lm := median ((s.linkDies n).map fun d => (s.sdie d).rr)
  let b := s.sch.linkBench
  match b.get? n with
  | none =>
    if s.flag F.SCH_CTL_BENCHEN && decide (s.fld F.SCH_BENCH_K * med < 4 * lm) then s.withSch { s.sch with linkBench := b.ins n 0 } else s
  | some c =>
    let c := if 4 * lm ≤ s.fld F.SCH_BENCH_UNK * med then c + 1 else 0
    s.withSch { s.sch with linkBench := if s.fld F.SCH_BENCH_BENCHN ≤ c then b.del n else b.ins n c }

/-- Would every die set of a die keep 18 packages with an unbenched die in service (R474)? -/
def State.benchLeaves18 (s : State) (die : Nat) : Bool :=
  (List.range 128).all fun ds => !s.inDs ds die ||
    decide (18 ≤ (((s.dsDies ds).filter fun d => d != die && !s.dieFailed d && !(s.sdie d).benched).map pkgOf).dedup.length)

/-- Bench a die, or hold it (R471, R474, R475). -/
def State.benchDie (s : State) (die : Nat) (med : Nat × Nat) : State :=
  let d := s.sdie die
  if s.benchedN < s.fld F.SCH_BENCH_BENCHMAX ∧ s.benchLeaves18 die = true then
    (s.putSdie die { d with benched := true, held := false }).raise 0x02A 0 1
      [(2, die), (2, d.rr), (2, d.pgm / 10000), (2, med.1), (2, med.2 / 10000)]
  else if d.held then s
  else
    let s := s.putSdie die { d with held := true }
    match s.dsOf die with
    | some ds => s.raise (0x280 + ds) 2 1 [(2, die)]
    | none => s

/-- What the window's end makes of a die; the dies of a benched link return with it (R471, R472). -/
def State.benchStep (s : State) (die : Nat) (med : Nat × Nat) (linkBack : Bool) : State :=
  let d := s.sdie die
  let n := s.fld F.SCH_BENCH_BENCHN
  let linked := (s.sch.linkBench.get? (pkgOf die)).isSome
  let met := (linked || decide (n ≤ d.overN) || decide (n ≤ d.overP)) && s.flag F.SCH_CTL_BENCHEN
  if met && !d.benched then s.benchDie die med
  else if !met && !linked && (d.benched || d.held) && (linkBack || decide (n ≤ d.underN)) then
    let s := s.putSdie die { d with benched := false, held := false }
    if d.benched then s.raise 0x02A 1 0 [(2, die), (2, d.rr), (2, d.pgm / 10000), (2, med.1), (2, med.2 / 10000)] else s
  else s

/-- At a window's end, the windows counted against the populations' medians, then links and dies benched, held and returned (R470 to R478). -/
def State.windowBenched (s : State) : State :=
  let s := s.settleBuckets
  let old := s.sch.linkBench
  let meds := (List.range 32).map fun n => s.medians n
  let dies := (List.range 32).flatMap fun n => s.linkDies n
  let med (d : Nat) : Nat × Nat := nth meds (pkgOf d) (0, 0)
  let s := dies.foldl (fun s d => s.countWindow d (med d)) s
  let s := (List.range 32).foldl (fun s n => if (s.linkDies n).isEmpty then s else s.benchLink n (nth meds n (0, 0)).1) s
  dies.foldl (fun s d => s.benchStep d (med d) ((old.get? (pkgOf d)).isSome && (s.sch.linkBench.get? (pkgOf d)).isNone)) s

/-- SCHEDULER_WINDOW_END: medians, dies benched, held and returned, and the shares begin again with their debts. -/
def execSchedulerWindowEnd (s : State) : Outcome :=
  let s := s.windowBenched
  let s := s.withSch { s.sch with
    dies := s.sch.dies.mapV fun _ d => { d with maintNs := d.maintNs - s.maintLimit, rebuildNs := d.rebuildNs - s.rebuildLimit } }
  .next s.ewBench

end Sys2Proof.Machine
end

