-- ==== Sys2Proof/Machine/MediaMgmt.lean ====
section
/-!
DEFINITION. Media management (R493, R500 to R517, R528 of spec/10_media_management.md): the release of erases, checkpoints, garbage
collection and relocation, patrol, and the temperature histogram.
-/

namespace Sys2Proof.Machine

/-! ### Releasing erases (R272, R392, R493) -/

/-- Blocks of a die set that are free now, not only awaiting erase. -/
def State.freeNow (s : State) (ds : Nat) : Nat :=
  ((s.dsDies ds).map fun d => s.freeOn d - ((s.listed d).filter fun e => decide (s.sysblk ≤ e.1) && (e.2.st == .eraseQueue || e.2.st == .erasing)).length).sum

/-- The erase intent of a block is durable (R272). -/
def State.intentDurable (s : State) (die block : Nat) : Bool :=
  s.jnl.recs.all fun r => r.durable || (match r.body with
    | .eraseIntent d b _ => !(d == die && b == block)
    | _ => true)

/-- The die holds a released erase. -/
def State.eraseOut (s : State) (die : Nat) : Bool :=
  let d := s.sdie die
  let isErase (q : DieReq) : Bool := match q.kind with
    | .erase .. => true
    | _ => false
  d.mw.any isErase || (match d.op with
    | some o => isErase o.req
    | none => false)

/-- A die set in snowplough mode, or one that owes more member sets than its free blocks can supply. -/
def State.erasePressed (s : State) (die : Nat) : Bool :=
  match s.dsOf die with
  | some ds => (s.sch.snow.get? ds).isSome || decide (s.freeNow ds < 18 * s.owed ds)
  | none => false

/-- May a block of the erase queue be released (R493)? -/
def State.releasable (s : State) (x : Nat × Nat) : Bool :=
  !s.dieFailed x.1 && !(s.blk x.1 x.2).pin && s.intentDurable x.1 x.2 && !s.eraseOut x.1 &&
    (decide ((s.sdie x.1).maintNs < s.maintLimit) || s.erasePressed x.1)

/-- ERASE_RELEASE: the first block of the erase queue that may be released joins its die's media-write queue; outside the maintenance share
only where its die set is pressed (R493). -/
def execEraseRelease (s : State) : Outcome :=
  if s.hld.flush ≠ .none then .next s
  else
    match s.med.erq.find? s.releasable with
    | none => .next s
    | some x =>
      let share := decide ((s.sdie x.1).maintNs < s.maintLimit)
      let s := s.withMed { s.med with erq := s.med.erq.filter fun y => y != x }
      .next (s.setSdie x.1 fun d => { d with
        mw := d.mw ++ [{ kind := .erase x.2 false, cls := 2, arrive := s.ao.time, maint := share }] })

/-! ### Checkpoints (R501 to R510) -/

/-- Accepted placement units without a slot (section 0x13 of R501). -/
def State.pendingUnits (s : State) : List (Nat × Nat × Nat × Bool) :=
  s.str.dram.filterMap fun e =>
    if e.2.accepted && e.2.place.isNone && !e.2.reloc && (match s.nsAt e.2.nsix with
        | some n => n.kind != NsKind.zoned
        | none => false)
    then some (e.2.dcsn, e.2.nsix, e.2.lba, e.2.superseded) else none

/-- Every structure of R501 as it stands. -/
def State.cutData (s : State) : CkData :=
  let diesOf (p : SDie → Bool) : List Nat := (s.sch.dies.filter fun e => p e.2).map (·.1)
  { ns := s.zon.ns, zdt := s.zon.zdt, sets := s.str.sets, bit := s.med.bit, cbt := s.ddk.cbt, bands := s.ddk.bands, eh := s.ddk.eh
    benched := diesOf (·.benched), held := diesOf (·.held), failed := diesOf (·.failed), links := s.linksIn .failed, map := s.zon.map
    sb := s.zon.sb, stg := s.zon.stg, pending := s.pendingUnits, hc := s.med.hc, hist := s.med.hist, tlow := s.med.tlow, thigh := s.med.thigh
    lost := s.str.lost, lostTotal := s.str.lostTotal }

def State.ck (s : State) (kind : Nat) : Ckpt := if kind = 1 then s.med.ck1 else s.med.ck2

def State.putCk (s : State) (kind : Nat) (c : Ckpt) : State :=
  if kind = 1 then s.withMed { s.med with ck1 := c } else s.withMed { s.med with ck2 := c }

/-- The set id that a kind's next set takes (R503). -/
def ckSetId (kind k : Nat) : Nat := if kind = 1 then 0x1F1000 + k % 16 else 0x1F1040 + k % 64

/-- The sections of a checkpoint kind: type and length in bytes (R501). The rules give the entry sizes of the Zone Descriptor Table, of the BIT, of
bands, of maps and of the pending list; the other sections have the model's own entries (DESIGN CHOICE, log entry 156). -/
def CkData.sections (c : CkData) (kind : Nat) : List (Nat × Nat) :=
  if kind = 1 then
    [(0x01, 4096 * 24 + 8 * (c.ns.map fun e => e.2.runs.length).sum), (0x02, 128 * 2 ^ 20), (0x03, 16 * 2 ^ 24), (0x04, 32 * 512 * 2048 + 4 * 2048),
      (0x05, 2048 + 32), (0x06, 24 * (c.zdt.map fun e => e.2.unread.length).sum)]
  else
    [(0x11, (c.ns.map fun e => if e.2.kind = .zoned then 0 else 16 + 4 * e.2.nsze).sum), (0x12, 80 * 18432), (0x13, 16 * c.pending.length)]

/-- Bytes of the checkpoint stream (R504). -/
def CkData.streamLen (c : CkData) (kind : Nat) : Nat := ((c.sections kind).map (·.2)).sum

/-- Choose the checkpoint sets for some data units, marking their blocks; each set holds a header beside them (R503, R504). -/
def State.chooseCkSets (s : State) (dies : List Nat) (kind : Nat) : Nat → Nat → Nat → Option (State × List (Nat × List (Nat × Nat)))
  | 0, _, _ => none
  | fuel + 1, k, left =>
    match s.chooseSystem dies with
    | none => none
    | some ms =>
      let s := ms.zipIdx.foldl (fun (s : State) m => s.setBlk m.1.1 m.1.2 fun b => { b with st := .system, setid := ckSetId kind k, member := m.2 }) s
      let room := 16 * s.minUnits ms - 1
      if left ≤ room then some (s, [(ckSetId kind k, ms)])
      else (s.chooseCkSets dies kind fuel (k + 1) (left - room)).map fun x => (x.1, (ckSetId kind k, ms) :: x.2)

/-- The sets of a checkpoint cut now, among the free system blocks of every die in service: its stream and its directory (R503, R504, R506). -/
def State.ckSets (s : State) (kind : Nat) : Option (State × List (Nat × List (Nat × Nat))) :=
  s.chooseCkSets s.diesInService kind 32 (s.ck kind).nextSet (ceilDiv (s.cutData.streamLen kind) 4096 + 1)

/-- Cut a checkpoint: its sets are chosen, its record takes its sequence number, and the structures are held as they stand (R502, R503, R507). -/
def State.cutCkpt (s : State) (kind : Nat) : State :=
  let x := (s.ckSets kind).getD (s, [])
  let s := x.1
  let c := s.ck kind
  let seq := s.med.ckSeq + 1
  let c := { c with
    active := true, seq := seq, cutCsn := s.jnl.csn, cutRec := s.jnl.nextSeq, startTime := s.ao.time, lastCut := s.ao.time, cut := s.cutData
    sets := x.2, nextSet := c.nextSet + x.2.length }
  let s := (s.putCk kind c).withMed { (s.putCk kind c).med with ckSeq := seq, slotted := if kind = 2 then 0 else s.med.slotted }
  s.journal 0xFFFF s.jnl.csn (.checkpoint kind seq)

/-- Is a checkpoint of a kind due (R509)? A void journal page calls for both kinds at once (R615). -/
def State.ckDue (s : State) (kind : Nat) : Bool :=
  let timed := if kind = 1 then decide (s.med.ck1.lastCut + s.fld F.ZON_CKPT_CK1MIN * 60000000000 ≤ s.ao.time)
    else decide (s.fld F.ZON_CKPT_CK2GIB * 262144 ≤ s.med.slotted)
  let low := decide (min s.jnl.freeA s.jnl.freeB ≤ 2)
  let older := if kind = 1 then decide (s.med.ck1.lastCut ≤ s.med.ck2.lastCut) else decide (s.med.ck2.lastCut < s.med.ck1.lastCut)
  timed || (low && older) || s.jnl.kept.any fun p => p.void && decide ((s.ck kind).doneRec ≤ p.first)

/-- May a checkpoint of a kind start? While its sets cannot be chosen it is deferred (R261). -/
def State.ckMay (s : State) (kind : Nat) : Bool :=
  (kind == 1 || kind == 2) && !(s.ck kind).active && s.hld.flush == .none && s.host.enabled && (s.ckSets kind).isSome && !s.logHeld

/-- CHECKPOINT_TIMER: CK1MIN minutes have passed since the last kind 1 cut (R509). -/
def execCheckpointTimer (s : State) : Outcome := if s.ckMay 1 then .next (s.cutCkpt 1) else .next s

/-- CHECKPOINT_START: a checkpoint that is due is cut (R502, R509). -/
def execCheckpointStart (kind : Nat) (s : State) : Outcome := if s.ckMay kind && s.ckDue kind then .next (s.cutCkpt kind) else .next s

/-- The sets of a checkpoint go to the erase queue, with reason 5 (R510). -/
def State.dropCkSets (s : State) (sets : List (Nat × List (Nat × Nat))) : State :=
  (sets.flatMap (·.2)).foldl (fun s m => if s.dieFailed m.1 then s else s.queueErase m.1 m.2 5) s

/-- CHECKPOINT_COMPLETE: the checkpoint is the newest complete one of its kind; the sets of the one before it are to be erased, the journal before it
is dropped, and a save that is owed is repeated (R276, R277, R508, R510). -/
def execCheckpointComplete (kind : Nat) (s : State) : Outcome :=
  let c := s.ck kind
  if (kind = 1 ∨ kind = 2) ∧ c.active = true ∧ s.hld.flush = .none then
    let s := s.putCk kind { c with
      active := false, doneSeq := c.seq, doneRec := c.cutRec, doneCsn := c.cutCsn, doneTime := c.startTime, done := c.cut, doneSets := c.sets, cut := CkData.empty, sets := [] }
    let s := s.raise 0x03A 0 0 [(8, c.cutCsn), (4, c.seq % 2 ^ 32), (1, kind), (3, (s.ao.time - c.startTime) / 1000000)]
    let s := (s.dropCkSets c.doneSets).trimJournal
    .next (if s.jnl.saveOwed then s.saveCopyPkg else s)
  else .next s

/-! ### Choosing a victim (R512, R513) -/

/-- The superblock of a placement or staging set. -/
def State.superOf (s : State) (setid : Nat) : Option Super :=
  if setid < 0x180000 then s.zon.sb.get? (setid - 0x100000) else s.zon.stg.get? (setid - 0x180000)

/-- Staging index entries that name a set: (key of the block, place). -/
def State.stagedIn (s : State) (setid : Nat) : List (Nat × Nat) := s.str.staging.filter fun e => stripeSet (e.2 / 16) == setid

/-- Valid units of a superblock (R513, R515). -/
def State.validOf (s : State) (setid : Nat) : Nat :=
  if setid < 0x180000 then s.validUnits (setid - 0x100000) else (s.stagedIn setid).length

/-- A superblock that takes no more units, and whose every row in use is closed. -/
def State.superClosed (s : State) (setid : Nat) (b : Super) : Bool :=
  (b.stopped || decide (b.slots ≤ b.next)) && (List.range (ceilDiv b.next 16)).all fun row => (s.row setid row).closed

/-- The closed superblocks of a die set that are not under relocation: (set id, its record, valid units). -/
def State.gcCandidates (s : State) (ds : Nat) : List (Nat × SetRec × Nat) :=
  s.str.sets.filterMap fun e =>
    if 0x100000 ≤ e.1 && decide (e.1 < 0x1F0000) && s.tenantDs e.2.tenant == some ds && !(s.med.relocs.any fun r => r.setid == e.1) then
      match s.superOf e.1 with
      | some b => if s.superClosed e.1 b then some (e.1, e.2, s.validOf e.1) else none
      | none => none
    else none

/-- The victim: refresh victims first, then the fewest valid units, then the lowest bind CSN. -/
def State.gcVictim (s : State) (ds : Nat) : Option (Nat × SetRec × Nat) :=
  let l := s.gcCandidates ds
  let fore := (s.sch.snow.get? ds).isSome
  let back := s.med.gc.contains ds
  let isRef (x : Nat × SetRec × Nat) : Bool := s.med.victims.contains x.1
  let ok (x : Nat × SetRec × Nat) : Bool :=
    isRef x || fore || (back && (match s.superOf x.1 with
      | some b => decide (100 * x.2.2 ≤ s.fld F.ZON_GC_VALIDMAX * b.slots)
      | none => false))
  (l.filter ok).foldl (fun b x => match b with
    | none => some x
    | some y =>
      if (isRef x && !isRef y) || (isRef x == isRef y && (decide (x.2.2 < y.2.2) || (x.2.2 == y.2.2 && decide (x.2.1.bindCsn < y.2.1.bindCsn))))
      then some x else some y) none

/-! ### Relocation (R514 to R516) -/

/-- The relocation reclaim group of a namespace (R186). -/
def Ns.relocGroup (n : Ns) : Nat := n.nph + 4

/-- A copy of a valid placement unit: it takes a new stripe CSN, RELOC, and the relocation group. A unit that can be neither read nor
reconstructed leaves its row lost (R431). -/
def State.copyUnit (s : State) (setid : Nat) (r : SetRec) (nsix lba entry : Nat) : State × Option RelCopy :=
  let row := entry % 2 ^ 18 / 16
  match s.obtain setid r (memberOfData row (entry % 16)) row, s.nsAt nsix with
  | some (i, _), some n =>
    let c := s.jnl.csn
    let s := s.takeCsns 1
    let u : DramUnit :=
      { dcsn := i.dcsn, tenant := n.owner, nsix := nsix, lba := lba, kind := i.kind, group := n.relocGroup, info := i.recopy c false true
        staged := false, reloc := true, accepted := true, credit := false, superseded := false, through := false, place := none, source := some entry, ref := none
        bufs := [], addr := none }
    (s.addUnit (unitKey c false) u, some ⟨unitKey c false, nsix, lba, entry⟩)
  | none, _ => (s.rowLost setid row 2 (s.unreadableMask setid r row), none)
  | _, none => (s, none)

/-- A new staged copy of a staged unit, in the tenant's open staging superblock; the staging index names it (R515). -/
def State.copyStaged (s : State) (setid : Nat) (r : SetRec) (key place : Nat) : State × Option RelCopy :=
  let row := stripeRow (place / 16)
  match s.obtain setid r (memberOfData row (place % 16)) row with
  | none => (s.rowLost setid row 2 (s.unreadableMask setid r row), none)
  | some (i, _) =>
    match s.openStaging r.tenant with
    | none => (s, none)
    | some (s, g) =>
      match s.zon.stg.get? g, s.set? (stagingSet g) with
      | some b, some q =>
        let c := s.jnl.csn
        let s := s.takeCsns 1
        let info := i.recopy c true false
        let at_ := (stripeId (stagingSet g) (b.next / 16), b.next % 16)
        let u : DramUnit :=
          { dcsn := i.dcsn, tenant := i.tenant, nsix := i.nsix, lba := i.lba, kind := i.kind, group := 0, info := info, staged := true, reloc := false
            accepted := true, credit := false, superseded := false, through := false, place := some at_, source := some place, ref := none, bufs := [], addr := none }
        let s := s.withStr { s.str with
          dram := s.str.dram.ins (unitKey c false) u
          staging := s.str.staging.ins key (at_.1 * 16 + at_.2) }
        let s := s.withZon { s.zon with stg := s.zon.stg.ins g { b with next := b.next + 1 } }
        (s.fillPos (stagingSet g) q (b.next / 16) (b.next % 16) (.unit (unitKey c false) info) false, some ⟨unitKey c false, i.nsix, i.lba, place⟩)
      | _, _ => (s, none)

/-- Send a superblock with nothing valid left to the erase queue (R513, R516). -/
def State.eraseSuper (s : State) (setid : Nat) : State :=
  let ds := (s.set? setid).bind fun r => s.tenantDs r.tenant
  let s := s.dropSet setid 2
  let s := if setid < 0x180000 then s.withZon { s.zon with sb := s.zon.sb.adj (setid - 0x100000) fun b => { b with stopped := true } }
    else s.withZon { s.zon with stg := s.zon.stg.adj (setid - 0x180000) fun b => { b with stopped := true } }
  let s := s.withMed { s.med with victims := s.med.victims.filter fun v => v != setid, relocs := s.med.relocs.filter fun r => r.setid != setid }
  match ds with
  | some d => s.resnow d
  | none => s

/-- Each valid unit of a victim copied, and the relocation taken up (R513, R514). -/
def State.startRelocation (s : State) (setid : Nat) (r : SetRec) : State :=
  let refresh := s.med.victims.contains setid
  let units := if setid < 0x180000 then
      s.zon.map.filterMap fun e => if e.2 < 0xFFFFFFFE && e.2 / 2 ^ 18 == setid - 0x100000 then some (e.1, e.2) else none
    else s.stagedIn setid
  let x := units.foldl (fun (a : State × List RelCopy) e =>
    let y := if setid < 0x180000 then a.1.copyUnit setid r (e.1 / 2 ^ 48) (e.1 % 2 ^ 48) e.2 else a.1.copyStaged setid r e.1 e.2
    match y.2 with
    | some c => (y.1, a.2 ++ [c])
    | none => (y.1, a.2)) (s, [])
  x.1.withMed { x.1.med with relocs := x.1.med.relocs ++ [⟨setid, x.2, [], refresh⟩] }

/-- A placement superblock is erased with no unit relocated (R194). -/
def State.countClean (s : State) (setid : Nat) : State :=
  if 0x180000 ≤ setid then s
  else match s.superOf setid with
    | some b => s.setNs b.nsix fun n => { n with useClean := n.useClean.upd b.group 0 (· + 1) }
    | none => s

/-- GC_VICTIM_SELECT: the victim of a die set with something valid has a copy made of each valid unit; one with nothing valid is sent to be
erased (R512 to R515). -/
def execGcVictimSelect (ds : Nat) (s : State) : Outcome :=
  if s.hld.flush ≠ .none ∨ s.logHeld = true then .next s
  else
    let s := s.gcMode ds
    match s.gcVictim ds with
    | none => .next s
    | some (setid, r, valid) =>
      if valid = 0 then .next ((s.countClean setid).eraseSuper setid)
      else if s.csnReady (valid + 8) then .next (s.startRelocation setid r)
      else .next s

/-- The slot that a programmed copy took: its map entry. -/
def State.copyEntry (s : State) (key : Nat) : Option Nat :=
  s.str.rows.findSome? fun e =>
    if e.1 / 2 ^ 15 < 0x100000 then none
    else (e.2.pos.zipIdx.find? fun p => match p.1 with
      | .unit k _ => k == key
      | _ => false).map fun p => (stripeSet e.1 - 0x100000) * 2 ^ 18 + 16 * stripeRow e.1 + p.2

/-- Does the compare-and-set of R500 succeed for a copy? -/
def State.casOk (s : State) (c : RelCopy) : Bool :=
  s.zon.map.get? (lbaKey c.nsix c.lba) == some c.source &&
    !(s.str.dram.any fun e => e.2.nsix == c.nsix && e.2.lba == c.lba && e.2.accepted && e.2.place.isNone && !e.2.reloc)

/-- Changed entries, in order of their slots: (namespace index, LBA, new entry). Runs of consecutive blocks in consecutive slots:
(namespace index, first LBA, number, first entry). -/
def commitRuns : List (Nat × Nat × Nat) → List (Nat × Nat × Nat × Nat)
  | [] => []
  | (ns, lba, e) :: rest =>
    match commitRuns rest with
    | (ns', l', k, e') :: more => if ns = ns' ∧ l' = lba + 1 ∧ e' = e + 1 then (ns, lba, k + 1, e) :: more else (ns, lba, 1, e) :: (ns', l', k, e') :: more
    | [] => [(ns, lba, 1, e)]

/-- Append the map change record of a run (R500). -/
def State.commitRecord (s : State) (x : Nat × Nat × Nat × Nat) : State × Nat :=
  let c := s.jnl.csn
  let owner := s.nsOwner x.1
  let s := s.takeCsns 1
  let seq := s.nextRec
  (s.journal owner c (.mapChange x.1 4 x.2.1 x.2.2.1 x.2.2.2), seq)

/-- Insert by entry. -/
def insKeyed (x : Nat × Nat × Nat) : List (Nat × Nat × Nat) → List (Nat × Nat × Nat)
  | [] => [x]
  | y :: ys => if x.2.2 < y.2.2 then x :: y :: ys else y :: insKeyed x ys

/-- The copies whose stripes have closed committed by compare-and-set, with their records (R272, R514). -/
def State.commitCopies (s : State) (setid : Nat) (r : Reloc) (closed : List RelCopy) : State :=
  let moved := if setid < 0x180000 then closed.filterMap fun c => if s.casOk c then (s.copyEntry c.key).map fun e => (c.nsix, c.lba, e) else none else []
  let moved := (moved.foldl (fun l x => insKeyed x l) [])
  let s := moved.foldl (fun s x => s.withZon { s.zon with map := s.zon.map.ins (lbaKey x.1 x.2.1) x.2.2 }) s
  let y := (commitRuns moved).foldl (fun (a : State × List Nat) x => let z := a.1.commitRecord x; (z.1, a.2 ++ [z.2])) (s, [])
  let s := closed.foldl (fun s c => s.countHealth c.nsix (if r.refresh then 7 else 6) 1) y.1
  s.withMed { s.med with relocs := s.med.relocs.map fun x =>
    if x.setid = setid then { x with copies := x.copies.filter (fun c => !closed.contains c), recs := x.recs ++ y.2 } else x }

/-- RELOCATION_COMMIT: the copies whose stripes have closed are committed by compare-and-set; once every copy is, and the records are durable,
the source goes to the erase queue (R272, R500, R514 to R516). -/
def execRelocationCommit (setid : Nat) (s : State) : Outcome :=
  match s.med.relocs.find? fun r => r.setid == setid with
  | none => .next s
  | some r =>
    if s.hld.flush ≠ .none then .next s
    else if (s.set? setid).isNone then .next (s.withMed { s.med with relocs := s.med.relocs.filter fun x => x.setid != setid })
    else if r.copies = [] then
      if r.recs.all s.durable then .next (if s.validOf setid = 0 then s.eraseSuper setid else s.withMed { s.med with relocs := s.med.relocs.filter fun x => x.setid != setid })
      else .next s
    else
      let closed := r.copies.filter fun c => (s.str.dram.get? c.key).isNone
      if s.csnReady (closed.length + 8) then .next (s.commitCopies setid r closed) else .next s

/-! ### Patrol (R517) -/

/-- Rows of a group of a member's block that are closed. -/
def State.closedRows (s : State) (setid : Nat) (r : SetRec) (m grp : Nat) : List Nat :=
  let sp := s.groupSpan r m grp
  ((List.range sp.2).map fun i => sp.1 + i).filter fun row => decide (row < r.rows) && (s.row setid row).closed

/-- Read a unit for patrol or for a self-test, in class 2 within the maintenance share (R446, R478). -/
def State.maintRead (s : State) (setid : Nat) (r : SetRec) (m row : Nat) (fn : Option Nat) (last : Bool) : State :=
  let b := nth r.members m (0, 0)
  let u : UnitRead :=
    { who := .maint fn last, die := b.1, block := b.2, slot := row, setid := setid, row := row, member := m, role := roleOf row m, cls := 2
      tenant := r.tenant, nsix := r.nsix, lba := 0, loCsn := 0, hiCsn := 0, st := .queued, out := .pending, arrive := s.ao.time
      soft := false, hardFailed := false, final := false, noRef := false, ref := none, recon := none, llr := [] }
  let (s, rid) := s.newRead u
  s.arrive rid

/-- PATROL_VISIT: the next group in turn of a bound block with a closed row is read through the ladder (R517). -/
def execPatrolVisit (die block grp : Nat) (s : State) : Outcome :=
  let b := s.blk die block
  match s.set? b.setid with
  | none => .next s
  | some r =>
    let next := s.med.patrol.getD (blkKey die block) 0
    if b.st = .bound ∧ s.dieFailed die = false ∧ s.hld.flush = .none ∧ grp = next then
      let rows := s.closedRows b.setid r b.member grp
      let more := (List.range 1024).any fun g => grp < g && !(s.closedRows b.setid r b.member g).isEmpty
      let s := s.withMed { s.med with patrol := s.med.patrol.ins (blkKey die block) (if more then grp + 1 else 0) }
      .next (rows.foldl (fun s row => s.maintRead b.setid r b.member row none false) s)
    else .next s

/-! ### Temperature (R528) -/

/-- The bin of a temperature in units of 0.125 °C. -/
def tempBin (t : Int) : Nat := if t < 0 then 0 else min 15 (t.toNat / 64 + 1)

/-- The hottest last report of some dies. -/
def State.hottest (s : State) (dies : List Nat) : Option Int :=
  (dies.filterMap fun d => s.lnk.temps.get? d).foldl (fun m t => match m with
    | none => some t
    | some x => some (max x t)) none

/-- Count a minute in a scope. -/
def State.minuteIn (s : State) (scope : Nat) (dies : List Nat) : State :=
  match s.hottest dies with
  | none => s
  | some t =>
    let lo := match s.med.tlow.get? scope with
      | some x => if t < x.1 then s.med.tlow.ins scope (t, s.ao.time) else s.med.tlow
      | none => s.med.tlow.ins scope (t, s.ao.time)
    let hi := match s.med.thigh.get? scope with
      | some x => if x.1 < t then s.med.thigh.ins scope (t, s.ao.time) else s.med.thigh
      | none => s.med.thigh.ins scope (t, s.ao.time)
    s.withMed { s.med with hist := s.med.hist.upd (scope * 16 + tempBin t) 0 (· + 1), tlow := lo, thigh := hi }

/-- TEMPERATURE_MINUTE_TICK: the hottest die of each scope counts in its histogram and moves its extremes. Scope 2,048 is the device, a lower
one the tenant of that number. -/
def execTemperatureMinuteTick (s : State) : Outcome :=
  let s := s.minuteIn 2048 (s.lnk.temps.map (·.1))
  .next ((List.range 1024).foldl (fun s t => match s.tenantDs t with
    | some ds => if 2 ≤ t then s.minuteIn t (s.dsDies ds) else s
    | none => s) s)

end Sys2Proof.Machine
end

