-- ==== Sys2Proof/Machine/EventRing.lean ====
section
/-!
DEFINITION. The event fabric, the event rings and the Tenant Event logs (R662 to R675 of spec/14_setup_window_events.md), with
the commands EVENT_RECORD_ARRIVAL, EVENT_RING_WRITE, EVENT_HEAD_WRITE, EVENT_RING_CONFIG and EVENT_INTERRUPT_TIMER.
-/

namespace Sys2Proof.Machine

def State.ring (s : State) (r : Nat) : EvRing := if r = 0 then s.ev.ring0 else s.ev.ring1

def State.putRing (s : State) (r : Nat) (x : EvRing) : State :=
  if r = 0 then s.withEv { s.ev with ring0 := x } else s.withEv { s.ev with ring1 := x }

def State.setRing (s : State) (r : Nat) (f : EvRing → EvRing) : State := s.putRing r (f (s.ring r))

/-- N of R669: 64 × 2^SIZE entries. -/
def State.ringSize (s : State) (r : Nat) : Nat := 64 * 2 ^ s.fld F.EVT_BASE_SIZE r

/-- A ring is full when (TAIL + 1) mod N equals HEAD (R669). -/
def State.ringFull (s : State) (r : Nat) : Bool := ((s.ring r).tail + 1) % s.ringSize r == s.fld F.EVT_HEAD_HEAD r

def State.ringOn (s : State) (r : Nat) : Bool := s.flag F.EVT_CFG_EN r

/-- Can a ring take a record now? -/
def State.ringOpen (s : State) (r : Nat) : Bool := s.ringOn r && !s.ringFull r

/-- Records held for a ring at most (R670). -/
def holdSize : Nat := 256

/-- A record of source 0x001 addressed to one ring whatever its filters (R670, R673). -/
def State.raiseRing (s : State) (code sev ring : Nat) (except : Option Nat) (pay : List (Nat × Nat)) : State :=
  s.withEv (s.ev.post
    { src := 1, code := code, sev := sev, tenant := none, pay := packPayload pay, time := s.ao.time, tag := 0,
      only := some ring, except := except })

/-- Clear EN of a ring and report it on the other ring, with the cause of R748 (R673). -/
def State.disableRing (s : State) (r cause : Nat) : State :=
  (s.putFld F.EVT_CFG_EN r 0 0).raiseRing 1 2 (1 - r) (some r) [(1, r), (1, cause)]

/-- A physical function loses Bus Master Enable (cause 1), or is reset or disabled (cause 2): its rings lose EN (R673). -/
def State.ringsLose (s : State) (pf cause : Nat) : State :=
  [0, 1].foldl (fun s r => if s.ringOn r && s.fld F.EVT_CFG_PF r == pf then s.disableRing r cause else s) s

/-- Does a record pass a ring's own filters (R668)? -/
def State.passes (s : State) (r : Nat) (e : EvRec) : Bool :=
  s.fld F.EVT_CFG_MINSEV r ≤ e.sev && !(s.fld F.EVT_MASK_MASK r (e.src / 32)).testBit (e.src % 32)

/-- Is a record for a ring (R668, R670, R673)? -/
def State.routed (s : State) (r : Nat) (e : EvRec) : Bool :=
  e.except != some r && (e.only == some r || s.passes r e)

/-- Hold a record for a ring, or count it lost where the hold is full (R670). -/
def EvRing.take (x : EvRing) (e : EvOut) : EvRing :=
  if x.hold.length < holdSize then { x with hold := x.hold ++ [e] }
  else { x with lost := x.lost + 1, lostNow := x.lostNow + 1, firstLost := if x.lostNow = 0 then e.esn else x.firstLost }

/-- Add a record to a Tenant Event log (R674, R130). -/
def TenantLog.add (l : TenantLog) (e : EvOut) : TenantLog :=
  if l.entries.length < 255 then { l with total := l.total + 1, entries := l.entries ++ [e] }
  else { l with total := l.total + 1, overflow := true }

/-- Put a record in its tenant's log, and post the asynchronous event once until the log is read (R674, R675). -/
def State.tenantLog (s : State) (t : Nat) (e : EvOut) : State :=
  let l := (s.ev.logs.getD t TenantLog.empty).add e
  if s.vendorAsync t && !l.posted then
    (s.withEv { s.ev with logs := s.ev.logs.ins t { l with posted := true } }).asyncEvent t 7 0x02 0xC5
  else s.withEv { s.ev with logs := s.ev.logs.ins t l }

/-- The next ESN: the epoch in bits 47:30, the count below (R663). -/
def Events.nextEsn (e : Events) : Nat := e.epoch * 2 ^ 30 + e.count

/-- Move the count on; an exhausted epoch gives way to the next, but the last wraps (R663). -/
def Events.advance (e : Events) : Events :=
  if e.count + 1 < 2 ^ 30 then { e with count := e.count + 1 }
  else { e with count := 0, epoch := min (e.epoch + 1) 0x3FFFF }

/-- Remove the first element that satisfies a test. -/
def takeFirst {α : Type} (p : α → Bool) : List α → Option (α × List α)
  | [] => none
  | x :: xs => if p x then some (x, xs) else (takeFirst p xs).map fun y => (y.1, x :: y.2)

/-- The order of causes among sources: what a source reports can cause only what sources of greater rank report (DEDUCED, log entry 138: the
tables of events of the spec's chapters). From the resets, ports and pins through the configuration and the domains, the links and bridges,
the blocks, the dies, the stripes and the journal, to the budget, the zones and the early warnings. -/
def evRank (src : Nat) : Nat :=
  if src = 0x001 then 9
  else if src = 0x000 then 1
  else if src < 0x010 then 0
  else if src = 0x010 ∨ src = 0x012 then 1
  else if src = 0x011 then 7
  else if src < 0x028 then 6
  else if src = 0x028 ∨ src = 0x02A then 7
  else if src = 0x029 then 9
  else if src = 0x030 then 3
  else if src < 0x038 then 6
  else if src = 0x038 then 4
  else if src = 0x039 then 5
  else if src = 0x03A then 6
  else if src = 0x03B then 8
  else if src = 0x04A then 4
  else if 0x050 ≤ src ∧ src < 0x058 then 3
  else if src < 0x078 then 0
  else if src < 0x0A0 then 2
  else if src < 0x0C0 then 3
  else if src < 0x0E0 then 4
  else if src < 0x120 then 7
  else if src < 0x200 then 1
  else if src < 0x280 then 7
  else 8

/-- Records on their way that were raised before a source's oldest one and can have caused it (R34, R664). -/
def Events.causesOf (e : Events) (src : Nat) : List EvRec :=
  (e.pend.takeWhile fun x => x.src != src).filter fun x => evRank x.src < evRank src

/-- EVENT_RECORD_ARRIVAL: the oldest record of a source on its way takes the next ESN, and goes to the rings and to the tenant's
log (R664, R668, R674). Not enabled while the source has sent none, nor while a record that can have caused it has no ESN yet (R34). -/
def execEventRecordArrival (src : Nat) (s : State) : Outcome :=
  match takeFirst (fun e : EvRec => e.src == src) s.ev.pend with
  | none => .next s
  | some (e, rest) =>
    if !(s.ev.causesOf src).isEmpty then .next s
    else
      let o : EvOut := { esn := s.ev.nextEsn, src := e.src, code := e.code, sev := e.sev, time := e.time, pay := e.pay }
      let s := s.withEv { s.ev.advance with pend := rest, esns := s.ev.esns.ins e.tag o.esn }
      let s := if s.routed 0 e then s.setRing 0 (·.take o) else s
      let s := if s.routed 1 e then s.setRing 1 (·.take o) else s
      .next (match e.tenant with
        | some t => s.tenantLog t o
        | none => s)

/-- Count a record written and not signalled; INTCNT of them send the vector (R671). -/
def State.signalRing (s : State) (r : Nat) : State :=
  let n := (s.ring r).unsig + 1
  if s.flag F.EVT_CFG_INTEN r && s.fld F.EVT_CFG_INTCNT r ≤ n then
    (s.setRing r fun x => { x with unsig := 0 }).send (.msix (s.fld F.EVT_CFG_PF r) (s.fld F.EVT_CFG_VEC r))
  else s.setRing r fun x => { x with unsig := n }

/-- Once a ring's hold is empty again, report the records it lost (R670). -/
def State.reportLost (s : State) (r : Nat) : State :=
  let x := s.ring r
  if x.hold.isEmpty && 0 < x.lostNow then
    (s.putRing r { x with lostNow := 0 }).raiseRing 0 1 r none [(1, r), (4, x.lostNow), (8, x.firstLost)]
  else s

/-- The cause of R748 for which a write to a ring's function fails: 1 no Bus Master Enable, 2 the function not live; 3 a PCIe error (R673). -/
def State.ringCause (s : State) (r : Nat) (err : Bool) : Option Nat :=
  let pf := s.fld F.EVT_CFG_PF r
  if (s.fn pf).bme = false then some 1 else if !s.fnLive pf then some 2 else if err then some 3 else none

/-- EVENT_RING_WRITE: the oldest record held for a ring is written at BASE + 32 × TAIL, TAIL advances and is written to TAILADDR
(R669). A write that fails clears EN, and the record stays held (R673). -/
def execEventRingWrite (ring : Nat) (err : Bool) (s : State) : Outcome :=
  if ring < 2 ∧ s.ringOpen ring = true then
    match (s.ring ring).hold with
    | [] => .next s
    | e :: rest =>
      match s.ringCause ring err with
      | some cause => .next (s.disableRing ring cause)
      | none =>
        let x := s.ring ring
        let tail := (x.tail + 1) % s.ringSize ring
        let s := s.send (.evRecord ring (4096 * s.fld F.EVT_BASE_BASE ring + 32 * x.tail) e.esn e.src e.code e.sev e.time e.pay)
        let s := s.putRing ring { x with hold := rest, tail := tail }
        let s := s.send (.evTail ring (4 * s.fld F.EVT_TAILADDR_ADDR ring) tail)
        .next ((s.signalRing ring).reportLost ring)
  else .next s

/-- EVENT_HEAD_WRITE: host software writes EVT_HEAD (R669). -/
def execEventHeadWrite (_a : Agent) (ring head : Nat) (s : State) : Outcome :=
  if ring < 2 then .next (s.putReg ⟨.EVT_HEAD, ring, 0⟩ head) else .next s

/-- Write EVT_CFG: a value outside a stated range is discarded whole (R745); EN from 0 to 1 clears TAIL and HEAD (R672). -/
def State.writeEvtCfg (s : State) (a : Agent) (r v : Nat) : State :=
  if F.EVT_CFG_VEC.inRange v && F.EVT_CFG_INTCNT.inRange v && F.EVT_CFG_INTAGE.inRange v then
    let was := s.ringOn r
    let s := s.putReg ⟨.EVT_CFG, r, 0⟩ v
    if !was && s.ringOn r then
      ((s.setRing r fun x => { x with tail := 0, unsig := 0 }).putReg ⟨.EVT_HEAD, r, 0⟩ 0).reportLost r
    else s
  else s.raiseDiscarded (offOf .EVT_CFG r) a

/-- Write EVT_BASE or EVT_TAILADDR: discarded while the ring is in use (R672), and whole where a field leaves its range (R745). -/
def State.writeRingAddr (s : State) (a : Agent) (r : RegRef) (v : Nat) : State :=
  if s.ringOn r.i then s
  else if outOfRange r.reg v then s.raiseDiscarded r.off a
  else s.putReg r v

/-- EVENT_RING_CONFIG (R672, R745). -/
def execEventRingConfig (a : Agent) (ring v : Nat) (s : State) : Outcome :=
  if ring < 2 then .next (s.writeEvtCfg a ring v) else .next s

/-- EVENT_INTERRUPT_TIMER: INTAGE µs after the first unsignalled record, the vector of a ring in use is sent (R671), but during a flush none
(R258). -/
def execEventInterruptTimer (ring : Nat) (s : State) : Outcome :=
  if ring < 2 ∧ s.ringOn ring = true ∧ s.flag F.EVT_CFG_INTEN ring = true ∧ 0 < (s.ring ring).unsig ∧ s.hld.flush = .none then
    .next ((s.setRing ring fun x => { x with unsig := 0 }).send (.msix (s.fld F.EVT_CFG_PF ring) (s.fld F.EVT_CFG_VEC ring)))
  else .next s

end Sys2Proof.Machine
end

