-- ==== Sys2Proof/Machine/Capture.lean ====
section
/-!
DEFINITION. The commands of the capture rings: CAPTURE_WINDOW_WRITE, CAPTURE_UNIT_ACCEPT, CREDIT_SPAN_GRANT, ZONE_QUEUE_PUSH,
STALL_TIMEOUT, RING_ARM, RING_RELEASE, RELEASE_COMPLETE and CAPTURE_COUNT_CLEAR (R214 to R241).
-/

namespace Sys2Proof.Machine

/-! ### Peer writes (R214 to R219) -/

/-- The data aperture's offset in a slot. -/
def aperture : Nat := 0x08000000

def CapState.code : CapState → Nat
  | .idle => 0 | .armed => 1 | .nozone => 2 | .fault => 3 | .draining => 4

/-- What a peer reads at an offset of a ring's slot, eight bytes from an aligned offset on: CRLIM, ACK_ROFF, the ring's state, and zero elsewhere (R215). No row
of the table is a peer's read. -/
def State.slotRead (s : State) (n off : Nat) : Nat :=
  let r := s.capRing n
  if off = 0 then r.crlim
  else if off = 8 then r.ack
  else if off = 16 then r.st.code
  else 0

/-- Is a peer write stray (R216)? -/
def State.strayWrite (s : State) (pf n off rid len : Nat) : Bool :=
  off < aperture || 0x10000000 < off + len || (s.capRing n).st != .armed || s.fld F.CAP_CFG_PF n != pf ||
    (s.flag F.CAP_CFG_PEERCHK n && s.fld F.CAP_CFG_PEERID n != rid)

/-- The ring offset of a block at an aperture offset, less 2^27, so that it is a natural number (R217). -/
def ringOff (crlim y : Nat) : Nat := crlim + (y + 2 ^ 27 - crlim % 2 ^ 27) % 2 ^ 27

/-- The 64-byte blocks of a write: (ring offset plus 2^27, block). -/
def ringBlocks (crlim y : Nat) : Nat → List Byte → List (Nat × BitVec 512)
  | 0, _ => []
  | k + 1, bs => (ringOff crlim y, BitVec.ofNat 512 (ofBytes (bs.take 64))) :: ringBlocks crlim (y + 64) k (bs.drop 64)

/-- CAPTURE_WINDOW_WRITE: a peer write is stray (R216), faults the ring (R241), or places its blocks by ring offset and advances A
(R217 to R221, R237, R238). -/
def execCaptureWindowWrite (pf off rid : Nat) (bytes : List Byte) (s : State) : Outcome :=
  let n := off / 2 ^ 28
  let o := off % 2 ^ 28
  let len := bytes.length
  if n < 64 ∧ 0 < len ∧ s.hld.flush = .none then
    let r := s.capRing n
    if s.strayWrite pf n o rid len then
      .next ((s.putCapRing n { r with discard := sat 16 (r.discard + ceilDiv len 64) }).raiseRingEv n 0 1 [(2, rid), (8, off)])
    else if o % 64 ≠ 0 ∨ len % 64 ≠ 0 then .next (s.faultRing n 2)
    else
      let bs := ringBlocks r.crlim (o - aperture) (len / 64) bytes
      if bs.any fun b => b.1 < r.arrived + 2 ^ 27 || (r.blocks.get? ((b.1 - 2 ^ 27) / 64)).isSome then .next (s.faultRing n 1)
      else
        let s := s.putCapRing n { r with
          blocks := bs.foldl (fun (m : AMap (BitVec 512)) b => m.ins ((b.1 - 2 ^ 27) / 64) b.2) r.blocks }
        .next (s.feedRing n ((s.capRing n).blocks.length + 1))
  else .next s

/-! ### Acceptance (R226 to R229, R232, R45) -/

/-- The granules that hold the ring bytes up to an offset and beyond another. -/
def CapRing.granules (r : CapRing) (a b : Nat) : List (Nat × Nat) :=
  (r.spans.filter fun x => a < (x.1 + 1) * mib && x.1 * mib < b).map fun x => (5, x.2)

/-- The oldest complete unit takes a CSN, becomes a unit in DRAM and asks for credit (R226, R227). -/
def State.capTakeCsn (s : State) (n : Nat) (r : CapRing) (u : CapUnit) (rest : List CapUnit) (entry nsix : Nat) : State :=
  let csn := s.jnl.csn
  let tenant := s.nsOwner nsix
  let prev := match r.inflight.getLast? with
    | some x => x.1.roff
    | none => r.ack
  let lba := u.zone * 262144 + u.zoff
  let d : DramUnit :=
    { dcsn := csn, tenant := tenant, nsix := nsix, lba := lba, kind := 1, group := 0
      info := mkInfo u.data csn csn lba tenant nsix 1 0 false false
      staged := false, reloc := false, accepted := false, credit := false, superseded := false, through := s.hld.wt, place := none, source := none
      ref := none, bufs := r.granules prev u.roff, addr := none }
  let s := (s.takeCsns 1).addUnit (unitKey csn false) d
  let s := s.setCapRing n fun r => { r with units := rest, inflight := r.inflight ++ [(u, csn)] }
  let s := s.setZone entry fun z => { z with lastCsn := max z.lastCsn csn }
  if s.hld.wt then s else s.askCredit (.capture n) unitCredit

/-- Is a unit's credit held, or its stripe closed with its records durable (R37, R227)? -/
def State.capReady (s : State) (csn tenant : Nat) (closes : List Nat) : Bool :=
  match s.str.dram.get? (unitKey csn false) with
  | some d => d.credit
  | none => s.coverDurable tenant closes

/-- Spans whose every ring byte is accepted leave the ring: their granules pass to committed data, or return where nothing holds them
(R209). -/
def State.releaseSpans (s : State) (n : Nat) : State :=
  let r := s.capRing n
  let gone := r.spans.filter fun x => (x.1 + 1) * mib ≤ r.ack
  let s := s.putCapRing n { r with spans := r.spans.filter fun x => !((x.1 + 1) * mib ≤ r.ack) }
  gone.foldl (fun s x =>
    if s.str.dram.any fun e => e.2.bufs.contains (5, x.2) then s.reown [(5, x.2)] ownerCommitted else s.giveBackAll [(5, x.2)]) s

/-- The oldest unit in flight is accepted: ACK_ROFF, the records it completes, its zone's write pointer; a zone whose last unit this is
becomes Full and leaves the ring; the copies of its markers return (R202, R226, R229, R232). -/
def State.capAccept (s : State) (n : Nat) (r : CapRing) (u : CapUnit) (csn : Nat) (rest : List (CapUnit × Nat)) (entry : Nat) : State :=
  let s := s.withStr { s.str with dram := s.str.dram.adj (unitKey csn false) fun d => { d with accepted := true } }
  let s := s.giveBackAll r.marks
  let s := s.withBpm { s.bpm with waits := s.bpm.waits.filter fun w => w.who != .marker n }
  let here := match r.strm with
    | some z => z.zone == u.zone
    | none => false
  let s := s.putCapRing n { r with
    inflight := rest, marks := [], ack := u.roff, recArm := r.recArm + u.recs.length, records := (r.records + u.recs.length) % 2 ^ 64
    ackb := if here then 4096 * (u.zoff + 1) else r.ackb }
  let s := s.setZone entry fun z => { z with wpoff := u.zoff + 1, written := u.zoff + 1, lastCsn := max z.lastCsn csn }
  let s := match s.zone? entry with
    | some z => if z.zcap ≤ u.zoff + 1 then
        (s.unbindZone entry true false).setCapRing n fun r => { r with zq := r.zq.filter fun x => x.entry != entry }
      else s
    | none => s
  s.releaseSpans n

/-- The oldest complete unit of a ring takes a CSN. -/
def State.capNext (s : State) (ring : Nat) (r : CapRing) : State :=
  match r.units with
  | [] => s
  | v :: vs => match s.zone? v.entry with
    | some z => s.capTakeCsn ring r v vs v.entry z.nsix
    | none => s

/-- CAPTURE_UNIT_ACCEPT: the oldest unit in flight is accepted once R37 holds of it; else the oldest complete unit takes a CSN (R226,
R227, R229). -/
def execCaptureUnitAccept (ring : Nat) (s : State) : Outcome :=
  if ring < 64 ∧ s.hld.flush = .none ∧ s.csnReady 2 = true then
    let r := s.capRing ring
    match r.inflight with
    | [] => .next (s.capNext ring r)
    | (u, csn) :: rest =>
      match s.zone? u.entry with
      | none => .next s
      | some z =>
        .next (if s.capReady csn (s.nsOwner z.nsix) u.closes then s.capAccept ring r u csn rest u.entry else s.capNext ring r)
  else .next s

/-! ### Credit (R224, R225) -/

/-- The highest CRLIM that the window allows (R224). -/
def State.creditMax (s : State) (n : Nat) : Nat := (s.capRing n).ack / mib * mib + s.fld F.CAP_CFG_WIN n * mib

/-- Send CRLIM and ACK_ROFF to the push address (R225). -/
def State.pushCredit (s : State) (n : Nat) : State :=
  if s.flag F.CAP_CRPUSH_EN n && s.fnLive (s.fld F.CAP_CFG_PF n) then
    s.send (.creditPush n (16 * s.fld F.CAP_CRPUSH_ADDR n) (s.capRing n).crlim (s.capRing n).ack)
  else s

/-- May a ring's credit grow by a span (R224, R230, R241)? -/
def State.spanOpen (s : State) (n : Nat) : Bool :=
  let r := s.capRing n
  r.st == .armed && s.hld.flush == .none && !s.host.paused && decide (r.crlim + mib ≤ s.creditMax n)

/-- A ring takes a granule as the backing of its next span, with its credit push; a ring that may not grow any more gives it back (R224, R225). -/
def State.takeSpan (s : State) (n g : Nat) : State :=
  if s.spanOpen n then
    (s.setCapRing n fun r => { r with spans := r.spans ++ [(r.crlim / mib, g)], crlim := r.crlim + mib }).pushCredit n
  else s.giveBackAll [(5, g)]

/-! ### Serving requests for buffers (R203) -/

/-- A command has received a granule; with its last one its data may arrive. -/
def Cmd.gotGranule (c : Cmd) (p g : Nat) : Cmd :=
  let want := removeFirst p c.bufs.want
  { c with bufs := { want := want, got := c.bufs.got ++ [(p, g)] }, phase := if want.isEmpty && c.phase == .buffers then .data else c.phase }

/-- Give a lent granule to the one who asked for it. -/
def State.deliver (s : State) (who : BufWho) (p g : Nat) : State :=
  match who with
  | .cmd r => s.setCmd r fun c => c.gotGranule p g
  | .span n => s.takeSpan n g
  | .marker n => s.setCapRing n fun r => { r with marks := r.marks ++ [(p, g)] }
  | .record q => s.withJnl { s.jnl with recs := s.jnl.recs.map fun r => if r.seq = q then { r with buf := some (p, g) } else r }

/-- Lend a granule to a request, which leaves the queue. -/
def State.serve (s : State) (r : BufReq) (g : Nat) : State :=
  ((s.withBpm { s.bpm with waits := removeFirst r s.bpm.waits }).lend r.pool g r.owner).deliver r.who r.pool g

/-- BUFFER_GRANT: a waiting request receives a granule from its pool (R203). Not enabled while no request of the pool may be
served or the pool has no free granule. -/
def execBufferGrant (p : Nat) (s : State) : Outcome :=
  match s.nextRequest p, s.topGranule p with
  | some r, some g => .next (s.serve r g)
  | _, _ => .next s

/-- The request of a ring for its next span. -/
def spanRequest (n : Nat) : BufReq := ⟨5, ownerRing n, .span n⟩

/-- CREDIT_SPAN_GRANT: a ring asks for a 1 MiB span backed by a fresh granule, within the window (R224), and gets it where it is the next to be served;
else it waits in its turn for the pool (R203, R205). Not enabled while the ring is not ARMED, a hot activation pauses credit, or it waits already. -/
def execCreditSpanGrant (ring : Nat) (s : State) : Outcome :=
  if ring < 64 ∧ s.spanOpen ring = true ∧ s.bpm.waits.contains (spanRequest ring) = false then
    let s := s.askBuffers (ownerRing ring) (.span ring) [5]
    match s.topGranule 5 with
    | some g => .next (if s.nextRequest 5 = some (spanRequest ring) then s.serve (spanRequest ring) g else s)
    | none => .next s
  else .next s

/-! ### The zone queue (R228, R230, R231) -/

/-- The result of a push: 0, with the entry and namespace, or an ERR code of CAP_STAT. -/
def State.pushCheck (s : State) (r : CapRing) (nsid zone : Nat) : Except Nat (Nat × Nat × Ns) :=
  match s.nsOf? nsid with
  | none => .error 5
  | some (k, n) =>
    if r.st = .draining then .error 8
    else if n.kind ≠ .zoned ∨ n.wp = true then .error 5
    else if n.zones ≤ zone then .error 0x0A
    else if 32 ≤ r.zq.length then .error 3
    else match n.entryOf zone with
      | none => .error 0x0A
      | some e => match s.zone? e with
        | none => .error 0x0A
        | some z =>
          if z.zs ≠ .empty ∨ z.action.isSome = true then .error 1
          else if s.fld F.ZON_TN_LIM_ACT n.owner < s.activeOf n.owner + 1 ∨ s.fld F.ZON_TN_LIM_OPEN n.owner < s.openOf n.owner + 1 then .error 2
          else if !z.bound && (s.chooseZoneSet n.owner).isNone then .error 4
          else .ok (e, k, n)

/-- Bind a zone to a ring and queue it (R228); a successful push takes the ring out of NOZONE (R230). -/
def State.pushZone (s : State) (ring zone : Nat) : State :=
  let r := s.capRing ring
  match s.pushCheck r (s.fld F.CAP_NS_NSID ring) zone with
  | .error e => s.putCapRing ring { r with err := e }
  | .ok (e, k, n) =>
    match s.bindLate n k e with
    | none => s.putCapRing ring { r with err := 4 }
    | some s =>
      let s := s.setZone e fun z => { z with zs := .explicitOpen, ring := some ring }
      let csn := s.jnl.csn
      let s := (s.takeCsns 1).zoneRecord n.owner csn e 7
      let s := s.setCapRing ring fun r => { r with err := 0, zq := r.zq ++ [⟨zone, e⟩] }
      let s := if (s.capRing ring).st = .nozone then s.switchZone ring else s
      let s := s.checkLow ring
      s.feedRing ring ((s.capRing ring).blocks.length + 1)

/-- ZONE_QUEUE_PUSH: a write of CAP_ZQ_PUSH (R228). -/
def execZoneQueuePush (_a : Agent) (ring v : Nat) (s : State) : Outcome :=
  if ring < 64 then .next (s.pushZone ring (v % 2 ^ 20)) else .next s

/-! ### Stalls (R234 to R236) -/

/-- STALL_TIMEOUT: with a block beyond A the ring faults (R235); inside a record a truncation marker is stored; at a boundary, a pad
marker (R236). Not enabled while the Stall Timer does not run (R234). -/
def execStallTimeout (ring : Nat) (s : State) : Outcome :=
  let r := s.capRing ring
  if ring < 64 ∧ r.st = .armed ∧ r.arrived < r.crlim ∧ s.host.paused = false ∧ s.hld.flush = .none ∧ (r.inRec = true ∨ r.cur ≠ []) then
    if r.blocks ≠ [] then .next (s.faultRing ring 5)
    else if r.inRec then
      if r.truncated then .next s
      else
        let s := s.putMarker ring ⟨2, 1, r.arrived, r.lastSeq, min r.recLen (r.arrived - r.recStart - 64), r.recLen⟩
        let s := s.setCapRing ring fun r => { r with truncated := true, trunc := sat 16 (r.trunc + 1) }
        .next ((s.settleZone ring).raiseRingEv ring 1 1 [(8, r.lastSeq), (8, r.arrived)])
    else .next ((s.putMarker ring ⟨4, 0, r.arrived, r.seqNow, 0, 0⟩).settleZone ring)
  else .next s

/-! ### Arming and release (R239, R240) -/

/-- The window of every ring that is not IDLE, in MiB (CAP_WINSUM). -/
def State.winSum (s : State) : Nat := s.cap.rings.foldl (fun n e => if e.2.st == .idle then n else n + s.fld F.CAP_CFG_WIN e.1) 0

/-- The result of ARM, as an ERR code of CAP_STAT (R239); a locked tenant's capture is not permitted (R566). -/
def State.armCheck (s : State) (ring : Nat) : Nat :=
  let r := s.capRing ring
  if r.st ≠ .idle then 8
  else if r.zq = [] then 9
  else match s.nsOf? (s.fld F.CAP_NS_NSID ring) with
    | none => 5
    | some (_, n) =>
      if n.kind ≠ .zoned ∨ n.wp = true then 5
      else if !(s.tsec n.owner).capture || (s.tsec n.owner).locked then 6
      else if 1024 < s.winSum + s.fld F.CAP_CFG_WIN ring then 7
      else 0

/-- Arm a ring: ring offset 0, a new ARMID, a transit key, and a zone start marker (R239, R536). CRLIM returns to 0 with the ring offset, which sends no
credit push (R225; DESIGN CHOICE, log entry 148). -/
def State.armRing (s : State) (ring : Nat) : State :=
  let e := s.armCheck ring
  let r := s.capRing ring
  if e ≠ 0 then s.putCapRing ring { r with err := e }
  else
    let key := s.drawOctets 64
    let s := s.drew.withSec { s.sec with transit := s.sec.transit.ins ring key }
    let s := s.putCapRing ring { CapRing.reset with
      st := .armed, armId := (r.armId + 1) % 2 ^ 32, zq := r.zq, nsix := ((s.nsOf? (s.fld F.CAP_NS_NSID ring)).map fun x => x.1).getD 0, records := r.records, trunc := r.trunc, cont := r.cont
      seqgap := r.seqgap, discard := r.discard }
    (s.startZone ring (2 ^ 64 - 1)).checkLow ring

/-- A write of CAP_CTL: CLR, ARM and RELEASE. -/
def State.writeCapCtl (s : State) (ring v : Nat) : State :=
  let s := if v.testBit 2 then s.setCapRing ring fun r => { r with trunc := 0, cont := 0, seqgap := 0, discard := 0 } else s
  if v.testBit 0 && v.testBit 1 then s.setCapRing ring fun r => { r with err := 8 }
  else if v.testBit 0 then s.armRing ring
  else if v.testBit 1 then s.releaseRing ring 2
  else s

/-- RING_ARM (R239). -/
def execRingArm (_a : Agent) (ring : Nat) (s : State) : Outcome := if ring < 64 then .next (s.armRing ring) else .next s

/-- RING_RELEASE (R240). -/
def execRingRelease (_a : Agent) (ring : Nat) (s : State) : Outcome :=
  if ring < 64 then .next (s.releaseRing ring 2) else .next s

/-- CAPTURE_COUNT_CLEAR: CAP_CTL.CLR (R12). -/
def execCaptureCountClear (_a : Agent) (ring : Nat) (s : State) : Outcome := if ring < 64 then .next (s.writeCapCtl ring 4) else .next s

/-- The last step of a release: the zones of the queue close, spans return, and the ring is IDLE (R240). -/
def State.endRelease (s : State) (ring : Nat) : State :=
  let r := s.capRing ring
  let s := r.zq.foldl (fun s z => s.unbindZone z.entry false (r.release != 2)) s
  let s := s.setCapRing ring fun r => { r with zq := [], strm := none, spans := [], marks := [], st := .idle, cur := [], curRecs := [], fault := 0 }
  let s := r.spans.foldl (fun s x =>
    if s.str.dram.any fun e => e.2.bufs.contains (5, x.2) then s.reown [(5, x.2)] ownerCommitted else s.giveBackAll [(5, x.2)]) s
  let s := s.giveBackAll r.marks
  let s := s.withBpm { s.bpm with waits := s.bpm.waits.filter fun w => w.who != .span ring && w.who != .marker ring }
  s.raiseRingEv ring 6 0 [(1, r.release), (8, r.ack)]

/-- RELEASE_COMPLETE: once every complete unit of a draining ring is accepted, an end marker is stored if a unit of capacity remains; once
that too is accepted, the zones close and the ring returns to IDLE (R240). -/
def execReleaseComplete (ring : Nat) (s : State) : Outcome :=
  let r := s.capRing ring
  if ring < 64 ∧ r.st = .draining ∧ r.units = [] ∧ r.inflight = [] ∧ s.hld.flush = .none then
    if !r.ended && (s.streamRoom r || !r.cur.isEmpty) then
      .next ((s.setCapRing ring fun r => { r with ended := true }).putMarker ring ⟨5, r.release, r.ack, r.seqNow, r.recArm, 0⟩)
    else .next (s.endRelease ring)
  else .next s

end Sys2Proof.Machine
end

