-- ==== Sys2Proof/Machine/JournalBytes.lean ====
section
/-!
DEFINITION. The bytes of the Stripe Intent Journal: records (R269, R270) and pages with their headers (R273, R274).
-/

namespace Sys2Proof.Machine

/-- MEMBER[m]: 3 bytes each, the global die in bits 23:13 and the block in bits 12:0 (R178). -/
def memberBytes (ms : List (Nat × Nat)) : List Byte := ms.flatMap fun m => toBytes 3 (m.1 * 2 ^ 13 + m.2)

/-- TYPE of a record (R270). -/
def JBody.type : JBody → Nat
  | .stripeOpen .. => 0x01
  | .stripeParity .. => 0x02
  | .stripeClose .. => 0x03
  | .zone .. => 0x10
  | .mapChange .. => 0x11
  | .superBind .. => 0x12
  | .eraseIntent .. => 0x13
  | .eraseDone .. => 0x14
  | .memberReplace .. => 0x15
  | .namespaceRec .. => 0x16
  | .ceiling => 0x20
  | .checkpoint .. => 0x21

/-- The body of a record (R270). -/
def JBody.bytes : JBody → List Byte
  | .stripeOpen id hi => toBytes 8 id ++ toBytes 8 hi
  | .stripeParity id mask st => toBytes 8 id ++ toBytes 2 mask ++ toBytes 1 st
  | .stripeClose id mask hi => toBytes 8 id ++ toBytes 4 mask ++ toBytes 8 hi
  | .zone e a zs wp cap bind ms => toBytes 4 e ++ toBytes 1 a ++ toBytes 1 zs ++ toBytes 4 wp ++ toBytes 4 cap ++ toBytes 8 bind ++ memberBytes ms
  | .mapChange nsix kind lba nlb first => toBytes 2 nsix ++ toBytes 1 kind ++ toBytes 8 lba ++ toBytes 4 nlb ++ toBytes 4 first
  | .superBind h g ms => toBytes 2 h ++ toBytes 2 g ++ memberBytes ms
  | .eraseIntent d b why => toBytes 2 d ++ toBytes 2 b ++ toBytes 1 why
  | .eraseDone d b => toBytes 2 d ++ toBytes 2 b
  | .memberReplace setid m d b => toBytes 4 setid ++ toBytes 1 m ++ toBytes 2 d ++ toBytes 2 b
  | .namespaceRec nsix a kind lbaf nph nsze nsid =>
    toBytes 2 nsix ++ toBytes 1 a ++ toBytes 1 kind ++ toBytes 1 lbaf ++ toBytes 1 nph ++ toBytes 8 nsze ++ toBytes 4 nsid
  | .ceiling => []
  | .checkpoint kind loc => toBytes 1 kind ++ toBytes 8 loc

/-- A record in its slots, with its CRC-32C (R269). -/
def JRec.bytes (r : JRec) : List Byte :=
  let n := 64 * r.body.slots
  let l := padTo (n - 4) (toBytes 1 r.body.type ++ toBytes 1 r.body.slots ++ toBytes 2 r.tenant ++ toBytes 4 r.seq ++ toBytes 8 r.csn ++ r.body.bytes)
  l ++ toBytes 4 (crc32cBytes l)

/-- The 16 KiB of a journal page on copy A (0) or B (1): its header, whose CRC-32C covers every used slot, and its records (R273, R274). -/
def JPage.bytes (p : JPage) (copy ceiling : Nat) (rs : List JRec) : List Byte :=
  let slots := rs.flatMap JRec.bytes
  let h := padTo 60 (toBytes 4 0x4A4E4C31 ++ toBytes 1 copy ++ toBytes 1 p.used ++ toBytes 2 0 ++ toBytes 8 p.seq ++ toBytes 4 p.first ++ toBytes 8 ceiling)
  padTo 16384 (h ++ toBytes 4 (crc32cBytes (h ++ slots)) ++ slots)

end Sys2Proof.Machine
end

