-- ==== Sys2Proof/Machine/FlushImage.lean ====
section
/-!
DEFINITION. The flush image on flash (R57, R260 to R263, R280, R401): its units in the order of R260, the flush stripes that hold them with P and
Q, the packages of their members, and what a start can still read.
-/

namespace Sys2Proof.Machine

/-! ### The bytes (R262, R263) -/

/-- The 4,096 bytes of the image header unit (magic 0x5C45_4844) or of the commit record (0x5C45_434D) (R262). -/
def Image.unitBytes (i : Image) (magic : Nat) : List Byte :=
  let body := toBytes 4 magic ++ toBytes 4 i.area ++ toBytes 8 i.seq ++ toBytes 8 i.ceiling ++ toBytes 4 i.units.length ++
    toBytes 4 (ceilDiv i.units.length 128) ++ toBytes 4 i.pages.length ++ toBytes 8 i.time ++ toBytes 4 i.budget ++ toBytes 4044 0
  body ++ toBytes 4 (crc32cBytes body)

/-- The 32 bytes of an index entry (R263). -/
def ImageUnit.entry (u : ImageUnit) : List Byte :=
  let dest := if u.placed then 2 ^ 63 + u.stripe * 16 + u.pos else u.group % 32
  let body := toBytes 8 u.csn ++ toBytes 2 u.tenant ++ toBytes 2 (u.nsix + (if u.kind = 1 then 2 ^ 12 else 0)) ++ toBytes 8 u.lba ++ toBytes 8 dest
  body ++ toBytes 4 (crc32cBytes body)

def ImageUnit.info (u : ImageUnit) : Info := BitVec.ofNat 33152 (u.data.toNat + u.cov.toNat * 2 ^ 32768)

/-! ### The units of the image, in the order of R260 -/

def Image.indexUnits (i : Image) : Nat := ceilDiv i.units.length 128

/-- The first unit of the journal tail, whose pages take four units each (R273), and the first data unit. -/
def Image.tailAt (i : Image) : Nat := 1 + i.indexUnits
def Image.dataAt (i : Image) : Nat := i.tailAt + 4 * i.pages.length

/-- Units in the image, without the commit record. -/
def Image.size (i : Image) : Nat := i.dataAt + i.units.length

/-- A unit's content as flash holds it. -/
def Image.content (i : Image) (u : Nat) : Info :=
  let unit (b : List Byte) : Info := BitVec.ofNat 33152 (ofBytes b)
  if u = 0 then unit (i.unitBytes 0x5C454844)
  else if u < i.tailAt then unit (padTo 4096 (((i.units.drop (128 * (u - 1))).take 128).flatMap ImageUnit.entry))
  else if u < i.dataAt then
    let k := (u - i.tailAt) / 4
    match i.pages.drop k with
    | p :: _ => unit ((((p.bytes 0 i.ceiling (i.tail.filter fun r => r.page == some p.seq)).drop (4096 * ((u - i.tailAt) % 4)))).take 4096)
    | [] => 0
  else match i.units.drop (u - i.dataAt) with
    | x :: _ => x.info
    | [] => 0

/-! ### Flush stripes (R57, R400, R401) -/

/-- The 18 members of flush stripe k by role: 16 units of the image, zeros past its end, and their P and Q (R57, R402). -/
def Image.stripe (i : Image) (k : Nat) : List Info :=
  let ds := (List.range 16).map fun d => if 16 * k + d < i.size then i.content (16 * k + d) else 0
  ds ++ [parityP ds, parityQ ds]

/-- The package of member m of flush stripe k: position (18 × k + m) mod N among the N flush packages (R401). -/
def Image.package (i : Image) (k m : Nat) : Nat := nth i.pkgs ((18 * k + m) % i.pkgs.length) 0

/-- Has member m of flush stripe k been programmed? P and Q follow the stripe's last unit. -/
def Image.written (i : Image) (k m : Nat) : Bool :=
  let role := roleOf k m
  if role < 16 then decide (16 * k + role < i.part) else decide (min (16 * (k + 1)) i.size ≤ i.part)

/-- The two packages of the commit record: those of the two members that follow the image (R260; DESIGN CHOICE, log entry 149). -/
def Image.commitPkgs (i : Image) : List Nat := [i.package (ceilDiv i.size 16) 0, i.package (ceilDiv i.size 16) 1]

/-! ### What a start can read (R57, R261, R280) -/

/-- Is a package in service? -/
def State.pkgServes (s : State) (p : Nat) : Bool := s.linkUp p && !s.med.pkgFailed.contains p

/-- The written members of a flush stripe that cannot be read. -/
def State.flushGone (s : State) (i : Image) (k : Nat) : List Nat :=
  (List.range 18).filter fun m => i.written k m && !s.pkgServes (i.package k m)

/-- A unit of the image can be read, or restored from the other members of its whole stripe (R57). -/
def State.flushReads (s : State) (i : Image) (u : Nat) : Bool :=
  let k := u / 16
  decide (u < i.part) && (!(s.flushGone i k).contains (memberOfData k (u % 16)) ||
    ((List.range 18).all (i.written k) && decide ((s.flushGone i k).length ≤ 2)))

/-- Is the image committed: can its commit record be read (R260, R278)? -/
def State.imageCommitted (s : State) (i : Image) : Bool := i.committed && i.commitPkgs.any s.pkgServes

/-- Can the index entry of data unit j be read? -/
def State.indexed (s : State) (i : Image) (j : Nat) : Bool := s.flushReads i (1 + j / 128)

/-- The data units that can be restored. One whose index entry cannot be read is taken from its covered part, without a place (R280), and its
reclaim group is that of R186 for an extent with no writes (DESIGN CHOICE, log entry 150). -/
def State.imageFound (s : State) (i : Image) : List ImageUnit :=
  i.units.zipIdx.filterMap fun x =>
    if !s.flushReads i (i.dataAt + x.2) then none
    else some (if s.indexed i x.2 then x.1 else { x.1 with placed := false, group := 19 })

/-- The data units that cannot, with the reason of R280: 0x03 if the image was cut off before the unit, else 0x04; and whether the index entry
names them. -/
def State.imageLost (s : State) (i : Image) : List (ImageUnit × Nat × Bool) :=
  i.units.zipIdx.filterMap fun x =>
    if s.flushReads i (i.dataAt + x.2) then none
    else
      let known := s.indexed i x.2
      some (x.1, if known && decide (i.part ≤ i.dataAt + x.2) then 3 else 4, known)

/-- The journal tail's pages that can be read: a prefix ends at the first that cannot (R278). -/
def State.tailFound (s : State) (i : Image) : List JPage :=
  (i.pages.zipIdx.takeWhile fun x => (List.range 4).all fun n => s.flushReads i (i.tailAt + 4 * x.2 + n)).map (·.1)

/-- The records of those pages. -/
def State.tailRecords (s : State) (i : Image) : List JRec :=
  i.tail.filter fun r => (s.tailFound i).any fun p => r.page == some p.seq

/-- Flush stripes of which a written unit cannot be restored (R261). -/
def State.flushLost (s : State) (i : Image) : List Nat :=
  (List.range (ceilDiv i.size 16)).filter fun k => (List.range 16).any fun d => decide (16 * k + d < i.part) && !s.flushReads i (16 * k + d)

end Sys2Proof.Machine
end

