-- ==== Sys2Proof/Machine/Flush.lean ====
section
/-!
DEFINITION. The Schuss flush (R258 to R266 of spec/05_holdup_journal.md, R596, R650, R699, R725) and the loss of power, with the commands
VIN_LOSS_CONFIRMED, FORCED_FLUSH, FLUSH_DRAIN_DONE, FLUSH_COMMIT_PROGRAMMED and FLUSH_END.
-/

namespace Sys2Proof.Machine

/-! ### What a loss of power leaves (R13, R646, R698) -/

/-- Does a register of the window keep its value (R646)? -/
def keepsValue (off : Nat) : Bool :=
  (offOf .PWR_WAKE_CFG ≤ off && off < offOf .PWR_WAKE_CFG + 0x20) || (offOf .PWR_WAKE_SET ≤ off && off < offOf .PWR_WAKE_SET + 0x100)

/-- What a function keeps: its flexible resources and the results of its long operations (log entry 32). -/
def FnState.afterRestart (f : FnState) : FnState :=
  { FnState.reset with vq := f.vq, vi := f.vi, feat := f.savedFeat, dstResult := f.dstResult, sanState := if f.sanState = 2 then 1 else f.sanState, sanCdw10 := f.sanCdw10 }

/-- What the vault store and the fuses hold of a tenant: no offer, no nonce, no envelope; TK of a TKVOL tenant is not stored (R566). -/
def TenantSec.afterRestart (x : TenantSec) : TenantSec :=
  { x with
    outcome := match x.env with
      | some e => if e.durable then 2 else x.outcome
      | none => x.outcome
    tk := if x.tkvol then none else x.tk, offer := none, nonce := none, env := none, releasing := false }

/-- The vault after a loss of power. -/
def Vault.afterRestart (v : Vault) : Vault :=
  { Vault.reset with
    svnFloor := v.svnFloor, krevoked := v.krevoked, kvalid := v.kvalid, prod := v.prod, gradeX := v.gradeX
    tenants := v.tenants.mapV fun _ x => x.afterRestart
    keys := v.keys, nextKey := v.nextKey, storeA := v.storeA, storeB := v.storeB }

/-- Program operations that the loss cuts off: their groups are never programmed again (R425). -/
def State.cutGroups (s : State) : List Nat :=
  s.sch.dies.filterMap fun d => match d.2.op with
    | some o => match o.req.kind with
      | .program setid m grp => some (groupKey setid m grp)
      | _ => none
    | none => none

/-- The ends of the zone streams that the loss cuts off, by zone entry: what their end markers say (R222, R223, R241). -/
def State.streamEnds (s : State) : AMap CapEnd :=
  s.cap.rings.foldl (fun (m : AMap CapEnd) e =>
    let r := e.2
    match r.strm with
    | some z => if r.st = .idle then m else m.ins z.entry ⟨e.1, r.armId, r.ack, r.seqNow, r.recArm⟩
    | none => m) s.cap.ends

/-- Is a unit of DRAM on flash too? -/
def State.onFlash (s : State) (u : DramUnit) : Bool :=
  match u.place with
  | none => false
  | some (id, d) => match s.set? (stripeSet id) with
    | none => false
    | some r => match s.rowGroup r (memberOfData (stripeRow id) d) (stripeRow id) with
      | some g => s.groupState (stripeSet id) (memberOfData (stripeRow id) d) g == some .done
      | none => false

/-- The data CSNs, first and one past the last, of the unacknowledged writes of at most 128 KiB that cross no 128 KiB boundary and that the loss
leaves in part on flash: none of their units applies (R41; log entry 151). A write whose units hold credit is in the image whole (R259). -/
def State.tornWrites (s : State) : List (Nat × Nat) :=
  (s.str.dram.filterMap fun e =>
    if e.2.accepted || e.2.credit || s.onFlash e.2 then none
    else match (e.2.ref.bind s.cmd?).map fun c => (c.csn, c) with
      | some (some lo, c) => if c.nlb ≤ 32 ∧ c.lba / 32 = (c.lba + c.nlb - 1) / 32 then some (lo, lo + c.nlb) else none
      | _ => none).dedup

def Ckpt.afterRestart (c : Ckpt) : Ckpt := { c with active := false, cut := CkData.empty, sets := [] }

/-- The part without power: everything at its reset value but flash, the NOR, the vault store, the pins, and, unless VAUX was lost, the
always-on island. The namespace table is kept as the namespaces' lasting attributes (log entry 33). -/
def State.powerOff (s : State) (vaux : Bool) : State :=
  let s := s.cutProgram
  { State.reset with
    ao := if vaux then s.ao else AlwaysOn.reset
    win := if vaux then { Window.reset with regs := s.win.regs.filter fun e => keepsValue e.1 } else Window.reset
    ev := { Events.reset with epoch := s.ev.epoch, esns := s.ev.esns, nextTag := s.ev.nextTag }
    host := { HostSide.reset with
      portA := { Port.reset with perst := s.host.portA.perst }, portB := { Port.reset with perst := s.host.portB.perst }
      fns := s.host.fns.mapV fun _ f => f.afterRestart, out := s.host.out }
    hld := { Holdup.reset with imgSeq := s.hld.imgSeq, area0 := s.hld.area0, area1 := s.hld.area1 }
    jnl := { Journal.reset with
      recs := (s.jnl.recs.filter fun r => r.onBoth).map fun r => { r with credit := false, buf := none }, nextSeq := s.jnl.nextSeq, kept := s.jnl.kept, pseq := s.jnl.pseq, csn := s.jnl.csn, ceiling := s.jnl.ceiling
      okA := s.jnl.okA, okB := s.jnl.okB }
    zon := { Zones.reset with ns := s.zon.ns.mapV fun _ n => n.newCycle }
    cap := { Capture.reset with ends := s.streamEnds }
    str := { Stripes.reset with
      groups := s.cutGroups.foldl (fun m k => m.ins k ⟨.failed, 0, none⟩) []
      lost := s.str.lost, lostTotal := s.str.lostTotal, lostOverflow := s.str.lostOverflow, lostOvTenants := s.str.lostOvTenants
      lostByTenant := s.str.lostByTenant, torn := (s.str.torn ++ s.tornWrites).dedup }
    med := { Media.reset with
      flash := s.med.flash, ck1 := s.med.ck1.afterRestart, ck2 := s.med.ck2.afterRestart, ckSeq := s.med.ckSeq
      ewLog := s.med.ewLog, ewTotal := s.med.ewTotal, ewOverflow := s.med.ewOverflow }
    sec := s.sec.afterRestart
    pwr := if vaux then { Power.reset with pins := s.pwr.pins, pend := s.pwr.pend } else { Power.reset with pins := s.pwr.pins }
    boot := { Boot.reset with
      wdog := s.boot.wdog, vauxLost := s.boot.vauxLost, nor := s.boot.nor, factory := s.boot.factory, cfgA := s.boot.cfgA, cfgB := s.boot.cfgB
      recs := s.boot.recs, brActive := s.boot.brActive, f0 := s.boot.f0, f1 := s.boot.f1, fActive := s.boot.fActive }
    brd := { s.brd with vin := s.brd.vin && s.brd.iso, warn := false, crit := false, dbg1 := false, dbg2 := false }
    mgt := { Mgmt.reset with vpd := s.mgt.vpd }
    free := s.free, pending := s.pending }

/-- Restart at stage 1 with a reset type of R748: every domain comes On (R649), FLUSH_N and THERMTRIP_N are released (R725, R742), and a new epoch
begins (R663). -/
def State.restart (s : State) (rtype : Nat) : State :=
  let s := s.allOn
  let s := s.withEv { s.ev with epoch := min (s.ev.epoch + 1) 0x3FFFF, count := 0 }
  (s.withBoot { s.boot with stage := 1, rtype := rtype, began := s.ao.time }).withBrd { s.brd with flushN := false, thermtripN := false }

/-- The part after a flush, or after a loss of VIN that no flush follows: it restarts if VIN is present, else it waits for it (R264, R698). With
the isolation switch off, the VIN node is not (R717). -/
def State.afterPower (s : State) (rtype : Nat) : State :=
  let vaux := rtype ≠ 3
  let s := s.powerOff vaux
  if s.brd.vin && s.brd.vaux && !s.brd.tripped then s.restart rtype else s.withBoot { s.boot with rtype := rtype }

/-! ### Starting a flush (R258, R266, R650, R725) -/

/-- Has the flush bank power: every flush but a reset flush (R699, R725)? -/
def onBank (cause : Nat) : Bool := cause == 2 || cause == 3 || cause == 6 || cause == 7

/-- Start a flush: fetch, completions, capture credit and background work stop by their guards; the domains it needs return. Before the ports
are enabled no flush starts (R265). -/
def State.startFlush (s : State) (cause : Nat) : State :=
  if s.hld.flush ≠ .none then s
  else if !s.host.enabled then s.afterPower cause
  else
    let s := s.withHld { s.hld with bank := .flushing, flush := .draining, flushCause := cause, test := .none }
    let s := s.withDrm { s.drm with flushRefresh := true }
    let s := s.withLnk { s.lnk with links := s.lnk.links.mapV fun _ l => if l.st = .active then l.bothLanes else l }
    let s := if onBank cause then s.withBrd { s.brd with flushN := true, iso := if cause = 3 then s.brd.iso else false } else s
    s.domainsForFlush

/-- VIN_LOSS_CONFIRMED: VIN has stayed below the threshold for DG µs (R257, R258). -/
def execVinLossConfirmed (s : State) : Outcome :=
  if s.hld.vinLow.isSome = true ∧ s.hld.flush = .none then
    .next ((s.withBrd { s.brd with vin := false, iso := false }).startFlush 2)
  else .next s

/-- A write of HLD_CTL: FORCE with KEY 0x5C starts a flush, and any other KEY makes the write ineffective; without FORCE, TEST asks for an
energy test (R246, R266). -/
def State.writeHldCtl (s : State) (v : Nat) : State :=
  if v.testBit 1 then (if bits v 15 8 = 0x5C then s.startFlush 6 else s)
  else if v.testBit 0 then s.requestTest
  else s

/-- FORCED_FLUSH: FORCE with this KEY and TEST (R266). -/
def execForcedFlush (_a : Agent) (key test : Nat) (s : State) : Outcome :=
  .next (s.writeHldCtl (key % 256 * 256 + 2 + test % 2))

/-! ### The image (R259 to R263) -/

/-- The reclaim group of a unit as an index entry names it: the handle number, or 16 + lifetime class, of a host unit of a placement namespace
(R263). -/
def State.imageGroup (s : State) (u : DramUnit) : Nat :=
  match s.nsAt u.nsix with
  | some n => if n.kind = .zoned ∨ u.kind = 1 then 0 else if u.group < n.nph then u.group else 16 + (u.group - n.nph)
  | none => 0

/-- The units that hold credit, whether or not their write was accepted, in the order of their keys: by stripe CSN (R259). -/
def State.imageUnits (s : State) : List ImageUnit :=
  (s.str.dram.filter fun e => e.2.credit).map fun e =>
    let u := e.2
    { csn := u.dcsn, tenant := u.tenant, nsix := u.nsix, kind := u.kind, lba := u.lba, placed := u.place.isSome
      stripe := (u.place.getD (0, 0)).1, pos := (u.place.getD (0, 0)).2, group := s.imageGroup u
      data := u.info.data, cov := BitVec.ofNat 384 (u.info.toNat / 2 ^ 32768) }

/-- The records of the journal tail: those of pages not yet on both copies (R260), but for an erase intent that is not durable, which is absent at
recovery (R272). -/
def JRec.inTail (r : JRec) : Bool :=
  !r.onBoth && (match r.body with
    | .eraseIntent .. => r.credit
    | _ => true)

/-- Compose the image in the other flush area (R260 to R263). -/
def State.composeImage (s : State) : State :=
  let seq := s.hld.imgSeq + 1
  let j := s.jnl.closePage
  let tail := (j.recs.filter JRec.inTail).map fun r => { r with credit := false, buf := none }
  let img : Image :=
    { area := seq % 2, seq := seq, ceiling := s.jnl.ceiling, time := s.hld.vinLow.getD s.ao.time, budget := s.hld.budget / mib
      units := s.imageUnits
      pages := j.pages.map fun p => { p with used := ((tail.filter fun r => r.page == some p.seq).map fun r => r.body.slots).sum }
      tail := tail, pkgs := s.flushPkgs, part := 0, committed := false, took := 0 }
  let h := { s.hld with imgSeq := seq, flush := .writing }
  s.withHld (if seq % 2 = 0 then { h with area0 := some img } else { h with area1 := some img })

def State.image? (s : State) : Option Image := if s.hld.imgSeq % 2 = 0 then s.hld.area0 else s.hld.area1

def State.putImage (s : State) (i : Image) : State :=
  s.withHld (if i.area = 0 then { s.hld with area0 := some i } else { s.hld with area1 := some i })

/-- FLUSH_DRAIN_DONE: the write queues have drained (R38, R596) and the image is being programmed. -/
def execFlushDrainDone (s : State) : Outcome :=
  if s.hld.flush = .draining ∧ s.chanDoms.all (fun d => (s.dom d).st != .returning) = true then .next s.drainEverything.composeImage else .next s

/-- FLUSH_COMMIT_PROGRAMMED: the commit record is on two packages (R260). -/
def execFlushCommitProgrammed (s : State) : Outcome :=
  match s.hld.flush, s.image? with
  | .writing, some i =>
    let s := s.putImage { i with part := i.size, committed := true, took := (s.ao.time - i.time) / 1000 }
    .next (s.withHld { s.hld with flush := .committed })
  | _, _ => .next s

/-- How far an image came that power cut off: nothing fixes it (R280), so it is a free value. -/
def State.cutImage (s : State) : State :=
  match s.hld.flush, s.image? with
  | .writing, some i => (s.putImage { i with part := Config.freeNat s.free % (i.size + 1) }).drew
  | _, _ => s

/-- FLUSH_END: every switched domain is Off; a present VIN restarts the part (R264). -/
def execFlushEnd (s : State) : Outcome :=
  if s.hld.flush = .none then .next s else .next (s.cutImage.afterPower s.hld.flushCause)

end Sys2Proof.Machine
end

