-- ==== Sys2Proof/Machine/Recovery.lean ====
section
/-!
DEFINITION. Recovery, stage 7 of start-up (R169, R173, R241, R278 to R281, R371, R425, R436, R442, R492, R494, R511, R521): what the checkpoints,
the journal, flash and the flush image give back. It is one whole step, in the order of R278.
-/

namespace Sys2Proof.Machine

/-! ### The tables of the checkpoints (R501, R508) -/

/-- Does a record follow a kind's newest checkpoint record? -/
def Ckpt.before (c : Ckpt) (r : JRec) : Bool := c.doneSeq == 0 || decide (c.doneRec < r.seq)

/-- A namespace as it was: its lasting attributes, where they are those of the same creation (log entry 33). -/
def lastingNs (kept : AMap Ns) (nsix : Nat) (n : Ns) : Ns :=
  match kept.get? nsix with
  | some m => if m.bindCsn = n.bindCsn then m else { n with hist := [] }
  | none => { n with hist := [] }

/-- System blocks as the scan of their trailers finds them (R507): those of the two complete checkpoints are theirs, and any other that a
checkpoint set has written is erased again. -/
def State.markSystem (s : State) : State :=
  let sets := s.med.ck1.doneSets ++ s.med.ck2.doneSets
  let s := s.withMed { s.med with bit := s.med.bit.mapV fun _ b => if b.st == .system && b.setid != 0 then { b with st := .eraseQueue, reason := 5 } else b }
  sets.foldl (fun s x => x.2.zipIdx.foldl (fun (s : State) m => s.setBlk m.1.1 m.1.2 fun b => { b with st := .system, setid := x.1, member := m.2, reason := 0 }) s) s

/-- A checkpoint is complete at start: each of its sets misses at most two members (R508). -/
def State.ckReadable (s : State) (c : Ckpt) : Bool :=
  c.doneSets.all fun x => decide ((x.2.filter fun m => s.dieFailed m.1 || !s.pkgServes (pkgOf m.1)).length ≤ 2)

/-- A checkpoint that is not complete is ignored with its record (R508). Its predecessor's sets are on the erase queue since it became complete
(R510), so nothing of its kind is left (DEDUCED, log entry 157). -/
def State.checkCkpts (s : State) : State :=
  let gone (c : Ckpt) : Ckpt := if s.ckReadable c then c else { c with doneSeq := 0, doneRec := 0, doneCsn := 0, doneTime := 0, done := CkData.empty, doneSets := [] }
  s.withMed { s.med with ck1 := gone s.med.ck1, ck2 := gone s.med.ck2 }

/-- The structures of both checkpoints. A zone set comes from kind 1, a superblock from kind 2. -/
def State.restoreTables (s : State) : State :=
  let a := s.med.ck1.done
  let b := s.med.ck2.done
  let s := s.withZon { s.zon with
    ns := a.ns.mapV (lastingNs s.zon.ns)
    zdt := a.zdt.mapV fun _ z => { z with action := none }
    map := b.map, sb := b.sb, stg := b.stg, stgOpen := [], reserved := [] }
  let s := s.withStr { s.str with sets := (a.sets.filter fun e => e.1 < 0x100000) ++ b.sets.filter fun e => 0x100000 ≤ e.1 }
  let s := s.withDdk { s.ddk with bands := a.bands, eh := a.eh }
  let s := s.withMed { s.med with
    bit := a.bit, hc := a.hc, hist := a.hist, tlow := a.tlow, thigh := a.thigh, pkgFailed := (a.links ++ s.med.pkgFailed).dedup }
  let s := s.markSystem
  let s := a.benched.foldl (fun s d => s.setSdie d fun x => { x with benched := true }) s
  let s := a.held.foldl (fun s d => s.setSdie d fun x => { x with held := true }) s
  a.failed.foldl (fun s d => s.setSdie d fun x => { x with failed := true }) s

/-- Factory-bad blocks of the image, marked at the first start (R521). -/
def State.markFactoryBad (s : State) : State :=
  let id := s.win.img.getD 0
  if s.med.ck1.doneSeq = 0 ∧ s.jnl.recs = [] then
    (List.range (Config.imageTable id 2 0 % 2 ^ 24)).foldl (fun s i =>
      let k := Config.imageTable id 2 (i + 1) % 2 ^ 24
      s.setBlk (k / 8192) (k % 8192) fun b => { b with st := .factoryBad }) s
  else s

/-- The power-off interval joins every EH_d: measured from the time that the flush image carries, times OFFMUL, or UNK hours where the timer did
not run (R371). -/
def State.ageDies (s : State) (img : Option Image) : State :=
  let add := match img with
    | some i => if s.boot.rtype = 1 ∨ s.boot.rtype = 3 then 16 * s.fld F.DDK_RET_CFG_UNK 0
      else 16 * ((s.boot.began - i.time) * s.fld F.DDK_RET_CFG_OFFMUL 0) / 3600000000000
    | none => if s.boot.rtype = 1 ∨ s.boot.rtype = 3 then 16 * s.fld F.DDK_RET_CFG_UNK 0 else 0
  s.withDdk { s.ddk with eh := s.ddk.eh.mapV fun _ h => h + add }

/-! ### Applying the records (R270, R492, R511) -/

def zstateOf : Nat → ZState
  | 0x1 => .empty
  | 0x2 => .implicitOpen
  | 0x3 => .explicitOpen
  | 0x4 => .closed
  | 0xD => .readOnly
  | 0xE => .full
  | _ => .offline

def kindOf : Nat → NsKind
  | 0 => .zoned
  | 1 => .placement
  | _ => .companion

/-- The namespace whose runs hold an entry. -/
def State.nsOfEntry (s : State) (e : Nat) : Option Nat := (s.zon.ns.find? fun n => (n.2.zoneOf e).isSome).map (·.1)

/-- A zone record: the zone's state, and its binding where the record has one. A Zone Offline leaves no binding, and the blocks it had go to the
erase queue (R168). -/
def State.replayZone (s : State) (r : JRec) (e action zs wpoff zcap bindCsn : Nat) (members : List (Nat × Nat)) : State :=
  match s.nsOfEntry e with
  | none => s
  | some nsix =>
    let old := (s.zone? e).getD (Zone.fresh nsix bindCsn zcap false)
    let fresh := action == 4 || (action == 9 && bindCsn != old.bindCsn)
    let unbinds := members.isEmpty || action == 5
    let z : Zone := { old with
      zs := zstateOf zs, nsix := nsix, wpoff := wpoff, zcap := zcap, bindCsn := bindCsn, bound := !unbinds
      ring := if action = 7 then some ((s.cap.ends.get? e).elim 0 fun x => x.ring) else if action = 8 ∨ fresh then none else old.ring
      lastCsn := if fresh then 0 else old.lastCsn, unread := if fresh then [] else old.unread, written := if fresh then 0 else old.written }
    let s := s.putZone e z
    if unbinds then s.withStr { s.str with sets := s.str.sets.del e }
    else if s.zoneMembers e = members then s
    else s.bindSet e r.tenant nsix (zcap / 16) bindCsn members

/-- A map change of kind 5 marks blocks of a zone. -/
def State.replayMark (s : State) (nsix lba n : Nat) : State :=
  match s.nsAt nsix with
  | some x => if x.kind = .zoned then
      match x.entryOf (lba / 262144) with
      | some e => s.setZone e fun z => z.mark (lba % 262144) n
      | none => s
    else s
  | none => s

/-- A namespace record. A creation takes the namespace's lasting attributes (log entry 33). -/
def State.replayNs (s : State) (kept : AMap Ns) (r : JRec) (nsix action kind lbaf nph nsze nsid : Nat) : State :=
  if action = 4 then s.withZon { s.zon with ns := s.zon.ns.del nsix, zdt := s.zon.zdt.filter fun e => e.2.nsix != nsix }
  else
    match (kept.get? nsix).or (s.nsAt nsix) with
    | none => s
    | some n =>
      let n := if n.bindCsn = r.csn then n
        else { n with nsid := nsid, owner := r.tenant, kind := kindOf kind, lbaf := lbaf, nph := nph, nsze := nsze, bindCsn := r.csn }
      let s := s.putNs nsix n
      if n.kind = .zoned then
        (n.runs.flatMap fun x => (List.range x.2).map fun i => x.1 + i).foldl (fun s e => s.putZone e (Zone.fresh nsix r.csn 229376 false)) s
      else s

/-- Erase intents not yet done, oldest first: (die, block, reason). -/
abbrev Intents := List (Nat × Nat × Nat)

/-- Those that the kind 1 tables carry. -/
def State.tableIntents (s : State) : Intents :=
  s.med.bit.filterMap fun e => if e.2.st = .eraseQueue ∨ e.2.st = .erasing then some (e.1 / 8192, e.1 % 8192, e.2.reason) else none

/-- An erase done record: the block is free, or retired where its intent had reason 3; an earlier intent with a later one leaves it (R495). -/
def State.replayDone (s : State) (is : Intents) (die block : Nat) : State × Intents :=
  match is.find? fun i => i.1 == die && i.2.1 == block with
  | none => (s, is)
  | some i =>
    let rest := removeFirst i is
    if rest.any fun j => j.1 == die && j.2.1 == block then (s, rest)
    else if i.2.2 = 3 then (s.setBlk die block fun b => { b with st := .retired }, rest)
    else (s.setBlk die block fun b => { b with
      pec := min 65535 (b.pec + 1), wbin := s.wearBin die (b.pec + 1), st := s.erasedState block, refresh := false, rpt := false, rdc := 0, reason := 0, setid := 0
      member := 0 }, rest)

/-- One record applied to the kind 1 structures. -/
def State.replay1 (kept : AMap Ns) (a : State × Intents) (r : JRec) : State × Intents :=
  let s := a.1
  match r.body with
  | .zone e action zs wp cap bind ms => (s.replayZone r e action zs wp cap bind ms, a.2)
  | .superBind h _ ms => (s.bindBlocks (0x100000 + h) ms, a.2)
  | .eraseIntent d b why => (s.setBlk d b fun x => { x with st := .eraseQueue, reason := why }, a.2 ++ [(d, b, why)])
  | .eraseDone d b => s.replayDone a.2 d b
  | .memberReplace setid m d b =>
    let s := s.setBlk d b fun x => { x with st := .bound, setid := setid, member := m }
    (if setid < 0x100000 then
      s.withStr { s.str with sets := s.str.sets.adj setid fun x => { x with
        members := x.members.set m (d, b), mlost := x.mlost - (x.mlost &&& 2 ^ m), mrebuild := x.mrebuild - (x.mrebuild &&& 2 ^ m) } }
    else s, a.2)
  | .namespaceRec nsix action kind lbaf nph nsze nsid => (s.replayNs kept r nsix action kind lbaf nph nsze nsid, a.2)
  | .mapChange nsix 5 lba n _ => (s.replayMark nsix lba n, a.2)
  | .stripeClose id _ _ =>
    (match s.set? (stripeSet id) with
    | some x => x.members.foldl (fun (s : State) m => s.setBlk m.1 m.2 fun b => { b with closeh := s.med.ck1.done.eh.getD m.1 0 / 16 }) s
    | none => s, a.2)
  | _ => a

/-- The set of which a block is a member. -/
def State.setOfBlock (s : State) (die block : Nat) : Option Nat :=
  (s.str.sets.find? fun e => 0x100000 ≤ e.1 && e.2.members.contains (die, block)).map (·.1)

/-- A superblock whose blocks go to the erase queue: it takes no more units, and all its blocks are erased. -/
def State.replayDrop (s : State) (setid : Nat) : State :=
  let s : State := match s.set? setid with
    | some r => r.members.foldl (fun (s : State) m => s.setBlk m.1 m.2 fun b => if b.st == .bound && b.setid == setid then { b with st := .eraseQueue, reason := 2 } else b) s
    | none => s
  let s := s.withStr { s.str with sets := s.str.sets.del setid }
  if setid < 0x180000 then s.withZon { s.zon with sb := s.zon.sb.adj (setid - 0x100000) fun b => { b with stopped := true } }
  else s.withZon { s.zon with stg := s.zon.stg.adj (setid - 0x180000) fun b => { b with stopped := true } }

/-- The namespace of a superblock that a record binds: the record does not name it, so it is that of a unit found in it, else the tenant's
first placement namespace (DEDUCED). -/
def State.superNs (s : State) (img : Option Image) (setid tenant : Nat) (members : List (Nat × Nat)) : Nat :=
  let onFlash := s.med.flash.find? fun e => e.2.trailer.setid == setid && members.contains (e.2.trailer.die, e.2.trailer.block) &&
    e.2.trailer.role < 16 && !e.2.trailer.pad && !e.2.trailer.lost
  let inImage := img.bind fun i => i.units.find? fun u => u.placed && stripeSet u.stripe == setid
  match onFlash, inImage with
  | some e, _ => e.2.info.nsix
  | none, some u => u.nsix
  | none, none => match s.zon.ns.find? fun n => n.2.owner == tenant && n.2.kind != NsKind.zoned with
    | some n => n.1
    | none => 0xFFF

/-- One record applied to the kind 2 structures; map changes are held back. -/
def State.replay2 (img : Option Image) (s : State) (r : JRec) : State :=
  match r.body with
  | .superBind h group ms =>
    let setid := 0x100000 + h
    let staging := 0x180000 ≤ setid
    let slots := superSlots (if staging then 0 else h) (s.minUnits ms)
    let nsix := if staging then 0xFFF else s.superNs img setid r.tenant ms
    let b : Super := { nsix := nsix, tenant := r.tenant, group := group, next := 0, slots := slots, stopped := false }
    let x : SetRec :=
      { members := ms, tenant := r.tenant, nsix := nsix, rows := ceilDiv slots 16, bindCsn := r.csn, mlost := 0, mrebuild := 0, dead := false }
    let s := s.withStr { s.str with sets := s.str.sets.ins setid x }
    if staging then s.withZon { s.zon with stg := s.zon.stg.ins (setid - 0x180000) b } else s.withZon { s.zon with sb := s.zon.sb.ins h b }
  | .memberReplace setid m d b =>
    if setid < 0x100000 then s
    else s.withStr { s.str with sets := s.str.sets.adj setid fun x => { x with
      members := x.members.set m (d, b), mlost := x.mlost - (x.mlost &&& 2 ^ m), mrebuild := x.mrebuild - (x.mrebuild &&& 2 ^ m) } }
  | .eraseIntent d b _ => match s.setOfBlock d b with
    | some setid => s.replayDrop setid
    | none => s
  | .namespaceRec nsix _ _ _ _ _ _ => s.withZon { s.zon with map := s.zon.map.filter fun e => e.1 / 2 ^ 48 != nsix }
  | _ => s

/-- Every record found, applied to the structures of each kind whose checkpoint it follows. -/
def State.replayRecords (s : State) (img : Option Image) (kept : AMap Ns) : State × Intents :=
  let a := (s.jnl.recs.filter s.med.ck1.before).foldl (State.replay1 kept) (s, s.tableIntents)
  ((s.jnl.recs.filter s.med.ck2.before).foldl (State.replay2 img) a.1, a.2)

/-! ### Rederivation without a journal (R33, R442) -/

/-- The member index of a block in its set, from a unit's slot and role (R400). -/
def memberOfRole (row role : Nat) : Nat := if role = 16 then memberOfP row else if role = 17 then memberOfQ row else memberOfData row role

/-- The blocks found on the flash of dies in service: (set id, member, die, block), with the lowest data CSN of their data units. -/
def State.foundBlocks (s : State) : List ((Nat × Nat × Nat × Nat) × Nat) :=
  let keys := ((s.med.flash.map fun e => e.1 / 2 ^ 15).dedup).filter fun k => !s.dieFailed (k / 8192)
  keys.filterMap fun k =>
    let us := s.med.flash.filter fun e => e.1 / 2 ^ 15 == k
    match us with
    | [] => none
    | (_, u) :: _ =>
      let ds := us.filterMap fun e => if e.2.trailer.role < 16 && !e.2.trailer.pad && !e.2.trailer.lost then some e.2.info.dcsn else none
      let low := match ds with
        | [] => 0
        | d :: rest => rest.foldl min d
      some ((u.trailer.setid, memberOfRole u.trailer.slot u.trailer.role, k / 8192, k % 8192), low)

/-- The member of a set that prevails: the block with the highest lowest data CSN. -/
def bestMember (l : List ((Nat × Nat × Nat × Nat) × Nat)) (setid m : Nat) : Option (Nat × Nat) :=
  ((l.filter fun x => x.1.1 == setid && x.1.2.1 == m).foldl (fun (b : Option ((Nat × Nat × Nat × Nat) × Nat)) x => match b with
    | none => some x
    | some y => if y.2 < x.2 then some x else b) none).map fun x => (x.1.2.2.1, x.1.2.2.2)

/-- A set from the blocks found; a member of which nothing is found is lost. -/
def State.foundSet (s : State) (l : List ((Nat × Nat × Nat × Nat) × Nat)) (setid : Nat) : SetRec :=
  let ms := (List.range 18).map fun m => bestMember l setid m
  let members := ms.map fun m => m.getD (0, 0)
  let mlost := (List.range 18).foldl (fun n m => if (nth ms m none).isNone then n + 2 ^ m else n) 0
  let unit := s.med.flash.find? fun e => e.2.trailer.setid == setid && e.2.trailer.role < 16 && !e.2.trailer.pad && !e.2.trailer.lost
  let tenant := match unit with
    | some u => u.2.info.tenant
    | none => 0
  let nsix := match unit with
    | some u => if 0x180000 ≤ setid then 0xFFF else u.2.info.nsix
    | none => 0xFFF
  let umin := s.minUnits (ms.filterMap id)
  let rows := if setid < 0x100000 then (match s.zone? setid with
      | some z => min (min 262144 (16 * umin) / 16) (if z.bound then z.zcap / 16 else 16384)
      | none => min 262144 (16 * umin) / 16)
    else ceilDiv (superSlots (if 0x180000 ≤ setid then 0 else setid - 0x100000) umin) 16
  let low := ((l.filter fun x => x.1.1 == setid && members.contains x.1.2.2).map (·.2)).foldl (fun a x => if x = 0 then a else if a = 0 then x else min a x) 0
  { members := members, tenant := tenant, nsix := nsix, rows := rows, bindCsn := low - 1, mlost := mlost, mrebuild := 0, dead := false }

/-- A copy of a placement block: its map entry, its data CSN, whether its relocation and staging flags are clear, and its stripe CSN. -/
structure BlockCopy where
  entry : Nat
  dcsn : Nat
  clear : Bool
  scsn : Nat
  deriving DecidableEq, Repr

/-- Does a copy prevail over another (R33)? durable is the location in the durable map. -/
def BlockCopy.beats (x y : BlockCopy) (durable : Option Nat) : Bool :=
  if x.dcsn ≠ y.dcsn then decide (y.dcsn < x.dcsn)
  else if durable = some y.entry then false
  else if durable = some x.entry then true
  else if x.clear ≠ y.clear then x.clear
  else decide (y.scsn < x.scsn)

/-- Is a unit one of a write that a loss of power tore (R41)? -/
def State.isTorn (s : State) (dcsn : Nat) : Bool := s.str.torn.any fun t => decide (t.1 ≤ dcsn) && decide (dcsn < t.2)

/-- The newest unit of each placement block among the units found (R33), with the durable map. -/
def State.newestUnits (s : State) (durable : AMap Nat) : AMap BlockCopy :=
  s.med.flash.foldl (fun (m : AMap BlockCopy) e =>
    let u := e.2
    let setid := u.trailer.setid
    if 0x100000 ≤ setid && decide (setid < 0x180000) && decide (u.trailer.role < 16) && !u.trailer.pad && !u.trailer.lost && u.info.dcrcOk &&
        !s.isTorn u.info.dcsn then
      let x : BlockCopy :=
        { entry := (setid - 0x100000) * 2 ^ 18 + 16 * u.trailer.slot + u.trailer.role, dcsn := u.info.dcsn
          clear := !u.info.isReloc && !u.info.isStaged, scsn := u.info.scsn }
      let key := lbaKey u.info.nsix u.info.lba
      match m.get? key with
      | some y => if x.beats y (durable.get? key) then m.ins key x else m
      | none => m.ins key x
    else m) []

/-- Rederive sets, blocks, zones and maps from flash (R442). -/
def State.rederive (s : State) : State :=
  let l := s.foundBlocks
  let ids := ((l.map fun x => x.1.1).filter fun i => i < 0x1F0000).dedup
  let s := s.withStr { s.str with sets := [] }
  let s := s.withMed { s.med with bit := s.med.bit.mapV fun _ b => if b.st == .bound || b.st == .eraseQueue || b.st == .erasing then { b with st := .free } else b }
  let s := ids.foldl (fun s id =>
    let r := s.foundSet l id
    let s := s.withStr { s.str with sets := s.str.sets.ins id r }
    r.members.zipIdx.foldl (fun (s : State) m => if r.memberLost m.2 then s else s.setBlk m.1.1 m.1.2 fun b => { b with st := .bound, setid := id, member := m.2 }) s) s
  let s := l.foldl (fun s x =>
    if (s.blk x.1.2.2.1 x.1.2.2.2).st = .free then s.setBlk x.1.2.2.1 x.1.2.2.2 fun b => { b with st := .eraseQueue, reason := 2, setid := x.1.1 } else s) s
  let s := s.withZon { s.zon with zdt := s.zon.zdt.mapV fun e z => match s.set? e with
    | some r => { z with bound := true, bindCsn := r.bindCsn, zs := if z.zs = .empty then .closed else z.zs }
    | none => { z with bound := false, zcap := if z.zs = .empty then 229376 else z.zcap } }
  let s := ids.foldl (fun s id =>
    if id < 0x100000 then s
    else match s.set? id with
      | none => s
      | some r =>
        let b : Super := { nsix := r.nsix, tenant := r.tenant, group := 0, next := 0, slots := superSlots (if 0x180000 ≤ id then 0 else id - 0x100000) (s.minUnits r.members), stopped := false }
        if id < 0x180000 then s.withZon { s.zon with sb := s.zon.sb.ins (id - 0x100000) ((s.zon.sb.get? (id - 0x100000)).getD b) }
        else s.withZon { s.zon with stg := s.zon.stg.ins (id - 0x180000) ((s.zon.stg.get? (id - 0x180000)).getD b) }) s
  let best := s.newestUnits s.zon.map
  s.withZon { s.zon with map := best.foldl (fun (m : AMap Nat) e => m.ins e.1 e.2.entry) (s.zon.map.keep fun k _ => (best.get? k).isSome) }

/-! ### Rows from flash -/

/-- The leading groups of a member that flash holds whole. -/
def State.foundGroups (s : State) (setid : Nat) (r : SetRec) (m : Nat) : List Nat :=
  let b := nth r.members m (0, 0)
  (List.range 1024).takeWhile fun g =>
    let sp := s.groupSpan r m g
    0 < sp.2 && decide (sp.1 < r.rows) && s.groupState setid m g != some .failed &&
      (List.range sp.2).all fun i => match s.flashAt b.1 b.2 (sp.1 + i) with
        | some u => u.trailer.setid == setid && u.trailer.role == roleOf (sp.1 + i) m
        | none => false

/-- What a data position holds on flash. A unit that has been programmed and cannot be read or restored is lost (R59, R431). whole tells that
the row has been programmed whole. -/
def State.foundPos (s : State) (setid : Nat) (r : SetRec) (whole : Bool) (row d : Nat) : RowPos :=
  let m := memberOfData row d
  let b := nth r.members m (0, 0)
  match s.rowGroup r m row with
  | none => .empty
  | some g =>
    let on := r.memberLost m || s.groupState setid m g == some .done
    let lostMark := match s.flashAt b.1 b.2 row with
      | some u => u.trailer.lost
      | none => false
    if !on then .empty
    else if lostMark && !r.memberLost m then .lost
    else match s.obtain setid r m row with
      | some (i, pad) => if pad then .pad else .unit (unitKey i.scsn (i.kind == 2)) i
      | none => if r.memberLost m && !whole then .empty else .lost

/-- A unit of a torn write reads as no write had been there (R41). -/
def State.dropTorn (s : State) (p : RowPos) : RowPos :=
  match p with
  | .unit _ i => if s.isTorn i.dcsn then .pad else p
  | _ => p

/-- Is a row on the Lost Stripe List already? -/
def State.rowListed (s : State) (setid row : Nat) (r : SetRec) : Bool :=
  s.str.lost.any fun e => e.stripe == stripeId setid row && decide (r.bindCsn < e.lo)

/-- A row as flash has it. -/
def State.foundRow (s : State) (setid : Nat) (r : SetRec) (opened closed : List Nat) (row : Nat) : Row :=
  let id := stripeId setid row
  let whole := closed.contains id || !opened.contains id
  let pos := (List.range 16).map fun d => s.foundPos setid r whole row d
  let cs := pos.filterMap fun p => match p with
    | .unit _ i => some i.scsn
    | _ => none
  let ds := pos.map RowPos.info
  let full := pos.all RowPos.ready
  { pos := pos.map s.dropTorn, p := if full then some (parityP ds) else none, q := if full then some (parityQ ds) else none
    opened := pos.any fun p => !p.isEmpty, parity := full, early := pos.any (· == .pad)
    closed := full && s.rowProgrammed setid r row && whole
    lo := match cs with
      | [] => 0
      | c :: rest => rest.foldl min c
    hi := cs.foldl max 0, missing := r.mlost, lost := pos.any (· == .lost) && s.rowListed setid row r }

/-- The groups and rows of a set. -/
def State.scanSet (s : State) (opened closed : List Nat) (setid : Nat) : State :=
  match s.set? setid with
  | none => s
  | some r =>
    let s := (List.range 18).foldl (fun s m =>
      if r.memberLost m then s
      else (s.foundGroups setid r m).foldl (fun s g => s.withStr { s.str with groups := s.str.groups.ins (groupKey setid m g) ⟨.done, 0, none⟩ }) s) s
    let last := (List.range 18).foldl (fun n m => max n (s.rowsDone setid r m)) 0
    (List.range last).foldl (fun s row =>
      let x := s.foundRow setid r opened closed row
      if x.opened then s.putRow setid row x else s) s

/-- Rows of every set, and how far each superblock is filled. -/
def State.scanRows (s : State) : State :=
  let opened := s.jnl.recs.filterMap fun r => match r.body with
    | .stripeOpen id _ => some id
    | _ => none
  let closed := s.jnl.recs.filterMap fun r => match r.body with
    | .stripeClose id _ _ => some id
    | _ => none
  s.str.sets.foldl (fun s e => s.scanSet opened closed e.1) s

/-- One past the last data slot of a set that holds anything. -/
def State.filledTo (s : State) (setid : Nat) : Nat :=
  s.str.rows.foldl (fun n e => if stripeSet e.1 == setid then
    (e.2.pos.zipIdx.foldl (fun n p => if p.1.isEmpty then n else max n (16 * stripeRow e.1 + p.2 + 1)) n) else n) 0

def State.refill (s : State) : State :=
  s.withZon { s.zon with
    sb := s.zon.sb.mapV fun h b => { b with next := max b.next (s.filledTo (placementSet h)) }
    stg := s.zon.stg.mapV fun g b => { b with next := max b.next (s.filledTo (stagingSet g)) } }

/-! ### The staging index (R425) -/

/-- Index one staged unit. -/
def State.indexStaged (s : State) (setid row d : Nat) (i : Info) : State :=
  match s.zonePlace i.nsix i.lba with
  | none => s
  | some (e, zrow, zd) =>
    match s.zone? e with
    | none => s
    | some z =>
      if (s.row e zrow).closed || decide (i.dcsn ≤ z.bindCsn) || s.isTorn i.dcsn then s
      else
        let s := s.withStr { s.str with staging := s.str.staging.ins (lbaKey i.nsix i.lba) (stripeId setid row * 16 + d) }
        if (nth (s.row e zrow).pos zd .empty).isEmpty then s.setRow e zrow fun x => { x with opened := true, pos := x.pos.set zd .staged } else s

def State.rebuildStaging (s : State) : State :=
  s.str.rows.foldl (fun s e =>
    if 0x180000 ≤ stripeSet e.1 then
      e.2.pos.zipIdx.foldl (fun s p => match p.1 with
        | .unit _ i => s.indexStaged (stripeSet e.1) (stripeRow e.1) p.2 i
        | _ => s) s
    else s) s

/-- The open staging superblock of each tenant. -/
def State.reopenStaging (s : State) : State :=
  s.zon.stg.foldl (fun s g => if g.2.next < g.2.slots && !g.2.stopped && (s.set? (stagingSet g.1)).isSome then
    s.withZon { s.zon with stgOpen := s.zon.stgOpen.ins g.2.tenant g.1 } else s) s

/-! ### The flush image (R278, R280) -/

/-- The image in use: the committed one with the highest sequence number, else the newest whose header is found (R278). -/
def State.chosenImage (s : State) : Option Image :=
  let l := [s.hld.area0, s.hld.area1].filterMap id
  let newest (l : List Image) : Option Image := l.foldl (fun b i => match b with
    | none => some i
    | some x => if x.seq < i.seq then some i else b) none
  let l := l.filter fun i => s.flushReads i 0
  (newest (l.filter s.imageCommitted)).or (newest l)

/-- Does an area hold an image whose header cannot be read, and none is found (R280)? -/
def State.headerLost (s : State) : Bool := s.chosenImage.isNone && ([s.hld.area0, s.hld.area1].filterMap id).any fun i => decide (0 < i.part)

/-- A unit of the image as a unit in DRAM. -/
def ImageUnit.unit (u : ImageUnit) (nph : Nat) (superseded : Bool) : DramUnit :=
  { dcsn := u.csn, tenant := u.tenant, nsix := u.nsix, lba := u.lba, kind := u.kind, group := if u.group < 16 then u.group else nph + (u.group - 16)
    info := u.info, staged := false, reloc := false, accepted := true, credit := false, superseded := superseded, through := false, place := none, source := none, ref := none, bufs := [], addr := none }

/-- Does a row position hold a unit with a data CSN? -/
def RowPos.holds (p : RowPos) (csn : Nat) : Bool :=
  match p with
  | .unit _ i => i.dcsn == csn
  | _ => false

/-- A row takes back a unit that flash has lost: its P and Q are computed again from its data. -/
def State.refillRow (s : State) (setid row : Nat) : State :=
  s.setRow setid row fun x => if x.closed || !x.pos.contains .lost then x else { x with parity := false, p := none, q := none }

/-- Put a unit of the image where it was, or where it belongs (R278). named tells whether the map is to name it. -/
def State.restoreUnit (s : State) (u : ImageUnit) (superseded : Bool) : State :=
  match s.nsAt u.nsix with
  | none => s
  | some n =>
    if u.csn ≤ n.bindCsn then s
    else
      let key := unitKey u.csn (u.kind == 2)
      let d := u.unit n.nph superseded
      let row := stripeRow u.stripe
      let setid := stripeSet u.stripe
      if n.kind = .zoned then
        match s.zonePlace u.nsix u.lba with
        | none => s
        | some (e, row, p) =>
          let stale := match s.zone? e with
            | some z => decide (u.csn ≤ z.bindCsn)
            | none => true
          if stale || (nth (s.row e row).pos p .empty).holds u.csn || (s.str.staging.get? (lbaKey u.nsix u.lba)).isSome then s
          else if (nth (s.row e row).pos p .empty).isEmpty then (s.addUnit key d).placeZone key d
          else if nth (s.row e row).pos p .empty = .lost then ((s.refillRow e row).addUnit key d).placeZone key d
          else s
      else if u.placed && (s.set? setid).isSome && (nth (s.row setid row).pos u.pos .empty).holds u.csn then s
      else if u.placed && ((nth (s.row setid row).pos u.pos .empty).isEmpty || nth (s.row setid row).pos u.pos .empty == .lost) && (s.set? setid).isSome then
        match s.set? setid with
        | none => s
        | some r =>
          let entry := (setid - 0x100000) * 2 ^ 18 + 16 * row + u.pos
          let s := s.addUnit key { d with place := some (u.stripe, u.pos) }
          let s := s.withZon { s.zon with
            map := if superseded then s.zon.map else s.zon.map.ins (lbaKey u.nsix u.lba) entry
            sb := s.zon.sb.adj (setid - 0x100000) fun b => { b with next := max b.next (16 * row + u.pos + 1) } }
          (s.refillRow setid row).fillPos setid r row u.pos (.unit key u.info) false
      else (s.addUnit key d).placeSlot key d

/-! ### Replay of the maps (R511) -/

inductive ReplayOp where
  | map (nsix kind lba nlb first : Nat)
  | flash (nsix lba entry : Nat)
  | image (u : ImageUnit) (superseded : Bool)

/-- Where the replay of a placement set begins: its fill point at the cut, or slot 0 where a record after the cut binds it. -/
def State.replayFrom (s : State) (h : Nat) : Nat :=
  let bound := (s.jnl.recs.filter s.med.ck2.before).any fun r => match r.body with
    | .superBind x _ _ => x == h
    | _ => false
  if bound then 0
  else match s.med.ck2.done.sb.get? h with
    | some b => b.next
    | none => 0

/-- Was a unit superseded before the cut while it had no slot? -/
def State.wasSuperseded (s : State) (csn nsix lba : Nat) : Bool := s.med.ck2.done.pending.contains (csn, nsix, lba, true)

/-- The units that replay collects from the placement sets. -/
def State.replayUnits (s : State) : List (Nat × ReplayOp) :=
  s.str.rows.flatMap fun e =>
    let setid := stripeSet e.1
    if setid < 0x100000 || decide (0x180000 ≤ setid) then []
    else
      let h := setid - 0x100000
      let start := s.replayFrom h
      e.2.pos.zipIdx.filterMap fun p =>
        let slot := 16 * stripeRow e.1 + p.2
        match p.1 with
        | .unit _ i => if start ≤ slot && !i.isReloc && !s.isTorn i.dcsn && !s.wasSuperseded i.dcsn i.nsix i.lba then some (i.dcsn, .flash i.nsix i.lba (h * 2 ^ 18 + slot)) else none
        | _ => none

/-- The map changes held back. -/
def State.replayChanges (s : State) : List (Nat × ReplayOp) :=
  (s.jnl.recs.filter s.med.ck2.before).filterMap fun r => match r.body with
    | .mapChange nsix kind lba nlb first => some (r.csn, .map nsix kind lba nlb first)
    | _ => none

/-- The units of an image, each superseded where it was, or where its slot lies before the fill point and the map has moved on. Without a journal
data CSN order alone tells (R33, R442). -/
def State.replayImage (s : State) (i : Image) (journal : Bool) : List (Nat × ReplayOp) :=
  (s.imageFound i).map fun u =>
    let old := journal && u.placed && decide (0x100000 ≤ stripeSet u.stripe) && decide (16 * stripeRow u.stripe + u.pos < s.replayFrom (stripeSet u.stripe - 0x100000))
    let gone := old && s.zon.map.get? (lbaKey u.nsix u.lba) != some ((stripeSet u.stripe - 0x100000) * 2 ^ 18 + 16 * stripeRow u.stripe + u.pos)
    (u.csn, .image u (gone || s.wasSuperseded u.csn u.nsix u.lba))

/-- Insert in rising CSN order, behind equals. -/
def insOp (x : Nat × ReplayOp) : List (Nat × ReplayOp) → List (Nat × ReplayOp)
  | [] => [x]
  | y :: ys => if x.1 < y.1 then x :: y :: ys else y :: insOp x ys

/-- Does a namespace hold placement blocks created before a CSN? -/
def State.placementLive (s : State) (nsix csn : Nat) : Bool :=
  match s.nsAt nsix with
  | some n => n.kind != NsKind.zoned && decide (n.bindCsn < csn)
  | none => false

def State.replayOp (s : State) (x : Nat × ReplayOp) : State :=
  match x.2 with
  | .map nsix kind lba nlb first =>
    if !s.placementLive nsix x.1 then s
    else if kind = 4 then
      (List.range nlb).foldl (fun s i => s.withZon { s.zon with map := s.zon.map.ins (lbaKey nsix (lba + i)) (first + i) }) s
    else s.setMap nsix lba nlb (if kind = 3 ∨ kind = 5 then some 0xFFFFFFFE else none)
  | .flash nsix lba entry => if s.placementLive nsix x.1 then s.withZon { s.zon with map := s.zon.map.ins (lbaKey nsix lba) entry } else s
  | .image u superseded => s.restoreUnit u superseded

/-- The newest unit found of each placement block, as a change at its data CSN (R33, R442). -/
def State.newestOps (s : State) : List (Nat × ReplayOp) :=
  (s.newestUnits s.med.ck2.done.map).map fun e => (e.2.dcsn, .flash (e.1 / 2 ^ 48) (e.1 % 2 ^ 48) e.2.entry)

/-- The merged changes in increasing CSN; with no journal the maps come from R33 alone. -/
def State.replayMaps (s : State) (img : Option Image) (journal : Bool) : State :=
  let units := if journal then s.replayUnits else s.newestOps
  let image := match img with
    | some i => s.replayImage i journal
    | none => []
  ((units ++ s.replayChanges ++ image).foldl (fun l x => insOp x l) []).foldl State.replayOp s

/-! ### Zones (R169, R241) -/

/-- One past the highest offset of a zone that holds a durable unit or a mark, and the highest data CSN. -/
def State.durableTo (s : State) (e : Nat) (z : Zone) : Nat × Nat :=
  let a := s.str.rows.foldl (fun (a : Nat × Nat) x => if stripeSet x.1 == e then
    (x.2.pos.zipIdx.foldl (fun (a : Nat × Nat) p => match p.1 with
      | .unit _ i => if z.bindCsn < i.dcsn then (max a.1 (16 * stripeRow x.1 + p.2 + 1), max a.2 i.dcsn) else a
      | .staged | .lost => (max a.1 (16 * stripeRow x.1 + p.2 + 1), a.2)
      | _ => a) a) else a) (0, z.lastCsn)
  (z.unread.foldl (fun n m => max n (m.1 + m.2)) a.1, a.2)

/-- The write pointer of a zone after a loss of power. -/
def State.restoreZone (s : State) (e : Nat) (z : Zone) : State :=
  let (w, csn) := s.durableTo e z
  let z := { z with written := w, lastCsn := csn }
  match z.zs with
  | .implicitOpen | .explicitOpen | .closed => s.putZone e { z with wpoff := w, zs := if w = z.zcap then .full else z.zs }
  | .empty => s.putZone e (if 0 < w then { z with wpoff := w, zs := .closed } else z)
  | _ => s.putZone e z

/-- The end marker of a capture stream that power cut off, where capacity remains: ACK_ROFF, the last header's SEQ, the records accepted and the
arming's ID, as the stream left them (R222, R223, R241; DEDUCED, log entry 80). -/
def State.endMarker (s : State) (e : Nat) (x : CapEnd) : State :=
  match s.zone? e with
  | none => s
  | some z =>
    match s.nsAt z.nsix with
    | none => s
    | some n =>
      if z.zcap ≤ z.wpoff then s
      else
        let m : Marker := ⟨5, 5, x.roff, x.seq, x.recs, 0⟩
        let b := m.block x.ring x.armId 4096 s.ao.time
        let lba := (n.zoneOf e).getD 0 * 262144 + z.wpoff
        let csn := s.jnl.csn
        let d : DramUnit :=
          { dcsn := csn, tenant := n.owner, nsix := z.nsix, lba := lba, kind := 1, group := 0
            info := mkInfo (s.crypt true z.nsix lba (b.setWidth 32768)) csn csn lba n.owner z.nsix 1 0 false false
            staged := false, reloc := false, accepted := true, credit := false, superseded := false, through := false, place := none, source := none, ref := none, bufs := [], addr := none }
        let s := ((s.takeCsns 1).addUnit (unitKey csn false) d).placeZone (unitKey csn false) d
        s.setZone e fun z => { z with wpoff := z.wpoff + 1, written := z.wpoff + 1, lastCsn := csn }

/-- A zone that a capture ring held leaves it; the zone that its stream was in takes the end marker (R241). -/
def State.leaveCapture (s : State) (e : Nat) (z : Zone) : State :=
  match z.ring with
  | none => s
  | some _ =>
    let s := match s.cap.ends.get? e with
      | some x => s.endMarker e x
      | none => s
    s.unbindZone e false true

/-- Pads fill what no unit holds below the write pointer (R755). -/
def State.padBelow (s : State) (e : Nat) : State :=
  match s.zone? e, s.set? e with
  | some z, some r =>
    (List.range (ceilDiv z.wpoff 16)).foldl (fun s row =>
      if (s.row e row).closed then s
      else (List.range 16).foldl (fun s d =>
        if decide (16 * row + d < z.wpoff) && decide (z.zs ≠ .full) && (nth (s.row e row).pos d .empty).isEmpty then s.fillPos e r row d .pad false else s) s) s
  | _, _ => s

def State.restoreZones (s : State) : State :=
  let s := s.zon.zdt.foldl (fun s e => s.restoreZone e.1 e.2) s
  let s := s.zon.zdt.foldl (fun s e => s.leaveCapture e.1 e.2) s
  s.zon.zdt.foldl (fun s e => s.padBelow e.1) s

/-! ### Programming what is missing (R278, R425) -/

/-- Program every group of a member that is full, in group order. -/
def State.programFull (s : State) (setid m : Nat) : State :=
  (List.range 1024).foldl (fun s g =>
    match s.set? setid with
    | none => s
    | some r =>
      if r.memberLost m = false ∧ (s.groupState setid m g).isNone = true ∧ s.groupFull setid r m g = true ∧ (s.groupSpan r m g).1 < r.rows ∧
          (g = 0 ∨ s.groupState setid m (g - 1) = some .done) then
        (s.withStr { s.str with groups := s.str.groups.ins (groupKey setid m g) ⟨.sent, 0, none⟩ }).groupDone setid r m g
      else s) s

/-- Close every row of a set that can close. -/
def State.closeWhole (s : State) (setid : Nat) : State :=
  match s.set? setid with
  | none => s
  | some r => s.closeRows setid r 0 r.rows

/-- Replace the members that hold a group cut off, then program what is full, and close what is programmed. -/
def State.finishSet (s : State) (setid : Nat) : State :=
  let cut := ((s.str.groups.filter fun e => e.1 / 1024 / 32 == setid && e.2.st == .failed).map fun e => e.1 / 1024 % 32).dedup
  let s := cut.foldl (fun s m => s.replaceMember setid m) s
  ((List.range 18).foldl (fun s m => s.programFull setid m) s).closeWhole setid

/-- Compute P and Q of the rows of a superblock that are not closed, padding them by R416. -/
def State.closeSuper (s : State) (setid : Nat) : State :=
  let rows := (s.str.rows.filter fun e => stripeSet e.1 == setid && !e.2.parity && (e.2.pos.any fun p => !p.isEmpty)).map fun e => stripeRow e.1
  rows.foldl (fun s row => if (s.row setid row).parity then s else s.earlyClose setid row) s

/-- The units of zone rows that stay open go to staging, since the flush area is erased (R278, R417; DEDUCED). -/
def State.stageOpen (s : State) : State :=
  let us := s.str.dram.filter fun e => !e.2.staged && (match e.2.place with
    | some (id, _) => decide (stripeSet id < 0x100000)
    | none => false)
  us.foldl (fun s e => s.stageUnit e.1) s

def State.finishStripes (s : State) : State :=
  let zones := (s.str.sets.filter fun e => e.1 < 0x100000).map (·.1)
  let supers := (s.str.sets.filter fun e => 0x100000 ≤ e.1).map (·.1)
  let s := zones.foldl (fun s id => s.finishSet id) s
  let s := supers.foldl (fun s id => (s.closeSuper id).finishSet id) s
  let s := s.stageOpen
  ((s.str.sets.filter fun e => 0x180000 ≤ e.1).map (·.1)).foldl (fun s id => (s.closeSuper id).finishSet id) s

/-! ### Blocks to erase again (R173, R278, R436, R494) -/

/-- Blocks that say they are bound and are a member of no set. -/
def State.strays (s : State) : List (Nat × Nat) :=
  s.med.bit.filterMap fun e =>
    let member := match s.set? e.2.setid with
      | some r => r.members.contains (e.1 / 8192, e.1 % 8192)
      | none => false
    if e.2.st == .bound && !member then some (e.1 / 8192, e.1 % 8192) else none

/-- Erase a block again: its done record, its new state, and its superblock's handle. -/
def State.eraseAgain (s : State) (die block : Nat) : State :=
  if s.dieFailed die then s
  else
    let b := s.blk die block
    let s := (s.journal 0xFFFF s.jnl.csn (.eraseDone die block)).wipeBlock die block
    let s := if b.reason = 3 then s.putBlk die block { b with st := .retired }
      else s.putBlk die block { b with
        pec := min 65535 (b.pec + 1), wbin := s.wearBin die (b.pec + 1), st := s.erasedState block, refresh := false, rpt := false, rdc := 0, reason := 0, setid := 0
        member := 0 }
    s.returnHandle b.setid

def State.eraseRest (s : State) : State :=
  let s := s.strays.foldl (fun s x => s.queueErase x.1 x.2 2) s
  let s := s.tableIntents.foldl (fun s x => s.eraseAgain x.1 x.2.1) s
  s.withMed { s.med with erq := [] }

/-! ### Losses (R280, R281) -/

/-- Record a lost block as a map change of kind 5 where no durable unit is newer. -/
def State.markLost (s : State) (u : ImageUnit) : State :=
  match s.nsAt u.nsix with
  | none => s
  | some n =>
    let csn := s.jnl.csn
    let rec_ (s : State) : State := (s.takeCsns 1).journal n.owner csn (.mapChange u.nsix 5 u.lba 1 0xFFFFFFFE)
    if n.kind = .zoned then
      match s.zonePlace u.nsix u.lba with
      | none => s
      | some (e, row, d) => match nth (s.row e row).pos d .empty with
        | .unit _ i => if u.csn < i.dcsn then s else (rec_ s).setZone e fun z => z.mark (u.lba % 262144) 1
        | _ => (rec_ s).setZone e fun z => z.mark (u.lba % 262144) 1
    else
      let newer := match s.zon.map.get? (lbaKey u.nsix u.lba) with
        | some entry => match s.slotInfo u.nsix u.lba entry with
          | some i => decide (u.csn < i.dcsn)
          | none => false
        | none => false
      if newer then s else (rec_ s).setMap u.nsix u.lba 1 (some 0xFFFFFFFE)

def lossEntry (tag reason lba csn time : Nat) : DefEntry :=
  { tag := tag, nsid := 0, reason := reason, sqid := 0xFFFF, cid := 0xFFFF, ring := 0xFFFF, blocks := 1, lba := lba, csn := csn, time := time
    lost := 0xFFFFFFFF }

/-- Marks for the units of an image that are lost and whose block its index names (R281); before the write pointers are set (R169). -/
def State.markLosses (s : State) (img : Option Image) : State :=
  match img with
  | some i => (s.imageLost i).foldl (fun s x => if x.2.2 then s.markLost x.1 else s) s
  | none => s

/-- Does a unit or a later record show that a zone action or map change no longer matters: a unit with a greater data CSN in the zone, or of the
block (R280, R442)? -/
def State.evidenced (s : State) (r : JRec) : Bool :=
  match r.body with
  | .zone e .. => match s.zone? e with
    | some z => decide (r.csn < z.lastCsn)
    | none => true
  | .mapChange k _ lba _ _ => match s.zon.map.get? (lbaKey k lba) with
    | some entry => match s.slotInfo k lba entry with
      | some i => decide (r.csn < i.dcsn)
      | none => false
    | none => false
  | _ => true

/-- Reason 0x05 for a zone action, or a map change of kind 2 or 3, that is lost with the journal and that nothing evidences (R280, R442). -/
def State.reportRecord (s : State) (r : JRec) : State :=
  if s.evidenced r then s
  else match r.body with
    | .zone e .. => match s.nsOfEntry e with
      | some k => s.deferError k (lossEntry s.nextTag 5 (2 ^ 64 - 1) r.csn s.ao.time) none
      | none => s
    | .mapChange k kind lba _ _ => if kind = 2 ∨ kind = 3 then s.deferError k (lossEntry s.nextTag 5 lba r.csn s.ao.time) none else s
    | _ => s

/-- A flush stripe of which a unit cannot be restored: its entry of the Lost Stripe List and its event (R261, R439, R440). No single tenant owns
it, so it carries tenant 0x3FF (DESIGN CHOICE, log entry 152). -/
def State.reportFlushStripe (s : State) (i : Image) (k : Nat) : State :=
  let index := s.str.lostTotal % 2 ^ 32
  let tag := s.nextTag
  let gone := s.flushGone i k
  let held := (List.range 16).filterMap fun d => (i.units.drop (16 * k + d - i.dataAt)).head?.bind fun u =>
    if i.dataAt ≤ 16 * k + d then some u.csn else none
  let e : LostRec :=
    { index := index, tenant := 0x3FF, cause := 3, kind := 3, stripe := stripeId (0x1F0000 + i.area) k, members := gone.foldl (fun n m => n + 2 ^ m) 0
      positions := (List.range 16).foldl (fun n d => if 16 * k + d < i.part ∧ s.flushReads i (16 * k + d) = false then n + 2 ^ d else n) 0
      nsid := 0xFFFFFFFF, lba := none
      lo := match held with
        | [] => 0
        | c :: rest => rest.foldl min c
      tag := tag, time := s.ao.time, search := [] }
  let s := s.raise 0x032 0 3 [(4, index), (8, e.stripe), (4, e.members)]
  ((s.withStr (s.str.addLost e)).countDevice 5 1).ewOnce 0x08 none index 0

/-- The rows of sets that recovery finds lost: their entries with cause 3, and reason 0x01 for each lost position of a zone row that no staged copy
holds (R59, R439). -/
def State.reportRows (s : State) : State :=
  s.str.rows.foldl (fun s e =>
    if e.2.lost || !e.2.pos.contains .lost then s
    else match s.set? (stripeSet e.1) with
      | none => s
      | some r =>
        let index := s.str.lostTotal % 2 ^ 32
        let tag := s.nextTag
        let s := s.rowLost (stripeSet e.1) (stripeRow e.1) 3 (s.unreadableMask (stripeSet e.1) r (stripeRow e.1))
        match s.rowLba (stripeSet e.1) (stripeRow e.1) with
        | some lba => (e.2.pos.zipIdx.filter fun p => p.1 == .lost).foldl (fun s p =>
            if (s.str.staging.get? (lbaKey r.nsix (lba + p.2))).isSome then s else s.deferLost r.nsix (lba + p.2) tag index) s
        | none => s) s

/-- Report what recovery finds lost of the image, and of the records that no journal page and no image tail gives (R280, R442). gone holds those
records. -/
def State.reportLosses (s : State) (img : Option Image) (gone : List JRec) : State :=
  let tag := s.nextTag
  let s := if s.headerLost then s.deferUnknown (lossEntry tag 3 (2 ^ 64 - 1) 0 s.ao.time) else s
  let s := match img with
    | none => s
    | some i =>
      let s := if s.imageCommitted i then s else s.raise 0x033 1 2 [(4, i.units.length), (4, (s.imageFound i).length)]
      let s := (s.flushLost i).foldl (fun s k => s.reportFlushStripe i k) s
      (s.imageLost i).foldl (fun s x =>
        if x.2.2 then s.deferError x.1.nsix (lossEntry tag x.2.1 x.1.lba x.1.csn s.ao.time) none
        else s.deferUnknown (lossEntry tag 4 (2 ^ 64 - 1) x.1.csn s.ao.time)) s
  gone.foldl State.reportRecord s

/-- The flush report, STR_LASTFL, and the flush areas erased. -/
def State.reportFlush (s : State) (img : Option Image) : State :=
  match img with
  | none => s
  | some i =>
    let found := (s.imageFound i).length
    let lost := (s.imageLost i).length
    let whole := s.imageCommitted i
    let s := s.raise 0x012 1 (if 0 < lost then 2 else 0) [(4, i.seq % 2 ^ 32), (4, found), (4, lost), (4, i.took)]
    s.withHld { s.hld with area0 := none, area1 := none, lastUnits := found, lastLost := lost, incomplete := !whole }

/-! ### The journal and the CSN counter (R25, R278) -/

/-- Does either copy yield a page? -/
def State.journalReadable (s : State) : Bool :=
  !s.jnl.kept.isEmpty && ((s.jnl.okA && s.linkUp (s.fld F.STR_JCFG_JPKGA)) || (s.jnl.okB && s.linkUp (s.fld F.STR_JCFG_JPKGB)))

/-- The counter resumes at the last durable ceiling (R25). -/
def State.resumeCsn (s : State) : State :=
  let first := (s.jnl.recs.find? fun r => r.page.isNone).map fun r => r.seq
  s.withJnl { s.jnl with csn := s.jnl.ceiling, ceiling := s.jnl.ceiling + ceilStep, openFirst := first, openTime := s.ao.time }

/-- Append the ceiling record, and program the journal on both copies. -/
def State.settleJournal (s : State) : State :=
  let s := s.journal 0xFFFF s.jnl.ceiling .ceiling
  let j := s.jnl.closePage
  let s := s.withJnl { j with
    recs := j.recs.map fun r => { r with onBoth := true, credit := false }
    kept := j.kept ++ j.pages, pseq := j.pseq + j.pages.length, pages := [], ceilPend := none, okA := true, okB := true, reest := false }
  let s := s.withHld { s.hld with queue := [] }
  let s := s.countFree
  let s := if s.linkUp (s.fld F.STR_JCFG_JPKGA) then s else s.copyLost 0
  if s.linkUp (s.fld F.STR_JCFG_JPKGB) then s else s.copyLost 1

/-! ### Recovery (R278) -/

/-- Die sets that a tenant uses. -/
def State.dsInUse (s : State) : List Nat := (tenants.filterMap s.tenantDs).dedup

/-- Refresh requests that the tables keep: the victims among superblocks (R513). -/
def State.keptVictims (s : State) : List Nat :=
  (s.str.sets.filter fun e => 0x100000 ≤ e.1 && e.2.members.any fun m => (s.blk m.1 m.2).refresh).map (·.1)

/-- The journal as recovery finds it: the pages of its copies where either yields one, and the readable records of the image's tail behind them;
and the records that neither gives, those of a void page among them (R278, R615). -/
def State.findJournal (s : State) (img : Option Image) : State × List JRec :=
  let journal := s.journalReadable
  let tail := match img with
    | some i => s.tailRecords i
    | none => []
  let missing := match img with
    | some i => i.tail.filter fun r => !tail.any fun x => x.seq == r.seq
    | none => []
  let pages := match img with
    | some i => s.tailFound i
    | none => []
  let void (r : JRec) : Bool := s.jnl.kept.any fun p => p.void && r.page == some p.seq
  if journal then (s.withJnl { s.jnl with recs := (s.jnl.recs.filter fun r => !void r) ++ tail, pages := pages }, s.jnl.recs.filter void ++ missing)
  else (s.withJnl { s.jnl with recs := tail, kept := [], pages := pages }, s.jnl.recs ++ missing)

/-- Stage 7 of start-up: recovery, or rederivation where neither journal copy yields a page. -/
def State.recover (s : State) : State :=
  let kept := s.zon.ns
  let journal := s.journalReadable
  let s := s.checkCkpts.markFactoryBad
  let bad := s.med.bit
  let s := s.restoreTables
  let img := s.chosenImage
  let (s, gone) := s.findJournal img
  let s := if s.med.ck1.doneSeq = 0 then s.withMed { s.med with bit := bad } else s
  let s := (s.ageDies img).resumeCsn
  let s := if journal then s else s.rederive
  let s := (s.replayRecords img kept).1
  let s := s.loseMembers fun d _ => s.dieFailed d
  let s := s.scanRows.refill.rebuildStaging.reopenStaging
  let s := s.replayMaps img journal
  let s := (s.markLosses img).restoreZones.finishStripes
  let s := s.eraseRest.settleJournal
  let s := ((s.reportLosses img gone).reportRows).reportFlush img
  let s := s.withMed { s.med with victims := s.keptVictims }
  let s := s.withCap { s.cap with ends := [] }
  s.dsInUse.foldl (fun s d => (s.resnow d).ewSpare d) s

end Sys2Proof.Machine
end

