-- ==== Sys2Proof/Machine/Startup.lean ====
section
/-!
DEFINITION. Supplies, start-up, the firmware store and the thermal limits (R563, R580 to R582, R629, R680 to R699, R703, R715 to R717, R742 of
spec/15_startup_firmware.md and spec/16_package_electrical.md), with the commands VAUX_POR_END, VAUX_LOSS, ISOLATION_SWITCH_ON, VIN_IN_RANGE,
STARTUP_STAGE_COMPLETE, WAKE_EVENT, the FWS rows, REBOOT, WATCHDOG_EXPIRY, the junction temperature, TEST_ACCESS_PORT_ACCESS and CRYSTAL_FAULT.
-/

namespace Sys2Proof.Machine

/-! ### Supplies (R698, R715 to R717, R728) -/

/-- VAUX_POR_END: VAUX power-on reset ends, and the straps are sampled (R715). -/
def execVauxPorEnd (bifur mgmtSel dbgen : Bool) (s : State) : Outcome :=
  if s.brd.vaux then .next s
  else .next ((s.withBrd { s.brd with vaux := true, mgmtSel := mgmtSel, dbgen := dbgen }).withAo { s.ao with bifur := bifur })

/-- VAUX_LOSS: with VIN present, a flush as for a loss of VIN, then everything but flash and the NOR is lost; without VIN, it is lost at once
(R698). -/
def execVauxLoss (s : State) : Outcome :=
  if !s.brd.vaux then .next s
  else
    let s := s.withBrd { s.brd with vaux := false }
    if s.brd.vin then .next ((s.withBoot { s.boot with vauxLost := true }).startFlush 3)
    else .next ((s.powerOff false).withBoot { (s.powerOff false).boot with rtype := 1 })

/-- ISOLATION_SWITCH_ON: VINSNS has been in range for 1 ms with VAUX reset ended; not during a flush, and not after a thermal trip before the
junction has cooled (R717). -/
def execIsolationSwitchOn (s : State) : Outcome :=
  if s.brd.vaux = true ∧ s.brd.iso = false ∧ s.brd.tripped = false ∧ s.hld.flush = .none then
    .next (s.withBrd { s.brd with vsys := true, iso := true })
  else .next s

/-- VIN_IN_RANGE: the VIN node is in range with VAUX present, and stage 1 begins (R689). -/
def execVinInRange (s : State) : Outcome :=
  if s.brd.vaux = true ∧ s.brd.iso = true ∧ s.boot.stage = 0 ∧ s.hld.flush = .none then
    .next ((s.withBrd { s.brd with vin := true }).restart s.boot.rtype)
  else .next s

/-- WAKE_EVENT: a pin with EN set has been asserted for DEB µs (R647). PEND is set, entries that it concerns are abandoned, and every domain of
the wake set and every requirement of one returns. With the fabric Off, it starts the start-up of R629, as from power-on reset. -/
def execWakeEvent (pin : Nat) (s : State) : Outcome :=
  if pin < 8 ∧ s.flag F.PWR_WAKE_CFG_EN pin = true ∧ s.asserted pin = true then
    let s := s.withPwr { s.pwr with pend := putBits s.pwr.pend pin pin 1 }
    let all := s.wakeAll pin
    let back := all.filter fun d => (s.dom d).st == .retention || (s.dom d).st == .off
    if s.pwr.dark then .next (((s.powerOff true).restart 1).raise (0x070 + pin) 0 0 [(2, back.length)])
    else
      let s := all.foldl (fun s d => s.abandonEntry d pin) s
      let s := all.foldl (fun s d => s.beginReturn d) s
      .next (s.raise (0x070 + pin) 0 0 [(2, back.length)])
  else .next s

/-! ### Firmware images (R580, R581) -/

/-- What an image's header says. -/
structure FwInfo where
  svn : Nat
  raise : Bool
  revoke : Bool
  mask : Nat
  build : Nat
  deriving DecidableEq, Repr

/-- The outcome of the checks of R581. -/
inductive FwCheck where
  | ok (i : FwInfo)
  | invalid
  | below (i : FwInfo)
  deriving DecidableEq, Repr

/-- Octets of a range of bytes. -/
def takeOctets (rd : Nat → Byte) (a n : Nat) : List Nat := (List.range n).map fun i => (rd (a + i)).toNat

/-- Check the image that some bytes hold. -/
def State.checkImage (s : State) (rd : Nat → Byte) : FwCheck :=
  let n (a k : Nat) : Nat := ofOctets (takeOctets rd a k)
  let len := n 8 8
  let slot := n 18 1
  let i : FwInfo := { svn := n 16 1, raise := (n 17 1).testBit 0, revoke := (n 17 1).testBit 1, mask := n 19 1 % 16, build := n 20 8 }
  if n 0 4 = 0x4B344657 ∧ n 4 4 = 1 ∧ 512 ≤ len ∧ len ≤ 0x1000000 ∧ i.svn < 64 ∧ slot < 4 ∧ s.sec.kvalid.testBit slot = true ∧
      s.sec.krevoked.testBit slot = false ∧ ofOctets (sha384 (takeOctets rd 76 96)) = Config.keyDigest slot ∧
      Config.ecdsaVerify (n 76 96) (n 172 96) (ofOctets (sha384 (takeOctets rd 0 172))) = true ∧
      sha384 (takeOctets rd 512 (len - 512)) = takeOctets rd 28 48 ∧ (i.revoke = false ∨ i.mask.testBit slot = false) then
    (if i.svn < s.sec.svnFloor then .below i else .ok i)
  else .invalid

/-- Base of a firmware slot (R680). -/
def slotBase (slot : Nat) : Nat := if slot = 1 then 0 else 0x1000000

/-- The check of a slot's image. Slot 1 is delivered with the factory's image, whose header the spec does not give (DESIGN CHOICE: SVN 0). -/
def State.checkSlot (s : State) (slot : Nat) : FwCheck :=
  if slot = 1 ∧ s.boot.factory then
    (if s.sec.svnFloor = 0 then .ok ⟨0, false, false, 0, 0⟩ else .below ⟨0, false, false, 0, 0⟩)
  else s.checkImage fun a => s.boot.norByte (slotBase slot + a)

def FwCheck.info? : FwCheck → Option FwInfo
  | .ok i => some i
  | _ => none

def State.slotOk (s : State) (slot : Nat) : Bool := (s.checkSlot slot).info?.isSome

/-! ### Boot records (R688, R690, R691) -/

/-- The governing entry. -/
def State.bootRec (s : State) : Option BootRec := s.boot.recs.foldl (fun b r => match b with
  | none => some r
  | some x => if x.seq ≤ r.seq then some r else b) none

/-- Entries that a boot record sector holds. -/
def bootSectorSize : Nat := 1024

/-- Append a boot record; a full sector gives way to the other, which takes the governing entry first (R688). -/
def State.appendBoot (s : State) (slot trial : Nat) : State :=
  let seq := match s.bootRec with
    | some r => r.seq + 1
    | none => 1
  let s := if s.boot.recs.length < bootSectorSize then s
    else s.withBoot { s.boot with recs := s.bootRec.toList, brActive := 1 - s.boot.brActive }
  s.withBoot { s.boot with recs := s.boot.recs ++ [⟨seq, slot, trial⟩], pref := slot }

def otherSlot (slot : Nat) : Nat := 3 - slot

/-- The slot that the boot ROM boots, with the state it leaves (R690); none where no slot passes. -/
def State.chooseSlot (s : State) : State × Option Nat :=
  let svn (k : Nat) : Option Nat := (s.checkSlot k).info?.map fun i => i.svn
  let x : State × Nat × Bool := match s.bootRec with
    | none => (s, (match svn 1, svn 2 with
      | some a, some b => if a < b then 2 else 1
      | none, some _ => 2
      | _, none => 1), false)
    | some e =>
      if e.trial = 2 then (s.appendBoot (otherSlot e.pref) 0, otherSlot e.pref, true)
      else if e.trial = 1 then (s.appendBoot e.pref 2, e.pref, false)
      else (s, e.pref, false)
  let go (s : State) (k : Nat) (fall : Bool) : State :=
    s.withBoot { s.boot with
      run := k, fallback := fall, runSvn := (svn k).getD 0, pref := (s.bootRec.map fun r => r.pref).getD 0
      trial := match s.bootRec with
        | some r => r.trial == 2 && r.pref == k
        | none => false }
  if s.slotOk x.2.1 then (go x.1 x.2.1 x.2.2, some x.2.1)
  else if s.slotOk (otherSlot x.2.1) then (go x.1 (otherSlot x.2.1) true, some (otherSlot x.2.1))
  else (x.1, none)

/-- The first completion of start-up of an image with RAISE raises the floor, and with REVOKE too revokes slots (R582). -/
def State.raiseFloor (s : State) (slot : Nat) : State :=
  match (s.checkSlot slot).info? with
  | none => s
  | some i =>
    if !i.raise then s
    else
      let floor := max s.sec.svnFloor i.svn
      let revoked := if i.revoke then s.sec.krevoked ||| i.mask else s.sec.krevoked
      if floor = s.sec.svnFloor ∧ revoked = s.sec.krevoked then s
      else (s.withSec { s.sec with svnFloor := floor, krevoked := revoked }).raise 0x042 1 0 [(1, slot), (1, i.svn), (1, floor)]

/-! ### The stages of start-up (R687 to R695) -/

/-- Enter recovery mode, with the event (R695, R696). -/
def State.recoveryMode (s : State) (cause : Nat) : State :=
  let s := s.raise 0x003 1 3 [(1, s.boot.stage), (1, cause)]
  let s := (s.withBoot { s.boot with recov := true }).withHost { s.host with pf0Only := true }
  s.putPort 0 { s.port 0 with train := true }

/-- Sector of an address. -/
def sectorOf (a : Nat) : Nat := a / 65536

/-- Erase a sector of the NOR: what it held is gone (R685). -/
def State.eraseSector (s : State) (x : Nat) : State :=
  let b := s.boot
  s.withBoot { b with
    nor := b.nor.clear (x * 65536) 65536
    factory := b.factory && 256 ≤ x
    cfgA := if 0x200 ≤ x ∧ x < 0x210 then none else b.cfgA
    cfgB := if 0x210 ≤ x ∧ x < 0x220 then none else b.cfgB }

/-! ### Erase flags (R685 to R687) -/

/-- Sectors F0 and F1, and the words of one. -/
def sectorF0 : Nat := 0x242
def sectorF1 : Nat := 0x243
def flagWords : Nat := 16384

/-- The flag word of a sector. -/
def flagWord (x : Nat) : Nat := 0x5E000000 + x % 4096 * 4096 + (4095 - x % 4096)

/-- The sector that a word names, if it is pending: exactly the form written. -/
def flagOf (w : Nat) : Option Nat := if w = flagWord (w / 4096 % 4096) then some (w / 4096 % 4096) else none

def Boot.flagSector (b : Boot) (k : Nat) : List Nat := if k = 0 then b.f0 else b.f1

def Boot.putFlags (b : Boot) (k : Nat) (l : List Nat) : Boot := if k = 0 then { b with f0 := l } else { b with f1 := l }

/-- The flag sector that holds the flag of a sector: the other one for F0 and F1, and the active one for the rest. -/
def Boot.flagHome (b : Boot) (x : Nat) : Nat := if x = sectorF0 then 1 else if x = sectorF1 then 0 else b.fActive

/-- Program the next free word of its flag sector with a sector's flag. -/
def Boot.addFlag (b : Boot) (x : Nat) : Boot := b.putFlags (b.flagHome x) (b.flagSector (b.flagHome x) ++ [flagWord x])

/-- Program a sector's flag words to zero. -/
def Boot.clearFlag (b : Boot) (x : Nat) : Boot :=
  { b with f0 := b.f0.map fun w => if w = flagWord x then 0 else w, f1 := b.f1.map fun w => if w = flagWord x then 0 else w }

/-- Erase a flag sector by R685: its flag stands in the other one meanwhile. -/
def Boot.eraseFlags (b : Boot) (k : Nat) : Boot :=
  let x := if k = 0 then sectorF0 else sectorF1
  ((b.addFlag x).putFlags k []).clearFlag x

/-- A flag sector with one free word left is full: the other is erased and becomes active, and then the full one is erased (R686; the last free word
is the one that the first erase needs, log entry 118). -/
def Boot.rollFlags (b : Boot) : Boot :=
  if (b.flagSector b.fActive).length + 1 < flagWords then b
  else
    let full := b.fActive
    let b := b.eraseFlags (1 - full)
    ({ b with fActive := 1 - full }).eraseFlags full

/-- The sectors that pending flags name. -/
def Boot.pending (b : Boot) : List Nat := (b.f0 ++ b.f1).filterMap flagOf

/-- Stage 1: the boot ROM erases again F0 and F1 where flags name them, then every other sector that a flag still there names, with an event for
each (R687). -/
def State.resolveFlags (s : State) : State :=
  let ours := s.boot.pending.filter fun x => x = sectorF0 ∨ x = sectorF1
  let b := ours.foldl (fun b x => (b.putFlags (if x = sectorF0 then 0 else 1) []).clearFlag x) s.boot
  let s := s.withBoot b
  let rest := s.boot.pending.filter fun x => x ≠ sectorF0 ∧ x ≠ sectorF1
  let s := (ours ++ rest).foldl (fun s x => (s.eraseSector x).raise 0x008 0 1 [(8, x * 65536)]) s
  s.withBoot { rest.foldl Boot.clearFlag s.boot with pendflag := sat 8 (ours ++ rest).length }

/-- Reports of what preceded this start: a watchdog reset, and a loss of VAUX (R666, R698). -/
def State.reportStart (s : State) : State :=
  let s := match s.boot.wdog with
    | some (c, k) => s.raise 0x004 0 2 [(1, c), (1, k)]
    | none => s
  let s := if s.boot.vauxLost then s.raise 0x006 1 1 [] else s
  s.withBoot { s.boot with wdog := none, vauxLost := false }

/-- The descriptor of a link, and the code band tables, of an image (R356, R372, R373). -/
def descOfImage (id link : Nat) : Desc :=
  let w (k : Nat) : Nat := Config.imageTable id 0 (link * 16 + k)
  { tr := (List.range 4).map fun k => w k % 65536, trSoft := w 4 % 65536, trSlc := w 5 % 65536, refmap := w 6 % 2 ^ 32, dac := w 7 % 65536
    rated := w 8 % 65536, wb := (List.range 7).map fun k => w (9 + k) % 65536, bad := false }

def State.loadTables (s : State) (id : Nat) : State :=
  s.withDdk { s.ddk with
    desc := (List.range 32).map fun n => (n, descOfImage id n)
    cbt := (List.range (2048 * 128)).map fun k => (k, Config.imageTable id 1 k % 4) }

/-- Stage 3: the configuration image in use, and the slot (R681, R690). -/
def State.loadBoot (s : State) : State × Bool :=
  match s.boot.inUse with
  | none => (s, false)
  | some (_, c) =>
    let s := (s.loadImage c.base c.words).loadTables c.base
    match s.chooseSlot with
    | (s, some _) => (s, true)
    | (s, none) => (s, false)

/-- Stage 5 has ended: every populated channel is trained and holds zeros (R618). -/
def State.trainAll (s : State) : State := s.channels.foldl (fun s c => s.trainChan c) s

/-- Stage 6 begins: every link with EN set trains from phase 0 (R347, R689). -/
def State.trainLinks (s : State) : State :=
  (List.range 32).foldl (fun s n => if s.flag F.LNK_CTL_EN n then s.trainLink n 0 0 else s) s

/-- Does a lane of any link still train? -/
def State.linksTraining (s : State) : Bool := s.lnk.links.any fun l => l.2.st == .training

/-- The ports train their links once stage 1 has ended, where PERST_N is deasserted (R693). -/
def State.trainPorts (s : State) : State :=
  let s := s.putPort 0 { s.port 0 with train := !(s.port 0).perst }
  if s.ao.bifur then s.putPort 1 { s.port 1 with train := !(s.port 1).perst } else s

/-- The islands as port enable leaves them: every pool free and levelled, the registers locked, the holdup bank charging, and the stage complete. -/
def State.readyPorts (s : State) : State :=
  let s := s.withBpm { s.bpm with tags := [], pools := s.bpm.pools.mapV fun _ p => { p with freed := [], virgin := 0 }, waits := [], refWaits := [] }
  let s := (List.range 6).foldl (fun s p => s.relevel p) (s.putFld F.BPM_CTL_NOM 0 0 0)
  let s := s.withWin { s.win with locked := true }
  let s := s.withHost { s.host with enabled := true }
  let s := s.withHld { s.hld with bank := .charging, test := .waiting }
  s.withBoot { s.boot with stage := 9 }

/-- A trial image that has reached port enable is recorded as the one to boot. -/
def State.keepTrial (s : State) : State :=
  if s.boot.trial then (s.appendBoot s.boot.run 0).withBoot { (s.appendBoot s.boot.run 0).boot with trial := false } else s

/-- Stage 8: recovery's buffers return, NOM clears, boot lock is set, the ports are enabled, and the start is confirmed (R582, R691, R694). -/
def State.enablePorts (s : State) : State :=
  let s := s.readyPorts.keepTrial
  let s := s.raiseFloor s.boot.run
  (s.raise 0x003 0 0 [(1, s.boot.rtype), (4, (s.ao.time - s.boot.began) / 1000)]).recap

/-- The work of a stage that has succeeded, and whether it can go on. -/
def State.endStage (s : State) : State × Bool :=
  match s.boot.stage with
  | 1 => ((s.clearSram 0 7).resolveFlags.reportStart.trainPorts, true)
  | 2 => (s.vaultStart, true)
  | 3 => s.loadBoot
  | 4 => (s.clearSram 8 32, true)
  | 5 => (s.trainAll.trainLinks, true)
  | 6 => (s.recap, true)
  | 7 => (s.recover, true)
  | 8 => (s.enablePorts, true)
  | _ => (s, true)

/-- STARTUP_STAGE_COMPLETE: the stage in progress ends. A failure at stage 2, 3, 5 or 7 enters recovery mode; a failed link is no failure of
stage 6 (R689, R695). Stage 6 has not ended while a link trains. -/
def execStartupStageComplete (res : StageRes) (s : State) : Outcome :=
  if s.boot.stage = 0 ∨ 9 ≤ s.boot.stage ∨ s.boot.recov = true ∨ (s.boot.stage = 6 ∧ s.linksTraining = true) then .next s
  else
    match res with
    | .fail cause =>
      if [2, 3, 5, 7].contains s.boot.stage then
        let s := if s.boot.stage = 2 then (s.withSec { s.sec with st := 4 }).raise 0x043 1 3 [(1, cause)]
          else if s.boot.stage = 5 then s.trainFailed ((s.channels.head?).getD 0) cause else s
        .next (s.recoveryMode cause)
      else .next s
    | .ok =>
      match s.endStage with
      | (t, true) => .next (if s.boot.stage = 8 then t else t.withBoot { t.boot with stage := s.boot.stage + 1 })
      | (t, false) => .next (t.drew.recoveryMode t.diagCode)

/-! ### The firmware store (R683 to R686, R697, R704) -/

/-- May an agent write the FWS command registers: the host and the management endpoint only in recovery mode (R704)? -/
def State.fwsMay (s : State) (a : Agent) : Bool := match a with
  | .core _ => true
  | _ => s.boot.recov

/-- The regions of R680. -/
inductive Region where
  | slot | cfg | vault | bootRec | flag | none
  deriving DecidableEq, Repr

def regionOf (a : Nat) : Region :=
  if a < 0x2000000 then .slot else if a < 0x2200000 then .cfg else if a < 0x2400000 then .vault else if a < 0x2420000 then .bootRec
  else if a < 0x2440000 then .flag else .none

/-- Is a region open to an agent for an operation (R697, R704)? -/
def State.regionOpen (_s : State) (a : Agent) (op : Nat) (r : Region) : Bool :=
  let host := match a with
    | .core _ => false
    | _ => true
  match r with
  | .slot | .cfg => true
  | .bootRec => !host || op == 2
  | .flag => !host && op == 2
  | .vault => false
  | .none => op == 2

/-- Bytes of the NOR (FWS_CFG.SIZE). -/
def State.norSize (s : State) : Nat := 2 ^ s.fld F.FWS_CFG_SIZE * 0x4000000

/-- The bank of an address (R683). -/
def State.norBank (s : State) (a : Nat) : Nat := if s.flag F.FWS_CFG_RWW then a / (2 ^ s.fld F.FWS_CFG_BANK * 0x100000) else 0

/-- Does an address lie in the busy bank? -/
def State.bankBusy (s : State) (a : Nat) : Bool :=
  match s.boot.op with
  | some o => s.norBank o.addr == s.norBank a
  | none => false

/-- Is an operation's address or length valid? -/
def State.fwsRange (s : State) (op addr len : Nat) : Bool :=
  if op = 1 then addr % 65536 == 0 && addr + 65536 ≤ s.norSize && addr < 0x2440000
  else op ≤ 2 && 1 ≤ len && len ≤ 256 && addr % 256 + len ≤ 256 && addr + len ≤ s.norSize && (op == 2 || addr < 0x2440000)

/-- The bytes of the boot record sectors (R688). -/
def BootRec.bytes (r : BootRec) : List Byte :=
  let b := toBytes 4 0x42524543 ++ toBytes 8 r.seq ++ toBytes 1 r.pref ++ toBytes 1 r.trial ++ toBytes 46 0
  b ++ toBytes 4 (crc32cBytes b)

def Boot.bootByte (b : Boot) (a : Nat) : Byte :=
  let o := a - 0x2400000
  if o / 65536 = b.brActive then
    match b.recs[o % 65536 / 64]? with
    | some r => nth r.bytes (o % 64) 0
    | none => 0xFF
  else 0xFF

/-- A byte of the flag sectors. -/
def Boot.flagByte (b : Boot) (a : Nat) : Byte :=
  match (b.flagSector (a / 65536 - sectorF0))[a % 65536 / 4]? with
  | some w => nth (toBytes 4 w) (a % 4) 0
  | none => 0xFF

/-- A byte that an OP 2 read gives. Nothing fixes the bytes of a delivered image or of a copy that the controller wrote: they are free values. -/
def State.fwsByte (s : State) (a : Nat) : Byte :=
  let free : Byte := BitVec.ofNat 8 (Config.freeNat (s.free + a))
  match regionOf a with
  | .bootRec => s.boot.bootByte a
  | .flag => s.boot.flagByte a
  | .slot => if a < 0x1000000 && s.boot.factory then free else s.boot.norByte a
  | .cfg => if (if a < 0x2100000 then s.boot.cfgA else s.boot.cfgB).isSome then free else s.boot.norByte a
  | _ => s.boot.norByte a

/-- Write bytes into FWS_BUF. -/
def State.putFwsBuf (s : State) (bs : List Byte) : State :=
  (List.range (ceilDiv bs.length 4)).foldl (fun s i => s.putFld F.FWS_BUF_DATA i 0 (ofBytes ((bs.drop (4 * i)).take 4))) s

def State.fwsResult (s : State) (r : Nat) : State := s.withBoot { s.boot with result := r }

/-- GO (R683 to R685, R704). -/
def State.fwsGo (s : State) (a : Agent) (op addr len : Nat) : State :=
  if (op ≠ 2 ∧ s.boot.op.isSome) ∨ (op = 2 ∧ s.bankBusy addr) then s.fwsResult 1
  else if !s.fwsRange op addr len then s.fwsResult 3
  else if !s.regionOpen a op (regionOf addr) then s.fwsResult 2
  else if op = 2 then
    let bs := (List.range len).map fun i => s.fwsByte (addr + i)
    ((s.putFwsBuf bs).drew).fwsResult 0
  else
    let s := s.withBoot { s.boot with op := some ⟨op, addr, len⟩ }
    if op = 1 then s.withBoot (s.boot.rollFlags.addFlag (sectorOf addr)) else s

/-- A write of FWS_CMD. -/
def State.writeFwsCmd (s : State) (a : Agent) (v : Nat) : State :=
  if !s.fwsMay a then s.raiseDiscarded (offOf .FWS_CMD) a
  else if !(F.FWS_CMD_OP.inRange v && F.FWS_CMD_LEN.inRange v) then s.raiseDiscarded (offOf .FWS_CMD) a
  else
    let s := s.putReg ⟨.FWS_CMD, 0, 0⟩ v
    if v.testBit 31 then s.fwsGo a (bits v 30 28) (s.fld F.FWS_ADDR_ADDR) (bits v 8 0) else s

/-- FWS_PROGRAM: a write of FWS_CMD with GO and OP 0 (R684). -/
def execFwsProgram (a : Agent) (v : Nat) (s : State) : Outcome :=
  if bits v 30 28 = 0 ∧ v.testBit 31 = true then .next (s.writeFwsCmd a v) else .next s

/-- FWS_ERASE: a write of FWS_CMD with GO and OP 1 (R685). -/
def execFwsErase (a : Agent) (v : Nat) (s : State) : Outcome :=
  if bits v 30 28 = 1 ∧ v.testBit 31 = true then .next (s.writeFwsCmd a v) else .next s

/-- FWS_READ: a write of FWS_CMD with GO and OP 2 (R683). -/
def execFwsRead (a : Agent) (v : Nat) (s : State) : Outcome :=
  if bits v 30 28 = 2 ∧ v.testBit 31 = true then .next (s.writeFwsCmd a v) else .next s

/-- FWS_OPERATION_DONE: a program or an erase ends. A program's completion says nothing of its success; an erase that leaves a byte not 0xFF
keeps its flag (R684, R685). -/
def execFwsOperationDone (ok : Bool) (s : State) : Outcome :=
  match s.boot.op with
  | none => .next s
  | some o =>
    let s := s.withBoot { s.boot with op := none }
    if o.op = 0 then .next ((s.programNor o.addr (s.fwsBuf.take o.len) ok).fwsResult 0)
    else if ok then
      let s := s.eraseSector (sectorOf o.addr)
      .next ((s.withBoot (s.boot.clearFlag (sectorOf o.addr))).fwsResult 0)
    else .next (s.fwsResult 5)

/-- FWS_OPERATION_TIMEOUT: the device has not finished within the time FWS_RESULT gives; a flag stays pending. -/
def execFwsOperationTimeout (s : State) : Outcome :=
  match s.boot.op with
  | none => .next s
  | some o =>
    let s := s.withBoot { s.boot with op := none }
    if o.op = 0 then .next ((s.programNor o.addr (s.fwsBuf.take o.len) false).fwsResult 4) else .next (s.fwsResult 4)

/-- CORE_READ_BUSY_BANK: the reading core takes a bus fault; FWS_FAULT keeps the address (R683). -/
def execCoreReadBusyBank (core addr : Nat) (s : State) : Outcome :=
  if core < 16 ∧ s.bankBusy addr = true then
    .next (((s.withBoot { s.boot with fault := some addr, faultValid := true }).drew).raise (0x060 + core) 0 2 [(8, addr), (1, s.diagCode)])
  else .next s

/-- A write of FWS_CTL: REBOOT with KEY 0xB0 in recovery mode restarts at stage 1 (R697, R704). -/
def State.writeFwsCtl (s : State) (a : Agent) (v : Nat) : State :=
  if !s.fwsMay a then s.raiseDiscarded (offOf .FWS_CTL) a
  else if v.testBit 0 && bits v 15 8 == 0xB0 && s.boot.recov then (s.powerOff true).restart 8
  else s

/-- REBOOT. -/
def execReboot (a : Agent) (key : Nat) (s : State) : Outcome := .next (s.writeFwsCtl a (key % 256 * 256 + 1))

/-! ### Temperature (R727, R742) -/

/-- Warning, critical and trip junction temperatures by grade. -/
def State.tempLimits (s : State) : Int × Int × Int := if s.sec.gradeX then (110, 115, 120) else (100, 105, 110)

/-- JUNCTION_TEMP_SAMPLE: the hottest junction sensor; reaching the warning or the critical temperature raises an event. -/
def execJunctionTempSample (t : Int) (s : State) : Outcome :=
  let (w, c, _) := s.tempLimits
  let was := s.brd
  let s := s.withBrd { s.brd with temp := t, warn := decide (w ≤ t), crit := decide (c ≤ t) }
  let s := if w ≤ t ∧ was.warn = false then s.raise 0x002 0 1 [(2, t.toNat), (2, w.toNat)] else s
  .next (if c ≤ t ∧ was.crit = false then s.raise 0x002 1 3 [(2, t.toNat), (2, c.toNat)] else s)

/-- THERMAL_TRIP: the sensor has stayed at or above the trip temperature for 1 ms: THERMTRIP_N asserts, ISO_G opens, and a flush runs on bank
power. -/
def execThermalTrip (s : State) : Outcome :=
  let (_, _, trip) := s.tempLimits
  if trip ≤ s.brd.temp ∧ s.brd.tripped = false then
    .next ((s.withBrd { s.brd with thermtripN := true, iso := false, tripped := true }).startFlush 7)
  else .next s

/-- THERMAL_COOLDOWN: the junction is below the critical temperature less 10 °C: the isolation switch may turn on, after which stage 1 begins and
THERMTRIP_N is released (R717, R742). -/
def execThermalCooldown (s : State) : Outcome :=
  let (_, c, _) := s.tempLimits
  if s.brd.tripped = true ∧ s.brd.temp < c - 10 ∧ s.hld.flush = .none then
    .next (s.withBrd { s.brd with tripped := false })
  else .next s

/-! ### Debug and clock (R666, R703) -/

/-- TEST_ACCESS_PORT_ACCESS: debug route 2, enabled by DBGEN; its first use in a power cycle raises the event. -/
def execTestAccessPortAccess (_addr _len : Nat) (s : State) : Outcome :=
  if s.brd.dbgen = true ∧ s.brd.dbg2 = false then .next ((s.withBrd { s.brd with dbg2 := true }).raise 0x007 0 1 [(1, 2)]) else .next s

/-- CRYSTAL_FAULT. -/
def execCrystalFault (cause : Nat) (s : State) : Outcome := .next ((s.withBrd { s.brd with crystal := true }).raise 0x006 0 3 [(1, cause)])

end Sys2Proof.Machine
end

