-- ==== Sys2Proof/Machine/Resets.lean ====
section
/-!
DEFINITION. Controllers, functions and host ports coming and going (R106, R116, R117, R128, R136, R137, R139, R140, R241, R660, R673, R693, R698 of
spec/02_host_port.md and spec/15_startup_firmware.md), with the commands CONTROLLER_ENABLE, CONTROLLER_RESET, NORMAL_SHUTDOWN,
SHUTDOWN_COMPLETE, ABRUPT_SHUTDOWN, ABORT, FUNCTION_LEVEL_RESET, FUNCTION_DISABLE, FUNCTION_ENABLE, PERST_ASSERT, PERST_DEASSERT, PORT_LINK_UP,
PORT_LINK_DOWN, NVM_SUBSYSTEM_RESET, WATCHDOG_EXPIRY, INTERRUPT_COALESCING_TIMER and STAT_CLR.
-/

namespace Sys2Proof.Machine

/-! ### What becomes of a function's commands (R41, R136) -/

/-- What a command leaves behind goes on under a name that no command has: its units, its credit request and its media reads. -/
def State.renameCmd (s : State) (r g : CmdRef) : State :=
  let mine := s.str.dram.filter fun e => e.2.ref == some r
  let s := mine.foldl (fun s e => s.reown e.2.bufs ownerCommitted) s
  let s := s.withStr { s.str with dram := s.str.dram.mapV fun _ u => if u.ref = some r then { u with ref := some g } else u }
  let s := s.withHld { s.hld with queue := s.hld.queue.map fun q => if q.who = .write r then { q with who := .write g } else q }
  s.withDdk { s.ddk with reads := s.ddk.reads.mapV fun _ u => match u.who with
    | .host x k => if x = r then { u with who := .host g k } else u
    | _ => u }

/-- The effect that an abandoned command keeps: a write whose units hold credit is applied, as is a map change or a zone action that has
been handled; a write with units that wait for credit is applied when they hold it; of any other, nothing (R41, R136). -/
def State.settleCmd (s : State) (c : Cmd) : State :=
  match s.nsAt c.nsix with
  | none => s
  | some n =>
    match c.phase with
    | .accepted => s.acceptWrite c
    | .record =>
      if c.sqe.opc = 0x79 then c.acts.foldl (fun s a => s.applyAction c.nsix n a) s else s.applyMapChange c
    | _ =>
      if c.acts.isEmpty then s.abandonWrite c
      else
        let s := s.recordActions c n
        match s.cmd? c.ref with
        | some c => c.acts.foldl (fun s a => s.applyAction c.nsix n a) s
        | none => s

/-- Abandon a command without completion: its locks and buffers are released, the buffers by named owner under function-level reset and disable, and
the shares at Amber are divided afresh (R103, R136, R206, R212). -/
def State.abandonCmd (s : State) (named : Bool) (c : Cmd) : State :=
  let s := s.amberAdvance.settleCmd c
  let s := s.renameCmd c.ref (ghostRef c.ref (c.csn.getD 0))
  let s := s.retireLocks c.ref
  let s := if named then s.freeNamed c.ref.fn c.bufs.got else s.giveBackAll c.bufs.got
  let s := s.withBpm { s.bpm with waits := s.bpm.waits.filter fun w => w.who != .cmd c.ref }
  let s := if c.ref.qid = 0 ∧ c.sqe.opc = 0xC5 ∧ c.phase = .background then s.setTsec (c.sqe.cdw10 % 1024) fun x => { x with releasing := false } else s
  s.dropCmd c.ref

/-- Rename what commands of a function that have completed left in DRAM, so that no later deferred error names them (R128). -/
def State.forgetRefs (s : State) (t : Nat) : State :=
  s.withStr { s.str with dram := s.str.dram.mapV fun _ u => match u.ref with
    | some r => if r.fn = t ∧ r.qid < 65536 then { u with ref := some (ghostRef r u.dcsn) } else u
    | none => u }

/-- Abandon every command of a function. -/
def State.abandonFn (s : State) (t : Nat) (named : Bool := false) : State :=
  (s.host.cmds.filter fun c => c.ref.fn == t).foldl (fun s c => s.abandonCmd named c) s

/-- An envelope in progress: with its counter durable it was interrupted; before that, the counter does not advance (R137, R560). -/
def State.cutEnvelope (s : State) (t : Nat) : State :=
  match (s.tsec t).env with
  | none => s
  | some e =>
    if e.durable then s.setTsec t fun x => { x with env := none, outcome := 2 } else s.setTsec t fun x => { x with env := none }

/-! ### Abort (R139, R140) -/

/-- May a command still be aborted: it has not reached step 8 of the write path, and it holds no lock grant (R139) nor one that is due, over which an
Abort does not prevail (R140)? A Sanitize whose erase is in progress has drawn its CSNs. -/
def State.abortable (s : State) (c : Cmd) : Bool :=
  match c.phase with
  | .admission | .ready | .zoneWait | .flushing | .background => true
  | .sealing => c.sqe.opc == 0xC4
  | .lockWait => !lockClear s.col.table c.ref
  | .held =>
    let t := s.requestLocks c
    !(match t.cmd? c.ref with
      | some x => x.phase == .lockWait && lockClear t.col.table c.ref
      | none => false)
  | _ => false

/-- What an aborted command takes back besides its range and its slots: an envelope whose counter is not durable leaves no trace, and a release that has
begun ends (R137, R573). -/
def State.takeBack (s : State) (c : Cmd) : State :=
  let s := if c.phase = .sealing ∧ c.sqe.opc = 0xC4 then s.cutEnvelope c.ref.fn else s
  if c.ref.qid = 0 ∧ c.sqe.opc = 0xC5 ∧ c.phase = .background then s.setTsec (c.sqe.cdw10 % 1024) fun x => { x with releasing := false } else s

/-- ABORT: bit 0 of dword 0 is 1 where the command was not aborted (R139). Not enabled while the aborted command's own completion has no
room. -/
def execAbort (r : CmdRef) (s : State) : Outcome :=
  s.runReady r true 0x08 fun c =>
    match s.cmd? ⟨r.fn, c.sqe.cdw10 % 65536, c.sqe.cdw10 / 65536⟩ with
    | none => s.complete c .success 1
    | some t =>
      if s.abortable t && t.ref != r then
        if s.cqRoom t.ref then ((s.amberAdvance.takeBack t).failWrite t .abortRequested).complete c .success 0 else s
      else s.complete c .success 1

/-- What a controller level reset leaves of a function. -/
def FnState.controllerReset (f : FnState) : FnState :=
  { f with
    en := false, rdy := false, shn := 0, shst := 0, ams := 0, feat := f.savedFeat, aev := [], aevMasked := []
    dst := if f.dst = 1 then 0 else f.dst, dstResult := if f.dst = 1 then 0x12 else f.dstResult, shutFlush := none }

/-- Controller reset of a function (R136): fetch stops, its commands are abandoned, its queues go, and a transaction that it owns is rolled
back (R660). The history of its namespaces' extents restarts at 0 (R188). -/
def State.resetController (s : State) (t : Nat) (named : Bool := false) : State :=
  let s := ((s.abandonFn t named).forgetRefs t).cutEnvelope t
  let s := s.withZon { s.zon with ns := s.zon.ns.mapV fun _ n => if n.owner = t then { n with hist := [] } else n }
  let s := s.withHost { s.host with
    sqs := s.host.sqs.filter fun e => e.1 / 65536 != t
    cqs := s.host.cqs.filter fun e => e.1 / 65536 != t
    fns := s.host.fns.adj t FnState.controllerReset }
  if t < 2 then s.rollback t else s

/-- Free by named owner every granule that a function still holds (R136, R212). -/
def State.freeOwner (s : State) (t : Nat) : State :=
  s.freeNamed t ((s.bpm.tags.filter fun e => e.2.owner == t).map fun e => (e.1 / 2 ^ 22, e.1 % 2 ^ 22))

/-- One function under function-level reset: as controller reset, with its buffers, its configuration space and its capture rings (R136,
R241). -/
def State.resetOne (s : State) (t : Nat) : State :=
  let s := ((s.resetController t true).freeOwner t).releaseFn t
  s.withHost { s.host with fns := s.host.fns.adj t fun f => { f with bme := false, d3 := false, vfe := false, cfg := [] } }

/-- Function-level reset; of a physical function, for it and for every VF of it, and its event rings are disabled (R136, R673). -/
def State.resetFunction (s : State) (t : Nat) : State :=
  if isVf t then s.resetOne t
  else (t :: vfsOf t).foldl (fun s x => s.resetOne x) (s.ringsLose t 2)

/-- A disabled function (R136): its commands are abandoned, its locks, buffers and capture rings released, and the MSI-X messages not yet issued
dropped. -/
def State.disableOne (s : State) (t : Nat) : State :=
  let s := (((s.abandonFn t true).cutEnvelope t).freeOwner t).releaseFn t
  s.withHost { s.host with cqs := s.host.cqs.mapV fun k q => if k / 65536 = t then { q with unsig := 0 } else q }

/-! ### Controllers -/

/-- Can host software reach a function's registers: its port is up and answers, and a VF is enabled (R693, R696)? -/
def State.reachable (s : State) (t : Nat) : Bool :=
  t < 1024 && (s.port (s.portOf t)).up && s.host.enabled && (!isVf t || (s.fn (pfOf t)).vfe)

/-- A queue as it is created. -/
def Sq.new (cqid size prio now : Nat) : Sq :=
  { cqid := cqid, size := size, head := 0, tail := 0, prio := prio, entries := [], bell := now, seen := [] }

def Cq.new (size : Nat) (ien : Bool) (vec : Nat) : Cq :=
  { size := size, head := 0, tail := 0, phase := true, ien := ien, vec := vec, unsig := 0 }

/-- CONTROLLER_ENABLE: CC.EN from 0 to 1, with the arbitration mechanism and the admin queues' sizes less one. Queues hold 2 to 4,096 entries
(R84); a VF's controller must be online (R80). It waits while the port has granted an entry (R641). -/
def execControllerEnable (fn ams asqs acqs : Nat) (s : State) : Outcome :=
  let f := s.fn fn
  if s.reachable fn = true ∧ f.en = false ∧ ams < 2 ∧ 1 ≤ asqs ∧ asqs < 4096 ∧ 1 ≤ acqs ∧ acqs < 4096 ∧ (isVf fn = false ∨ f.online = true) ∧
      s.granted (96 + s.portOf fn) = false then
    let s := s.putFn fn { f with en := true, rdy := true, shn := 0, shst := 0, ams := ams }
    .next ((s.putSq fn 0 (Sq.new 0 (asqs + 1) 0 s.ao.time)).putCq fn 0 (Cq.new (acqs + 1) true 0))
  else .next s

/-- CONTROLLER_RESET (R136). -/
def execControllerReset (fn : Nat) (s : State) : Outcome :=
  if s.reachable fn = true ∧ (s.fn fn).en = true then .next (s.resetController fn) else .next s

/-- The commands that a normal shutdown waits for: every fetched one but an Asynchronous Event Request. -/
def State.unfinished (s : State) (t : Nat) : Bool :=
  s.host.cmds.any fun c => c.ref.fn == t && !(c.ref.qid == 0 && c.sqe.opc == 0x0C)

/-- Once they have completed, the Flush of R112 for every namespace of the controller begins (R116). -/
def State.shutdownFlush (s : State) (t : Nat) : State :=
  if (s.fn t).shutFlush.isNone && !s.unfinished t then
    (s.setFn t fun f => { f with shutFlush := some s.jnl.csn }).closeFor t 0xFFFFFFFF s.jnl.csn
  else s

/-- NORMAL_SHUTDOWN: CC.SHN = 01b (R116). -/
def execNormalShutdown (fn : Nat) (s : State) : Outcome :=
  if s.reachable fn = true ∧ (s.fn fn).en = true ∧ (s.fn fn).shn = 0 then
    .next ((s.setFn fn fun f => { f with shn := 1, shst := 1 }).shutdownFlush fn)
  else .next s

/-- SHUTDOWN_COMPLETE: the flush has completed, and CSTS.SHST is 10b (R116). Before the fetched commands have completed, nothing happens. -/
def execShutdownComplete (fn : Nat) (s : State) : Outcome :=
  if (s.fn fn).shn = 1 ∧ (s.fn fn).shst = 1 then
    let s := s.shutdownFlush fn
    match (s.fn fn).shutFlush with
    | some c => .next (if s.flushDone fn 0xFFFFFFFF c (s.openCloses fn 0xFFFFFFFF) then s.setFn fn fun f => { f with shst := 2, shutFlush := none } else s)
    | none => .next s
  else .next s

/-- ABRUPT_SHUTDOWN: CC.SHN = 10b (R117). -/
def execAbruptShutdown (fn : Nat) (s : State) : Outcome :=
  if s.reachable fn = true ∧ (s.fn fn).en = true ∧ (s.fn fn).shn ≠ 2 then
    .next (((s.abandonFn fn).cutEnvelope fn).setFn fn fun f => { f with shn := 2, shst := 2, shutFlush := none })
  else .next s

/-! ### Functions -/

/-- FUNCTION_LEVEL_RESET. -/
def execFunctionLevelReset (fn : Nat) (s : State) : Outcome := if s.reachable fn then .next (s.resetFunction fn) else .next s

/-- FUNCTION_DISABLE: Bus Master Enable cleared, D3hot entered, or VF Enable cleared, which disables every VF (R136, R673). -/
def execFunctionDisable (fn : Nat) (cause : FnCause) (s : State) : Outcome :=
  if !s.reachable fn then .next s
  else
    let rings (s : State) (k : Nat) : State := if isVf fn then s else s.ringsLose fn k
    match cause with
    | .busMaster => if (s.fn fn).bme then .next ((rings (s.setFn fn fun f => { f with bme := false }) 1).disableOne fn) else .next s
    | .d3hot => if (s.fn fn).d3 then .next s else .next ((rings (s.setFn fn fun f => { f with d3 := true }) 2).disableOne fn)
    | .vfEnable =>
      if !isVf fn && (s.fn fn).vfe then
        .next ((vfsOf fn).foldl (fun s x => s.disableOne x) (s.setFn fn fun f => { f with vfe := false }))
      else .next s

/-- FUNCTION_ENABLE: host software sets Bus Master Enable, returns a function to D0 or sets VF Enable (R699). -/
def execFunctionEnable (fn : Nat) (cause : FnCause) (s : State) : Outcome :=
  if !s.reachable fn then .next s
  else
    match cause with
    | .busMaster => if s.granted (96 + s.portOf fn) then .next s else .next (s.setFn fn fun f => { f with bme := true })
    | .d3hot => .next (s.setFn fn fun f => { f with d3 := false })
    | .vfEnable => if isVf fn then .next s else .next (s.setFn fn fun f => { f with vfe := true })

/-! ### Ports (R65 to R68, R693) -/

/-- The port of a PERST_N pin; in the x16 configuration PERSTB_N is ignored (R66). -/
def State.hasPort (s : State) (p : Nat) : Bool := p == 0 || (p == 1 && s.ao.bifur)

/-- Every function of a port under function-level reset. -/
def State.resetPort (s : State) (p : Nat) : State :=
  let pfs := if s.ao.bifur then [p] else [0, 1]
  pfs.foldl (fun s t => s.resetFunction t) s

/-- The link of a port goes down, with its event. -/
def State.linkDown (s : State) (p : Nat) : State :=
  if (s.port p).up then (s.putPort p { s.port p with up := false, rate := 0, width := 0, flit := false }).raise (0x05C + p) 1 1 [] else s

/-- PERST_ASSERT (R136). -/
def execPerstAssert (port : Nat) (s : State) : Outcome :=
  if s.hasPort port = true ∧ (s.port port).perst = false then
    .next (((s.resetPort port).linkDown port).putPort port { Port.reset with perst := true })
  else .next s

/-- PERST_DEASSERT: the port trains its link once stage 1 has ended; in recovery mode, port A alone (R693, R696). -/
def execPerstDeassert (port : Nat) (s : State) : Outcome :=
  if s.hasPort port = true ∧ (s.port port).perst = true then
    .next (s.putPort port { s.port port with perst := false, train := 2 ≤ s.boot.stage && (!s.boot.recov || port == 0) })
  else .next s

/-- Rate codes run from 1 (2.5 GT/s) to 6 (64 GT/s). -/
def State.linkFits (s : State) (rate width : Nat) : Bool :=
  1 ≤ rate && rate ≤ 6 && [1, 2, 4, 8, 16].contains width && (width ≤ 8 || !s.ao.bifur)

/-- PORT_LINK_UP (R67, R68). -/
def execPortLinkUp (port rate width : Nat) (flit : Bool) (s : State) : Outcome :=
  if s.hasPort port = true ∧ (s.port port).train = true ∧ (s.port port).perst = false ∧ (s.port port).up = false ∧ s.linkFits rate width = true then
    .next ((s.putPort port { s.port port with up := true, rate := rate, width := width, flit := flit }).raise (0x05C + port) 0 0 [(1, rate), (1, width)])
  else .next s

/-- PORT_LINK_DOWN: as PERST_N of that port (R136). -/
def execPortLinkDown (port : Nat) (s : State) : Outcome :=
  if s.hasPort port = true ∧ (s.port port).up = true then .next ((s.resetPort port).linkDown port) else .next s

/-! ### Resets of the whole part (R698) -/

def State.resetAll (s : State) : State := [0, 1].foldl (fun s t => s.resetFunction t) s

/-- An NVM subsystem reset: every function as function-level reset, then a reset flush and the restart (R698, R699). -/
def State.subsystemReset (s : State) : State := s.resetAll.startFlush 4

/-- NVM_SUBSYSTEM_RESET: NSSR of a physical function (R85). -/
def execNvmSubsystemReset (fn : Nat) (s : State) : Outcome :=
  if fn < 2 ∧ s.reachable fn = true then .next s.subsystemReset else .next s

/-- WATCHDOG_EXPIRY: as an NVM subsystem reset, and reported at the next start (R698). -/
def execWatchdogExpiry (core cause : Nat) (s : State) : Outcome :=
  if core < 16 ∧ 1 ≤ s.boot.stage then
    let s := s.withBoot { s.boot with wdog := some (core, cause) }
    .next (s.resetAll.startFlush 5)
  else .next s

/-! ### Timers and counters -/

/-- INTERRUPT_COALESCING_TIMER: the aggregation time has passed since a completion was posted (R92). A function that may not write, and a flush, send
none (R136, R258). -/
def execInterruptCoalescingTimer (fn cqid : Nat) (s : State) : Outcome :=
  match s.cq? fn cqid with
  | none => .next s
  | some q => if q.ien && 0 < q.unsig && s.fnLive fn && s.hld.flush == .none then .next ((s.putCq fn cqid { q with unsig := 0 }).send (.msix fn q.vec)) else .next s

/-- A write of RLK_CTL: STAT_CLR sets HIWAT to INUSE and clears MAXWAIT. -/
def State.writeRlkCtl (s : State) (v : Nat) : State :=
  if v.testBit 0 then s.withCol { s.col with hiwat := s.col.table.length, maxwait := 0 } else s

/-- STAT_CLR. -/
def execStatClr (_a : Agent) (s : State) : Outcome := .next (s.writeRlkCtl 1)

end Sys2Proof.Machine
end

