-- ==== Sys2Proof/Machine/Namespaces.lean ====
section
/-!
DEFINITION. The life of namespaces (R141, R154, R177, R182, R195, R198, R199, R233, R408, R411, R533 to R535, R570 to R572 of
spec/03_zones_placement.md and spec/11_tenants_security.md), with the commands NAMESPACE_MANAGEMENT, NAMESPACE_ATTACHMENT, FORMAT_NVM and
SANITIZE.
-/

namespace Sys2Proof.Machine

/-! ### Identities and reservations -/

/-- The lowest number at or above a first one that a list does not hold. -/
def lowestFree (used : List Nat) : Nat → Nat → Nat
  | 0, k => k
  | n + 1, k => if used.contains k then lowestFree used n (k + 1) else k

def State.freeNsix (s : State) : Nat := lowestFree (s.zon.ns.map (·.1)) 4097 0

def State.freeNsid (s : State) : Nat := lowestFree ((s.zon.ns.filter fun e => e.2.kind != .companion).map fun e => e.2.nsid) 4097 1

/-- Superblock handles of a placement namespace (R182). -/
def handlesFor (nsze nph : Nat) : Nat := ceilDiv (nsze * 8) (7 * 229376) + nph + 5

/-- Logical blocks of the companion of a namespace (R411). -/
def companionSize (nsze : Nat) : Nat := ceilDiv (ceilDiv nsze 64) 256 * 256

/-- Handles reserved by every placement namespace, companions included. -/
def State.reservedHandles (s : State) : Nat := s.zon.ns.foldl (fun n e => n + e.2.handles) 0

/-- Runs of consecutive free entries, the lowest first: from runs in use, sorted by their first entry (R177). -/
def freeRuns : List (Nat × Nat) → Nat → Nat → List (Nat × Nat)
  | _, _, 0 => []
  | [], at_, n => if at_ + n ≤ 1048576 then [(at_, n)] else []
  | (a, k) :: rest, at_, n =>
    if at_ < a then
      let m := min n (a - at_)
      (at_, m) :: freeRuns rest (a + k) (n - m)
    else freeRuns rest (a + k) n

def State.usedRuns (s : State) : List (Nat × Nat) := (s.zon.ns.flatMap fun e => e.2.runs).foldl (fun l x => insRange x l) []

/-- The runs of a new zoned namespace; none where the entries do not suffice. -/
def State.runsFor (s : State) (zones : Nat) : Option (List (Nat × Nat)) :=
  let rs := freeRuns s.usedRuns 0 zones
  if (rs.map (·.2)).sum = zones then some rs else none

def NsKind.code : NsKind → Nat
  | .zoned => 0
  | .placement => 1
  | .companion => 2

/-- Is a format one that R87 and R88 offer: LBA format 0 to 3, protection information in the last bytes, none with LBA format 0? -/
def formatOk (lbaf pit pil : Nat) : Bool := lbaf ≤ 3 && pit ≤ 3 && pil == 0 && (pit == 0 || lbaf != 0)

/-! ### Taking and giving up storage -/

/-- Bind every zone of a zoned namespace (R154), with a zone record for each that is bound (R270). -/
def State.bindZones (s : State) (nsix csn : Nat) (n : Ns) : State :=
  (n.runs.flatMap fun x => (List.range x.2).map fun i => x.1 + i).foldl (fun s e =>
    let ms := s.chooseZoneSet n.owner
    let s := s.bindEmpty nsix e n.owner csn ms
    if ms.isSome then s.zoneRecord n.owner csn e 9 else s) s

/-- Drop what a namespace has stored: its units, its staged units and map entries, and its sets, whose blocks go to the erase queue. -/
def State.clearNs (s : State) (nsix : Nat) (n : Ns) : State :=
  let s := (s.str.dram.filter fun u => u.2.nsix == nsix).foldl (fun s u => s.retireUnit u.1) s
  let s := s.withStr { s.str with staging := s.str.staging.filter fun e => e.1 / 2 ^ 48 != nsix }
  let s := s.withZon { s.zon with
    map := s.zon.map.filter fun e => e.1 / 2 ^ 48 != nsix
    reserved := s.zon.reserved.filter fun e => e.1 / 32 != nsix }
  if n.kind = .zoned then
    (s.zon.zdt.filter fun e => e.2.nsix == nsix).foldl (fun s e => s.dropSet e.1 1) s
  else (s.zon.sb.filter fun b => b.2.nsix == nsix && !b.2.stopped || b.2.nsix == nsix && (s.set? (placementSet b.1)).isSome).foldl
    (fun s b => (if !(s.med.relocs.any fun r => r.setid == placementSet b.1) then s.countClean (placementSet b.1) else s).eraseSuper (placementSet b.1)) s

/-- The namespace record of a create, Format NVM or Sanitize, with the CSN that it draws (R27, R270). -/
def State.namespaceRecord (s : State) (nsix action : Nat) (n : Ns) : State :=
  let csn := s.jnl.csn
  (s.takeCsns 1).journal n.owner csn (.namespaceRec nsix action n.kind.code n.lbaf n.nph n.nsze n.nsid)

/-- Add a namespace with a new media key, and bind its zones (R570). -/
def State.addNs (s : State) (nsix : Nat) (n : Ns) : State :=
  let csn := s.jnl.csn
  let s := s.namespaceRecord nsix 1 n
  let (s, k) := s.newMediaKey
  let n := { n with bindCsn := csn, key := some k }
  let s := s.putNs nsix n
  if n.kind = .zoned then s.bindZones nsix csn n else s

/-- Erase a namespace: a new key, the old one destroyed, its storage given up, and its zones bound anew or its map unmapped (R571); its
protection is lifted where R156 holds (R198). -/
def State.eraseNs (s : State) (nsix action cmd : Nat) (n : Ns) : State :=
  let csn := s.jnl.csn
  let s := s.namespaceRecord nsix action n
  let s := s.clearNs nsix n
  let (s, k) := s.newMediaKey
  let s := s.destroyKey n.owner nsix cmd n.key
  let clean := match s.nsAt nsix with
    | some m => m.useClean
    | none => n.useClean
  let n := { n with bindCsn := csn, key := some k, hist := [], epochBytes := 0, useClean := clean }
  let s := s.putNs nsix n
  let s := if n.kind = .zoned then s.bindZones nsix csn n else s
  let s := match s.tenantDs n.owner with
    | some ds => if n.wp && s.backed ds (s.owed ds) then (s.setNs nsix fun n => { n with wp := false }).ewClear 0x09 (some ds) n.nsid 0 else s
    | none => s
  (if n.wp then s.nsChanged nsix else s).resnowTenant n.owner

/-- Remove a namespace: its keys destroyed, its blocks on the erase queue (R571). -/
def State.removeNs (s : State) (nsix cmd : Nat) (n : Ns) : State :=
  let s := s.journal n.owner s.jnl.csn (.namespaceRec nsix 4 n.kind.code n.lbaf n.nph n.nsze n.nsid)
  let s := (s.clearNs nsix n).destroyKey n.owner nsix cmd n.key
  let s := n.attached.foldl (fun s t => s.unflag t n.nsid) s
  let s := s.withZon { s.zon with ns := s.zon.ns.del nsix, zdt := s.zon.zdt.filter fun e => e.2.nsix != nsix }
  s.resnowTenant n.owner

/-- A namespace and its companion (R571). -/
def State.withCompanion (s : State) (nsix : Nat) (n : Ns) : List (Nat × Ns) :=
  (nsix, n) :: (match n.comp with
    | some k => match s.nsAt k with
      | some m => [(k, m)]
      | none => []
    | none => [])

/-- A controller is told that a namespace's attachment or attributes changed (R569). -/
def State.noteNs (s : State) (t nsid : Nat) : State :=
  let s := s.setFn t fun f => { f with changedNs := if f.changedNs.contains nsid then f.changedNs else f.changedNs ++ [nsid] }
  if (s.feature t 0x0B).testBit 8 then s.asyncEvent t 2 0x00 0x04 else s

def State.deleteNs (s : State) (nsix cmd : Nat) (n : Ns) : State :=
  let s := (s.withCompanion nsix n).foldl (fun s x => s.removeNs x.1 cmd x.2) s
  n.attached.foldl (fun s t => s.noteNs t n.nsid) s

/-! ### Create (R195, R570) -/

/-- The fields of the host-supplied data structure: NSZE, NCAP, FLBAS, DPS, and the vendor bytes 3,840 to 3,843. -/
structure NewNs where
  nsze : Nat
  ncap : Nat
  lbaf : Nat
  ext : Bool
  pit : Nat
  pil : Nat
  nph : Nat
  named : Option Nat
  deriving DecidableEq, Repr

def field (b : List Byte) (at_ n : Nat) : Nat := ofBytes ((b.drop at_).take n)

def NewNs.parse (b : List Byte) : NewNs :=
  let flbas := field b 26 1
  let dps := field b 29 1
  { nsze := field b 0 8, ncap := field b 8 8, lbaf := flbas % 16 + 16 * bits flbas 6 5, ext := flbas.testBit 4, pit := dps % 8
    pil := bits dps 3 3, nph := field b 3840 1, named := if (field b 3841 1).testBit 0 then some (field b 3842 2) else none }

/-- Namespaces that count toward the quotas (R195). -/
def State.countNs (s : State) : Nat := (s.zon.ns.filter fun e => e.2.kind != .companion).length

/-- A namespace as it is created. -/
def NewNs.ns (x : NewNs) (nsid owner : Nat) (kind : NsKind) (runs : List (Nat × Nat)) (handles : Nat) (comp : Option Nat) : Ns :=
  { nsid := nsid, owner := owner, kind := kind, lbaf := x.lbaf, pit := x.pit, ext := x.ext, nph := x.nph, nsze := x.nsze, runs := runs
    attached := [], wp := false, comp := comp, handles := handles, hist := [], epochBytes := 0, useHost := [], useReloc := [], useClean := []
    bindCsn := 0, key := none, kept := [], keptTotal := 0, keptHere := 0 }

/-- The companion of a namespace (R408, R411). -/
def companionNs (nsze owner : Nat) : Ns :=
  let x : NewNs := { nsze := companionSize nsze, ncap := 0, lbaf := 0, ext := false, pit := 0, pil := 0, nph := 0, named := none }
  x.ns 0 owner .companion [] (handlesFor (companionSize nsze) 0) none

/-- Does R156 hold with a proposed creation? -/
def State.roomFor (s : State) (ds owner zones handles : Nat) (zoned : Bool) : Bool :=
  s.backed ds (s.unboundZones ds + zones + s.owedSupers ds + handles + s.owedStaging ds (if zoned then [owner] else []))

/-- Add a new namespace under the lowest free NSIX, with its companion where it has one (R195, R411). -/
def State.addNew (s : State) (x : NewNs) (n : Ns) (comp : Nat) : State :=
  let nsix := s.freeNsix
  let s := s.addNs nsix n
  let s := if comp = 0 then s
    else
      let k := s.freeNsix
      (s.addNs k (companionNs x.nsze n.owner)).setNs nsix fun n => { n with comp := some k }
  s.resnowTenant n.owner

/-- The checks of a create in the order of R195, and its result. The issuer's scope comes first, the Command Set Identifier before condition 3, the
LBA format after it, and a free namespace index last (DESIGN CHOICE, log entry 147). -/
def State.create (s : State) (issuer csi : Nat) (b : List Byte) : Except Status (State × Nat) :=
  let x := NewNs.parse b
  let owner := x.named.getD issuer
  let zoned := csi == 2
  let comp := if x.lbaf = 3 then handlesFor (companionSize x.nsze) 0 else 0
  let handles := if zoned then 0 else handlesFor x.nsze x.nph
  if owner ≠ issuer ∧ !(governs issuer owner && (s.tsec owner).claimed) then .error .tenantScope
  else if min 16 (s.tsec owner).nsquota ≤ (s.owned owner).length ∨ 4096 ≤ s.countNs then .error .quotaExceeded
  else
    match s.tenantDs owner with
    | none => .error .dieSetTooSmall
    | some ds =>
      if s.dsSpan ds < 18 then .error .dieSetTooSmall
      else if csi ≠ 0 ∧ csi ≠ 2 then .error .invalidField
      else if x.ncap ≠ x.nsze ∨ (zoned = true ∧ (x.nsze % 262144 ≠ 0 ∨ x.nph ≠ 0)) ∨ (zoned = false ∧ (x.nsze % 256 ≠ 0 ∨ 16 < x.nph)) then
        .error .invalidField
      else if !formatOk x.lbaf x.pit x.pil then .error .invalidFormat
      else
        match (if zoned then s.runsFor (x.nsze / 262144) else some []) with
        | none => .error .nsInsufficientCapacity
        | some runs =>
          if 16384 < s.reservedHandles + handles + comp then .error .nsInsufficientCapacity
          else if !s.roomFor ds owner (x.nsze / 262144 * b2n zoned) (handles + comp) zoned then .error .nsInsufficientCapacity
          else if 4096 < s.zon.ns.length + 1 + (if comp = 0 then 0 else 1) then .error .nsIdUnavailable
          else
            .ok (s.addNew x (x.ns s.freeNsid owner (if zoned then .zoned else .placement) runs handles none) comp, s.freeNsid)

/-! ### The commands -/

/-- A transaction is open (R199, R661). -/
def State.txnIsOpen (s : State) : Bool := s.win.txn.state != 0

/-- May a tenant delete, format or sanitize another's namespaces (R535)? -/
def mayErase (t owner : Nat) : Bool := t == owner || governs t owner

/-- The namespaces that an erasing command names: one, or all that the issuer owns. -/
def State.targets (s : State) (t nsid : Nat) : Except Status (List (Nat × Ns)) :=
  if nsid = 0xFFFFFFFF then .ok (s.owned t)
  else
    match s.nsOf? nsid with
    | none => .error .invalidNsOrFormat
    | some x => if mayErase t x.2.owner then .ok [x] else .error .tenantScope

/-- A zone of a namespace is bound to a capture ring (R233). -/
def State.ringBound (s : State) (nsix : Nat) : Bool := s.zon.zdt.any fun e => e.2.nsix == nsix && e.2.ring.isSome

/-- Some I/O command of the namespaces that a command erases is still in flight (R104). -/
def State.eraseWaits (s : State) (c : Cmd) : Bool :=
  s.host.cmds.any fun x => ioCmd x.ref.qid x.sqe.opc && (match s.nsAt x.nsix with
    | some n => erases c.sqe c.ref.fn n
    | none => false)

/-- Enough CSNs for a command that draws some for every namespace; and no DRAM channel has granted an entry, which a namespace would have made
it refuse (R641). -/
def State.manyCsns (s : State) : Bool := s.csnReady 8192 && !(List.range 4).any fun c => s.granted (92 + c)

/-- NAMESPACE_MANAGEMENT: SEL 0 creates, SEL 1 deletes (R195, R570, R571). -/
def State.planNamespace (s : State) (c : Cmd) : Except Status (State × Nat) :=
  if s.txnIsOpen then .error .txnOpen
  else if c.sqe.cdw10 % 16 = 0 then s.create c.ref.fn (bits c.sqe.cdw11 31 24) c.sqe.data
  else if c.sqe.cdw10 % 16 = 1 then
    match s.targets c.ref.fn c.sqe.nsid with
    | .error st => .error st
    | .ok ns =>
      if ns.any fun x => s.ringBound x.1 then .error .zoneCaptureBound
      else .ok (ns.foldl (fun s x => s.deleteNs x.1 0x0D x.2) s, 0)
  else .error .invalidField

def execNamespaceManagement (r : CmdRef) (s : State) : Outcome :=
  if s.manyCsns then s.runStored r 0x0D (fun c => c.sqe.cdw10 % 16 == 1 && s.eraseWaits c) s.planNamespace else .next s

/-- The controller list of Namespace Attachment: a count, then identifiers. -/
def controllerList (b : List Byte) : List Nat := ((List.range (min 2047 (field b 0 2))).map fun i => field b (2 + 2 * i) 2).dedup

/-- The first failing status of an attachment, controller by controller (R534, R535, R568). -/
def State.attachStatus (s : State) (t : Nat) (n : Ns) (detach : Bool) (ids : List Nat) : Status :=
  if ids.isEmpty || ids.any fun i => 1024 ≤ i then .controllerListInvalid
  else if detach then
    (if !mayErase t n.owner then .tenantScope else if ids.all n.attachedTo then .success else .nsNotAttached)
  else if t ≠ n.owner then (if t < 2 ∧ ids.contains t then .plaintextDenied else .tenantScope)
  else
    let bad := ids.filter fun i => i != n.owner && s.partnerOf n.owner != some i
    match bad with
    | i :: _ => if i < 2 then .plaintextDenied else .tenantScope
    | [] => if ids.any n.attachedTo then .nsAlreadyAttached else .success

def State.attach (s : State) (nsix t : Nat) : State :=
  match s.nsAt nsix with
  | none => s
  | some n => ((s.setNs nsix fun n => { n with attached := n.attached ++ [t] }).addKept nsix t).noteNs t n.nsid

def State.detach (s : State) (nsix t : Nat) : State :=
  match s.nsAt nsix with
  | none => s
  | some n => ((s.setNs nsix fun n => { n with attached := n.attached.filter fun x => x != t }).unflag t n.nsid).noteNs t n.nsid

/-- NAMESPACE_ATTACHMENT: SEL 0 attaches, SEL 1 detaches; not while a configuration transaction is open (R132, R199). -/
def execNamespaceAttachment (r : CmdRef) (s : State) : Outcome :=
  s.runReady r true 0x15 fun c =>
    let sel := c.sqe.cdw10 % 16
    let ids := controllerList c.sqe.data
    if s.txnIsOpen then s.complete c .txnOpen
    else match s.nsOf? c.sqe.nsid with
    | none => s.complete c .invalidNsOrFormat
    | some (k, n) =>
      if 1 < sel then s.complete c .invalidField
      else
        match s.attachStatus r.fn n (sel == 1) ids with
        | .success => (ids.foldl (fun s t => if sel = 0 then s.attach k t else s.detach k t) s).complete c .success
        | st => s.complete c st

/-- Erase the content of a namespace and of its companion for a new format; the companion comes or goes with LBAF 3 (R408, R411). -/
def State.eraseFor (s : State) (nsix lbaf : Nat) (old : List (Nat × Ns)) (n : Ns) : State :=
  let s := s.eraseNs nsix 2 0x80 n
  match old with
  | [] =>
    if lbaf ≠ 3 then s
    else
      let k := s.freeNsix
      (s.addNs k (companionNs n.nsze n.owner)).setNs nsix fun n => { n with comp := some k }
  | _ => old.foldl (fun s x => if lbaf = 3 then s.eraseNs x.1 2 0x80 x.2 else s.removeNs x.1 0x80 x.2) s

/-- The new format of a namespace; none where a companion cannot be reserved (R411). -/
def State.reformat (s : State) (nsix lbaf pit : Nat) (ext : Bool) (n : Ns) : Option State :=
  let old := (s.withCompanion nsix n).drop 1
  let now := if lbaf = 3 then handlesFor (companionSize n.nsze) 0 else 0
  let was := (old.map fun x => x.2.handles).sum
  let room := match s.tenantDs n.owner with
    | some ds => s.roomFor ds n.owner 0 now false
    | none => false
  if 16384 < s.reservedHandles + now - was ∨ (was < now ∧ room = false) ∨ (old.isEmpty = true ∧ lbaf = 3 ∧ 4096 ≤ s.zon.ns.length) then none
  else some (s.eraseFor nsix lbaf old { n with lbaf := lbaf, pit := pit, ext := ext, comp := if lbaf = 3 then n.comp else none })

/-- FORMAT_NVM, whatever its SES (R571). -/
def State.planFormat (s : State) (c : Cmd) : Except Status (State × Nat) :=
  let lbaf := c.sqe.cdw10 % 16 + 16 * bits c.sqe.cdw10 13 12
  let pit := bits c.sqe.cdw10 7 5
  if s.txnIsOpen then .error .txnOpen
  else if 2 < bits c.sqe.cdw10 11 9 then .error .invalidField
  else if !formatOk lbaf pit (bits c.sqe.cdw10 8 8) then .error .invalidFormat
  else
    match s.targets c.ref.fn c.sqe.nsid with
    | .error st => .error st
    | .ok ns =>
      if ns.any fun x => s.ringBound x.1 then .error .zoneCaptureBound
      else
        match ns.foldl (fun (a : Option State) x => a.bind fun s => s.reformat x.1 lbaf pit (c.sqe.cdw10.testBit 4) x.2) (some s) with
        | some t => .ok (t, 0)
        | none => .error .nsInsufficientCapacity

def execFormatNvm (r : CmdRef) (s : State) : Outcome :=
  if s.manyCsns then s.runStored r 0x80 s.eraseWaits s.planFormat else .next s

/-! ### Sanitize (R571, R572) -/

/-- The namespaces that a sanitize covers: a VF's own; a physical function's own and those of every tenant it governs. -/
def State.sanitized (s : State) (t : Nat) : List (Nat × Ns) :=
  (s.zon.ns.filter fun e => mayErase t e.2.owner && e.2.kind != .companion).map fun e => (e.1, e.2)

/-- Is the block erase of a function still in progress: does a block of it wait for its erase, or have it? -/
def State.sanitizing (s : State) (t : Nat) : Bool :=
  (s.fn t).sanState == 2 && (s.fn t).sanBlocks.any fun k => (s.blk (k / 8192) (k % 8192)).st == .eraseQueue || (s.blk (k / 8192) (k % 8192)).st == .erasing

/-- The blocks that a step has sent to the erase queue. -/
def newErases (s t : State) : List Nat := (t.med.erq.filter fun x => !s.med.erq.contains x).map fun x => blkKey x.1 x.2

def State.runSanitize (s : State) (c : Cmd) : State :=
  let ns := (s.sanitized c.ref.fn).flatMap fun x => s.withCompanion x.1 x.2
  let t := ns.foldl (fun s x => s.eraseNs x.1 3 0x84 x.2) s
  t.setFn c.ref.fn fun f => { f with sanState := 2, sanCdw10 := c.sqe.cdw10, sanBlocks := if c.sqe.cdw10 % 8 = 2 then newErases s t else [] }

/-- SANITIZE: crypto erase and block erase; a block erase completes once every block that held covered data is erased. -/
def execSanitize (r : CmdRef) (s : State) : Outcome :=
  match s.cmd? r with
  | none => .next s
  | some c =>
    let act := c.sqe.cdw10 % 8
    if c.sqe.opc = 0x84 ∧ c.ref.qid = 0 ∧ s.cqRoom r = true ∧ s.manyCsns = true then
      match c.phase with
      | .ready =>
        if s.txnIsOpen then .next (s.complete c .txnOpen)
        else if act = 1 then .next (s.complete c .success)
        else if act ≠ 2 ∧ act ≠ 4 then .next (s.complete c .invalidField)
        else if s.sanitizing r.fn then .next (s.complete c .sanitizeInProgress)
        else if (s.sanitized r.fn).any fun x => s.ringBound x.1 then .next (s.complete c .zoneCaptureBound)
        else .next (s.setCmd r fun c => { c with phase := .background }).storeWrite
      | .background =>
        if s.eraseWaits c || 0 < s.sec.writes then .next s
        else if (s.sanitized r.fn).any fun x => s.ringBound x.1 then .next (s.complete c .zoneCaptureBound)
        else
          let s := s.runSanitize c
          .next (s.setCmd r fun c => { c with phase := .sealing })
      | .sealing =>
        if s.sanitizing r.fn then .next s
        else .next ((s.setFn r.fn fun f => { f with sanState := 1, sanBlocks := [] }).complete c .success)
      | _ => .next s
    else .next s

end Sys2Proof.Machine
end

