-- ==== Sys2Proof/Machine/LogPages.lean ====
section
/-!
DEFINITION. The log pages of Get Log Page (R91, R125, R126, R129, R194, R440, R441, R526, R527, R530, R662, R674, R675, R703), with the
command GET_LOG_PAGE. Where the spec names a page and leaves its layout to the NVMe standards, the layout is theirs (PRESUMED).
-/

namespace Sys2Proof.Machine

/-! ### Laying out bytes -/

/-- Fields one after another: (width in bytes, value). -/
def layRow (l : List (Nat × Nat)) : List Byte := l.flatMap fun x => toBytes x.1 x.2

/-- Fields at rising offsets in a structure of a given size, with zeros between: (offset, width, value). -/
def layAt : Nat → List (Nat × Nat × Nat) → Nat → List Byte
  | pos, [], size => List.replicate (size - pos) 0
  | pos, (o, w, v) :: rest, size => List.replicate (o - pos) 0 ++ toBytes w v ++ layAt (o + w) rest size

/-- The ESN of a record, by its tag. One that the fabric has not numbered yet has none: a free value. -/
def State.esnOf (s : State) (tag : Nat) : Nat := s.ev.esns.getD tag (Config.freeNat tag % 2 ^ 48)

/-- The header of the Deferred Error log and the logs like it (R125). -/
def logHeader (total present : Nat) (overflow : Bool) : List Byte := layAt 0 [(0, 8, total), (8, 4, present), (12, 1, b2n overflow)] 64

/-! ### Scopes of health (R525) -/

/-- What a health page covers: the device, a tenant, or a namespace. -/
inductive Scope where
  | device
  | tenant (t : Nat)
  | ns (nsix : Nat) (n : Ns)
  deriving DecidableEq, Repr

/-- The key of a scope's counters. -/
def Scope.key : Scope → Nat
  | .device => 2048
  | .tenant t => t
  | .ns nsix _ => 4096 + nsix

def assignedSets (s : State) : List Nat := ((List.range 1024).filterMap s.tenantDs).dedup

/-- The die sets of a scope: all that tenants are assigned, or one. -/
def State.scopeSets (s : State) : Scope → List Nat
  | .device => assignedSets s
  | .tenant t => (s.tenantDs t).toList
  | .ns _ n => (s.tenantDs n.owner).toList

/-- The dies of a scope. -/
def State.scopeDies (s : State) : Scope → List Nat
  | .device => s.lnk.temps.map (·.1)
  | x => (s.scopeSets x).flatMap s.dsDies

def State.healthCount (s : State) (x : Scope) (i : Nat) : Nat := s.med.hc.getD (hcKey x.key i) 0

/-- Blocks retired since manufacture in a scope: those of its die sets, or the device's. -/
def State.retiredIn (s : State) (x : Scope) : Nat := match x with
  | .device => s.healthCount x 9
  | _ => ((s.scopeSets x).map fun ds => s.med.hc.getD (hcKey (3072 + ds) 9) 0).sum

/-- Available spare and percentage used of a scope (R524). -/
def State.scopeSpare (s : State) (x : Scope) : Nat := ((s.scopeSets x).map s.spareOf).foldl min 100
def State.scopeUsed (s : State) (x : Scope) : Nat := ((s.scopeSets x).map s.usedOf).foldl max 0

/-- Does a scope cover a set of a tenant and namespace? -/
def Scope.covers (x : Scope) (tenant nsix : Nat) : Bool := match x with
  | .device => true
  | .tenant t => tenant == t
  | .ns k _ => nsix == k

/-- A lost stripe has been recorded in scope since manufacture, or a rebuild is blocked in scope now. -/
def State.lostInScope (s : State) (x : Scope) : Bool :=
  (match x with
    | .device => 0 < s.str.lostTotal
    | .tenant t => 0 < s.str.lostByTenant.getD t 0
    | .ns _ _ => 0 < s.healthCount x 5) ||
  s.str.blocked.any fun k => match s.set? (k / 32) with
    | some r => x.covers r.tenant r.nsix
    | none => false

def State.protectedInScope (s : State) (x : Scope) : Bool := s.zon.ns.any fun e => e.2.wp && x.covers e.2.owner e.1

/-- A temperature in units of 0.125 °C as kelvins, rounded down. -/
def kelvin8 (t : Int) : Nat := (t / 8 + 273).toNat

/-- Kelvins of the hottest die in scope; 0 where none has reported. -/
def State.scopeKelvin (s : State) (x : Scope) : Nat := match s.hottest (s.scopeDies x) with
  | some t => kelvin8 t
  | none => 0

def State.junctionKelvin (s : State) : Nat := (s.brd.temp + 273).toNat

def State.composite (s : State) (x : Scope) : Nat := match x with
  | .device => max (s.scopeKelvin x) s.junctionKelvin
  | _ => s.scopeKelvin x

/-- WCTEMP and CCTEMP in kelvins (R86). -/
def State.wctemp (s : State) : Nat := if s.sec.gradeX then 383 else 373
def State.cctemp (s : State) : Nat := if s.sec.gradeX then 388 else 378

/-- Critical Warning (R526); bit 1, against a function's over temperature threshold, is the standard's. -/
def State.critWarn (s : State) (t : Nat) (x : Scope) : Nat :=
  let tmpth := (s.fn t).feat.getD 0x04 s.wctemp % 65536
  b2n (decide (s.scopeSpare x < s.fld F.ZON_WARN_SPAREW)) + 2 * b2n (tmpth != 0 && decide (tmpth ≤ s.composite x)) + 4 * b2n (s.lostInScope x) +
    8 * b2n (s.protectedInScope x) + 16 * b2n s.hld.wt

/-! ### Pages -/

/-- Error Information: 256 entries of 64 bytes, newest first. The fields that the machine does not keep are free. -/
def State.logError (s : State) (t : Nat) : List Byte :=
  let f := s.fn t
  padTo 16384 (f.errs.zipIdx.flatMap fun x =>
    layAt 0 [(0, 8, f.errCount - x.2), (8, 2, x.1.1), (10, 2, x.1.2.1), (12, 2, 2 * x.1.2.2.field), (14, 2, 0xFFFF),
      (16, 8, Config.freeNat (s.free + x.2)), (24, 4, Config.freeNat (s.free + 256 + x.2))] 64)

/-- SMART / Health Information (R526). Counts that the spec gives no rule for are free. -/
def State.logSmart (s : State) (t : Nat) (x : Scope) : List Byte :=
  let other (k : Nat) : Nat × Nat × Nat := (k, 16, Config.freeNat (s.free + k) % 2 ^ 64)
  layAt 0 ([(0, 1, s.critWarn t x), (1, 2, s.composite x), (3, 1, s.scopeSpare x), (4, 1, s.fld F.ZON_WARN_SPAREW), (5, 1, s.scopeUsed x)]
    ++ ([32, 48, 64, 80, 96, 112, 128, 144].map other)
    ++ [(160, 16, s.healthCount x 2 + s.healthCount x 10), (176, 16, (s.fn t).errCount), (192, 4, Config.freeNat (s.free + 192)),
        (196, 4, Config.freeNat (s.free + 196)), (200, 2, s.junctionKelvin), (202, 2, s.scopeKelvin x)]) 512

/-- Firmware Slot Information: the running slot, the one a pending boot record names, and the builds in the slots. -/
def State.logFirmware (s : State) : List Byte :=
  let next := match s.bootRec with
    | some r => if r.trial = 1 then r.pref else 0
    | none => 0
  let build (k : Nat) : Nat := match s.checkSlot k with
    | .ok i => i.build
    | .below i => i.build
    | .invalid => 0
  layAt 0 [(0, 1, s.boot.run + 16 * next), (8, 8, build 1), (16, 8, build 2)] 512

/-- Changed Namespace List: NSIDs in rising order. -/
def State.logChangedNs (s : State) (t : Nat) : List Byte := padTo 4096 (layRow (((s.fn t).changedNs.mergeSort fun a b => a ≤ b).map fun n => (4, n)))

/-- The admin commands of R89: (opcode, virtual functions too). -/
def adminCommands : List (Nat × Bool) :=
  [(0x00, true), (0x01, true), (0x02, true), (0x04, true), (0x05, true), (0x06, true), (0x08, true), (0x09, true), (0x0A, true), (0x0C, true),
   (0x0D, true), (0x10, false), (0x11, false), (0x14, true), (0x15, true), (0x19, true), (0x1A, true), (0x1C, false), (0x1D, false),
   (0x1E, false), (0x80, true), (0x81, true), (0x82, true), (0x84, true), (0x86, true), (0xC4, true), (0xC5, true), (0xC6, true), (0xC7, true)]

/-- The I/O commands of R90. -/
def ioCommands : List Nat := [0x00, 0x01, 0x02, 0x04, 0x05, 0x08, 0x09, 0x0C, 0x79, 0x7A, 0x7D]

/-- Commands Supported and Effects: bit 0 for a supported command; its other bits are free. -/
def State.logEffects (_s : State) (t : Nat) : List Byte :=
  let entry (sup : Bool) (k : Nat) : Nat × Nat := (4, if sup then 1 + 2 * (Config.commandEffects k % 2 ^ 31) else 0)
  padTo 4096 (layRow (((List.range 256).map fun k => entry (adminCommands.any fun x => x.1 == k && (x.2 || !isVf t)) k)
    ++ (List.range 256).map fun k => entry (ioCommands.contains k) (256 + k)))

/-- Device Self-test: the running test, its progress in 4-page groups (R480), and the newest result. -/
def State.logSelfTest (s : State) (t : Nat) : List Byte :=
  let f := s.fn t
  let pct := if f.dst = 0 ∨ f.dstTotal = 0 then 0 else 100 * f.dstDone / f.dstTotal
  layAt 0 ((0, 1, f.dst) :: (1, 1, pct) :: (4, 1, if f.dstResult = 0 then 0x0F else f.dstResult) ::
    (List.range 19).map fun i => (32 + 28 * i, 1, 0x0F)) 564

/-- Sanitize Status (R572): progress of a block erase by blocks. -/
def State.logSanitize (s : State) (t : Nat) : List Byte :=
  let f := s.fn t
  let busy := s.sanitizing t
  let left := f.sanBlocks.countP fun k => (s.blk (k / 8192) (k % 8192)).st == .eraseQueue || (s.blk (k / 8192) (k % 8192)).st == .erasing
  let prog := if busy then min 65534 (65536 * (f.sanBlocks.length - left) / f.sanBlocks.length) else 65535
  let st := if busy then 2 else if f.sanState = 2 then 1 else f.sanState
  layAt 0 ([(0, 2, prog), (2, 2, st), (4, 4, f.sanCdw10)] ++ (List.range 6).map fun i => (8 + 4 * i, 4, 0xFFFFFFFF)) 512

/-- Changed Zone List of a namespace: a count, or 0xFFFF where it does not fit. -/
def State.logChangedZones (s : State) (t nsid : Nat) : List Byte :=
  let l := (((s.fn t).changedZones.filter fun z => z.1 == nsid).map (·.2)).dedup.mergeSort fun a b => a ≤ b
  padTo 4096 (if 511 < l.length then layRow [(2, 0xFFFF)] else layRow ([(2, l.length), (6, 0)] ++ l.map fun z => (8, z)))

/-- An entry of the Deferred Error log (R126). -/
def State.deferBytes (s : State) (e : DefEntry) : List Byte :=
  layAt 0 [(0, 8, s.esnOf e.tag), (8, 4, e.nsid), (12, 1, e.reason), (14, 2, e.sqid), (16, 2, e.cid), (18, 2, e.ring), (20, 4, e.blocks),
    (24, 8, e.lba), (32, 8, e.csn), (40, 8, e.time), (48, 4, e.lost)] 64

def State.logDeferred (s : State) (t : Nat) : List Byte :=
  let l := (s.fn t).defl
  logHeader l.total l.entries.length l.overflow ++ l.entries.flatMap s.deferBytes

/-- Spare row slots of the bound zone sets in scope (R153): the rows of each member beyond ZCAP / 16. -/
def State.spareRows (s : State) (x : Scope) : Nat :=
  (s.zon.zdt.filter fun e => e.2.bound && x.covers ((s.nsAt e.2.nsix).map (·.owner) |>.getD 1024) e.2.nsix).foldl (fun n e =>
    match s.set? e.1 with
    | some r => n + (r.members.map fun b => s.blkUnits b.1 b.2 - e.2.zcap / 16).sum
    | none => n) 0

/-- A signed number of 16 bits. -/
def int16 (t : Int) : Nat := (t % 65536).toNat

/-- Extended Health (R527). At device scope the blocks are those of every assigned die set; an entry of the Lost Stripe List counts by the
total made. -/
def State.logHealth (s : State) (x : Scope) : List Byte :=
  let sets := s.scopeSets x
  let dies := sets.flatMap s.dsDies
  let pec := s.pecOf dies
  let inScope (d : Nat) : Bool := x == .device || dies.contains d
  let count (p : SDie → Bool) : Nat := (s.sch.dies.filter fun e => inScope e.1 && p e.2).length
  let hist (b : Nat) : Nat × Nat × Nat := (128 + 8 * b, 8, s.med.hist.getD ((match x with
    | .ns _ n => n.owner
    | x => x.key) * 16 + b) 0)
  let tk := match x with
    | .ns _ n => n.owner
    | x => x.key
  let lo := s.med.tlow.getD tk (0, 0)
  let hi := s.med.thigh.getD tk (0, 0)
  layAt 0 ([(0, 8, (sets.map s.dsGood).sum), (8, 8, (sets.map s.dsFree).sum), (16, 8, s.retiredIn x), (24, 8, s.spareRows x),
      (32, 2, if pec.2.2.2 = 0 then 0 else pec.1), (34, 2, if pec.2.2.2 = 0 then 0 else pec.2.1 / pec.2.2.2), (36, 2, pec.2.2.1),
      (38, 2, s.ratedPec dies), (40, 1, s.scopeSpare x), (41, 1, s.scopeUsed x), (42, 2, count fun d => d.benched), (44, 2, count fun d => d.held),
      (46, 2, count fun d => d.failed), (48, 8, s.healthCount x 0), (56, 8, s.healthCount x 1), (64, 8, s.healthCount x 2),
      (72, 8, s.healthCount x 3), (80, 8, s.healthCount x 4), (88, 8, s.healthCount x 5), (96, 8, s.healthCount x 6),
      (104, 8, s.healthCount x 7), (112, 8, s.healthCount x 8)] ++ (List.range 16).map hist ++
    [(256, 2, int16 lo.1), (258, 2, int16 hi.1), (264, 8, lo.2), (272, 8, hi.2)]) 512

/-- The entries of the Lost Stripe List that a function sees (R440). -/
def State.lostSeen (s : State) (t : Nat) : List LostRec := if isVf t then s.str.lost.filter fun e => e.tenant == t else s.str.lost

def State.lostBytes (s : State) (e : LostRec) : List Byte :=
  layAt 0 [(0, 4, e.index), (4, 2, e.tenant), (6, 1, e.cause), (7, 1, e.kind), (8, 8, e.stripe), (16, 3, e.members), (20, 2, e.positions),
    (24, 4, e.nsid), (28, 8, e.lba.getD (2 ^ 64 - 1)), (36, 8, e.lo), (44, 8, s.esnOf e.tag), (52, 8, e.time)] 64

def State.logLost (s : State) (t : Nat) : List Byte :=
  let l := s.lostSeen t
  let total := if isVf t then s.str.lostByTenant.getD t 0 else s.str.lostTotal
  logHeader total l.length (if isVf t then s.str.lostOvTenants.contains t else s.str.lostOverflow) ++ l.flatMap s.lostBytes

/-- Conditions of R529 that are active: bit c − 1 for code c. -/
def State.conditions (s : State) : Nat := s.med.active.foldl (fun m k => m ||| 2 ^ (k / 1024 - 1)) 0

def State.logWarnings (s : State) : List Byte :=
  layAt 0 [(0, 8, s.med.ewTotal), (8, 4, s.med.ewLog.length), (12, 1, b2n s.med.ewOverflow), (16, 4, s.conditions)] 64 ++
    s.med.ewLog.flatMap fun e => layAt 0 [(0, 8, s.esnOf e.tag), (8, 1, e.code), (9, 1, b2n e.raised), (10, 2, e.ds), (12, 4, e.value),
      (16, 4, e.threshold), (20, 8, e.time)] 32

/-- Placement Usage (R194). -/
def State.logPlacement (s : State) (nsix : Nat) (n : Ns) : List Byte :=
  let name (g : Nat) : Nat := if g < n.nph then g else if g < n.nph + 4 then 0x0100 + (g - n.nph) else 0x0200
  let entry (g : Nat) : List Byte :=
    let hs := s.zon.sb.filter fun b => b.2.nsix == nsix && b.2.group == g && (match s.set? (placementSet b.1) with
      | some r => !r.dead
      | none => false)
    layAt 0 [(0, 2, name g), (8, 4, hs.length), (12, 8, n.useHost.getD g 0), (20, 8, n.useReloc.getD g 0),
      (28, 8, (hs.map fun b => s.validUnits b.1).sum), (36, 8, n.useClean.getD g 0)] 64
  layAt 0 [(0, 4, n.nsid), (4, 2, n.nph)] 64 ++ (List.range (n.nph + 5)).flatMap entry

/-- An event record's 32 bytes (R662). -/
def EvOut.bytes (e : EvOut) : List Byte := layRow [(6, e.esn), (2, e.code * 2 ^ 13 + e.sev * 2 ^ 10 + e.src), (8, e.time), (16, e.pay)]

def State.logEvents (s : State) (t : Nat) : List Byte :=
  let l := s.ev.logs.getD t TenantLog.empty
  logHeader l.total l.entries.length l.overflow ++ l.entries.flatMap EvOut.bytes

/-! ### Table Read (R703) -/

def ZState.zs (z : ZState) : Nat := z.code

/-- An entry of the Zone Descriptor Table (R178). -/
def State.zoneBytes (s : State) (e : Nat) : List Byte :=
  match s.zone? e with
  | none => List.replicate 128 0
  | some z =>
    let r := s.set? e
    let benched := match r with
      | some r => r.members.any fun b => (s.sdie b.1).benched
      | none => false
    layAt 0 ([(0, 4, z.zs.zs * 2 ^ 28 + b2n z.bound * 2 ^ 27 + b2n z.ring.isSome * 2 ^ 26 + z.ring.getD 0 * 2 ^ 20 + b2n benched * 2 ^ 19 + z.nsix),
        (4, 4, z.wpoff), (8, 4, z.zcap), (16, 8, z.bindCsn), (24, 8, z.lastCsn)] ++
      ((List.range 18).map fun m => (32 + 3 * m, 3, match r with
        | some r => (nth r.members m (0, 0)).1 * 2 ^ 13 + (nth r.members m (0, 0)).2
        | none => 0)) ++
      [(88, 4, (r.map (·.mlost)).getD 0), (92, 4, (r.map (·.mrebuild)).getD 0)]) 128

def BlkState.code : BlkState → Nat
  | .free => 0 | .bound => 1 | .eraseQueue => 2 | .erasing => 3 | .retired => 4 | .factoryBad => 5 | .system => 6

/-- An entry of the Block Information Table (R490). -/
def Blk.bytes (b : Blk) : List Byte :=
  layRow [(2, b.pec), (1, b.st.code * 16 + b2n b.pin * 8 + b2n b.refresh * 4 + b2n b.rpt * 2), (1, b.wbin * 32 + b.member), (3, b.setid), (1, b.rcause),
    (4, b.closeh), (2, sat 16 (b.rdc / 1024)), (2, 0)]

/-- A band entry (R376). -/
def Band.bytes (b : Band) : List Byte :=
  let body := layRow ((b.off.map fun o => (1, int8 o)) ++ [(1, 0), (1, b.gain), (1, int8 b.soffs),
    (1, b2n b.valid + 2 * b2n b.inherited + 4 * b2n b.recal), (1, 0), (4, b.errs), (4, b.calhr)])
  body ++ toBytes 4 (crc32cBytes body)

/-- The table that the low LSP bits select, by entries: entry size, entry. The values are numbered in the order that R703 names the tables
in (DEDUCED); the layouts of the superblock table and of EH_d are not given, and their bytes are free. -/
def State.tableEntry (s : State) (sel nsid link : Nat) : Option (Nat × (Nat → List Byte)) :=
  if sel = 0 then some (128, s.zoneBytes)
  else if sel = 1 then some (16, fun i => (s.blk (i / 8192) (i % 8192)).bytes)
  else if sel = 2 then
    match s.nsOf? nsid with
    | some (k, _) => some (4, fun i => toBytes 4 (s.zon.map.getD (lbaKey k i) 0xFFFFFFFF))
    | none => none
  else if sel = 3 then some (1, fun i => toBytes 1 (Config.freeNat (s.free + i)))
  else if sel = 4 then some (32, fun i => (s.ddk.bands.getD (link * 64 * 512 + i) Band.invalid).bytes)
  else if sel = 5 then some (1, fun i => toBytes 1 (Config.freeNat (s.free + i)))
  else none

/-- Bytes of a table from an offset. -/
def tableBytes (size : Nat) (entry : Nat → List Byte) (off len : Nat) : List Byte :=
  let first := off / size
  let n := (off + len + size - 1) / size - first
  (((List.range n).flatMap fun i => entry (first + i)).drop (off % size)).take len

/-! ### Get Log Page -/

/-- The scope of a health page (R525): a namespace that the function may name, or the controller's. -/
def State.healthScope (s : State) (t nsid : Nat) : Option Scope :=
  if nsid = 0 ∨ nsid = 0xFFFFFFFF then some (if isVf t then .tenant t else .device)
  else
    match s.nsOf? nsid with
    | some x => if x.2.attachedTo t || x.2.owner == t then some (.ns x.1 x.2) else none
    | none => none

/-- A log page's bytes, or why there is none. -/
def State.logPage (s : State) (t : Nat) (e : Sqe) : Except Status (List Byte) :=
  let health (f : Scope → List Byte) : Except Status (List Byte) := match s.healthScope t e.nsid with
    | some x => .ok (f x)
    | none => .error .invalidNsOrFormat
  match e.lid with
  | 0x01 => .ok (s.logError t)
  | 0x02 => health (s.logSmart t)
  | 0x03 => .ok s.logFirmware
  | 0x04 => .ok (s.logChangedNs t)
  | 0x05 => .ok (s.logEffects t)
  | 0x06 => .ok (s.logSelfTest t)
  | 0x81 => .ok (s.logSanitize t)
  | 0xBF => match s.healthScope t e.nsid with
    | some (.ns _ n) => .ok (s.logChangedZones t n.nsid)
    | _ => .error .invalidNsOrFormat
  | 0xC0 => .ok (s.logDeferred t)
  | 0xC1 => health s.logHealth
  | 0xC2 => .ok (s.logLost t)
  | 0xC3 => if isVf t then .error .invalidLogPage else .ok s.logWarnings
  | 0xC4 => match s.healthScope t e.nsid with
    | some (.ns k n) => if n.kind = .placement then .ok (s.logPlacement k n) else .error .invalidField
    | _ => .error .invalidNsOrFormat
  | 0xC5 => .ok (s.logEvents t)
  | _ => .error .invalidLogPage

/-- The entries that a read of some bytes returns whole: the first, and how many. -/
def wholeEntries (size off len : Nat) : Nat × Nat :=
  let first := ceilDiv (off - 64) size
  (first, if off + len < 64 then 0 else (off + len - 64) / size - first)

def dropEntries {α : Type} (l : List α) (x : Nat × Nat) : List α := l.take x.1 ++ l.drop (x.1 + x.2)

/-- What reading a log changes: LSP bit 0 removes the entries that the transfer returned and clears the overflow bit (R129, R441, R530,
R674), change lists start anew, and the log may be announced again (R675). -/
def State.afterLog (s : State) (t : Nat) (e : Sqe) : State :=
  let rm := e.lsp.testBit 0
  let cut (size : Nat) : Nat × Nat := wholeEntries size e.lpo e.logLen
  let s := match e.lid with
    | 0x04 => if e.rae then s else s.setFn t fun f => { f with changedNs := [] }
    | 0xBF => if e.rae then s else s.setFn t fun f => { f with changedZones := f.changedZones.filter fun z => z.1 != e.nsid }
    | 0xC0 => if rm then s.setFn t fun f => { f with defl := { f.defl with entries := dropEntries f.defl.entries (cut 64), overflow := false } } else s
    | 0xC2 =>
      if rm && !isVf t then
        s.withStr { s.str with lost := dropEntries s.str.lost (cut 64), lostOverflow := false, lostOvTenants := [] }
      else s
    | 0xC3 => if rm then s.withMed { s.med with ewLog := dropEntries s.med.ewLog (cut 32), ewOverflow := false } else s
    | 0xC5 =>
      let l := s.ev.logs.getD t TenantLog.empty
      let l := if rm then { l with entries := dropEntries l.entries (cut 32), overflow := false } else l
      s.withEv { s.ev with logs := s.ev.logs.ins t { l with posted := false } }
    | _ => s
  if e.rae then s else s.setFn t fun f => { f with aevMasked := f.aevMasked.filter fun l => l != e.lid }

/-- Table Read: raises the debug event at the first use of the route in a power cycle (R703). -/
def State.tableRead (s : State) (c : Cmd) : State :=
  let e := c.sqe
  if isVf c.ref.fn then s.complete c .invalidLogPage
  else
    match s.tableEntry (e.lsp % 16) e.nsid (bits e.lpo 11 8) with
    | none => s.complete c .invalidField
    | some (size, entry) =>
      let s := if s.brd.dbg1 then s else (s.withBrd { s.brd with dbg1 := true }).raise 0x007 0 1 [(1, 1)]
      s.completeBytes c (tableBytes size entry (if e.lsp % 16 = 4 then e.lpo - bits e.lpo 11 8 * 256 else e.lpo) e.logLen)

/-- The greatest transfer of a command: MDTS (R86). -/
def maxTransfer : Nat := 2097152

/-- GET_LOG_PAGE. An offset beyond a page's bytes fails with Invalid Field, beyond the entries present of page 0xC0 too (R125; DESIGN CHOICE, log
entry 171). -/
def execGetLogPage (r : CmdRef) (s : State) : Outcome :=
  s.runReady r true 0x02 fun c =>
    let e := c.sqe
    if maxTransfer < e.logLen ∨ e.lpo % 4 ≠ 0 then s.complete c .invalidField
    else if e.lid = 0xC6 then s.tableRead c
    else
      match s.logPage c.ref.fn e with
      | .error st => s.complete c st
      | .ok b =>
        if b.length < e.lpo then s.complete c .invalidField
        else ((s.afterLog c.ref.fn e).completeBytes c (padTo e.logLen (b.drop e.lpo))).drew

end Sys2Proof.Machine
end

