-- ==== Sys2Proof/Machine/Queues.lean ====
section
/-!
DEFINITION. The admin commands on queues and on queue resources (R76 to R84 of spec/02_host_port.md): CREATE_IO_SUBMISSION_QUEUE,
DELETE_IO_SUBMISSION_QUEUE, CREATE_IO_COMPLETION_QUEUE, DELETE_IO_COMPLETION_QUEUE and VIRTUALIZATION_MANAGEMENT; and
ASYNCHRONOUS_EVENT_REQUEST.
-/

namespace Sys2Proof.Machine

/-- I/O queue pairs that a physical function holds of its own, and I/O vectors (R76). -/
def pfPrivate : Nat := 64

/-- I/O queue pairs assigned to a function, and I/O vectors (R76, R79). -/
def State.ioQueues (s : State) (t : Nat) : Nat := (if isVf t then 0 else pfPrivate) + (s.fn t).vq
def State.ioVectors (s : State) (t : Nat) : Nat := (if isVf t then 0 else pfPrivate) + (s.fn t).vi

/-- The greatest numbers that a function may hold (R79). -/
def maxQueues : Nat := 4096
def maxVectors : Nat := 2047

/-- Is a queue size, as 0's based value, 2 to 4,096 entries (R84)? -/
def queueSizeOk (n : Nat) : Bool := 1 ≤ n && n < 4096

/-- CREATE_IO_SUBMISSION_QUEUE (R83, R84). Queues are physically contiguous. -/
def execCreateIoSubmissionQueue (r : CmdRef) (s : State) : Outcome :=
  s.runReady r true 0x01 fun c =>
    let qid := c.sqe.cdw10 % 65536
    let size := c.sqe.cdw10 / 65536
    let cqid := c.sqe.cdw11 / 65536
    if qid = 0 ∨ s.ioQueues r.fn < qid ∨ (s.sq? r.fn qid).isSome then s.complete c .invalidQueueId
    else if !queueSizeOk size then s.complete c .invalidQueueSize
    else if !c.sqe.cdw11.testBit 0 then s.complete c .invalidField
    else if cqid = 0 ∨ s.ioQueues r.fn < cqid then s.complete c .invalidQueueId
    else if (s.cq? r.fn cqid).isNone then s.complete c .invalidCqParam
    else (s.putSq r.fn qid (Sq.new cqid (size + 1) (bits c.sqe.cdw11 2 1) s.ao.time)).complete c .success

/-- Does a completion queue of a function use a vector (R82)? -/
def State.vectorUsed (s : State) (t v : Nat) : Bool := s.host.cqs.any fun e => e.1 / 65536 == t && e.2.ien && e.2.vec == v

/-- CREATE_IO_COMPLETION_QUEUE (R82, R83, R84). -/
def execCreateIoCompletionQueue (r : CmdRef) (s : State) : Outcome :=
  s.runReady r true 0x05 fun c =>
    let qid := c.sqe.cdw10 % 65536
    let size := c.sqe.cdw10 / 65536
    let ien := c.sqe.cdw11.testBit 1
    let vec := c.sqe.cdw11 / 65536
    if qid = 0 ∨ s.ioQueues r.fn < qid ∨ (s.cq? r.fn qid).isSome then s.complete c .invalidQueueId
    else if !queueSizeOk size then s.complete c .invalidQueueSize
    else if !c.sqe.cdw11.testBit 0 then s.complete c .invalidField
    else if ien && (vec == 0 || s.vectorUsed r.fn vec || s.ioVectors r.fn < vec) then s.complete c .invalidVector
    else (s.putCq r.fn qid (Cq.new (size + 1) ien vec)).complete c .success

/-- DELETE_IO_SUBMISSION_QUEUE. Nothing more is fetched from the queue, and the command completes once the commands fetched from it have. -/
def execDeleteIoSubmissionQueue (r : CmdRef) (s : State) : Outcome :=
  s.runReady r true 0x00 fun c =>
    let qid := c.sqe.cdw10 % 65536
    match s.sq? r.fn qid with
    | none => s.complete c .invalidQueueId
    | some q =>
      if qid = 0 then s.complete c .invalidQueueId
      else if s.host.cmds.any fun x => x.ref.fn == r.fn && x.ref.qid == qid then s.putSq r.fn qid { q with entries := [], tail := q.head }
      else (s.withHost { s.host with sqs := s.host.sqs.del (qkey r.fn qid) }).complete c .success

/-- DELETE_IO_COMPLETION_QUEUE: not while a submission queue uses it; its vector is free again (R82). -/
def execDeleteIoCompletionQueue (r : CmdRef) (s : State) : Outcome :=
  s.runReady r true 0x04 fun c =>
    let qid := c.sqe.cdw10 % 65536
    if qid = 0 ∨ (s.cq? r.fn qid).isNone then s.complete c .invalidQueueId
    else if s.host.sqs.any fun e => e.1 / 65536 == r.fn && e.2.cqid == qid then s.complete c .invalidQueueDeletion
    else (s.withHost { s.host with cqs := s.host.cqs.del (qkey r.fn qid) }).complete c .success

/-! ### Flexible resources (R77 to R81) -/

/-- The flexible share of a physical function: the configuration image divides 16,256 queue pairs and 16,256 vectors, where its entry is not 0, and
else each takes 8,128; k is 0 for queue pairs and 1 for vectors (R77, R78). -/
def State.flexShare (s : State) (pf k : Nat) : Nat :=
  let e := Config.imageTable (s.win.img.getD 0) 3 k
  let x := if e = 0 then 8128 else (e - 1) % 16257
  if pf = 0 then x else 16256 - x

/-- Resources that a physical function and its VFs hold of its share. -/
def State.flexUsed (s : State) (pf : Nat) (vectors : Bool) : Nat :=
  s.host.fns.foldl (fun n e => if pfOf e.1 = pf then n + (if vectors then e.2.vi else e.2.vq) else n) 0

def State.flexOf (s : State) (t : Nat) (vectors : Bool) : Nat := if vectors then (s.fn t).vi else (s.fn t).vq

/-- Give a function a number of flexible resources; none where the share does not hold so many. -/
def State.assignFlex (s : State) (t : Nat) (vectors : Bool) (n : Nat) : Option State :=
  if s.flexUsed (pfOf t) vectors - s.flexOf t vectors + n ≤ s.flexShare (pfOf t) (b2n vectors) then
    some (s.setFn t fun f => if vectors then { f with vi := n } else { f with vq := n })
  else none

/-- Would a number of flexible resources take a function beyond its limit (R79)? -/
def overLimit (t : Nat) (vectors : Bool) (n : Nat) : Bool :=
  (if vectors then maxVectors else maxQueues) < (if isVf t then 0 else pfPrivate) + n

/-- VIRTUALIZATION_MANAGEMENT: actions 1 Primary Controller Flexible Allocation, 7 Secondary Controller Offline, 8 Secondary Controller
Assign, 9 Secondary Controller Online; resource type 0 queues, 1 vectors (R79, R80). -/
def execVirtualizationManagement (r : CmdRef) (s : State) : Outcome :=
  s.runReady r true 0x1C fun c =>
    let act := c.sqe.cdw10 % 16
    let kind := bits c.sqe.cdw10 10 8
    let id := c.sqe.cdw10 / 65536
    let n := c.sqe.cdw11 % 65536
    let give (t : Nat) : State :=
      if overLimit t (kind == 1) n then s.complete c .invalidField
      else match s.assignFlex t (kind == 1) n with
        | some s => s.complete c .success n
        | none => s.complete c .invalidResourceCount
    let mine := isVf id && pfOf id == r.fn
    if act = 1 then
      (if id ≠ r.fn then s.complete c .invalidControllerId else if 1 < kind then s.complete c .invalidResourceId else give id)
    else if act = 7 then
      (if !mine then s.complete c .invalidControllerId else ((s.resetController id).setFn id fun f => { f with online := false }).complete c .success)
    else if act = 8 then
      (if !mine then s.complete c .invalidControllerId
        else if 1 < kind then s.complete c .invalidResourceId
        else if (s.fn id).online then s.complete c .invalidSecondaryState
        else give id)
    else if act = 9 then
      (if !mine then s.complete c .invalidControllerId
        else if (s.fn id).vq = 0 ∨ (s.fn id).vi = 0 then s.complete c .invalidSecondaryState
        else (s.setFn id fun f => { f with online := true }).complete c .success)
    else s.complete c .invalidField

/-! ### Asynchronous Event Request (R123) -/

/-- Requests that a function may have outstanding (AERL of R86). -/
def aerMax : Nat := 16

/-- ASYNCHRONOUS_EVENT_REQUEST: it waits until an event is there to report. -/
def execAsynchronousEventRequest (r : CmdRef) (s : State) : Outcome :=
  s.runReady r true 0x0C fun c =>
    let out := (s.host.cmds.filter fun x => x.ref.fn == r.fn && x.ref.qid == 0 && x.sqe.opc == 0x0C && x.phase == .background).length
    if aerMax ≤ out then s.complete c .aerLimit
    else (s.setCmd r fun c => { c with phase := .background }).pumpAsync r.fn

end Sys2Proof.Machine
end

