-- ==== Sys2Proof/Machine/Pci.lean ====
section
/-!
DEFINITION. What each function presents on PCI Express and as an NVMe controller before any queue (R2, R70 to R75, R81, R85, R693, R730): the
functions and their routing IDs, configuration space, and the controller registers. Where a field stands within configuration space and within
CAP, CC and CSTS is the standards' (PRESUMED, log entry 130), and the offsets of the capabilities are the model's (log entry 130).
-/

namespace Sys2Proof.Machine

/-- What the configuration image supplies of a function's identity: 3 and 4 the subsystem identifiers, 5 serial number, 6 model number,
7 IEEE identifier, 2 whether a volatile write cache is reported (default: yes), 8 and 9 the reference clocks of the ports. -/
def State.imageId (s : State) (k : Nat) : Nat := Config.imageTable (s.win.img.getD 0) 3 k

/-- The reference clock of a port: common, SRNS or SRIS (R730). -/
inductive RefClock where
  | common | srns | sris
  deriving DecidableEq, Repr

def State.refClock (s : State) (port : Nat) : RefClock :=
  match s.imageId (8 + port) % 3 with
  | 0 => .common
  | 1 => .srns
  | _ => .sris

/-! ### Functions (R71, R72) -/

/-- VFs of each physical function: TotalVFs and InitialVFs. -/
def totalVfs : Nat := 511

/-- First VF Offset of a physical function; VF Stride is 1. -/
def State.firstVf (s : State) (pf : Nat) : Nat := if s.ao.bifur then 1 else if pf = 0 then 2 else 512

/-- The number of a physical function on its port. -/
def State.pfNumber (s : State) (pf : Nat) : Nat := if s.ao.bifur then 0 else pf

/-- k of a VF (R72). -/
def vfIndex (t : Nat) : Nat := if t ≤ 512 then t - 1 else t - 512

/-- The routing ID of a function, relative to its port's first. -/
def State.routingId (s : State) (t : Nat) : Nat :=
  let pf := pfOf t
  if isVf t then s.pfNumber pf + s.firstVf pf + (vfIndex t - 1) else s.pfNumber pf

/-- Bus numbers that the bridge above a port grants it (R71). -/
def State.busNumbers (s : State) : Nat := if s.ao.bifur then 2 else 4

/-! ### Base address registers (R74, R75) -/

/-- A BAR pair: its number, its size, and whether it is prefetchable. All are 64-bit. -/
structure Bar where
  num : Nat
  size : Nat
  pref : Bool
  deriving DecidableEq, Repr

def pfBars : List Bar := [⟨0, 2 ^ 18, false⟩, ⟨2, 2 ^ 26, false⟩, ⟨4, 2 ^ 34, true⟩]

/-- The BARs of a physical function; in recovery mode BAR2 alone (R696). -/
def State.barsNow (s : State) : List Bar := if s.boot.recov then pfBars.filter fun b => b.num == 2 else pfBars

/-- The Device ID: of a physical function, of a VF (R73), or of PF0 in recovery mode (R696). -/
def State.deviceId (s : State) (t : Nat) : Nat := if isVf t then 0x4401 else if s.boot.recov then 0x44FE else 0x4400

/-- What lies where in BAR0: NVMe registers, doorbells, MSI-X table and PBA. -/
def bar0Doorbells : Nat := 0x1000
def bar0Msix : Nat := 0x10000
def bar0Pba : Nat := 0x30000

/-- A 32-bit half of a BAR as it reads: the address bits above its size, as written, over its type; an unlisted one reads as zero. -/
def barWord (bars : List Bar) (k stored : Nat) : Nat :=
  match bars.find? fun b => b.num == k || b.num + 1 == k with
  | some b => if b.num = k then stored / (min b.size (2 ^ 32)) * min b.size (2 ^ 32) % 2 ^ 32 + 4 + (if b.pref then 8 else 0)
    else stored / (b.size / 2 ^ 32 + (if b.size < 2 ^ 32 then 1 else 0)) * (b.size / 2 ^ 32 + (if b.size < 2 ^ 32 then 1 else 0))
  | none => 0

/-! ### Configuration space -/

/-- A dword as software wrote it. -/
def State.cfgStored (s : State) (t off : Nat) : Nat := (s.fn t).cfg.getD off 0

/-- Supported Page Sizes: 4 KiB and 64 KiB (R75). -/
def pageSizes : Nat := 0x11

/-- The SR-IOV System Page Size of a physical function in bytes. -/
def State.sysPage (s : State) (pf : Nat) : Nat := if s.cfgStored pf 0x180 = 0x10 then 65536 else 4096

/-- The alignment of VF BAR0 (R75). -/
def State.vfBarAlign (s : State) (pf : Nat) : Nat := max (2 ^ 18) (s.sysPage pf)

/-- Max Payload Size and Max Read Request Size in force, in bytes (R70). -/
def State.maxPayload (s : State) (t : Nat) : Nat := 128 * 2 ^ min 2 (bits (s.cfgStored t 0x78) 7 5)
def State.maxReadRequest (s : State) (t : Nat) : Nat := 128 * 2 ^ min 5 (bits (s.cfgStored t 0x78) 14 12)

/-- An extended capability's header: its ID, and the offset of the next. -/
def extCap (id next : Nat) : Nat := id + 0x10000 + next * 0x100000

/-- A dword of a function's configuration space. -/
def State.cfgDword (s : State) (t off : Nat) : Nat :=
  let st := s.cfgStored t off
  let vf := isVf t
  let f := s.fn t
  match off with
  | 0x00 => 0xC7A5 + s.deviceId t * 0x10000
  | 0x04 => 0x00100000 + b2n f.bme * 4 + (if st.testBit 1 then 2 else 0)
  | 0x08 => 0x01080210
  | 0x0C => if !vf && !s.ao.bifur then 0x00800000 else 0
  | 0x2C => s.imageId 3 % 65536 + s.imageId 4 % 65536 * 65536
  | 0x34 => 0x40
  | 0x40 => 0x00035001
  | 0x44 => if f.d3 then 3 else 0
  | 0x50 => 0x7011 + s.ioVectors t * 0x10000 + (st / 2 ^ 30 % 4) * 2 ^ 30
  | 0x54 => bar0Msix
  | 0x58 => bar0Pba
  | 0x70 => 0x00020010
  | 0x74 => 2 + 0x20 + 0x8000 + 0x10000000
  | 0x78 => st % 32768 &&& 0x71FF
  | 0x7C => 6 + 0x800 + (if s.ao.bifur then 8 else 16) * 16
  | 0x80 => (s.port (s.portOf t)).rate * 65536 + (s.port (s.portOf t)).width * 0x100000
  | 0x94 => 0x00030000
  | 0x98 => st % 0x2000 &&& 0x1300
  | 0x100 => extCap 0x0001 0x150
  | 0x150 => extCap 0x000E (if vf then 0x200 else 0x160)
  | 0x200 => extCap 0x002F 0
  | _ =>
    if 0x10 ≤ off ∧ off < 0x28 ∧ vf = false then barWord s.barsNow ((off - 0x10) / 4) st
    else if 0x104 ≤ off ∧ off < 0x12C then st
    else if vf then 0
    else match off with
      | 0x160 => extCap 0x0010 0x1C0
      | 0x164 => 2
      | 0x168 => b2n f.vfe + (st &&& 0x18)
      | 0x16C => totalVfs + totalVfs * 65536
      | 0x170 => st % 65536
      | 0x174 => s.firstVf t + 65536
      | 0x178 => 0x4401 * 0x10000
      | 0x17C => pageSizes
      | 0x180 => s.sysPage t / 4096
      | 0x184 => barWord [⟨0, s.vfBarAlign t, false⟩] 0 st
      | 0x188 => barWord [⟨0, s.vfBarAlign t, false⟩] 1 st
      | 0x1C0 => extCap 0x002E 0x1E0
      | 0x1E0 => extCap 0x0030 0x200
      | _ => 0

/-- Does a port answer configuration requests of a function: from the end of stage 8 on, and in recovery mode for PF0 (R693, R696)? -/
def State.cfgAnswers (s : State) (t : Nat) : Bool := t < 1024 && (s.host.enabled || (s.boot.recov && t == 0)) && (!isVf t || (s.fn (pfOf t)).vfe)

/-- A configuration read: none is Configuration Request Retry Status (R693). -/
def State.cfgRead (s : State) (t off : Nat) : Option Nat := if s.cfgAnswers t then some (s.cfgDword t (off / 4 * 4)) else none

/-- A configuration write of a dword that changes no function's state by itself: FUNCTION_ENABLE, FUNCTION_DISABLE and FUNCTION_LEVEL_RESET are what
Bus Master Enable, VF Enable, D3hot and Initiate FLR do. System Page Size takes only a size that is supported (R75). -/
def State.cfgWrite (s : State) (t off v : Nat) : State :=
  if s.cfgAnswers t = true ∧ (off = 0x180 → v = 1 ∨ v = 0x10) then s.setFn t fun f => { f with cfg := f.cfg.ins (off / 4 * 4) (v % 2 ^ 32) } else s

/-! ### Controller registers (R85) -/

def nvmeVersion : Nat := 0x00020000

/-- CAP: MQES 4,095, CQR, weighted round robin with urgent, TO 30 s, DSTRD 0, NSSRS on physical functions, the NVM and the I/O command sets,
MPSMIN 0 and MPSMAX 4. -/
def controllerCap (t : Nat) : Nat :=
  4095 + 2 ^ 16 + 2 ^ 17 + 60 * 2 ^ 24 + (if isVf t then 0 else 2 ^ 36) + 2 ^ 37 + 2 ^ 43 + 4 * 2 ^ 52

/-- CSTS: RDY and SHST. -/
def FnState.csts (f : FnState) : Nat := b2n f.rdy + f.shst * 4

/-- A dword of the NVMe registers of BAR0; CC shows what the controller keeps of it. -/
def State.controllerReg (s : State) (t off : Nat) : Nat :=
  let f := s.fn t
  match off with
  | 0x00 => controllerCap t % 2 ^ 32
  | 0x04 => controllerCap t / 2 ^ 32
  | 0x08 => nvmeVersion
  | 0x14 => b2n f.en + f.ams * 2 ^ 11 + f.shn * 2 ^ 14
  | 0x1C => f.csts
  | _ => 0

end Sys2Proof.Machine
end

