-- ==== Sys2Proof/Machine/Admin.lean ====
section
/-!
DEFINITION. Identify (R73, R86 to R88, R174), the features (R83, R92, R110), self-tests (R480) and directives (R185), with the commands
IDENTIFY, SET_FEATURES, GET_FEATURES, DEVICE_SELF_TEST, DIRECTIVE_SEND and DIRECTIVE_RECEIVE. Offsets of fields, and the structures that the
spec names only by the standard, are the NVMe standards' (PRESUMED).
-/

namespace Sys2Proof.Machine

/-! ### Identify -/

/-- The bytes of a text. -/
def textBytes (t : String) : List Byte := t.toList.map fun c => BitVec.ofNat 8 c.toNat

def subnqn : String := "nqn.2023-04.com.vangalming:sk4400:"

/-- Identify Controller (R86). -/
def State.identifyController (s : State) (t : Nat) : List Byte :=
  let sn := s.imageId 5 % 2 ^ 160
  let build := match s.checkSlot s.boot.run with
    | .ok i => i.build
    | .below i => i.build
    | .invalid => 0
  layAt 0 [(0, 2, 0xC7A5), (2, 2, s.imageId 3 % 65536), (4, 20, sn), (24, 40, s.imageId 6 % 2 ^ 320), (64, 8, build), (72, 1, 6), (73, 3, s.imageId 7 % 2 ^ 24),
    (76, 1, 0x06 + b2n s.ao.bifur), (77, 1, 9), (78, 2, t), (80, 4, 0x00020000), (84, 4, 3000000), (88, 4, 2000000), (92, 4, 0x08000300),
    (111, 1, 1), (256, 2, 0x02FF), (258, 1, 3), (259, 1, 15), (260, 1, 0x14), (261, 1, 0x07), (262, 1, 255), (263, 1, 0), (266, 2, s.wctemp),
    (268, 2, s.cctemp), (270, 2, 10), (328, 4, 0x00000003), (512, 1, 0x66), (513, 1, 0x44), (516, 4, 4096), (520, 2, 0x00DF), (522, 2, 0),
    (524, 1, 0x04), (525, 1, 0x06 + (s.imageId 2 + 1) % 2), (526, 2, 31), (528, 2, 31), (532, 2, 0), (536, 4, 0x00010001), (540, 4, 4096)] 768
  ++ padTo 256 (textBytes subnqn ++ toBytes 20 sn) ++ List.replicate 1024 0 ++ layAt 0 [(0, 2, 4200)] 32 ++ List.replicate 2016 0

/-- Blocks of a namespace in use: R174 for a zoned one, else its mapped blocks. -/
def State.nuse (s : State) (nsix : Nat) (n : Ns) : Nat :=
  if n.kind = .zoned then
    (s.zon.zdt.filter fun e => e.2.nsix == nsix).foldl (fun k e => k + if e.2.zs = .full then e.2.zcap else e.2.wpoff) 0
  else (s.zon.map.filter fun e => e.1 / 2 ^ 48 == nsix && e.2 < 0xFFFFFFFE).length

/-- The fields that every namespace shares (R87, R88). -/
def nsCommon : List (Nat × Nat × Nat) := [(25, 1, 3), (27, 1, 0x03), (28, 1, 0x17)]

def lbaFormats : List (Nat × Nat × Nat) := [(128, 4, 0x0C0000), (132, 4, 0x0C0008), (136, 4, 0x0C0010), (140, 4, 0x0C0040)]

/-- The guard of LBA formats 2 and 3 may be 16-bit or 64-bit (R87); what selects it is not stated, and the configuration image does (log entry 160). -/
def State.wideGuard (s : State) (lbaf : Nat) : Bool := (lbaf == 2 || lbaf == 3) && s.imageId (8 + lbaf) % 2 == 1

/-- Identify Namespace for the NVM command set: the protection information format of each LBA format, 16-bit guard (0) or 64-bit guard (2). -/
def State.identifyNvm (s : State) : List Byte :=
  layAt 0 ((List.range 4).map fun i => (12 + 4 * i, 4, if s.wideGuard i then 2 * 2 ^ 7 else 0)) 4096

/-- Identify Namespace. -/
def State.identifyNs (s : State) (nsix : Nat) (n : Ns) : List Byte :=
  layAt 0 ([(0, 8, n.nsze), (8, 8, n.nsze), (16, 8, s.nuse nsix n), (24, 1, 0x02), (25, 1, 3), (26, 1, n.lbaf + 16 * b2n n.ext), (27, 1, 0x03),
    (28, 1, 0x17), (29, 1, n.pit), (30, 1, 1), (33, 1, 0), (34, 2, 31), (36, 2, 31), (99, 1, b2n n.wp)] ++ lbaFormats) 4096

/-- Identify Namespace for the Zoned Namespace Command Set (R159, R174). -/
def State.identifyZoned (s : State) (n : Ns) : List Byte :=
  layAt 0 ([(0, 2, 0x0001), (2, 2, 0x0001), (4, 4, s.fld F.ZON_TN_LIM_ACT n.owner - 1), (8, 4, s.fld F.ZON_TN_LIM_OPEN n.owner - 1)] ++
    (List.range 4).map fun i => (2816 + 16 * i, 8, 262144)) 4096

/-- A list of up to 1,024 NSIDs above a first one. -/
def nsidList (l : List Nat) (above : Nat) : List Byte :=
  padTo 4096 (layRow (((l.filter fun x => above < x).dedup.mergeSort fun a b => a ≤ b).take 1024 |>.map fun x => (4, x)))

/-- The namespaces of a function: those attached to it, and those it owns (R89). -/
def State.activeNs (s : State) (t : Nat) : List (Nat × Ns) := s.zon.ns.filter fun e => e.2.attachedTo t && e.2.kind != .companion

def Ns.csi (n : Ns) : Nat := if n.kind = .zoned then 2 else 0

/-- A namespace that a function may name: attached to it, or its own. -/
def State.visible (s : State) (t nsid : Nat) (own : Bool) : Option (Nat × Ns) :=
  match s.nsOf? nsid with
  | some x => if x.2.attachedTo t || (own && x.2.owner == t) then some x else none
  | none => none

/-- A list of controllers from a first one. -/
def ctrlList (l : List Nat) (first : Nat) : List Byte :=
  let l := ((l.filter fun x => first ≤ x).dedup.mergeSort fun a b => a ≤ b).take 2047
  padTo 4096 (layRow ((2, l.length) :: l.map fun x => (2, x)))

/-- Primary Controller Capabilities (R76 to R79). -/
def State.primaryCaps (s : State) (pf : Nat) : List Byte :=
  let used (v : Bool) : Nat := s.flexUsed pf v
  layAt 0 [(0, 2, pf), (2, 2, s.portOf pf), (4, 1, 3), (32, 4, s.flexShare pf 0), (36, 4, used false), (40, 2, (s.fn pf).vq), (42, 2, 64),
    (44, 2, 4096), (46, 2, 1), (64, 4, s.flexShare pf 1), (68, 4, used true), (72, 2, (s.fn pf).vi), (74, 2, 65), (76, 2, 2047), (78, 2, 1)] 4096

/-- Secondary Controller List. -/
def State.secondaryList (s : State) (pf first : Nat) : List Byte :=
  let l := ((vfsOf pf).filter fun v => first ≤ v).take 127
  padTo 4096 (toBytes 1 l.length ++ List.replicate 31 0 ++ l.flatMap fun v =>
    layAt 0 [(0, 2, v), (2, 2, pf), (4, 1, b2n (s.fn v).online), (8, 2, if pf = 0 then v - 1 else v - 512), (10, 2, (s.fn v).vq), (12, 2, (s.fn v).vi)] 32)

/-- The data structure that CNS names, or why there is none. CSI stands in CDW11 bits 31:24. -/
def State.identifyData (s : State) (t : Nat) (e : Sqe) : Except Status (List Byte) :=
  let cns := bits e.cdw10 7 0
  let cntid := bits e.cdw10 31 16
  let csi := bits e.cdw11 31 24
  let zeros : List Byte := List.replicate 4096 0
  let nsData (own : Bool) (f : Nat → Ns → List Byte) : Except Status (List Byte) :=
    if e.nsid = 0xFFFFFFFF then .ok (layAt 0 (nsCommon ++ lbaFormats) 4096)
    else if 4096 < e.nsid ∨ e.nsid = 0 then .error .invalidNsOrFormat
    else match s.visible t e.nsid own with
      | some x => .ok (f x.1 x.2)
      | none => .ok zeros
  let specific (own : Bool) : Except Status (List Byte) := nsData own fun _ n =>
    if n.csi = 2 ∧ csi = 2 then s.identifyZoned n else if csi = 0 then s.identifyNvm else zeros
  let active := (s.activeNs t).map fun x => x.2
  let own := (s.owned t).map fun x => x.2
  let known (f : List Byte) : Except Status (List Byte) := if csi = 0 ∨ csi = 2 then .ok f else .error .invalidField
  match cns with
  | 0x00 => nsData false s.identifyNs
  | 0x01 => .ok (s.identifyController t)
  | 0x02 => .ok (nsidList (active.map (·.nsid)) e.nsid)
  | 0x03 =>
    match s.visible t e.nsid false with
    | some (_, n) => .ok (padTo 4096 (layRow [(1, 2), (1, 16), (2, 0), (16, Config.imageTable (s.win.img.getD 0) 4 n.nsid), (1, 4), (1, 1), (2, 0), (1, n.csi)]))
    | none => .error .invalidNsOrFormat
  | 0x05 => match known zeros with
    | .error st => .error st
    | .ok _ => specific false
  | 0x06 => known (if csi = 2 then layAt 0 [(0, 1, 9)] 4096 else zeros)
  | 0x07 => known (nsidList ((active.filter fun n => n.csi == csi).map (·.nsid)) e.nsid)
  | 0x10 => .ok (nsidList (own.map (·.nsid)) e.nsid)
  | 0x11 => nsData true s.identifyNs
  | 0x12 => match s.visible t e.nsid true with
    | some (_, n) => .ok (ctrlList n.attached cntid)
    | none => .error .invalidNsOrFormat
  | 0x13 => .ok (ctrlList (if isVf t then [t] else t :: vfsOf t) cntid)
  | 0x14 => if isVf t then .error .invalidField else .ok (s.primaryCaps t)
  | 0x15 => if isVf t then .error .invalidField else .ok (s.secondaryList t cntid)
  | 0x1A => known (nsidList ((own.filter fun n => n.csi == csi).map (·.nsid)) e.nsid)
  | 0x1B => match known zeros with
    | .error st => .error st
    | .ok _ => specific true
  | 0x1C => .ok (layAt 0 [(0, 8, 5)] 4096)
  | _ => .error .invalidField

/-- IDENTIFY. -/
def execIdentify (r : CmdRef) (s : State) : Outcome :=
  s.runReady r true 0x06 fun c =>
    match s.identifyData c.ref.fn c.sqe with
    | .ok b => s.completeBytes c b
    | .error st => s.complete c st

/-! ### Features -/

/-- Dword 0 of Number of Queues: the assigned pairs, 0's based, in both fields (R83). -/
def State.queuesAssigned (s : State) (t : Nat) : Nat := (s.ioQueues t - 1) * 65537

/-- Where a Temperature Threshold is kept: the over threshold of the composite temperature under the feature's own identifier. -/
def tempKey (dw11 : Nat) : Nat := if bits dw11 21 16 = 0 then 0x04 else 1024 + bits dw11 21 16

def State.defaultFeature (s : State) (key : Nat) : Nat := if key = 0x04 then s.wctemp else 0

/-- Milliseconds of the Timestamp feature now. -/
def State.timestamp (s : State) (t : Nat) : Nat := (s.feature t 0x0E + (s.ao.time - s.feature t 512) / 1000000) % 2 ^ 48

/-- The key that a feature's value stands under, given the command's dword 11. -/
def featKey (fid dw11 : Nat) : Nat :=
  if fid = 0x04 then tempKey dw11 else if fid = 0x09 then vectorKey (dw11 % 65536) else fid

/-- What Set Features keeps of a feature, or why it fails. -/
def featValue (e : Sqe) : Except Status Nat :=
  let fid := bits e.cdw10 7 0
  let v := e.cdw11
  match fid with
  | 0x02 => if v % 32 = 0 then .ok 0 else .error .invalidField
  | 0x04 => if 1 < bits v 21 20 then .error .invalidField else .ok (v % 65536)
  | 0x06 => .ok (v % 2)
  | 0x07 => if v % 65536 = 65535 ∨ v / 65536 = 65535 then .error .invalidField else .ok 0
  | 0x08 => .ok (v % 65536)
  | 0x09 => .ok (bits v 16 16)
  | 0x0A => .ok (v % 2)
  | 0x0E => .ok (ofBytes (e.data.take 6))
  | 0x17 => .ok (v % 2)
  | 0xC0 => .ok (v % 2)
  | _ => .ok v

/-- SET_FEATURES (R83, R92, R110). Only feature 0xC0 is saveable. -/
def execSetFeatures (r : CmdRef) (s : State) : Outcome :=
  s.runReady r true 0x09 fun c =>
    let e := c.sqe
    let fid := bits e.cdw10 7 0
    let save := e.cdw10.testBit 31
    if !featSupported.contains fid then s.complete c .invalidField
    else if save ∧ fid ≠ 0xC0 then s.complete c .featNotSaveable
    else if fid = 0x09 ∧ s.ioVectors r.fn < e.cdw11 % 65536 then s.complete c .invalidField
    else
      match featValue e with
      | .error st => s.complete c st
      | .ok v =>
        if fid = 0x07 then s.complete c .success (s.queuesAssigned r.fn)
        else
          let s := s.setFn r.fn fun f =>
            let m := f.feat.ins (featKey fid e.cdw11) v
            let m := if save then m.ins (fid + 256) v else m
            { f with feat := if fid = 0x0E then m.ins 512 s.ao.time else m }
          s.complete c .success

/-- The current value of a feature. -/
def State.featNow (s : State) (t fid dw11 : Nat) : Nat :=
  if fid = 0x07 then s.queuesAssigned t
  else
    let key := featKey fid dw11
    let v := (s.fn t).feat.getD key (s.defaultFeature key)
    if fid = 0x09 then dw11 % 65536 + 65536 * v else v

/-- GET_FEATURES: SEL 0 the current value, 1 the default, 2 the saved one, 3 the capabilities. -/
def execGetFeatures (r : CmdRef) (s : State) : Outcome :=
  s.runReady r true 0x0A fun c =>
    let e := c.sqe
    let fid := bits e.cdw10 7 0
    let sel := bits e.cdw10 10 8
    if !featSupported.contains fid ∨ 3 < sel then s.complete c .invalidField
    else
      let dflt := if fid = 0x07 then s.queuesAssigned r.fn else if fid = 0x09 then e.cdw11 % 65536 else s.defaultFeature (featKey fid e.cdw11)
      let v := if sel = 0 then s.featNow r.fn fid e.cdw11 else if sel = 3 then 4 + b2n (fid == 0xC0)
        else if sel = 2 then (s.fn r.fn).feat.getD (fid + 256) dflt else dflt
      if fid = 0x0E ∧ sel ≠ 3 then
        let set := ((s.fn r.fn).feat.get? 512).isSome && sel == 0
        s.completeBytes c (layRow [(6, if sel = 0 then s.timestamp r.fn else 0), (1, 2 * b2n set), (1, 0)])
      else s.complete c .success v

/-! ### Device Self-test (R480) -/

/-- The dies that a function's test reads: its die set, or every die. -/
def State.testDies (s : State) (t : Nat) : List Nat :=
  if isVf t then
    (match s.tenantDs t with
      | some ds => s.dsDies ds
      | none => [])
  else s.diesInService

/-- The closed groups of a die: (set, its record, member, group). -/
def State.closedGroups (s : State) (die : Nat) : List (Nat × SetRec × Nat × Nat) :=
  (s.listed die).flatMap fun b =>
    if b.2.st = .bound then
      (match s.set? b.2.setid with
        | some r => ((List.range 1024).filter fun g => !(s.closedRows b.2.setid r b.2.member g).isEmpty).map fun g => (b.2.setid, r, b.2.member, g)
        | none => [])
    else []

/-- Reads of an ended or aborted test count for no test any more. -/
def State.releaseTest (s : State) (t : Nat) : State :=
  s.withDdk { s.ddk with reads := s.ddk.reads.mapV fun _ u => match u.who with
    | .maint (some f) last => if f = t then { u with who := .maint none last } else u
    | _ => u }

/-- Read a group of a test; its last unit ends it. -/
def State.testGroup (s : State) (t : Nat) (g : Nat × SetRec × Nat × Nat) : State :=
  let rows := s.closedRows g.1 g.2.1 g.2.2.1 g.2.2.2
  rows.zipIdx.foldl (fun s x => s.maintRead g.1 g.2.1 g.2.2.1 x.1 (some t) (x.2 + 1 == rows.length)) s

def State.startTest (s : State) (t kind : Nat) : State :=
  let dies := (s.testDies t).filter fun d => !s.dieFailed d
  let groups := dies.flatMap fun d => if kind = 1 then (s.closedGroups d).take 1 else s.closedGroups d
  let s := (s.releaseTest t).setFn t fun f =>
    if groups.isEmpty then { f with dst := 0, dstDone := 0, dstTotal := 0, dstResult := 16 * kind }
    else { f with dst := kind, dstDone := 0, dstTotal := groups.length }
  groups.foldl (fun s g => s.testGroup t g) s

/-- DEVICE_SELF_TEST: STC 1 short, 2 extended, 0xF abort. It completes once the test has begun. -/
def execDeviceSelfTest (r : CmdRef) (s : State) : Outcome :=
  s.runReady r true 0x14 fun c =>
    let stc := c.sqe.cdw10 % 16
    let running := (s.fn r.fn).dst != 0
    if stc = 1 ∨ stc = 2 then
      (if running then s.complete c .selfTestInProgress else (s.startTest r.fn stc).complete c .success)
    else if stc = 15 then
      (((if running then s.releaseTest r.fn else s).setFn r.fn fun f =>
        if f.dst = 0 then f else { f with dst := 0, dstResult := 16 * f.dst + 1 }).complete c .success)
    else s.complete c .invalidField

/-! ### Directives (R185) -/

/-- DIRECTIVE_SEND: only the Identify directive's Enable Directive operation acts, and only to name a directive that is enabled already. -/
def execDirectiveSend (r : CmdRef) (s : State) : Outcome :=
  s.runReady r true 0x19 fun c =>
    let e := c.sqe
    match s.visible r.fn e.nsid false with
    | none => s.complete c .invalidNsOrFormat
    | some (_, n) =>
      if bits e.cdw11 15 8 = 0 ∧ bits e.cdw11 7 0 = 1 ∧ bits e.cdw12 15 8 = 2 ∧ e.cdw12.testBit 0 = true ∧ n.kind = .placement then
        s.complete c .success
      else s.complete c .invalidField

/-- DIRECTIVE_RECEIVE: Return Parameters of the Identify directive: what is supported, then what is enabled. -/
def execDirectiveReceive (r : CmdRef) (s : State) : Outcome :=
  s.runReady r true 0x1A fun c =>
    let e := c.sqe
    match s.visible r.fn e.nsid false with
    | none => s.complete c .invalidNsOrFormat
    | some (_, n) =>
      if bits e.cdw11 15 8 = 0 ∧ bits e.cdw11 7 0 = 1 ∧ 4 * (e.cdw10 + 1) ≤ maxTransfer then
        let m := if n.kind = .placement then 5 else 1
        s.completeBytes c (padTo (4 * (e.cdw10 + 1)) (layAt 0 [(0, 1, m), (32, 1, m)] 4096))
      else s.complete c .invalidField

end Sys2Proof.Machine
end

