-- ==== Sys2Proof/Machine/Commit.lean ====
section
/-!
DEFINITION. The end of a configuration commit (R198, R277, R334, R658, R659 of the event, zone, journal and link chapters), with the commands
COMMIT_IMAGE_SAVED and COMMIT_ISLANDS_HELD.
-/

namespace Sys2Proof.Machine

/-- COMMIT_IMAGE_SAVED: the image with the post-commit values of the img fields is in the NOR, or could not be written (R658). -/
def execCommitImageSaved (ok : Bool) (s : State) : Outcome :=
  if s.win.txn.state = 3 then
    .next (if ok then (s.withBoot s.applyShadows.saveImage.boot).setTxn fun t => { t with state := 4 } else s.rejectTxn 2 0)
  else .next s

/-- Lift the protection of the namespaces of die sets that gained dies, where R156 holds now (R198). -/
def State.liftProtection (s : State) (grown : List Nat) : State :=
  s.zon.ns.foldl (fun s e =>
    match s.tenantDs e.2.owner with
    | some ds =>
      if e.2.wp && grown.contains ds && s.backed ds (s.owed ds) then
        ((s.setNs e.1 fun n => { n with wp := false }).nsChanged e.1).ewClear 0x09 (some ds) e.2.nsid 0
      else s
    | none => s) s

/-- Die sets that gained a die between two configurations. -/
def grownSets (o n : State) : List Nat := (List.range 128).filter fun ds => (n.dsDies ds).any fun d => !o.inDs ds d

/-- A journal copy that the commit moves is written anew on the package it names (R277). -/
def State.moveCopies (s o : State) : State :=
  let s := if o.fld F.STR_JCFG_JPKGA = s.fld F.STR_JCFG_JPKGA then s else s.reestablish 0 (o.fld F.STR_JCFG_JPKGA) (s.fld F.STR_JCFG_JPKGA)
  if o.fld F.STR_JCFG_JPKGB = s.fld F.STR_JCFG_JPKGB then s else s.reestablish 1 (o.fld F.STR_JCFG_JPKGB) (s.fld F.STR_JCFG_JPKGB)

/-- The link units after a commit: bridge registers that changed are written (R334); a link that comes into use trains from phase 0, and one
taken out of use is down (DEDUCED from LNK_CTL.EN and R347). -/
def State.commitLinks (s o : State) : State :=
  (List.range 32).foldl (fun s n =>
    let was := o.flag F.LNK_CTL_EN n
    let is := s.flag F.LNK_CTL_EN n
    if is && !was then s.trainLink n 0 0
    else if was && !is then s.setLink n fun l => { l with st := .down }
    else if is && (s.link n).st != .down && (s.link n).st != .failed && s.bridgeRegs n != o.bridgeRegs n then s.writeBridge n
    else s) s

/-- What the islands make of the values that a commit changed, besides reading them from then on. -/
def State.afterCommit (s o : State) : State :=
  let s := (s.moveCopies o).commitLinks o
  let s := (List.range 6).foldl (fun s p => s.relevel p) s
  let grown := grownSets o s
  let s := s.liftProtection grown
  let s := ((List.range 128).filter fun ds => !(s.dsDies ds).isEmpty).foldl (fun s ds => (s.resnow ds).ewSpare ds) s
  s.ewBench.rebudget.recharge

/-- COMMIT_ISLANDS_HELD: every shadow is applied in one step, and the islands resume (R659). -/
def execCommitIslandsHeld (s : State) : Outcome :=
  if s.win.txn.state = 4 then
    let save := s.win.txn.save
    let t := (s.settleBuckets.applyShadows.endTxn (if save then 2 else 1) s.win.txn.reason s.win.txn.offset).txnEvent 2
    .next (t.afterCommit s)
  else .next s

end Sys2Proof.Machine
end

