-- ==== Sys2Proof/Machine/Firmware.lean ====
section
/-!
DEFINITION. Firmware download, Firmware Commit and hot activation (R581 to R583, R700 to R702 of spec/15_startup_firmware.md), with the
commands FIRMWARE_IMAGE_DOWNLOAD, FIRMWARE_COMMIT, HOT_ACTIVATION_QUIESCED, HOT_ACTIVATION_TIMEOUT, ACTIVATION_IMAGE_LOADED and
ACTIVATION_COMPLETE.
-/

namespace Sys2Proof.Machine

/-- Bytes of a firmware slot (R680). -/
def slotSize : Nat := 0x1000000

/-- FIRMWARE_IMAGE_DOWNLOAD: dwords of the image, at an offset in dwords. -/
def execFirmwareImageDownload (r : CmdRef) (s : State) : Outcome :=
  s.runReady r true 0x11 fun c =>
    let off := 4 * c.sqe.cdw11
    let len := 4 * (c.sqe.cdw10 + 1)
    if slotSize < off + len ∨ 2097152 < len then s.complete c .invalidField
    else
      (s.withBoot { s.boot with image := Mem.writeBytes 0 s.boot.image off (c.sqe.data.take len), imageLen := max s.boot.imageLen (off + len) }).complete
        c .success

/-- Write the downloaded image to a slot: its sectors are erased, then programmed (R684, R700). -/
def State.writeSlot (s : State) (slot : Nat) : State :=
  let base := slotBase slot
  let kept : Mem := s.boot.nor.filter fun x => x.1 < base || base + slotSize ≤ x.1
  let bytes := (List.range s.boot.imageLen).map fun i => Mem.read 0 s.boot.image i
  s.withBoot { s.boot with nor := Mem.writeBytes 0xFF kept base bytes, factory := s.boot.factory && slot != 1, image := [], imageLen := 0 }

/-- Complete a Commit whose image fails the checks (R581, R133). -/
def State.commitFails (s : State) (c : Cmd) (slot : Nat) (k : FwCheck) : State :=
  match k with
  | .below i => s.completeEv c .fwBelowFloor 0 0 fun s => s.raise 0x042 0 1 [(1, slot), (1, i.svn), (1, s.sec.svnFloor), (1, c.sqe.opc)]
  | _ => s.complete c .invalidFwImage

/-- t0 and t1 of a hot activation: the event, an open transaction rolled back (R660, R702), and fetch and capture credit paused (R701). -/
def State.activate (s : State) (c : Cmd) (slot build : Nat) : State :=
  let s := (s.raise 0x009 0 0 [(1, slot), (8, build)]).rollbackOpen
  let s := s.setCmd c.ref fun c => { c with phase := .background }
  (s.withHost { s.host with paused := true }).withBoot { s.boot with act := some ⟨c.ref, slot, .quiescing, s.ao.time⟩ }

/-- Does the slot's microcode, or its Setup Window layout version, differ from the running image's? The spec gives neither a place in an image:
a free value. -/
def State.otherLayout (s : State) : Bool := Config.freeNat s.free % 2 == 1

/-- FIRMWARE_COMMIT (R700). A Commit waits for one that is running, and for the firmware store's own operation. -/
def execFirmwareCommit (r : CmdRef) (s : State) : Outcome :=
  if s.boot.act.isSome ∨ s.boot.op.isSome then .next s
  else s.runReady r true 0x10 fun c =>
    let ca := bits c.sqe.cdw10 5 3
    let fs := bits c.sqe.cdw10 2 0
    let slot := if fs = 0 then otherSlot s.boot.run else fs
    if 3 < ca then s.complete c .invalidField
    else if 2 < slot ∨ (ca < 2 ∧ slot = s.boot.run) then s.complete c .invalidFwSlot
    else if ca < 2 ∧ s.boot.imageLen = 0 then s.complete c .invalidFwImage
    else
      let s := if ca < 2 then s.writeSlot slot else s
      match s.checkSlot slot with
      | .ok i =>
        if ca = 0 then s.complete c .success
        else if ca = 3 then
          (if s.otherLayout then s.drew.complete c .fwNeedsSubsysReset else s.drew.activate c slot i.build)
        else (s.appendBoot slot 1).complete c .fwNeedsSubsysReset
      | k => s.commitFails c slot k

/-! ### Hot activation (R701, R702) -/

/-- End a hot activation: fetch and capture credit resume, and the Commit completes if a reset has not removed it. -/
def State.endActivation (s : State) (a : Activation) (st : Status) : State :=
  let s := (s.withHost { s.host with paused := false }).withBoot { s.boot with act := none }
  match s.cmd? a.ref with
  | some c => s.complete c st
  | none => s

/-- Is every command that a control core holds complete (R96, R701): every one handed over but the Commit and the Asynchronous Event Requests? -/
def State.coresIdle (s : State) (a : Activation) : Bool :=
  s.host.cmds.all fun c => !c.core || c.ref == a.ref || (c.ref.qid == 0 && c.sqe.opc == 0x0C)

/-- Put a hot activation into its next phase. -/
def State.actPhase (s : State) (a : Activation) (p : ActPhase) : State := s.withBoot { s.boot with act := some { a with phase := p } }

/-- HOT_ACTIVATION_QUIESCED: t2 and t3, the boot record (slot, TRIAL 2) and the cores halted. -/
def execHotActivationQuiesced (s : State) : Outcome :=
  match s.boot.act with
  | some a => if a.phase = .quiescing ∧ s.coresIdle a = true then .next ((s.appendBoot a.slot 2).actPhase a .loading) else .next s
  | none => .next s

/-- HOT_ACTIVATION_TIMEOUT: 400 ms pass before t2. -/
def execHotActivationTimeout (s : State) : Outcome :=
  match s.boot.act with
  | some a => if a.phase = .quiescing then .next (s.endActivation a .fwProhibited) else .next s
  | none => .next s

/-- ACTIVATION_IMAGE_LOADED: t4; where the digest check fails, the previous slot is copied back (R702). -/
def execActivationImageLoaded (ok : Bool) (s : State) : Outcome :=
  match s.boot.act with
  | some a =>
    if a.phase = .loading then .next (if ok then s.actPhase a .adopting else s.endActivation a .invalidFwImage) else .next s
  | none => .next s

/-- The new image runs: its boot record is confirmed, the floor is raised, and the event is raised (R582, R701). -/
def State.adoptImage (s : State) (slot pause : Nat) : State :=
  let svn := ((s.checkSlot slot).info?.map fun i => i.svn).getD 0
  let s := s.appendBoot slot 0
  let s := s.withBoot { s.boot with run := slot, pref := slot, trial := false, fallback := false, runSvn := svn }
  (s.raiseFloor slot).raise 0x009 1 0 [(1, slot), (4, pause)]

/-- ACTIVATION_COMPLETE: t5. -/
def execActivationComplete (ok : Bool) (pause : Nat) (s : State) : Outcome :=
  match s.boot.act with
  | some a => if a.phase = .adopting ∧ ok = true then .next ((s.adoptImage a.slot pause).endActivation a .success) else .next s
  | none => .next s

end Sys2Proof.Machine
end

