-- ==== Sys2Proof/Machine/Seals.lean ====
section
/-!
DEFINITION. Sealed Envelopes, tenant policies and the vault store (R134, R137, R538, R551 to R569, R573, R585 of
spec/11_tenants_security.md), with the commands SEALED_ENVELOPE, SEAL_COUNTER_DURABLE, VAULT_STORE_WRITE_DONE, TENANT_POLICY_SET,
TENANT_POLICY_GET, SEAL_STATUS, VAULT_SELF_TEST, VAULT_STORE_COMPACT and SEAL_STATUS_QUERY.
-/

namespace Sys2Proof.Machine

/-! ### Envelopes (R551 to R558) -/

/-- The envelope that a command's data holds: its length is CDW10 (R552). -/
structure EnvelopeText where
  bytes : List Byte
  counter : Nat
  n : Nat
  io : Bool
  inner : Sqe
  deriving DecidableEq, Repr

/-- A submission entry from its 64 bytes, with its data. -/
def sqeOfBytes (b : List Byte) (cid : Nat) (data : List Byte) : Sqe :=
  { opc := field b 0 1, cid := cid, nsid := field b 4 4, cdw10 := field b 40 4, cdw11 := field b 44 4, cdw12 := field b 48 4
    cdw13 := field b 52 4, cdw14 := field b 56 4, cdw15 := field b 60 4, dptr := .prp [], data := data }

def envelopeOf (e : Sqe) : EnvelopeText :=
  let b := e.data ++ List.replicate (e.cdw10 - e.data.length) 0
  let n := field b 72 4
  { bytes := b.take e.cdw10, counter := field b 64 8, n := n, io := field b 76 1 == 1, inner := sqeOfBytes b e.cid ((b.drop 80).take n) }

/-- Check 1 of R554. -/
def EnvelopeText.wellFormed (x : EnvelopeText) (cdw10 : Nat) : Bool :=
  cdw10 == 96 + x.n && x.n ≤ 16384 && field x.bytes 76 1 ≤ 1 && field x.bytes 77 3 == 0 && field x.bytes 2 2 == 0 && field x.bytes 16 24 == 0

/-- Check 5 of R554: the inner command is critical and permitted on the function (R89, R131, R551, R570). -/
def State.innerPermitted (s : State) (t : Nat) (x : EnvelopeText) : Bool :=
  let qid := if x.io then 1 else 0
  x.inner.opc != 0xC4 && x.inner.mustSeal qid && opSupported t qid x.inner.opc &&
    !(!x.io && x.inner.opc == 0x0D && isVf t && !(s.tsec t).nsmgmt)

def octetsOf (b : List Byte) : List Nat := b.map fun x => x.toNat

/-- The checks of R554 in order. A tenant whose release has begun has no seal key (R573). -/
def State.sealCheck (s : State) (t cdw10 : Nat) (x : EnvelopeText) : Status :=
  let v := s.tsec t
  if !x.wellFormed cdw10 then .invalidField
  else if !v.claimed || v.releasing then .sealNoKey
  else if cmac v.sk (octetsOf (x.bytes.take (80 + x.n))) ≠ octetsOf (x.bytes.drop (80 + x.n)) then .sealAuthFailed
  else if x.counter ≤ v.counter then .sealCounter
  else if !s.innerPermitted t x then .sealInner
  else .success

/-- The seal-failure event: status, counter presented, last accepted counter, opcode (R133, R666). -/
def State.sealFailure (s : State) (t opc : Nat) (st : Status) (presented : Nat) : State :=
  let last := (s.tsec t).counter
  let s := s.raiseT 0x040 0 1 t [(1, st.code.2), (1, 0), (4, presented % 2 ^ 32), (4, last % 2 ^ 32), (1, opc)]
  if st = .invalidField then s else s.withSec { s.sec with sealFail := s.sec.sealFail + 1 }

/-- SEALED_ENVELOPE: an envelope waits while an earlier one of its tenant has passed its checks and not completed, while a self-test runs, and
while the vault has granted an entry (R557, R585, R641). One that passes starts the write of its counter (R555). -/
def execSealedEnvelope (r : CmdRef) (s : State) : Outcome :=
  match s.cmd? r with
  | none => .next s
  | some c =>
    let first := (s.host.cmds.find? fun x => x.ref.fn == r.fn && x.ref.qid == 0 && x.sqe.opc == 0xC4 && x.phase == .ready).map fun x => x.ref
    if c.phase = .ready ∧ c.sqe.opc = 0xC4 ∧ r.qid = 0 ∧ s.cqRoom r = true ∧ (s.tsec r.fn).env = none ∧ first = some r ∧
        s.granted 136 = false ∧ (s.sec.mbBusy = false ∨ s.sec.compacting = true) then
      let x := envelopeOf c.sqe
      match s.sealCheck r.fn c.sqe.cdw10 x with
      | .success =>
        let s := s.setTsec r.fn fun v => { v with env := some ⟨r, x.inner, x.io, false⟩ }
        .next (s.setCmd r fun c => { c with phase := .sealing }).storeWrite
      | st => .next (s.completeEv c st 0 0 fun s => s.sealFailure r.fn c.sqe.opc st x.counter)
    else .next s

/-- The inner command in the place of its envelope (R555, R558). -/
def State.innerCmd (s : State) (c : Cmd) (e : Envelope) : Cmd :=
  let q : Sq := Sq.new 0 2 2 c.bellTime
  let n := s.newCmd c.ref.fn 0 q { e.inner with cid := c.ref.cid } true c.tunnel
  { n with ref := c.ref, cls := max 1 (s.fld F.SCH_TN_CFG_MINCLS c.ref.fn) }

/-- SEAL_COUNTER_DURABLE: the counter is durable, and the inner command starts, through the checks of an unsealed one (R555, R556). -/
def execSealCounterDurable (tenant : Nat) (s : State) : Outcome :=
  match (s.tsec tenant).env with
  | none => .next s
  | some e =>
    match s.cmd? e.ref with
    | none => .next s
    | some c =>
      if e.durable = false ∧ s.sec.writes = 0 ∧ s.cqRoom e.ref = true then
        let s := s.setTsec tenant fun v => { v with counter := (envelopeOf c.sqe).counter, outcome := 3, env := some { e with durable := true } }
        let n := s.innerCmd c e
        let s := s.setCmd e.ref fun _ => n
        match s.fetchStatus tenant (if e.io then 1 else 0) e.inner true with
        | .success => .next s
        | st => .next (s.complete n st)
      else .next s

/-! ### The vault store (R537, R538) -/

/-- A copy of the store could not be written: the vault-store event, with the copy and a cause. -/
def State.storeCopyLost (s : State) (copy : Nat) (both : Bool) : State :=
  s.drew.raise 0x043 0 (if both then 3 else 1) [(1, copy), (1, s.diagCode)]

/-- VAULT_STORE_WRITE_DONE: the change is on the copies that are current, or on one of them; a compaction writes both anew. With neither, the
store is lost and every tenant is unclaimed (R538, R574). -/
def execVaultStoreWriteDone (okA okB : Bool) (s : State) : Outcome :=
  if s.sec.writes = 0 then .next s
  else
    let v := s.sec
    let a := okA && (v.storeA || v.compacting)
    let b := okB && (v.storeB || v.compacting)
    let gone := !a && !b
    let st := if gone then 3 else if a && b then (if v.st = 2 then 1 else v.st) else 2
    let s := s.withSec { v with
      writes := v.writes - 1, storeA := a, storeB := b, st := st, compacting := false
      mbBusy := v.mbBusy && !v.compacting, mbResult := if v.compacting then (if gone then 2 else 0) else v.mbResult }
    let s := if v.storeA && !a then s.storeCopyLost 0 gone else s
    let s := if v.storeB && !b then s.storeCopyLost 1 gone else s
    .next (if gone then s.withSec { s.sec with tenants := [], keys := [] } else s)

/-! ### Policies (R561 to R569) -/

/-- Which sections of a target's policy an issuer may change: the operator section, the tenant section (R562); none where it may change
neither. -/
def policySections (issuer target : Nat) : Option (Bool × Bool) :=
  if issuer = target then some (!isVf issuer, true) else if governs issuer target then some (true, false) else none

/-- Every reserved bit of a policy is zero, and it names its target. -/
def policyForm (b : List Byte) (target : Nat) : Bool :=
  field b 0 2 == target && field b 2 2 == 0 && field b 4 1 < 2 && field b 6 2 == 0 && field b 8 1 < 8 && field b 9 1 == 0 &&
    field b 10 2 < 1024 && field b 13 51 == 0

/-- The fields that the issuer may change hold values of their meaning. -/
def policyValues (b : List Byte) (target : Nat) (op ten : Bool) : Bool :=
  (!op || field b 5 1 ≤ 16) && (!ten || !((field b 8 1).testBit 2 && field b 10 2 == target))

/-- Take a policy's sections. A TK that is no longer volatile is stored again (R567); it is held in either case while unlocked. -/
def TenantSec.takePolicy (x : TenantSec) (b : List Byte) (op ten : Bool) : TenantSec :=
  let x := if op then { x with nsmgmt := (field b 4 1).testBit 0, nsquota := field b 5 1 } else x
  if ten then
    { x with capture := (field b 8 1).testBit 0, tkvol := (field b 8 1).testBit 1, pvalid := (field b 8 1).testBit 2, partner := field b 10 2 }
  else x

/-- Detach every namespace that is attached across a partnership (R569). -/
def State.endPartnership (s : State) (a b : Nat) : State :=
  let s := (s.owned a).foldl (fun s x => if x.2.attachedTo b then s.detach x.1 b else s) s
  (s.owned b).foldl (fun s x => if x.2.attachedTo a then s.detach x.1 a else s) s

/-- A release (R573): the namespaces, the partnership, the keys and the claim of a VF. -/
def State.release (s : State) (t : Nat) : State :=
  let s := (s.owned t).foldl (fun s x => s.deleteNs x.1 0xC5 x.2) s
  let s := match s.partnerOf t with
    | some p => s.endPartnership t p
    | none => s
  let x := s.tsec t
  let s := s.setTsec t fun x => { TenantSec.fresh t with nsmgmt := x.nsmgmt, nsquota := x.nsquota }
  s.keyEvent 2 t x.tkid x.skid

/-- The plan of a Set. Clearing TKVOL needs the tenant unlocked (R567). -/
def State.planPolicy (s : State) (c : Cmd) : Except Status (State × Nat) :=
  let issuer := c.ref.fn
  let target := c.sqe.cdw10 % 1024
  let b := c.sqe.data ++ List.replicate (64 - c.sqe.data.length) 0
  if s.txnIsOpen then .error .txnOpen
  else if c.sqe.cdw11.testBit 0 then
    (if !governs issuer target then .error .tenantScope
      else if (s.owned target).any fun x => s.ringBound x.1 then .error .zoneCaptureBound
      else .ok (s.release target, 0))
  else
    match policySections issuer target with
    | none => .error .tenantScope
    | some (op, ten) =>
      if !policyForm b target || !policyValues b target op ten then .error .invalidField
      else if ten && (s.tsec target).locked && !(field b 8 1).testBit 1 then .error .invalidField
      else
        let was := s.partnerOf target
        let t := s.setTsec target fun x => x.takePolicy b op ten
        match was with
        | some p => if t.partnerOf target = some p then .ok (t, 0) else .ok ((s.endPartnership target p).setTsec target fun x => x.takePolicy b op ten, 0)
        | none => .ok (t, 0)

/-- What a release waits for: the entries of the namespaces, and an envelope of the VF past its checks (R573). -/
def State.releaseWaits (s : State) (c : Cmd) : Bool :=
  c.sqe.cdw11.testBit 0 && (s.eraseWaits c || (s.tsec (c.sqe.cdw10 % 1024)).env.isSome)

/-- A release has begun once its command has passed its checks, until the command has completed. -/
def State.markReleasing (s : State) (r : CmdRef) (target : Nat) : State :=
  s.setTsec target fun x => { x with releasing := match s.cmd? r with
    | some c => c.phase == .background
    | none => false }

/-- TENANT_POLICY_SET (R562, R567, R569, R573). -/
def execTenantPolicySet (r : CmdRef) (s : State) : Outcome :=
  match s.cmd? r with
  | none => .next s
  | some c =>
    if !s.manyCsns then .next s
    else match s.runStored r 0xC5 s.releaseWaits s.planPolicy with
      | .next t =>
        .next (if c.sqe.opc = 0xC5 ∧ c.sqe.cdw11.testBit 0 = true ∧ governs r.fn (c.sqe.cdw10 % 1024) = true then t.markReleasing r (c.sqe.cdw10 % 1024) else t)
      | o => o

/-- TENANT_POLICY_GET (R561, R563). -/
def execTenantPolicyGet (r : CmdRef) (s : State) : Outcome :=
  s.runReady r true 0xC6 fun c =>
    let target := c.sqe.cdw10 % 1024
    if target = r.fn ∨ governs r.fn target = true then s.completeBytes c (s.policyBytes target) else s.complete c .tenantScope

/-- SEAL_STATUS (R560). -/
def execSealStatus (r : CmdRef) (s : State) : Outcome :=
  s.runReady r true 0xC7 fun c => s.completeBytes c (s.sealStatus r.fn)

/-! ### The vault mailbox (R585) -/

def State.mailbox (s : State) (result : Nat) : State := s.withSec { s.sec with mbResult := result }

/-- Request 0x01: known-answer tests, and the health test of the random generator. -/
def State.vaultSelfTest (s : State) (kat rng : Bool) : State :=
  if s.sec.mbBusy then s.mailbox 1
  else if kat && rng then (s.withSec { s.sec with trng := true }).mailbox 0
  else ((s.withSec { s.sec with st := 4, trng := rng }).mailbox 2).drew.raise 0x043 1 3 [(1, s.diagCode)]

/-- VAULT_SELF_TEST. -/
def execVaultSelfTest (_a : Agent) (kat rng : Bool) (s : State) : Outcome := .next (s.vaultSelfTest kat rng)

/-- Request 0x02: both copies of the store are written anew. -/
def State.compactStore (s : State) : State :=
  if s.sec.mbBusy then s.mailbox 1 else (s.withSec { s.sec with mbBusy := true, compacting := true }).storeWrite

/-- VAULT_STORE_COMPACT. -/
def execVaultStoreCompact (_a : Agent) (s : State) : Outcome := .next s.compactStore

/-- Request 0x03: Seal Status of the tenant in SEC_MB_DATA bytes 1:0. -/
def State.querySeal (s : State) : State :=
  let t := s.fld F.SEC_MB_DATA_DATA 0 % 65536
  if s.sec.mbBusy then s.mailbox 1
  else if 1024 ≤ t then s.mailbox 2
  else
    let b := s.sealStatus t
    ((List.range 16).foldl (fun s i => s.putFld F.SEC_MB_DATA_DATA i 0 (field b (4 * i) 4)) s).mailbox 0

/-- SEAL_STATUS_QUERY. -/
def execSealStatusQuery (_a : Agent) (s : State) : Outcome := .next s.querySeal

/-- A write of SEC_MB_CTL that names its request. What the tests of request 0x01 find is not of the write: free values. -/
def State.writeMailbox (s : State) (v : Nat) : State :=
  match v % 256 with
  | 1 => s.drew.vaultSelfTest ((Config.freeNat s.free).testBit 0) ((Config.freeNat s.free).testBit 1)
  | 2 => s.compactStore
  | 3 => s.querySeal
  | _ => s.mailbox (if s.sec.mbBusy then 1 else 3)

end Sys2Proof.Machine
end

