-- ==== Sys2Proof/Machine/Window.lean ====
section
/-!
DEFINITION. The Setup Window as its agents see it (R6 to R12, R651 to R653, R696, R704, R745): the value of every register, the read and write
of a dword, and the commands MISALIGNED_ACCESS, LOW_DWORD_READ, LOW_DWORD_WRITE, HIGH_DWORD_WRITE, REGISTER_WRITE and TX_WRITE.
-/

namespace Sys2Proof.Machine

/-! ### Read-only fields -/

def Bank.code : Bank → Nat
  | .uncharged => 0 | .charging => 1 | .ready => 2 | .testing => 3 | .flushing => 4

def LinkState.code : LinkState → Nat
  | .down => 0 | .training => 1 | .active => 2 | .degraded => 3 | .failed => 4

/-- How many elements of a map meet a condition. -/
def AMap.count {α : Type} (m : AMap α) (p : Nat → α → Bool) : Nat := (m.filter fun e => p e.1 e.2).length

/-- RLK and ZON (spec/02, spec/03, spec/10). -/
def State.viewZon (s : State) (r : RegRef) : List (Fld × Nat) :=
  match r.reg with
  | .RLK_STAT => [(F.RLK_STAT_HIWAT, s.col.hiwat), (F.RLK_STAT_INUSE, s.col.table.length)]
  | .RLK_STALLS => [(F.RLK_STALLS_STALLS, s.col.stalls)]
  | .RLK_MAXWAIT => [(F.RLK_MAXWAIT_MAXWAIT, s.col.maxwait)]
  | .RLK_FN_USE => [(F.RLK_FN_USE_USE, s.lockUse r.i)]
  | .ZON_STAT => [(F.ZON_STAT_ACTIVE, s.zon.zdt.count fun _ z => z.zs.isActive), (F.ZON_STAT_OPEN, s.zon.zdt.count fun _ z => z.zs.isOpen)]
  | .ZON_ERQ => [(F.ZON_ERQ_BLOCKS, s.med.bit.count fun _ b => b.st == .eraseQueue || b.st == .erasing)]
  | .ZON_UNBOUND => [(F.ZON_UNBOUND_COUNT, s.zon.zdt.count fun _ z => z.zs == .empty && !z.bound)]
  | .ZON_PL_USE => [(F.ZON_PL_USE_RESERVED, s.reservedHandles)]
  | .ZON_DS_STAT => [(F.ZON_DS_STAT_PKGS, s.dsSpan r.i), (F.ZON_DS_STAT_FREE, s.dsFree r.i)]
  | .ZON_CKSTAT => [(F.ZON_CKSTAT_ACT1, b2n s.med.ck1.active), (F.ZON_CKSTAT_ACT2, b2n s.med.ck2.active), (F.ZON_CKSTAT_COPY, s.ckCopied)]
  | .ZON_CKSEQ1 => [(F.ZON_CKSEQ1_SEQ, s.med.ck1.doneSeq)]
  | .ZON_CKSEQ2 => [(F.ZON_CKSEQ2_SEQ, s.med.ck2.doneSeq)]
  | .ZON_EW_STAT => [(F.ZON_EW_STAT_ACTIVE, s.conditions)]
  | .ZON_DS_HEALTH =>
    let p := s.pecOf (s.dsDies r.i)
    let n := p.2.2.2
    [(F.ZON_DS_HEALTH_MAXPEC, p.2.2.1), (F.ZON_DS_HEALTH_AVGPEC, p.2.1 / max 1 n), (F.ZON_DS_HEALTH_MINPEC, if n = 0 then 0 else p.1),
     (F.ZON_DS_HEALTH_PU, if (s.dsDies r.i).isEmpty then 0 else s.usedOf r.i), (F.ZON_DS_HEALTH_AS, if (s.dsDies r.i).isEmpty then 0 else s.spareOf r.i)]
  | _ => []

/-- BPM and CAP (spec/04). -/
def State.viewCap (s : State) (r : RegRef) : List (Fld × Nat) :=
  let c := s.capRing r.i
  match r.reg with
  | .BPM_LEVEL => [(F.BPM_LEVEL_DEV, s.devLevel), (F.BPM_LEVEL_POOL, ((List.range 6).map fun p => (s.pool p).level * 4 ^ p).sum)]
  | .BPM_POOL_FREE => [(F.BPM_POOL_FREE_FREE, s.poolFree r.i)]
  | .BPM_TN_USE => [(F.BPM_TN_USE_USE, s.ownerUse r.i true / 4096)]
  | .CAP_WINSUM => [(F.CAP_WINSUM_MIB, s.winSum)]
  | .CAP_STAT => [(F.CAP_STAT_STATE, c.st.code), (F.CAP_STAT_FAULT, c.fault), (F.CAP_STAT_ERR, c.err), (F.CAP_STAT_ZQ, c.zq.length)]
  | .CAP_ARRIVED => [(F.CAP_ARRIVED_A, c.reach)]
  | .CAP_CRLIM => [(F.CAP_CRLIM_CRLIM, c.crlim)]
  | .CAP_ACK_ROFF => [(F.CAP_ACK_ROFF_ACK_ROFF, c.ack)]
  | .CAP_ZPOS => [(F.CAP_ZPOS_ZONE, match c.zq with
    | z :: _ => z.zone
    | [] => 0), (F.CAP_ZPOS_ACKB, c.ackb)]
  | .CAP_RECORDS => [(F.CAP_RECORDS_RECORDS, c.records)]
  | .CAP_EVCNT => [(F.CAP_EVCNT_TRUNC, c.trunc), (F.CAP_EVCNT_CONT, c.cont), (F.CAP_EVCNT_SEQGAP, c.seqgap), (F.CAP_EVCNT_DISCARD, c.discard)]
  | _ => []

/-- HLD and STR (spec/05, spec/08). -/
def State.viewHld (s : State) (r : RegRef) : List (Fld × Nat) :=
  match r.reg with
  | .HLD_STAT => [(F.HLD_STAT_STATE, s.hld.bank.code), (F.HLD_STAT_WT, b2n s.hld.wt), (F.HLD_STAT_LINKS, s.flushPkgs.length), (F.HLD_STAT_VBANK, s.hld.vbank)]
  | .HLD_TRES => [(F.HLD_TRES_CUF, s.hld.cuf), (F.HLD_TRES_ESR, s.hld.esr), (F.HLD_TRES_RESULT, s.hld.result)]
  | .HLD_TTIME => [(F.HLD_TTIME_NS, s.hld.testEnd)]
  | .HLD_BUDGET => [(F.HLD_BUDGET_LIMIT, s.hld.limit / mib), (F.HLD_BUDGET_B, s.hld.budget / mib)]
  | .HLD_RESV => [(F.HLD_RESV_BYTES, s.hld.resv)]
  | .STR_JSTAT => [(F.STR_JSTAT_AOK, b2n s.jnl.okA), (F.STR_JSTAT_BOK, b2n s.jnl.okB), (F.STR_JSTAT_REEST, b2n s.jnl.reest),
      (F.STR_JSTAT_FREEA, s.jnl.freeA), (F.STR_JSTAT_FREEB, s.jnl.freeB)]
  | .STR_JPSEQ => [(F.STR_JPSEQ_PSEQ, s.jnl.pseq)]
  | .STR_JTAIL => [(F.STR_JTAIL_SLOTS, ((s.jnl.recs.filter fun x => x.credit && !x.onBoth).map fun x => x.body.slots).sum)]
  | .STR_CSNCEIL => [(F.STR_CSNCEIL_CEIL, s.jnl.ceiling)]
  | .STR_FLAREA => [(F.STR_FLAREA_FLCAP, s.med.flcap), (F.STR_FLAREA_A1CLEAN, b2n s.hld.area1.isNone), (F.STR_FLAREA_A0CLEAN, b2n s.hld.area0.isNone),
      (F.STR_FLAREA_NEXT, (s.hld.imgSeq + 1) % 2)]
  | .STR_LASTFL => [(F.STR_LASTFL_INCOMPLETE, b2n s.hld.incomplete), (F.STR_LASTFL_LOST, s.hld.lastLost), (F.STR_LASTFL_UNITS, s.hld.lastUnits)]
  | .STR_RBSTAT => [(F.STR_RBSTAT_ACTIVE, b2n s.str.rebuild.isSome), (F.STR_RBSTAT_MEMBER, (s.str.rebuild.map (·.member)).getD 0),
      (F.STR_RBSTAT_SETID, (s.str.rebuild.map (·.setid)).getD 0)]
  | .STR_RBPEND => [(F.STR_RBPEND_SETS, s.str.sets.count fun _ x => !x.dead && (x.mlost != 0 || x.mrebuild != 0))]
  | .STR_RBROWS => [(F.STR_RBROWS_TOTAL, (s.str.rebuild.map (·.total)).getD 0), (F.STR_RBROWS_DONE, (s.str.rebuild.map (·.doneRows)).getD 0)]
  | .STR_STG => [(F.STR_STG_BOUND, s.zon.stg.count fun k _ => match s.set? (stagingSet k) with
    | some x => !x.dead
    | none => false)]
  | .STR_STGUNITS => [(F.STR_STGUNITS_UNITS, s.str.staging.length)]
  | .STR_LOSTCNT => [(F.STR_LOSTCNT_COUNT, s.str.lostTotal)]
  | .STR_CNT => [(F.STR_CNT_COUNT, s.str.cnt.getD r.i 0)]
  | _ => []

/-- LNK, DDK and SCH (spec/06, spec/07, spec/09). -/
def State.viewLnk (s : State) (r : RegRef) : List (Fld × Nat) :=
  let l := s.link r.i
  let d := s.sdie r.i
  match r.reg with
  | .LNK_STAT => [(F.LNK_STAT_STATE, l.st.code), (F.LNK_STAT_UP1, b2n l.lane1.up), (F.LNK_STAT_UP0, b2n l.lane0.up), (F.LNK_STAT_INH, l.inh),
      (F.LNK_STAT_PHASE, if l.st = .training then (if l.lane0.training then l.lane0.phase else l.lane1.phase) else 0), (F.LNK_STAT_OUT, l.tags.length)]
  | .LNK_TXEQ => [(F.LNK_TXEQ_DN1, l.lane1.dnPreset), (F.LNK_TXEQ_DN0, l.lane0.dnPreset), (F.LNK_TXEQ_UP1, l.lane1.upPreset),
      (F.LNK_TXEQ_UP0, l.lane0.upPreset)]
  | .LNK_BRIDGE_ID => [(F.LNK_BRIDGE_ID_BOOTCNT, l.bootcnt), (F.LNK_BRIDGE_ID_ID, l.id)]
  | .LNK_DIES => [(F.LNK_DIES_DIES, l.dies)]
  | .LNK_CNT => [(F.LNK_CNT_COUNT, l.cnt.getD r.j 0)]
  | .DDK_SOFTQ => [(F.DDK_SOFTQ_ENG, (s.enginesOn.map fun e => 2 ^ e).sum), (F.DDK_SOFTQ_WAIT, if s.pwr.doms.isEmpty then 0 else if s.enginesOn.isEmpty then 65535 else s.softAhead 2 / (2000 * s.enginesOn.length))]
  | .DDK_CNT => [(F.DDK_CNT_COUNT, s.ddk.cnt.getD (r.i * 16 + r.j) 0)]
  | .SCH_BSTAT => [(F.SCH_BSTAT_HELD, s.heldN), (F.SCH_BSTAT_BENCHED, s.benchedN)]
  | .SCH_LMON_TOTAL => [(F.SCH_LMON_TOTAL_TOTAL, s.sch.total)]
  | .SCH_LMON_OVER => [(F.SCH_LMON_OVER_OVER, s.sch.overN)]
  | .SCH_LMON_MAX => [(F.SCH_LMON_MAX_MAX, s.sch.max)]
  | .SCH_TN_STAT => [(F.SCH_TN_STAT_RUF, b2n (s.underFloor r.i 0)), (F.SCH_TN_STAT_WUF, b2n (s.underFloor r.i 1)), (F.SCH_TN_STAT_WAITING, (s.awaiting r.i).length)]
  | .SCH_DIE => [(F.SCH_DIE_STATE, if s.dieFailed r.i then 3 else if d.held then 2 else if d.benched then 1 else 0),
      (F.SCH_DIE_SUSPN, (d.op.map (·.suspN)).getD 0), (F.SCH_DIE_PGM, d.pgm / 10000), (F.SCH_DIE_SUSPLAT, d.susplat / 100), (F.SCH_DIE_RR, d.rr)]
  | .SCH_DS_SNOW => [(F.SCH_DS_SNOW_ACTIVE, b2n (s.sch.snow.get? r.i).isSome), (F.SCH_DS_SNOW_F, s.sch.snow.getD r.i 256)]
  | .SCH_LINK => [(F.SCH_LINK_BENCHED, b2n (s.sch.linkBench.get? r.i).isSome), (F.SCH_LINK_RR, median ((s.linkDies r.i).map fun k => (s.sdie k).rr))]
  | _ => []

/-- SEC, DRM, MEM and PWR (spec/11 to spec/13). -/
def State.viewSec (s : State) (r : RegRef) : List (Fld × Nat) :=
  let x := s.tsec r.i
  let c := s.chan r.i
  let p := s.dom r.i
  match r.reg with
  | .SEC_STAT => [(F.SEC_STAT_STATE, s.sec.st), (F.SEC_STAT_TRNG, b2n s.sec.trng), (F.SEC_STAT_STOREA, b2n (s.sec.storeA && s.sec.st != 0)),
      (F.SEC_STAT_STOREB, b2n (s.sec.storeB && s.sec.st != 0)), (F.SEC_STAT_CLAIMED, s.sec.tenants.count fun _ t => t.claimed)]
  | .SEC_FUSE => [(F.SEC_FUSE_SVNFLOOR, s.sec.svnFloor), (F.SEC_FUSE_KREVOKED, s.sec.krevoked), (F.SEC_FUSE_KVALID, s.sec.kvalid), (F.SEC_FUSE_PROD, b2n s.sec.prod)]
  | .SEC_SEALFAIL => [(F.SEC_SEALFAIL_COUNT, s.sec.sealFail)]
  | .SEC_MB_CTL => [(F.SEC_MB_CTL_BUSY, b2n s.sec.mbBusy), (F.SEC_MB_CTL_RESULT, s.sec.mbResult)]
  | .SEC_TN_STATE => [(F.SEC_TN_STATE_PARTNER, (s.partnerOf r.i).getD 0), (F.SEC_TN_STATE_NSOWNED, (s.owned r.i).length),
      (F.SEC_TN_STATE_PARTNERED, b2n (s.partnerOf r.i).isSome), (F.SEC_TN_STATE_TKVOL, b2n x.tkvol), (F.SEC_TN_STATE_LOCKED, b2n x.locked),
      (F.SEC_TN_STATE_CLAIMED, b2n x.claimed)]
  | .DRM_STAT => [(F.DRM_STAT_READY, b2n (!s.channels.isEmpty && s.channels.all fun n => (s.chan n).trained)),
      (F.DRM_STAT_TRAINED, ((List.range 4).map fun n => b2n (s.chan n).trained * 2 ^ n).sum),
      (F.DRM_STAT_MARKED, ((List.range 8).map fun k => b2n (s.markedDev (k / 2) (k % 2)).isSome * 2 ^ k).sum)]
  | .DRM_MR_CMD => [(F.DRM_MR_CMD_RDATA, c.rdata)]
  | .DRM_TRN_CTL => [(F.DRM_TRN_CTL_BUSY, b2n c.busy)]
  | .DRM_TRN_FAIL => [(F.DRM_TRN_FAIL_LANES, c.fail)]
  | .DRM_TRN_FIRST => [(F.DRM_TRN_FIRST_VALID, b2n c.first.isSome), (F.DRM_TRN_FIRST_BURST, c.first.getD 0)]
  | .DRM_CH_CNT => [(F.DRM_CH_CNT_COUNT, c.cnt.getD r.j 0)]
  | .MEM_SRAM_CNT => [(F.MEM_SRAM_CNT_UE, s.drm.sramUe), (F.MEM_SRAM_CNT_CE, s.drm.sramCe)]
  | .MEM_SRAM_LASTUE => [(F.MEM_SRAM_LASTUE_VALID, b2n s.drm.sramLast.isSome), (F.MEM_SRAM_LASTUE_OFFSET, s.drm.sramLast.getD 0)]
  | .MEM_SCR_STAT => [(F.MEM_SCR_STAT_BUSY, b2n s.drm.scrub.busy), (F.MEM_SCR_STAT_RESULT, s.drm.scrub.result), (F.MEM_SCR_STAT_PROGRESS, s.drm.scrub.progress)]
  | .MEM_SCR_REC => [(F.MEM_SCR_REC_DATA, ofBytes ((s.drm.scrub.rec_.drop (4 * r.i)).take 4))]
  | .PWR_CMD_STAT => [(F.PWR_CMD_STAT_DOMAIN, s.pwr.cmdDom), (F.PWR_CMD_STAT_RESULT, s.pwr.cmdRes)]
  | .PWR_ON => [(F.PWR_ON_ON, ((List.range 32).map fun k => b2n (decide (32 * r.i + k < domains) && s.isOn (32 * r.i + k)) * 2 ^ k).sum)]
  | .PWR_WAKE_STAT => [(F.PWR_WAKE_STAT_LEVEL, s.pwr.pins), (F.PWR_WAKE_STAT_PEND, s.pwr.pend)]
  | .PWR_DOM => [(F.PWR_DOM_STATE, if s.pwr.doms.isEmpty then 0 else p.st.code), (F.PWR_DOM_TARGET, if s.pwr.doms.isEmpty then 0 else p.target.code), (F.PWR_DOM_AP, p.ap), (F.PWR_DOM_CLASS, domClass r.i),
      (F.PWR_DOM_HS, b2n (domHs r.i)), (F.PWR_DOM_REASON, p.reason), (F.PWR_DOM_RESULT, p.result)]
  | _ => []

/-- GLB, EVT and FWS (spec/01, spec/14, spec/15). -/
def State.viewGlb (s : State) (r : RegRef) : List (Fld × Nat) :=
  let t := s.win.txn
  match r.reg with
  | .GLB_ID => [(F.GLB_ID_PART, 0x4400), (F.GLB_ID_STEP, 0x10), (F.GLB_ID_LAYOUT, 0x01)]
  | .GLB_STAT => [(F.GLB_STAT_LOCKED, b2n s.win.locked), (F.GLB_STAT_GRADE, b2n s.sec.gradeX), (F.GLB_STAT_BIFUR, b2n s.ao.bifur), (F.GLB_STAT_STAGE, min 8 s.boot.stage)]
  | .GLB_LOCK => [(F.GLB_LOCK_LOCK, b2n s.win.locked)]
  | .GLB_AOTIME => [(F.GLB_AOTIME_NS, s.ao.time)]
  | .GLB_CSNCTR => [(F.GLB_CSNCTR_CSN, s.jnl.csn)]
  | .GLB_ESNCTR => [(F.GLB_ESNCTR_ESN, s.ev.nextEsn)]
  | .GLB_TXN_STAT => [(F.GLB_TXN_STAT_STATE, t.state), (F.GLB_TXN_STAT_OWNER, t.owner), (F.GLB_TXN_STAT_RESULT, t.result), (F.GLB_TXN_STAT_TXERR, b2n t.txerr),
      (F.GLB_TXN_STAT_BEGINERR, b2n t.beginerr), (F.GLB_TXN_STAT_OWNERR, b2n t.ownerr), (F.GLB_TXN_STAT_CMDERR, b2n t.cmderr), (F.GLB_TXN_STAT_TXNUM, t.txnum)]
  | .GLB_TXN_ERR => [(F.GLB_TXN_ERR_REASON, t.reason), (F.GLB_TXN_ERR_OFFSET, t.offset)]
  | .EVT_TAIL => [(F.EVT_TAIL_TAIL, (s.ring r.i).tail)]
  | .EVT_LOST => [(F.EVT_LOST_COUNT, (s.ring r.i).lost)]
  | .FWS_STAT => [(F.FWS_STAT_BUSY, b2n s.boot.op.isSome), (F.FWS_STAT_RECOV, b2n s.boot.recov), (F.FWS_STAT_BUSYSEC, (s.boot.op.map fun o => sectorOf o.addr).getD 0),
      (F.FWS_STAT_PENDFLAG, s.boot.pendflag)]
  | .FWS_RESULT => [(F.FWS_RESULT_RESULT, s.boot.result)]
  | .FWS_SLOT => [(F.FWS_SLOT_TRIAL, b2n s.boot.trial), (F.FWS_SLOT_FALLBACK, b2n s.boot.fallback), (F.FWS_SLOT_RUNSVN, s.boot.runSvn), (F.FWS_SLOT_PREF, s.boot.pref),
      (F.FWS_SLOT_RUN, s.boot.run)]
  | .FWS_FAULT => [(F.FWS_FAULT_VALID, b2n s.boot.faultValid), (F.FWS_FAULT_ADDR, s.boot.fault.getD 0)]
  | _ => []

/-- The value of a register as a read returns it (R12): the stored fields, and the read-only and write-one fields as they stand. -/
def State.regView (s : State) (r : RegRef) : Nat :=
  (s.regWord r &&& r.reg.storeMask) +
    packed (s.viewZon r ++ s.viewCap r ++ s.viewHld r ++ s.viewLnk r ++ s.viewSec r ++ s.viewGlb r)

/-! ### Reads -/

/-- Does the window answer in a block: in recovery mode, only GLB, EVT and FWS (R696)? -/
def State.blockOpen (s : State) (off : Nat) : Bool := !s.boot.recov || off / 65536 == 0 || off / 65536 == 1 || off / 65536 == 0xC

/-- A register at a dword offset: the register, and whether the offset is its high dword; nothing at an undefined offset (R652). -/
def State.regAt (s : State) (off : Nat) : Option (RegRef × Bool) := if s.blockOpen off then locate off else none

/-- The key of an agent's latch or held dword for a register (R10). -/
def latchKey (a : Agent) (off : Nat) : Nat := off * 32 + match a with
  | .pf0 => 0
  | .pf1 => 1
  | .core c => 2 + c
  | .mgmt => 18

/-- The dword at an offset, with no effect on a latch. -/
def State.dwordAt (s : State) (off : Nat) : Nat :=
  match s.regAt (off / 4 * 4) with
  | none => 0
  | some (r, high) => if high then s.regView r / 2 ^ 32 else s.regView r % 2 ^ 32

/-- A read of a dword: the low dword of a 64-bit register latches the high one for the agent, and the next read of the high dword returns what
is latched (R8, R10). -/
def State.readDword (s : State) (a : Agent) (off : Nat) : State × Nat :=
  match s.regAt off with
  | none => (s, 0)
  | some (r, high) =>
    let v := s.regView r
    let k := latchKey a r.off
    if high then
      match s.win.latch.get? k with
      | some x => (s.withWin { s.win with latch := s.win.latch.del k }, x.toNat)
      | none => (s, v / 2 ^ 32)
    else if r.reg.place.wide then (s.withWin { s.win with latch := s.win.latch.ins k (BitVec.ofNat 32 (v / 2 ^ 32)) }, v % 2 ^ 32)
    else (s, v % 2 ^ 32)

/-- A naturally aligned 64-bit read: of a 64-bit register whole, its high dword latched and read at once; else of two dwords (R6, R8). -/
def State.readQword (s : State) (a : Agent) (off : Nat) : State × Nat :=
  let x := s.readDword a off
  let y := x.1.readDword a (off + 4)
  (y.1, x.2 + 2 ^ 32 * y.2)

/-! ### Writes -/

/-- Store the RW fields, and before boot lock the LK fields, of a written word (R12). -/
def State.storeFields (s : State) (r : RegRef) (v : Nat) : State :=
  let m := r.reg.maskOf fun a => a == .rw || (a == .lk && !s.win.locked)
  if m = 0 then s else s.putReg r (merge (s.regWord r) v m)

/-- What writing a register does besides storing its fields: each register that acts on a write has the operation of its own row. -/
def State.actOnWrite (s : State) (a : Agent) (r : RegRef) (v : Nat) : State :=
  match r.reg with
  | .RLK_CTL => s.writeRlkCtl v
  | .BPM_POOL_CNT => s.relevel r.i
  | .CAP_CTL => s.writeCapCtl r.i v
  | .CAP_ZQ_PUSH => s.pushZone r.i (v % 2 ^ 20)
  | .HLD_CTL => s.writeHldCtl v
  | .LNK_CTL =>
    if !s.flag F.LNK_CTL_EN r.i then s
    else if v.testBit 7 then s.trainLink r.i 0 5 else if v.testBit 6 then s.trainLink r.i 1 4 else s
  | .LNK_CNT_CLR => if v.testBit 0 then s.setLink r.i fun l => { l with cnt := [] } else s
  | .DDK_CNT_CLR => if v.testBit 0 then s.withDdk { s.ddk with cnt := s.ddk.cnt.keep fun k _ => k / 16 != r.i } else s
  | .STR_CNT_CLR => if v.testBit 0 then s.withStr { s.str with cnt := [] } else s
  | .SEC_MB_CTL => s.writeMailbox v
  | .PWR_CMD => s.writePwrCmd v
  | .PWR_WAKE_STAT => s.withPwr { s.pwr with pend := s.pwr.pend - (s.pwr.pend &&& v % 256) }
  | .GLB_LOCK => if v.testBit 0 then s.withWin { s.win with locked := true } else s
  | .GLB_TXN_CTL => s.writeTxnCtl a v
  | .GLB_TXN_STAT => s.setTxn fun t => { t with
      txerr := t.txerr && !v.testBit 19, beginerr := t.beginerr && !v.testBit 18, ownerr := t.ownerr && !v.testBit 17, cmderr := t.cmderr && !v.testBit 16 }
  | .FWS_CTL => s.writeFwsCtl a v
  | .FWS_FAULT => if v.testBit 31 then s.withBoot { s.boot with faultValid := false } else s
  | _ => s

/-- A write of a whole register by an agent (R12, R655, R704, R745). -/
def State.writeReg (s : State) (a : Agent) (r : RegRef) (v : Nat) : State :=
  let s := if r.reg.maskOf (· == .tx) = 0 then s else s.writeTx a r v
  match r.reg with
  | .EVT_CFG => s.writeEvtCfg a r.i v
  | .EVT_BASE | .EVT_TAILADDR => s.writeRingAddr a r v
  | .SCH_LMON_CFG => s.writeLmon v
  | .DRM_MR_CMD => (s.writeMrCmd r.i v (Config.freeNat s.free % 256)).drew
  | .DRM_TRN_CTL => s.writeTrnCtl a r.i v
  | .DRM_TRN_DLY => s.writeTrnDly a r.i v
  | .MEM_SCR_CTL => s.writeScrCtl a v
  | .FWS_CMD => s.writeFwsCmd a v
  | _ =>
    if (r.reg = .FWS_ADDR ∨ r.reg = .FWS_BUF) ∧ s.fwsMay a = false then s.raiseDiscarded r.off a
    else if outOfRange r.reg v then s.raiseDiscarded r.off a
    else (s.storeFields r v).actOnWrite a r v

/-- A write of a dword (R9, R10, R652): the low dword of a 64-bit register is held for the agent; the high dword applies both, the low one
being the current value where the agent holds none. DESIGN CHOICE (log entry 137): the current value is the committed one, for the owner of
a transaction with a shadow of the register too. -/
def State.writeDword (s : State) (a : Agent) (off v : Nat) : State :=
  match s.regAt off with
  | none => s
  | some (r, high) =>
    let k := latchKey a r.off
    if high then
      let low := match s.win.held.get? k with
        | some x => x.toNat
        | none => s.regView r % 2 ^ 32
      (s.withWin { s.win with held := s.win.held.del k }).writeReg a r (low + v % 2 ^ 32 * 2 ^ 32)
    else if r.reg.place.wide then s.withWin { s.win with held := s.win.held.ins k (BitVec.ofNat 32 v) }
    else s.writeReg a r (v % 2 ^ 32)

/-- A naturally aligned 64-bit write: of a 64-bit register whole, which writes both its dwords, so that the agent holds no older low dword of
it any more (R6, R9); else of two dwords. -/
def State.writeQword (s : State) (a : Agent) (off v : Nat) : State :=
  match s.regAt off with
  | some (r, false) =>
    if r.reg.place.wide then
      (s.withWin { s.win with held := s.win.held.del (latchKey a r.off) }).writeReg a r (v % 2 ^ 64)
    else (s.writeReg a r (v % 2 ^ 32)).writeDword a (off + 4) (v / 2 ^ 32)
  | _ => (s.writeDword a off (v % 2 ^ 32)).writeDword a (off + 4) (v / 2 ^ 32)

/-- Is an access of a size at an offset one that R6 allows? -/
def aligned (off size : Nat) : Bool := (size == 4 && off % 4 == 0) || (size == 8 && off % 8 == 0)

/-! ### The commands -/

/-- MISALIGNED_ACCESS (R7). DESIGN CHOICE (log entry 136): R7 gives the bytes of the containing dword alone, so bytes asked for beyond it read as
zero. -/
def execMisalignedAccess (a : Agent) (off size : Nat) (write : Bool) (_v : Nat) (s : State) : Outcome :=
  if size = 0 ∨ 8 < size ∨ aligned off size = true then .next s
  else
    let s := s.raise 0 0 1 [(4, off), (1, size), (1, b2n write), (1, agentCode a)]
    .next (if write then s else s.send (.readValue a off (s.dwordAt off / 2 ^ (8 * (off % 4)) % 2 ^ (8 * size))))

/-- LOW_DWORD_READ (R6, R8): a naturally aligned read of 32 or 64 bits. -/
def execLowDwordRead (a : Agent) (at_ : ReadAt) (s : State) : Outcome :=
  if !aligned at_.off at_.size then .next s
  else
    let x := if at_.size = 4 then s.readDword a at_.off else s.readQword a at_.off
    .next (x.1.send (.readValue a at_.off x.2))

/-- LOW_DWORD_WRITE (R9): not enabled but at the low dword of a 64-bit register. -/
def execLowDwordWrite (a : Agent) (off v : Nat) (s : State) : Outcome :=
  match s.regAt off with
  | some (r, false) => if r.reg.place.wide then .next (s.writeDword a off v) else .next s
  | _ => .next s

/-- HIGH_DWORD_WRITE (R9, R10): not enabled but at the high dword of a 64-bit register. -/
def execHighDwordWrite (a : Agent) (off v : Nat) (s : State) : Outcome :=
  match s.regAt off with
  | some (_, true) => .next (s.writeDword a off v)
  | _ => .next s

/-- REGISTER_WRITE (R12, R745): an aligned write of 32 or 64 bits. -/
def execRegisterWrite (a : Agent) (off size v : Nat) (s : State) : Outcome :=
  if !aligned off size then .next s
  else if size = 4 then .next (s.writeDword a off v)
  else .next (s.writeQword a off v)

/-- TX_WRITE (R655): an aligned write to a register that has TX fields. -/
def execTxWrite (a : Agent) (off size v : Nat) (s : State) : Outcome :=
  match s.regAt off with
  | some (r, _) =>
    if r.reg.maskOf (· == .tx) = 0 ∨ aligned off size = false then .next s
    else if size = 4 then .next (s.writeDword a off v)
    else .next (s.writeQword a off v)
  | none => .next s

end Sys2Proof.Machine
end

