-- ==== Sys2Proof/Machine/Mgmt.lean ====
section
/-!
DEFINITION. The management endpoint (R660, R676 to R679, R732, R733 of spec/14_setup_window_events.md and spec/16_package_electrical.md), with
the commands MCTP_CONTROL_MESSAGE, READ_NVME_MI_DATA_STRUCTURE, NVM_SUBSYSTEM_HEALTH_STATUS_POLL, CONTROLLER_HEALTH_STATUS_POLL,
CONFIGURATION_SET, CONFIGURATION_GET, VPD_READ, VPD_WRITE, MI_RESET, TUNNELLED_ADMIN_COMMAND, SETUP_WINDOW_ACCESS, MANAGEMENT_ENDPOINT_RESET,
DYNAMIC_ADDRESS_ASSIGNMENT, NVME_MI_SEND and NVME_MI_RECEIVE. Message formats, operation codes and response statuses are the MCTP and NVMe-MI
standards' (PRESUMED).
-/

namespace Sys2Proof.Machine

/-- Response statuses of NVMe-MI. -/
def miOk : Nat := 0x00
def miBadOpcode : Nat := 0x03
def miBadParam : Nat := 0x04

/-- What a management command answers: its status, 24 bits of response, and data. -/
structure MiRes where
  status : Nat
  resp : Nat
  data : List Byte
  deriving DecidableEq, Repr

def MiRes.bad : MiRes := ⟨miBadParam, 0, []⟩
def MiRes.good (data : List Byte) : MiRes := ⟨miOk, 0, data⟩

/-- Send the answer over the bus. -/
def State.answer (s : State) (x : MiRes) : State := s.send (.mgmt (miAnswer x.status x.resp x.data))

/-- Run a management command unless a Pause is in force (R677). -/
def State.miRun (s : State) (f : State → State × MiRes) : Outcome :=
  if s.mgt.paused then .next s else .next ((f s).1.answer (f s).2)

/-! ### Data structures and health -/

/-- The board maker's fixed 7-bit address (R732). -/
def State.fixedAddr (s : State) : Nat := Config.imageTable (s.win.img.getD 0) 5 1024 % 128

/-- Controllers that exist: both physical functions and the virtual functions that are online. -/
def State.controllers (s : State) : List Nat := 0 :: 1 :: (vfsOf 0 ++ vfsOf 1).filter fun v => (s.fn v).online

/-- Read NVMe-MI Data Structure: 0 subsystem, 1 port, 2 controller list, 3 controller, 4 optional commands. -/
def State.miRead (s : State) (dtyp portid ctlid : Nat) : MiRes :=
  match dtyp with
  | 0 => .good (layAt 0 [(0, 1, 0), (1, 1, 1), (2, 1, 2)] 32)
  | 1 => if portid = 0 then .good (layAt 0 [(0, 1, 2), (2, 2, 4224), (10, 1, s.fixedAddr), (11, 1, 3)] 32) else .bad
  | 2 => .good (layRow ((2, (s.controllers.filter fun x => ctlid ≤ x).length) :: (s.controllers.filter fun x => ctlid ≤ x).map fun x => (2, x)))
  | 3 =>
    if s.controllers.contains ctlid then
      .good (layAt 0 [(0, 1, s.portOf ctlid), (5, 1, 1), (6, 2, s.routingId ctlid), (8, 4, s.cfgDword ctlid 0x00), (12, 4, s.cfgDword ctlid 0x2C)] 32)
    else .bad
  | 4 => .good (layRow [(2, 0)])
  | _ => .bad

/-- A temperature in kelvins as one byte of degrees, as the health data structure codes it. -/
def miTemp (k : Nat) : Nat := min 0x7F (k - 273)

/-- NVM Subsystem Health Status Poll: the Critical Warning of R526 at device scope, and the change flags (R679). -/
def State.miHealth (s : State) : MiRes :=
  .good (layAt 0 [(0, 1, 0x28 + 4 * b2n (s.port 0).up + b2n (s.port 1).up * 2), (1, 1, 0xFF - s.critWarn 0 .device % 256), (2, 1, miTemp (s.composite .device)),
    (3, 1, s.scopeUsed .device), (4, 2, s.mgt.changes)] 8)

def State.clearChanges (s : State) (mask : Nat) : State := s.withMgt { s.mgt with changes := s.mgt.changes - (s.mgt.changes &&& mask) }

/-- A controller's health: identifier, status, temperature, percentage used, spare and critical warning. -/
def State.ctrlHealth (s : State) (t : Nat) : List Byte :=
  let x : Scope := if isVf t then .tenant t else .device
  layAt 0 [(0, 2, t), (2, 2, b2n (s.fn t).rdy + 4 * (s.fn t).shst), (4, 2, s.composite x), (6, 1, s.scopeUsed x), (7, 1, s.scopeSpare x), (8, 1, s.critWarn t x)] 16

/-! ### Configuration and VPD -/

/-- Configuration Set: 1 SMBus frequency, 2 health status change (the flags named are cleared), 3 MCTP transmission unit size. -/
def State.configSet (s : State) (cid port v : Nat) : State × MiRes :=
  if cid = 2 then (s.clearChanges (v % 65536), .good [])
  else if port ≠ 0 then (s, .bad)
  else if cid = 1 then (if s.brd.mgmtSel || v < 1 || 3 < v then (s, .bad) else (s.withMgt { s.mgt with freq := v }, .good []))
  else if cid = 3 then (if v < 64 ∨ 4224 < v then (s, .bad) else (s.withMgt { s.mgt with unit := v }, .good []))
  else (s, .bad)

def State.configGet (s : State) (cid port : Nat) : MiRes :=
  if cid = 2 then .good []
  else if port ≠ 0 then .bad
  else if cid = 1 then ⟨miOk, s.mgt.freq, []⟩
  else if cid = 3 then ⟨miOk, s.mgt.unit, []⟩
  else .bad

def vpdSize : Nat := 512

/-- A byte of the VPD: as written, else as the board maker's image has it. -/
def State.vpdByte (s : State) (a : Nat) : Byte := s.mgt.vpd.getD a (BitVec.ofNat 8 (Config.imageTable (s.win.img.getD 0) 5 a))

def State.vpdRead (s : State) (off len : Nat) : MiRes :=
  if vpdSize < off + len then .bad else .good ((List.range len).map fun i => s.vpdByte (off + i))

def State.vpdWrite (s : State) (off : Nat) (bs : List Byte) : State × MiRes :=
  if vpdSize < off + bs.length then (s, .bad)
  else (s.withMgt { s.mgt with vpd := bs.zipIdx.foldl (fun m x => m.ins (off + x.2) x.1) s.mgt.vpd }, .good [])

/-! ### The Setup Window (R679) -/

/-- May the endpoint not write a register: SEC at all times, an LK field after boot lock? -/
def State.miDenied (s : State) (off : Nat) : Bool :=
  off / 65536 == 0xB || (s.win.locked && match s.regAt (off / 4 * 4) with
    | some (r, _) => r.reg.maskOf (· == .lk) != 0
    | none => false)

/-- A 32-bit read or write by vendor data structure 0xC0. -/
def State.miWindow (s : State) (write : Bool) (off v : Nat) : State × MiRes :=
  if write && s.miDenied off then (s, .bad)
  else if off % 4 ≠ 0 then
    let t := s.raise 0 0 1 [(4, off), (1, 4), (1, b2n write), (1, agentCode .mgmt)]
    (t, .good (if write then [] else toBytes 4 (s.dwordAt off / 2 ^ (8 * (off % 4)))))
  else if write then (s.writeDword .mgmt off v, .good [])
  else
    let x := s.readDword .mgmt off
    (x.1, .good (toBytes 4 x.2))

/-! ### The commands on the bus -/

/-- MCTP_CONTROL_MESSAGE: 1 Set Endpoint ID, 2 Get Endpoint ID, 3 Get Endpoint UUID, 4 Get Version Support, 5 Get Message Type Support. The
control primitives Pause and Resume of NVMe-MI (R677) come the same way, as codes 0x100 and 0x101. -/
def execMctpControlMessage (msg : MctpMsg) (s : State) : Outcome :=
  let code (b : List Byte) : Outcome := .next (s.send (.mgmt b))
  match msg.cmd with
  | 1 =>
    let eid := ofBytes ((msg.data.drop 1).take 1)
    if eid = 0 ∨ eid = 255 then code (layRow [(1, 0x02)])
    else .next ((s.withMgt { s.mgt with eid := eid }).send (.mgmt (layRow [(1, 0), (1, 0), (1, eid), (1, 0)])))
  | 2 => code (layRow [(1, 0), (1, s.mgt.eid), (1, 0), (1, 0)])
  | 3 => code (layRow [(1, 0), (16, Config.imageTable (s.win.img.getD 0) 5 1025)])
  | 4 => code (layRow [(1, 0), (1, 1), (4, 0xF1F3F100)])
  | 5 => code (layRow [(1, 0), (1, 1), (1, 4)])
  | 0x100 => .next ((s.withMgt { s.mgt with paused := true }).send (.mgmt (miAnswer 0 1 [])))
  | 0x101 => .next ((s.withMgt { s.mgt with paused := false }).send (.mgmt (miAnswer 0 0 [])))
  | _ => code (layRow [(1, 0x05)])

/-- READ_NVME_MI_DATA_STRUCTURE. -/
def execReadNvmeMiDataStructure (dtyp portid ctlid : Nat) (s : State) : Outcome := s.miRun fun s => (s, s.miRead dtyp portid ctlid)

/-- NVM_SUBSYSTEM_HEALTH_STATUS_POLL: it may clear the change flags once it has reported them. -/
def execNvmSubsystemHealthStatusPoll (clear : Bool) (s : State) : Outcome :=
  s.miRun fun s => (if clear then s.clearChanges 65535 else s, s.miHealth)

/-- CONTROLLER_HEALTH_STATUS_POLL: controllers from a first one, at most as many as asked for. -/
def execControllerHealthStatusPoll (start maxent : Nat) (clear : Bool) (s : State) : Outcome :=
  s.miRun fun s =>
    let l := ((s.controllers.filter fun x => start ≤ x).mergeSort fun a b => a ≤ b).take (maxent + 1)
    (if clear then s.clearChanges 65535 else s, ⟨miOk, l.length, l.flatMap s.ctrlHealth⟩)

/-- CONFIGURATION_SET. -/
def execConfigurationSet (cid port v : Nat) (s : State) : Outcome := s.miRun fun s => s.configSet cid port v

/-- CONFIGURATION_GET. -/
def execConfigurationGet (cid port : Nat) (s : State) : Outcome := s.miRun fun s => (s, s.configGet cid port)

/-- VPD_READ. -/
def execVpdRead (off len : Nat) (s : State) : Outcome := s.miRun fun s => (s, s.vpdRead off len)

/-- VPD_WRITE. -/
def execVpdWrite (off : Nat) (bytes : List Byte) (s : State) : Outcome := s.miRun fun s => s.vpdWrite off bytes

/-- MI_RESET: type 0 is an NVM subsystem reset. -/
def execMiReset (rtype : Nat) (s : State) : Outcome :=
  s.miRun fun s => if rtype = 0 then (s.subsystemReset, .good []) else (s, .bad)

/-- Admin commands that may be tunnelled (R677). -/
def tunnelled : List Nat := [0x06, 0x02, 0x0A, 0x09, 0x11, 0x10, 0x14, 0x84, 0x80, 0x81, 0x82, 0x0D, 0x15, 0xC4, 0xC6, 0xC7]

/-- TUNNELLED_ADMIN_COMMAND: the command enters the front end of PF0 or PF1 past its queues, with the checks of a fetched one (R678). Its
answer goes over the bus. -/
def execTunnelledAdminCommand (pf : Nat) (e : Sqe) (s : State) : Outcome :=
  let r : CmdRef := ⟨pf, 0, tunnelCid + e.cid⟩
  if s.mgt.paused || !s.host.enabled || s.host.paused || s.hld.flush != .none || (s.cmd? r).isSome then .next s
  else if 2 ≤ pf then .next (s.answer .bad)
  else if !tunnelled.contains e.opc then .next (s.answer ⟨miBadOpcode, 0, []⟩)
  else
    let c := s.newCmd pf 0 (Sq.new 0 2 2 s.ao.time) { e with cid := r.cid } false true
    match s.fetchStatus pf 0 e false with
    | .success => .next (s.withHost { s.host with cmds := s.host.cmds ++ [c] })
    | st => .next (s.complete c st)

/-- SETUP_WINDOW_ACCESS. -/
def execSetupWindowAccess (write : Bool) (off v : Nat) (s : State) : Outcome := s.miRun fun s => s.miWindow write off v

/-- MANAGEMENT_ENDPOINT_RESET: its settings return to their reset values, a transaction that it owns is rolled back, and the event is raised
(R660, R666). -/
def execManagementEndpointReset (cause : Nat) (s : State) : Outcome :=
  let s := s.withMgt { Mgmt.reset with vpd := s.mgt.vpd, changes := s.mgt.changes, addr := s.mgt.addr }
  .next ((s.raise 0x005 0 1 [(1, cause)]).rollback 3)

/-- DYNAMIC_ADDRESS_ASSIGNMENT: an I3C target without a dynamic address takes one, by ENTDAA or by SETDASA (R733). -/
def execDynamicAddressAssignment (addr : Nat) (_setdasa : Bool) (s : State) : Outcome :=
  if s.brd.mgmtSel = true ∧ addr < 128 ∧ s.mgt.addr = none then .next (s.withMgt { s.mgt with addr := some addr }) else .next s

/-! ### In band (R677) -/

/-- A management command carried in band: its operation code in CDW11, its two request dwords in CDW12 and CDW13, its data. -/
def State.inBand (s : State) (e : Sqe) (send : Bool) : State × MiRes :=
  let d0 := e.cdw12
  let d1 := e.cdw13
  match send, e.cdw11 % 256 with
  | false, 0x00 => (s, s.miRead (bits d0 31 24) (bits d0 23 16) (bits d0 15 0))
  | false, 0x01 => (if d1.testBit 31 then s.clearChanges 65535 else s, s.miHealth)
  | false, 0x02 =>
    let l := ((s.controllers.filter fun x => bits d0 15 0 ≤ x).mergeSort fun a b => a ≤ b).take (bits d0 23 16 + 1)
    (if d1.testBit 31 then s.clearChanges 65535 else s, ⟨miOk, l.length, l.flatMap s.ctrlHealth⟩)
  | false, 0x04 => (s, s.configGet (bits d0 7 0) (bits d0 31 24))
  | false, 0x05 => (s, s.vpdRead (bits d0 15 0) (bits d1 15 0))
  | true, 0x03 => s.configSet (bits d0 7 0) (bits d0 31 24) (if bits d0 7 0 = 1 then bits d0 15 8 else bits d1 15 0)
  | true, 0x06 => s.vpdWrite (bits d0 15 0) (e.data.take (bits d1 15 0))
  | _, _ => (s, ⟨miBadOpcode, 0, []⟩)

/-- NVME_MI_SEND: a Reset in band is an NVM subsystem reset, which leaves no completion. -/
def execNvmeMiSend (r : CmdRef) (s : State) : Outcome :=
  s.runReady r true 0x1D fun c =>
    if c.sqe.cdw11 % 256 = 0x07 ∧ bits c.sqe.cdw12 31 24 = 0 then s.subsystemReset
    else
      let x := s.inBand c.sqe true
      x.1.complete c .success (x.2.status + 256 * x.2.resp)

/-- NVME_MI_RECEIVE. -/
def execNvmeMiReceive (r : CmdRef) (s : State) : Outcome :=
  s.runReady r true 0x1E fun c =>
    let x := s.inBand c.sqe false
    x.1.completeBytes c x.2.data (x.2.status + 256 * x.2.resp)

end Sys2Proof.Machine
end

