-- ==== Sys2Proof/Machine/Reads.lean ====
section
/-!
DEFINITION. The read path (R46 to R48, R170, R172, R408, R412, R413, R419, R755): where a logical block lies, and the commands READ, COMPARE,
VERIFY, READ_COMPLETION, ZONE_MANAGEMENT_RECEIVE (R175, R176) and GET_LBA_STATUS (R193).
-/

namespace Sys2Proof.Machine

/-! ### Where a block lies (R46, R170, R172) -/

/-- Where a logical block's content is. -/
inductive UnitAt where
  | info (i : Info)
  | zero
  | bad
  /-- A unit on flash: set, row and data position, and the bounds of its data CSN (above, up to). -/
  | media (setid row d lo hi : Nat)
  deriving DecidableEq, Repr

/-- What a data position of a row gives. An entry of the map or of the staging index that names a slot without a unit is an unreadable address
(R59, R135). -/
def State.posPlace (s : State) (setid row d lo hi : Nat) : UnitAt :=
  match nth (s.row setid row).pos d .empty with
  | .unit k i => if (s.str.dram.get? k).isSome then .info i else .media setid row d lo hi
  | .lost => .bad
  | .empty => if setid < 0x100000 then .zero else .bad
  | .staged => .zero
  | .pad =>
    if 0x100000 ≤ setid then .bad
    else match s.set? setid with
    | none => .zero
    | some r =>
      let m := memberOfData row d
      match s.rowGroup r m row with
      | some g => if s.groupState setid m g = some .done ∧ r.memberLost m = false then .media setid row d lo hi else .zero
      | none => .zero

/-- A staged unit's place, by its staging index entry (R419). -/
def State.stagedPlace (s : State) (e lo hi : Nat) : UnitAt := s.posPlace (stripeSet (e / 16)) (stripeRow (e / 16)) (e % 16) lo hi

/-- Location lookup of a logical block (R46). -/
def State.findBlock (s : State) (nsix : Nat) (n : Ns) (lba : Nat) : UnitAt :=
  match s.dramUnit nsix lba with
  | some u => .info u.info
  | none =>
    if n.kind = .zoned then
      match s.zoneAt n lba with
      | none => .zero
      | some (e, z) =>
        let off := lba % 262144
        if z.unread.any fun x => x.1 ≤ off && off < x.1 + x.2 then .bad
        else if !z.bound || z.zs == .empty || decide (z.wpoff ≤ off) then .zero
        else
          match s.str.staging.get? (lbaKey nsix lba) with
          | some p => s.stagedPlace p z.bindCsn z.lastCsn
          | none => s.posPlace e (off / 16) (off % 16) z.bindCsn z.lastCsn
    else
      match s.zon.map.get? (lbaKey nsix lba) with
      | none => .zero
      | some x =>
        if x = 0xFFFFFFFE then .bad else if x = 0xFFFFFFFF then .zero
        else s.posPlace (placementSet (x / 2 ^ 18)) (x % 2 ^ 18 / 16) (x % 16) 0 (s.jnl.csn - 1)

/-- The die sense time of a block's unit, in ns; a block that no medium holds has none (R363, R484). -/
def State.senseOf (s : State) (nsix : Nat) (n : Ns) (lba : Nat) : Nat :=
  match s.findBlock nsix n lba with
  | .media setid row d _ _ =>
    match s.set? setid with
    | some r =>
      let b := nth r.members (memberOfData row d) (0, 0)
      s.senseTime b.1 (s.unitPlace b.1 b.2 row) false
    | none => 0
  | _ => 0

/-! ### Starting a read -/

/-- Read a unit on flash for block k of a command; a unit of a lost member, or of a failed die, goes to reconstruction at once (R429). -/
def State.readMedia (s : State) (c : Cmd) (n : Ns) (k setid row d lo hi : Nat) : State :=
  match s.set? setid with
  | none => s.giveUnit c.ref k .unreadable
  | some r =>
    let m := memberOfData row d
    let b := nth r.members m (0, 0)
    let u : UnitRead :=
      { who := .host c.ref k, die := b.1, block := b.2, slot := row, setid := setid, row := row, member := m, role := d, cls := c.cls
        tenant := n.owner, nsix := c.nsix, lba := c.lba + k, loCsn := lo, hiCsn := hi, st := .queued, out := .pending, arrive := s.ao.time
        soft := false, hardFailed := false, final := false, noRef := false, ref := none, recon := none, llr := [] }
    let (s, rid) := s.newRead u
    if r.memberLost m || s.dieFailed b.1 then s.toRecon rid u else s.arrive rid

/-- Look up and read every block of a command. -/
def State.startReads (s : State) (c : Cmd) (n : Ns) : State :=
  let s := s.setCmd c.ref fun c => { c with
    phase := .reading, blocks := 0, got := if c.sqe.opc = 0x05 then c.got ++ List.replicate c.nlb (0, 0) else List.replicate c.nlb (0, 0) }
  (List.range c.nlb).foldl (fun s k =>
    match s.findBlock c.nsix n (c.lba + k) with
    | .info i => s.giveUnit c.ref k (.ok i)
    | .zero => s.giveUnit c.ref k .zero
    | .bad => s.giveUnit c.ref k .lost
    | .media setid row d lo hi => s.readMedia c n k setid row d lo hi) s

/-- The lookup of READ, COMPARE and VERIFY, once their locks and buffers are granted. -/
def State.runRead (s : State) (r : CmdRef) (opc : Nat) (ready : Cmd → Bool) : Outcome :=
  match s.cmd? r with
  | none => .next s
  | some c =>
    match s.nsAt c.nsix with
    | none => .next s
    | some n =>
      if c.sqe.opc = opc ∧ r.qid ≠ 0 ∧ c.phase = .data ∧ ready c = true ∧ s.cqRoom r = true ∧ s.hld.flush = .none then
        if s.touchesOffline n c.lba c.nlb then .next (s.complete c .zoneOffline) else .next (s.startReads c n)
      else .next s

/-- READ: each block is looked up and read (R46). -/
def execRead (r : CmdRef) (s : State) : Outcome := s.runRead r 0x02 fun _ => true

/-- COMPARE: once the host's data has arrived, each block is looked up and read (R100). -/
def execCompare (r : CmdRef) (s : State) : Outcome := s.runRead r 0x05 fun c => c.blocks == c.nlb

/-- VERIFY: each block is read and checked; nothing is transferred (R90). -/
def execVerify (r : CmdRef) (s : State) : Outcome := s.runRead r 0x0C fun _ => true

/-! ### Completion (R103, R407, R408, R412, R484) -/

/-- The plaintext of a block read, with its host metadata. -/
def State.plainOf (s : State) (c : Cmd) (n : Ns) (k : Nat) (x : Block × Nat) : Block × Nat :=
  let lba := c.lba + k
  let data := if 2 ^ 128 ≤ x.2 then s.crypt false c.nsix lba x.1 else 0
  let md := match n.lbaf with
    | 1 => x.2 % 2 ^ 64
    | 2 => x.2 % 2 ^ 128
    | 3 => match n.comp with
      | some j => (((s.companionBlock j (lba / 64)).getD 0).toNat >>> (512 * (lba % 64))) % 2 ^ 512
      | none => 0
    | _ => 0
  (data, md)

/-- Can the metadata of a block of an LBAF 3 namespace not be read (R48)? -/
def State.metaLost (s : State) (n : Ns) (lba : Nat) : Bool :=
  n.lbaf == 3 && (match n.comp with
    | some j => (s.companionBlock j (lba / 64)).isNone
    | none => false)

/-- Does DRAM hold some granule of a command's data uncorrectable (R615)? -/
def State.dataSpoiled (s : State) (c : Cmd) : Bool :=
  c.bufs.got.any fun g => decide (2 ≤ g.1) && (let a := s.fld F.BPM_POOL_BASE_BASE g.1 + g.2 * granule g.1
    s.drm.bad.any fun b => decide (a ≤ b) && decide (b < a + granule g.1))

/-- The media read of a command is repeated once, into new buffers (R615). -/
def State.readAgain (s : State) (c : Cmd) : State :=
  let want := s.cmdBuffers c
  let s := s.giveBackAll c.bufs.got
  let s := s.setCmd c.ref fun c => { c with bufs := ⟨want, []⟩, blocks := 0, got := [], reread := true, phase := if want.isEmpty then .data else .buffers }
  s.askBuffers c.ref.fn (.cmd c.ref) want

/-- A failed check of protection information at the port: the check-field event (R412). The unit's stripe and role are those that the lookup
names; 3 names the check. -/
def State.piFailed (s : State) (c : Cmd) (n : Ns) : State :=
  let x := match s.findBlock c.nsix n c.lba with
    | .media setid row d _ _ => (stripeId setid row, d)
    | _ => (0, 0)
  (s.drew.raise 0x030 0 2 [(8, x.1), (1, x.2), (1, s.diagCode)]).countHealth c.nsix 10 1

/-- READ_COMPLETION: every block is in; the data goes to the host, or is compared, and the command completes (R103). -/
def execReadCompletion (r : CmdRef) (pi : PiCheck) (s : State) : Outcome :=
  match s.cmd? r with
  | none => .next s
  | some c =>
    match s.nsAt c.nsix with
    | none => .next s
    | some n =>
      if c.phase = .reading ∧ c.blocks = c.nlb ∧ s.cqRoom r = true ∧ s.hld.flush = .none then
        if s.dataSpoiled c ∧ c.sqe.opc = 0x02 ∧ c.reread = false then .next (s.readAgain c)
        else if s.dataSpoiled c = true ∨ ((List.range c.nlb).any fun k => s.metaLost n (c.lba + k)) = true then
          .next ((s.countHealth c.nsix 2 1).complete c .unrecoveredRead)
        else if c.status ≠ .success then .next ((s.countHealth c.nsix 2 1).complete c c.status)
        else if pi ≠ .ok then .next ((s.piFailed c n).complete c (piStatus pi))
        else
          let media := if c.sqe.opc = 0x05 then c.got.drop c.nlb else c.got
          let plain := media.zipIdx.map fun x => s.plainOf c n x.2 x.1
          let tr := (List.range c.nlb).foldl (fun m k => max m (s.senseOf c.nsix n (c.lba + k))) 0
          if c.sqe.opc = 0x02 then
            let s := plain.zipIdx.foldl (fun s x => s.send (.block r x.2 x.1.1 x.1.2)) s
            let s := s.monitor 0 (s.ao.time - c.bellTime - tr)
            .next (s.complete c .success)
          else if c.sqe.opc = 0x05 then
            let same := ((c.got.take c.nlb).zip plain).all fun x => x.1.1 == x.2.1 && (n.lbaf == 0 || x.1.2 == x.2.2)
            .next (s.complete c (if same then .success else .compareFailure))
          else .next (s.complete c .success)
      else .next s

/-! ### Report Zones (R175, R176) -/

/-- Does a zone state answer a reporting option? Option 0 takes every state. -/
def reportTakes : Nat → ZState → Bool
  | 0, _ => true
  | 1, z => z == .empty
  | 2, z => z == .implicitOpen
  | 3, z => z == .explicitOpen
  | 4, z => z == .closed
  | 5, z => z == .full
  | 6, z => z == .readOnly
  | 7, z => z == .offline
  | _, _ => false

/-- RZR: a member lies on a benched die. -/
def State.zoneBenched (s : State) (e : Nat) : Bool := (s.zoneMembers e).any fun m => (s.sdie m.1).benched

/-- A zone descriptor of the Zoned Namespace Command Set: 64 bytes. -/
def State.zoneDesc (s : State) (e z : Nat) (d : Zone) : List Byte :=
  toBytes 8 (2 + 2 ^ 8 * (16 * d.zs.code) + 2 ^ 16 * (4 * b2n (s.zoneBenched e))) ++ toBytes 8 d.zcap ++ toBytes 8 (262144 * z) ++
    toBytes 8 (match d.zs with
      | .full => 2 ^ 64 - 1
      | .readOnly => 2 ^ 64 - 1
      | .offline => 2 ^ 64 - 1
      | _ => 262144 * z + d.wpoff) ++ toBytes 32 0

/-- ZONE_MANAGEMENT_RECEIVE: Report Zones; Extended Report Zones and unknown actions and options fail with Invalid Field in Command. -/
def execZoneManagementReceive (r : CmdRef) (s : State) : Outcome :=
  s.runReady r false 0x7A fun c =>
    match s.nsAt c.nsix with
    | none => s.complete c .invalidNsOrFormat
    | some n =>
      let opt := bits c.sqe.cdw13 15 8
      if bits c.sqe.cdw13 7 0 ≠ 0 ∨ 7 < opt then s.complete c .invalidField
      else
        let bytes := 4 * (c.sqe.cdw12 + 1)
        let zs := (List.range (n.zones - c.sqe.slba / 262144)).filterMap fun i =>
          let z := c.sqe.slba / 262144 + i
          (n.entryOf z).bind fun e => (s.zone? e).bind fun d => if reportTakes opt d.zs then some (s.zoneDesc e z d) else none
        let fit := zs.take ((bytes - 64) / 64)
        let num := if c.sqe.cdw13.testBit 16 then fit.length else zs.length
        s.completeBytes c ((toBytes 8 num ++ toBytes 56 0 ++ fit.flatten).take bytes)

/-! ### Get LBA Status (R193) -/

/-- What the map says of a block: 0 mapped, 1 unmapped, 2 written uncorrectable. -/
def State.lbaState (s : State) (nsix lba : Nat) : Nat :=
  if (s.dramUnit nsix lba).isSome then 0
  else match s.zon.map.get? (lbaKey nsix lba) with
    | none => 1
    | some x => if x = 0xFFFFFFFE then 2 else if x = 0xFFFFFFFF then 1 else 0

/-- Runs of blocks of one state, in rising order: (first, number, state). -/
def stateRuns (f : Nat → Nat) (first : Nat) : Nat → List (Nat × Nat × Nat)
  | 0 => []
  | k + 1 => match stateRuns f (first + 1) k with
    | (a, n, st) :: rest => if st = f first then (first, n + 1, st) :: rest else (first, 1, f first) :: (a, n, st) :: rest
    | [] => [(first, 1, f first)]

/-- GET_LBA_STATUS: the unmapped ranges and those written uncorrectable from SLBA on, as LBA Status Descriptors (log entry 36). -/
def execGetLbaStatus (r : CmdRef) (s : State) : Outcome :=
  s.runReady r true 0x86 fun c =>
    match s.nsAt c.nsix with
    | none => s.complete c .invalidNsOrFormat
    | some n =>
      if n.kind = .zoned then s.complete c .invalidOpcode
      else if n.nsze ≤ c.sqe.slba then s.complete c .lbaOutOfRange
      else
        let bytes := 4 * (c.sqe.cdw12 + 1)
        let rl := c.sqe.cdw13 % 65536
        let len := if rl = 0 then n.nsze - c.sqe.slba else min rl (n.nsze - c.sqe.slba)
        let runs := (stateRuns (s.lbaState c.nsix) c.sqe.slba len).filter fun x => x.2.2 != 0
        let fit := runs.take ((bytes - 8) / 16)
        let desc (x : Nat × Nat × Nat) : List Byte := toBytes 8 x.1 ++ toBytes 4 (x.2.1 - 1) ++ toBytes 1 0 ++ toBytes 1 (if x.2.2 = 2 then 1 else 0) ++ toBytes 2 0
        let all := decide (fit.length = runs.length)
        s.completeBytes c ((toBytes 4 fit.length ++ toBytes 4 (if all then 2 else 1) ++ (fit.map desc).flatten).take bytes)

end Sys2Proof.Machine
end

