-- ==== Sys2Proof/Machine/Security.lean ====
section
/-!
DEFINITION. Key provisioning and attestation by Security Send and Receive (R544 to R550, R566, R577 of spec/11_tenants_security.md), with the
commands SECURITY_PROTOCOL_INFORMATION, CERTIFICATE_CHAIN_RECEIVE, EXCHANGE_OFFER_RECEIVE, ATTESTATION_NONCE_SEND,
ATTESTED_REPORT_RECEIVE, KEY_INSTALL and TENANT_UNLOCK.
-/

namespace Sys2Proof.Machine

/-- Security Protocol and SPSP of Security Send and Receive. -/
def secp (e : Sqe) : Nat := bits e.cdw10 31 24
def spsp (e : Sqe) : Nat := bits e.cdw10 23 8

/-- Octets as bytes. -/
def toByteList (l : List Nat) : List Byte := l.map fun x => BitVec.ofNat 8 x

/-- A Security Receive sends at most its allocation length. -/
def State.receiveBytes (s : State) (c : Cmd) (b : List Byte) : State := s.completeBytes c (b.take c.sqe.cdw11)

/-- An operation on protocol 0xF0 by its SPSP. -/
def isOp (c : Cmd) (sp : Nat) : Bool := secp c.sqe == 0xF0 && spsp c.sqe == sp

/-- A signature by the device identity key (R545, R577). -/
def State.signed (s : State) (b : List Nat) : List Nat := b ++ octets 96 (Config.ecdsaSign s.free (ofOctets (sha384 b)))

/-! ### Receive -/

/-- SECURITY_PROTOCOL_INFORMATION: protocols 0x00 and 0xF0 are supported; any other protocol, or an SPSP that none of the rows below has, is
an Invalid Field in Command (R544). -/
def execSecurityProtocolInformation (r : CmdRef) (s : State) : Outcome :=
  s.runReady r true 0x82 fun c =>
    if secp c.sqe = 0 ∧ spsp c.sqe = 0 then s.receiveBytes c (toBytes 6 0 ++ [0, 2, 0x00, 0xF0])
    else if secp c.sqe = 0xF0 ∧ 1 ≤ spsp c.sqe ∧ spsp c.sqe ≤ 3 then s
    else s.complete c .invalidField

/-- CERTIFICATE_CHAIN_RECEIVE. -/
def execCertificateChainReceive (r : CmdRef) (s : State) : Outcome :=
  s.runReady r true 0x82 fun c =>
    if isOp c 0x0001 then s.receiveBytes c ((List.range 4096).map fun i => BitVec.ofNat 8 (Config.certChain i)) else s

/-- The 160 bytes of an offer (R545). -/
def offerBytes (t : Nat) (o : Offer) : List Nat :=
  octets 96 (Config.p384Public o.priv) ++ o.nonce ++ octets 4 o.num ++ octets 2 t ++ octets 26 0

/-- EXCHANGE_OFFER_RECEIVE: a new offer, and the previous one is withdrawn (R545). -/
def execExchangeOfferReceive (r : CmdRef) (s : State) : Outcome :=
  s.runReady r true 0x82 fun c =>
    if isOp c 0x0002 then
      let priv := ofOctets (s.drawOctets 48)
      let s := s.drew
      let nonce := s.drawOctets 32
      let s := s.drew
      let o : Offer := { num := (s.sec.offerNum + 1) % 2 ^ 32, priv := priv, nonce := nonce, time := s.ao.time }
      let s := (s.withSec { s.sec with offerNum := o.num }).setTsec r.fn fun x => { x with offer := some o }
      s.drew.receiveBytes c (toByteList (s.signed (offerBytes r.fn o)))
    else s

/-- The measurement digest of the running image (R576, index 2). -/
def State.runDigest (s : State) : List Nat :=
  if s.boot.run = 1 ∧ s.boot.factory then octets 48 (Config.measured 2 0)
  else takeOctets (fun a => s.boot.norByte (slotBase s.boot.run + a)) 28 48

/-- The first 256 bytes of an attested report (R577). -/
def State.reportBytes (s : State) (t : Nat) (nonce : List Nat) : List Nat :=
  octets 4 0x52545441 ++ octets 2 t ++ octets 2 0 ++ nonce ++ s.runDigest ++ octets 1 s.boot.runSvn ++ octets 1 s.sec.svnFloor ++ octets 6 0 ++
    octetsOf ((s.sealStatus t).drop 16 |>.take 16) ++ octets 8 (s.tsec t).counter ++ octetsOf (s.policyBytes t) ++ octets 8 s.ao.time ++ octets 64 0

/-- ATTESTED_REPORT_RECEIVE: a nonce must have come since the last report (R577). -/
def execAttestedReportReceive (r : CmdRef) (s : State) : Outcome :=
  s.runReady r true 0x82 fun c =>
    if isOp c 0x0003 then
      match (s.tsec r.fn).nonce with
      | none => s.complete c .invalidField
      | some n =>
        let b := s.signed (s.reportBytes r.fn n)
        (s.drew.setTsec r.fn fun x => { x with nonce := none }).receiveBytes c (toByteList b)
    else s

/-! ### Send -/

/-- ATTESTATION_NONCE_SEND: 32 bytes. -/
def execAttestationNonceSend (r : CmdRef) (s : State) : Outcome :=
  s.runReady r true 0x81 fun c =>
    if isOp c 0x0003 then
      if c.sqe.cdw11 = 32 then
        (s.setTsec r.fn fun x => { x with nonce := some (octetsOf (c.sqe.data.take 32 ++ List.replicate (32 - c.sqe.data.length) 0)) }).complete c .success
      else s.complete c .invalidField
    else s

/-- How the vault processes a blob (R548): TK and SK, or the status of the failure. -/
def State.openBlob (s : State) (t : Nat) (data : List Byte) : Except Status (List Nat × List Nat) :=
  let b := octetsOf (data ++ List.replicate (216 - data.length) 0)
  match (s.tsec t).offer with
  | none => .error .invalidField
  | some o =>
    if ofOctets ((b.drop 128).take 4) ≠ o.num ∨ o.time + 60000000000 < s.ao.time then .error .invalidField
    else
      let z := octets 48 (Config.p384Shared o.priv (ofOctets (b.take 96)))
      let nt := (b.drop 96).take 32
      let ke := (sha384 (z ++ o.nonce ++ nt ++ [1])).take 32
      let km := (sha384 (z ++ o.nonce ++ nt ++ [2])).take 32
      if cmac km (b.take 200) ≠ (b.drop 200).take 16 then .error .sealAuthFailed
      else
        let ks := roundKeys ke
        let keys := (List.range 4).flatMap fun i =>
          xorBytes ((b.drop (136 + 16 * i)).take 16) (aesEnc ks (List.replicate 15 0 ++ [i]))
        .ok (keys.take 32, keys.drop 32)

/-- The offer is withdrawn, whatever becomes of the blob (R548). -/
def State.withdrawOffer (s : State) (t : Nat) : State := s.setTsec t fun x => { x with offer := none }

/-- Take new keys: a claim, or a rotation (R549, R550, R564). -/
def State.takeKeys (s : State) (t : Nat) (tk sk : List Nat) : State :=
  let was := s.tsec t
  let x : TenantSec := { was with claimed := true, tk := some tk, sk := sk, tkid := keyId tk, skid := keyId sk, counter := 0 }
  if was.claimed then (s.setTsec t fun _ => x).keyEvent 3 t x.tkid x.skid
  else
    let x := { x with capture := decide (t < 2), tkvol := false, pvalid := false, partner := 0, locked := false, outcome := 0, istatus := 0 }
    (s.setTsec t fun _ => x).keyEvent 1 t x.tkid x.skid

/-- A locked tenant's media keys can be wrapped anew only under the same TK, which the vault does not hold. -/
def State.mayInstall (s : State) (t : Nat) (tk : List Nat) : Bool := !(s.tsec t).locked || keyId tk == (s.tsec t).tkid

/-- KEY_INSTALL: 216 bytes; the keys are in force once the vault store has them (R538, R548 to R550). A Security Send of any other protocol
or SPSP is an Invalid Field in Command (R544). -/
def execKeyInstall (r : CmdRef) (s : State) : Outcome :=
  match s.cmd? r with
  | none => .next s
  | some c =>
    if c.sqe.opc = 0x81 ∧ r.qid = 0 ∧ s.cqRoom r = true then
      match c.phase with
      | .ready =>
        if isOp c 0x0010 then
          if c.sqe.cdw11 ≠ 216 then .next (s.complete c .invalidField)
          else
            let res := s.openBlob r.fn c.sqe.data
            let s := s.withdrawOffer r.fn
            match res with
            | .error st => .next (s.complete c st)
            | .ok (tk, sk) =>
              if s.mayInstall r.fn tk then .next (s.setCmd r fun c => { c with phase := .background, units := tk ++ sk }).storeWrite
              else .next (s.complete c .sealAuthFailed)
        else if isOp c 0x0003 || isOp c 0x0012 then .next s
        else .next (s.complete c .invalidField)
      | .background =>
        if 0 < s.sec.writes then .next s
        else .next ((s.takeKeys r.fn (c.units.take 32) (c.units.drop 32)).complete c .success)
      | _ => .next s
    else .next s

/-- TENANT_UNLOCK: a blob whose key identifiers match those stored unlocks the tenant (R566). It waits while the vault has granted an entry
(R641). -/
def execTenantUnlock (r : CmdRef) (s : State) : Outcome :=
  s.runReady r true 0x81 fun c =>
    if isOp c 0x0012 && !s.granted 136 then
      if c.sqe.cdw11 ≠ 216 then s.complete c .invalidField
      else
        let x := s.tsec r.fn
        let res := s.openBlob r.fn c.sqe.data
        let s := s.withdrawOffer r.fn
        match res with
        | .error st => s.complete c st
        | .ok (tk, sk) =>
          if !x.claimed || keyId tk ≠ x.tkid || keyId sk ≠ x.skid then s.complete c .sealAuthFailed
          else if !x.locked then s.complete c .success
          else ((s.setTsec r.fn fun x => { x with tk := some tk, locked := false }).raiseT 0x041 5 0 r.fn []).complete c .success
    else s

end Sys2Proof.Machine
end

