-- ==== Sys2Proof/Machine/Spdm.lean ====
section
/-!
DEFINITION. The SPDM responder and PCIe IDE (R575, R576, R578, R579 of spec/11_tenants_security.md), with the commands SPDM_REQUEST,
IDE_KM_REQUEST and IDE_STREAM_INSECURE. The codes of requests and responses are those of SPDM 1.2 and of the IDE_KM protocol.
-/

namespace Sys2Proof.Machine

/-! ### SPDM (R575, R576) -/

def State.resp (s : State) (pf : Nat) : Responder := if pf = 0 then s.sec.resp0 else s.sec.resp1

def State.putResp (s : State) (pf : Nat) (x : Responder) : State :=
  if pf = 0 then s.withSec { s.sec with resp0 := x } else s.withSec { s.sec with resp1 := x }

/-- Send a response: version 1.2, its code, two parameters and the rest. -/
def State.spdmReply (s : State) (pf code p1 p2 : Nat) (rest : List Nat) : State :=
  s.send (.doe pf (toByteList ([0x12, code, p1, p2] ++ rest)))

/-- ERROR codes. -/
def State.spdmError (s : State) (pf code : Nat) : State := s.spdmReply pf 0x7F code 0 []

/-- A signature over a transcript. -/
def State.transcriptSig (s : State) : List Nat := octets 96 (Config.ecdsaSign s.free (Config.freeNat s.free))

/-- CERT, CHAL, MEAS with signature, MEAS_FRESH, ENCRYPT, MAC, KEY_EX, HBEAT, KEY_UPD. -/
def spdmCaps : Nat := 2 ^ 1 + 2 ^ 2 + 2 * 2 ^ 3 + 2 ^ 5 + 2 ^ 6 + 2 ^ 7 + 2 ^ 9 + 2 ^ 13 + 2 ^ 14

/-- A measurement's value (R576). -/
def State.measurement (s : State) (i : Nat) : List Nat :=
  if i = 5 then octets 1 s.boot.runSvn ++ octets 1 s.sec.svnFloor
  else if i = 2 then s.runDigest
  else octets 48 (Config.measured i (if i = 4 then s.win.img.getD 0 else 0))

/-- A measurement block: index, specification, size, and a value of a type. -/
def State.measBlock (s : State) (i : Nat) : List Nat :=
  let v := s.measurement i
  octets 1 i ++ octets 1 1 ++ octets 2 (v.length + 3) ++ octets 1 (if i = 5 then 0x87 else i - 1) ++ octets 2 v.length ++ v

/-- The measurement blocks that a request names: none for 0, which asks for their number, all for 255. -/
def measNamed (p2 : Nat) : Option (List Nat) :=
  if p2 = 0 then some [] else if p2 = 255 then some [1, 2, 3, 4, 5] else if p2 ≤ 5 then some [p2] else none

def State.dropSession (s : State) (pf id : Nat) : State :=
  s.putResp pf { s.resp pf with sessions := (s.resp pf).sessions.filter fun x => x.id != id }

def State.mapSession (s : State) (pf id : Nat) (f : Session → Session) : State :=
  s.putResp pf { s.resp pf with sessions := (s.resp pf).sessions.map fun x => if x.id = id then f x else x }

/-- The session that a request within one is sent in: its identifier, at the head of the body. -/
def State.sessionOf (s : State) (pf : Nat) (m : SpdmMsg) (phase : Nat) : Option Session :=
  (s.resp pf).sessions.find? fun x => x.id == field m.body 0 4 && x.phase == phase

/-- Answer a request. Requests out of their order are unexpected (0x04), others are unsupported (0x07). -/
def State.spdm (s : State) (pf : Nat) (m : SpdmMsg) : State :=
  let x := s.resp pf
  let need (k : Nat) (f : State) : State := if k ≤ x.stage then f else s.spdmError pf 0x04
  match m.code with
  | 0x84 => (s.putResp pf ⟨1, []⟩).spdmReply pf 0x04 0 0 ([0, 1] ++ octets 2 0x1200)
  | 0xE1 => if x.stage = 1 then (s.putResp pf { x with stage := 2 }).drew.spdmReply pf 0x61 0 0
      (octets 4 0 ++ octets 4 spdmCaps ++ octets 8 (Config.freeNat s.free)) else s.spdmError pf 0x04
  | 0xE3 => if x.stage = 2 then (s.putResp pf { x with stage := 3 }).spdmReply pf 0x63 2 0
      (octets 2 40 ++ [1, 0] ++ octets 4 4 ++ octets 4 0x80 ++ octets 4 2 ++ octets 16 0 ++ [2, 0x20] ++ octets 2 0x10 ++ [3, 0x20] ++ octets 2 2)
      else s.spdmError pf 0x04
  | 0x81 => need 3 (s.spdmReply pf 0x01 0 1 (octets 48 (Config.measured 5 0)))
  | 0x82 => need 3 (
      let off := field m.body 0 2
      let len := min (field m.body 2 2) (4096 - off)
      if m.param1 ≠ 0 ∨ 4096 ≤ off then s.spdmError pf 0x01
      else s.spdmReply pf 0x02 0 0 (octets 2 len ++ octets 2 (4096 - off - len) ++ (List.range len).map fun i => Config.certChain (off + i) % 256))
  | 0x83 => need 3 (if m.param1 ≠ 0 then s.spdmError pf 0x01
      else s.drew.spdmReply pf 0x03 0 1 (octets 48 (Config.measured 5 0) ++ s.drawOctets 32 ++ octets 2 0 ++ s.transcriptSig))
  | 0xE0 => need 3 (match measNamed m.param2 with
      | none => s.spdmError pf 0x01
      | some is =>
        let blocks := is.flatMap s.measBlock
        let sig := if m.param1 % 2 = 1 then s.transcriptSig else []
        s.drew.spdmReply pf 0x60 (if m.param2 = 0 then 5 else 0) 0
          (octets 1 is.length ++ octets 3 blocks.length ++ blocks ++ s.drawOctets 32 ++ octets 2 0 ++ sig))
  | 0xE4 => need 3 (if 2 ≤ x.sessions.length then s.spdmError pf 0x0A
      else
        let id := field m.body 0 2 + 2 ^ 16 * ((s.sec.nextSession + 1) % 2 ^ 16)
        let priv := ofOctets (s.drawOctets 48)
        let secret := Config.p384Shared priv (ofOctets (octetsOf ((m.body.drop 36).take 96)))
        let t := s.withSec { s.sec with nextSession := s.sec.nextSession + 1 }
        let t := (t.putResp pf { x with sessions := x.sessions ++ [⟨id, 1, secret, 0⟩] }).drew
        t.drew.spdmReply pf 0x64 0 0 (octets 2 (id / 2 ^ 16) ++ [0, 0] ++ t.drawOctets 32 ++ octets 96 (Config.p384Public priv) ++ octets 2 0 ++
          t.transcriptSig ++ octets 48 (Config.freeNat t.free)))
  | 0xE5 => match s.sessionOf pf m 1 with
    | some y => (s.mapSession pf y.id fun z => { z with phase := 2 }).spdmReply pf 0x65 0 0 []
    | none => s.spdmError pf 0x04
  | 0xE8 => match s.sessionOf pf m 2 with
    | some _ => s.spdmReply pf 0x68 0 0 []
    | none => s.spdmError pf 0x04
  | 0xE9 => match s.sessionOf pf m 2 with
    | some y =>
      if 1 ≤ m.param1 ∧ m.param1 ≤ 3 then (s.mapSession pf y.id fun z => { z with updates := z.updates + 1 }).spdmReply pf 0x69 m.param1 m.param2 []
      else s.spdmError pf 0x01
    | none => s.spdmError pf 0x04
  | 0xEC => match s.sessionOf pf m 2 with
    | some y => (s.dropSession pf y.id).spdmReply pf 0x6C 0 0 []
    | none => s.spdmError pf 0x04
  | _ => s.spdmError pf 0x07

/-- SPDM_REQUEST: on the DOE mailbox of PF0 and PF1, while the vault runs. -/
def execSpdmRequest (pf : Nat) (msg : SpdmMsg) (s : State) : Outcome :=
  if pf < 2 ∧ s.reachable pf = true ∧ s.sec.st ≠ 0 then .next (s.spdm pf msg) else .next s

/-! ### PCIe IDE (R578, R579) -/

def ideKey (port stream : Nat) : Nat := port * 16 + stream

def State.stream (s : State) (port stream : Nat) : IdeStream := s.sec.ide.getD (ideKey port stream) IdeStream.insecure

/-- A stream changes: the IDE-state event follows a change of its state. -/
def State.putStream (s : State) (port stream : Nat) (x : IdeStream) : State :=
  let was := (s.stream port stream).st
  let s := s.withSec { s.sec with ide := s.sec.ide.ins (ideKey port stream) x }
  if x.st = was then s else s.raise (0x05C + port) 2 1 [(1, stream), (1, x.st)]

/-- Every direction of a key set is programmed. -/
def IdeStream.complete (x : IdeStream) (set : Nat) : Bool := (x.keys.get? (2 * set)).isSome && (x.keys.get? (2 * set + 1)).isSome

/-- Octets of a key with its initial counter. -/
def ideKeyLen : Nat := 40

/-- An IDE_KM response. -/
def State.ideReply (s : State) (pf object stream status sub : Nat) : State :=
  s.send (.doe pf (toByteList [0, object, 0, 0, stream, status, sub]))

/-- An IDE_KM request in an established session: objects 0 QUERY, 2 KEY_PROG, 4 K_SET_GO, 5 K_SET_STOP. One link stream and eight selective
streams of a port, two key sets and two directions. -/
def State.ideKm (s : State) (pf : Nat) (m : IdeKmMsg) : State :=
  let port := s.portOf pf
  let x := s.stream port m.stream
  let sub := 2 * m.keySet + m.rxTx
  if m.object = 0 then s.ideReply pf 1 m.stream x.st x.keySet
  else if m.object = 2 then
    if 8 < m.stream ∨ 1 < m.keySet ∨ 1 < m.rxTx then s.ideReply pf 3 m.stream 3 sub
    else if m.key.length ≠ ideKeyLen then s.ideReply pf 3 m.stream 1 sub
    else
      let x := { x with keys := x.keys.ins sub m.key }
      (s.putStream port m.stream { x with st := if x.st = 0 ∧ x.complete m.keySet = true then 1 else x.st }).ideReply pf 3 m.stream 0 sub
  else if m.object = 4 then
    if m.stream ≤ 8 && m.keySet ≤ 1 && x.complete m.keySet then
      (s.putStream port m.stream { x with st := 2, keySet := m.keySet }).ideReply pf 6 m.stream 0 sub
    else s.ideReply pf 6 m.stream 3 sub
  else if m.object = 5 then
    if 8 < m.stream ∨ 1 < m.keySet then s.ideReply pf 6 m.stream 3 sub
    else
      let keys := x.keys.filter fun k => k.1 / 2 != m.keySet
      (s.putStream port m.stream { x with keys := keys, st := if x.keySet = m.keySet then 0 else x.st }).ideReply pf 6 m.stream 0 sub
  else s.spdmError pf 0x07

/-- IDE_KM_REQUEST: only within an SPDM session (R578). -/
def execIdeKmRequest (pf : Nat) (msg : IdeKmMsg) (s : State) : Outcome :=
  if pf < 2 ∧ s.reachable pf = true ∧ s.sec.st ≠ 0 then
    if msg.session = true ∧ (s.resp pf).sessions.any (fun x => x.phase == 2) = true then .next (s.ideKm pf msg) else .next (s.spdmError pf 0x04)
  else .next s

/-- IDE_STREAM_INSECURE: traffic goes on (R579). -/
def execIdeStreamInsecure (pf stream _cause : Nat) (s : State) : Outcome :=
  if pf < 2 ∧ stream ≤ 8 then .next (s.putStream (s.portOf pf) stream { s.stream (s.portOf pf) stream with st := 0, keys := [] }) else .next s

end Sys2Proof.Machine
end

