-- ==== Sys2Proof/Machine/Dispatch.lean ====
section
/-!
DEFINITION. The dispatch: one arm for each command, a direct call of its meaning.
-/

namespace Sys2Proof.Machine

open Sys2Proof

def exec (i : Instr) (s : State) : Host.Outcome State Fault Refusal :=
  match i with
  | .misalignedAccess a off size write v => Sys2Proof.Machine.execMisalignedAccess a off size write v s
  | .lowDwordRead a x => Sys2Proof.Machine.execLowDwordRead a x s
  | .lowDwordWrite a off v => Sys2Proof.Machine.execLowDwordWrite a off v s
  | .highDwordWrite a off v => Sys2Proof.Machine.execHighDwordWrite a off v s
  | .registerWrite a off size v => Sys2Proof.Machine.execRegisterWrite a off size v s
  | .txWrite a off size v => Sys2Proof.Machine.execTxWrite a off size v s
  | .doorbellWrite fn qid tail entries => Sys2Proof.Machine.execDoorbellWrite fn qid tail entries s
  | .cqHeadDoorbell fn qid head => Sys2Proof.Machine.execCqHeadDoorbell fn qid head s
  | .commandFetch fn qid => Sys2Proof.Machine.execCommandFetch fn qid s
  | .commandAdmission r => Sys2Proof.Machine.execCommandAdmission r s
  | .lockGrant r => Sys2Proof.Machine.execLockGrant r s
  | .bufferGrant p => Sys2Proof.Machine.execBufferGrant p s
  | .hostDataBlock r data mdata pi => Sys2Proof.Machine.execHostDataBlock r data mdata pi s
  | .holdupCreditGrant => Sys2Proof.Machine.execHoldupCreditGrant s
  | .writeCompletion r => Sys2Proof.Machine.execWriteCompletion r s
  | .readCompletion r pi => Sys2Proof.Machine.execReadCompletion r pi s
  | .flushCompletion r => Sys2Proof.Machine.execFlushCompletion r s
  | .fuaCompletion r => Sys2Proof.Machine.execFuaCompletion r s
  | .createIoSubmissionQueue r => Sys2Proof.Machine.execCreateIoSubmissionQueue r s
  | .deleteIoSubmissionQueue r => Sys2Proof.Machine.execDeleteIoSubmissionQueue r s
  | .createIoCompletionQueue r => Sys2Proof.Machine.execCreateIoCompletionQueue r s
  | .deleteIoCompletionQueue r => Sys2Proof.Machine.execDeleteIoCompletionQueue r s
  | .getLogPage r => Sys2Proof.Machine.execGetLogPage r s
  | .identify r => Sys2Proof.Machine.execIdentify r s
  | .abort r => Sys2Proof.Machine.execAbort r s
  | .setFeatures r => Sys2Proof.Machine.execSetFeatures r s
  | .getFeatures r => Sys2Proof.Machine.execGetFeatures r s
  | .asynchronousEventRequest r => Sys2Proof.Machine.execAsynchronousEventRequest r s
  | .namespaceManagement r => Sys2Proof.Machine.execNamespaceManagement r s
  | .firmwareCommit r => Sys2Proof.Machine.execFirmwareCommit r s
  | .firmwareImageDownload r => Sys2Proof.Machine.execFirmwareImageDownload r s
  | .deviceSelfTest r => Sys2Proof.Machine.execDeviceSelfTest r s
  | .namespaceAttachment r => Sys2Proof.Machine.execNamespaceAttachment r s
  | .directiveSend r => Sys2Proof.Machine.execDirectiveSend r s
  | .directiveReceive r => Sys2Proof.Machine.execDirectiveReceive r s
  | .virtualizationManagement r => Sys2Proof.Machine.execVirtualizationManagement r s
  | .nvmeMiSend r => Sys2Proof.Machine.execNvmeMiSend r s
  | .nvmeMiReceive r => Sys2Proof.Machine.execNvmeMiReceive r s
  | .formatNvm r => Sys2Proof.Machine.execFormatNvm r s
  | .sanitize r => Sys2Proof.Machine.execSanitize r s
  | .getLbaStatus r => Sys2Proof.Machine.execGetLbaStatus r s
  | .sealedEnvelope r => Sys2Proof.Machine.execSealedEnvelope r s
  | .sealCounterDurable tenant => Sys2Proof.Machine.execSealCounterDurable tenant s
  | .tenantPolicySet r => Sys2Proof.Machine.execTenantPolicySet r s
  | .tenantPolicyGet r => Sys2Proof.Machine.execTenantPolicyGet r s
  | .sealStatus r => Sys2Proof.Machine.execSealStatus r s
  | .securityProtocolInformation r => Sys2Proof.Machine.execSecurityProtocolInformation r s
  | .certificateChainReceive r => Sys2Proof.Machine.execCertificateChainReceive r s
  | .exchangeOfferReceive r => Sys2Proof.Machine.execExchangeOfferReceive r s
  | .attestationNonceSend r => Sys2Proof.Machine.execAttestationNonceSend r s
  | .attestedReportReceive r => Sys2Proof.Machine.execAttestedReportReceive r s
  | .keyInstall r => Sys2Proof.Machine.execKeyInstall r s
  | .tenantUnlock r => Sys2Proof.Machine.execTenantUnlock r s
  | .flush r => Sys2Proof.Machine.execFlush r s
  | .write r => Sys2Proof.Machine.execWrite r s
  | .read r => Sys2Proof.Machine.execRead r s
  | .writeUncorrectable r => Sys2Proof.Machine.execWriteUncorrectable r s
  | .compare r => Sys2Proof.Machine.execCompare r s
  | .writeZeroes r => Sys2Proof.Machine.execWriteZeroes r s
  | .datasetManagement r taken => Sys2Proof.Machine.execDatasetManagement r taken s
  | .verify r => Sys2Proof.Machine.execVerify r s
  | .zoneOpen r => Sys2Proof.Machine.execZoneOpen r s
  | .zoneClose r => Sys2Proof.Machine.execZoneClose r s
  | .zoneFinish r => Sys2Proof.Machine.execZoneFinish r s
  | .zoneReset r => Sys2Proof.Machine.execZoneReset r s
  | .zoneOffline r => Sys2Proof.Machine.execZoneOffline r s
  | .zoneActionAcknowledge r => Sys2Proof.Machine.execZoneActionAcknowledge r s
  | .zoneManagementReceive r => Sys2Proof.Machine.execZoneManagementReceive r s
  | .zoneAppend r => Sys2Proof.Machine.execZoneAppend r s
  | .controllerEnable fn ams asqs acqs => Sys2Proof.Machine.execControllerEnable fn ams asqs acqs s
  | .controllerReset fn => Sys2Proof.Machine.execControllerReset fn s
  | .normalShutdown fn => Sys2Proof.Machine.execNormalShutdown fn s
  | .shutdownComplete fn => Sys2Proof.Machine.execShutdownComplete fn s
  | .abruptShutdown fn => Sys2Proof.Machine.execAbruptShutdown fn s
  | .functionLevelReset fn => Sys2Proof.Machine.execFunctionLevelReset fn s
  | .functionDisable fn cause => Sys2Proof.Machine.execFunctionDisable fn cause s
  | .perstAssert port => Sys2Proof.Machine.execPerstAssert port s
  | .perstDeassert port => Sys2Proof.Machine.execPerstDeassert port s
  | .portLinkUp port rate width flit => Sys2Proof.Machine.execPortLinkUp port rate width flit s
  | .portLinkDown port => Sys2Proof.Machine.execPortLinkDown port s
  | .nvmSubsystemReset fn => Sys2Proof.Machine.execNvmSubsystemReset fn s
  | .statClr a => Sys2Proof.Machine.execStatClr a s
  | .countedFree engine p g => Sys2Proof.Machine.execCountedFree engine p g s
  | .namedOwnerFree engine p g owner => Sys2Proof.Machine.execNamedOwnerFree engine p g owner s
  | .referenceTake engine p g => Sys2Proof.Machine.execReferenceTake engine p g s
  | .captureWindowWrite pf off rid bytes => Sys2Proof.Machine.execCaptureWindowWrite pf off rid bytes s
  | .captureUnitAccept ring => Sys2Proof.Machine.execCaptureUnitAccept ring s
  | .creditSpanGrant ring => Sys2Proof.Machine.execCreditSpanGrant ring s
  | .zoneQueuePush a ring v => Sys2Proof.Machine.execZoneQueuePush a ring v s
  | .stallTimeout ring => Sys2Proof.Machine.execStallTimeout ring s
  | .ringArm a ring => Sys2Proof.Machine.execRingArm a ring s
  | .ringRelease a ring => Sys2Proof.Machine.execRingRelease a ring s
  | .releaseComplete ring => Sys2Proof.Machine.execReleaseComplete ring s
  | .captureCountClear a ring => Sys2Proof.Machine.execCaptureCountClear a ring s
  | .bankReady vbank => Sys2Proof.Machine.execBankReady vbank s
  | .energyTestRequest a => Sys2Proof.Machine.execEnergyTestRequest a s
  | .testPeriodExpiry => Sys2Proof.Machine.execTestPeriodExpiry s
  | .energyTestStart v0 v1 => Sys2Proof.Machine.execEnergyTestStart v0 v1 s
  | .testDischargeEnd vbank tns => Sys2Proof.Machine.execTestDischargeEnd vbank tns s
  | .energyTestComplete vbank => Sys2Proof.Machine.execEnergyTestComplete vbank s
  | .forcedFlush a key test => Sys2Proof.Machine.execForcedFlush a key test s
  | .vinBelowThreshold v => Sys2Proof.Machine.execVinBelowThreshold v s
  | .vinDip v low us => Sys2Proof.Machine.execVinDip v low us s
  | .vinLossConfirmed => Sys2Proof.Machine.execVinLossConfirmed s
  | .flushDrainDone => Sys2Proof.Machine.execFlushDrainDone s
  | .flushCommitProgrammed => Sys2Proof.Machine.execFlushCommitProgrammed s
  | .flushEnd => Sys2Proof.Machine.execFlushEnd s
  | .journalPageTimer => Sys2Proof.Machine.execJournalPageTimer s
  | .journalPageProgrammed seq => Sys2Proof.Machine.execJournalPageProgrammed seq s
  | .rdata link f => Sys2Proof.Machine.execRdata link f s
  | .sdata link f => Sys2Proof.Machine.execSdata link f s
  | .done link f => Sys2Proof.Machine.execDone link f s
  | .busy link f => Sys2Proof.Machine.execBusy link f s
  | .inhibit link f => Sys2Proof.Machine.execInhibit link f s
  | .statusRsp link f => Sys2Proof.Machine.execStatusRsp link f s
  | .nak link f => Sys2Proof.Machine.execNak link f s
  | .alert link f => Sys2Proof.Machine.execAlert link f s
  | .regData link f => Sys2Proof.Machine.execRegData link f s
  | .trainRsp link f errs => Sys2Proof.Machine.execTrainRsp link f errs s
  | .corruptFrame link lane hcrc => Sys2Proof.Machine.execCorruptFrame link lane hcrc s
  | .tagTimerExpiry link tag => Sys2Proof.Machine.execTagTimerExpiry link tag s
  | .quarantineExpiry link tag => Sys2Proof.Machine.execQuarantineExpiry link tag s
  | .frameLengthTimeout link lane => Sys2Proof.Machine.execFrameLengthTimeout link lane s
  | .burstEnd link lane cut => Sys2Proof.Machine.execBurstEnd link lane cut s
  | .trainDetectTimer link lane => Sys2Proof.Machine.execTrainDetectTimer link lane s
  | .inhibitPollTimer link => Sys2Proof.Machine.execInhibitPollTimer link s
  | .dieTempPoll die => Sys2Proof.Machine.execDieTempPoll die s
  | .resetbr a link => Sys2Proof.Machine.execResetbr a link s
  | .retrain a link => Sys2Proof.Machine.execRetrain a link s
  | .linkCounterClear a link => Sys2Proof.Machine.execLinkCounterClear a link s
  | .hardDecodeDone id res => Sys2Proof.Machine.execHardDecodeDone id res s
  | .softDecodeDone id res => Sys2Proof.Machine.execSoftDecodeDone id res s
  | .effectiveHoursTick => Sys2Proof.Machine.execEffectiveHoursTick s
  | .calibrationSampleStart die w k r block grp => Sys2Proof.Machine.execCalibrationSampleStart die w k r block grp s
  | .calibrationSampleEnd link ok counts errs n0 n1 => Sys2Proof.Machine.execCalibrationSampleEnd link ok counts errs n0 n1 s
  | .ddkCounterClear a link => Sys2Proof.Machine.execDdkCounterClear a link s
  | .softEngineFault engine => Sys2Proof.Machine.execSoftEngineFault engine s
  | .stripeUnitPlacement csn comp => Sys2Proof.Machine.execStripeUnitPlacement csn comp s
  | .groupProgram setid m grp => Sys2Proof.Machine.execGroupProgram setid m grp s
  | .stagedReadback setid row => Sys2Proof.Machine.execStagedReadback setid row s
  | .memberReplacement setid m => Sys2Proof.Machine.execMemberReplacement setid m s
  | .rebuildRow => Sys2Proof.Machine.execRebuildRow s
  | .reconstructionComplete id => Sys2Proof.Machine.execReconstructionComplete id s
  | .lostLbaSearchEnd record pos => Sys2Proof.Machine.execLostLbaSearchEnd record pos s
  | .inhibitWaitTimeout die => Sys2Proof.Machine.execInhibitWaitTimeout die s
  | .stripeCounterClear a => Sys2Proof.Machine.execStripeCounterClear a s
  | .dieDispatch die => Sys2Proof.Machine.execDieDispatch die s
  | .classAgeingTimeout die => Sys2Proof.Machine.execClassAgeingTimeout die s
  | .suspholdExpiry die => Sys2Proof.Machine.execSuspholdExpiry die s
  | .schedulerWindowEnd => Sys2Proof.Machine.execSchedulerWindowEnd s
  | .latencyMonitorConfig a v => Sys2Proof.Machine.execLatencyMonitorConfig a v s
  | .epochEnd nsix => Sys2Proof.Machine.execEpochEnd nsix s
  | .eraseRelease => Sys2Proof.Machine.execEraseRelease s
  | .checkpointTimer => Sys2Proof.Machine.execCheckpointTimer s
  | .checkpointStart kind => Sys2Proof.Machine.execCheckpointStart kind s
  | .checkpointComplete kind => Sys2Proof.Machine.execCheckpointComplete kind s
  | .gcVictimSelect ds => Sys2Proof.Machine.execGcVictimSelect ds s
  | .relocationCommit setid => Sys2Proof.Machine.execRelocationCommit setid s
  | .patrolVisit die block grp => Sys2Proof.Machine.execPatrolVisit die block grp s
  | .temperatureMinuteTick => Sys2Proof.Machine.execTemperatureMinuteTick s
  | .spdmRequest pf msg => Sys2Proof.Machine.execSpdmRequest pf msg s
  | .ideKmRequest pf msg => Sys2Proof.Machine.execIdeKmRequest pf msg s
  | .vaultSelfTest a kat rng => Sys2Proof.Machine.execVaultSelfTest a kat rng s
  | .vaultStoreCompact a => Sys2Proof.Machine.execVaultStoreCompact a s
  | .sealStatusQuery a => Sys2Proof.Machine.execSealStatusQuery a s
  | .vaultStoreWriteDone okA okB => Sys2Proof.Machine.execVaultStoreWriteDone okA okB s
  | .dramWriteRequest addr data => Sys2Proof.Machine.execDramWriteRequest addr data s
  | .dramReadRequest addr sym => Sys2Proof.Machine.execDramReadRequest addr sym s
  | .writeAgeTimeout ch sub => Sys2Proof.Machine.execWriteAgeTimeout ch sub s
  | .refreshDue ch sub rank => Sys2Proof.Machine.execRefreshDue ch sub rank s
  | .mr4Poll ch mult => Sys2Proof.Machine.execMr4Poll ch mult s
  | .zqCalibrationTimer ch => Sys2Proof.Machine.execZqCalibrationTimer ch s
  | .oscillatorTimer ch drift => Sys2Proof.Machine.execOscillatorTimer ch drift s
  | .trainingOperation a ch v => Sys2Proof.Machine.execTrainingOperation a ch v s
  | .trainingOperationDone ch fail first burst => Sys2Proof.Machine.execTrainingOperationDone ch fail first burst s
  | .delaySet a ch v => Sys2Proof.Machine.execDelaySet a ch v s
  | .modeRegisterCommand a ch v rdata => Sys2Proof.Machine.execModeRegisterCommand a ch v rdata s
  | .scrubStart a v => Sys2Proof.Machine.execScrubStart a v s
  | .scrubAbort a => Sys2Proof.Machine.execScrubAbort a s
  | .scrubPassEnd => Sys2Proof.Machine.execScrubPassEnd s
  | .domainCommand a v => Sys2Proof.Machine.execDomainCommand a v s
  | .handshakeReply dom reply => Sys2Proof.Machine.execHandshakeReply dom reply s
  | .handshakeDelayExpiry dom => Sys2Proof.Machine.execHandshakeDelayExpiry dom s
  | .quiesceDone dom => Sys2Proof.Machine.execQuiesceDone dom s
  | .domainEntryComplete dom => Sys2Proof.Machine.execDomainEntryComplete dom s
  | .domainReturnComplete dom => Sys2Proof.Machine.execDomainReturnComplete dom s
  | .domainReturnFailed dom cause => Sys2Proof.Machine.execDomainReturnFailed dom cause s
  | .wakePinChange pin level => Sys2Proof.Machine.execWakePinChange pin level s
  | .wakeEvent pin => Sys2Proof.Machine.execWakeEvent pin s
  | .transactionBegin a => Sys2Proof.Machine.execTransactionBegin a s
  | .transactionCommit a save => Sys2Proof.Machine.execTransactionCommit a save s
  | .transactionAbort a => Sys2Proof.Machine.execTransactionAbort a s
  | .commitImageSaved ok => Sys2Proof.Machine.execCommitImageSaved ok s
  | .commitIslandsHeld => Sys2Proof.Machine.execCommitIslandsHeld s
  | .transactionTimeout => Sys2Proof.Machine.execTransactionTimeout s
  | .bootLock a => Sys2Proof.Machine.execBootLock a s
  | .eventRecordArrival src => Sys2Proof.Machine.execEventRecordArrival src s
  | .eventRingWrite ring err => Sys2Proof.Machine.execEventRingWrite ring err s
  | .eventHeadWrite a ring head => Sys2Proof.Machine.execEventHeadWrite a ring head s
  | .eventRingConfig a ring v => Sys2Proof.Machine.execEventRingConfig a ring v s
  | .eventInterruptTimer ring => Sys2Proof.Machine.execEventInterruptTimer ring s
  | .mctpControlMessage msg => Sys2Proof.Machine.execMctpControlMessage msg s
  | .readNvmeMiDataStructure dtyp portid ctlid => Sys2Proof.Machine.execReadNvmeMiDataStructure dtyp portid ctlid s
  | .nvmSubsystemHealthStatusPoll clear => Sys2Proof.Machine.execNvmSubsystemHealthStatusPoll clear s
  | .controllerHealthStatusPoll start maxent clear => Sys2Proof.Machine.execControllerHealthStatusPoll start maxent clear s
  | .configurationSet cid port v => Sys2Proof.Machine.execConfigurationSet cid port v s
  | .configurationGet cid port => Sys2Proof.Machine.execConfigurationGet cid port s
  | .vpdRead off len => Sys2Proof.Machine.execVpdRead off len s
  | .vpdWrite off bytes => Sys2Proof.Machine.execVpdWrite off bytes s
  | .miReset rtype => Sys2Proof.Machine.execMiReset rtype s
  | .tunnelledAdminCommand pf e => Sys2Proof.Machine.execTunnelledAdminCommand pf e s
  | .setupWindowAccess write off v => Sys2Proof.Machine.execSetupWindowAccess write off v s
  | .vauxPorEnd bifur mgmtSel dbgen => Sys2Proof.Machine.execVauxPorEnd bifur mgmtSel dbgen s
  | .vauxLoss => Sys2Proof.Machine.execVauxLoss s
  | .isolationSwitchOn => Sys2Proof.Machine.execIsolationSwitchOn s
  | .vinInRange => Sys2Proof.Machine.execVinInRange s
  | .startupStageComplete res => Sys2Proof.Machine.execStartupStageComplete res s
  | .fwsProgram a v => Sys2Proof.Machine.execFwsProgram a v s
  | .fwsErase a v => Sys2Proof.Machine.execFwsErase a v s
  | .fwsRead a v => Sys2Proof.Machine.execFwsRead a v s
  | .fwsOperationDone ok => Sys2Proof.Machine.execFwsOperationDone ok s
  | .coreReadBusyBank core addr => Sys2Proof.Machine.execCoreReadBusyBank core addr s
  | .reboot a key => Sys2Proof.Machine.execReboot a key s
  | .watchdogExpiry core cause => Sys2Proof.Machine.execWatchdogExpiry core cause s
  | .hotActivationQuiesced => Sys2Proof.Machine.execHotActivationQuiesced s
  | .hotActivationTimeout => Sys2Proof.Machine.execHotActivationTimeout s
  | .activationImageLoaded ok => Sys2Proof.Machine.execActivationImageLoaded ok s
  | .activationComplete ok pause => Sys2Proof.Machine.execActivationComplete ok pause s
  | .junctionTempSample t => Sys2Proof.Machine.execJunctionTempSample t s
  | .thermalTrip => Sys2Proof.Machine.execThermalTrip s
  | .thermalCooldown => Sys2Proof.Machine.execThermalCooldown s
  | .linkTrainingPhaseTimeout link lane => Sys2Proof.Machine.execLinkTrainingPhaseTimeout link lane s
  | .testAccessPortAccess addr len => Sys2Proof.Machine.execTestAccessPortAccess addr len s
  | .crystalFault cause => Sys2Proof.Machine.execCrystalFault cause s
  | .managementEndpointReset cause => Sys2Proof.Machine.execManagementEndpointReset cause s
  | .functionEnable fn cause => Sys2Proof.Machine.execFunctionEnable fn cause s
  | .interruptCoalescingTimer fn cqid => Sys2Proof.Machine.execInterruptCoalescingTimer fn cqid s
  | .ideStreamInsecure pf stream cause => Sys2Proof.Machine.execIdeStreamInsecure pf stream cause s
  | .bankAboveVFloor vbank => Sys2Proof.Machine.execBankAboveVFloor vbank s
  | .dynamicAddressAssignment addr setdasa => Sys2Proof.Machine.execDynamicAddressAssignment addr setdasa s
  | .fwsOperationTimeout => Sys2Proof.Machine.execFwsOperationTimeout s

end Sys2Proof.Machine
end

