-- ==== Sys2Proof/Machine/Idle.lean ====
section
/-!
DEFINITION. What passes while no command waits: the always-on timer counts a nanosecond (GLB_AOTIME), and each DRAM sub-channel issues one
of its queued commands (R591, R592).
-/

namespace Sys2Proof.Machine

/-- A step on an empty queue (log entry 38). Before VAUX power-on reset nothing counts. -/
def State.idle (s : State) : State :=
  if s.brd.vaux then (s.withAo { s.ao with time := s.ao.time + 1 }).drainStep else s

end Sys2Proof.Machine
end

