-- ==== Sys2Proof/Safety.lean ====
section
/-!
DEFINITION. What counts as a safe run, in the terms that statements use: the memories keep their canonical form; what a command may change, part
of the state by part; what it is for a command to be answered; and that nothing stops but an access to a DRAM address that does not exist (R588).
-/

namespace Sys2Proof.Machine

open Sys2Proof

/-- The memories are in canonical form: DRAM over zeros, the NOR over erased bytes, a downloaded image over zeros. -/
def State.memWf (s : State) : Bool := Mem.wf 0 s.drm.mem && Mem.wf 0xFF s.boot.nor && Mem.wf 0 s.boot.image

/-- A step that goes on. -/
def Goes (s : State) : Prop := ∃ t, step s = .next t

/-- A fetched command waits for its own row, with room for its completion: it may run now. -/
def State.mayRun (s : State) (r : CmdRef) (c : Cmd) (admin : Bool) (opc : Nat) : Prop :=
  s.cmd? r = some c ∧ c.phase = .ready ∧ c.sqe.opc = opc ∧ decide (c.ref.qid = 0) = admin ∧ s.cqRoom r = true

/-- A command that goes on in a state. -/
def Runs (c : Instr) (s : State) : Prop := ∃ t, exec c s = .next t

/-- The only stop: an access to a DRAM address that does not exist. -/
def OnlyStop (c : Instr) (s : State) : Prop := ∀ o, exec c s = o → (∃ t, o = .next t) ∨ ∃ a, o = .fault (.noSuchDramAddress a)

/-- What only the fuses hold: the SVN floor, the revoked and the valid keys, and the production settings (R747). -/
def Vault.fuses (v : Vault) : Nat × Nat × Nat × Bool × Bool := (v.svnFloor, v.krevoked, v.kvalid, v.prod, v.gradeX)

/-- The bytes of the NOR and of a downloaded image. -/
def Boot.stores (b : Boot) : Mem × Mem := (b.nor, b.image)

/-- The parts of the state, in the terms of frames. The last three are parts of others that few commands change. -/
inductive Part where
  /-- The always-on timer and strap. -/
  | ao
  /-- The Setup Window's register file, latches, transaction and lock. -/
  | win
  /-- The event fabric and its rings. -/
  | ev
  /-- Ports, functions, queues, commands in flight and what has been sent outward. -/
  | host
  /-- The Colander. -/
  | col
  /-- The buffer pools. -/
  | bpm
  /-- The capture rings. -/
  | cap
  /-- The hold-up controller and the flush images. -/
  | hld
  /-- The Stripe Intent Journal. -/
  | jnl
  /-- Namespaces, zones and the placement map. -/
  | zon
  /-- Units, sets and stripes. -/
  | str
  /-- The scheduler. -/
  | sch
  /-- The link units. -/
  | lnk
  /-- The Didrinak front ends. -/
  | ddk
  /-- Blocks, flash content, checkpoints and health. -/
  | med
  /-- The security vault. -/
  | sec
  /-- The DRAM, its controller and the scrubber. -/
  | drm
  /-- The power domains. -/
  | pwr
  /-- Start-up and the firmware store. -/
  | boot
  /-- Supplies, pins and temperatures. -/
  | brd
  /-- The management endpoint. -/
  | mgt
  /-- The model's own counter of free values drawn. -/
  | free
  /-- The queue of waiting commands. -/
  | pending
  /-- Of the vault, the fuses alone. -/
  | fuses
  /-- Of the firmware store, the bytes of the NOR and of a downloaded image alone. -/
  | stores
  /-- Of the DRAM, the stored bytes alone. -/
  | bytes
  deriving DecidableEq, Repr

/-- The two states agree in a part. -/
def Part.same (s t : State) : Part → Prop
  | .ao => t.ao = s.ao
  | .win => t.win = s.win
  | .ev => t.ev = s.ev
  | .host => t.host = s.host
  | .col => t.col = s.col
  | .bpm => t.bpm = s.bpm
  | .cap => t.cap = s.cap
  | .hld => t.hld = s.hld
  | .jnl => t.jnl = s.jnl
  | .zon => t.zon = s.zon
  | .str => t.str = s.str
  | .sch => t.sch = s.sch
  | .lnk => t.lnk = s.lnk
  | .ddk => t.ddk = s.ddk
  | .med => t.med = s.med
  | .sec => t.sec = s.sec
  | .drm => t.drm = s.drm
  | .pwr => t.pwr = s.pwr
  | .boot => t.boot = s.boot
  | .brd => t.brd = s.brd
  | .mgt => t.mgt = s.mgt
  | .free => t.free = s.free
  | .pending => t.pending = s.pending
  | .fuses => t.sec.fuses = s.sec.fuses
  | .stores => t.boot.stores = s.boot.stores
  | .bytes => t.drm.mem = s.drm.mem

/-- Nothing differs but the parts listed. -/
def OnlyChanges (l : List Part) (s t : State) : Prop := ∀ p, p ∉ l → p.same s t

/-- The parts of the state that a command may change; where a command changes one of the last three parts, the part that it belongs to is listed too. -/
def mayChange : Instr → List Part
  | .misalignedAccess _ _ _ _ _ => [.ev, .host]
  | .lowDwordRead _ _ => [.win, .host]
  | .lowDwordWrite _ _ _ => [.ao, .win, .ev, .host, .col, .bpm, .cap, .hld, .jnl, .zon, .str, .sch, .lnk, .ddk, .med, .sec, .drm, .pwr, .boot, .brd, .mgt, .free, .stores, .bytes]
  | .highDwordWrite _ _ _ => [.ao, .win, .ev, .host, .col, .bpm, .cap, .hld, .jnl, .zon, .str, .sch, .lnk, .ddk, .med, .sec, .drm, .pwr, .boot, .brd, .mgt, .free, .stores, .bytes]
  | .registerWrite _ _ _ _ => [.ao, .win, .ev, .host, .col, .bpm, .cap, .hld, .jnl, .zon, .str, .sch, .lnk, .ddk, .med, .sec, .drm, .pwr, .boot, .brd, .mgt, .free, .stores, .bytes]
  | .txWrite _ _ _ _ => [.ao, .win, .ev, .host, .col, .bpm, .cap, .hld, .jnl, .zon, .str, .sch, .lnk, .ddk, .med, .sec, .drm, .pwr, .boot, .brd, .mgt, .free, .stores, .bytes]
  | .doorbellWrite _ _ _ _ => [.host]
  | .cqHeadDoorbell _ _ _ => [.ev, .host, .col, .bpm, .sec]
  | .commandFetch _ _ => [.ev, .host, .col, .bpm, .sec]
  | .commandAdmission _ => [.host, .col, .sch]
  | .lockGrant _ => [.host, .col, .bpm]
  | .bufferGrant _ => [.ev, .host, .bpm, .cap, .jnl]
  | .hostDataBlock _ _ _ _ => [.ev, .host, .col, .bpm, .hld, .jnl, .zon, .str, .sec]
  | .holdupCreditGrant => [.ev, .host, .bpm, .hld, .jnl, .zon, .str, .med, .free]
  | .writeCompletion _ => [.ev, .host, .col, .bpm, .zon, .str, .sch, .med, .sec]
  | .readCompletion _ _ => [.ev, .host, .col, .bpm, .sch, .med, .sec, .free]
  | .flushCompletion _ => [.ev, .host, .col, .bpm, .sec]
  | .fuaCompletion _ => [.ev, .host, .col, .bpm, .zon, .str, .sch, .med, .sec]
  | .createIoSubmissionQueue _ => [.ev, .host, .col, .bpm, .sec]
  | .deleteIoSubmissionQueue _ => [.ev, .host, .col, .bpm, .sec]
  | .createIoCompletionQueue _ => [.ev, .host, .col, .bpm, .sec]
  | .deleteIoCompletionQueue _ => [.ev, .host, .col, .bpm, .sec]
  | .getLogPage _ => [.ev, .host, .col, .bpm, .str, .med, .sec, .brd, .free]
  | .identify _ => [.ev, .host, .col, .bpm, .sec]
  | .abort _ => [.ev, .host, .col, .bpm, .hld, .jnl, .zon, .str, .sec]
  | .setFeatures _ => [.ev, .host, .col, .bpm, .sec]
  | .getFeatures _ => [.ev, .host, .col, .bpm, .sec]
  | .asynchronousEventRequest _ => [.ev, .host, .col, .bpm, .sec]
  | .namespaceManagement _ => [.ev, .host, .col, .bpm, .hld, .jnl, .zon, .str, .sch, .ddk, .med, .sec, .free]
  | .firmwareCommit _ => [.win, .ev, .host, .col, .bpm, .sec, .boot, .free, .stores]
  | .firmwareImageDownload _ => [.ev, .host, .col, .bpm, .sec, .boot, .stores]
  | .deviceSelfTest _ => [.ev, .host, .col, .bpm, .str, .sch, .lnk, .ddk, .sec]
  | .namespaceAttachment _ => [.ev, .host, .col, .bpm, .zon, .sec]
  | .directiveSend _ => [.ev, .host, .col, .bpm, .sec]
  | .directiveReceive _ => [.ev, .host, .col, .bpm, .sec]
  | .virtualizationManagement _ => [.win, .ev, .host, .col, .bpm, .hld, .jnl, .zon, .str, .sch, .ddk, .med, .sec]
  | .nvmeMiSend _ => [.ao, .win, .ev, .host, .col, .bpm, .cap, .hld, .jnl, .zon, .str, .sch, .lnk, .ddk, .med, .sec, .drm, .pwr, .boot, .brd, .mgt, .free, .stores, .bytes]
  | .nvmeMiReceive _ => [.ev, .host, .col, .bpm, .sec, .mgt]
  | .formatNvm _ => [.ev, .host, .col, .bpm, .hld, .jnl, .zon, .str, .sch, .ddk, .med, .sec, .mgt, .free]
  | .sanitize _ => [.ev, .host, .col, .bpm, .hld, .jnl, .zon, .str, .sch, .ddk, .med, .sec, .mgt, .free]
  | .getLbaStatus _ => [.ev, .host, .col, .bpm, .sec]
  | .sealedEnvelope _ => [.ev, .host, .col, .bpm, .sec]
  | .sealCounterDurable _ => [.ev, .host, .col, .bpm, .sec]
  | .tenantPolicySet _ => [.ev, .host, .col, .bpm, .hld, .jnl, .zon, .str, .sch, .ddk, .med, .sec]
  | .tenantPolicyGet _ => [.ev, .host, .col, .bpm, .sec]
  | .sealStatus _ => [.ev, .host, .col, .bpm, .sec]
  | .securityProtocolInformation _ => [.ev, .host, .col, .bpm, .sec]
  | .certificateChainReceive _ => [.ev, .host, .col, .bpm, .sec]
  | .exchangeOfferReceive _ => [.ev, .host, .col, .bpm, .sec, .free]
  | .attestationNonceSend _ => [.ev, .host, .col, .bpm, .sec]
  | .attestedReportReceive _ => [.ev, .host, .col, .bpm, .sec, .free]
  | .keyInstall _ => [.ev, .host, .col, .bpm, .sec]
  | .tenantUnlock _ => [.ev, .host, .col, .bpm, .sec]
  | .flush _ => [.ev, .host, .bpm, .hld, .jnl, .zon, .str, .med]
  | .write _ => [.ev, .host, .col, .bpm, .cap, .hld, .jnl, .zon, .str, .sch, .med, .sec, .mgt]
  | .read _ => [.ev, .host, .col, .bpm, .str, .sch, .lnk, .ddk, .sec]
  | .writeUncorrectable _ => [.ev, .host, .col, .bpm, .hld, .jnl, .zon, .str, .sec]
  | .compare _ => [.ev, .host, .col, .bpm, .str, .sch, .lnk, .ddk, .sec]
  | .writeZeroes _ => [.ev, .host, .col, .bpm, .cap, .hld, .jnl, .zon, .str, .sch, .med, .sec, .mgt]
  | .datasetManagement _ _ => [.ev, .host, .col, .bpm, .hld, .jnl, .zon, .str, .sec]
  | .verify _ => [.ev, .host, .col, .bpm, .str, .sch, .lnk, .ddk, .sec]
  | .zoneOpen _ => [.ev, .host, .col, .bpm, .cap, .hld, .jnl, .zon, .str, .sch, .med, .sec, .mgt]
  | .zoneClose _ => [.ev, .host, .col, .bpm, .cap, .hld, .jnl, .zon, .str, .sch, .med, .sec, .mgt]
  | .zoneFinish _ => [.ev, .host, .col, .bpm, .cap, .hld, .jnl, .zon, .str, .sch, .med, .sec, .mgt]
  | .zoneReset _ => [.ev, .host, .col, .bpm, .cap, .hld, .jnl, .zon, .str, .sch, .med, .sec, .mgt]
  | .zoneOffline _ => [.ev, .host, .col, .bpm, .cap, .hld, .jnl, .zon, .str, .sch, .med, .sec, .mgt]
  | .zoneActionAcknowledge _ => [.ev, .host, .col, .bpm, .hld, .jnl, .zon, .str, .sch, .ddk, .med, .sec]
  | .zoneManagementReceive _ => [.ev, .host, .col, .bpm, .sec]
  | .zoneAppend _ => [.ev, .host, .col, .bpm, .cap, .hld, .jnl, .zon, .str, .sch, .med, .sec, .mgt]
  | .controllerEnable _ _ _ _ => [.host]
  | .controllerReset _ => [.win, .ev, .host, .col, .bpm, .hld, .jnl, .zon, .str, .sch, .ddk, .med, .sec]
  | .normalShutdown _ => [.ev, .host, .bpm, .hld, .jnl, .zon, .str, .med]
  | .shutdownComplete _ => [.ev, .host, .bpm, .hld, .jnl, .zon, .str, .med]
  | .abruptShutdown _ => [.ev, .host, .col, .bpm, .hld, .jnl, .zon, .str, .sch, .ddk, .med, .sec]
  | .functionLevelReset _ => [.win, .ev, .host, .col, .bpm, .cap, .hld, .jnl, .zon, .str, .sch, .ddk, .med, .sec]
  | .functionDisable _ _ => [.win, .ev, .host, .col, .bpm, .cap, .hld, .jnl, .zon, .str, .sch, .ddk, .med, .sec]
  | .perstAssert _ => [.win, .ev, .host, .col, .bpm, .cap, .hld, .jnl, .zon, .str, .sch, .ddk, .med, .sec]
  | .perstDeassert _ => [.host]
  | .portLinkUp _ _ _ _ => [.ev, .host]
  | .portLinkDown _ => [.win, .ev, .host, .col, .bpm, .cap, .hld, .jnl, .zon, .str, .sch, .ddk, .med, .sec]
  | .nvmSubsystemReset _ => [.ao, .win, .ev, .host, .col, .bpm, .cap, .hld, .jnl, .zon, .str, .sch, .lnk, .ddk, .med, .sec, .drm, .pwr, .boot, .brd, .mgt, .free, .stores, .bytes]
  | .statClr _ => [.col]
  | .countedFree _ _ _ => [.ev, .host, .bpm]
  | .namedOwnerFree _ _ _ _ => [.ev, .host, .bpm]
  | .referenceTake _ _ _ => [.ev, .bpm]
  | .captureWindowWrite _ _ _ _ => [.ev, .bpm, .cap]
  | .captureUnitAccept _ => [.ev, .host, .bpm, .cap, .hld, .jnl, .zon, .str]
  | .creditSpanGrant _ => [.ev, .host, .bpm, .cap, .jnl]
  | .zoneQueuePush _ _ _ => [.ev, .bpm, .cap, .hld, .jnl, .zon, .str, .sch, .med]
  | .stallTimeout _ => [.ev, .bpm, .cap]
  | .ringArm _ _ => [.ev, .bpm, .cap, .sec, .free]
  | .ringRelease _ _ => [.ev, .bpm, .cap, .hld, .jnl, .zon]
  | .releaseComplete _ => [.ev, .host, .bpm, .cap, .hld, .jnl, .zon]
  | .captureCountClear _ _ => [.ev, .bpm, .cap, .hld, .jnl, .zon, .sec, .free]
  | .bankReady _ => [.ev, .hld]
  | .energyTestRequest _ => [.hld]
  | .testPeriodExpiry => [.hld]
  | .energyTestStart _ _ => [.ev, .host, .col, .bpm, .hld, .jnl, .zon, .str, .med, .sec, .mgt]
  | .testDischargeEnd _ _ => [.hld]
  | .energyTestComplete _ => [.ev, .host, .col, .bpm, .hld, .jnl, .zon, .str, .med, .sec, .mgt]
  | .forcedFlush _ _ _ => [.ao, .win, .ev, .host, .col, .bpm, .cap, .hld, .jnl, .zon, .str, .sch, .lnk, .ddk, .med, .sec, .drm, .pwr, .boot, .brd, .mgt, .free, .stores, .bytes]
  | .vinBelowThreshold _ => [.hld]
  | .vinDip _ _ _ => [.ev, .hld]
  | .vinLossConfirmed => [.ao, .win, .ev, .host, .col, .bpm, .cap, .hld, .jnl, .zon, .str, .sch, .lnk, .ddk, .med, .sec, .drm, .pwr, .boot, .brd, .mgt, .free, .stores, .bytes]
  | .flushDrainDone => [.hld, .drm, .bytes]
  | .flushCommitProgrammed => [.hld]
  | .flushEnd => [.ao, .win, .ev, .host, .col, .bpm, .cap, .hld, .jnl, .zon, .str, .sch, .lnk, .ddk, .med, .sec, .drm, .pwr, .boot, .brd, .mgt, .free, .stores, .bytes]
  | .journalPageTimer => [.jnl]
  | .journalPageProgrammed _ => [.ev, .host, .col, .bpm, .cap, .hld, .jnl, .zon, .med, .sec, .mgt]
  | .rdata _ _ => [.sch, .lnk, .ddk, .free]
  | .sdata _ _ => [.sch, .lnk, .ddk, .free]
  | .done _ _ => [.win, .ev, .host, .col, .bpm, .cap, .hld, .jnl, .zon, .str, .sch, .lnk, .ddk, .med, .sec, .boot, .mgt, .free]
  | .busy _ _ => [.str, .sch, .lnk, .ddk]
  | .inhibit _ _ => [.ev, .str, .sch, .lnk, .free]
  | .statusRsp _ _ => [.win, .ev, .host, .col, .bpm, .cap, .hld, .jnl, .zon, .str, .sch, .lnk, .ddk, .med, .sec, .boot, .mgt, .free]
  | .nak _ _ => [.win, .ev, .host, .col, .bpm, .cap, .hld, .jnl, .zon, .str, .sch, .lnk, .ddk, .med, .sec, .boot, .mgt, .free]
  | .alert _ _ => [.win, .ev, .host, .col, .bpm, .cap, .hld, .jnl, .zon, .str, .sch, .lnk, .med, .sec, .boot, .mgt, .free]
  | .regData _ _ => [.win, .ev, .host, .col, .bpm, .cap, .hld, .jnl, .zon, .str, .sch, .lnk, .ddk, .med, .sec, .boot, .mgt, .free]
  | .trainRsp _ _ _ => [.win, .ev, .host, .col, .bpm, .cap, .hld, .jnl, .zon, .str, .sch, .lnk, .ddk, .med, .sec, .boot, .mgt, .free]
  | .corruptFrame _ _ _ => [.lnk]
  | .tagTimerExpiry _ _ => [.win, .ev, .host, .col, .bpm, .cap, .hld, .jnl, .zon, .str, .sch, .lnk, .ddk, .med, .sec, .boot, .mgt, .free]
  | .quarantineExpiry _ _ => [.lnk]
  | .frameLengthTimeout _ _ => [.lnk]
  | .burstEnd _ _ _ => [.lnk]
  | .trainDetectTimer _ _ => [.lnk]
  | .inhibitPollTimer _ => [.lnk]
  | .dieTempPoll _ => [.lnk]
  | .resetbr _ _ => [.lnk]
  | .retrain _ _ => [.lnk]
  | .linkCounterClear _ _ => [.lnk]
  | .hardDecodeDone _ _ => [.win, .ev, .host, .col, .bpm, .cap, .hld, .jnl, .zon, .str, .sch, .lnk, .ddk, .med, .sec, .pwr, .boot, .mgt, .free]
  | .softDecodeDone _ _ => [.win, .ev, .host, .col, .bpm, .cap, .hld, .jnl, .zon, .str, .sch, .lnk, .ddk, .med, .sec, .boot, .mgt, .free]
  | .effectiveHoursTick => [.ev, .ddk, .med]
  | .calibrationSampleStart _ _ _ _ _ _ => [.sch, .ddk, .med]
  | .calibrationSampleEnd _ _ _ _ _ _ => [.ev, .ddk, .med, .free]
  | .ddkCounterClear _ _ => [.ddk]
  | .softEngineFault _ => [.win, .ev, .host, .col, .bpm, .cap, .hld, .jnl, .zon, .str, .sch, .lnk, .ddk, .med, .sec, .boot, .mgt, .free]
  | .stripeUnitPlacement _ _ => [.ev, .host, .bpm, .hld, .jnl, .zon, .str, .sch, .med]
  | .groupProgram _ _ _ => [.ev, .host, .col, .bpm, .hld, .zon, .str, .sch, .med, .sec]
  | .stagedReadback _ _ => [.ev, .host, .col, .bpm, .hld, .jnl, .zon, .str, .med, .sec, .mgt, .free]
  | .memberReplacement _ _ => [.ev, .host, .col, .bpm, .cap, .hld, .jnl, .zon, .str, .sch, .ddk, .med, .sec, .mgt, .free]
  | .rebuildRow => [.ev, .host, .col, .bpm, .cap, .hld, .jnl, .zon, .str, .sch, .ddk, .med, .sec, .mgt, .free]
  | .reconstructionComplete _ => [.ev, .host, .col, .bpm, .zon, .str, .sch, .lnk, .ddk, .med, .sec, .mgt, .free]
  | .lostLbaSearchEnd _ _ => [.ev, .host, .col, .bpm, .zon, .str, .med, .sec, .free]
  | .inhibitWaitTimeout _ => [.str, .sch]
  | .stripeCounterClear _ => [.str]
  | .dieDispatch _ => [.ev, .host, .str, .sch, .lnk, .ddk, .med, .drm]
  | .classAgeingTimeout _ => [.str, .sch, .lnk, .ddk]
  | .suspholdExpiry _ => [.ev, .host, .str, .sch, .lnk, .ddk, .med, .drm]
  | .schedulerWindowEnd => [.ev, .host, .col, .bpm, .sch, .med, .sec, .mgt]
  | .latencyMonitorConfig _ _ => [.win, .sch]
  | .epochEnd _ => [.zon]
  | .eraseRelease => [.sch, .med]
  | .checkpointTimer => [.bpm, .hld, .jnl, .med]
  | .checkpointStart _ => [.bpm, .hld, .jnl, .med]
  | .checkpointComplete _ => [.ev, .bpm, .hld, .jnl, .ddk, .med, .boot, .free]
  | .gcVictimSelect _ => [.ev, .host, .col, .bpm, .hld, .jnl, .zon, .str, .sch, .ddk, .med, .sec, .mgt, .free]
  | .relocationCommit _ => [.ev, .bpm, .hld, .jnl, .zon, .str, .sch, .ddk, .med]
  | .patrolVisit _ _ _ => [.str, .sch, .lnk, .ddk, .med]
  | .temperatureMinuteTick => [.med]
  | .spdmRequest _ _ => [.host, .sec, .free]
  | .ideKmRequest _ _ => [.ev, .host, .col, .bpm, .sec]
  | .vaultSelfTest _ _ _ => [.ev, .sec, .free]
  | .vaultStoreCompact _ => [.sec]
  | .sealStatusQuery _ => [.win, .sec]
  | .vaultStoreWriteDone _ _ => [.ev, .sec, .free]
  | .dramWriteRequest _ _ => [.drm]
  | .dramReadRequest _ _ => [.win, .ev, .host, .drm, .free, .bytes]
  | .writeAgeTimeout _ _ => [.win, .ev, .host, .drm, .free, .bytes]
  | .refreshDue _ _ _ => [.drm]
  | .mr4Poll _ _ => [.drm]
  | .zqCalibrationTimer _ => [.drm]
  | .oscillatorTimer _ _ => [.drm]
  | .trainingOperation _ _ _ => [.win, .ev, .drm]
  | .trainingOperationDone _ _ _ _ => [.win, .drm]
  | .delaySet _ _ _ => [.win, .ev, .drm]
  | .modeRegisterCommand _ _ _ _ => [.win, .drm]
  | .scrubStart _ _ => [.win, .ev, .drm]
  | .scrubAbort _ => [.drm]
  | .scrubPassEnd => [.ev, .drm, .free]
  | .domainCommand _ _ => [.ev, .pwr, .free]
  | .handshakeReply _ _ => [.ev, .pwr, .free]
  | .handshakeDelayExpiry _ => [.pwr]
  | .quiesceDone _ => [.ev, .bpm, .hld, .jnl, .zon, .str, .med, .pwr, .free]
  | .domainEntryComplete _ => [.ev, .host, .col, .bpm, .cap, .hld, .sch, .lnk, .sec, .drm, .pwr, .boot, .mgt, .free, .bytes]
  | .domainReturnComplete _ => [.ev, .host, .col, .bpm, .hld, .jnl, .zon, .str, .ddk, .med, .sec, .drm, .pwr, .mgt, .bytes]
  | .domainReturnFailed _ _ => [.ev, .pwr]
  | .wakePinChange _ _ => [.pwr]
  | .wakeEvent _ => [.ao, .win, .ev, .host, .col, .bpm, .cap, .hld, .jnl, .zon, .str, .sch, .lnk, .ddk, .med, .sec, .drm, .pwr, .boot, .brd, .mgt, .free, .stores, .bytes]
  | .transactionBegin _ => [.win]
  | .transactionCommit _ _ => [.win, .ev]
  | .transactionAbort _ => [.win, .ev]
  | .commitImageSaved _ => [.win, .ev, .boot]
  | .commitIslandsHeld => [.win, .ev, .host, .col, .bpm, .hld, .jnl, .zon, .str, .sch, .lnk, .med, .sec, .mgt]
  | .transactionTimeout => [.win, .ev]
  | .bootLock _ => [.win]
  | .eventRecordArrival _ => [.ev, .host, .col, .bpm, .sec]
  | .eventRingWrite _ _ => [.win, .ev, .host]
  | .eventHeadWrite _ _ _ => [.win]
  | .eventRingConfig _ _ _ => [.win, .ev]
  | .eventInterruptTimer _ => [.ev, .host]
  | .mctpControlMessage _ => [.host, .mgt]
  | .readNvmeMiDataStructure _ _ _ => [.host]
  | .nvmSubsystemHealthStatusPoll _ => [.host, .mgt]
  | .controllerHealthStatusPoll _ _ _ => [.host, .mgt]
  | .configurationSet _ _ _ => [.host, .mgt]
  | .configurationGet _ _ => [.host]
  | .vpdRead _ _ => [.host]
  | .vpdWrite _ _ => [.host, .mgt]
  | .miReset _ => [.ao, .win, .ev, .host, .col, .bpm, .cap, .hld, .jnl, .zon, .str, .sch, .lnk, .ddk, .med, .sec, .drm, .pwr, .boot, .brd, .mgt, .free, .stores, .bytes]
  | .tunnelledAdminCommand _ _ => [.ev, .host, .col, .bpm, .sec]
  | .setupWindowAccess _ _ _ => [.ao, .win, .ev, .host, .col, .bpm, .cap, .hld, .jnl, .zon, .str, .sch, .lnk, .ddk, .med, .sec, .drm, .pwr, .boot, .brd, .mgt, .free, .stores, .bytes]
  | .vauxPorEnd _ _ _ => [.ao, .brd]
  | .vauxLoss => [.ao, .win, .ev, .host, .col, .bpm, .cap, .hld, .jnl, .zon, .str, .sch, .lnk, .ddk, .med, .sec, .drm, .pwr, .boot, .brd, .mgt, .free, .stores, .bytes]
  | .isolationSwitchOn => [.brd]
  | .vinInRange => [.ev, .pwr, .boot, .brd]
  | .startupStageComplete _ => [.win, .ev, .host, .col, .bpm, .cap, .hld, .jnl, .zon, .str, .sch, .lnk, .ddk, .med, .sec, .drm, .boot, .mgt, .free, .fuses, .stores, .bytes]
  | .fwsProgram _ _ => [.win, .ev, .boot, .free]
  | .fwsErase _ _ => [.win, .ev, .boot, .free]
  | .fwsRead _ _ => [.win, .ev, .boot, .free]
  | .fwsOperationDone _ => [.boot, .free, .stores]
  | .coreReadBusyBank _ _ => [.ev, .boot, .free]
  | .reboot _ _ => [.ao, .win, .ev, .host, .col, .bpm, .cap, .hld, .jnl, .zon, .str, .sch, .lnk, .ddk, .med, .sec, .drm, .pwr, .boot, .brd, .mgt, .free, .stores, .bytes]
  | .watchdogExpiry _ _ => [.ao, .win, .ev, .host, .col, .bpm, .cap, .hld, .jnl, .zon, .str, .sch, .lnk, .ddk, .med, .sec, .drm, .pwr, .boot, .brd, .mgt, .free, .stores, .bytes]
  | .hotActivationQuiesced => [.boot]
  | .hotActivationTimeout => [.ev, .host, .col, .bpm, .sec, .boot]
  | .activationImageLoaded _ => [.ev, .host, .col, .bpm, .sec, .boot]
  | .activationComplete _ _ => [.ev, .host, .col, .bpm, .sec, .boot, .fuses]
  | .junctionTempSample _ => [.ev, .brd]
  | .thermalTrip => [.ao, .win, .ev, .host, .col, .bpm, .cap, .hld, .jnl, .zon, .str, .sch, .lnk, .ddk, .med, .sec, .drm, .pwr, .boot, .brd, .mgt, .free, .stores, .bytes]
  | .thermalCooldown => [.brd]
  | .linkTrainingPhaseTimeout _ _ => [.win, .ev, .host, .col, .bpm, .cap, .hld, .jnl, .zon, .str, .sch, .lnk, .ddk, .med, .sec, .boot, .mgt, .free]
  | .testAccessPortAccess _ _ => [.ev, .brd]
  | .crystalFault _ => [.ev, .brd]
  | .managementEndpointReset _ => [.win, .ev, .mgt]
  | .functionEnable _ _ => [.host]
  | .interruptCoalescingTimer _ _ => [.host]
  | .ideStreamInsecure _ _ _ => [.ev, .sec]
  | .bankAboveVFloor _ => [.hld]
  | .dynamicAddressAssignment _ _ => [.mgt]
  | .fwsOperationTimeout => [.boot, .free, .stores]

end Sys2Proof.Machine
end

