-- ==== Sys2Proof/Certificates/Slice0/Obligations.lean ====
section
/-!
DEFINITION. The statements about the model for the provers: what the machine and its commands do, by the numbered rules of spec/.
-/

open Sys2Proof Sys2Proof.Machine

/-- For every command and every state, a step with that command at the front of the queue is the command's effect on the state with the rest of the queue. (The queue is the model's form of a block, log entry 38.) With an empty queue and VAUX present, a step lets 1 ns pass on the always-on timer and drains what drains by itself; without VAUX it changes nothing. It never stops. (The tick of an empty queue is the choice of the model, log entry 38.) -/
def Obligations.QueueFront : Prop :=
  (∀ (c : Instr) (rest : List Instr) (s : State), step (s.withPending (c :: rest)) = exec c (s.withPending rest)) ∧
  (∀ s : State, s.pending = [] →
    (s.brd.vaux = true → step s = .next (s.withAo { s.ao with time := s.ao.time + 1 }).drainStep) ∧
    (s.brd.vaux = false → step s = .next s))

/-- Commands are taken first in, first out, and nothing a command does reaches the queue: after any step that goes on, the queue is the old queue without its front. (The queue is the model's form of a block, log entry 38.) -/
def Obligations.StepKeepsOrder : Prop :=
  ∀ (s t : State), step s = .next t → t.pending = s.pending.tail

/-- Every command answers a next state in every state (a request to DRAM where its address exists): none is refused, and none stops. Whatever a command does when it goes on, it leaves every part of the state but those listed for it as it was: registers and the configuration transaction, queues and commands in flight, locks, buffers, rings, hold-up, journal, zones, stripes, scheduling, links, read channel, blocks and flash content, the vault and its fuses, DRAM and its bytes, power, the firmware store and its bytes, the board and the management endpoint. The second clause covers all 241 constructors of Instr. -/
def Obligations.CommandsKeepTheirFrame : Prop :=
  (∀ (c : Instr) (s t : State), exec c s = .next t → OnlyChanges (mayChange c) s t) ∧
  (∀ (c : Instr) (s : State), (∀ a d, c = .dramWriteRequest a d → a < s.dramSize) → (∀ a y, c = .dramReadRequest a y → a < s.dramSize) →
    ∃ t, exec c s = .next t ∧ OnlyChanges (mayChange c) s t)

/-- From every state whose DRAM, NOR and downloaded image are in canonical form (addresses strictly rising, no entry equal to what an unlisted address reads as), a step that goes on leaves them in canonical form, whatever command is at the front. -/
def Obligations.StepKeepsMemoryForm : Prop :=
  ∀ (s t : State), s.memWf = true → step s = .next t → t.memWf = true

/-- For a 64-bit register whose dwords are at low and high, and any agent: reading the low dword returns it and latches the high dword for the agent; reading the high dword returns what the agent has latched, which is then consumed, and else the high dword as it stands; writing the low dword holds it and applies nothing; a second write of it replaces the held one; writing the high dword applies both halves, the low one being the held one, or the current one where the agent holds none. What one agent latches or holds is kept apart from every other agent and register. Forms shown to complete (exec answers a next state, under conditions on the state and the operands alone): lowDwordRead, lowDwordWrite, highDwordWrite. -/
def Obligations.DwordPairs : Prop :=
  (∀ (a : Agent) (r : RegRef) (low high : Nat) (s : State), s.regAt low = some (r, false) → s.regAt high = some (r, true) →
    r.reg.place.wide = true → low % 4 = 0 → high % 4 = 0 →
    exec (.lowDwordRead a ⟨low, 4⟩) s = .next ((s.withWin { s.win with
      latch := s.win.latch.ins (latchKey a r.off) (BitVec.ofNat 32 (s.regView r / 2 ^ 32)) }).send (.readValue a low (s.regView r % 2 ^ 32))) ∧
    (∀ x, s.win.latch.get? (latchKey a r.off) = some x → exec (.lowDwordRead a ⟨high, 4⟩) s = .next ((s.withWin { s.win with
      latch := s.win.latch.del (latchKey a r.off) }).send (.readValue a high x.toNat))) ∧
    (s.win.latch.get? (latchKey a r.off) = none → exec (.lowDwordRead a ⟨high, 4⟩) s = .next (s.send (.readValue a high (s.regView r / 2 ^ 32)))) ∧
    (∀ v, exec (.lowDwordWrite a low v) s = .next (s.withWin { s.win with
      held := s.win.held.ins (latchKey a r.off) (BitVec.ofNat 32 v) })) ∧
    (∀ v x, s.win.held.get? (latchKey a r.off) = some x → exec (.highDwordWrite a high v) s = .next ((s.withWin { s.win with
      held := s.win.held.del (latchKey a r.off) }).writeReg a r (x.toNat + v % 2 ^ 32 * 2 ^ 32))) ∧
    (∀ v, s.win.held.get? (latchKey a r.off) = none → exec (.highDwordWrite a high v) s = .next ((s.withWin { s.win with
      held := s.win.held.del (latchKey a r.off) }).writeReg a r (s.regView r % 2 ^ 32 + v % 2 ^ 32 * 2 ^ 32)))) ∧
  (∀ (m : AMap Word32) (k : Nat) (x y : Word32), ((m.ins k x).ins k y).get? k = some y ∧ (m.del k).get? k = none) ∧
  (∀ (m : AMap Word32) (k q : Nat) (x : Word32), q ≠ k → (m.ins k x).get? q = m.get? q ∧ (m.del k).get? q = m.get? q) ∧
  (∀ (a b : Agent) (o p : Nat), latchKey a o = latchKey b p → a = b ∧ o = p)

/-- A misaligned or wrong-sized access raises the misaligned-access event with its write flag and changes no register; a read returns the addressed bytes of the containing dword. An aligned dword read of a 32-bit register returns it, and one of an undefined offset zero; an aligned 64-bit read of a 64-bit register returns it whole. An aligned write of a register in whole writes it, 32 bits or 64, and a write of an undefined offset changes nothing. A write of a register with RW and LK fields alone and no action of its own sets its RW fields, and its LK fields before boot lock, and leaves every other register as it was; where a value lies outside its range, the write is discarded whole with its event. While an event ring is in use, writes of its base and tail addresses are discarded. Forms shown to complete (exec answers a next state, under conditions on the state and the operands alone): misalignedAccess, lowDwordRead, registerWrite. -/
def Obligations.WindowAccesses : Prop :=
  (∀ (a : Agent) (off size v : Nat) (s : State), size ≠ 0 → size ≤ 8 → aligned off size = false →
    exec (.misalignedAccess a off size true v) s = .next (s.raise 0 0 1 [(4, off), (1, size), (1, 1), (1, agentCode a)]) ∧
    exec (.misalignedAccess a off size false v) s = .next ((s.raise 0 0 1 [(4, off), (1, size), (1, 0), (1, agentCode a)]).send
      (.readValue a off ((s.raise 0 0 1 [(4, off), (1, size), (1, 0), (1, agentCode a)]).dwordAt off / 2 ^ (8 * (off % 4)) % 2 ^ (8 * size))))) ∧
  (∀ (a : Agent) (off v : Nat) (s : State), off % 4 = 0 → s.regAt off = none →
    exec (.lowDwordRead a ⟨off, 4⟩) s = .next (s.send (.readValue a off 0)) ∧ exec (.registerWrite a off 4 v) s = .next s) ∧
  (∀ (a : Agent) (r : RegRef) (off v : Nat) (s : State), off % 4 = 0 → s.regAt off = some (r, false) → r.reg.place.wide = false →
    exec (.lowDwordRead a ⟨off, 4⟩) s = .next (s.send (.readValue a off (s.regView r % 2 ^ 32))) ∧
    exec (.registerWrite a off 4 v) s = .next (s.writeReg a r (v % 2 ^ 32))) ∧
  (∀ (a : Agent) (r : RegRef) (off v : Nat) (s : State), off % 8 = 0 → s.regAt off = some (r, false) → s.regAt (off + 4) = some (r, true) →
    r.reg.place.wide = true →
    exec (.lowDwordRead a ⟨off, 8⟩) s = .next ((s.withWin { s.win with
      latch := (s.win.latch.ins (latchKey a r.off) (BitVec.ofNat 32 (s.regView r / 2 ^ 32))).del (latchKey a r.off) }).send
      (.readValue a off (s.regView r % 2 ^ 64))) ∧
    exec (.registerWrite a off 8 v) s = .next ((s.withWin { s.win with held := s.win.held.del (latchKey a r.off) }).writeReg a r (v % 2 ^ 64))) ∧
  (∀ (a : Agent) (r : RegRef) (v : Nat) (s : State), r.reg.fields.all (fun f => f.acc == .rw || f.acc == .lk || f.acc == .ro) = true →
    r.reg ∉ [.EVT_CFG, .EVT_BASE, .EVT_TAILADDR, .SCH_LMON_CFG, .DRM_TRN_DLY, .FWS_ADDR, .FWS_BUF, .BPM_POOL_CNT] →
    (outOfRange r.reg v = true → s.writeReg a r v = s.raiseDiscarded r.off a) ∧
    (outOfRange r.reg v = false → r.reg.maskOf (fun x => x == .rw || (x == .lk && !s.win.locked)) = 0 → s.writeReg a r v = s) ∧
    (outOfRange r.reg v = false → r.reg.maskOf (fun x => x == .rw || (x == .lk && !s.win.locked)) ≠ 0 →
      s.writeReg a r v = s.putReg r (merge (s.regWord r) v (r.reg.maskOf (fun x => x == .rw || (x == .lk && !s.win.locked)))) ∧
      ∀ q : RegRef, q.off ≠ r.off → (s.writeReg a r v).regWord q = s.regWord q)) ∧
  (∀ (a : Agent) (r : RegRef) (v : Nat) (s : State), r.reg = .EVT_BASE ∨ r.reg = .EVT_TAILADDR →
    (s.ringOn r.i = true → s.writeReg a r v = s) ∧
    (s.ringOn r.i = false → outOfRange r.reg v = true → s.writeReg a r v = s.raiseDiscarded r.off a) ∧
    (s.ringOn r.i = false → outOfRange r.reg v = false → s.writeReg a r v = s.putReg r v))

/-- BEGIN with none open opens a transaction owned by the writer with no shadow written, and with one open sets BEGINERR alone. A TX write by the owner of an open transaction goes to the shadow alone; any other is discarded with TXERR and the configuration event code 1; in 32 or 64 bits, and in a register with other fields too, whose own fields are then written as always. COMMIT or ABORT by another agent, or with none open, sets OWNERR alone; by the owner during a commit it is ignored. A commit that a rule rejects ends with RESULT 3, the rule's reason and offset, and event code 3; one that none rejects goes on to saving (STATE 3) or to applying (STATE 4). ABORT by the owner discards the shadows with RESULT 4, the timeout with RESULT 6, each with event code 4. Boot lock closes the LK fields. Forms shown to complete (exec answers a next state, under conditions on the state and the operands alone): txWrite, transactionBegin, transactionCommit, transactionAbort, transactionTimeout, bootLock. -/
def Obligations.TransactionCommands : Prop :=
  (∀ (a : Agent) (s : State), s.win.txn.state = 0 → ∃ t, exec (.transactionBegin a) s = .next t ∧ t.win.txn.state = 1 ∧
    t.win.txn.owner = agentCode a ∧ t.win.shadow = [] ∧ t.win.txn.txnum = (s.win.txn.txnum + 1) % 65536 ∧
    t.win.regs = s.win.regs ∧ OnlyChanges [.win] s t) ∧
  (∀ (a : Agent) (s : State), s.win.txn.state ≠ 0 →
    exec (.transactionBegin a) s = .next (s.withWin { s.win with txn := { s.win.txn with beginerr := true } })) ∧
  (∀ (a : Agent) (r : RegRef) (off v : Nat) (s : State), s.regAt off = some (r, false) → off % 4 = 0 → r.reg.place.wide = false →
    r.reg.fields.all (fun f => f.acc == .tx || f.acc == .ro) = true → r.reg.maskOf (· == .tx) ≠ 0 → outOfRange r.reg v = false → v < 2 ^ 32 →
    (s.owns a = true → s.win.txn.state = 1 → exec (.txWrite a off 4 v) s = .next (s.withWin { s.win with
      shadow := s.win.shadow.ins r.off (BitVec.ofNat 64 (v &&& r.reg.maskOf (· == .tx)))
      txn := { s.win.txn with lastWrite := s.ao.time } })) ∧
    (¬(s.owns a = true ∧ s.win.txn.state = 1) → exec (.txWrite a off 4 v) s = .next ((s.withWin { s.win with
      txn := { s.win.txn with txerr := true } }).raise 0 1 1 [(4, r.off), (1, agentCode a)]))) ∧
  (∀ (a : Agent) (r : RegRef) (off v : Nat) (s : State), s.regAt off = some (r, false) → r.reg.maskOf (· == .tx) ≠ 0 →
    (off % 4 = 0 → r.reg.place.wide = false → exec (.txWrite a off 4 v) s = .next (s.writeReg a r (v % 2 ^ 32))) ∧
    (off % 8 = 0 → r.reg.place.wide = true → exec (.txWrite a off 8 v) s =
      .next ((s.withWin { s.win with held := s.win.held.del (latchKey a r.off) }).writeReg a r (v % 2 ^ 64)))) ∧
  (∀ (a : Agent) (r : RegRef) (v : Nat) (s : State),
    (s.owns a = true → s.win.txn.state = 1 → s.writeTx a r v = s.withWin { s.win with
      shadow := s.win.shadow.ins r.off (BitVec.ofNat 64 (v &&& r.reg.maskOf (· == .tx)))
      txn := { s.win.txn with lastWrite := s.ao.time } }) ∧
    (¬(s.owns a = true ∧ s.win.txn.state = 1) → s.writeTx a r v = (s.withWin { s.win with
      txn := { s.win.txn with txerr := true } }).raise 0 1 1 [(4, r.off), (1, agentCode a)]) ∧
    (r.reg.maskOf (· == .tx) ≠ 0 → r.reg.place.wide = true → outOfRange r.reg v = false → r.reg ∉ [.EVT_BASE, .EVT_TAILADDR, .FWS_ADDR, .FWS_BUF] →
      s.writeReg a r v = ((s.writeTx a r v).storeFields r v).actOnWrite a r v)) ∧
  (∀ (a : Agent) (save : Bool) (s : State), s.owns a = false →
    exec (.transactionCommit a save) s = .next (s.withWin { s.win with txn := { s.win.txn with ownerr := true } }) ∧
    exec (.transactionAbort a) s = .next (s.withWin { s.win with txn := { s.win.txn with ownerr := true } })) ∧
  (∀ (a : Agent) (save : Bool) (s : State), s.owns a = true → s.win.txn.state ≠ 1 →
    exec (.transactionCommit a save) s = .next s ∧ exec (.transactionAbort a) s = .next s) ∧
  (∀ (a : Agent) (save : Bool) (s : State), s.owns a = true → s.win.txn.state = 1 →
    (∀ reason off, (s.withWin { s.win with txn := { s.win.txn with lastWrite := s.ao.time } }).rejection save = some (reason, off) →
      ∃ t, exec (.transactionCommit a save) s = .next t ∧ t.win.txn.state = 0 ∧ t.win.txn.result = 3 ∧ t.win.txn.reason = reason ∧
        t.win.txn.offset = off ∧ t.win.shadow = [] ∧ t.win.regs = s.win.regs ∧
        t.ev = (s.raise 0 3 1 [(2, s.win.txn.txnum), (1, reason), (4, off)]).ev ∧
        OnlyChanges [.win, .ev] s t) ∧
    ((s.withWin { s.win with txn := { s.win.txn with lastWrite := s.ao.time } }).rejection save = none →
      exec (.transactionCommit a save) s = .next (s.withWin { s.win with
        txn := { s.win.txn with lastWrite := s.ao.time, state := if save then 3 else 4, save := save } }))) ∧
  (∀ (a : Agent) (s : State), s.owns a = true → s.win.txn.state = 1 → ∃ t, exec (.transactionAbort a) s = .next t ∧ t.win.txn.state = 0 ∧
    t.win.txn.result = 4 ∧ t.win.shadow = [] ∧ t.win.regs = s.win.regs ∧
    t.ev = (s.raise 0 4 0 [(2, s.win.txn.txnum), (1, 4)]).ev ∧ OnlyChanges [.win, .ev] s t) ∧
  (∀ s : State, s.win.txn.state = 1 → s.fld F.GLB_TXN_TMO_MS ≠ 0 → ∃ t, exec .transactionTimeout s = .next t ∧ t.win.txn.state = 0 ∧
    t.win.txn.result = 6 ∧ t.win.shadow = [] ∧ t.win.regs = s.win.regs ∧
    t.ev = (s.raise 0 4 0 [(2, s.win.txn.txnum), (1, 6)]).ev ∧ OnlyChanges [.win, .ev] s t) ∧
  (∀ (a : Agent) (s : State), exec (.bootLock a) s = .next (s.withWin { s.win with locked := true }))

/-- When a request may be served, the grant tags the granule on top of the pool's stack with the request's owner, one reference, and NAMED as BPM_CTL.NOM or the self-test owner has it, takes the granule off the stack, and ends the request's wait. A capture ring that has no use for a credit span any more gives the granule back at once. With no request to serve, or no free granule, nothing changes: the request waits. Forms shown to complete (exec answers a next state, under conditions on the state and the operands alone): bufferGrant. -/
def Obligations.BufferGrants : Prop :=
  ∀ (p : Nat) (s : State),
    (∀ r g, s.nextRequest p = some r → s.topGranule p = some g → (∀ n, r.who = .span n → s.spanOpen n = true) →
      ∃ t, exec (.bufferGrant p) s = .next t ∧
      t.bpm.tags = s.bpm.tags.ins (tagKey p g) { owner := r.owner, named := s.flag F.BPM_CTL_NOM || r.owner == ownerSelfTest, count := 1 } ∧
      t.bpm.waits = removeFirst r s.bpm.waits ∧ t.bpm.refWaits = s.bpm.refWaits ∧
      (t.pool p).freed = (s.pool p).freed.tail ∧ OnlyChanges [.ev, .host, .bpm, .cap, .jnl] s t) ∧
    (∀ r g n, s.nextRequest p = some r → s.topGranule p = some g → r.who = .span n → s.spanOpen n = false →
      exec (.bufferGrant p) s = .next (((s.withBpm { s.bpm with waits := removeFirst r s.bpm.waits }).lend p g r.owner).giveBackAll [(5, g)])) ∧
    (s.nextRequest p = none ∨ s.topGranule p = none → exec (.bufferGrant p) s = .next s)

/-- A counted free of a granule with more than one reference takes one away; at zero the granule returns to the top of its pool with no tag. A named-owner free that names the tag's owner returns the granule whatever its count. A reference adds one. A counted free of a granule with NAMED set, a named-owner free naming another owner, a free of a granule already free, and a counted free at count zero are refused, and so is a reference at count 15, whose engine waits: each leaves every tag as it was and raises the refused-free event with its flags. Forms shown to complete (exec answers a next state, under conditions on the state and the operands alone): countedFree, namedOwnerFree, referenceTake. -/
def Obligations.BufferFrees : Prop :=
  ∀ (engine p g owner : Nat) (s : State),
    (∀ x, s.bpm.tags.get? (tagKey p g) = some x →
      (x.named = false → 2 ≤ x.count → exec (.countedFree engine p g) s = .next (s.withBpm { s.bpm with
        tags := s.bpm.tags.ins (tagKey p g) { x with count := x.count - 1 }
        refWaits := s.bpm.refWaits.filter fun w => w.2 != tagKey p g })) ∧
      (x.named = false → x.count = 1 → ∃ t, exec (.countedFree engine p g) s = .next t ∧ t.bpm.tags = s.bpm.tags.del (tagKey p g) ∧
        (t.pool p).freed = g :: (s.pool p).freed ∧ OnlyChanges [.ev, .host, .bpm] s t) ∧
      (x.named = true → exec (.countedFree engine p g) s = .next (s.refuseFree p g x.owner engine 0)) ∧
      (x.named = false → x.count = 0 → exec (.countedFree engine p g) s = .next (s.refuseFree p g x.owner engine 1)) ∧
      (x.owner = owner → ∃ t, exec (.namedOwnerFree engine p g owner) s = .next t ∧ t.bpm.tags = s.bpm.tags.del (tagKey p g) ∧
        (t.pool p).freed = g :: (s.pool p).freed ∧ OnlyChanges [.ev, .host, .bpm] s t) ∧
      (x.owner ≠ owner → exec (.namedOwnerFree engine p g owner) s = .next (s.refuseFree p g x.owner engine 0)) ∧
      (x.count ≠ 15 → exec (.referenceTake engine p g) s = .next (s.withBpm { s.bpm with
        tags := s.bpm.tags.ins (tagKey p g) { x with count := x.count + 1 } })) ∧
      (x.count = 15 → exec (.referenceTake engine p g) s = .next ((s.withBpm { s.bpm with
        refWaits := s.bpm.refWaits ++ [(engine, tagKey p g)] }).refuseFree p g x.owner engine 2))) ∧
    (s.bpm.tags.get? (tagKey p g) = none →
      exec (.countedFree engine p g) s = .next (s.refuseFree p g 0x7FF engine 1) ∧
      exec (.namedOwnerFree engine p g owner) s = .next (s.refuseFree p g 0x7FF engine 1)) ∧
    (∀ o flags, OnlyChanges [.ev] s (s.refuseFree p g o engine flags) ∧ (s.refuseFree p g o engine flags).ev =
      (s.raise 0x018 0 2 [(8, s.fld F.BPM_POOL_BASE_BASE p + g * granule p), (2, o), (1, engine), (1, flags)]).ev)

/-- The bank goes from uncharged to charging at V_FLOOR, and to READY within 0.25 V of V_CHG, the first time with the ready event and a request for a test. A request waits, joins a waiting test, or asks for one further test after the running one. A waiting test starts once reserved credit fits b_test: the budget becomes b_test, the ESR follows from the two voltages and the test current, and write-through mode is entered below 512 MiB. The discharge gives the capacitance. At the end the test passes exactly if the ESR is at most ESRMAX and the new budget at least 512 MiB; the budget becomes the new one or 0; a pass leaves write-through mode and a failure enters it. After a change of the budget the early closing of partly filled stripes acts; while reserved credit is within three quarters of it, it does nothing. Forms shown to complete (exec answers a next state, under conditions on the state and the operands alone): bankReady, energyTestRequest, testPeriodExpiry, energyTestStart, testDischargeEnd, energyTestComplete, bankAboveVFloor. -/
def Obligations.EnergyTests : Prop :=
  (∀ (v : Nat) (s : State), s.hld.bank = .uncharged → s.fld F.HLD_VOLT_VFLOOR ≤ v →
    exec (.bankAboveVFloor v) s = .next (s.withHld { s.hld with bank := .charging, vbank := v })) ∧
  (∀ (v : Nat) (s : State), s.hld.bank = .uncharged ∨ s.hld.bank = .charging → s.fld F.HLD_VOLT_VCHG ≤ v + 25 → v ≤ s.fld F.HLD_VOLT_VCHG + 25 →
    (s.hld.wasReady = true → exec (.bankReady v) s = .next (s.withHld { s.hld with bank := .ready, vbank := v, wasReady := true })) ∧
    (s.hld.wasReady = false → s.hld.test = .none → exec (.bankReady v) s = .next ((s.withHld { s.hld with
      bank := .ready, vbank := v, wasReady := true, test := .waiting }).raise 0x010 0 0 [(2, v), (4, s.ao.time / 1000)]))) ∧
  (∀ (a : Agent) (s : State),
    (s.hld.test = .none → exec (.energyTestRequest a) s = .next (s.withHld { s.hld with test := .waiting }) ∧
      exec .testPeriodExpiry s = .next (s.withHld { s.hld with test := .waiting })) ∧
    (s.hld.test = .waiting → exec (.energyTestRequest a) s = .next s ∧ exec .testPeriodExpiry s = .next s) ∧
    (s.hld.test = .loaded ∨ s.hld.test = .recharging → exec (.energyTestRequest a) s = .next (s.withHld { s.hld with again := true }) ∧
      exec .testPeriodExpiry s = .next (s.withHld { s.hld with again := true }))) ∧
  (∀ (v0 v1 : Nat) (s : State), s.hld.test = .waiting → s.hld.bank = .ready → s.hld.resv ≤ s.testBudget → v1 ≤ v0 →
    ∃ t : State, exec (.energyTestStart v0 v1) s = .next t.pressCredit ∧ t.hld.test = .loaded ∧ t.hld.bank = .testing ∧ t.hld.budget = s.testBudget ∧
      t.hld.esr = (v0 - v1) * 10000 / s.fld F.HLD_TEST_IMA ∧ t.hld.v1 = v1 ∧ t.hld.resv = s.hld.resv ∧
      t.hld.wt = (s.hld.wt || decide (s.testBudget < budgetMin)) ∧
      OnlyChanges [.ev, .host, .col, .bpm, .hld, .med, .sec, .drm, .mgt] s t) ∧
  (∀ (v tns : Nat) (s : State), s.hld.test = .loaded → v + s.fld F.HLD_TEST_DV ≤ s.hld.v1 →
    exec (.testDischargeEnd v tns) s = .next (s.withHld { s.hld with test := .recharging, vbank := v, tns := tns, cuf := s.fld F.HLD_TEST_IMA * tns / (s.fld F.HLD_TEST_DV * 10000) })) ∧
  (∀ (v : Nat) (s : State), s.hld.test = .recharging → s.fld F.HLD_VOLT_VCHG ≤ v + 25 → v ≤ s.fld F.HLD_VOLT_VCHG + 25 →
    ∃ t : State, exec (.energyTestComplete v) s = .next t.pressCredit ∧ t.hld.bank = .ready ∧ t.hld.vbank = v ∧ t.hld.testEnd = s.ao.time ∧
      t.hld.test = (if s.hld.again then TestPhase.waiting else TestPhase.none) ∧ t.hld.again = false ∧
      t.hld.limit = s.budgetLimit s.hld.cuf (s.fld F.HLD_VOLT_VCHG) ∧
      (s.hld.esr ≤ s.fld F.HLD_ESRMAX_MOHM ∧ budgetMin ≤ s.budgetOf s.hld.cuf (s.fld F.HLD_VOLT_VCHG) →
        t.hld.result = 1 ∧ t.hld.budget = s.budgetOf s.hld.cuf (s.fld F.HLD_VOLT_VCHG) ∧ t.hld.cPass = s.hld.cuf ∧ t.hld.wt = false) ∧
      (¬(s.hld.esr ≤ s.fld F.HLD_ESRMAX_MOHM ∧ budgetMin ≤ s.budgetOf s.hld.cuf (s.fld F.HLD_VOLT_VCHG)) →
        t.hld.result = (if s.fld F.HLD_ESRMAX_MOHM < s.hld.esr then 2 else 3) ∧ t.hld.budget = 0 ∧ t.hld.cPass = s.hld.cPass ∧ t.hld.wt = true)) ∧
  (∀ t : State, 4 * t.hld.resv ≤ 3 * t.hld.budget → t.pressCredit = t)

/-- VIN falling below the threshold starts the deglitch; a dip that recovers sooner raises the VIN-dip event and changes nothing else. A confirmed loss, or a forced flush with its key, starts the flush with its cause: the bank is flushing and no test runs. When the domains' returns are over the drained DRAM is composed into an image of the next sequence number, in the area of its parity, with every unit that holds credit. The commit record marks it whole and committed. The flush ends with the supplies lost or, where VIN is back, a restart. An image has one header unit, an index entry of 32 bytes for each data unit, four units for each page of the journal tail, and its data units, in flush stripes of 18 members whose packages differ wherever 18 flush packages are in service. Forms shown to complete (exec answers a next state, under conditions on the state and the operands alone): forcedFlush, vinBelowThreshold, vinDip, vinLossConfirmed, flushDrainDone, flushCommitProgrammed, flushEnd. -/
def Obligations.VinAndFlush : Prop :=
  (∀ (v : Nat) (s : State), v < s.fld F.HLD_VLOSS_V → s.hld.vinLow = none → s.hld.flush = .none →
    exec (.vinBelowThreshold v) s = .next (s.withHld { s.hld with vinLow := some s.ao.time })) ∧
  (∀ (v low us since : Nat) (s : State), s.hld.vinLow = some since → s.fld F.HLD_VLOSS_V ≤ v → low < s.fld F.HLD_VLOSS_V →
    us < s.fld F.HLD_VLOSS_DG → s.hld.flush = .none →
    exec (.vinDip v low us) s = .next ((s.withHld { s.hld with vinLow := none }).raise 0x012 0 1 [(2, low), (4, us)])) ∧
  (∀ (since : Nat) (s : State), s.hld.vinLow = some since → s.hld.flush = .none → s.host.enabled = true →
    ∃ t, exec .vinLossConfirmed s = .next t ∧ t.hld.flush = .draining ∧ t.hld.flushCause = 2 ∧ t.hld.bank = .flushing ∧ t.hld.test = .none ∧
      t.brd.vin = false ∧ t.str = s.str ∧ t.jnl = s.jnl ∧ t.med.flash = s.med.flash) ∧
  (∀ (a : Agent) (key test : Nat) (s : State), s.hld.flush = .none → s.host.enabled = true →
    (key % 256 = 0x5C → ∃ t, exec (.forcedFlush a key test) s = .next t ∧ t.hld.flush = .draining ∧ t.hld.flushCause = 6 ∧ t.hld.bank = .flushing ∧
      t.hld.test = .none ∧ t.str = s.str ∧ t.jnl = s.jnl) ∧
    (key % 256 ≠ 0x5C → exec (.forcedFlush a key test) s = .next s)) ∧
  (∀ s : State, s.hld.flush = .draining → s.chanDoms.all (fun d => (s.dom d).st != .returning) = true →
    ∃ t i, exec .flushDrainDone s = .next t ∧ t.hld.flush = .writing ∧ t.hld.imgSeq = s.hld.imgSeq + 1 ∧ t.image? = some i ∧
      i.seq = s.hld.imgSeq + 1 ∧ i.area = (s.hld.imgSeq + 1) % 2 ∧ i.ceiling = s.jnl.ceiling ∧ i.units = s.drainEverything.imageUnits ∧
      i.pages.length = s.jnl.closePage.pages.length ∧ i.pkgs = s.drainEverything.flushPkgs ∧ i.part = 0 ∧ i.committed = false ∧
      OnlyChanges [.hld, .drm, .bytes] s t) ∧
  (∀ (i : Image) (s : State), s.hld.flush = .writing → s.image? = some i → i.area = s.hld.imgSeq % 2 →
    ∃ t, exec .flushCommitProgrammed s = .next t ∧ t.hld.flush = .committed ∧
      t.image? = some { i with part := i.size, committed := true, took := (s.ao.time - i.time) / 1000 } ∧ OnlyChanges [.hld] s t) ∧
  (∀ s : State, s.hld.flush ≠ .none → ∃ t, exec .flushEnd s = .next t ∧ t.hld.flush = .none ∧ t.hld.bank = .uncharged ∧
    t.hld.area0 = s.cutImage.hld.area0 ∧ t.hld.area1 = s.cutImage.hld.area1 ∧ t.med.flash = s.med.flash ∧ (s.boot.op = none → t.boot.nor = s.boot.nor) ∧
    t.host.cmds = [] ∧ t.boot.rtype = s.hld.flushCause ∧
    t.boot.stage = (if s.brd.vin && s.brd.iso && s.brd.vaux && !s.brd.tripped then 1 else 0)) ∧
  (∀ s : State, s.hld.flush = .committed → s.cutImage = s) ∧
  (∀ (i : Image) (magic : Nat) (x : ImageUnit), (i.unitBytes magic).length = 4096 ∧ x.entry.length = 32 ∧
    i.size = 1 + (i.units.length + 127) / 128 + 4 * i.pages.length + i.units.length) ∧
  (∀ (i : Image) (k : Nat), (i.stripe k).length = 18) ∧
  (∀ (i : Image) (k m n : Nat), 18 ≤ i.pkgs.length → i.pkgs.Nodup → m < 18 → n < 18 → m ≠ n → i.package k m ≠ i.package k n)

/-- The page timer closes the open page: its records belong to the next page in order and no page is open. A page programmed on both copies leaves the list of open pages for the kept ones; its records are on both copies and hold no credit. The first request for credit is granted in one step when it fits the limit, and waits with every request behind it when it does not; in write-through mode it is served without credit. Forms shown to complete (exec answers a next state, under conditions on the state and the operands alone): holdupCreditGrant, journalPageTimer, journalPageProgrammed. -/
def Obligations.JournalAndCredit : Prop :=
  (∀ (first : Nat) (s : State), s.jnl.openFirst = some first → ∃ t, exec .journalPageTimer s = .next t ∧ t.jnl.openFirst = none ∧
    t.jnl.pages = s.jnl.pages ++ [{ seq := s.jnl.pseq + s.jnl.pages.length + 1, first := first, used := s.jnl.openUsed, void := false }] ∧
    (∀ r ∈ t.jnl.recs, r.page.isSome = true) ∧ OnlyChanges [.jnl] s t) ∧
  (∀ s : State, s.jnl.openFirst = none → exec .journalPageTimer s = .next s) ∧
  (∀ (p : JPage) (rest : List JPage) (s : State), s.jnl.pages = p :: rest → s.copiesReady = true →
    ∃ t : State, exec (.journalPageProgrammed p.seq) s = .next (if t.fewPkgs && ((t.jnl.okA && t.jnl.freeA ≤ 1) || (t.jnl.okB && t.jnl.freeB ≤ 1)) then t.protectAll else t) ∧
      t.jnl.pages = (s.cutPage p rest).jnl.pages.drop 1 ∧ t.jnl.pseq = p.seq ∧ t.jnl.reest = false ∧
      (s.goneRecord p.seq 1 (s.jnl.recs.filter fun r => r.page == some p.seq) = none → t.jnl.pages = rest ∧ t.jnl.kept = s.jnl.kept ++ [p]) ∧
      (∀ r ∈ t.jnl.recs, r.page = some p.seq → r.onBoth = true ∧ r.credit = false)) ∧
  (∀ (q : CreditReq) (rest : List CreditReq) (s : State), s.hld.queue = q :: rest → s.hld.flush = .none → s.granted 137 = false →
    (s.ckFull = true → q.who.isWrite = true → exec .holdupCreditGrant s = .next s.drew) ∧
    ((s.ckFull && q.who.isWrite) = false → (s.hld.wt = false → s.creditLimit < s.hld.resv + q.bytes → exec .holdupCreditGrant s = .next s) ∧
    (s.hld.wt = false → s.hld.resv + q.bytes ≤ s.creditLimit → 
      (∀ r, q.who = .write r → exec .holdupCreditGrant s = .next (((s.withHld { s.hld with
        queue := rest, resv := s.hld.resv + q.bytes }).creditWrite r true).pressCredit)) ∧
      (∀ ring, q.who = .capture ring → exec .holdupCreditGrant s = .next (((s.withHld { s.hld with
        queue := rest, resv := s.hld.resv + q.bytes }).creditCapture ring true).pressCredit)) ∧
      (∀ seq, q.who = .record seq → exec .holdupCreditGrant s = .next (((s.withHld { s.hld with
        queue := rest, resv := s.hld.resv + q.bytes }).creditRecord seq).pressCredit))) ∧
    (s.hld.wt = true → ∃ t, exec .holdupCreditGrant s = .next t ∧ t.hld.queue = rest ∧ t.hld.resv = s.hld.resv))) ∧
  (∀ s : State, 4 * s.hld.resv ≤ 3 * s.hld.budget → s.pressCredit = s)

/-- Completing a command takes it out of flight, with every lock entry and every buffer request of its own. Where its function is live and both its queues exist, a completion entry with its queue, its identifier, the status, the queue head and the phase is written to the completion queue's next slot, its dword 0 being the command's result for a command that carries no deferred-error fields; a tunnelled command is answered on the management bus instead. Nothing but events, the host side, locks, buffers and the vault's outcome of a sealed command changes. A command that returns data sends the data first. -/
def Obligations.CompletionEndsACommand : Prop :=
  (∀ (s : State) (c : Cmd) (st : Status) (d0 d1 : Nat),
    (s.complete c st d0 d1).cmd? c.ref = none ∧
    (∀ e ∈ (s.complete c st d0 d1).col.table, e.ref ≠ c.ref) ∧
    (∀ w ∈ (s.complete c st d0 d1).bpm.waits, w.who ≠ .cmd c.ref) ∧
    (∀ q cq, c.tunnel = false → s.sq? c.ref.fn c.ref.qid = some q → s.cq? c.ref.fn q.cqid = some cq → s.fnLive c.ref.fn = true →
      ∃ e : Cqe, HostOut.cqe c.ref.fn q.cqid cq.tail e ∈ (s.complete c st d0 d1).host.out ∧ e.sqid = c.ref.qid ∧ e.cid = c.ref.cid ∧
        e.sqhd = q.head ∧ e.status = st ∧ e.phase = cq.phase ∧ e.dw1 = d1 ∧ (eligible c.ref.qid c.sqe.opc = false → e.dw0 = d0)) ∧
    (c.tunnel = true → HostOut.mgmt (miAnswer 0 0 (toBytes 4 d0 ++ toBytes 4 d1 ++ toBytes 4 (c.ref.cid % 65536 + 2 ^ 17 * st.field))) ∈
      (s.complete c st d0 d1).host.out) ∧
    OnlyChanges [.ev, .host, .col, .bpm, .sec] s (s.complete c st d0 d1)) ∧
  (∀ (s : State) (c : Cmd) (b : List Byte) (d0 : Nat), s.completeBytes c b d0 = (s.send (.bytes c.ref b)).complete c .success d0)

/-- Two lock entries conflict exactly if they overlap in one namespace and at least one is exclusive. A waiting command is granted all of its entries together when no entry placed before its own, granted or waiting, conflicts with any of them; while one does, nothing changes. Forms shown to complete (exec answers a next state, under conditions on the state and the operands alone): lockGrant. -/
def Obligations.LocksAreGrantedInOrder : Prop :=
  (∀ a b : LockEntry, conflict a b = true ↔ (a.nsix = b.nsix ∧ a.lo ≤ b.hi ∧ b.lo ≤ a.hi) ∧ (a.excl = true ∨ b.excl = true)) ∧
  (∀ (r : CmdRef) (c : Cmd) (s : State), s.cmd? r = some c → c.phase = .lockWait →
    ((∃ e ∈ s.col.table.takeWhile (fun e => e.ref != r), ∃ m ∈ s.col.table, m.ref = r ∧ conflict e m = true) →
      exec (.lockGrant r) s = .next s) ∧
    ((∀ e ∈ s.col.table.takeWhile (fun e => e.ref != r), ∀ m ∈ s.col.table, m.ref = r → conflict e m = false) →
      ∃ t, exec (.lockGrant r) s = .next t ∧ t.col.table = s.col.table.map (fun e => if e.ref = r then { e with granted := true } else e) ∧
        t.bpm.waits = s.bpm.waits ++ (s.cmdBuffers c).map (fun p => ⟨p, r.fn, .cmd r⟩) ∧ OnlyChanges [.host, .col, .bpm] s t))

/-- A tail doorbell inside the queue adds the entries written and moves the tail; a head doorbell inside the posted entries moves the head. Fetching takes the oldest entry of the queue: a command that passes every check joins the commands in flight, one that fails is completed with the first failing check's status. An admitted write becomes ready; an admitted read goes on to its lock entries, which are placed at the end of the table if they fit and no earlier command of the function is held, and the command is held otherwise. Forms shown to complete (exec answers a next state, under conditions on the state and the operands alone): doorbellWrite, cqHeadDoorbell, commandFetch, commandAdmission, lockGrant. -/
def Obligations.FrontEnd : Prop :=
  (∀ (fn qid tail : Nat) (l : List Sqe) (q : Sq) (s : State), s.sq? fn qid = some q → tail < q.size →
    tail = (q.tail + l.length) % q.size → q.entries.length + l.length < q.size →
    exec (.doorbellWrite fn qid tail l) s = .next (s.putSq fn qid { q with tail := tail, entries := q.entries ++ l, bell := s.ao.time })) ∧
  (∀ (fn qid head : Nat) (q : Cq) (s : State), s.cq? fn qid = some q → head < q.size →
    (head + q.size - q.head) % q.size ≤ (q.tail + q.size - q.head) % q.size → (s.fn fn).aev = [] →
    exec (.cqHeadDoorbell fn qid head) s = .next (s.putCq fn qid { q with head := head })) ∧
  (∀ (fn qid : Nat) (q : Sq) (e : Sqe) (rest : List Sqe) (s : State), s.sq? fn qid = some q → q.entries = e :: rest → s.mayFetch fn = true →
    s.formatWaits fn qid e = false → s.cqRoom ⟨fn, qid, e.cid⟩ = true → s.cmd? ⟨fn, qid, e.cid⟩ = none →
    ∀ u, u = s.amberAdvance.putSq fn qid { q with head := (q.head + 1) % q.size, entries := rest, seen := if q.seen.contains e.opc then q.seen else q.seen ++ [e.opc] } →
      (∃ q', u.sq? fn qid = some q' ∧ q'.entries = rest ∧ q'.head = (q.head + 1) % q.size ∧ q'.tail = q.tail) ∧ u.host.cmds = s.host.cmds ∧
      OnlyChanges [.host] s u ∧
      (u.fetchStatus fn qid e false = .success → exec (.commandFetch fn qid) s =
        .next (u.withHost { u.host with cmds := u.host.cmds ++ [u.newCmd fn qid q e false false] })) ∧
      (u.fetchStatus fn qid e false ≠ .success → exec (.commandFetch fn qid) s =
        .next (u.complete (u.newCmd fn qid q e false false) (u.fetchStatus fn qid e false)))) ∧
  (∀ (r : CmdRef) (c : Cmd) (dir cost : Nat) (s : State), s.cmd? r = some c → s.cmdCharge c = some (dir, cost) → c.phase = .admission →
    s.firstAwaiting r.fn dir = some r → s.servedNext dir = some r.fn → s.amberAdvance.amberOpen r.fn (xferBytes c.sqe r.qid) = true →
    ∃ u, u.host.cmds = s.host.cmds ∧ OnlyChanges [.host, .sch] s u ∧ exec (.commandAdmission r) s =
      .next (if dir = 0 then u.requestLocks c else u.setCmd r fun c => { c with phase := .ready })) ∧
  (∀ (c : Cmd) (excl : Bool) (es : List (Nat × Nat × Nat)) (s : State), s.cmdLocks c = some (excl, es) →
    (s.lockFits c.ref.fn es.length = true → s.heldBefore c.ref = false → ∃ t, s.requestLocks c = t ∧ t.col.table = s.col.table ++ es.map (fun x =>
      { ref := c.ref, nsix := x.1, lo := x.2.1, hi := x.2.2, excl := excl, granted := false, arrive := s.ao.time }) ∧
      OnlyChanges [.host, .col] s t) ∧
    (s.lockFits c.ref.fn es.length = false ∨ s.heldBefore c.ref = true → s.requestLocks c = s.setCmd c.ref fun c => { c with phase := .held })) ∧
  (∀ (c : Cmd) (s : State), s.cmdLocks c = none → s.requestLocks c = s.setCmd c.ref fun c => { c with phase := .data }) ∧
  (∀ (r : CmdRef) (c : Cmd) (s : State), s.cmd? r = some c → c.phase = .held → exec (.lockGrant r) s = .next (s.requestLocks c))

/-- A block that arrives for a write is encrypted for its address and kept; one for a Compare is kept as it came; the last block of a write takes its CSNs. A block that fails its protection check ends the command with the check's status, and the last block of a write to a namespace by then write-protected ends it with Namespace Write Protected. A write completes when each of its units holds credit or is on flash under durable records; a forced-unit-access write only when every unit is on flash and the records are durable; an unmapping or uncorrectable write when its records are durable, its map change then applied. A Flush waits for every unit and record it covers; Abort completes a command not yet past its locks, and not due its lock grant, with Command Abort Requested, and otherwise answers 1. Forms shown to complete (exec answers a next state, under conditions on the state and the operands alone): hostDataBlock, writeCompletion, flushCompletion, fuaCompletion, abort, flush. -/
def Obligations.HostDataAndAcknowledgement : Prop :=
  (∀ (r : CmdRef) (c : Cmd) (n : Ns) (d : Block) (m : Nat) (s : State), s.cmd? r = some c → s.nsAt c.nsix = some n → c.phase = .data →
    c.blocks < c.nlb → s.csnReady (c.nlb + 8) = true → s.hld.flush = .none → s.cqRoom r = true →
    (c.sqe.opc = 0x01 ∨ c.sqe.opc = 0x7D → (c.blocks + 1 = c.nlb → n.wp = true → exec (.hostDataBlock r d m .ok) s = .next (s.failWrite c .nsWriteProtected))) ∧
    (c.sqe.opc = 0x01 ∨ c.sqe.opc = 0x7D →
      (c.blocks + 1 < c.nlb → exec (.hostDataBlock r d m .ok) s = .next (s.setCmd r fun _ => { c with
        blocks := c.blocks + 1, got := c.got ++ [(s.crypt true c.nsix (c.lba + c.blocks) d, m)] })) ∧
      (c.blocks + 1 = c.nlb → n.wp = false → ∃ c', c' = { c with blocks := c.blocks + 1, got := c.got ++ [(s.crypt true c.nsix (c.lba + c.blocks) d, m)] } ∧
        exec (.hostDataBlock r d m .ok) s = .next ((s.setCmd r fun _ => c').grantCsns c' n))) ∧
    (c.sqe.opc = 0x05 → exec (.hostDataBlock r d m .ok) s = .next (s.setCmd r fun _ => { c with
      blocks := c.blocks + 1, got := c.got ++ [(d, m)] })) ∧
    (c.sqe.opc = 0x01 ∨ c.sqe.opc = 0x7D ∨ c.sqe.opc = 0x05 → ∀ pi, pi ≠ .ok →
      exec (.hostDataBlock r d m pi) s = .next (s.failWrite c (piStatus pi)))) ∧
  (∀ (r : CmdRef) (c : Cmd) (s : State), s.cmd? r = some c → s.cqRoom r = true → s.hld.flush = .none → c.ref.qid ≠ 0 →
    (c.phase = .accepted → c.carriesUnits = true → c.sqe.fua = false →
      (s.writeCovered c = true → exec (.writeCompletion r) s = .next (s.finishWrite c)) ∧
      (s.writeCovered c = false → exec (.writeCompletion r) s = .next s)) ∧
    (c.phase = .record → c.sqe.opc = 0x08 ∨ c.sqe.opc = 0x04 ∨ c.sqe.opc = 0x09 →
      (c.recs.all s.durable = true → exec (.writeCompletion r) s = .next ((s.applyMapChange c).complete c .success)) ∧
      (c.recs.all s.durable = false → exec (.writeCompletion r) s = .next s)) ∧
    (c.phase = .accepted → c.carriesUnits = true → c.sqe.fua = true →
      (c.units.all (fun k => (s.str.dram.get? k).isNone) = true → s.coverDurable (s.nsOwner c.nsix) c.recs = true →
        exec (.fuaCompletion r) s = .next (s.finishWrite c)) ∧
      (c.units.all (fun k => (s.str.dram.get? k).isNone) = false ∨ s.coverDurable (s.nsOwner c.nsix) c.recs = false →
        exec (.fuaCompletion r) s = .next s))) ∧
  (∀ (c : Cmd) (s : State), ∃ u, u = (s.acceptWrite c).monitor 1 (s.ao.time - c.bellTime) ∧ u.host.cmds = s.host.cmds ∧
    (c.sqe.opc = 0x7D → s.finishWrite c = u.complete c .success (c.lba % 2 ^ 32) (c.lba / 2 ^ 32)) ∧
    (c.sqe.opc ≠ 0x7D → s.finishWrite c = u.complete c .success)) ∧
  (∀ (r : CmdRef) (c : Cmd) (s : State), s.cmd? r = some c → s.cqRoom r = true →
    (c.phase = .ready → c.sqe.opc = 0x00 → r.qid ≠ 0 → ∃ t, exec (.flush r) s = .next t ∧
      t = (s.setCmd r fun c => { c with phase := .flushing, recs := s.openCloses r.fn c.sqe.nsid }).closeFor r.fn c.sqe.nsid (c.csn.getD 0) ∧ OnlyChanges [.ev, .host, .bpm, .hld, .jnl, .zon, .str, .med] s t) ∧
    (c.phase = .flushing → s.hld.flush = .none →
      (s.flushDone r.fn c.sqe.nsid (c.csn.getD 0) c.recs = true → exec (.flushCompletion r) s = .next (s.complete c .success)) ∧
      (s.flushDone r.fn c.sqe.nsid (c.csn.getD 0) c.recs = false → exec (.flushCompletion r) s = .next s)) ∧
    (c.phase = .ready → c.sqe.opc = 0x08 → r.qid = 0 →
      (s.cmd? ⟨r.fn, c.sqe.cdw10 % 65536, c.sqe.cdw10 / 65536⟩ = none → exec (.abort r) s = .next (s.complete c .success 1)) ∧
      (∀ x, s.cmd? ⟨r.fn, c.sqe.cdw10 % 65536, c.sqe.cdw10 / 65536⟩ = some x →
        (s.abortable x = true → x.ref ≠ r → s.cqRoom x.ref = true →
          exec (.abort r) s = .next (((s.amberAdvance.takeBack x).failWrite x .abortRequested).complete c .success 0)) ∧
        (s.abortable x = false ∨ x.ref = r → exec (.abort r) s = .next (s.complete c .success 1)))))

/-- The zone engine refuses a Write or Write Zeroes that does not start at the zone's write pointer with Zone Invalid Write, and any write or append that would pass the end of the zone's capacity with Zone Boundary Error; a write to a zone whose action is pending, or behind an earlier command waiting for the zone, waits. A write or append that is handled moves the write pointer past its blocks, fills the zone when it reaches the capacity, and goes on to its lock entries with the write pointer as its first block. -/
def Obligations.ZonedWrites : Prop :=
  ∀ (c : Cmd) (n : Ns) (append : Bool) (e : Nat) (z : Zone) (s : State), s.zoneAt n c.sqe.slba = some (e, z) → s.cmd? c.ref = some c →
    ((z.action.isSome || s.zoneQueued c) = true → s.handleZoneWrite c n append = s.waitZone c) ∧
    ((z.action.isSome || s.zoneQueued c) = false → z.writeStatus ≠ .success → s.handleZoneWrite c n append = s.complete c z.writeStatus) ∧
    ((z.action.isSome || s.zoneQueued c) = false → z.writeStatus = .success →
      (append = false → c.sqe.slba ≠ c.sqe.slba / 262144 * 262144 + z.wpoff → s.handleZoneWrite c n append = s.complete c .zoneInvalidWrite) ∧
      (append = true ∨ c.sqe.slba = c.sqe.slba / 262144 * 262144 + z.wpoff →
        (z.zcap < z.wpoff + c.nlb → s.handleZoneWrite c n append = s.complete c .zoneBoundary) ∧
        (z.wpoff + c.nlb ≤ z.zcap → z.zs.isOpen = true → ∃ u c', s.handleZoneWrite c n append = u.requestLocks c' ∧
          c'.lba = c.sqe.slba / 262144 * 262144 + z.wpoff ∧ c'.nlb = c.nlb ∧ c'.ref = c.ref ∧
          u.zone? e = some { z with wpoff := z.wpoff + c.nlb, written := z.wpoff + c.nlb, zs := if z.wpoff + c.nlb = z.zcap then .full else z.zs } ∧
          OnlyChanges [.host, .zon] s u)))

/-- Each write command, when its turn comes, fails on a write-protected namespace; a write to a zoned namespace goes to the zone engine, one to a placement namespace to the placement engine, which takes its slots if there are any, waits while collection could free some, and otherwise protects the namespace and fails with Capacity Exceeded. After its locks, Write Zeroes to a zone stores units of zeros and takes its CSNs, while Write Zeroes and Write Uncorrectable to a placement namespace, and the ranges of a deallocation that are taken up, append their map change records; deallocation of a zone changes nothing. Forms shown to complete (exec answers a next state, under conditions on the state and the operands alone): write, writeUncorrectable, writeZeroes, datasetManagement, zoneAppend. -/
def Obligations.WriteCommands : Prop :=
  ∀ (r : CmdRef) (c : Cmd) (n : Ns) (s : State), s.cmd? r = some c → s.nsAt c.nsix = some n → r.qid ≠ 0 → s.csnReady (c.nlb + 8) = true →
    s.cqRoom r = true → s.hld.flush = .none →
    (∀ op ∈ [(Instr.write r, 0x01), (Instr.zoneAppend r, 0x7D), (Instr.writeZeroes r, 0x08), (Instr.writeUncorrectable r, 0x04),
      (Instr.datasetManagement r 0, 0x09)],
      c.sqe.opc = op.2 → n.wp = true → c.phase = .ready ∨ c.phase = .zoneWait ∨ c.phase = .data → exec op.1 s = .next (s.failWrite c .nsWriteProtected)) ∧
    (n.wp = false → c.phase = .ready ∨ c.phase = .zoneWait →
      (c.sqe.opc = 0x01 → n.kind = .zoned → exec (.write r) s = .next (s.handleZoneWrite c n false)) ∧
      (c.sqe.opc = 0x01 → n.kind ≠ .zoned → exec (.write r) s = .next (s.handlePlacementWrite c n)) ∧
      (c.sqe.opc = 0x7D → exec (.zoneAppend r) s = .next (s.handleZoneWrite c n true)) ∧
      (c.sqe.opc = 0x08 → n.kind = .zoned → exec (.writeZeroes r) s = .next (s.handleZoneWrite c n false)) ∧
      (c.sqe.opc = 0x08 → n.kind ≠ .zoned → exec (.writeZeroes r) s = .next (s.requestLocks c)) ∧
      (c.sqe.opc = 0x04 → exec (.writeUncorrectable r) s = .next (s.requestLocks c)) ∧
      (∀ taken, c.sqe.opc = 0x09 →
        (c.sqe.dealloc = false ∨ c.mapRanges = [] → exec (.datasetManagement r taken) s = .next (s.complete c .success)) ∧
        (c.sqe.dealloc = true → c.mapRanges ≠ [] → exec (.datasetManagement r taken) s = .next (s.requestLocks c)))) ∧
    (n.wp = false → c.phase = .data →
      (c.sqe.opc = 0x08 → n.kind = .zoned → exec (.writeZeroes r) s = .next (s.grantCsns { c with
        got := (List.range c.nlb).map fun i => (s.crypt true c.nsix (c.lba + i) 0, 0) } n)) ∧
      (c.sqe.opc = 0x08 → n.kind ≠ .zoned → exec (.writeZeroes r) s = .next (s.recordMap c n 2 c.nlb c.mapRanges)) ∧
      (c.sqe.opc = 0x04 → exec (.writeUncorrectable r) s = .next (s.recordMap c n 3 c.nlb c.mapRanges)) ∧
      (∀ taken, c.sqe.opc = 0x09 →
        (n.kind = .zoned ∨ masked taken c.mapRanges = [] → exec (.datasetManagement r taken) s = .next (s.complete c .success)) ∧
        (n.kind ≠ .zoned → masked taken c.mapRanges ≠ [] → exec (.datasetManagement r taken) s = .next (s.recordMap c n 1 1 (masked taken c.mapRanges))))) ∧
    (s.slotsFor c.nsix n (n.groupOf c.sqe c.lba) c.nlb = false → s.gcCould c.nsix = true → s.handlePlacementWrite c n = s) ∧
    (s.slotsFor c.nsix n (n.groupOf c.sqe c.lba) c.nlb = false → s.gcCould c.nsix = false →
      s.handlePlacementWrite c n = (s.protectNs c.nsix).complete c .capacityExceeded) ∧
    (s.slotsFor c.nsix n (n.groupOf c.sqe c.lba) c.nlb = true → ∃ u, OnlyChanges [.host, .zon] s u ∧
      u.zon.reserved = s.zon.reserved.upd (c.nsix * 32 + n.groupOf c.sqe c.lba) 0 (· + c.nlb) ∧
      s.handlePlacementWrite c n = u.requestLocks { c with group := n.groupOf c.sqe c.lba })

/-- An action on a zone whose earlier action is pending waits; one that the zone's state does not allow fails with Invalid Zone State Transition and changes no zone; one the zone has already reached completes at once. Any other changes the zone's state when it is handled, Finish moving the write pointer to the capacity and Finish and Reset marking the action pending; Close (and Open, which takes its resources first) then appends its record, the others go on to their lock entries and append it after them. The command completes, its actions applied, when each record is durable. Forms shown to complete (exec answers a next state, under conditions on the state and the operands alone): zoneOpen, zoneClose, zoneFinish, zoneReset, zoneOffline, zoneActionAcknowledge. -/
def Obligations.ZoneActions : Prop :=
  (∀ (r : CmdRef) (c : Cmd) (n : Ns) (act zsa : Nat) (op : CmdRef → Instr) (s : State),
    (op, zsa, act) ∈ [(Instr.zoneOpen, 0x03, 1), (Instr.zoneClose, 0x01, 2), (Instr.zoneFinish, 0x02, 3), (Instr.zoneReset, 0x04, 4), (Instr.zoneOffline, 0x05, 5)] →
    s.cmd? r = some c → s.nsAt c.nsix = some n → c.sqe.opc = 0x79 → c.sqe.zsa = zsa → s.csnReady (262144 + 8) = true → s.cqRoom r = true →
    (c.phase = .data → exec (op r) s = .next (if n.wp then s.failWrite c .nsWriteProtected else s.recordActions c n)) ∧
    (c.phase = .ready ∨ c.phase = .zoneWait →
      (s.actionBlocked c n act = true → exec (op r) s = .next (s.waitZone c)) ∧
      (s.actionBlocked c n act = false → n.wp = true → exec (op r) s = .next (s.complete c .nsWriteProtected)) ∧
      (∀ e z, s.actionBlocked c n act = false → n.wp = false → c.sqe.selectAll = false → n.entryOf (c.sqe.slba / 262144) = some e → s.zone? e = some z → c.acts = [] →
        (z.ring.isSome = true → exec (op r) s = .next (s.complete c .zoneCaptureBound)) ∧
        (z.ring = none →
          (∀ st, actionResult act z = .error st → exec (op r) s = .next (s.complete c st) ∧ st = .zoneInvalidTransition) ∧
          (actionResult act z = .ok none → exec (op r) s = .next (s.complete c .success)) ∧
          (∀ nz, actionResult act z = .ok (some nz) → act ≠ 1 → ∃ (u : State) (c' : Cmd), c' = { c with acts := [⟨e, act, 0, none, [], z.zs, z.wpoff⟩] } ∧ u.cmd? r = some c' ∧
            u.zone? e = some { z with zs := nz, wpoff := if act = 3 then z.zcap else z.wpoff, action := if act = 3 ∨ act = 4 then some r else z.action } ∧
            OnlyChanges [.host, .zon] s u ∧ exec (op r) s = .next (if act = 2 then u.recordActions c' n else u.requestLocks c')) ∧
          (∀ nz u, actionResult act z = .ok (some nz) → act = 1 → s.openZone n c.nsix e z true = (u, .success) → u.cmd? r = some c →
            ∃ (w : State) (c' : Cmd), c' = { c with acts := [⟨e, 1, 0, none, [], z.zs, z.wpoff⟩] } ∧ w.cmd? r = some c' ∧ w.zone? e = (u.zone? e).map (fun z => { z with zs := .explicitOpen }) ∧
              exec (op r) s = .next (w.recordActions c' n)))))) ∧
  (∀ (act : Nat) (z : Zone) (nz : ZState), actionResult act z = .ok (some nz) →
    (act, nz) ∈ [(1, ZState.explicitOpen), (2, .closed), (3, .full), (4, .empty), (5, .offline)]) ∧
  (∀ (r : CmdRef) (c : Cmd) (n : Ns) (s : State), s.cmd? r = some c → s.nsAt c.nsix = some n → c.sqe.opc = 0x79 → c.phase = .record →
    s.cqRoom r = true → s.hld.flush = .none →
    (c.acts.all (fun a => s.durable (a.jrec.getD 0)) = true →
      exec (.zoneActionAcknowledge r) s = .next ((c.acts.foldl (fun s a => s.applyAction c.nsix n a) s).complete c .success)) ∧
    (c.acts.all (fun a => s.durable (a.jrec.getD 0)) = false → exec (.zoneActionAcknowledge r) s = .next s)) ∧
  (∀ (a : ZoneAct) (nsix : Nat) (n : Ns) (z : Zone) (s : State), a.act = 1 ∨ a.act = 2 → s.zone? a.entry = some z →
    (s.applyAction nsix n a).zone? a.entry = some { z with action := none })

/-- In row r of a set, P lies in member r mod 18, Q in member (r + 1) mod 18, and data position d in member (r + 2 + d) mod 18; the role of each member in the row is read back from the same rule. -/
def Obligations.RolePlacement : Prop :=
  ∀ row : Nat, roleOf row (row % 18) = 16 ∧ roleOf row ((row + 1) % 18) = 17 ∧
    (∀ d < 16, memberOfData row d = (row + 2 + d) % 18 ∧ roleOf row ((row + 2 + d) % 18) = d) ∧
    (∀ m < 18, roleOf row m < 18 ∧ (∀ k < 18, roleOf row k = roleOf row m → k = m))

/-- A unit that may be placed takes its place in the stripe engine's rows, in write-through mode or under a Flush with an early close, and one that may not waits; placements also close the oldest open stripes early while the credit in use exceeds three quarters of the Holdup Budget. A group of a member in service, every slot of which holds a sound unit, whose lower group is programmed, is marked sent and its program joins the die's media-write queue. When a link's inhibits have gone the groups that waited are sent again; when they have not by the time limit the groups waiting on the die have failed. The epoch of a placement namespace that has written its length cuts its histories to three quarters. The counters clear. With P the exclusive or of the 16 data units of a row, any one of them follows from P and the other fifteen. With three data units lost, or any data unit and both parity units, nothing is recovered. Forms shown to complete (exec answers a next state, under conditions on the state and the operands alone): stripeUnitPlacement, groupProgram, inhibitWaitTimeout, stripeCounterClear, epochEnd. -/
def Obligations.StripesAndRecovery : Prop :=
  ((∀ (csn : Nat) (comp : Bool) (u : DramUnit) (s : State), s.str.dram.get? (unitKey csn comp) = some u →
    (u.place = none → u.reloc = true ∨ s.mayPlace u = true → s.logHeld = false → exec (.stripeUnitPlacement csn comp) s =
      .next (((s.placeUnit (unitKey csn comp) u).wtClose (unitKey csn comp)).closeForFlushes.pressCredit)) ∧
    (u.place.isSome = true ∨ (u.reloc = false ∧ s.mayPlace u = false) ∨ s.logHeld = true → exec (.stripeUnitPlacement csn comp) s = .next s)) ∧
  (∀ (setid m grp : Nat) (r : SetRec) (s : State), s.set? setid = some r → m < 18 → grp < 1024 → r.memberLost m = false →
    s.groupState setid m grp = none → s.groupFull setid r m grp = true → (s.groupSpan r m grp).1 < r.rows →
    grp = 0 ∨ s.groupState setid m (grp - 1) = some .done → s.hld.flush = .none →
    (s.badUnits setid r m grp = [] → ∃ t, exec (.groupProgram setid m grp) s = .next t ∧ t.groupState setid m grp = some .sent ∧
      (t.sdie (nth r.members m (0, 0)).1).mw = (s.sdie (nth r.members m (0, 0)).1).mw ++
        [{ kind := .program setid m grp, cls := 1, arrive := s.ao.time, maint := false }] ∧ OnlyChanges [.str, .sch] s t) ∧
    (exec (.groupProgram setid m grp) s = .next (((s.badUnits setid r m grp).foldl (fun s x => s.padBad setid r x) s).queueProgram setid r m grp))) ∧
  (∀ (die : Nat) (s : State),
    ((s.link (pkgOf die)).inh = 0 → exec (.inhibitWaitTimeout die) s = .next (s.resendInhibited (pkgOf die))) ∧
    ((s.link (pkgOf die)).inh ≠ 0 → ∃ t, exec (.inhibitWaitTimeout die) s = .next t ∧ OnlyChanges [.str] s t ∧
      ∀ k g, s.str.groups.get? k = some g → t.str.groups.get? k = some (if (g.inhSince.isSome = true ∧ s.groupDie k = some die) ∨ s.suspendedGroup die = some k then
        { g with st := .failed, inhSince := none } else g))) ∧
  (∀ (nsix : Nat) (n : Ns) (s : State), s.nsAt nsix = some n → n.kind = .placement → 0 < s.fld F.ZON_PL_EPOCH_EPOCH_GIB →
    s.fld F.ZON_PL_EPOCH_EPOCH_GIB * 2 ^ 30 ≤ n.epochBytes → ∃ t, exec (.epochEnd nsix) s = .next t ∧ OnlyChanges [.zon] s t ∧
      t.nsAt nsix = some { n with epochBytes := n.epochBytes - s.fld F.ZON_PL_EPOCH_EPOCH_GIB * 2 ^ 30, hist := n.hist.mapV fun _ h => h - h / 4 }) ∧
  (∀ (a : Agent) (s : State), exec (.stripeCounterClear a) s = .next (s.withStr { s.str with cnt := [] }))) ∧
  ((∀ (pre post : List Info) (x : Info) (num : Nat → Nat),
    recoverByP (parityP (pre ++ x :: post)) ((pre ++ post).zipIdx.map fun y => (num y.2, y.1)) = x) ∧
  (∀ (avail : AMap Info) (useQ : Bool), 3 ≤ ((List.range 16).filter fun d => (avail.get? d).isNone).length → recoverRow avail useQ = none) ∧
  (∀ (avail : AMap Info) (useQ : Bool), avail.get? 16 = none → avail.get? 17 = none →
    1 ≤ ((List.range 16).filter fun d => (avail.get? d).isNone).length → recoverRow avail useQ = none))

/-- A member that must be replaced is replaced. A rebuild starts with the next member to rebuild where none runs, goes on by one row while the dies it reads have their share left, or ends when its rows are done. A staging row that is full has its staged units read back and its parity computed. A lost capture unit's block, once found in the map, takes a deferred error. A reconstruction whose reads are over gives its unit, computed with P or else with Q, to the read that waits; when it fails the failed reads are tried once more, and then the row is lost and the read fails. The reconstruction itself is then gone. During a flush none of the media work runs. Forms shown to complete (exec answers a next state, under conditions on the state and the operands alone): stagedReadback, memberReplacement, rebuildRow, reconstructionComplete, lostLbaSearchEnd. -/
def Obligations.LostMembers : Prop :=
  (∀ (setid m : Nat) (r : SetRec) (s : State), s.set? setid = some r →
    (m < 18 → s.mustReplace setid r m = true → s.hld.flush = .none → s.logHeld = false → exec (.memberReplacement setid m) s = .next (s.replaceMember setid m)) ∧
    (s.mustReplace setid r m = false ∨ s.hld.flush ≠ .none ∨ s.logHeld = true → exec (.memberReplacement setid m) s = .next s)) ∧
  (∀ s : State, (s.flag F.STR_RBCFG_RBEN = true → s.hld.flush = .none → s.logHeld = false →
      (s.str.rebuild = none → exec .rebuildRow s = .next s.startRebuild) ∧
      (∀ b r, s.str.rebuild = some b → s.set? b.setid = some r →
        exec .rebuildRow s = .next (if b.doneRows < s.programmedRows b.setid r then (if s.rebuildMay b r = true then s.rebuildNext b r else s) else s.endRebuild b r)) ∧
      (∀ b, s.str.rebuild = some b → s.set? b.setid = none → exec .rebuildRow s = .next (s.withStr { s.str with rebuild := none }))) ∧
    (s.flag F.STR_RBCFG_RBEN = false ∨ s.hld.flush ≠ .none ∨ s.logHeld = true → exec .rebuildRow s = .next s)) ∧
  (∀ (setid row lba : Nat) (r : SetRec) (s : State), s.set? setid = some r → setid < 0x100000 → row < r.rows → s.groupsFilled setid r row = true →
    s.rowLba setid row = some lba →
    (∀ d < 16, nth (s.row setid row).pos d .empty ≠ .staged) →
    exec (.stagedReadback setid row) s = .next (s.parityRow setid r row (s.row setid row).early)) ∧
  (∀ (record pos : Nat) (e : LostRec) (s : State), (s.str.lost.find? fun e => e.index == record && e.search.contains pos) = some e →
    ∃ u : State, u.str.lost = (s.str.lost.map fun x => if x.index = record then { x with search := x.search.filter fun p => p != pos } else x) ∧
      OnlyChanges [.str] s u ∧
      (∀ x, (s.zon.map.find? fun x => x.2 == (stripeSet e.stripe - 0x100000) * 2 ^ 18 + 16 * stripeRow e.stripe + pos) = some x →
        exec (.lostLbaSearchEnd record pos) s = .next (u.deferLost (x.1 / 2 ^ 48) (x.1 % 2 ^ 48) e.tag e.index)) ∧
      ((s.zon.map.find? fun x => x.2 == (stripeSet e.stripe - 0x100000) * 2 ^ 18 + 16 * stripeRow e.stripe + pos) = none →
        exec (.lostLbaSearchEnd record pos) s = .next u)) ∧
  (∀ (id : Nat) (c : Recon) (r : SetRec) (v : UnitRead) (s : State), s.str.recon.get? id = some c → s.set? c.setid = some r →
    s.uread c.rid = some v → c.out = [] →
    (s.reconOut c r v false ≠ .unreadable → ∃ u : State, exec (.reconstructionComplete id) s =
        .next ((u.countHealth v.nsix 1 1).resolveRead c.rid (s.reconOut c r v false)) ∧
      u.str.recon = s.str.recon.del id ∧ OnlyChanges [.str] s u) ∧
    (s.reconOut c r v false = .unreadable → s.reconOut c r v true ≠ .unreadable → ∃ u : State, exec (.reconstructionComplete id) s =
        .next ((u.countHealth v.nsix 1 1).resolveRead c.rid (s.reconOut c r v true)) ∧
      u.str.recon = s.str.recon.del id ∧ OnlyChanges [.str] s u) ∧
    (s.reconOut c r v false = .unreadable → s.reconOut c r v true = .unreadable → c.retried = false →
      exec (.reconstructionComplete id) s = .next (((s.countStr 5 1).countStr 6 1).finalReads id)) ∧
    (s.reconOut c r v false = .unreadable → s.reconOut c r v true = .unreadable → c.retried = true →
      ∃ (u : State) (mask : Nat), exec (.reconstructionComplete id) s = .next ((u.rowLost c.setid c.row 2 mask).resolveRead c.rid .lost) ∧
        u.str.recon = s.str.recon.del id ∧ OnlyChanges [.str] s u))

/-- At a die that has failed every read fails. During a flush, or where its link cannot take a request, nothing is sent. A suspended operation is served first, and an operation in progress that is not suspended holds the die. Otherwise class 0 goes first, within the limit of outstanding reads, then an overdue write, then class 1 (its maintenance requests where their share allows), then a write, then class 2 where its share allows. A class 2 request that has waited the ageing time joins class 1 (a maintenance one still within its share), and the reads among them are decided again where their die is busy, benched or held. A suspended operation whose hold time is over is resumed before later reads. The window's end benches dies and carries the shares' debts over. Setting the latency monitor clears its counts. Forms shown to complete (exec answers a next state, under conditions on the state and the operands alone): dieDispatch, classAgeingTimeout, suspholdExpiry, schedulerWindowEnd, latencyMonitorConfig. -/
def Obligations.DieScheduling : Prop :=
  (∀ (die : Nat) (s : State),
    (s.dieFailed die = true → exec (.dieDispatch die) s = .next (s.failReads die)) ∧
    (s.dieFailed die = false → s.hld.flush ≠ .none ∨ s.canSend die = false → exec (.dieDispatch die) s = .next s) ∧
    (s.dieFailed die = false → s.hld.flush = .none → s.canSend die = true →
      (∀ o, (s.sdie die).op = some o → exec (.dieDispatch die) s = .next (if o.susp then s.serveSuspended die o else s)) ∧
      ((s.sdie die).op = none →
        ((s.sdie die).q0 ≠ [] → (s.sdie die).reads < s.fld F.SCH_SUSP_RQMAX → exec (.dieDispatch die) s = .next (s.sendHead die 0)) ∧
        ((s.sdie die).q0 = [] → s.writeOverdue (s.sdie die) = true → s.writeReady die (s.sdie die) = true →
          exec (.dieDispatch die) s = .next (s.startWrite die)) ∧
        ((s.sdie die).q0 = [] → s.writeOverdue (s.sdie die) = false → (s.headOf die 1).isSome = true → (s.sdie die).reads < s.fld F.SCH_SUSP_RQMAX →
          exec (.dieDispatch die) s = .next (s.sendHead die 1)) ∧
        ((s.sdie die).q0 = [] → s.headOf die 1 = none → s.writeReady die (s.sdie die) = true → exec (.dieDispatch die) s = .next (s.startWrite die)) ∧
        (∀ q rest, (s.sdie die).q0 = [] → s.headOf die 1 = none → s.writeReady die (s.sdie die) = false → (s.sdie die).q2 = q :: rest →
          (s.sdie die).reads < s.fld F.SCH_SUSP_RQMAX → exec (.dieDispatch die) s = .next (if s.bgAllowed die q then s.sendHead die 2 else s))))) ∧
  (∀ (die : Nat) (s : State), ∃ (t : State) (rs : List Nat),
    rs = (((s.sdie die).q2.filter fun q => decide (q.arrive + 1000000 * s.fld F.SCH_WIN_AGE ≤ s.ao.time) && !q.maint).filterMap fun q => q.kind.rid?) ∧
    exec (.classAgeingTimeout die) s = .next (if (s.sdie die).op.isSome || (s.sdie die).benched || (s.sdie die).held then t.decideReads die rs true else t) ∧
    OnlyChanges [.sch, .ddk] s t ∧
    (∀ q, q ∈ (t.sdie die).q2 ↔ q ∈ (s.sdie die).q2 ∧ s.ao.time < q.arrive + 1000000 * s.fld F.SCH_WIN_AGE) ∧
    (∀ q, q ∈ (t.sdie die).q1 ↔ q ∈ (s.sdie die).q1 ∨
      ∃ p ∈ (s.sdie die).q2, p.arrive + 1000000 * s.fld F.SCH_WIN_AGE ≤ s.ao.time ∧ q = { p with cls := 1 }) ∧
    (t.sdie die).q0 = (s.sdie die).q0 ∧ (t.sdie die).mw = (s.sdie die).mw ∧ ∀ d, d ≠ die → t.sdie d = s.sdie d) ∧
  (∀ (die : Nat) (o : DieOp) (s : State), (s.sdie die).op = some o →
    (∀ u : State, o.susp = true → u = (s.setSdie die fun d => { d with op := some { o with holdOver := true } }).redecide die →
      exec (.suspholdExpiry die) s = .next (if s.hld.flush = .none ∧ u.canSend die = true then u.serveSuspended die { o with holdOver := true } else u)) ∧
    (o.susp = false → exec (.suspholdExpiry die) s = .next s)) ∧
  (∀ s : State, ∃ t : State, exec .schedulerWindowEnd s = .next t.ewBench ∧ OnlyChanges [.sch] s.windowBenched t ∧
    ∀ d x, s.windowBenched.sch.dies.get? d = some x → t.sch.dies.get? d = some { x with
      maintNs := x.maintNs - s.windowBenched.fld F.SCH_WIN_WIN * s.windowBenched.fld F.SCH_WIN_MAINT * 10000
      rebuildNs := x.rebuildNs - s.windowBenched.fld F.SCH_WIN_WIN * s.windowBenched.fld F.STR_RBCFG_RBSHARE * 10000 }) ∧
  (∀ (a : Agent) (v : Nat) (s : State), ∃ t, exec (.latencyMonitorConfig a v) s = .next t ∧ OnlyChanges [.sch, .win] s t ∧
    t.sch.total = 0 ∧ t.sch.overN = 0 ∧ t.sch.max = 0 ∧ t.sch.dies = s.sch.dies)

/-- A response frame is counted. One that names a tag not in use is counted as stray, ends that tag's quarantine and changes only its link. One that names a tag in use frees it: RDATA of a hard read samples the die's latency, gives the die its read back and sends the unit to the hard decoder; RDATA (SDATA for its soft pages) of a calibration read samples its page; SDATA of a soft read gives its bits their likelihood values, the read queued for the soft engine where the hard decode failed; DONE ends the program, erase, reference setting, suspend or resume; REG_DATA stores the register that was read and, where the boot count changed, treats the bridge as reset; STATUS_RSP takes the temperature and inhibits, and resolves the request that was queried. Forms shown to complete (exec answers a next state, under conditions on the state and the operands alone): rdata, sdata, done, statusRsp, regData. -/
def Obligations.ResponseFrames : Prop :=
  (∀ (n : Nat) (f : Frame) (s : State), (s.link n).tags.get? f.tag = none → ∀ c ∈ [Instr.rdata n f, .sdata n f, .done n f, .busy n f, .inhibit n f, .statusRsp n f, .nak n f, .regData n f],
    ∃ t, exec c s = .next t ∧ OnlyChanges [.lnk] s t ∧ (t.link n).tags = (s.link n).tags ∧
      (t.link n).quar = (s.link n).quar.filter fun q => q != f.tag) ∧
  (∀ (n : Nat) (f : Frame) (q : TagRec) (s : State), (s.link n).tags.get? f.tag = some q → q.die % 64 = f.die →
    (∀ rid, q.req.kind = .readHard rid → ∃ u : State, u = (((s.linkCount n 10 1).freeTag n f.tag).sampleRr q rid).readBack q ∧
      exec (.rdata n f) s = .next (u.setRead rid fun x => { x with st := .hardDecoding })) ∧
    (∀ block grp page ref, q.req.kind = .calRead block grp page ref →
      exec (if page < 4 then .rdata n f else .sdata n f) s = .next ((((s.linkCount n 10 1).freeTag n f.tag).readBack q).samplePage n q.die block grp page)) ∧
    (∀ rid x, q.req.kind = .readSoft rid → (((s.linkCount n 10 1).freeTag n f.tag).readBack q).uread rid = some x →
      ∃ t, exec (.sdata n f) s = .next t ∧ OnlyChanges [.ddk] (((s.linkCount n 10 1).freeTag n f.tag).readBack q) t ∧
        t.uread rid = some { x with soft := true, llr := (((s.linkCount n 10 1).freeTag n f.tag).readBack q).softValues x f.payload, st := if x.hardFailed then .softQueued else .hardDecoding } ∧
        t.ddk.softQ = (((s.linkCount n 10 1).freeTag n f.tag).readBack q).ddk.softQ ++ (if x.hardFailed then [rid] else [])) ∧
    (∀ k, q.req.kind = k → (∃ a b c, k = .program a b c) ∨ (∃ a b, k = .erase a b) ∨ (∃ a b, k = .setRef a b) ∨ k = .suspend ∨ k = .resume ∨
        k = .dieReset ∨ (∃ a b, k = .bridgeCfg a b) →
      exec (.done n f) s = .next (((s.linkCount n 10 1).freeTag n f.tag).doneWith n q f.arg)) ∧
    (q.req.kind = .temp → exec (.statusRsp n f) s = .next (((s.linkCount n 10 1).freeTag n f.tag).statusBlock n f)) ∧
    (∀ tag p, q.req.kind = .status tag → ((((s.linkCount n 10 1).freeTag n f.tag).statusBlock n f).link n).tags.get? tag = some p → p.query = true →
      ∃ u : State, u = ((s.linkCount n 10 1).freeTag n f.tag).statusBlock n f ∧
        exec (.statusRsp n f) s = .next (if frameNum f 1 1 = 0 ∨ frameNum f 1 1 = 5 then u.reissue n tag
          else if frameNum f 1 1 = 4 then (u.freeTag n tag).doneWith n p (frameNum f 2 2)
          else u.setLink n fun l => { l with tags := l.tags.adj tag fun x => { x with query := false } })) ∧
    (∀ a, q.req.kind = .bridgeRead a → a ≠ 0x04 → ∃ u : State, exec (.regData n f) s = .next (u.configAnswered n) ∧ OnlyChanges [.lnk] s u ∧
      (u.link n).tags = (s.link n).tags.del f.tag ∧ (a = 0 → (u.link n).id = frameNum f 3 0) ∧
      (a = 8 → (u.link n).dies % 2 ^ 32 = frameNum f 3 0 % 2 ^ 32) ∧ (a ≠ 0 → a ≠ 8 → (u.link n).dies / 2 ^ 32 = frameNum f 3 0)) ∧
    (q.req.kind = .bridgeRead 0x04 → ∃ u : State, (u.link n).bootcnt = frameNum f 3 0 ∧ (u.link n).bootKnown = true ∧ OnlyChanges [.lnk] s u ∧
      exec (.regData n f) s = .next ((if (s.link n).bootKnown && (s.link n).bootcnt != frameNum f 3 0 then
        u.bridgeReset n (s.link n).bootcnt (frameNum f 3 0) else u).configAnswered n)))

/-- BUSY frees the tag, records how long the die stays busy, and puts the request back at the head of its class; for a read the scheduler then waits, suspends or reconstructs. INHIBIT of a program makes its group wait from now, of an erase puts it back at the head of the media writes, and the inhibits it tells of are taken. NAK with argument 1 or 3 sends the request again; with argument 4 from a die of the link the die has failed; with any other argument the request fails. An ALERT takes the status block, fails the die where its argument is 3, and has the boot count read. Forms shown to complete (exec answers a next state, under conditions on the state and the operands alone): busy, inhibit, nak, alert. -/
def Obligations.RefusalFrames : Prop :=
  (∀ (n : Nat) (f : Frame) (q : TagRec) (s : State), (s.link n).tags.get? f.tag = some q → q.die % 64 = f.die →
    (∀ rid x, q.req.kind.rid? = some rid → ∀ v u : State,
      v = (((s.linkCount n 5 1).linkCount n 10 1).freeTag n f.tag).setSdie q.die (fun d => { d with busy := f.arg % 1024 * 10000, busyAt := s.ao.time }) →
      u = ((v.readBack q).setRead rid fun y => { y with st := .queued }).setSdie q.die (fun d =>
        if q.req.cls = 0 then { d with q0 := q.req :: d.q0 } else if q.req.cls = 1 then { d with q1 := q.req :: d.q1 } else { d with q2 := q.req :: d.q2 }) →
      u.uread rid = some x → exec (.busy n f) s = .next (match u.slalom x true with
        | .wait => u
        | .suspend => u.sendSuspend q.die
        | .reconstruct picks => (u.unqueue q.die rid).startRecon rid picks)) ∧
    (∀ setid m grp, q.req.kind = .program setid m grp → ∃ u : State, exec (.inhibit n f) s = .next (u.drew.setInh n f.die (f.arg % 16) (Config.freeNat s.free % 65536)
        ((s.lnk.temps.getD q.die 0).emod 65536).toNat) ∧ OnlyChanges [.lnk, .sch, .str] s u ∧ (u.link n).tags = (s.link n).tags.del f.tag ∧
      (∀ g, s.str.groups.get? (groupKey setid m grp) = some g → u.str.groups.get? (groupKey setid m grp) = some { g with inhSince := some s.ao.time }) ∧
      (u.sdie q.die).op = none) ∧
    (∀ block r, q.req.kind = .erase block r → ∃ u : State, exec (.inhibit n f) s = .next (u.drew.setInh n f.die (f.arg % 16) (Config.freeNat s.free % 65536)
        ((s.lnk.temps.getD q.die 0).emod 65536).toNat) ∧ OnlyChanges [.lnk, .sch] s u ∧ (u.link n).tags = (s.link n).tags.del f.tag ∧
      (u.sdie q.die).op = none ∧ (u.sdie q.die).mw = q.req :: (s.sdie q.die).mw) ∧
    (f.arg = 1 ∨ f.arg = 3 → exec (.nak n f) s = .next (((s.linkCount n 7 1).linkCount n 10 1).reissue n f.tag)) ∧
    (∀ v : State, v = ((s.linkCount n 7 1).linkCount n 10 1).freeTag n f.tag → f.arg ≠ 1 → f.arg ≠ 3 →
      (f.arg = 4 → (s.link n).dies.testBit f.die = true → exec (.nak n f) s = .next ((v.dieFail q.die 1).requestFailed n q false)) ∧
      (f.arg ≠ 4 → exec (.nak n f) s = .next (v.requestFailed n q false)))) ∧
  (∀ (n : Nat) (f : Frame) (s : State),
    (f.tag = 0x3FF → f.arg ≠ 3 → exec (.alert n f) s = .next (((s.linkCount n 10 1).statusBlock n f).control (64 * n) (.bridgeRead 0x04))) ∧
    (f.tag = 0x3FF → f.arg = 3 → exec (.alert n f) s =
      .next (((((s.linkCount n 10 1).statusBlock n f).raise (0x0A0 + n) 1 2 [(1, f.die)]).dieFail (64 * n + f.die) 2).control (64 * n) (.bridgeRead 0x04))) ∧
    (f.tag ≠ 0x3FF → ∃ t, exec (.alert n f) s = .next t ∧ OnlyChanges [.lnk] s t ∧ (t.link n).tags = (s.link n).tags))

/-- TRAIN_RSP advances the lane that trains: in phase 0 to phase 1, after 64 frames to phase 2, after 8 presets to phase 3 with the best preset kept, and after 4,096 checked frames to phase 4, or to a failed attempt where more than one was wrong either way. A frame for a lane that does not train, or of another phase, is only counted. The detection timer sends phase 0 again, and a phase's time limit fails the attempt. Corrupt frames are counted and retrain a lane when they reach the limit in its window. A tag's time limit queries a request that changes the media and sends any other again; too many retrain the link. A tag leaves quarantine. Polls ask for status and temperature. RESETBR trains from phase 0 and RETRAIN from phase 1 where the link is enabled. The counters clear. Forms shown to complete (exec answers a next state, under conditions on the state and the operands alone): trainRsp, corruptFrame, tagTimerExpiry, quarantineExpiry, frameLengthTimeout, burstEnd, trainDetectTimer, inhibitPollTimer, dieTempPoll, resetbr, retrain, linkCounterClear, linkTrainingPhaseTimeout. -/
def Obligations.LinkTraining : Prop :=
  (∀ (n errs : Nat) (f : Frame) (s : State), f.lane < 2 →
    (((s.link n).lane f.lane).training = false ∨ f.arg / 512 % 8 ≠ ((s.link n).lane f.lane).phase → exec (.trainRsp n f errs) s = .next (s.linkCount n 10 1)) ∧
    (((s.link n).lane f.lane).training = true → f.arg / 512 % 8 = ((s.link n).lane f.lane).phase →
      (((s.link n).lane f.lane).phase = 0 → exec (.trainRsp n f errs) s = .next ((s.linkCount n 10 1).nextPhase n f.lane 1)) ∧
      (∀ u : State, u = (s.linkCount n 10 1).setLane n f.lane (fun x => { x with frames := x.frames + 1, dnPreset := frameNum f 4 4 % 8 }) →
        ((s.link n).lane f.lane).phase = 1 → exec (.trainRsp n f errs) s =
          .next (if ((s.link n).lane f.lane).frames + 1 < 64 then u else u.nextPhase n f.lane 2)) ∧
      (∀ u : State, ∀ best : Nat × Nat, best = (match ((s.link n).lane f.lane).best with
          | none => (errs, f.arg / 8 % 8)
          | some b => if errs < b.1 then (errs, f.arg / 8 % 8) else b) →
        u = (s.linkCount n 10 1).setLane n f.lane (fun x => { x with frames := x.frames + 1, best := some best }) →
        ((s.link n).lane f.lane).phase = 2 → exec (.trainRsp n f errs) s = .next (if ((s.link n).lane f.lane).frames + 1 < 8 then u else
          (u.setLane n f.lane fun x => { x with upPreset := best.2 }).nextPhase n f.lane 3)) ∧
      (((s.link n).lane f.lane).phase = 3 → ∃ u : State, OnlyChanges [.lnk] s u ∧ (u.link n).tags = (s.link n).tags ∧
        exec (.trainRsp n f errs) s = .next (if ((s.link n).lane f.lane).frames + 1 < 4096 then u
          else if ((s.link n).lane f.lane).errs + (if errs = 0 then 0 else 1) ≤ 1 ∧ ((s.link n).lane f.lane).dnErrs +
              (if frameNum f 3 0 = (if ((s.link n).lane f.lane).frames % 1024 = 0 then 0 else ((s.link n).lane f.lane).dnLast) then 0 else 1) ≤ 1
            then u.nextPhase n f.lane 4 else u.attemptFails n f.lane)))) ∧
  (∀ (n lane : Nat) (s : State), lane < 2 → ((s.link n).lane lane).training = true →
    (((s.link n).lane lane).phase = 0 → exec (.trainDetectTimer n lane) s = .next (s.sendTrain n 0)) ∧
    exec (.linkTrainingPhaseTimeout n lane) s = .next (s.attemptFails n lane)) ∧
  (∀ (n lane : Nat) (hcrc : Bool) (s : State),
    (((s.link n).lane lane).up = false → exec (.corruptFrame n lane hcrc) s = .next (s.linkCount n (if hcrc then 0 else 1) 1)) ∧
    (∀ u : State, ∀ times, times = s.ao.time :: ((s.link n).lane lane).crcTimes.filter (fun t => s.ao.time < t + 1000000 * s.fld F.LNK_RETRAIN_WIN n) →
      u = (s.linkCount n (if hcrc then 0 else 1) 1).setLane n lane (fun x => { x with crcTimes := times }) → ((s.link n).lane lane).up = true →
      exec (.corruptFrame n lane hcrc) s = .next (if s.fld F.LNK_RETRAIN_CRCN n ≤ times.length then u.trainLane n lane 1 1 else u))) ∧
  (∀ (n lane : Nat) (s : State), exec (.frameLengthTimeout n lane) s = .next (s.linkCount n 2 1) ∧
    exec (.burstEnd n lane true) s = .next (s.linkCount n 2 1) ∧ exec (.burstEnd n lane false) s = .next s) ∧
  (∀ (n tag : Nat) (q : TagRec) (s : State), (s.link n).tags.get? tag = some q → s.linkUp n = true →
    ∃ v u : State, v = (s.linkCount n 3 1).setLink n (fun l => { l with touts := l.touts + 1 }) ∧
      u = (if q.req.kind.queried then (if q.query then v else
        (v.setLink n fun l => { l with tags := l.tags.adj tag fun t => { t with query := true } }).control q.die (.status tag)) else v.reissue n tag) ∧
      exec (.tagTimerExpiry n tag) s = .next (if u.fld F.LNK_RETRAIN_TOUTN n ≤ (u.link n).touts ∧ u.linkUp n = true then
        (u.setLink n fun l => { l with touts := 0 }).trainLink n 1 2 else u)) ∧
  (∀ (n tag : Nat) (s : State), ∃ t, exec (.quarantineExpiry n tag) s = .next t ∧ OnlyChanges [.lnk] s t ∧ tag ∉ (t.link n).quar ∧
    (∀ x, x ≠ tag → (x ∈ (t.link n).quar ↔ x ∈ (s.link n).quar))) ∧
  (∀ (n die : Nat) (s : State),
    ((s.link n).inh ≠ 0 → s.canSend (64 * n) = true → exec (.inhibitPollTimer n) s = .next (s.control (64 * n) (.status 0x3FF))) ∧
    ((s.link (pkgOf die)).dies.testBit (die % 64) = true → s.canSend die = true → exec (.dieTempPoll die) s = .next (s.control die .temp))) ∧
  (∀ (a : Agent) (n : Nat) (s : State),
    (s.flag F.LNK_CTL_EN n = true → exec (.resetbr a n) s = .next (s.trainLink n 0 5) ∧ exec (.retrain a n) s = .next (s.trainLink n 1 4)) ∧
    (s.flag F.LNK_CTL_EN n = false → exec (.resetbr a n) s = .next s ∧ exec (.retrain a n) s = .next s) ∧
    ∃ t, exec (.linkCounterClear a n) s = .next t ∧ OnlyChanges [.lnk] s t ∧ t.link n = { s.link n with cnt := [] })

/-- Where the channel has passed its training, no read is queued, no drain runs and the write does not start one, a 64-byte write to an aligned address of the array is accepted, and a read of the same address with no symbol in error is issued at once, after the queued writes of its bank, and returns exactly the data written, whatever other writes wait. A read behind another, or during a drain, is queued. When a read is decoded, a granule with correctable symbol errors gives its data; any other sends none and is marked uncorrectable. Forms shown to complete (exec answers a next state, under conditions on the state and the operands alone): dramWriteRequest, dramReadRequest. -/
def Obligations.DramReadsBackWrites : Prop :=
  (∀ (a d : Nat) (s : State) (x : SubChan), s.memWf = true → a < s.dramSize → a % 64 = 0 → s.dramLive a = true →
    x = (s.chan (s.dramPlace a).ch).sub (s.dramPlace a).sub → x.rq = [] → x.draining = false → x.wq.length < 64 →
    x.wq.length + 1 < s.fld F.DRM_CH_WQ_HIWM (s.dramPlace a).ch →
    ∃ t u, exec (.dramWriteRequest a d) s = .next t ∧ exec (.dramReadRequest a ⟨[], 0⟩) t = .next u ∧
      u.host.out = .dram a (d % 2 ^ 512) :: s.host.out) ∧
  (∀ (a : Nat) (y : DramSyms) (s : State) (x : SubChan), a < s.dramSize → a % 64 = 0 → s.dramLive a = true →
    x = (s.chan (s.dramPlace a).ch).sub (s.dramPlace a).sub → x.rq.length < 64 → x.draining = true ∨ x.rq ≠ [] →
    exec (.dramReadRequest a y) s = .next (s.joinReads a y)) ∧
  (∀ (r : RqEntry) (s : State),
    (r.addr ∉ s.drm.bad → r.sym.virt % 2 ^ 32 = 0 → s.correctable (s.dramPlace r.addr).ch (s.dramPlace r.addr).sub (s.symErrs r.sym) = true →
      (s.decodeRead r).host.out = .dram r.addr (Mem.readLE 0 64 s.drm.mem r.addr) :: s.host.out) ∧
    (r.addr ∈ s.drm.bad ∨ r.sym.virt % 2 ^ 32 ≠ 0 ∨ s.correctable (s.dramPlace r.addr).ch (s.dramPlace r.addr).sub (s.symErrs r.sym) = false →
      (s.decodeRead r).host.out = s.host.out ∧ r.addr ∈ (s.decodeRead r).drm.bad))

/-- A request at or above the capacity stops, for the spec gives no cell there: that is the one way a command stops. Every command in every state otherwise goes on. Over one configuration, two addresses of the array that lie on the same sub-channel at the same local address are the same address. -/
def Obligations.DramAddresses : Prop :=
  (∀ (a d : Nat) (y : DramSyms) (s : State), s.dramSize ≤ a → exec (.dramWriteRequest a d) s = .fault (.noSuchDramAddress a) ∧
    exec (.dramReadRequest a y) s = .fault (.noSuchDramAddress a)) ∧
  (∀ (c : Instr) (s : State), (∃ t, exec c s = .next t) ∨
    ∃ a, s.dramSize ≤ a ∧ exec c s = .fault (.noSuchDramAddress a) ∧ ((∃ d, c = .dramWriteRequest a d) ∨ ∃ y, c = .dramReadRequest a y)) ∧
  (∀ (a b : Nat) (s : State), a < 2 ^ 36 → b < 2 ^ 36 → s.subIndex a = s.subIndex b → s.localAddr a = s.localAddr b → a = b)

/-- A write that has aged starts a drain of its sub-channel to the low mark. A refresh is postponed while reads of the rank wait, within the limit, and is otherwise issued with those postponed: each closes the rank's banks and takes the refresh-management threshold off their counts; a whole refresh cycle clears their activation counts. MR4 and ZQ are recorded, and a drift beyond the threshold moves the transmit delays. GO of a training operation makes the channel busy until the operation is done with its result. A delay is set in the register it names; a value outside a field's range is discarded in both; a mode register is written in every device, or read with the data given. A scrub begins, is aborted, or ends with its record and event. Forms shown to complete (exec answers a next state, under conditions on the state and the operands alone): writeAgeTimeout, refreshDue, mr4Poll, zqCalibrationTimer, oscillatorTimer, trainingOperation, trainingOperationDone, delaySet, modeRegisterCommand, scrubStart, scrubAbort, scrubPassEnd. -/
def Obligations.DramCommands : Prop :=
  (∀ (ch sub : Nat) (s : State), ch < 4 → sub < 2 → (s.chan ch).trained = true →
    (((s.chan ch).sub sub).wq ≠ [] → exec (.writeAgeTimeout ch sub) s = .next (s.drainNext ch sub)) ∧
    (((s.chan ch).sub sub).wq = [] → exec (.writeAgeTimeout ch sub) s = .next s)) ∧
  (∀ (ch sub rank n k : Nat) (s : State), ch < 4 → sub < 2 → rank ≤ s.fld F.DRM_CFG_RANKS → (s.chan ch).trained = true →
    k = ((s.chan ch).sub sub).postponed.getD rank 0 →
    (s.readsOf ch sub rank = true → k + 1 < s.fld F.DRM_CH_REF_PPMAX ch → s.drm.flushRefresh = false →
      exec (.refreshDue ch sub rank) s = .next ((s.setSub ch sub fun x => { x with postponed := x.postponed.ins rank (k + 1) }).countChan ch 9 1)) ∧
    (s.readsOf ch sub rank = false ∨ s.fld F.DRM_CH_REF_PPMAX ch ≤ k ∨ s.drm.flushRefresh = true →
      exec (.refreshDue ch sub rank) s = .next (s.refreshRank ch sub rank (k + 1)))) ∧
  (∀ (ch sub rank n k : Nat) (s t : State), sub < 2 → t = s.refreshRank ch sub rank n →
    k = n * ((s.chan ch).rfmThreshold sub rank).getD 0 →
    OnlyChanges [.drm] s t ∧ t.drm.mem = s.drm.mem ∧ t.drm.bad = s.drm.bad ∧
      ((t.chan ch).sub sub).wq = ((s.chan ch).sub sub).wq ∧ ((t.chan ch).sub sub).postponed.get? rank = some 0 ∧
      ((t.chan ch).sub sub).refreshed.get? rank = some (if s.refreshCycle ch ≤ ((s.chan ch).sub sub).refreshed.getD rank 0 + n
        then ((s.chan ch).sub sub).refreshed.getD rank 0 + n - s.refreshCycle ch else ((s.chan ch).sub sub).refreshed.getD rank 0 + n) ∧
      ∀ b x, ((s.chan ch).sub sub).banks.get? b = some x → ((t.chan ch).sub sub).banks.get? b = some (if b / 64 = rank then
        { x with row := none, raa := x.raa - k,
                 acts := if s.refreshCycle ch ≤ ((s.chan ch).sub sub).refreshed.getD rank 0 + n then [] else x.acts } else x)) ∧
  (∀ (ch mult drift : Nat) (s : State), ch < 4 → (s.chan ch).trained = true →
    (∃ t, exec (.mr4Poll ch mult) s = .next t ∧ OnlyChanges [.drm] s t ∧ t.chan ch = { s.chan ch with mr4 := mult }) ∧
    (∃ t, exec (.zqCalibrationTimer ch) s = .next t ∧ OnlyChanges [.drm] s t ∧ t.chan ch = { s.chan ch with zq := (s.chan ch).zq + 1 }) ∧
    (∃ t, exec (.oscillatorTimer ch drift) s = .next t ∧ OnlyChanges [.drm] s t ∧ (t.chan ch).osc = (s.chan ch).osc + 1 ∧
      ∀ k v, (s.chan ch).dly.get? k = some v → (t.chan ch).dly.get? k =
        some (if s.fld F.DRM_CH_MNT_OSCTHR ch < drift ∧ k / 256 ≤ 1 then (v + drift) % 4096 else v))) ∧
  (∀ (a : Agent) (ch v : Nat) (s : State), ch < 4 → outOfRange .DRM_TRN_CTL v = false → ∃ t, exec (.trainingOperation a ch v) s = .next t ∧ OnlyChanges [.win, .drm] s t ∧
    t.chan ch = (if v.testBit 31 && !(s.chan ch).busy then { s.chan ch with busy := true, fail := 0 } else s.chan ch)) ∧
  (∀ (a : Agent) (ch v : Nat) (s : State), ch < 4 →
    (outOfRange .DRM_TRN_CTL v = true → exec (.trainingOperation a ch v) s = .next (s.raiseDiscarded (offOf .DRM_TRN_CTL ch) a)) ∧
    (outOfRange .DRM_TRN_DLY v = true → exec (.delaySet a ch v) s = .next (s.raiseDiscarded (offOf .DRM_TRN_DLY ch) a))) ∧
  (∀ (ch fail : Nat) (first : Option Nat) (burst : List Byte) (s : State), ch < 4 → (s.chan ch).busy = true →
    ∃ t, exec (.trainingOperationDone ch fail first burst) s = .next t ∧ OnlyChanges [.win, .drm] s t ∧
      t.chan ch = { s.chan ch with busy := false, fail := fail % 2 ^ 40, first := first }) ∧
  (∀ (a : Agent) (ch v : Nat) (s : State), ch < 4 → outOfRange .DRM_TRN_DLY v = false → ∃ t, exec (.delaySet a ch v) s = .next t ∧ OnlyChanges [.win, .drm] s t ∧
    t.chan ch = (if v.testBit 31 then { s.chan ch with dly := (s.chan ch).dly.ins (bits v 30 28 * 256 + bits v 27 20) (bits v 11 0) } else s.chan ch)) ∧
  (∀ (a : Agent) (ch v rdata : Nat) (s : State), ch < 4 → ∃ t, exec (.modeRegisterCommand a ch v rdata) s = .next t ∧ OnlyChanges [.win, .drm] s t ∧
    (v.testBit 31 = false → t.chan ch = s.chan ch) ∧
    (v.testBit 31 = true → v.testBit 30 = true → (t.chan ch).rdata = rdata % 256) ∧
    (v.testBit 31 = true → v.testBit 30 = false → (t.chan ch).rdata = (s.chan ch).rdata ∧
      ∀ d < 10, (t.chan ch).mr.get? (bits v 29 29 * 2 ^ 20 + bits v 28 28 * 2 ^ 16 + bits v 23 16 + 256 * d) = some (bits v 15 8))) ∧
  (∀ (a : Agent) (v : Nat) (s : State), 1 ≤ bits v 15 8 → bits v 15 8 ≤ 128 → ∀ u : State, u = s.putReg ⟨.MEM_SCR_CTL, 0, 0⟩ v →
    exec (.scrubStart a v) s = .next (let w := if v.testBit 1 then u.abortScrub else u; if v.testBit 0 then w.startScrub else w)) ∧
  (∀ (a : Agent) (s : State), ∃ t, exec (.scrubAbort a) s = .next t ∧ OnlyChanges [.drm] s t ∧
    t.drm.scrub = (if s.drm.scrub.busy then { s.drm.scrub with aborted := true } else s.drm.scrub)) ∧
  (∀ s : State, s.drm.scrub.busy = true → s.drm.scrub.aborted = false → ∃ t, exec .scrubPassEnd s = .next t ∧ OnlyChanges [.drm, .ev, .free] s t ∧
    (s.drm.scrub.sram = false → t.drm.scrub = { s.drm.scrub with busy := false, progress := 100 * s.drm.scrub.len / s.drm.scrub.len, rec_ := s.scrubRecord s.drm.scrub.len (s.scrubFound s.drm.scrub.len) }) ∧
    (s.drm.scrub.sram = true → t.drm.scrub.busy = false ∧ t.drm.scrub.rec_ = s.scrubRecord s.drm.scrub.len (s.scrubFound s.drm.scrub.len)))

/-- A power command records its domain and result. Where the result is not 0 nothing else changes; else a command to On abandons an entry in progress or begins a return, and one to Retention or Off begins the entry. In the handshake a refusal with the domain's reason returns the domain to its state with result 2; a grant goes to abandon point 1; a delay waits, and at the limit of delays refuses with reason 7; an expired delay asks again. After quiesce the entry is at point 2. A completed entry leaves the domain in its target with result 1, and an entry with an abandon standing is undone with result 3, a domain that was not On then returning to On unless the abandon was for a loss of power. Forms shown to complete (exec answers a next state, under conditions on the state and the operands alone): domainCommand, handshakeReply, handshakeDelayExpiry, quiesceDone, domainEntryComplete. -/
def Obligations.DomainEntries : Prop :=
  (∀ (a : Agent) (v : Nat) (s u : State), u = s.withPwr { s.pwr with cmdDom := bits v 7 0, cmdRes := s.domResult (bits v 7 0) (bits v 9 8), lockok := if s.domResult (bits v 7 0) (bits v 9 8) = 0 ∧ bits v 9 8 ≠ 0 ∧ bits v 7 0 = 136 then v.testBit 11 else s.pwr.lockok } →
    (s.domResult (bits v 7 0) (bits v 9 8) ≠ 0 → exec (.domainCommand a v) s = .next u) ∧
    (s.domResult (bits v 7 0) (bits v 9 8) = 0 → exec (.domainCommand a v) s = .next (if bits v 9 8 ≠ 0 then u.beginEntry (bits v 7 0) (domTarget (bits v 9 8))
      else if (u.dom (bits v 7 0)).st = .entering then u.abandonEntry (bits v 7 0) 8 else u.beginReturn (bits v 7 0)))) ∧
  (∀ (d : Nat) (s : State), domHs d = true → (s.dom d).st = .entering → (s.dom d).ap = 0 → (s.dom d).waiting = false →
    (∀ r, s.hsRefuses d (s.dom d).target = some r → ∃ t, exec (.handshakeReply d .refuse) s = .next t ∧ OnlyChanges [.pwr, .ev] s t ∧
      t.dom d = { s.dom d with st := (s.dom d).prev, ap := 7, result := 2, reason := r, abandon := none, waiting := false, delays := 0 }) ∧
    (s.hsRefuses d (s.dom d).target = none → s.hsDelays d = false → (s.dom d).abandon = none → ∃ t, exec (.handshakeReply d .grant) s = .next t ∧
      OnlyChanges [.pwr] s t ∧ t.dom d = { s.dom d with delays := 0, ap := 1 }) ∧
    (∀ us, s.hsRefuses d (s.dom d).target = none → s.hsDelays d = true → 1 ≤ us → us ≤ 65535 →
      ((s.dom d).delays + 1 < s.fld F.PWR_HS_CFG_HSMAX → ∃ t, exec (.handshakeReply d (.delay us)) s = .next t ∧ OnlyChanges [.pwr] s t ∧
        t.dom d = { s.dom d with delays := (s.dom d).delays + 1, waiting := true }) ∧
      (s.fld F.PWR_HS_CFG_HSMAX ≤ (s.dom d).delays + 1 → ∃ t, exec (.handshakeReply d (.delay us)) s = .next t ∧ OnlyChanges [.pwr, .ev] s t ∧
        t.dom d = { s.dom d with st := (s.dom d).prev, ap := 7, result := 2, reason := 7, abandon := none, waiting := false, delays := 0 }))) ∧
  (∀ (d : Nat) (s : State), (s.dom d).st = .entering → (s.dom d).waiting = true → ∃ t, exec (.handshakeDelayExpiry d) s = .next t ∧ OnlyChanges [.pwr] s t ∧
    t.dom d = { s.dom d with waiting := false }) ∧
  (∀ (d : Nat) (s : State), (s.dom d).st = .entering → (s.dom d).ap = 1 → (s.dom d).prev = .on →
    (s.quiesced d = true → (s.dom d).abandon = none → ∃ t, exec (.quiesceDone d) s = .next t ∧ OnlyChanges [.pwr] s t ∧ t.dom d = { s.dom d with ap := 2 }) ∧
    (s.quiesced d = false → exec (.quiesceDone d) s = .next s.closeAllPartial)) ∧
  (∀ (d : Nat) (s : State), (s.dom d).st = .entering → ((s.dom d).prev = .on ∧ (s.dom d).ap = 2) ∨ ((s.dom d).prev = .retention ∧ (s.dom d).ap = 1) →
    ((s.dom d).abandon = none → (s.dom d).target = .retention → ∃ t, exec (.domainEntryComplete d) s = .next t ∧ OnlyChanges [.pwr, .ev] s t ∧
      t.dom d = { s.dom d with st := .retention, ap := 7, result := 1, abandon := none }) ∧
    ((s.dom d).abandon = none → (s.dom d).target = .off → ∃ u : State, exec (.domainEntryComplete d) s = .next (u.loseDomain d) ∧ OnlyChanges [.pwr, .ev] s u ∧
      u.dom d = { s.dom d with st := .off, ap := 7, result := 1, abandon := none }) ∧
    (∀ w, (s.dom d).abandon = some w → ∃ t, exec (.domainEntryComplete d) s = .next t ∧ OnlyChanges [.pwr, .ev, .free] s t ∧
      (t.dom d).st = (if w ≠ 9 ∧ ((s.dom d).prev = .retention ∨ (s.dom d).prev = .off) then .returning else (s.dom d).prev) ∧
      (t.dom d).result = 3 ∧ (t.dom d).abandon = none))

/-- A return completes when every domain the returning one requires is on: the domain is on, and its return is reported. A failed return leaves it Off with a fatal event. A wake pin's level is held; a wake event of an enabled, asserted pin marks it pending and returns the domains it wakes, or restarts the device where it was dark. Forms shown to complete (exec answers a next state, under conditions on the state and the operands alone): domainReturnComplete, domainReturnFailed, wakePinChange, wakeEvent. -/
def Obligations.DomainReturns : Prop :=
  (∀ (d : Nat) (s : State), (s.dom d).st = .returning → (s.requires d).all s.isOn = true →
    exec (.domainReturnComplete d) s = .next (s.completeReturn d) ∧
    (∀ cause, ∃ t, exec (.domainReturnFailed d cause) s = .next t ∧ OnlyChanges [.pwr, .ev] s t ∧ t.dom d = { s.dom d with st := .off, ap := 7 })) ∧
  (∀ (d : Nat) (s : State), d ≠ 137 → (s.dom d).st = .returning → (s.requires d).all s.isOn = true → (s.dom d).prev = .retention →
    ∃ t, exec (.domainReturnComplete d) s = .next t ∧ OnlyChanges [.pwr, .ev] s t ∧ t.dom d = { s.dom d with st := .on, ap := 7 }) ∧
  (∀ (d : Nat) (s : State), (s.requires d).all s.isOn = false → ∀ cause, exec (.domainReturnComplete d) s = .next s ∧ exec (.domainReturnFailed d cause) s = .next s) ∧
  (∀ (pin : Nat) (level : Bool) (s : State), pin < 8 → ∃ t, exec (.wakePinChange pin level) s = .next t ∧ OnlyChanges [.pwr] s t ∧
    t.pwr.pins.testBit pin = level ∧ ∀ q, q ≠ pin → t.pwr.pins.testBit q = s.pwr.pins.testBit q) ∧
  (∀ (pin : Nat) (s u : State), pin < 8 → s.flag F.PWR_WAKE_CFG_EN pin = true → s.asserted pin = true →
    u = s.withPwr { s.pwr with pend := putBits s.pwr.pend pin pin 1 } →
    exec (.wakeEvent pin) s = .next ((if s.pwr.dark then (u.powerOff true).restart 1 else
        (u.wakeAll pin).foldl (fun s d => s.beginReturn d) ((u.wakeAll pin).foldl (fun s d => s.abandonEntry d pin) u)).raise (0x070 + pin) 0 0
      [(2, ((u.wakeAll pin).filter fun d => (u.dom d).st == .retention || (u.dom d).st == .off).length)]))

/-- A hard decode that succeeds is counted with its corrected bits, and the unit is checked; an erased page makes the read unreadable; a failure goes to the soft engine where soft decoding is enabled and an engine is left, and otherwise the ladder fails. A soft decode of a codeword an engine may hold leaves the queue; it succeeds, with its block reported and a reference calibration asked for, or the ladder fails. A decode of a read that is in another state changes nothing. Forms shown to complete (exec answers a next state, under conditions on the state and the operands alone): hardDecodeDone, softDecodeDone. -/
def Obligations.HardAndSoftDecoding : Prop :=
  (∀ (id : Nat) (res : DecodeRes) (u : UnitRead) (s : State), s.uread id = some u → u.st ≠ .hardDecoding → exec (.hardDecodeDone id res) s = .next s) ∧
  (∀ (id : Nat) (u : UnitRead) (s : State), s.uread id = some u → u.st = .hardDecoding →
    exec (.hardDecodeDone id .erased) s = .next ((s.countDdk (pkgOf u.die) 6 1).resolveRead id .unreadable) ∧
    (∀ c, ∃ v : State, v = (s.countDdk (pkgOf u.die) 0 1).countDdk (pkgOf u.die) 1 c ∧
      exec (.hardDecodeDone id (.ok c)) s = .next ((if s.fld F.DDK_THR_RECALBITS (pkgOf u.die) < c then v.recalRead u else v).decoded id)) ∧
    (s.flag F.DDK_CTL_SOFTEN (pkgOf u.die) = false → ∃ v : State, v = (s.countDdk (pkgOf u.die) 2 1).recalRead u ∧
      exec (.hardDecodeDone id .fail) s = .next (v.ladderFails id u false)) ∧
    (s.flag F.DDK_CTL_SOFTEN (pkgOf u.die) = true → u.soft = true → s.enginesLeft = [] → ∃ v : State, v = (s.countDdk (pkgOf u.die) 2 1).recalRead u ∧
      exec (.hardDecodeDone id .fail) s = .next (v.ladderFails id u true)) ∧
    (s.flag F.DDK_CTL_SOFTEN (pkgOf u.die) = true → u.soft = true → s.enginesLeft ≠ [] → ∃ t, exec (.hardDecodeDone id .fail) s = .next t ∧
      OnlyChanges [.ddk] s t ∧ id ∈ t.ddk.softQ ∧ t.uread id = some { u with hardFailed := true, st := .softQueued }) ∧
    (∀ w : State, s.flag F.DDK_CTL_SOFTEN (pkgOf u.die) = true → u.soft = false → w = (s.countDdk (pkgOf u.die) 2 1).recalRead u → (w.softTooLong u).2 = true →
      exec (.hardDecodeDone id .fail) s = .next ((w.softTooLong u).1.ladderFails id u true))) ∧
  (∀ (id : Nat) (u : UnitRead) (s v : State), s.uread id = some u → u.st = .softQueued → s.softRank id u < s.enginesOn.length →
    v = s.withDdk { s.ddk with softQ := s.ddk.softQ.filter fun q => q != id } →
    (∀ c, exec (.softDecodeDone id (.ok c)) s = .next (((((v.countDdk (pkgOf u.die) 3 1).recalRead u).reportBlock u.die u.block).countHealth u.nsix 0 1).decoded id)) ∧
    exec (.softDecodeDone id .fail) s = .next ((v.recalRead u).ladderFails id u false)) ∧
  (∀ (id : Nat) (res : DecodeRes) (u : UnitRead) (s : State), s.uread id = some u → u.st ≠ .softQueued ∨ s.enginesOn.length ≤ s.softRank id u →
    exec (.softDecodeDone id res) s = .next s)

/-- A calibration sample of a band that is to be sampled pins its block and queues the first page's read. One whose pages have been read (four, and for a sample that fits the soft parameters three soft reads more) and decoded moves the 15 offsets by their counts, stores the error rate and time, releases the block, and every fourth sample fits the soft parameters; one that failed, or whose block has changed, is dropped. An hour's tick adds each die's effective hours. A faulty soft engine is out of use, and with the last one gone every queued codeword's ladder fails. A link's read counters clear. Forms shown to complete (exec answers a next state, under conditions on the state and the operands alone): effectiveHoursTick, calibrationSampleStart, calibrationSampleEnd, ddkCounterClear, softEngineFault. -/
def Obligations.CalibrationAndEngines : Prop :=
  (∀ (die w k r block grp : Nat) (s : State), w < 16 → k < 8 → r < 4 → s.flag F.DDK_CTL_CALEN (pkgOf die) = true →
    s.ddk.calib.get? (pkgOf die) = none → (s.descOf die).isSome = true → s.dieFailed die = false → s.calCandidate (bandKey die w k r) = true →
    s.canSample die w k r block grp = true → s.hld.flush = .none →
    ∃ t, exec (.calibrationSampleStart die w k r block grp) s = .next t ∧ OnlyChanges [.ddk, .sch, .med] s t ∧
      t.ddk.calib.get? (pkgOf die) = some { die := die, band := bandKey die w k r, block := block, grp := grp, pages := 0 } ∧
      (t.blk die block).pin = true ∧ (t.sdie die).q2 = (s.sdie die).q2 ++ [{ kind := .calRead block grp 0 none, cls := 2, arrive := s.ao.time, maint := true }]) ∧
  (∀ (n : Nat) (ok : Bool) (counts : List CalCount) (errs : Nat) (n0 n1 : List Nat) (c : Calib) (s : State), s.ddk.calib.get? n = some c → s.sampleReads c.band ≤ c.pages →
    (ok = false ∨ (s.blk c.die c.block).st ≠ .bound ∨ (s.blk c.die c.block).wbin ≠ c.band % 512 / 4 % 8 ∨ s.retentionBin c.die c.block ≠ c.band % 4 →
      exec (.calibrationSampleEnd n ok counts errs n0 n1) s = .next (s.dropSample n)) ∧
    (ok = true → (s.blk c.die c.block).st = .bound → (s.blk c.die c.block).wbin = c.band % 512 / 4 % 8 → s.retentionBin c.die c.block = c.band % 4 →
      ∃ t, exec (.calibrationSampleEnd n ok counts errs n0 n1) s = .next t ∧ OnlyChanges [.ddk, .med, .ev, .free] s t ∧ t.ddk.calib.get? n = none ∧
        (t.blk c.die c.block).pin = false ∧ (t.band c.band).valid = true ∧ (t.band c.band).recal = false ∧
        (t.band c.band).off = ((List.range 15).map fun i => newOffset (nth (s.band c.band).off i 0) (nth counts i ⟨0, 0⟩) (s.fld F.DDK_CAL_STEP n)) ∧
        ((s.ddk.samples.getD c.band 0 + 1) % 4 ≠ 0 → (t.band c.band).gain = (s.band c.band).gain ∧ (t.band c.band).soffs = (s.band c.band).soffs))) ∧
  (∀ s : State, ∃ u : State, OnlyChanges [.ddk] s u ∧ exec .effectiveHoursTick s =
    .next (((List.range 32).flatMap fun n => (List.range 64).filterMap fun d => if (s.link n).dies.testBit d then some (64 * n + d) else none).foldl (fun s d => s.retentionCheck d) u)) ∧
  (∀ (e : Nat) (s : State), e < 8 → s.ddk.engFault.contains e = false →
    (∀ f, f ∈ s.enginesLeft → f ≠ e → ∃ t, exec (.softEngineFault e) s = .next t ∧ OnlyChanges [.ddk, .ev, .free] s t ∧
      t.ddk.engFault = s.ddk.engFault ++ [e] ∧ t.ddk.softQ = s.ddk.softQ) ∧
    ((∀ f < 8, f = e ∨ f ∈ s.ddk.engFault) → ∃ u : State, OnlyChanges [.ddk, .ev, .free] s u ∧ u.ddk.softQ = [] ∧ u.ddk.engFault = s.ddk.engFault ++ [e] ∧
      exec (.softEngineFault e) s = .next (s.ddk.softQ.foldl (fun s rid => match s.uread rid with
        | some u => s.ladderFails rid u true
        | none => s) u))) ∧
  (∀ (e : Nat) (s : State), s.ddk.engFault.contains e = true → exec (.softEngineFault e) s = .next s) ∧
  (∀ (a : Agent) (n : Nat) (s : State), exec (.ddkCounterClear a n) s = .next (s.withDdk { s.ddk with cnt := s.ddk.cnt.filter fun e => e.1 / 16 != n }))

/-- The first releasable entry of the erase queue joins its die's media writes. A checkpoint that may start takes its cut and writes its start record, a timed one only when due; one that is complete becomes the done checkpoint, is reported, the sets of the one before it are queued for erase, and the journal is trimmed. Garbage collection of a die set settles its mode, then erases a victim with nothing valid or copies a victim's valid units where sequence numbers are ready. The copies of a relocation whose stripes have closed are committed; a relocation with no copies left and durable records has its source erased. The patrol reads the next group of a bound block and steps on. A minute's temperature is taken for the device and for every tenant with a die set. During a flush none of the media work runs. Forms shown to complete (exec answers a next state, under conditions on the state and the operands alone): eraseRelease, checkpointTimer, checkpointStart, checkpointComplete, gcVictimSelect, relocationCommit, patrolVisit, temperatureMinuteTick. -/
def Obligations.MediaHousekeeping : Prop :=
  (∀ (x : Nat × Nat) (s : State), s.hld.flush = .none → s.med.erq.find? s.releasable = some x → ∃ t, exec .eraseRelease s = .next t ∧ OnlyChanges [.med, .sch] s t ∧
    t.med.erq = (s.med.erq.filter fun y => y != x) ∧ (t.sdie x.1).mw = (s.sdie x.1).mw ++
      [{ kind := .erase x.2 false, cls := 2, arrive := s.ao.time, maint := decide ((s.sdie x.1).maintNs < s.maintLimit) }]) ∧
  (∀ (kind : Nat) (s : State),
    (s.ckMay 1 = true → exec .checkpointTimer s = .next (s.cutCkpt 1)) ∧
    (s.ckMay kind = true → s.ckDue kind = true → exec (.checkpointStart kind) s = .next (s.cutCkpt kind)) ∧
    ((kind = 1 ∨ kind = 2) → (s.ck kind).active = true → s.hld.flush = .none → ∃ u : State, OnlyChanges [.med, .ev] s u ∧
      (u.ck kind).active = false ∧ (u.ck kind).doneSeq = (s.ck kind).seq ∧ (u.ck kind).doneRec = (s.ck kind).cutRec ∧ (u.ck kind).done = (s.ck kind).cut ∧
      (u.ck kind).doneSets = (s.ck kind).sets ∧
      exec (.checkpointComplete kind) s = .next (let w := (u.dropCkSets (s.ck kind).doneSets).trimJournal; if w.jnl.saveOwed then w.saveCopyPkg else w))) ∧
  (∀ (ds : Nat) (s : State), s.hld.flush = .none → s.logHeld = false →
    ((s.gcMode ds).gcVictim ds = none → exec (.gcVictimSelect ds) s = .next (s.gcMode ds)) ∧
    (∀ setid r, (s.gcMode ds).gcVictim ds = some (setid, r, 0) → 
      exec (.gcVictimSelect ds) s = .next (((s.gcMode ds).countClean setid).eraseSuper setid)) ∧
    (∀ setid r v, (s.gcMode ds).gcVictim ds = some (setid, r, v) → 0 < v → (s.gcMode ds).csnReady (v + 8) = true →
      exec (.gcVictimSelect ds) s = .next ((s.gcMode ds).startRelocation setid r))) ∧
  (∀ (setid : Nat) (r : Reloc) (s : State), s.med.relocs.find? (fun r => r.setid == setid) = some r → s.hld.flush = .none → (s.set? setid).isSome = true →
    (r.copies ≠ [] → s.csnReady ((r.copies.filter fun c => (s.str.dram.get? c.key).isNone).length + 8) = true →
      exec (.relocationCommit setid) s = .next (s.commitCopies setid r (r.copies.filter fun c => (s.str.dram.get? c.key).isNone))) ∧
    (r.copies = [] → r.recs.all s.durable = true → s.validOf setid = 0 → exec (.relocationCommit setid) s = .next (s.eraseSuper setid))) ∧
  (∀ (die block : Nat) (r : SetRec) (s : State), s.set? (s.blk die block).setid = some r → (s.blk die block).st = .bound → s.dieFailed die = false →
    s.hld.flush = .none → ∃ u : State, OnlyChanges [.med] s u ∧
      (((List.range 1024).all fun g => !(s.med.patrol.getD (blkKey die block) 0 < g && !(s.closedRows (s.blk die block).setid r (s.blk die block).member g).isEmpty)) = true →
        u.med.patrol.get? (blkKey die block) = some 0) ∧
      exec (.patrolVisit die block (s.med.patrol.getD (blkKey die block) 0)) s =
        .next ((s.closedRows (s.blk die block).setid r (s.blk die block).member (s.med.patrol.getD (blkKey die block) 0)).foldl
          (fun s' row => s'.maintRead (s.blk die block).setid r (s.blk die block).member row none false) u)) ∧
  (∀ s : State, ∃ t, exec .temperatureMinuteTick s = .next t ∧ OnlyChanges [.med] s t) ∧
  (∀ (die block grp kind ds : Nat) (s : State), s.hld.flush ≠ .none → ∀ c ∈ [Instr.eraseRelease, .checkpointTimer, .checkpointStart kind, .checkpointComplete kind,
    .gcVictimSelect ds, .patrolVisit die block grp], exec c s = .next s)

/-- A stray write is discarded whole, its 64-byte blocks are counted and the ring's event is raised. A write that is not of whole 64-byte blocks faults the ring with cause 2, and one that lands on a block that has arrived already with cause 1; any other is held until it is contiguous, when it is parsed. The units of a ring are given sequence numbers and accepted in order when they may be. An armed ring with space below its limit that has stalled takes a fault with blocks out of order outstanding, a truncation marker in the middle of a record, or a padding marker else. Forms shown to complete (exec answers a next state, under conditions on the state and the operands alone): captureWindowWrite, captureUnitAccept, stallTimeout. -/
def Obligations.CaptureWrites : Prop :=
  (∀ (pf off rid n o : Nat) (bytes : List Byte) (s : State), n = off / 2 ^ 28 → o = off % 2 ^ 28 → n < 64 → 0 < bytes.length → s.hld.flush = .none →
    (s.strayWrite pf n o rid bytes.length = true → ∃ t, exec (.captureWindowWrite pf off rid bytes) s = .next t ∧ OnlyChanges [.cap, .ev] s t ∧
      t.capRing n = { s.capRing n with discard := sat 16 ((s.capRing n).discard + ceilDiv bytes.length 64) }) ∧
    (s.strayWrite pf n o rid bytes.length = false → o % 64 ≠ 0 ∨ bytes.length % 64 ≠ 0 → exec (.captureWindowWrite pf off rid bytes) s = .next (s.faultRing n 2)) ∧
    (∀ bs, s.strayWrite pf n o rid bytes.length = false → o % 64 = 0 → bytes.length % 64 = 0 →
      bs = ringBlocks (s.capRing n).crlim (o - aperture) (bytes.length / 64) bytes →
      ((bs.any fun b => b.1 < (s.capRing n).arrived + 2 ^ 27 || ((s.capRing n).blocks.get? ((b.1 - 2 ^ 27) / 64)).isSome) = true →
        exec (.captureWindowWrite pf off rid bytes) s = .next (s.faultRing n 1)) ∧
      ((bs.any fun b => b.1 < (s.capRing n).arrived + 2 ^ 27 || ((s.capRing n).blocks.get? ((b.1 - 2 ^ 27) / 64)).isSome) = false →
        ∃ u : State, OnlyChanges [.cap] s u ∧
          u.capRing n = { s.capRing n with blocks := bs.foldl (fun (m : AMap (BitVec 512)) b => m.ins ((b.1 - 2 ^ 27) / 64) b.2) (s.capRing n).blocks } ∧
          exec (.captureWindowWrite pf off rid bytes) s = .next (u.feedRing n ((u.capRing n).blocks.length + 1))))) ∧
  (∀ (n : Nat) (s : State), n < 64 → s.hld.flush = .none → s.csnReady 2 = true →
    (∀ u csn rest z, (s.capRing n).inflight = (u, csn) :: rest → s.zone? u.entry = some z →
      (s.capReady csn (s.nsOwner z.nsix) u.closes = true → exec (.captureUnitAccept n) s = .next (s.capAccept n (s.capRing n) u csn rest u.entry)) ∧
      (s.capReady csn (s.nsOwner z.nsix) u.closes = false → exec (.captureUnitAccept n) s = .next (s.capNext n (s.capRing n)))) ∧
    ((s.capRing n).inflight = [] → exec (.captureUnitAccept n) s = .next (s.capNext n (s.capRing n))) ∧
    (∀ v vs z, (s.capRing n).units = v :: vs → s.zone? v.entry = some z →
      s.capNext n (s.capRing n) = s.capTakeCsn n (s.capRing n) v vs v.entry z.nsix)) ∧
  (∀ (n : Nat) (s : State), n < 64 → (s.capRing n).st = .armed → (s.capRing n).arrived < (s.capRing n).crlim → s.host.paused = false → s.hld.flush = .none →
    ((s.capRing n).blocks ≠ [] → (s.capRing n).inRec = true ∨ (s.capRing n).cur ≠ [] → exec (.stallTimeout n) s = .next (s.faultRing n 5)) ∧
    ((s.capRing n).blocks = [] → (s.capRing n).inRec = true → (s.capRing n).truncated = true → exec (.stallTimeout n) s = .next s) ∧
    ((s.capRing n).blocks = [] → (s.capRing n).inRec = true → (s.capRing n).truncated = false →
      ∃ u : State, u = s.putMarker n ⟨2, 1, (s.capRing n).arrived, (s.capRing n).lastSeq,
          min (s.capRing n).recLen ((s.capRing n).arrived - (s.capRing n).recStart - 64), (s.capRing n).recLen⟩ ∧
        exec (.stallTimeout n) s = .next (((u.setCapRing n fun r => { r with truncated := true, trunc := sat 16 (r.trunc + 1) }).settleZone n).raiseRingEv n 1 1
          [(8, (s.capRing n).lastSeq), (8, (s.capRing n).arrived)])) ∧
    ((s.capRing n).blocks = [] → (s.capRing n).inRec = false → (s.capRing n).cur ≠ [] →
      exec (.stallTimeout n) s = .next ((s.putMarker n ⟨4, 0, (s.capRing n).arrived, (s.capRing n).seqNow, 0, 0⟩).settleZone n)))

/-- Arming a ring that may be armed starts a new arming: its number steps on, its counts of records and losses stand, and a new transit key is drawn; a ring that may not be armed keeps its state and shows the error. A span of credit is asked of pool 5 behind the requests that go before it; granted, it lends the ring a granule and moves its limit by 1 MiB, and else the request waits. A zone that may not be pushed leaves only an error code. A release drains the ring; once its units are stored the end marker goes into the stream, and then the ring's release ends. The counts clear. Forms shown to complete (exec answers a next state, under conditions on the state and the operands alone): creditSpanGrant, zoneQueuePush, ringArm, ringRelease, releaseComplete, captureCountClear. -/
def Obligations.CaptureRings : Prop :=
  (∀ (a : Agent) (n : Nat) (s : State), n < 64 →
    (s.armCheck n ≠ 0 → ∃ t, exec (.ringArm a n) s = .next t ∧ OnlyChanges [.cap] s t ∧ t.capRing n = { s.capRing n with err := s.armCheck n }) ∧
    (s.armCheck n = 0 → ∃ u : State, OnlyChanges [.cap, .sec, .free] s u ∧ (u.capRing n).st = .armed ∧ (u.capRing n).armId = ((s.capRing n).armId + 1) % 2 ^ 32 ∧
      (u.capRing n).zq = (s.capRing n).zq ∧ (u.capRing n).records = (s.capRing n).records ∧ (u.capRing n).arrived = 0 ∧ (u.capRing n).crlim = 0 ∧
      (u.capRing n).blocks = [] ∧ u.sec.transit.get? n = some (s.drawOctets 64) ∧
      exec (.ringArm a n) s = .next ((u.startZone n (2 ^ 64 - 1)).checkLow n))) ∧
  (∀ (n : Nat) (s w : State), n < 64 → s.spanOpen n = true → s.bpm.waits.contains (spanRequest n) = false → w = s.askBuffers (ownerRing n) (.span n) [5] →
    (∀ g, w.topGranule 5 = some g → w.nextRequest 5 = some (spanRequest n) → ∃ u : State, exec (.creditSpanGrant n) s = .next (u.pushCredit n) ∧
      OnlyChanges [.cap] ((w.withBpm { w.bpm with waits := removeFirst (spanRequest n) w.bpm.waits }).lend 5 g (ownerRing n)) u ∧
      u.capRing n = { s.capRing n with spans := (s.capRing n).spans ++ [((s.capRing n).crlim / mib, g)], crlim := (s.capRing n).crlim + mib }) ∧
    (w.topGranule 5 = none ∨ w.nextRequest 5 ≠ some (spanRequest n) → exec (.creditSpanGrant n) s = .next w)) ∧
  (∀ (a : Agent) (n v : Nat) (s : State), n < 64 →
    exec (.zoneQueuePush a n v) s = .next (s.pushZone n (v % 2 ^ 20)) ∧
    (∀ e, s.pushCheck (s.capRing n) (s.fld F.CAP_NS_NSID n) (v % 2 ^ 20) = .error e → ∃ t, exec (.zoneQueuePush a n v) s = .next t ∧ OnlyChanges [.cap] s t ∧
      t.capRing n = { s.capRing n with err := e })) ∧
  (∀ (a : Agent) (n : Nat) (s : State), n < 64 → exec (.captureCountClear a n) s = .next (s.writeCapCtl n 4) ∧
    exec (.ringRelease a n) s = .next (s.releaseRing n 2)) ∧
  (∀ (n : Nat) (s : State), n < 64 → (s.capRing n).st = .draining → (s.capRing n).units = [] → (s.capRing n).inflight = [] → s.hld.flush = .none →
    ((s.capRing n).ended = true ∨ (s.streamRoom (s.capRing n) = false ∧ (s.capRing n).cur = []) → exec (.releaseComplete n) s = .next (s.endRelease n)) ∧
    ((s.capRing n).ended = false → s.streamRoom (s.capRing n) = true → exec (.releaseComplete n) s =
      .next ((s.setCapRing n fun r => { r with ended := true }).putMarker n ⟨5, (s.capRing n).release, (s.capRing n).ack, (s.capRing n).seqNow, (s.capRing n).recArm, 0⟩)))

/-- The auxiliary supply's arrival takes the straps; its loss cuts the power (with it a flash program in progress), or starts a flush with cause 3 while VIN stands. The isolation switch comes on with it, and VIN in range then restarts the device: stage 1, a new event epoch, every domain on. A stage that completes is followed by the next, and a stage that may fail enters recovery mode, which is reported with the stage and the cause; no stage completes in recovery mode or once start-up is complete, nor the link stage while a link trains. Forms shown to complete (exec answers a next state, under conditions on the state and the operands alone): vauxPorEnd, vauxLoss, isolationSwitchOn, vinInRange, startupStageComplete. -/
def Obligations.SuppliesAndStages : Prop :=
  (∀ (b m d : Bool) (s : State),
    (s.brd.vaux = false → exec (.vauxPorEnd b m d) s =
      .next ((s.withBrd { s.brd with vaux := true, mgmtSel := m, dbgen := d }).withAo { s.ao with bifur := b })) ∧
    (s.brd.vaux = true → exec (.vauxPorEnd b m d) s = .next s)) ∧
  (∀ s u : State, u = s.withBrd { s.brd with vaux := false } → s.brd.vaux = true →
    (s.brd.vin = true → exec .vauxLoss s = .next ((u.withBoot { u.boot with vauxLost := true }).startFlush 3)) ∧
    (s.brd.vin = false → ∃ t, exec .vauxLoss s = .next t ∧ t.boot.stage = 0 ∧ t.boot.rtype = 1 ∧ t.boot.nor = u.cutProgram.boot.nor ∧ (s.boot.op = none → t.boot.nor = s.boot.nor) ∧ t.med.flash = s.med.flash ∧
      t.brd.vaux = false ∧ t.ao = AlwaysOn.reset ∧ t.host.cmds = [])) ∧
  (∀ s : State, s.brd.vaux = true → s.hld.flush = .none →
    (s.brd.iso = false → s.brd.tripped = false → exec .isolationSwitchOn s = .next (s.withBrd { s.brd with vsys := true, iso := true })) ∧
    (s.brd.iso = true → s.boot.stage = 0 → ∃ t, exec .vinInRange s = .next t ∧ t.brd.vin = true ∧ t.boot.stage = 1 ∧ t.boot.rtype = s.boot.rtype ∧
      t.ev.epoch = min (s.ev.epoch + 1) 0x3FFFF ∧ t.ev.count = 0 ∧ t.med = s.med ∧ t.jnl = s.jnl)) ∧
  (∀ (cause : Nat) (s : State), 1 ≤ s.boot.stage → s.boot.stage ≤ 8 → s.boot.recov = false → (s.boot.stage = 6 → s.linksTraining = false) →
    (s.endStage.2 = true → ∃ t, exec (.startupStageComplete .ok) s = .next t ∧
      (s.boot.stage < 8 → t = s.endStage.1.withBoot { s.endStage.1.boot with stage := s.boot.stage + 1 }) ∧ (s.boot.stage = 8 → t = s.endStage.1)) ∧
    (s.endStage.2 = false → exec (.startupStageComplete .ok) s = .next (s.endStage.1.drew.recoveryMode s.endStage.1.diagCode)) ∧
    (s.boot.stage = 2 ∨ s.boot.stage = 3 ∨ s.boot.stage = 5 ∨ s.boot.stage = 7 → ∃ t, exec (.startupStageComplete (.fail cause)) s = .next t ∧ t.boot.recov = true ∧
      t.host.pf0Only = true ∧ t.host.portA.train = true ∧ t.boot.stage = s.boot.stage ∧ t.boot.nor = s.boot.nor ∧ t.med = s.med)) ∧
  (∀ (res : StageRes) (s : State), s.boot.recov = true ∨ s.boot.stage = 0 ∨ 9 ≤ s.boot.stage ∨ (s.boot.stage = 6 ∧ s.linksTraining = true) →
    exec (.startupStageComplete res) s = .next s)

/-- A temperature sample sets the warning and critical levels by the part's limits and reports each level when it is first reached. At the trip limit the trip pin is driven, the isolation switch opens and a flush starts with cause 7; once cooled by more than 10 degrees below critical the trip no longer holds the supply off. The first use of an enabled test access port is reported. A crystal fault is reported as fatal. A watchdog expiry records the core and cause, resets every controller and starts a flush with cause 5. A core's read of the busy bank is its fault. A reboot, with its key and in recovery mode, restarts the device with type 8. Forms shown to complete (exec answers a next state, under conditions on the state and the operands alone): coreReadBusyBank, reboot, watchdogExpiry, junctionTempSample, thermalTrip, thermalCooldown, testAccessPortAccess, crystalFault. -/
def Obligations.BoardEvents : Prop :=
  (∀ (t w c l : Int) (s : State), s.tempLimits = (w, c, l) → ∃ u, exec (.junctionTempSample t) s = .next u ∧ OnlyChanges [.brd, .ev] s u ∧
    u.brd = { s.brd with temp := t, warn := decide (w ≤ t), crit := decide (c ≤ t) } ∧
    ((w ≤ t → s.brd.warn = true) → (c ≤ t → s.brd.crit = true) → u.ev = s.ev)) ∧
  (∀ (w c l : Int) (s : State), s.tempLimits = (w, c, l) →
    (l ≤ s.brd.temp → s.brd.tripped = false → exec .thermalTrip s =
      .next ((s.withBrd { s.brd with thermtripN := true, iso := false, tripped := true }).startFlush 7)) ∧
    (s.brd.temp < l → exec .thermalTrip s = .next s) ∧
    (s.brd.tripped = true → s.brd.temp < c - 10 → s.hld.flush = .none → exec .thermalCooldown s =
      .next (s.withBrd { s.brd with tripped := false })) ∧
    (c - 10 ≤ s.brd.temp → exec .thermalCooldown s = .next s)) ∧
  (∀ (addr len : Nat) (s : State),
    (s.brd.dbgen = true → s.brd.dbg2 = false → exec (.testAccessPortAccess addr len) s = .next ((s.withBrd { s.brd with dbg2 := true }).raise 0x007 0 1 [(1, 2)])) ∧
    (s.brd.dbgen = false ∨ s.brd.dbg2 = true → exec (.testAccessPortAccess addr len) s = .next s)) ∧
  (∀ (cause : Nat) (s : State), exec (.crystalFault cause) s = .next ((s.withBrd { s.brd with crystal := true }).raise 0x006 0 3 [(1, cause)])) ∧
  (∀ (core cause : Nat) (s : State), core < 16 → 1 ≤ s.boot.stage →
    exec (.watchdogExpiry core cause) s = .next ((s.withBoot { s.boot with wdog := some (core, cause) }).resetAll.startFlush 5)) ∧
  (∀ (core addr : Nat) (s : State), core < 16 →
    (s.bankBusy addr = true → ∃ t, exec (.coreReadBusyBank core addr) s = .next t ∧ OnlyChanges [.boot, .ev, .free] s t ∧ t.boot.fault = some addr ∧
      t.boot.faultValid = true ∧ t.boot.nor = s.boot.nor) ∧
    (s.bankBusy addr = false → exec (.coreReadBusyBank core addr) s = .next s)) ∧
  (∀ (a : Agent) (key : Nat) (s : State), s.fwsMay a = true →
    (key % 256 = 0xB0 → s.boot.recov = true → exec (.reboot a key) s = .next ((s.powerOff true).restart 8)) ∧
    (key % 256 ≠ 0xB0 ∨ s.boot.recov = false → exec (.reboot a key) s = .next s))

/-- A command word with GO and its operation is taken by its row, and by no other. A program that completes clears the bits the buffer asks for and no byte outside its range changes; one that fails or runs out of time only ever clears bits, each at the device's choice. An erase that completes leaves every byte of its 64 KiB sector FFH and no other byte changed, and ends the sector's pending flag. A failed erase shows result 5, an expired one result 4, and changes no byte. Forms shown to complete (exec answers a next state, under conditions on the state and the operands alone): fwsProgram, fwsErase, fwsRead, fwsOperationDone, fwsOperationTimeout. -/
def Obligations.FirmwareStore : Prop :=
  (∀ (a : Agent) (v : Nat) (s : State), v.testBit 31 = true →
    (bits v 30 28 = 0 → exec (.fwsProgram a v) s = .next (s.writeFwsCmd a v) ∧ exec (.fwsErase a v) s = .next s ∧ exec (.fwsRead a v) s = .next s) ∧
    (bits v 30 28 = 1 → exec (.fwsErase a v) s = .next (s.writeFwsCmd a v) ∧ exec (.fwsProgram a v) s = .next s ∧ exec (.fwsRead a v) s = .next s) ∧
    (bits v 30 28 = 2 → exec (.fwsRead a v) s = .next (s.writeFwsCmd a v) ∧ exec (.fwsProgram a v) s = .next s ∧ exec (.fwsErase a v) s = .next s)) ∧
  (∀ (o : FwsOp) (s : State), s.boot.op = some o → o.op = 0 → s.memWf = true →
    (∃ t, exec (.fwsOperationDone true) s = .next t ∧ OnlyChanges [.boot, .stores] s t ∧ t.boot.op = none ∧ t.boot.result = 0 ∧
      (∀ i, i < o.len → i < 256 → Mem.read 0xFF t.boot.nor (o.addr + i) = Mem.read 0xFF s.boot.nor (o.addr + i) &&& nth (s.fwsBuf) i 0) ∧
      (∀ x, x < o.addr ∨ o.addr + o.len ≤ x → Mem.read 0xFF t.boot.nor x = Mem.read 0xFF s.boot.nor x)) ∧
    (∀ c ∈ [Instr.fwsOperationDone false, .fwsOperationTimeout], ∃ t, exec c s = .next t ∧ OnlyChanges [.boot, .stores, .free] s t ∧ t.boot.op = none ∧
      t.boot.result = (if c = .fwsOperationTimeout then 4 else 0) ∧
      (∀ x, Mem.read 0xFF t.boot.nor x = Mem.read 0xFF t.boot.nor x &&& Mem.read 0xFF s.boot.nor x) ∧
      (∀ x, x < o.addr ∨ o.addr + o.len ≤ x → Mem.read 0xFF t.boot.nor x = Mem.read 0xFF s.boot.nor x))) ∧
  (∀ (o : FwsOp) (s : State), s.boot.op = some o → o.op ≠ 0 → s.memWf = true →
    (∃ t, exec (.fwsOperationDone true) s = .next t ∧ OnlyChanges [.boot, .stores] s t ∧ t.boot.op = none ∧ t.boot.result = 0 ∧
      (∀ x, Mem.read 0xFF t.boot.nor x = if x / 65536 = o.addr / 65536 then 0xFF else Mem.read 0xFF s.boot.nor x) ∧
      t.boot.pending = s.boot.pending.filter (fun x => decide (x ≠ o.addr / 65536 % 4096))) ∧
    (∃ t, exec (.fwsOperationDone false) s = .next t ∧ OnlyChanges [.boot] s t ∧ t.boot.op = none ∧ t.boot.result = 5 ∧ t.boot.nor = s.boot.nor) ∧
    (∃ t, exec .fwsOperationTimeout s = .next t ∧ OnlyChanges [.boot] s t ∧ t.boot.op = none ∧ t.boot.result = 4 ∧ t.boot.nor = s.boot.nor))

/-- A download within the slot size and the transfer limit stores its data at its offset of the downloaded image, and any other fails as an invalid field. A commit with an action beyond 3, an invalid slot, or nothing downloaded fails with its own status. One that stores and whose slot is sound succeeds at once with action 0, waits for a subsystem reset with actions 1 and 2, and with action 3 begins a hot activation, which pauses command fetch. The activation loads once the cores are idle, or ends prohibited at its time limit; it adopts the image when it has loaded and ends with success when the new image runs. Forms shown to complete (exec answers a next state, under conditions on the state and the operands alone): firmwareCommit, firmwareImageDownload, hotActivationQuiesced, hotActivationTimeout, activationImageLoaded, activationComplete. -/
def Obligations.FirmwareCommands : Prop :=
  (∀ (r : CmdRef) (c : Cmd) (s : State), s.mayRun r c true 0x11 →
    (4 * c.sqe.cdw11 + 4 * (c.sqe.cdw10 + 1) ≤ slotSize → 4 * (c.sqe.cdw10 + 1) ≤ 2097152 → ∃ u : State, exec (.firmwareImageDownload r) s = .next (u.complete c .success) ∧
      OnlyChanges [.boot, .stores] s u ∧ u.boot.nor = s.boot.nor ∧
      u.boot.image = Mem.writeBytes 0 s.boot.image (4 * c.sqe.cdw11) (c.sqe.data.take (4 * (c.sqe.cdw10 + 1))) ∧
      u.boot.imageLen = max s.boot.imageLen (4 * c.sqe.cdw11 + 4 * (c.sqe.cdw10 + 1))) ∧
    (slotSize < 4 * c.sqe.cdw11 + 4 * (c.sqe.cdw10 + 1) ∨ 2097152 < 4 * (c.sqe.cdw10 + 1) → exec (.firmwareImageDownload r) s = .next (s.complete c .invalidField))) ∧
  (∀ (r : CmdRef) (c : Cmd) (slot : Nat) (s : State), s.mayRun r c true 0x10 → s.boot.act = none → s.boot.op = none →
    slot = (if bits c.sqe.cdw10 2 0 = 0 then otherSlot s.boot.run else bits c.sqe.cdw10 2 0) →
    (3 < bits c.sqe.cdw10 5 3 → exec (.firmwareCommit r) s = .next (s.complete c .invalidField)) ∧
    (bits c.sqe.cdw10 5 3 ≤ 3 → 2 < slot ∨ (bits c.sqe.cdw10 5 3 < 2 ∧ slot = s.boot.run) → exec (.firmwareCommit r) s = .next (s.complete c .invalidFwSlot)) ∧
    (bits c.sqe.cdw10 5 3 < 2 → slot ≤ 2 → slot ≠ s.boot.run → s.boot.imageLen = 0 → exec (.firmwareCommit r) s = .next (s.complete c .invalidFwImage)) ∧
    (bits c.sqe.cdw10 5 3 < 2 → slot ≤ 2 → slot ≠ s.boot.run → s.boot.imageLen ≠ 0 →
      (∀ i, (s.writeSlot slot).checkSlot slot = .ok i → exec (.firmwareCommit r) s = .next (if bits c.sqe.cdw10 5 3 = 0 then (s.writeSlot slot).complete c .success
        else ((s.writeSlot slot).appendBoot slot 1).complete c .fwNeedsSubsysReset)) ∧
      (∀ k, (s.writeSlot slot).checkSlot slot = k → k.info? = none → exec (.firmwareCommit r) s = .next ((s.writeSlot slot).commitFails c slot k))) ∧
    (∀ i, 2 ≤ bits c.sqe.cdw10 5 3 → bits c.sqe.cdw10 5 3 ≤ 3 → slot ≤ 2 → s.checkSlot slot = .ok i →
      exec (.firmwareCommit r) s = .next (if bits c.sqe.cdw10 5 3 = 2 then (s.appendBoot slot 1).complete c .fwNeedsSubsysReset
        else if s.otherLayout then s.drew.complete c .fwNeedsSubsysReset else s.drew.activate c slot i.build))) ∧
  (∀ (a : Activation) (s : State), s.boot.act = some a →
    (a.phase = .quiescing → s.coresIdle a = true → exec .hotActivationQuiesced s = .next ((s.appendBoot a.slot 2).actPhase a .loading)) ∧
    (a.phase = .quiescing → exec .hotActivationTimeout s = .next (s.endActivation a .fwProhibited)) ∧
    (a.phase = .loading → exec (.activationImageLoaded true) s = .next (s.actPhase a .adopting) ∧
      exec (.activationImageLoaded false) s = .next (s.endActivation a .invalidFwImage)) ∧
    (∀ pause, a.phase = .adopting → exec (.activationComplete true pause) s = .next ((s.adoptImage a.slot pause).endActivation a .success)))

/-- The arrival of the next record of a source numbers it with the next event sequence number, which then steps on by one while the epoch has not reached its end, and leaves the other records in order; while a record that caused it still waits, it does not arrive. It is held for each ring it is routed to, or counted as lost where 256 are held. A ring that is open and holds a record writes the first of them at its tail, then the tail; the tail steps on round the ring, the record leaves the hold, and its interrupt is counted. The ring is disabled with cause 1 where its function is no bus master, 2 where it is not live, and 3 on a write error. Head writes and configuration are stored; a ring that is enabled starts empty. The interrupt timer sends the interrupt for records not signalled yet. Forms shown to complete (exec answers a next state, under conditions on the state and the operands alone): eventRecordArrival, eventRingWrite, eventHeadWrite, eventRingConfig, eventInterruptTimer. -/
def Obligations.EventRecordsAndRings : Prop :=
  ((∀ (src : Nat) (e : EvRec) (rest : List EvRec) (s : State), takeFirst (fun e : EvRec => e.src == src) s.ev.pend = some (e, rest) → e.tenant = none → s.ev.causesOf src = [] →
    s.ev.epoch < 0x3FFFF → s.ev.count < 2 ^ 30 → ∃ t, exec (.eventRecordArrival src) s = .next t ∧ OnlyChanges [.ev] s t ∧ t.ev.pend = rest ∧
      t.ev.nextEsn = s.ev.nextEsn + 1 ∧ t.ev.esns.get? e.tag = some s.ev.nextEsn ∧
      ∀ k < 2, s.passes k e = true → e.except ≠ some k →
        ((s.ring k).hold.length < holdSize → (t.ring k).hold = (s.ring k).hold ++ [⟨s.ev.nextEsn, e.src, e.code, e.sev, e.time, e.pay⟩]) ∧
        (holdSize ≤ (s.ring k).hold.length → (t.ring k).hold = (s.ring k).hold ∧ (t.ring k).lost = (s.ring k).lost + 1)) ∧
  (∀ (src : Nat) (s : State), (∀ e ∈ s.ev.pend, e.src ≠ src) ∨ s.ev.causesOf src ≠ [] → exec (.eventRecordArrival src) s = .next s)) ∧
  ((∀ (k : Nat) (e : EvOut) (rest : List EvOut) (s : State), k < 2 → s.ringOpen k = true → (s.ring k).hold = e :: rest →
    (∀ err cause, s.ringCause k err = some cause → exec (.eventRingWrite k err) s = .next (s.disableRing k cause)) ∧
    ((s.fn (s.fld F.EVT_CFG_PF k)).bme = false → s.ringCause k false = some 1) ∧
    ((s.fn (s.fld F.EVT_CFG_PF k)).bme = true → s.fnLive (s.fld F.EVT_CFG_PF k) = false → s.ringCause k false = some 2) ∧
    ((s.fn (s.fld F.EVT_CFG_PF k)).bme = true → s.fnLive (s.fld F.EVT_CFG_PF k) = true → s.ringCause k true = some 3) ∧
    (s.ringCause k false = none → ∃ u : State, exec (.eventRingWrite k false) s = .next ((u.signalRing k).reportLost k) ∧ OnlyChanges [.ev, .host] s u ∧
      u.ring k = { s.ring k with hold := rest, tail := ((s.ring k).tail + 1) % s.ringSize k } ∧
      u.host.out = .evTail k (4 * s.fld F.EVT_TAILADDR_ADDR k) (((s.ring k).tail + 1) % s.ringSize k) ::
        .evRecord k (4096 * s.fld F.EVT_BASE_BASE k + 32 * (s.ring k).tail) e.esn e.src e.code e.sev e.time e.pay :: s.host.out)) ∧
  (∀ (k : Nat) (s : State) (err : Bool), k < 2 → s.ringOpen k = false ∨ (s.ring k).hold = [] → exec (.eventRingWrite k err) s = .next s) ∧
  (∀ (a : Agent) (k v : Nat) (s : State), k < 2 →
    (∃ t, exec (.eventHeadWrite a k v) s = .next t ∧ OnlyChanges [.win] s t ∧ t = s.putReg ⟨.EVT_HEAD, k, 0⟩ v) ∧
    (F.EVT_CFG_VEC.inRange v = true → F.EVT_CFG_INTCNT.inRange v = true → F.EVT_CFG_INTAGE.inRange v = true →
      ∃ u : State, u = s.putReg ⟨.EVT_CFG, k, 0⟩ v ∧
        exec (.eventRingConfig a k v) s = .next (if !s.ringOn k && u.ringOn k then
          ((u.setRing k fun x => { x with tail := 0, unsig := 0 }).putReg ⟨.EVT_HEAD, k, 0⟩ 0).reportLost k else u))) ∧
  (∀ (k : Nat) (s : State), k < 2 →
    (s.ringOn k = true → s.flag F.EVT_CFG_INTEN k = true → 0 < (s.ring k).unsig → s.hld.flush = .none → ∃ t, exec (.eventInterruptTimer k) s = .next t ∧ OnlyChanges [.ev, .host] s t ∧
      t.ring k = { s.ring k with unsig := 0 } ∧ t.host.out = .msix (s.fld F.EVT_CFG_PF k) (s.fld F.EVT_CFG_VEC k) :: s.host.out) ∧
    ((s.ring k).unsig = 0 → exec (.eventInterruptTimer k) s = .next s)))

/-- A reachable disabled controller with admin queues of legal sizes, online if it is a virtual function's, whose port's domain has not been granted its entry, is enabled: it is ready with empty admin queues of those sizes. A controller level reset leaves it no queue. A normal shutdown begins its flush and shows shutdown processing; when its flush is done the shutdown is complete. An abrupt shutdown abandons its commands and completes at once. A function level reset resets the function. Bus master, power state and VF enable are set, and clearing them disables the function, or a physical function's virtual functions. Forms shown to complete (exec answers a next state, under conditions on the state and the operands alone): controllerEnable, controllerReset, normalShutdown, shutdownComplete, abruptShutdown, functionLevelReset, functionDisable, functionEnable. -/
def Obligations.Controllers : Prop :=
  (∀ (fn ams asqs acqs : Nat) (s : State), s.reachable fn = true → (s.fn fn).en = false → ams < 2 → 1 ≤ asqs → asqs < 4096 → 1 ≤ acqs → acqs < 4096 →
    isVf fn = false ∨ (s.fn fn).online = true → s.granted (96 + s.portOf fn) = false → ∃ t, exec (.controllerEnable fn ams asqs acqs) s = .next t ∧ OnlyChanges [.host] s t ∧
      t.fn fn = { s.fn fn with en := true, rdy := true, shn := 0, shst := 0, ams := ams } ∧
      t.sq? fn 0 = some (Sq.new 0 (asqs + 1) 0 s.ao.time) ∧ t.cq? fn 0 = some (Cq.new (acqs + 1) true 0)) ∧
  (∀ (fn : Nat) (s : State), s.reachable fn = true → (s.fn fn).en = true →
    (∃ t, exec (.controllerReset fn) s = .next t ∧ t = s.resetController fn ∧ (∀ e ∈ t.host.sqs, e.1 / 65536 ≠ fn) ∧ ∀ e ∈ t.host.cqs, e.1 / 65536 ≠ fn) ∧
    ((s.fn fn).shn = 0 → exec (.normalShutdown fn) s = .next ((s.setFn fn fun f => { f with shn := 1, shst := 1 }).shutdownFlush fn)) ∧
    ((s.fn fn).shn ≠ 2 → ∃ t, exec (.abruptShutdown fn) s = .next t ∧ (t.fn fn).shn = 2 ∧ (t.fn fn).shst = 2 ∧ (t.fn fn).shutFlush = none)) ∧
  (∀ (fn csn : Nat) (s : State), (s.fn fn).shn = 1 → (s.fn fn).shst = 1 → ((s.shutdownFlush fn).fn fn).shutFlush = some csn →
    ((s.shutdownFlush fn).flushDone fn 0xFFFFFFFF csn ((s.shutdownFlush fn).openCloses fn 0xFFFFFFFF) = true → ∃ t, exec (.shutdownComplete fn) s = .next t ∧ OnlyChanges [.host] (s.shutdownFlush fn) t ∧
      (t.fn fn).shst = 2 ∧ (t.fn fn).shutFlush = none) ∧
    ((s.shutdownFlush fn).flushDone fn 0xFFFFFFFF csn ((s.shutdownFlush fn).openCloses fn 0xFFFFFFFF) = false → exec (.shutdownComplete fn) s = .next (s.shutdownFlush fn))) ∧
  (∀ (fn : Nat) (s : State), s.reachable fn = true →
    exec (.functionLevelReset fn) s = .next (s.resetFunction fn) ∧
    (s.granted (96 + s.portOf fn) = false → ∃ t, exec (.functionEnable fn .busMaster) s = .next t ∧ OnlyChanges [.host] s t ∧ t.fn fn = { s.fn fn with bme := true }) ∧
    (∃ t, exec (.functionEnable fn .d3hot) s = .next t ∧ OnlyChanges [.host] s t ∧ t.fn fn = { s.fn fn with d3 := false }) ∧
    (isVf fn = false → ∃ t, exec (.functionEnable fn .vfEnable) s = .next t ∧ OnlyChanges [.host] s t ∧ t.fn fn = { s.fn fn with vfe := true }) ∧
    (isVf fn = true → (s.fn fn).bme = true → exec (.functionDisable fn .busMaster) s = .next ((s.setFn fn fun f => { f with bme := false }).disableOne fn)) ∧
    (isVf fn = true → (s.fn fn).d3 = false → exec (.functionDisable fn .d3hot) s = .next ((s.setFn fn fun f => { f with d3 := true }).disableOne fn)) ∧
    (isVf fn = false → (s.fn fn).bme = true → exec (.functionDisable fn .busMaster) s =
      .next (((s.setFn fn fun f => { f with bme := false }).ringsLose fn 1).disableOne fn)) ∧
    (isVf fn = false → (s.fn fn).vfe = true → exec (.functionDisable fn .vfEnable) s =
      .next ((vfsOf fn).foldl (fun s x => s.disableOne x) (s.setFn fn fun f => { f with vfe := false })))) ∧
  (∀ (fn : Nat) (s : State) (cause : FnCause), s.reachable fn = false → ∀ c ∈ [Instr.controllerReset fn, .normalShutdown fn, .abruptShutdown fn,
    .functionLevelReset fn, .functionEnable fn cause, .functionDisable fn cause, .nvmSubsystemReset fn], exec c s = .next s)

/-- PERST asserted resets the functions of its port, brings the link down and holds the port in reset; released, the port may train once stage 2 is reached. A link that is up at a rate and width the port fits is reported; its loss resets the port's functions. A subsystem reset of a reachable physical function resets every function and starts a flush with cause 4. The interrupt coalescing timer sends the interrupt for completions not signalled, where the function is live. The clear of the lock unit's counters is its control register's write of 1. Forms shown to complete (exec answers a next state, under conditions on the state and the operands alone): perstAssert, perstDeassert, portLinkUp, portLinkDown, nvmSubsystemReset, statClr, interruptCoalescingTimer. -/
def Obligations.Ports : Prop :=
  (∀ (p : Nat) (s : State), p < 2 → s.hasPort p = true →
    ((s.port p).perst = false → ∃ t, exec (.perstAssert p) s = .next t ∧ t.port p = { Port.reset with perst := true } ∧
      OnlyChanges [.host] ((s.resetPort p).linkDown p) t) ∧
    ((s.port p).perst = true → ∃ t, exec (.perstDeassert p) s = .next t ∧ OnlyChanges [.host] s t ∧
      t.port p = { s.port p with perst := false, train := 2 ≤ s.boot.stage && (!s.boot.recov || p == 0) }) ∧
    (∀ rate width flit, (s.port p).train = true → (s.port p).perst = false → (s.port p).up = false → s.linkFits rate width = true →
      ∃ t, exec (.portLinkUp p rate width flit) s = .next t ∧ OnlyChanges [.host, .ev] s t ∧
        t.port p = { s.port p with up := true, rate := rate, width := width, flit := flit }) ∧
    ((s.port p).up = true → exec (.portLinkDown p) s = .next ((s.resetPort p).linkDown p)) ∧
    ((s.port p).up = false → exec (.portLinkDown p) s = .next s)) ∧
  (∀ (fn : Nat) (s : State), fn < 2 → s.reachable fn = true → exec (.nvmSubsystemReset fn) s = .next s.subsystemReset ∧
    s.subsystemReset = ((s.resetFunction 0).resetFunction 1).startFlush 4) ∧
  (∀ (fn cqid : Nat) (q : Cq) (s : State), s.cq? fn cqid = some q →
    (q.ien = true → 0 < q.unsig → s.fnLive fn = true → s.hld.flush = .none → ∃ t, exec (.interruptCoalescingTimer fn cqid) s = .next t ∧ OnlyChanges [.host] s t ∧
      t.cq? fn cqid = some { q with unsig := 0 } ∧ t.host.out = .msix fn q.vec :: s.host.out) ∧
    (q.ien = false ∨ q.unsig = 0 ∨ s.fnLive fn = false → exec (.interruptCoalescingTimer fn cqid) s = .next s)) ∧
  (∀ (a : Agent) (s : State), exec (.statClr a) s = .next (s.writeRlkCtl 1))

/-- A queue is created only with a number that is free and within the function's queues, a legal size, physically contiguous; a submission queue with a completion queue that exists, a completion queue with a vector of its own within the function's vectors. Each refusal has its own status. A submission queue is deleted once it holds no fetched command: until then its waiting entries are dropped and the command waits. A completion queue is deleted only when no submission queue uses it. Forms shown to complete (exec answers a next state, under conditions on the state and the operands alone): createIoSubmissionQueue, deleteIoSubmissionQueue, createIoCompletionQueue, deleteIoCompletionQueue. -/
def Obligations.QueueCommands : Prop :=
  (∀ (r : CmdRef) (c : Cmd) (q z cq : Nat) (s : State), s.mayRun r c true 0x01 → q = c.sqe.cdw10 % 65536 → z = c.sqe.cdw10 / 65536 → cq = c.sqe.cdw11 / 65536 →
    (q = 0 ∨ s.ioQueues r.fn < q ∨ (s.sq? r.fn q).isSome = true → exec (.createIoSubmissionQueue r) s = .next (s.complete c .invalidQueueId)) ∧
    (q ≠ 0 → q ≤ s.ioQueues r.fn → s.sq? r.fn q = none →
      (queueSizeOk z = false → exec (.createIoSubmissionQueue r) s = .next (s.complete c .invalidQueueSize)) ∧
      (queueSizeOk z = true → c.sqe.cdw11.testBit 0 = true → cq ≠ 0 → cq ≤ s.ioQueues r.fn →
        (s.cq? r.fn cq = none → exec (.createIoSubmissionQueue r) s = .next (s.complete c .invalidCqParam)) ∧
        ((s.cq? r.fn cq).isSome = true → ∃ u : State, exec (.createIoSubmissionQueue r) s = .next (u.complete c .success) ∧ OnlyChanges [.host] s u ∧
          u.sq? r.fn q = some (Sq.new cq (z + 1) (bits c.sqe.cdw11 2 1) s.ao.time))))) ∧
  (∀ (r : CmdRef) (c : Cmd) (q z v : Nat) (s : State), s.mayRun r c true 0x05 → q = c.sqe.cdw10 % 65536 → z = c.sqe.cdw10 / 65536 → v = c.sqe.cdw11 / 65536 →
    (q = 0 ∨ s.ioQueues r.fn < q ∨ (s.cq? r.fn q).isSome = true → exec (.createIoCompletionQueue r) s = .next (s.complete c .invalidQueueId)) ∧
    (q ≠ 0 → q ≤ s.ioQueues r.fn → s.cq? r.fn q = none → queueSizeOk z = true → c.sqe.cdw11.testBit 0 = true →
      (c.sqe.cdw11.testBit 1 = true → v = 0 ∨ s.vectorUsed r.fn v = true ∨ s.ioVectors r.fn < v →
        exec (.createIoCompletionQueue r) s = .next (s.complete c .invalidVector)) ∧
      (c.sqe.cdw11.testBit 1 = true → v ≠ 0 → s.vectorUsed r.fn v = false → v ≤ s.ioVectors r.fn → ∃ u : State,
        exec (.createIoCompletionQueue r) s = .next (u.complete c .success) ∧ OnlyChanges [.host] s u ∧ u.cq? r.fn q = some (Cq.new (z + 1) true v)) ∧
      (c.sqe.cdw11.testBit 1 = false → ∃ u : State, exec (.createIoCompletionQueue r) s = .next (u.complete c .success) ∧ OnlyChanges [.host] s u ∧
        u.cq? r.fn q = some (Cq.new (z + 1) false v)))) ∧
  (∀ (r : CmdRef) (c : Cmd) (q : Nat) (s : State), s.mayRun r c true 0x00 → q = c.sqe.cdw10 % 65536 →
    (s.sq? r.fn q = none ∨ q = 0 → exec (.deleteIoSubmissionQueue r) s = .next (s.complete c .invalidQueueId)) ∧
    (∀ x, s.sq? r.fn q = some x → q ≠ 0 →
      ((∃ d ∈ s.host.cmds, d.ref.fn = r.fn ∧ d.ref.qid = q) → exec (.deleteIoSubmissionQueue r) s = .next (s.putSq r.fn q { x with entries := [], tail := x.head })) ∧
      ((∀ d ∈ s.host.cmds, ¬ (d.ref.fn = r.fn ∧ d.ref.qid = q)) → ∃ u : State, exec (.deleteIoSubmissionQueue r) s = .next (u.complete c .success) ∧
        OnlyChanges [.host] s u ∧ u.sq? r.fn q = none))) ∧
  (∀ (r : CmdRef) (c : Cmd) (q : Nat) (s : State), s.mayRun r c true 0x04 → q = c.sqe.cdw10 % 65536 →
    (q = 0 ∨ s.cq? r.fn q = none → exec (.deleteIoCompletionQueue r) s = .next (s.complete c .invalidQueueId)) ∧
    (q ≠ 0 → (s.cq? r.fn q).isSome = true → (∃ e ∈ s.host.sqs, e.1 / 65536 = r.fn ∧ e.2.cqid = q) →
      exec (.deleteIoCompletionQueue r) s = .next (s.complete c .invalidQueueDeletion)) ∧
    (q ≠ 0 → (s.cq? r.fn q).isSome = true → (∀ e ∈ s.host.sqs, ¬ (e.1 / 65536 = r.fn ∧ e.2.cqid = q)) → ∃ u : State,
      exec (.deleteIoCompletionQueue r) s = .next (u.complete c .success) ∧ OnlyChanges [.host] s u ∧ u.cq? r.fn q = none))

/-- Set Features refuses a feature that is not supported, and a save of one that cannot be saved, and otherwise keeps the value, for the current and where asked the saved one; Number of Queues answers what the function has. Get Features answers the current, default, saved or supported value asked for. An asynchronous event request waits, unless the limit of them waits already. Identify answers the structure asked for. Get Log Page answers the log's bytes from the offset asked for, within the transfer limit. Forms shown to complete (exec answers a next state, under conditions on the state and the operands alone): getLogPage, identify, setFeatures, getFeatures, asynchronousEventRequest. -/
def Obligations.FeaturesAndEvents : Prop :=
  (∀ (r : CmdRef) (c : Cmd) (fid v : Nat) (s : State), s.mayRun r c true 0x09 → fid = bits c.sqe.cdw10 7 0 →
    (featSupported.contains fid = false → exec (.setFeatures r) s = .next (s.complete c .invalidField)) ∧
    (featSupported.contains fid = true → c.sqe.cdw10.testBit 31 = true → fid ≠ 0xC0 → exec (.setFeatures r) s = .next (s.complete c .featNotSaveable)) ∧
    (featSupported.contains fid = true → c.sqe.cdw10.testBit 31 = false → fid ≠ 0x07 → fid ≠ 0x09 ∨ c.sqe.cdw11 % 65536 ≤ s.ioVectors r.fn → featValue c.sqe = .ok v →
      ∃ u : State, exec (.setFeatures r) s = .next (u.complete c .success) ∧ OnlyChanges [.host] s u ∧
        u.fn r.fn = { s.fn r.fn with feat := (if fid = 0x0E then ((s.fn r.fn).feat.ins (featKey fid c.sqe.cdw11) v).ins 512 s.ao.time else (s.fn r.fn).feat.ins (featKey fid c.sqe.cdw11) v) }) ∧
    (featSupported.contains fid = true → c.sqe.cdw10.testBit 31 = false → fid = 0x09 → s.ioVectors r.fn < c.sqe.cdw11 % 65536 →
      exec (.setFeatures r) s = .next (s.complete c .invalidField)) ∧
    (∀ st, featSupported.contains fid = true → c.sqe.cdw10.testBit 31 = false → fid ≠ 0x09 → featValue c.sqe = .error st →
      exec (.setFeatures r) s = .next (s.complete c st)) ∧
    (c.sqe.cdw10.testBit 31 = true → fid = 0xC0 → featValue c.sqe = .ok v → ∃ u : State, exec (.setFeatures r) s = .next (u.complete c .success) ∧
        OnlyChanges [.host] s u ∧ (u.fn r.fn).feat = ((s.fn r.fn).feat.ins (featKey 0xC0 c.sqe.cdw11) v).ins (0xC0 + 256) v) ∧
    (c.sqe.cdw10.testBit 31 = false → fid = 0x07 → featValue c.sqe = .ok v → exec (.setFeatures r) s = .next (s.complete c .success (s.queuesAssigned r.fn)))) ∧
  (∀ (r : CmdRef) (c : Cmd) (fid sel : Nat) (s : State), s.mayRun r c true 0x0A → fid = bits c.sqe.cdw10 7 0 → sel = bits c.sqe.cdw10 10 8 →
    (featSupported.contains fid = false ∨ 3 < sel → exec (.getFeatures r) s = .next (s.complete c .invalidField)) ∧
    (featSupported.contains fid = true → sel = 3 → exec (.getFeatures r) s = .next (s.complete c .success (4 + b2n (fid == 0xC0)))) ∧
    (featSupported.contains fid = true → sel = 0 → fid ≠ 0x0E → exec (.getFeatures r) s = .next (s.complete c .success (s.featNow r.fn fid c.sqe.cdw11))) ∧
    (∀ d, featSupported.contains fid = true → fid ≠ 0x0E →
      d = (if fid = 0x07 then s.queuesAssigned r.fn else if fid = 0x09 then c.sqe.cdw11 % 65536 else s.defaultFeature (featKey fid c.sqe.cdw11)) →
      (sel = 1 → exec (.getFeatures r) s = .next (s.complete c .success d)) ∧
      (sel = 2 → exec (.getFeatures r) s = .next (s.complete c .success ((s.fn r.fn).feat.getD (fid + 256) d)))) ∧
    (fid = 0x0E → sel = 0 → exec (.getFeatures r) s =
      .next (s.completeBytes c (layRow [(6, s.timestamp r.fn), (1, 2 * b2n ((s.fn r.fn).feat.get? 512).isSome), (1, 0)])))) ∧
  (∀ (r : CmdRef) (c : Cmd) (n : Nat) (s : State), s.mayRun r c true 0x0C →
    n = (s.host.cmds.filter fun x => x.ref.fn == r.fn && x.ref.qid == 0 && x.sqe.opc == 0x0C && x.phase == .background).length →
    (aerMax ≤ n → exec (.asynchronousEventRequest r) s = .next (s.complete c .aerLimit)) ∧
    (n < aerMax → ∃ u : State, exec (.asynchronousEventRequest r) s = .next (u.pumpAsync r.fn) ∧ OnlyChanges [.host] s u ∧ u.cmd? r = some { c with phase := .background })) ∧
  (∀ (r : CmdRef) (c : Cmd) (s : State), s.mayRun r c true 0x06 →
    (∀ b, s.identifyData c.ref.fn c.sqe = .ok b → exec (.identify r) s = .next (s.completeBytes c b)) ∧
    (∀ st, s.identifyData c.ref.fn c.sqe = .error st → exec (.identify r) s = .next (s.complete c st))) ∧
  (∀ (r : CmdRef) (c : Cmd) (s : State), s.mayRun r c true 0x02 →
    (maxTransfer < c.sqe.logLen ∨ c.sqe.lpo % 4 ≠ 0 → exec (.getLogPage r) s = .next (s.complete c .invalidField)) ∧
    (c.sqe.logLen ≤ maxTransfer → c.sqe.lpo % 4 = 0 → c.sqe.lid ≠ 0xC6 →
      (∀ st, s.logPage c.ref.fn c.sqe = .error st → exec (.getLogPage r) s = .next (s.complete c st)) ∧
      (∀ b, s.logPage c.ref.fn c.sqe = .ok b → c.sqe.lpo ≤ b.length →
        exec (.getLogPage r) s = .next ((s.afterLog c.ref.fn c.sqe).completeBytes c (padTo c.sqe.logLen (b.drop c.sqe.lpo))).drew)) ∧
    (c.sqe.logLen ≤ maxTransfer → c.sqe.lpo % 4 = 0 → c.sqe.lid = 0xC6 → exec (.getLogPage r) s = .next (s.tableRead c)))

/-- A read whose command holds its locks (a Compare, once its data has come) starts one read per block, or fails at once with Zone Is Offline where it touches an offline zone. A block no unit holds answers zeros, a unit held in DRAM is answered from it, a lost one fails the command. A Read whose buffers lost data meanwhile reads once more, and fails as unrecovered the second time. The command completes when every block is answered: as unrecovered where a block's companion metadata is lost; with the failed unit's status, counted as unrecovered; with the protection status where a check failed; and otherwise a Read sends each block and its metadata in the order of the blocks, a Compare succeeds when its data agree and fails with Compare Failure when not, a Verify sends nothing. While a flush is in progress none of them advances. Forms shown to complete (exec answers a next state, under conditions on the state and the operands alone): readCompletion, read, compare, verify. -/
def Obligations.HostReads : Prop :=
  (∀ (r : CmdRef) (c : Cmd) (n : Ns) (op : Instr) (opc : Nat) (s : State), (op, opc) ∈ [(Instr.read r, 0x02), (Instr.compare r, 0x05), (Instr.verify r, 0x0C)] →
    s.cmd? r = some c → s.nsAt c.nsix = some n → r.qid ≠ 0 → c.sqe.opc = opc → c.phase = .data → s.cqRoom r = true →
    (s.hld.flush = .none → opc = 0x05 → c.blocks ≠ c.nlb → exec op s = .next s) ∧
    (s.hld.flush = .none → (opc = 0x05 → c.blocks = c.nlb) →
      (s.touchesOffline n c.lba c.nlb = true → exec op s = .next (s.complete c .zoneOffline)) ∧
      (s.touchesOffline n c.lba c.nlb = false → exec op s = .next (s.startReads c n))) ∧
    (s.hld.flush ≠ .none → exec op s = .next s)) ∧
  (∀ (c : Cmd) (n : Ns) (s : State), s.cmd? c.ref = some c → c.nlb = 1 → ∃ u, OnlyChanges [.host] s u ∧
    u.cmd? c.ref = some { c with phase := .reading, blocks := 0, got := if c.sqe.opc = 0x05 then c.got ++ [(0, 0)] else [(0, 0)] } ∧
    (∀ x, s.findBlock c.nsix n c.lba = .info x → s.startReads c n = u.giveUnit c.ref 0 (.ok x)) ∧
    (s.findBlock c.nsix n c.lba = .zero → s.startReads c n = u.giveUnit c.ref 0 .zero) ∧
    (s.findBlock c.nsix n c.lba = .bad → s.startReads c n = u.giveUnit c.ref 0 .lost) ∧
    (∀ id row d lo hi, s.findBlock c.nsix n c.lba = .media id row d lo hi → s.startReads c n = u.readMedia c n 0 id row d lo hi)) ∧
  (∀ (r : CmdRef) (c : Cmd) (i : Info) (s : State), s.cmd? r = some c → c.sqe.opc ≠ 0x05 →
    (s.giveUnit r 0 (.ok i)).cmd? r = some { c with got := c.got.set 0 (i.data, i.hmeta + 2 ^ 128), blocks := c.blocks + 1 } ∧
    (s.giveUnit r 0 .zero).cmd? r = some { c with blocks := c.blocks + 1 } ∧
    (s.giveUnit r 0 .lost).cmd? r = some { c with blocks := c.blocks + 1, status := .unrecoveredRead }) ∧
  (∀ (r : CmdRef) (c : Cmd) (n : Ns) (pi : PiCheck) (s : State), s.cmd? r = some c → s.nsAt c.nsix = some n → c.phase = .reading → s.cqRoom r = true → s.hld.flush = .none →
    (c.blocks ≠ c.nlb → exec (.readCompletion r pi) s = .next s) ∧
    (c.blocks = c.nlb → s.dataSpoiled c = true →
      (c.sqe.opc = 0x02 → c.reread = false → exec (.readCompletion r pi) s = .next (s.readAgain c)) ∧
      (c.sqe.opc ≠ 0x02 ∨ c.reread = true → exec (.readCompletion r pi) s = .next ((s.countHealth c.nsix 2 1).complete c .unrecoveredRead))) ∧
    (c.blocks = c.nlb → s.dataSpoiled c = false → ((List.range c.nlb).any fun k => s.metaLost n (c.lba + k)) = true →
      exec (.readCompletion r pi) s = .next ((s.countHealth c.nsix 2 1).complete c .unrecoveredRead)) ∧
    (c.blocks = c.nlb → s.dataSpoiled c = false → ((List.range c.nlb).any fun k => s.metaLost n (c.lba + k)) = false →
      (c.status ≠ .success → exec (.readCompletion r pi) s = .next ((s.countHealth c.nsix 2 1).complete c c.status)) ∧
      (c.status = .success → pi ≠ .ok → exec (.readCompletion r pi) s = .next ((s.piFailed c n).complete c (piStatus pi))) ∧
      (c.status = .success → pi = .ok →
        (c.sqe.opc = 0x02 → ∃ u : State, exec (.readCompletion r pi) s = .next (u.complete c .success) ∧ OnlyChanges [.host, .sch] s u ∧
          u.host.cmds = s.host.cmds ∧
          u.host.out = ((c.got.zipIdx.map fun x => s.plainOf c n x.2 x.1).zipIdx.map fun x => HostOut.block r x.2 x.1.1 x.1.2).reverse ++ s.host.out) ∧
        (c.sqe.opc = 0x05 → n.lbaf = 0 →
          exec (.readCompletion r pi) s = .next (s.complete c (if ((c.got.take c.nlb).zip ((c.got.drop c.nlb).zipIdx.map fun x => s.plainOf c n x.2 x.1)).all
            (fun x => x.1.1 == x.2.1) then .success else .compareFailure))) ∧
        (c.sqe.opc ≠ 0x02 → c.sqe.opc ≠ 0x05 → exec (.readCompletion r pi) s = .next (s.complete c .success)))))

/-- A zone report answers, for the zones from the one that holds the first block on, a 64-byte descriptor of each that the reporting option takes: sequential type, state, capacity, start and write pointer (all ones where the zone is Full, Read Only or Offline), after a 64-byte header that counts all of them, or with a partial report those returned; other receive actions and options are refused. Get LBA Status is for a placement namespace: for a zoned one it is refused, past the end out of range; it answers the runs of blocks that are unmapped or lost, and says whether all of them fitted. Neither changes anything but its own completion. Forms shown to complete (exec answers a next state, under conditions on the state and the operands alone): getLbaStatus, zoneManagementReceive. -/
def Obligations.ReportsOfZonesAndBlocks : Prop :=
  (∀ (r : CmdRef) (c : Cmd) (n : Ns) (s : State), s.mayRun r c false 0x7A → s.nsAt c.nsix = some n →
    (bits c.sqe.cdw13 7 0 ≠ 0 ∨ 7 < bits c.sqe.cdw13 15 8 → exec (.zoneManagementReceive r) s = .next (s.complete c .invalidField)) ∧
    (∀ opt zs, opt = bits c.sqe.cdw13 15 8 → bits c.sqe.cdw13 7 0 = 0 → opt ≤ 7 →
      zs = ((List.range (n.zones - c.sqe.slba / 262144)).filterMap fun i => (n.entryOf (c.sqe.slba / 262144 + i)).bind fun e =>
        (s.zone? e).bind fun d => if reportTakes opt d.zs then some (s.zoneDesc e (c.sqe.slba / 262144 + i) d) else none) →
      (c.sqe.cdw13.testBit 16 = false → exec (.zoneManagementReceive r) s = .next (s.completeBytes c
        ((toBytes 8 zs.length ++ toBytes 56 0 ++ (zs.take ((4 * (c.sqe.cdw12 + 1) - 64) / 64)).flatten).take (4 * (c.sqe.cdw12 + 1))))) ∧
      (c.sqe.cdw13.testBit 16 = true → exec (.zoneManagementReceive r) s = .next (s.completeBytes c
        ((toBytes 8 (zs.take ((4 * (c.sqe.cdw12 + 1) - 64) / 64)).length ++ toBytes 56 0 ++ (zs.take ((4 * (c.sqe.cdw12 + 1) - 64) / 64)).flatten).take (4 * (c.sqe.cdw12 + 1))))))) ∧
  (∀ (e z : Nat) (d : Zone) (s : State), (s.zoneDesc e z d).length = 64 ∧
    ofBytes ((s.zoneDesc e z d).take 8) = 2 + 2 ^ 8 * (16 * d.zs.code) + 2 ^ 16 * (4 * b2n (s.zoneBenched e)) ∧
    (d.zcap < 2 ^ 64 → ofBytes (((s.zoneDesc e z d).drop 8).take 8) = d.zcap) ∧
    (z < 2 ^ 40 → ofBytes (((s.zoneDesc e z d).drop 16).take 8) = 262144 * z) ∧
    (d.zs = .full ∨ d.zs = .readOnly ∨ d.zs = .offline → ofBytes (((s.zoneDesc e z d).drop 24).take 8) = 2 ^ 64 - 1) ∧
    (d.zs ≠ .full → d.zs ≠ .readOnly → d.zs ≠ .offline → z < 2 ^ 40 → d.wpoff ≤ 262144 → ofBytes (((s.zoneDesc e z d).drop 24).take 8) = 262144 * z + d.wpoff)) ∧
  (∀ (r : CmdRef) (c : Cmd) (n : Ns) (s : State), s.mayRun r c true 0x86 → s.nsAt c.nsix = some n →
    (n.kind = .zoned → exec (.getLbaStatus r) s = .next (s.complete c .invalidOpcode)) ∧
    (n.kind ≠ .zoned → n.nsze ≤ c.sqe.slba → exec (.getLbaStatus r) s = .next (s.complete c .lbaOutOfRange)) ∧
    (n.kind ≠ .zoned → c.sqe.slba < n.nsze → ∃ runs b, exec (.getLbaStatus r) s = .next (s.completeBytes c b) ∧ b.length ≤ 4 * (c.sqe.cdw12 + 1) ∧
      runs = (stateRuns (s.lbaState c.nsix) c.sqe.slba (if c.sqe.cdw13 % 65536 = 0 then n.nsze - c.sqe.slba else min (c.sqe.cdw13 % 65536) (n.nsze - c.sqe.slba))).filter (fun x => x.2.2 != 0) ∧
      (8 + 16 * runs.length ≤ 4 * (c.sqe.cdw12 + 1) → b = toBytes 4 runs.length ++ toBytes 4 2 ++
        (runs.map fun x => toBytes 8 x.1 ++ toBytes 4 (x.2.1 - 1) ++ toBytes 1 0 ++ toBytes 1 (if x.2.2 = 2 then 1 else 0) ++ toBytes 2 0).flatten))) ∧
  (∀ (nsix lba : Nat) (s : State), (s.dramUnit nsix lba).isSome = true → s.lbaState nsix lba = 0) ∧
  (∀ (nsix lba : Nat) (s : State), s.dramUnit nsix lba = none → s.zon.map.get? (lbaKey nsix lba) = none → s.lbaState nsix lba = 1)

/-- Namespace Management is checked when it runs, waits for its change of the vault's store (a delete also for the commands fetched for its namespaces), and is checked again and carried out then. While a transaction is open it is refused. A create that succeeds has a size equal to its capacity, in whole zones or in steps of 256 blocks, a supported format, an owner within the issuer's reach whose die set has 18 members or more, and a zoned one zones that are free; it answers the lowest free identifier. A delete drops each namespace in its issuer's reach; one bound to a capture ring is refused. Attachment, refused too while a transaction is open, changes the namespace's list of controllers, as the checks allow. Forms shown to complete (exec answers a next state, under conditions on the state and the operands alone): namespaceManagement, namespaceAttachment. -/
def Obligations.NamespaceManagement : Prop :=
  (∀ (r : CmdRef) (c : Cmd) (s : State), s.cmd? r = some c → c.sqe.opc = 0x0D → c.ref.qid = 0 → s.cqRoom r = true → s.manyCsns = true →
    (c.phase = .ready →
      (∀ st, s.planNamespace c = .error st → exec (.namespaceManagement r) s = .next (s.complete c st)) ∧
      (∀ x, s.planNamespace c = .ok x → ∃ u, exec (.namespaceManagement r) s = .next u ∧ OnlyChanges [.host, .sec] s u ∧
        u.cmd? r = some { c with phase := .background } ∧ u.sec.writes = s.sec.writes + 1)) ∧
    (c.phase = .background →
      (0 < s.sec.writes ∨ (c.sqe.cdw10 % 16 = 1 ∧ s.eraseWaits c = true) → exec (.namespaceManagement r) s = .next s) ∧
      (s.sec.writes = 0 → (c.sqe.cdw10 % 16 = 1 → s.eraseWaits c = false) →
        (∀ st, s.planNamespace c = .error st → exec (.namespaceManagement r) s = .next (s.complete c st)) ∧
        (∀ t d, s.planNamespace c = .ok (t, d) → exec (.namespaceManagement r) s = .next (t.complete c .success d))))) ∧
  (∀ (c : Cmd) (s : State),
    (s.win.txn.state ≠ 0 → s.planNamespace c = .error .txnOpen) ∧
    (s.win.txn.state = 0 → 2 ≤ c.sqe.cdw10 % 16 → s.planNamespace c = .error .invalidField) ∧
    (∀ x, s.win.txn.state = 0 → c.sqe.cdw10 % 16 = 1 → c.sqe.nsid ≠ 0xFFFFFFFF → s.nsOf? c.sqe.nsid = some x →
      (mayErase c.ref.fn x.2.owner = false → s.planNamespace c = .error .tenantScope) ∧
      (mayErase c.ref.fn x.2.owner = true → s.ringBound x.1 = true → s.planNamespace c = .error .zoneCaptureBound) ∧
      (mayErase c.ref.fn x.2.owner = true → s.ringBound x.1 = false → s.planNamespace c = .ok (s.deleteNs x.1 0x0D x.2, 0)))) ∧
  (∀ (issuer csi d : Nat) (b : List Byte) (x : NewNs) (s t : State), x = NewNs.parse b → s.create issuer csi b = .ok (t, d) →
    d = s.freeNsid ∧ x.ncap = x.nsze ∧ (csi = 0 ∨ csi = 2) ∧ (csi = 2 → x.nsze % 262144 = 0 ∧ x.nph = 0 ∧ (s.runsFor (x.nsze / 262144)).isSome = true) ∧
      (csi = 0 → x.nsze % 256 = 0 ∧ x.nph ≤ 16) ∧ formatOk x.lbaf x.pit x.pil = true ∧
      (x.named.getD issuer = issuer ∨ governs issuer (x.named.getD issuer) = true ∧ (s.tsec (x.named.getD issuer)).claimed = true) ∧
      (s.owned (x.named.getD issuer)).length < min 16 (s.tsec (x.named.getD issuer)).nsquota ∧
      (∃ ds, s.tenantDs (x.named.getD issuer) = some ds ∧ 18 ≤ s.dsSpan ds)) ∧
  (∀ (r : CmdRef) (c : Cmd) (s : State), s.mayRun r c true 0x15 →
    (s.txnIsOpen = true → exec (.namespaceAttachment r) s = .next (s.complete c .txnOpen)) ∧
    (s.txnIsOpen = false → s.nsOf? c.sqe.nsid = none → exec (.namespaceAttachment r) s = .next (s.complete c .invalidNsOrFormat)) ∧
    (∀ k n ids, s.txnIsOpen = false → s.nsOf? c.sqe.nsid = some (k, n) → ids = controllerList c.sqe.data →
      (1 < c.sqe.cdw10 % 16 → exec (.namespaceAttachment r) s = .next (s.complete c .invalidField)) ∧
      (c.sqe.cdw10 % 16 = 0 → s.attachStatus r.fn n false ids = .success →
        exec (.namespaceAttachment r) s = .next ((ids.foldl (fun s t => s.attach k t) s).complete c .success)) ∧
      (c.sqe.cdw10 % 16 = 1 → s.attachStatus r.fn n true ids = .success →
        exec (.namespaceAttachment r) s = .next ((ids.foldl (fun s t => s.detach k t) s).complete c .success)) ∧
      (∀ st, c.sqe.cdw10 % 16 ≤ 1 → s.attachStatus r.fn n (c.sqe.cdw10 % 16 == 1) ids = st → st ≠ .success →
        exec (.namespaceAttachment r) s = .next (s.complete c st)))) ∧
  (∀ (t : Nat) (n : Ns) (ids : List Nat) (s : State),
    (s.attachStatus t n false ids = .success → t = n.owner ∧ ids ≠ [] ∧ ∀ i ∈ ids, i < 1024 ∧ (i = n.owner ∨ s.partnerOf n.owner = some i) ∧ i ∉ n.attached) ∧
    (s.attachStatus t n true ids = .success → mayErase t n.owner = true ∧ ids ≠ [] ∧ ∀ i ∈ ids, i < 1024 ∧ i ∈ n.attached))

/-- Format NVM is refused while a transaction is open, for a secure-erase setting above 2, for a format that is not supported, and for a namespace bound to a capture ring; otherwise, once the commands fetched for its namespaces are done and the vault's store is written, each namespace gets its new format with everything in it erased. Sanitize is refused while a transaction is open, completes at once to leave a failure mode, and refuses an action that is neither block nor crypto erase, a second sanitize, and a ring-bound namespace; otherwise every namespace in its issuer's reach is erased once none of its commands is in flight, and the command completes when no block it put on the erase queue is left there or erasing. Forms shown to complete (exec answers a next state, under conditions on the state and the operands alone): formatNvm, sanitize. -/
def Obligations.FormatAndSanitize : Prop :=
  (∀ (r : CmdRef) (c : Cmd) (s : State), s.cmd? r = some c → c.sqe.opc = 0x80 → c.ref.qid = 0 → s.cqRoom r = true → s.manyCsns = true →
    (c.phase = .ready →
      (∀ st, s.planFormat c = .error st → exec (.formatNvm r) s = .next (s.complete c st)) ∧
      (∀ x, s.planFormat c = .ok x → ∃ u, exec (.formatNvm r) s = .next u ∧ OnlyChanges [.host, .sec] s u ∧
        u.cmd? r = some { c with phase := .background } ∧ u.sec.writes = s.sec.writes + 1)) ∧
    (c.phase = .background →
      (0 < s.sec.writes ∨ s.eraseWaits c = true → exec (.formatNvm r) s = .next s) ∧
      (s.sec.writes = 0 → s.eraseWaits c = false →
        (∀ st, s.planFormat c = .error st → exec (.formatNvm r) s = .next (s.complete c st)) ∧
        (∀ t d, s.planFormat c = .ok (t, d) → exec (.formatNvm r) s = .next (t.complete c .success d))))) ∧
  (∀ (c : Cmd) (lbaf pit : Nat) (s : State), lbaf = c.sqe.cdw10 % 16 + 16 * bits c.sqe.cdw10 13 12 → pit = bits c.sqe.cdw10 7 5 →
    (s.win.txn.state ≠ 0 → s.planFormat c = .error .txnOpen) ∧
    (s.win.txn.state = 0 →
      (2 < bits c.sqe.cdw10 11 9 → s.planFormat c = .error .invalidField) ∧
      (bits c.sqe.cdw10 11 9 ≤ 2 →
        (formatOk lbaf pit (bits c.sqe.cdw10 8 8) = false → s.planFormat c = .error .invalidFormat) ∧
        (∀ x, formatOk lbaf pit (bits c.sqe.cdw10 8 8) = true → c.sqe.nsid ≠ 0xFFFFFFFF → s.nsOf? c.sqe.nsid = some x →
          (mayErase c.ref.fn x.2.owner = false → s.planFormat c = .error .tenantScope) ∧
          (mayErase c.ref.fn x.2.owner = true → s.ringBound x.1 = true → s.planFormat c = .error .zoneCaptureBound) ∧
          (mayErase c.ref.fn x.2.owner = true → s.ringBound x.1 = false →
            (s.reformat x.1 lbaf pit (c.sqe.cdw10.testBit 4) x.2 = none → s.planFormat c = .error .nsInsufficientCapacity) ∧
            (∀ t, s.reformat x.1 lbaf pit (c.sqe.cdw10.testBit 4) x.2 = some t → s.planFormat c = .ok (t, 0))))))) ∧
  (∀ lbaf pit pil, formatOk lbaf pit pil = true ↔ lbaf ≤ 3 ∧ pit ≤ 3 ∧ pil = 0 ∧ (pit = 0 ∨ lbaf ≠ 0)) ∧
  (∀ (r : CmdRef) (c : Cmd) (s : State), s.cmd? r = some c → c.sqe.opc = 0x84 → c.ref.qid = 0 → s.cqRoom r = true → s.manyCsns = true →
    (c.phase = .ready →
      (s.win.txn.state ≠ 0 → exec (.sanitize r) s = .next (s.complete c .txnOpen)) ∧
      (s.win.txn.state = 0 →
        (c.sqe.cdw10 % 8 = 1 → exec (.sanitize r) s = .next (s.complete c .success)) ∧
        (c.sqe.cdw10 % 8 ≠ 1 → c.sqe.cdw10 % 8 ≠ 2 → c.sqe.cdw10 % 8 ≠ 4 → exec (.sanitize r) s = .next (s.complete c .invalidField)) ∧
        (c.sqe.cdw10 % 8 = 2 ∨ c.sqe.cdw10 % 8 = 4 →
          (s.sanitizing r.fn = true → exec (.sanitize r) s = .next (s.complete c .sanitizeInProgress)) ∧
          (s.sanitizing r.fn = false → (∃ x ∈ s.sanitized r.fn, s.ringBound x.1 = true) → exec (.sanitize r) s = .next (s.complete c .zoneCaptureBound)) ∧
          (s.sanitizing r.fn = false → (∀ x ∈ s.sanitized r.fn, s.ringBound x.1 = false) → ∃ u, exec (.sanitize r) s = .next u ∧
            OnlyChanges [.host, .sec] s u ∧ u.cmd? r = some { c with phase := .background } ∧ u.sec.writes = s.sec.writes + 1)))) ∧
    (c.phase = .background →
      (s.eraseWaits c = true ∨ 0 < s.sec.writes → exec (.sanitize r) s = .next s) ∧
      (s.eraseWaits c = false → s.sec.writes = 0 → (∀ x ∈ s.sanitized r.fn, s.ringBound x.1 = false) →
        exec (.sanitize r) s = .next ((s.runSanitize c).setCmd r fun c => { c with phase := .sealing }) ∧
        ((s.runSanitize c).fn c.ref.fn).sanState = 2 ∧ ((s.runSanitize c).fn c.ref.fn).sanCdw10 = c.sqe.cdw10)) ∧
    (c.phase = .sealing →
      (s.sanitizing r.fn = true → exec (.sanitize r) s = .next s) ∧
      (s.sanitizing r.fn = false → ∃ u : State, exec (.sanitize r) s = .next (u.complete c .success) ∧ OnlyChanges [.host] s u ∧
        u.fn r.fn = { s.fn r.fn with sanState := 1, sanBlocks := [] })))

/-- A self-test starts unless one of its function runs, a stop ends it with the result of an abort by command, any other code is refused. Sending a directive succeeds only to enable data placement on a placement namespace the function sees; receiving returns the supported and enabled directives. Flexible resources are set for the function itself at once, and for its own virtual functions while they are offline; a virtual function goes online only with both kinds of resources, and going offline resets it; every other form has its own refusal. Forms shown to complete (exec answers a next state, under conditions on the state and the operands alone): deviceSelfTest, directiveSend, directiveReceive, virtualizationManagement. -/
def Obligations.SelfTestsDirectivesAndResources : Prop :=
  (∀ (r : CmdRef) (c : Cmd) (k : Nat) (s : State), s.mayRun r c true 0x14 → k = c.sqe.cdw10 % 16 →
    (k = 1 ∨ k = 2 →
      ((s.fn r.fn).dst ≠ 0 → exec (.deviceSelfTest r) s = .next (s.complete c .selfTestInProgress)) ∧
      ((s.fn r.fn).dst = 0 → exec (.deviceSelfTest r) s = .next ((s.startTest r.fn k).complete c .success))) ∧
    (k = 15 → ∃ u : State, exec (.deviceSelfTest r) s = .next (u.complete c .success) ∧ OnlyChanges [.host, .ddk] s u ∧
      ((s.fn r.fn).dst ≠ 0 → u.fn r.fn = { s.fn r.fn with dst := 0, dstResult := 16 * (s.fn r.fn).dst + 1 }) ∧
      ((s.fn r.fn).dst = 0 → u.fn r.fn = s.fn r.fn)) ∧
    (k ≠ 1 → k ≠ 2 → k ≠ 15 → exec (.deviceSelfTest r) s = .next (s.complete c .invalidField))) ∧
  (∀ (r : CmdRef) (c : Cmd) (s : State), s.mayRun r c true 0x19 →
    (s.visible r.fn c.sqe.nsid false = none → exec (.directiveSend r) s = .next (s.complete c .invalidNsOrFormat)) ∧
    (∀ k n, s.visible r.fn c.sqe.nsid false = some (k, n) →
      (bits c.sqe.cdw11 15 8 = 0 → bits c.sqe.cdw11 7 0 = 1 → bits c.sqe.cdw12 15 8 = 2 → c.sqe.cdw12.testBit 0 = true → n.kind = .placement →
        exec (.directiveSend r) s = .next (s.complete c .success)) ∧
      (bits c.sqe.cdw11 15 8 ≠ 0 ∨ bits c.sqe.cdw11 7 0 ≠ 1 ∨ bits c.sqe.cdw12 15 8 ≠ 2 ∨ c.sqe.cdw12.testBit 0 = false ∨ n.kind ≠ .placement →
        exec (.directiveSend r) s = .next (s.complete c .invalidField)))) ∧
  (∀ (r : CmdRef) (c : Cmd) (s : State), s.mayRun r c true 0x1A →
    (s.visible r.fn c.sqe.nsid false = none → exec (.directiveReceive r) s = .next (s.complete c .invalidNsOrFormat)) ∧
    (∀ k n, s.visible r.fn c.sqe.nsid false = some (k, n) →
      (bits c.sqe.cdw11 15 8 = 0 → bits c.sqe.cdw11 7 0 = 1 → 4 * (c.sqe.cdw10 + 1) ≤ maxTransfer →
        exec (.directiveReceive r) s = .next (s.completeBytes c (padTo (4 * (c.sqe.cdw10 + 1))
          (layAt 0 [(0, 1, if n.kind = .placement then 5 else 1), (32, 1, if n.kind = .placement then 5 else 1)] 4096)))) ∧
      (bits c.sqe.cdw11 15 8 ≠ 0 ∨ bits c.sqe.cdw11 7 0 ≠ 1 ∨ maxTransfer < 4 * (c.sqe.cdw10 + 1) →
        exec (.directiveReceive r) s = .next (s.complete c .invalidField)))) ∧
  (∀ (r : CmdRef) (c : Cmd) (act kind id n : Nat) (s : State), s.mayRun r c true 0x1C → act = c.sqe.cdw10 % 16 → kind = bits c.sqe.cdw10 10 8 →
    id = c.sqe.cdw10 / 65536 → n = c.sqe.cdw11 % 65536 →
    (act ∉ [1, 7, 8, 9] → exec (.virtualizationManagement r) s = .next (s.complete c .invalidField)) ∧
    (act = 1 → id ≠ r.fn → exec (.virtualizationManagement r) s = .next (s.complete c .invalidControllerId)) ∧
    (act = 7 ∨ act = 8 ∨ act = 9 → ¬ (isVf id = true ∧ pfOf id = r.fn) → exec (.virtualizationManagement r) s = .next (s.complete c .invalidControllerId)) ∧
    ((act = 1 ∧ id = r.fn) ∨ (act = 8 ∧ isVf id = true ∧ pfOf id = r.fn) →
      (1 < kind → exec (.virtualizationManagement r) s = .next (s.complete c .invalidResourceId)) ∧
      (kind ≤ 1 → act = 8 → (s.fn id).online = true → exec (.virtualizationManagement r) s = .next (s.complete c .invalidSecondaryState)) ∧
      (kind ≤ 1 → (act = 8 → (s.fn id).online = false) →
        (overLimit id (kind == 1) n = true → exec (.virtualizationManagement r) s = .next (s.complete c .invalidField)) ∧
        (overLimit id (kind == 1) n = false →
          (s.assignFlex id (kind == 1) n = none → exec (.virtualizationManagement r) s = .next (s.complete c .invalidResourceCount)) ∧
          (∀ t, s.assignFlex id (kind == 1) n = some t → exec (.virtualizationManagement r) s = .next (t.complete c .success n) ∧
            t.fn id = (if kind = 1 then { s.fn id with vi := n } else { s.fn id with vq := n }))))) ∧
    (act = 7 → isVf id = true → pfOf id = r.fn → exec (.virtualizationManagement r) s =
      .next (((s.resetController id).setFn id fun f => { f with online := false }).complete c .success)) ∧
    (act = 9 → isVf id = true → pfOf id = r.fn →
      ((s.fn id).vq = 0 ∨ (s.fn id).vi = 0 → exec (.virtualizationManagement r) s = .next (s.complete c .invalidSecondaryState)) ∧
      ((s.fn id).vq ≠ 0 → (s.fn id).vi ≠ 0 → ∃ u : State, exec (.virtualizationManagement r) s = .next (u.complete c .success) ∧ OnlyChanges [.host] s u ∧
        u.fn id = { s.fn id with online := true })))

/-- The envelope of a function that has none running is checked in order: its form, a claimed tenant, its tag, its counter against the last accepted one, its inner command. A failed check completes it with the check's status and leaves every counter as it was; a passed envelope waits for the vault's store. When the store is written, the new counter is the last accepted one, and only then the inner command is checked, in the envelope's place: where it fails, it completes the envelope and the counter stays consumed. No completion of any command changes a counter. The functions that report it answer the counter and the outcome. Forms shown to complete (exec answers a next state, under conditions on the state and the operands alone): sealedEnvelope, sealCounterDurable, sealStatus, sealStatusQuery. -/
def Obligations.SealedCommands : Prop :=
  (∀ (r : CmdRef) (c : Cmd) (x : EnvelopeText) (s : State), s.cmd? r = some c → c.phase = .ready → c.sqe.opc = 0xC4 → r.qid = 0 → s.cqRoom r = true →
    (s.tsec r.fn).env = none → s.granted 136 = false → s.sec.mbBusy = false ∨ s.sec.compacting = true → x = envelopeOf c.sqe →
    (s.host.cmds.find? fun x => x.ref.fn == r.fn && x.ref.qid == 0 && x.sqe.opc == 0xC4 && x.phase == .ready) = some c →
    (x.wellFormed c.sqe.cdw10 = false → s.sealCheck r.fn c.sqe.cdw10 x = .invalidField) ∧
    (x.wellFormed c.sqe.cdw10 = true →
      ((s.tsec r.fn).claimed = false ∨ (s.tsec r.fn).releasing = true → s.sealCheck r.fn c.sqe.cdw10 x = .sealNoKey) ∧
      ((s.tsec r.fn).claimed = true → (s.tsec r.fn).releasing = false →
        (cmac (s.tsec r.fn).sk (octetsOf (x.bytes.take (80 + x.n))) ≠ octetsOf (x.bytes.drop (80 + x.n)) → s.sealCheck r.fn c.sqe.cdw10 x = .sealAuthFailed) ∧
        (cmac (s.tsec r.fn).sk (octetsOf (x.bytes.take (80 + x.n))) = octetsOf (x.bytes.drop (80 + x.n)) →
          (x.counter ≤ (s.tsec r.fn).counter → s.sealCheck r.fn c.sqe.cdw10 x = .sealCounter) ∧
          ((s.tsec r.fn).counter < x.counter →
            (s.innerPermitted r.fn x = false → s.sealCheck r.fn c.sqe.cdw10 x = .sealInner) ∧
            (s.innerPermitted r.fn x = true → s.sealCheck r.fn c.sqe.cdw10 x = .success))))) ∧
    (∀ st, s.sealCheck r.fn c.sqe.cdw10 x = st → st ≠ .success → ∃ t, exec (.sealedEnvelope r) s = .next t ∧ t.cmd? r = none ∧
      ∀ n, (t.tsec n).counter = (s.tsec n).counter) ∧
    (s.sealCheck r.fn c.sqe.cdw10 x = .success → ∃ t, exec (.sealedEnvelope r) s = .next t ∧ OnlyChanges [.host, .sec] s t ∧
      t.cmd? r = some { c with phase := .sealing } ∧ t.sec.writes = s.sec.writes + 1 ∧ t.tsec r.fn = { s.tsec r.fn with env := some ⟨r, x.inner, x.io, false⟩ })) ∧
  (∀ (t : Nat) (e : Envelope) (c : Cmd) (s : State), (s.tsec t).env = some e → s.cmd? e.ref = some c → e.durable = false → s.cqRoom e.ref = true →
    (0 < s.sec.writes → exec (.sealCounterDurable t) s = .next s) ∧
    (s.sec.writes = 0 → ∀ u, u = (s.setTsec t fun v => { v with counter := (envelopeOf c.sqe).counter, outcome := 3, env := some { e with durable := true } }).setCmd e.ref (fun _ =>
        (s.setTsec t fun v => { v with counter := (envelopeOf c.sqe).counter, outcome := 3, env := some { e with durable := true } }).innerCmd c e) →
      OnlyChanges [.host, .sec] s u ∧
      u.tsec t = { s.tsec t with counter := (envelopeOf c.sqe).counter, outcome := 3, env := some { e with durable := true } } ∧
      (u.fetchStatus t (if e.io then 1 else 0) e.inner true = .success → exec (.sealCounterDurable t) s = .next u) ∧
      (∀ st, u.fetchStatus t (if e.io then 1 else 0) e.inner true = st → st ≠ .success →
        exec (.sealCounterDurable t) s = .next (u.complete (u.innerCmd c e) st) ∧ ((u.complete (u.innerCmd c e) st).tsec t).counter = (envelopeOf c.sqe).counter))) ∧
  (∀ (c : Cmd) (st : Status) (d0 d1 t : Nat) (s : State), ((s.complete c st d0 d1).tsec t).counter = (s.tsec t).counter) ∧
  (∀ (r : CmdRef) (c : Cmd) (s : State), s.mayRun r c true 0xC7 →
    exec (.sealStatus r) s = .next (s.completeBytes c (s.sealStatus r.fn)) ∧
    (s.sealStatus r.fn).take 8 = toBytes 8 (s.tsec r.fn).counter ∧ (s.sealStatus r.fn).length = 64) ∧
  (∀ (a : Agent) (t : Nat) (s : State), t = s.fld F.SEC_MB_DATA_DATA 0 % 65536 →
    (s.sec.mbBusy = true → exec (.sealStatusQuery a) s = .next (s.mailbox 1)) ∧
    (s.sec.mbBusy = false → 1024 ≤ t → exec (.sealStatusQuery a) s = .next (s.mailbox 2)) ∧
    (s.sec.mbBusy = false → t < 1024 → exec (.sealStatusQuery a) s =
      .next (((List.range 16).foldl (fun u i => u.putFld F.SEC_MB_DATA_DATA i 0 (field (s.sealStatus t) (4 * i) 4)) s).mailbox 0)))

/-- A policy is set by the tenant itself or by the physical function that governs it, each for its own section; while a transaction is open, from anyone else, or with a form or value that is not allowed it is refused, and it takes effect once the vault's store is written. A release is for the governing function alone: it is refused while a namespace of the tenant is bound to a capture ring, waits for the tenant's commands, and leaves the tenant unclaimed, its counter at 0. A policy is read by the same two. When a write of the store ends, a copy whose write failed is lost with an event; with both lost the vault has no tenant and no key left; a compaction re-creates both copies. A failed vault self-test stops the vault with an event. Forms shown to complete (exec answers a next state, under conditions on the state and the operands alone): tenantPolicySet, tenantPolicyGet, vaultSelfTest, vaultStoreCompact, vaultStoreWriteDone. -/
def Obligations.TenantPoliciesAndTheVaultStore : Prop :=
  (∀ (r : CmdRef) (c : Cmd) (s : State), s.cmd? r = some c → s.manyCsns = true → c.sqe.opc = 0xC5 → c.ref.qid = 0 → s.cqRoom r = true → c.sqe.cdw11.testBit 0 = false →
    (c.phase = .ready →
      (∀ st, s.planPolicy c = .error st → exec (.tenantPolicySet r) s = .next (s.complete c st)) ∧
      (∀ x, s.planPolicy c = .ok x → ∃ u, exec (.tenantPolicySet r) s = .next u ∧ OnlyChanges [.host, .sec] s u ∧
        u.cmd? r = some { c with phase := .background } ∧ u.sec.writes = s.sec.writes + 1)) ∧
    (c.phase = .background →
      (0 < s.sec.writes → exec (.tenantPolicySet r) s = .next s) ∧
      (s.sec.writes = 0 →
        (∀ st, s.planPolicy c = .error st → exec (.tenantPolicySet r) s = .next (s.complete c st)) ∧
        (∀ t d, s.planPolicy c = .ok (t, d) → exec (.tenantPolicySet r) s = .next (t.complete c .success d))))) ∧
  (∀ (c : Cmd) (t : Nat) (s : State), t = c.sqe.cdw10 % 1024 →
    (s.win.txn.state ≠ 0 → s.planPolicy c = .error .txnOpen) ∧
    (s.win.txn.state = 0 → c.sqe.cdw11.testBit 0 = true →
      (governs c.ref.fn t = false → s.planPolicy c = .error .tenantScope) ∧
      (governs c.ref.fn t = true → (∃ x ∈ s.owned t, s.ringBound x.1 = true) → s.planPolicy c = .error .zoneCaptureBound) ∧
      (governs c.ref.fn t = true → (∀ x ∈ s.owned t, s.ringBound x.1 = false) →
        s.planPolicy c = .ok (s.release t, 0) ∧ ((s.release t).tsec t).claimed = false ∧ ((s.release t).tsec t).counter = 0)) ∧
    (s.win.txn.state = 0 → c.sqe.cdw11.testBit 0 = false → c.ref.fn ≠ t → governs c.ref.fn t = false → s.planPolicy c = .error .tenantScope) ∧
    (∀ u d, s.win.txn.state = 0 → c.sqe.cdw11.testBit 0 = false → s.planPolicy c = .ok (u, d) → d = 0 ∧
      ∃ op ten, policySections c.ref.fn t = some (op, ten) ∧
        u.tsec t = { u.tsec t with
          nsmgmt := if op then (field (c.sqe.data ++ List.replicate (64 - c.sqe.data.length) 0) 4 1).testBit 0 else (u.tsec t).nsmgmt
          nsquota := if op then field (c.sqe.data ++ List.replicate (64 - c.sqe.data.length) 0) 5 1 else (u.tsec t).nsquota
          capture := if ten then (field (c.sqe.data ++ List.replicate (64 - c.sqe.data.length) 0) 8 1).testBit 0 else (u.tsec t).capture
          partner := if ten then field (c.sqe.data ++ List.replicate (64 - c.sqe.data.length) 0) 10 2 else (u.tsec t).partner })) ∧
  (∀ (r : CmdRef) (c : Cmd) (s : State), s.mayRun r c true 0xC6 →
    (c.sqe.cdw10 % 1024 = r.fn ∨ governs r.fn (c.sqe.cdw10 % 1024) = true →
      exec (.tenantPolicyGet r) s = .next (s.completeBytes c (s.policyBytes (c.sqe.cdw10 % 1024)))) ∧
    (c.sqe.cdw10 % 1024 ≠ r.fn → governs r.fn (c.sqe.cdw10 % 1024) = false → exec (.tenantPolicyGet r) s = .next (s.complete c .tenantScope))) ∧
  (∀ (a b : Bool) (s : State),
    (s.sec.writes = 0 → exec (.vaultStoreWriteDone a b) s = .next s) ∧
    (0 < s.sec.writes → ∃ t, exec (.vaultStoreWriteDone a b) s = .next t ∧ OnlyChanges [.ev, .sec, .free] s t ∧
      t.sec.writes = s.sec.writes - 1 ∧ t.sec.compacting = false ∧
      t.sec.storeA = (a && (s.sec.storeA || s.sec.compacting)) ∧ t.sec.storeB = (b && (s.sec.storeB || s.sec.compacting)) ∧
      (t.sec.storeA = false → t.sec.storeB = false → t.sec.tenants = [] ∧ t.sec.keys = [] ∧ t.sec.st = 3) ∧
      (t.sec.storeA = true ∨ t.sec.storeB = true → t.sec.tenants = s.sec.tenants ∧ t.sec.keys = s.sec.keys) ∧
      (t.sec.storeA = true → t.sec.storeB = true → s.sec.st = 2 → t.sec.st = 1) ∧
      (s.sec.storeA = t.sec.storeA → s.sec.storeB = t.sec.storeB → t.ev = s.ev))) ∧
  (∀ (a : Agent) (s : State),
    (s.sec.mbBusy = true → exec (.vaultStoreCompact a) s = .next (s.mailbox 1)) ∧
    (s.sec.mbBusy = false → exec (.vaultStoreCompact a) s = .next (s.withSec { s.sec with mbBusy := true, compacting := true, writes := s.sec.writes + 1 }))) ∧
  (∀ (a : Agent) (kat rng : Bool) (s : State),
    (s.sec.mbBusy = true → exec (.vaultSelfTest a kat rng) s = .next (s.mailbox 1)) ∧
    (s.sec.mbBusy = false →
      (kat = true → rng = true → exec (.vaultSelfTest a kat rng) s = .next (s.withSec { s.sec with trng := true, mbResult := 0 })) ∧
      (kat = false ∨ rng = false → exec (.vaultSelfTest a kat rng) s =
        .next ((s.withSec { s.sec with st := 4, trng := rng, mbResult := 2 }).drew.raise 0x043 1 3 [(1, s.diagCode)]))))

/-- Security Receive answers the protocol list, the certificate chain, a new exchange offer with the next number and the current time, and a signed report over the last nonce, which it uses up; without a nonce, or for another protocol, it is refused. Security Send keeps a nonce of exactly 32 bytes. A key blob of exactly 216 bytes uses up the offer, whatever comes of it; a blob that does not open is refused with its own status. Install stores the keys once the vault's store is written, claims an unclaimed tenant and sets its counter to 0; a locked tenant's key must be the one it had. Unlock needs both keys of the claimed tenant, and unlocks it with an event. Forms shown to complete (exec answers a next state, under conditions on the state and the operands alone): securityProtocolInformation, certificateChainReceive, exchangeOfferReceive, attestationNonceSend, attestedReportReceive, keyInstall, tenantUnlock. -/
def Obligations.KeyExchange : Prop :=
  (∀ (r : CmdRef) (c : Cmd) (s : State), s.mayRun r c true 0x82 →
    (secp c.sqe = 0 → spsp c.sqe = 0 → exec (.securityProtocolInformation r) s = .next (s.completeBytes c ((toBytes 6 0 ++ [0, 2, 0x00, 0xF0]).take c.sqe.cdw11))) ∧
    (¬ (secp c.sqe = 0 ∧ spsp c.sqe = 0) → ¬ (secp c.sqe = 0xF0 ∧ 1 ≤ spsp c.sqe ∧ spsp c.sqe ≤ 3) →
      exec (.securityProtocolInformation r) s = .next (s.complete c .invalidField)) ∧
    (secp c.sqe = 0xF0 → spsp c.sqe = 1 → exec (.certificateChainReceive r) s =
      .next (s.completeBytes c (((List.range 4096).map fun i => BitVec.ofNat 8 (Config.certChain i)).take c.sqe.cdw11))) ∧
    (secp c.sqe = 0xF0 → spsp c.sqe = 2 → ∃ (u : State) (o : Offer) (b : List Byte), exec (.exchangeOfferReceive r) s = .next (u.completeBytes c (b.take c.sqe.cdw11)) ∧
      OnlyChanges [.sec, .free] s u ∧ u.tsec r.fn = { s.tsec r.fn with offer := some o } ∧ o.num = (s.sec.offerNum + 1) % 2 ^ 32 ∧ o.time = s.ao.time ∧
      u.sec.offerNum = o.num ∧ o.nonce.length = 32) ∧
    (secp c.sqe = 0xF0 → spsp c.sqe = 3 →
      ((s.tsec r.fn).nonce = none → exec (.attestedReportReceive r) s = .next (s.complete c .invalidField)) ∧
      (∀ n, (s.tsec r.fn).nonce = some n → ∃ u : State, exec (.attestedReportReceive r) s =
          .next (u.completeBytes c ((toByteList (s.signed (s.reportBytes r.fn n))).take c.sqe.cdw11)) ∧
        OnlyChanges [.sec, .free] s u ∧ u.tsec r.fn = { s.tsec r.fn with nonce := none }))) ∧
  (∀ (r : CmdRef) (c : Cmd) (s : State), s.mayRun r c true 0x81 → secp c.sqe = 0xF0 → spsp c.sqe = 3 →
    (c.sqe.cdw11 ≠ 32 → exec (.attestationNonceSend r) s = .next (s.complete c .invalidField)) ∧
    (c.sqe.cdw11 = 32 → c.sqe.data.length = 32 → ∃ u : State, exec (.attestationNonceSend r) s = .next (u.complete c .success) ∧ OnlyChanges [.sec] s u ∧
      u.tsec r.fn = { s.tsec r.fn with nonce := some (octetsOf c.sqe.data) })) ∧
  (∀ (r : CmdRef) (c : Cmd) (s : State), s.cmd? r = some c → c.sqe.opc = 0x81 → r.qid = 0 → s.cqRoom r = true →
    (c.phase = .ready → secp c.sqe = 0xF0 → spsp c.sqe = 0x10 →
      (c.sqe.cdw11 ≠ 216 → exec (.keyInstall r) s = .next (s.complete c .invalidField)) ∧
      (c.sqe.cdw11 = 216 →
        (∀ st, s.openBlob r.fn c.sqe.data = .error st → exec (.keyInstall r) s = .next ((s.withdrawOffer r.fn).complete c st)) ∧
        (∀ tk sk, s.openBlob r.fn c.sqe.data = .ok (tk, sk) →
          ((s.tsec r.fn).locked = true → keyId tk ≠ (s.tsec r.fn).tkid → exec (.keyInstall r) s = .next ((s.withdrawOffer r.fn).complete c .sealAuthFailed)) ∧
          ((s.tsec r.fn).locked = false ∨ keyId tk = (s.tsec r.fn).tkid → ∃ u, exec (.keyInstall r) s = .next u ∧ OnlyChanges [.host, .sec] s u ∧
            u.cmd? r = some { c with phase := .background, units := tk ++ sk } ∧ u.sec.writes = s.sec.writes + 1 ∧
            u.tsec r.fn = { s.tsec r.fn with offer := none })))) ∧
    (c.phase = .ready → ¬ (secp c.sqe = 0xF0 ∧ (spsp c.sqe = 0x10 ∨ spsp c.sqe = 3 ∨ spsp c.sqe = 0x12)) → exec (.keyInstall r) s = .next (s.complete c .invalidField)) ∧
    (c.phase = .background →
      (0 < s.sec.writes → exec (.keyInstall r) s = .next s) ∧
      (s.sec.writes = 0 → ∃ u : State, exec (.keyInstall r) s = .next (u.complete c .success) ∧ OnlyChanges [.ev, .sec] s u ∧
        (u.tsec r.fn).claimed = true ∧ (u.tsec r.fn).tk = some (c.units.take 32) ∧ (u.tsec r.fn).sk = c.units.drop 32 ∧ (u.tsec r.fn).counter = 0 ∧
        (u.tsec r.fn).nsquota = (s.tsec r.fn).nsquota ∧
        ((s.tsec r.fn).claimed = true → (u.tsec r.fn).capture = (s.tsec r.fn).capture) ∧
        ((s.tsec r.fn).claimed = false → (u.tsec r.fn).capture = decide (r.fn < 2) ∧ (u.tsec r.fn).pvalid = false ∧ (u.tsec r.fn).tkvol = false)))) ∧
  (∀ (r : CmdRef) (c : Cmd) (s : State), s.mayRun r c true 0x81 → secp c.sqe = 0xF0 → spsp c.sqe = 0x12 → s.granted 136 = false →
    (c.sqe.cdw11 ≠ 216 → exec (.tenantUnlock r) s = .next (s.complete c .invalidField)) ∧
    (c.sqe.cdw11 = 216 →
      (∀ st, s.openBlob r.fn c.sqe.data = .error st → exec (.tenantUnlock r) s = .next ((s.withdrawOffer r.fn).complete c st)) ∧
      (∀ tk sk, s.openBlob r.fn c.sqe.data = .ok (tk, sk) →
        ((s.tsec r.fn).claimed = false ∨ keyId tk ≠ (s.tsec r.fn).tkid ∨ keyId sk ≠ (s.tsec r.fn).skid →
          exec (.tenantUnlock r) s = .next ((s.withdrawOffer r.fn).complete c .sealAuthFailed)) ∧
        ((s.tsec r.fn).claimed = true → keyId tk = (s.tsec r.fn).tkid → keyId sk = (s.tsec r.fn).skid →
          ((s.tsec r.fn).locked = false → exec (.tenantUnlock r) s = .next ((s.withdrawOffer r.fn).complete c .success)) ∧
          ((s.tsec r.fn).locked = true → ∃ u : State, exec (.tenantUnlock r) s = .next (u.complete c .success) ∧ OnlyChanges [.ev, .sec] s u ∧
            u.tsec r.fn = { s.tsec r.fn with offer := none, tk := some tk, locked := false }))))) ∧
  (∀ (t : Nat) (d : List Byte) (s : State), (s.tsec t).offer = none → s.openBlob t d = .error .invalidField)

/-- A request of a function that no host can reach, or while the vault has no state, is not answered. Version starts a new negotiation with no session left, capabilities and algorithms follow in their order, and everything else needs all three; a request out of order is answered Unexpected Request and an unknown one Unsupported Request. A key exchange adds a session with a number of its own, at most two; finishing it opens it, ending it removes it. Key programming needs an open session: a whole key set secures the stream only when it is complete, a start switches the stream to a complete set, a stop drops the set's keys; each answers its own status. A stream that becomes insecure loses its keys, with an event where its state changes. Forms shown to complete (exec answers a next state, under conditions on the state and the operands alone): spdmRequest, ideKmRequest, ideStreamInsecure. -/
def Obligations.SpdmAndIde : Prop :=
  (∀ (pf : Nat) (m : SpdmMsg) (s : State),
    (¬ (pf < 2 ∧ s.reachable pf = true ∧ s.sec.st ≠ 0) → exec (.spdmRequest pf m) s = .next s) ∧
    (pf < 2 → s.reachable pf = true → s.sec.st ≠ 0 →
      (m.code = 0x84 → exec (.spdmRequest pf m) s = .next ((s.putResp pf ⟨1, []⟩).spdmReply pf 0x04 0 0 ([0, 1] ++ octets 2 0x1200))) ∧
      (m.code = 0xE1 → (s.resp pf).stage ≠ 1 → exec (.spdmRequest pf m) s = .next (s.spdmError pf 0x04)) ∧
      (m.code = 0xE1 → (s.resp pf).stage = 1 → ∃ u, exec (.spdmRequest pf m) s = .next u ∧ OnlyChanges [.host, .sec, .free] s u ∧ u.resp pf = { s.resp pf with stage := 2 }) ∧
      (m.code = 0xE3 → (s.resp pf).stage ≠ 2 → exec (.spdmRequest pf m) s = .next (s.spdmError pf 0x04)) ∧
      (m.code = 0xE3 → (s.resp pf).stage = 2 → ∃ u, exec (.spdmRequest pf m) s = .next u ∧ OnlyChanges [.host, .sec] s u ∧ u.resp pf = { s.resp pf with stage := 3 }) ∧
      (m.code ∈ [0x81, 0x82, 0x83, 0xE0, 0xE4] → (s.resp pf).stage < 3 → exec (.spdmRequest pf m) s = .next (s.spdmError pf 0x04)) ∧
      (m.code = 0xE4 → 3 ≤ (s.resp pf).stage →
        (2 ≤ (s.resp pf).sessions.length → exec (.spdmRequest pf m) s = .next (s.spdmError pf 0x0A)) ∧
        ((s.resp pf).sessions.length < 2 → ∃ u y, exec (.spdmRequest pf m) s = .next u ∧ OnlyChanges [.host, .sec, .free] s u ∧
          u.resp pf = { s.resp pf with sessions := (s.resp pf).sessions ++ [y] } ∧ y.phase = 1 ∧ y.id = field m.body 0 2 + 2 ^ 16 * ((s.sec.nextSession + 1) % 2 ^ 16))) ∧
      (m.code = 0xE5 →
        (s.sessionOf pf m 1 = none → exec (.spdmRequest pf m) s = .next (s.spdmError pf 0x04)) ∧
        (∀ y, s.sessionOf pf m 1 = some y → ∃ u, exec (.spdmRequest pf m) s = .next u ∧ OnlyChanges [.host, .sec] s u ∧
          u.resp pf = { s.resp pf with sessions := (s.resp pf).sessions.map fun x => if x.id = y.id then { x with phase := 2 } else x })) ∧
      (m.code = 0xEC → ∀ y, s.sessionOf pf m 2 = some y → ∃ u, exec (.spdmRequest pf m) s = .next u ∧ OnlyChanges [.host, .sec] s u ∧
        u.resp pf = { s.resp pf with sessions := (s.resp pf).sessions.filter fun x => x.id != y.id }) ∧
      (m.code ∉ [0x84, 0xE1, 0xE3, 0x81, 0x82, 0x83, 0xE0, 0xE4, 0xE5, 0xE8, 0xE9, 0xEC] → exec (.spdmRequest pf m) s = .next (s.spdmError pf 0x07)))) ∧
  (∀ (pf : Nat) (m : IdeKmMsg) (x : IdeStream) (s : State), pf < 2 → s.reachable pf = true → s.sec.st ≠ 0 → x = s.stream (s.portOf pf) m.stream →
    (¬ (m.session = true ∧ ∃ y ∈ (s.resp pf).sessions, y.phase = 2) → exec (.ideKmRequest pf m) s = .next (s.spdmError pf 0x04)) ∧
    (m.session = true → (∃ y ∈ (s.resp pf).sessions, y.phase = 2) →
      (m.object = 0 → exec (.ideKmRequest pf m) s = .next (s.ideReply pf 1 m.stream x.st x.keySet)) ∧
      (m.object = 2 →
        (8 < m.stream ∨ 1 < m.keySet ∨ 1 < m.rxTx → exec (.ideKmRequest pf m) s = .next (s.ideReply pf 3 m.stream 3 (2 * m.keySet + m.rxTx))) ∧
        (m.stream ≤ 8 → m.keySet ≤ 1 → m.rxTx ≤ 1 → m.key.length = ideKeyLen → ∃ y : IdeStream, y = { x with keys := x.keys.ins (2 * m.keySet + m.rxTx) m.key } ∧
          exec (.ideKmRequest pf m) s = .next ((s.putStream (s.portOf pf) m.stream { y with
            st := if x.st = 0 ∧ y.complete m.keySet = true then 1 else x.st }).ideReply pf 3 m.stream 0 (2 * m.keySet + m.rxTx)))) ∧
      (m.object = 4 →
        (m.stream ≤ 8 → m.keySet ≤ 1 → x.complete m.keySet = true → exec (.ideKmRequest pf m) s =
          .next ((s.putStream (s.portOf pf) m.stream { x with st := 2, keySet := m.keySet }).ideReply pf 6 m.stream 0 (2 * m.keySet + m.rxTx))) ∧
        (8 < m.stream ∨ 1 < m.keySet ∨ x.complete m.keySet = false → exec (.ideKmRequest pf m) s = .next (s.ideReply pf 6 m.stream 3 (2 * m.keySet + m.rxTx)))) ∧
      (m.object = 5 → m.stream ≤ 8 → m.keySet ≤ 1 → exec (.ideKmRequest pf m) s =
        .next ((s.putStream (s.portOf pf) m.stream { x with keys := x.keys.filter (fun k => k.1 / 2 != m.keySet), st := if x.keySet = m.keySet then 0 else x.st }).ideReply
          pf 6 m.stream 0 (2 * m.keySet + m.rxTx))) ∧
      (m.object ∉ [0, 2, 4, 5] → exec (.ideKmRequest pf m) s = .next (s.spdmError pf 0x07)))) ∧
  (∀ (pf n cause : Nat) (s : State), pf < 2 → n ≤ 8 → ∃ u, exec (.ideStreamInsecure pf n cause) s = .next u ∧ OnlyChanges [.ev, .sec] s u ∧
    (u.stream (s.portOf pf) n).st = 0 ∧ (u.stream (s.portOf pf) n).keys = [] ∧
    ((s.stream (s.portOf pf) n).st = 0 → u.ev = s.ev)) ∧
  (∀ (x : IdeStream) (k : Nat), x.complete k = true ↔ (x.keys.get? (2 * k)).isSome = true ∧ (x.keys.get? (2 * k + 1)).isSome = true)

/-- While the endpoint is paused no NVMe-MI command runs; otherwise each runs at once and is answered. Reading data structures and polling controller health change nothing, a health poll that asks for it clears the change flags. Configuration keeps the bus frequency (1 to 3, I2C excluded) and the transmission unit (64 to 4,224), clears change flags, and refuses everything else. The vital product data are read within their size, and what is written is what is then read. An NVM subsystem reset resets the subsystem; the in-band forms of these commands have the same effects. Forms shown to complete (exec answers a next state, under conditions on the state and the operands alone): nvmeMiSend, nvmeMiReceive, readNvmeMiDataStructure, nvmSubsystemHealthStatusPoll, controllerHealthStatusPoll, configurationSet, configurationGet, vpdRead, vpdWrite, miReset, setupWindowAccess. -/
def Obligations.ManagementCommands : Prop :=
  (∀ (a b c : Nat) (f : Bool) (l : List Byte) (s : State), s.mgt.paused = true →
    exec (.readNvmeMiDataStructure a b c) s = .next s ∧ exec (.nvmSubsystemHealthStatusPoll f) s = .next s ∧ exec (.controllerHealthStatusPoll a b f) s = .next s ∧
    exec (.configurationSet a b c) s = .next s ∧ exec (.configurationGet a b) s = .next s ∧ exec (.vpdRead a b) s = .next s ∧ exec (.vpdWrite a l) s = .next s ∧
    exec (.miReset a) s = .next s ∧ exec (.setupWindowAccess f a b) s = .next s) ∧
  (∀ (a b c : Nat) (f : Bool) (s : State), s.mgt.paused = false →
    exec (.readNvmeMiDataStructure a b c) s = .next (s.answer (s.miRead a b c)) ∧
    exec (.nvmSubsystemHealthStatusPoll f) s = .next ((if f then s.clearChanges 65535 else s).answer s.miHealth) ∧
    (∃ l : List Nat, exec (.controllerHealthStatusPoll a b f) s = .next ((if f then s.clearChanges 65535 else s).answer ⟨miOk, l.length, l.flatMap s.ctrlHealth⟩) ∧
      l.length ≤ b + 1 ∧ ∀ x ∈ l, x ∈ s.controllers ∧ a ≤ x) ∧
    exec (.configurationGet a b) s = .next (s.answer (s.configGet a b)) ∧
    (c = 0 → exec (.miReset c) s = .next (s.subsystemReset.answer (.good []))) ∧ (c ≠ 0 → exec (.miReset c) s = .next (s.answer .bad)) ∧
    (a ≠ 2 → b ≠ 0 → exec (.configurationSet a b c) s = .next (s.answer .bad)) ∧
    (exec (.configurationSet 2 b c) s = .next ((s.clearChanges (c % 65536)).answer (.good []))) ∧
    (s.brd.mgmtSel = false → 1 ≤ c → c ≤ 3 → exec (.configurationSet 1 0 c) s = .next ((s.withMgt { s.mgt with freq := c }).answer (.good []))) ∧
    (s.brd.mgmtSel = true ∨ c < 1 ∨ 3 < c → exec (.configurationSet 1 0 c) s = .next (s.answer .bad)) ∧
    (64 ≤ c → c ≤ 4224 → exec (.configurationSet 3 0 c) s = .next ((s.withMgt { s.mgt with unit := c }).answer (.good []))) ∧
    (c < 64 ∨ 4224 < c → exec (.configurationSet 3 0 c) s = .next (s.answer .bad)) ∧
    exec (.setupWindowAccess f a b) s = .next ((s.miWindow f a b).1.answer (s.miWindow f a b).2)) ∧
  (∀ (off n : Nat) (bs : List Byte) (s : State), s.mgt.paused = false →
    (off + n ≤ vpdSize → exec (.vpdRead off n) s = .next (s.answer (.good ((List.range n).map fun i => s.vpdByte (off + i))))) ∧
    (vpdSize < off + n → exec (.vpdRead off n) s = .next (s.answer .bad)) ∧
    (vpdSize < off + bs.length → exec (.vpdWrite off bs) s = .next (s.answer .bad)) ∧
    (off + bs.length ≤ vpdSize → ∃ u, exec (.vpdWrite off bs) s = .next u ∧ OnlyChanges [.host, .mgt] s u ∧
      (∀ i (h : i < bs.length), u.vpdByte (off + i) = bs[i]) ∧ (∀ a, a < off ∨ off + bs.length ≤ a → u.vpdByte a = s.vpdByte a))) ∧
  (∀ (r : CmdRef) (c : Cmd) (s : State),
    (s.mayRun r c true 0x1D → c.sqe.cdw11 % 256 = 7 → bits c.sqe.cdw12 31 24 = 0 → exec (.nvmeMiSend r) s = .next s.subsystemReset) ∧
    (s.mayRun r c true 0x1D → ¬ (c.sqe.cdw11 % 256 = 7 ∧ bits c.sqe.cdw12 31 24 = 0) → exec (.nvmeMiSend r) s =
      .next ((s.inBand c.sqe true).1.complete c .success ((s.inBand c.sqe true).2.status + 256 * (s.inBand c.sqe true).2.resp))) ∧
    (s.mayRun r c true 0x1E → exec (.nvmeMiReceive r) s =
      .next ((s.inBand c.sqe false).1.completeBytes c (s.inBand c.sqe false).2.data ((s.inBand c.sqe false).2.status + 256 * (s.inBand c.sqe false).2.resp))) ∧
    (c.sqe.cdw11 % 256 = 5 → s.inBand c.sqe false = (s, s.vpdRead (bits c.sqe.cdw12 15 0) (bits c.sqe.cdw13 15 0))) ∧
    (c.sqe.cdw11 % 256 = 6 → s.inBand c.sqe true = s.vpdWrite (bits c.sqe.cdw12 15 0) (c.sqe.data.take (bits c.sqe.cdw13 15 0))))

/-- An endpoint identifier is taken unless it is 0 or 255; the endpoint answers its identifier, and pausing and resuming switch the NVMe-MI commands off and on; an unknown control command is refused. A dynamic address is taken once, on an I3C bus. A tunnelled administrator command of a physical function enters as a fetched command, is refused where its opcode is not tunnelled or a check fails, and changes nothing while the endpoint is paused, the controller is not enabled or a flush is in progress. A reset of the endpoint keeps its address, product data and change flags, raises its event, and ends its own open transaction. A commit whose image is saved goes on to be applied, and one whose save fails is rejected; applying it writes every shadowed register and closes the transaction with its result and event. Forms shown to complete (exec answers a next state, under conditions on the state and the operands alone): commitImageSaved, commitIslandsHeld, mctpControlMessage, tunnelledAdminCommand, managementEndpointReset, dynamicAddressAssignment. -/
def Obligations.ManagementEndpoint : Prop :=
  (∀ (m : MctpMsg) (n : Nat) (s : State), n = ofBytes ((m.data.drop 1).take 1) →
    (m.cmd = 1 → n ≠ 0 → n ≠ 255 → exec (.mctpControlMessage m) s = .next ((s.withMgt { s.mgt with eid := n }).send (.mgmt (layRow [(1, 0), (1, 0), (1, n), (1, 0)])))) ∧
    (m.cmd = 1 → n = 0 ∨ n = 255 → exec (.mctpControlMessage m) s = .next (s.send (.mgmt (layRow [(1, 2)])))) ∧
    (m.cmd = 2 → exec (.mctpControlMessage m) s = .next (s.send (.mgmt (layRow [(1, 0), (1, s.mgt.eid), (1, 0), (1, 0)])))) ∧
    (m.cmd = 0x100 → exec (.mctpControlMessage m) s = .next ((s.withMgt { s.mgt with paused := true }).send (.mgmt (miAnswer 0 1 [])))) ∧
    (m.cmd = 0x101 → exec (.mctpControlMessage m) s = .next ((s.withMgt { s.mgt with paused := false }).send (.mgmt (miAnswer 0 0 [])))) ∧
    (m.cmd ∉ [1, 2, 3, 4, 5, 0x100, 0x101] → exec (.mctpControlMessage m) s = .next (s.send (.mgmt (layRow [(1, 5)]))))) ∧
  (∀ (a : Nat) (f : Bool) (s : State),
    (s.brd.mgmtSel = true → a < 128 → s.mgt.addr = none → exec (.dynamicAddressAssignment a f) s = .next (s.withMgt { s.mgt with addr := some a })) ∧
    (s.brd.mgmtSel = false ∨ 128 ≤ a ∨ s.mgt.addr ≠ none → exec (.dynamicAddressAssignment a f) s = .next s)) ∧
  (∀ (pf : Nat) (e : Sqe) (s : State),
    (s.mgt.paused = true ∨ s.host.enabled = false ∨ s.host.paused = true ∨ s.hld.flush ≠ .none → exec (.tunnelledAdminCommand pf e) s = .next s) ∧
    (s.mgt.paused = false → s.host.enabled = true → s.host.paused = false → s.hld.flush = .none → s.cmd? ⟨pf, 0, tunnelCid + e.cid⟩ = none →
      (2 ≤ pf → exec (.tunnelledAdminCommand pf e) s = .next (s.answer .bad)) ∧
      (pf < 2 → tunnelled.contains e.opc = false → exec (.tunnelledAdminCommand pf e) s = .next (s.answer ⟨miBadOpcode, 0, []⟩)) ∧
      (pf < 2 → tunnelled.contains e.opc = true → ∃ c : Cmd, c.ref = ⟨pf, 0, tunnelCid + e.cid⟩ ∧ c.tunnel = true ∧
        (s.fetchStatus pf 0 e false = .success → exec (.tunnelledAdminCommand pf e) s = .next (s.withHost { s.host with cmds := s.host.cmds ++ [c] })) ∧
        (∀ st, s.fetchStatus pf 0 e false = st → st ≠ .success → exec (.tunnelledAdminCommand pf e) s = .next (s.complete c st))))) ∧
  (∀ (cause : Nat) (s : State), ∃ u, exec (.managementEndpointReset cause) s = .next u ∧ OnlyChanges [.win, .ev, .mgt] s u ∧
    u.mgt = { Mgmt.reset with vpd := s.mgt.vpd, changes := s.mgt.changes, addr := s.mgt.addr } ∧
    (s.win.txn.owner = 3 → s.win.txn.state = 1 → u.win.txn.state = 0 ∧ u.win.txn.result = 5 ∧ u.win.shadow = []) ∧
    (s.win.txn.owner ≠ 3 → u.win = s.win)) ∧
  (∀ (ok : Bool) (s : State),
    (s.win.txn.state ≠ 3 → exec (.commitImageSaved ok) s = .next s) ∧
    (s.win.txn.state = 3 → ok = true → ∃ u, exec (.commitImageSaved ok) s = .next u ∧ OnlyChanges [.win, .boot] s u ∧ u.win = { s.win with txn := { s.win.txn with state := 4 } }) ∧
    (s.win.txn.state = 3 → ok = false → ∃ u, exec (.commitImageSaved ok) s = .next u ∧ OnlyChanges [.win, .ev] s u ∧
      u.win = { s.win with shadow := [], txn := { s.win.txn with state := 0, result := 3, reason := 2, offset := 0, save := false } })) ∧
  (∀ s : State,
    (s.win.txn.state ≠ 4 → exec .commitIslandsHeld s = .next s) ∧
    (s.win.txn.state = 4 → ∃ u, exec .commitIslandsHeld s = .next u ∧ u.win.txn.state = 0 ∧ u.win.txn.result = (if s.win.txn.save then 2 else 1) ∧
      u.win.shadow = [] ∧ u.win.regs = s.settleBuckets.applyShadows.win.regs))

/-- Whatever step is taken, the SVN floor does not fall, no revoked key slot is restored, and the valid key slots, the production fuse and the grade stay as they were made. Only an image that completes start-up to port enable, or a hot activation, raises the floor or revokes slots: every other command leaves all fuses as they were. -/
def Obligations.FusesOnlyBurn : Prop :=
  (∀ (s t : State), step s = .next t →
    s.sec.svnFloor ≤ t.sec.svnFloor ∧ (∀ i, s.sec.krevoked.testBit i = true → t.sec.krevoked.testBit i = true) ∧
    t.sec.kvalid = s.sec.kvalid ∧ t.sec.prod = s.sec.prod ∧ t.sec.gradeX = s.sec.gradeX) ∧
  (∀ (c : Instr) (s t : State), exec c s = .next t → (∀ res, c ≠ .startupStageComplete res) → (∀ ok pause, c ≠ .activationComplete ok pause) →
    t.sec.fuses = s.sec.fuses) ∧
  (∀ (slot : Nat) (i : FwInfo) (s : State), (s.checkSlot slot).info? = some i →
    (s.raiseFloor slot).sec.svnFloor = (if i.raise then max s.sec.svnFloor i.svn else s.sec.svnFloor) ∧
    (s.raiseFloor slot).sec.krevoked = if i.raise && i.revoke then s.sec.krevoked ||| i.mask else s.sec.krevoked)

/-- For every register of the register tables and every index its table gives it, the offset of the register locates exactly that register with those indices, and the offset of the high dword of a 64-bit register locates its high dword: no two registers overlap, and no register of an array is lost. Whatever offset locates a register lies within that register's bytes, with indices in the ranges of its table. -/
def Obligations.RegisterLocations : Prop :=
  (∀ (r : RegName) (i j : Nat), (if r.place.s1 = 0 then i = 0 else i < r.place.n1) → (if r.place.s2 = 0 then j = 0 else j < r.place.n2) →
    locate (RegRef.off ⟨r, i, j⟩) = some (⟨r, i, j⟩, false) ∧
    (r.place.wide = true → locate (RegRef.off ⟨r, i, j⟩ + 4) = some (⟨r, i, j⟩, true))) ∧
  (∀ (off : Nat) (q : RegRef) (h : Bool), locate off = some (q, h) →
    q.off ≤ off ∧ off < q.off + q.size ∧ (h = true ↔ q.off + 4 ≤ off) ∧
    (if q.reg.place.s1 = 0 then q.i = 0 else q.i < q.reg.place.n1) ∧ (if q.reg.place.s2 = 0 then q.j = 0 else q.j < q.reg.place.n2))

/-- With the units per 4-page group of its 16 wordline groups, unit slot s of a block lies in the wordline group w whose range of slots holds it, in 4-page group 64w + o div n_w as unit o mod n_w, where o is its offset from the first slot of w and n_w the units per group there. A slot at or past the block's unit count lies nowhere. -/
def Obligations.UnitSlotsOfABlock : Prop :=
  ∀ (die k s w : Nat) (m : State) (n : List Nat) (base : Nat → Nat), n = m.groupUnits die k → base = (fun w => 64 * (n.take w).sum) →
    (w < 16 → base w ≤ s → s < base (w + 1) → slotPlace n 0 s = some (w, 64 * w + (s - base w) / nth n w 0, (s - base w) % nth n w 0)) ∧
    (m.unitCount die k ≤ s → slotPlace n 0 s = none)

/-- At reset no command waits, no write of a register is stored, no image is loaded, no transaction is open and the Setup Window is not locked; start-up has not begun, no port is up, no function is enabled and no command is in flight; no granule is lent, no capture ring is bound, no record, unit or set is held; every tenant is unclaimed with the policy of manufacture; the fuses are those of a production part as it leaves manufacture (SVN floor 0, no key revoked, four keys valid); DRAM and the firmware store list no byte. (A DRAM byte that nothing has written reads as 0, and the delivered firmware store is the model's choice: log entries 6, 8 and 9.) At reset no byte of DRAM, of the NOR or of a downloaded image is listed, which is the canonical form. -/
def Obligations.ResetState : Prop :=
  (State.reset.pending = [] ∧ State.reset.win.regs = [] ∧ State.reset.win.img = none ∧ State.reset.win.txn.state = 0 ∧ State.reset.win.locked = false ∧
  State.reset.boot.stage = 0 ∧ (State.reset.port 0).up = false ∧ (State.reset.port 1).up = false ∧ State.reset.host.enabled = false ∧ State.reset.host.cmds = [] ∧
  State.reset.col.table = [] ∧ State.reset.bpm.tags = [] ∧ State.reset.str.dram = [] ∧ State.reset.zon.ns = [] ∧ State.reset.zon.zdt = [] ∧
  State.reset.sec.svnFloor = 0 ∧ State.reset.sec.krevoked = 0 ∧ State.reset.sec.kvalid = 15 ∧ State.reset.sec.prod = true ∧
  (∀ t, (State.reset.tsec t).claimed = false ∧ (State.reset.tsec t).counter = 0 ∧ (State.reset.tsec t).nsmgmt = true ∧ (State.reset.tsec t).nsquota = 16 ∧
    (State.reset.tsec t).tkvol = false ∧ (State.reset.tsec t).pvalid = false ∧ (State.reset.tsec t).capture = decide (t < 2)) ∧
  State.reset.drm.mem = [] ∧ State.reset.boot.nor = []) ∧
  (State.reset.memWf = true)
end

