-- ==== Sys2Proof/Laws/Completes.lean ====
section
/-!
SUPPORT. Every command completes: in every state each meaning answers a next state, but for the two requests to DRAM, which do so where the address exists.
-/

namespace Sys2Proof.Machine

open Sys2Proof
set_option linter.all false

/-- The outcome goes on to a next state. -/
def GoesOn (o : Outcome) : Prop := ∃ t, o = .next t
@[simp] theorem GoesOn.next (t : State) : GoesOn (.next t) := ⟨t, rfl⟩
theorem GoesOn.ite {c : Prop} [Decidable c] {a b : Outcome} (h : GoesOn a) (k : GoesOn b) : GoesOn (if c then a else b) := by
  split <;> assumption
@[simp] theorem State.runReady_goes (s : State) (r : CmdRef) (q : Bool) (opc : Nat) (f : Cmd → State) : GoesOn (s.runReady r q opc f) := by
  unfold State.runReady
  (repeat' split) <;> simp
@[simp] theorem State.runRead_goes (s : State) (r : CmdRef) (opc : Nat) (f : Cmd → Bool) : GoesOn (s.runRead r opc f) := by
  unfold State.runRead
  (repeat' split) <;> simp
@[simp] theorem State.runZoneAction_goes (s : State) (r : CmdRef) (act : Nat) : GoesOn (s.runZoneAction r act) := by
  unfold State.runZoneAction
  (repeat' split) <;> simp
@[simp] theorem State.runWrite_goes (s : State) (r : CmdRef) (opc : Nat) (f : Cmd → Ns → State) : GoesOn (s.runWrite r opc f) := by
  unfold State.runWrite
  (repeat' split) <;> simp
@[simp] theorem State.miRun_goes (s : State) (f : State → State × MiRes) : GoesOn (s.miRun f) := by
  unfold State.miRun
  (repeat' split) <;> simp
@[simp] theorem State.runStored_goes (s : State) (r : CmdRef) (opc : Nat) (w : Cmd → Bool) (plan : Cmd → Except Status (State × Nat)) :
    GoesOn (s.runStored r opc w plan) := by
  unfold State.runStored
  (repeat' split) <;> simp

theorem execTransactionBegin_goes (a : Agent) (s : State) : GoesOn (execTransactionBegin a s) := by
  unfold execTransactionBegin
  (try dsimp only)
  (repeat' split) <;> first | (simp; done) | skip
theorem execTransactionCommit_goes (a : Agent) (save : Bool) (s : State) : GoesOn (execTransactionCommit a save s) := by
  unfold execTransactionCommit
  (try dsimp only)
  (repeat' split) <;> first | (simp; done) | skip
theorem execTransactionAbort_goes (a : Agent) (s : State) : GoesOn (execTransactionAbort a s) := by
  unfold execTransactionAbort
  (try dsimp only)
  (repeat' split) <;> first | (simp; done) | skip
theorem execTransactionTimeout_goes (s : State) : GoesOn (execTransactionTimeout s) := by
  unfold execTransactionTimeout
  (try dsimp only)
  (repeat' split) <;> first | (simp; done) | skip
theorem execBootLock_goes (a : Agent) (s : State) : GoesOn (execBootLock a s) := by
  unfold execBootLock
  (try dsimp only)
  (repeat' split) <;> first | (simp; done) | skip
theorem execCountedFree_goes (engine p g : Nat) (s : State) : GoesOn (execCountedFree engine p g s) := by
  unfold execCountedFree
  (try dsimp only)
  (repeat' split) <;> first | (simp; done) | skip
theorem execNamedOwnerFree_goes (engine p g owner : Nat) (s : State) : GoesOn (execNamedOwnerFree engine p g owner s) := by
  unfold execNamedOwnerFree
  (try dsimp only)
  (repeat' split) <;> first | (simp; done) | skip
theorem execReferenceTake_goes (engine p g : Nat) (s : State) : GoesOn (execReferenceTake engine p g s) := by
  unfold execReferenceTake
  (try dsimp only)
  (repeat' split) <;> first | (simp; done) | skip
theorem execStripeUnitPlacement_goes (csn : Nat) (comp : Bool) (s : State) : GoesOn (execStripeUnitPlacement csn comp s) := by
  unfold execStripeUnitPlacement
  (try dsimp only)
  (repeat' split) <;> first | (simp; done) | skip
theorem execGroupProgram_goes (setid m grp : Nat) (s : State) : GoesOn (execGroupProgram setid m grp s) := by
  unfold execGroupProgram
  (try dsimp only)
  (repeat' split) <;> first | (simp; done) | skip
theorem execBankReady_goes (vbank : Nat) (s : State) : GoesOn (execBankReady vbank s) := by
  unfold execBankReady
  (try dsimp only)
  (repeat' split) <;> first | (simp; done) | skip
theorem execBankAboveVFloor_goes (vbank : Nat) (s : State) : GoesOn (execBankAboveVFloor vbank s) := by
  unfold execBankAboveVFloor
  (try dsimp only)
  (repeat' split) <;> first | (simp; done) | skip
theorem execEnergyTestRequest_goes (a : Agent) (s : State) : GoesOn (execEnergyTestRequest a s) := by
  unfold execEnergyTestRequest
  (try dsimp only)
  (repeat' split) <;> first | (simp; done) | skip
theorem execTestPeriodExpiry_goes (s : State) : GoesOn (execTestPeriodExpiry s) := by
  unfold execTestPeriodExpiry
  (try dsimp only)
  (repeat' split) <;> first | (simp; done) | skip
theorem execEnergyTestStart_goes (v0 v1 : Nat) (s : State) : GoesOn (execEnergyTestStart v0 v1 s) := by
  unfold execEnergyTestStart
  (try dsimp only)
  (repeat' split) <;> first | (simp; done) | skip
theorem execTestDischargeEnd_goes (vbank tns : Nat) (s : State) : GoesOn (execTestDischargeEnd vbank tns s) := by
  unfold execTestDischargeEnd
  (try dsimp only)
  (repeat' split) <;> first | (simp; done) | skip
theorem execEnergyTestComplete_goes (vbank : Nat) (s : State) : GoesOn (execEnergyTestComplete vbank s) := by
  unfold execEnergyTestComplete
  (try dsimp only)
  (repeat' split) <;> first | (simp; done) | skip
theorem execVinBelowThreshold_goes (v : Nat) (s : State) : GoesOn (execVinBelowThreshold v s) := by
  unfold execVinBelowThreshold
  (try dsimp only)
  (repeat' split) <;> first | (simp; done) | skip
theorem execVinDip_goes (v low us : Nat) (s : State) : GoesOn (execVinDip v low us s) := by
  unfold execVinDip
  (try dsimp only)
  (repeat' split) <;> first | (simp; done) | skip
theorem execDoorbellWrite_goes (fn qid tail : Nat) (entries : List Sqe) (s : State) : GoesOn (execDoorbellWrite fn qid tail entries s) := by
  unfold execDoorbellWrite
  (try dsimp only)
  (repeat' split) <;> first | (simp; done) | skip
theorem execCqHeadDoorbell_goes (fn qid head : Nat) (s : State) : GoesOn (execCqHeadDoorbell fn qid head s) := by
  unfold execCqHeadDoorbell
  (try dsimp only)
  (repeat' split) <;> first | (simp; done) | skip
theorem execCommandFetch_goes (fn qid : Nat) (s : State) : GoesOn (execCommandFetch fn qid s) := by
  unfold execCommandFetch
  (try dsimp only)
  (repeat' split) <;> first | (simp; done) | skip
theorem execCommandAdmission_goes (r : CmdRef) (s : State) : GoesOn (execCommandAdmission r s) := by
  unfold execCommandAdmission
  (try dsimp only)
  (repeat' split) <;> first | (simp; done) | skip
theorem execLockGrant_goes (r : CmdRef) (s : State) : GoesOn (execLockGrant r s) := by
  unfold execLockGrant
  (try dsimp only)
  (repeat' split) <;> first | (simp; done) | skip
theorem execZoneOpen_goes (r : CmdRef) (s : State) : GoesOn (execZoneOpen r s) := by
  unfold execZoneOpen
  (try dsimp only)
  (repeat' split) <;> first | (simp; done) | skip
theorem execZoneClose_goes (r : CmdRef) (s : State) : GoesOn (execZoneClose r s) := by
  unfold execZoneClose
  (try dsimp only)
  (repeat' split) <;> first | (simp; done) | skip
theorem execZoneFinish_goes (r : CmdRef) (s : State) : GoesOn (execZoneFinish r s) := by
  unfold execZoneFinish
  (try dsimp only)
  (repeat' split) <;> first | (simp; done) | skip
theorem execZoneReset_goes (r : CmdRef) (s : State) : GoesOn (execZoneReset r s) := by
  unfold execZoneReset
  (try dsimp only)
  (repeat' split) <;> first | (simp; done) | skip
theorem execZoneOffline_goes (r : CmdRef) (s : State) : GoesOn (execZoneOffline r s) := by
  unfold execZoneOffline
  (try dsimp only)
  (repeat' split) <;> first | (simp; done) | skip
theorem execZoneActionAcknowledge_goes (r : CmdRef) (s : State) : GoesOn (execZoneActionAcknowledge r s) := by
  unfold execZoneActionAcknowledge
  (try dsimp only)
  (repeat' split) <;> first | (simp; done) | skip
theorem execWrite_goes (r : CmdRef) (s : State) : GoesOn (execWrite r s) := by
  unfold execWrite
  (try dsimp only)
  (repeat' split) <;> first | (simp; done) | skip
theorem execZoneAppend_goes (r : CmdRef) (s : State) : GoesOn (execZoneAppend r s) := by
  unfold execZoneAppend
  (try dsimp only)
  (repeat' split) <;> first | (simp; done) | skip
theorem execWriteZeroes_goes (r : CmdRef) (s : State) : GoesOn (execWriteZeroes r s) := by
  unfold execWriteZeroes
  (try dsimp only)
  (repeat' split) <;> first | (simp; done) | skip
theorem execWriteUncorrectable_goes (r : CmdRef) (s : State) : GoesOn (execWriteUncorrectable r s) := by
  unfold execWriteUncorrectable
  (try dsimp only)
  (repeat' split) <;> first | (simp; done) | skip
theorem execDatasetManagement_goes (r : CmdRef) (taken : Nat) (s : State) : GoesOn (execDatasetManagement r taken s) := by
  unfold execDatasetManagement
  (try dsimp only)
  (repeat' split) <;> first | (simp; done) | skip
theorem execJournalPageTimer_goes (s : State) : GoesOn (execJournalPageTimer s) := by
  unfold execJournalPageTimer
  (try dsimp only)
  (repeat' split) <;> first | (simp; done) | skip
theorem execJournalPageProgrammed_goes (seq : Nat) (s : State) : GoesOn (execJournalPageProgrammed seq s) := by
  unfold execJournalPageProgrammed
  (try dsimp only)
  (repeat' split) <;> first | (simp; done) | skip
theorem execLatencyMonitorConfig_goes (a : Agent) (v : Nat) (s : State) : GoesOn (execLatencyMonitorConfig a v s) := by
  unfold execLatencyMonitorConfig
  (try dsimp only)
  (repeat' split) <;> first | (simp; done) | skip
theorem execHostDataBlock_goes (r : CmdRef) (data : Block) (mdata : Nat) (pi : PiCheck) (s : State) : GoesOn (execHostDataBlock r data mdata pi s) := by
  unfold execHostDataBlock
  (try dsimp only)
  (repeat' split) <;> first | (simp; done) | skip
theorem execHoldupCreditGrant_goes (s : State) : GoesOn (execHoldupCreditGrant s) := by
  unfold execHoldupCreditGrant
  (try dsimp only)
  (repeat' split) <;> first | (simp; done) | skip
theorem execWriteCompletion_goes (r : CmdRef) (s : State) : GoesOn (execWriteCompletion r s) := by
  unfold execWriteCompletion
  (try dsimp only)
  (repeat' split) <;> first | (simp; done) | skip
theorem execFuaCompletion_goes (r : CmdRef) (s : State) : GoesOn (execFuaCompletion r s) := by
  unfold execFuaCompletion
  (try dsimp only)
  (repeat' split) <;> first | (simp; done) | skip
theorem execFlush_goes (r : CmdRef) (s : State) : GoesOn (execFlush r s) := by
  unfold execFlush
  (try dsimp only)
  (repeat' split) <;> first | (simp; done) | skip
theorem execFlushCompletion_goes (r : CmdRef) (s : State) : GoesOn (execFlushCompletion r s) := by
  unfold execFlushCompletion
  (try dsimp only)
  (repeat' split) <;> first | (simp; done) | skip
theorem execEpochEnd_goes (nsix : Nat) (s : State) : GoesOn (execEpochEnd nsix s) := by
  unfold execEpochEnd
  (try dsimp only)
  (repeat' split) <;> first | (simp; done) | skip
theorem execLostLbaSearchEnd_goes (record pos : Nat) (s : State) : GoesOn (execLostLbaSearchEnd record pos s) := by
  unfold execLostLbaSearchEnd
  (try dsimp only)
  (repeat' split) <;> first | (simp; done) | skip
theorem execMemberReplacement_goes (setid m : Nat) (s : State) : GoesOn (execMemberReplacement setid m s) := by
  unfold execMemberReplacement
  (try dsimp only)
  (repeat' split) <;> first | (simp; done) | skip
theorem execRebuildRow_goes (s : State) : GoesOn (execRebuildRow s) := by
  unfold execRebuildRow
  (try dsimp only)
  (repeat' split) <;> first | (simp; done) | skip
theorem execStagedReadback_goes (setid row : Nat) (s : State) : GoesOn (execStagedReadback setid row s) := by
  unfold execStagedReadback
  (try dsimp only)
  (repeat' split) <;> first | (simp; done) | skip
theorem execInhibitWaitTimeout_goes (die : Nat) (s : State) : GoesOn (execInhibitWaitTimeout die s) := by
  unfold execInhibitWaitTimeout
  (try dsimp only)
  (repeat' split) <;> first | (simp; done) | skip
theorem execStripeCounterClear_goes (a : Agent) (s : State) : GoesOn (execStripeCounterClear a s) := by
  unfold execStripeCounterClear
  (try dsimp only)
  (repeat' split) <;> first | (simp; done) | skip
theorem execReconstructionComplete_goes (id : Nat) (s : State) : GoesOn (execReconstructionComplete id s) := by
  unfold execReconstructionComplete
  (try dsimp only)
  (repeat' split) <;> first | (simp; done) | skip
theorem execDieDispatch_goes (die : Nat) (s : State) : GoesOn (execDieDispatch die s) := by
  unfold execDieDispatch
  (try dsimp only)
  (repeat' split) <;> first | (simp; done) | skip
theorem execClassAgeingTimeout_goes (die : Nat) (s : State) : GoesOn (execClassAgeingTimeout die s) := by
  unfold execClassAgeingTimeout
  (try dsimp only)
  (repeat' split) <;> first | (simp; done) | skip
theorem execSuspholdExpiry_goes (die : Nat) (s : State) : GoesOn (execSuspholdExpiry die s) := by
  unfold execSuspholdExpiry
  (try dsimp only)
  (repeat' split) <;> first | (simp; done) | skip
theorem execRdata_goes (link : Nat) (f : Frame) (s : State) : GoesOn (execRdata link f s) := by
  unfold execRdata
  (try dsimp only)
  (repeat' split) <;> first | (simp; done) | skip
theorem execSdata_goes (link : Nat) (f : Frame) (s : State) : GoesOn (execSdata link f s) := by
  unfold execSdata
  (try dsimp only)
  (repeat' split) <;> first | (simp; done) | skip
theorem execDone_goes (link : Nat) (f : Frame) (s : State) : GoesOn (execDone link f s) := by
  unfold execDone
  (try dsimp only)
  (repeat' split) <;> first | (simp; done) | skip
theorem execBusy_goes (link : Nat) (f : Frame) (s : State) : GoesOn (execBusy link f s) := by
  unfold execBusy
  (try dsimp only)
  (repeat' split) <;> first | (simp; done) | skip
theorem execInhibit_goes (link : Nat) (f : Frame) (s : State) : GoesOn (execInhibit link f s) := by
  unfold execInhibit
  (try dsimp only)
  (repeat' split) <;> first | (simp; done) | skip
theorem execStatusRsp_goes (link : Nat) (f : Frame) (s : State) : GoesOn (execStatusRsp link f s) := by
  unfold execStatusRsp
  (try dsimp only)
  (repeat' split) <;> first | (simp; done) | skip
theorem execNak_goes (link : Nat) (f : Frame) (s : State) : GoesOn (execNak link f s) := by
  unfold execNak
  (try dsimp only)
  (repeat' split) <;> first | (simp; done) | skip
theorem execAlert_goes (link : Nat) (f : Frame) (s : State) : GoesOn (execAlert link f s) := by
  unfold execAlert
  (try dsimp only)
  (repeat' split) <;> first | (simp; done) | skip
theorem execRegData_goes (link : Nat) (f : Frame) (s : State) : GoesOn (execRegData link f s) := by
  unfold execRegData
  (try dsimp only)
  (repeat' split) <;> first | (simp; done) | skip
theorem execTrainRsp_goes (link : Nat) (f : Frame) (errs : Nat) (s : State) : GoesOn (execTrainRsp link f errs s) := by
  unfold execTrainRsp
  (try dsimp only)
  (repeat' split) <;> first | (simp; done) | skip
theorem execTrainDetectTimer_goes (link lane : Nat) (s : State) : GoesOn (execTrainDetectTimer link lane s) := by
  unfold execTrainDetectTimer
  (try dsimp only)
  (repeat' split) <;> first | (simp; done) | skip
theorem execLinkTrainingPhaseTimeout_goes (link lane : Nat) (s : State) : GoesOn (execLinkTrainingPhaseTimeout link lane s) := by
  unfold execLinkTrainingPhaseTimeout
  (try dsimp only)
  (repeat' split) <;> first | (simp; done) | skip
theorem execCorruptFrame_goes (link lane : Nat) (hcrc : Bool) (s : State) : GoesOn (execCorruptFrame link lane hcrc s) := by
  unfold execCorruptFrame
  (try dsimp only)
  (repeat' split) <;> first | (simp; done) | skip
theorem execFrameLengthTimeout_goes (link lane : Nat) (s : State) : GoesOn (execFrameLengthTimeout link lane s) := by
  unfold execFrameLengthTimeout
  (try dsimp only)
  (repeat' split) <;> first | (simp; done) | skip
theorem execBurstEnd_goes (link lane : Nat) (cut : Bool) (s : State) : GoesOn (execBurstEnd link lane cut s) := by
  unfold execBurstEnd
  (try dsimp only)
  (repeat' split) <;> first | (simp; done) | skip
theorem execTagTimerExpiry_goes (link tag : Nat) (s : State) : GoesOn (execTagTimerExpiry link tag s) := by
  unfold execTagTimerExpiry
  (try dsimp only)
  (repeat' split) <;> first | (simp; done) | skip
theorem execQuarantineExpiry_goes (link tag : Nat) (s : State) : GoesOn (execQuarantineExpiry link tag s) := by
  unfold execQuarantineExpiry
  (try dsimp only)
  (repeat' split) <;> first | (simp; done) | skip
theorem execInhibitPollTimer_goes (link : Nat) (s : State) : GoesOn (execInhibitPollTimer link s) := by
  unfold execInhibitPollTimer
  (try dsimp only)
  (repeat' split) <;> first | (simp; done) | skip
theorem execDieTempPoll_goes (die : Nat) (s : State) : GoesOn (execDieTempPoll die s) := by
  unfold execDieTempPoll
  (try dsimp only)
  (repeat' split) <;> first | (simp; done) | skip
theorem execResetbr_goes (a : Agent) (link : Nat) (s : State) : GoesOn (execResetbr a link s) := by
  unfold execResetbr
  (try dsimp only)
  (repeat' split) <;> first | (simp; done) | skip
theorem execRetrain_goes (a : Agent) (link : Nat) (s : State) : GoesOn (execRetrain a link s) := by
  unfold execRetrain
  (try dsimp only)
  (repeat' split) <;> first | (simp; done) | skip
theorem execLinkCounterClear_goes (a : Agent) (link : Nat) (s : State) : GoesOn (execLinkCounterClear a link s) := by
  unfold execLinkCounterClear
  (try dsimp only)
  (repeat' split) <;> first | (simp; done) | skip
theorem execDramWriteRequest_goes (addr data : Nat) (s : State) (h : addr < s.dramSize) : GoesOn (execDramWriteRequest addr data s) := by
  unfold execDramWriteRequest
  rw [if_neg (by omega)]
  (try dsimp only)
  (repeat' split) <;> first | simp; done | skip
theorem execDramReadRequest_goes (addr : Nat) (sym : DramSyms) (s : State) (h : addr < s.dramSize) : GoesOn (execDramReadRequest addr sym s) := by
  unfold execDramReadRequest
  rw [if_neg (by omega)]
  (try dsimp only)
  (repeat' split) <;> first | simp; done | skip
theorem execWriteAgeTimeout_goes (ch sub : Nat) (s : State) : GoesOn (execWriteAgeTimeout ch sub s) := by
  unfold execWriteAgeTimeout
  (try dsimp only)
  (repeat' split) <;> first | (simp; done) | skip
theorem execRefreshDue_goes (ch sub rank : Nat) (s : State) : GoesOn (execRefreshDue ch sub rank s) := by
  unfold execRefreshDue
  (try dsimp only)
  (repeat' split) <;> first | (simp; done) | skip
theorem execMr4Poll_goes (ch mult : Nat) (s : State) : GoesOn (execMr4Poll ch mult s) := by
  unfold execMr4Poll
  (try dsimp only)
  (repeat' split) <;> first | (simp; done) | skip
theorem execZqCalibrationTimer_goes (ch : Nat) (s : State) : GoesOn (execZqCalibrationTimer ch s) := by
  unfold execZqCalibrationTimer
  (try dsimp only)
  (repeat' split) <;> first | (simp; done) | skip
theorem execOscillatorTimer_goes (ch drift : Nat) (s : State) : GoesOn (execOscillatorTimer ch drift s) := by
  unfold execOscillatorTimer
  (try dsimp only)
  (repeat' split) <;> first | (simp; done) | skip
theorem execTrainingOperation_goes (a : Agent) (ch v : Nat) (s : State) : GoesOn (execTrainingOperation a ch v s) := by
  unfold execTrainingOperation
  (try dsimp only)
  (repeat' split) <;> first | (simp; done) | skip
theorem execTrainingOperationDone_goes (ch fail : Nat) (first : Option Nat) (burst : List Byte) (s : State) : GoesOn (execTrainingOperationDone ch fail first burst s) := by
  unfold execTrainingOperationDone
  (try dsimp only)
  (repeat' split) <;> first | (simp; done) | skip
theorem execDelaySet_goes (a : Agent) (ch v : Nat) (s : State) : GoesOn (execDelaySet a ch v s) := by
  unfold execDelaySet
  (try dsimp only)
  (repeat' split) <;> first | (simp; done) | skip
theorem execModeRegisterCommand_goes (a : Agent) (ch v rdata : Nat) (s : State) : GoesOn (execModeRegisterCommand a ch v rdata s) := by
  unfold execModeRegisterCommand
  (try dsimp only)
  (repeat' split) <;> first | (simp; done) | skip
theorem execScrubStart_goes (a : Agent) (v : Nat) (s : State) : GoesOn (execScrubStart a v s) := by
  unfold execScrubStart
  (try dsimp only)
  (repeat' split) <;> first | (simp; done) | skip
theorem execScrubAbort_goes (a : Agent) (s : State) : GoesOn (execScrubAbort a s) := by
  unfold execScrubAbort
  (try dsimp only)
  (repeat' split) <;> first | (simp; done) | skip
theorem execScrubPassEnd_goes (s : State) : GoesOn (execScrubPassEnd s) := by
  unfold execScrubPassEnd
  (try dsimp only)
  (repeat' split) <;> first | (simp; done) | skip
theorem execDomainCommand_goes (a : Agent) (v : Nat) (s : State) : GoesOn (execDomainCommand a v s) := by
  unfold execDomainCommand
  (try dsimp only)
  (repeat' split) <;> first | (simp; done) | skip
theorem execHandshakeReply_goes (dom : Nat) (reply : HsReply) (s : State) : GoesOn (execHandshakeReply dom reply s) := by
  unfold execHandshakeReply
  (try dsimp only)
  (repeat' split) <;> first | (simp; done) | skip
theorem execHandshakeDelayExpiry_goes (dom : Nat) (s : State) : GoesOn (execHandshakeDelayExpiry dom s) := by
  unfold execHandshakeDelayExpiry
  (try dsimp only)
  (repeat' split) <;> first | (simp; done) | skip
theorem execQuiesceDone_goes (dom : Nat) (s : State) : GoesOn (execQuiesceDone dom s) := by
  unfold execQuiesceDone
  (try dsimp only)
  (repeat' split) <;> first | (simp; done) | skip
theorem execDomainEntryComplete_goes (dom : Nat) (s : State) : GoesOn (execDomainEntryComplete dom s) := by
  unfold execDomainEntryComplete
  (try dsimp only)
  (repeat' split) <;> first | (simp; done) | skip
theorem execDomainReturnComplete_goes (dom : Nat) (s : State) : GoesOn (execDomainReturnComplete dom s) := by
  unfold execDomainReturnComplete
  (try dsimp only)
  (repeat' split) <;> first | (simp; done) | skip
theorem execDomainReturnFailed_goes (dom cause : Nat) (s : State) : GoesOn (execDomainReturnFailed dom cause s) := by
  unfold execDomainReturnFailed
  (try dsimp only)
  (repeat' split) <;> first | (simp; done) | skip
theorem execWakePinChange_goes (pin : Nat) (level : Bool) (s : State) : GoesOn (execWakePinChange pin level s) := by
  unfold execWakePinChange
  (try dsimp only)
  (repeat' split) <;> first | (simp; done) | skip
theorem execHardDecodeDone_goes (id : Nat) (res : DecodeRes) (s : State) : GoesOn (execHardDecodeDone id res s) := by
  unfold execHardDecodeDone
  (try dsimp only)
  (repeat' split) <;> first | (simp; done) | skip
theorem execSoftDecodeDone_goes (id : Nat) (res : DecodeRes) (s : State) : GoesOn (execSoftDecodeDone id res s) := by
  unfold execSoftDecodeDone
  (try dsimp only)
  (repeat' split) <;> first | (simp; done) | skip
theorem execEffectiveHoursTick_goes (s : State) : GoesOn (execEffectiveHoursTick s) := by
  unfold execEffectiveHoursTick
  (try dsimp only)
  (repeat' split) <;> first | (simp; done) | skip
theorem execCalibrationSampleStart_goes (die w k r block grp : Nat) (s : State) : GoesOn (execCalibrationSampleStart die w k r block grp s) := by
  unfold execCalibrationSampleStart
  (try dsimp only)
  (repeat' split) <;> first | (simp; done) | skip
theorem execCalibrationSampleEnd_goes (link : Nat) (ok : Bool) (counts : List CalCount) (errs : Nat) (n0 n1 : List Nat) (s : State) : GoesOn (execCalibrationSampleEnd link ok counts errs n0 n1 s) := by
  unfold execCalibrationSampleEnd
  (try dsimp only)
  (repeat' split) <;> first | (simp; done) | skip
theorem execDdkCounterClear_goes (a : Agent) (link : Nat) (s : State) : GoesOn (execDdkCounterClear a link s) := by
  unfold execDdkCounterClear
  (try dsimp only)
  (repeat' split) <;> first | (simp; done) | skip
theorem execSoftEngineFault_goes (engine : Nat) (s : State) : GoesOn (execSoftEngineFault engine s) := by
  unfold execSoftEngineFault
  (try dsimp only)
  (repeat' split) <;> first | (simp; done) | skip
theorem execSchedulerWindowEnd_goes (s : State) : GoesOn (execSchedulerWindowEnd s) := by
  unfold execSchedulerWindowEnd
  (try dsimp only)
  (repeat' split) <;> first | (simp; done) | skip
theorem execEraseRelease_goes (s : State) : GoesOn (execEraseRelease s) := by
  unfold execEraseRelease
  (try dsimp only)
  (repeat' split) <;> first | (simp; done) | skip
theorem execCheckpointTimer_goes (s : State) : GoesOn (execCheckpointTimer s) := by
  unfold execCheckpointTimer
  (try dsimp only)
  (repeat' split) <;> first | (simp; done) | skip
theorem execCheckpointStart_goes (kind : Nat) (s : State) : GoesOn (execCheckpointStart kind s) := by
  unfold execCheckpointStart
  (try dsimp only)
  (repeat' split) <;> first | (simp; done) | skip
theorem execCheckpointComplete_goes (kind : Nat) (s : State) : GoesOn (execCheckpointComplete kind s) := by
  unfold execCheckpointComplete
  (try dsimp only)
  (repeat' split) <;> first | (simp; done) | skip
theorem execGcVictimSelect_goes (ds : Nat) (s : State) : GoesOn (execGcVictimSelect ds s) := by
  unfold execGcVictimSelect
  (try dsimp only)
  (repeat' split) <;> first | (simp; done) | skip
theorem execRelocationCommit_goes (setid : Nat) (s : State) : GoesOn (execRelocationCommit setid s) := by
  unfold execRelocationCommit
  (try dsimp only)
  (repeat' split) <;> first | (simp; done) | skip
theorem execPatrolVisit_goes (die block grp : Nat) (s : State) : GoesOn (execPatrolVisit die block grp s) := by
  unfold execPatrolVisit
  (try dsimp only)
  (repeat' split) <;> first | (simp; done) | skip
theorem execTemperatureMinuteTick_goes (s : State) : GoesOn (execTemperatureMinuteTick s) := by
  unfold execTemperatureMinuteTick
  (try dsimp only)
  (repeat' split) <;> first | (simp; done) | skip
theorem execVinLossConfirmed_goes (s : State) : GoesOn (execVinLossConfirmed s) := by
  unfold execVinLossConfirmed
  (try dsimp only)
  (repeat' split) <;> first | (simp; done) | skip
theorem execForcedFlush_goes (a : Agent) (key test : Nat) (s : State) : GoesOn (execForcedFlush a key test s) := by
  unfold execForcedFlush
  (try dsimp only)
  (repeat' split) <;> first | (simp; done) | skip
theorem execFlushDrainDone_goes (s : State) : GoesOn (execFlushDrainDone s) := by
  unfold execFlushDrainDone
  (try dsimp only)
  (repeat' split) <;> first | (simp; done) | skip
theorem execFlushCommitProgrammed_goes (s : State) : GoesOn (execFlushCommitProgrammed s) := by
  unfold execFlushCommitProgrammed
  (try dsimp only)
  (repeat' split) <;> first | (simp; done) | skip
theorem execFlushEnd_goes (s : State) : GoesOn (execFlushEnd s) := by
  unfold execFlushEnd
  (try dsimp only)
  (repeat' split) <;> first | (simp; done) | skip
theorem execCaptureWindowWrite_goes (pf off rid : Nat) (bytes : List Byte) (s : State) : GoesOn (execCaptureWindowWrite pf off rid bytes s) := by
  unfold execCaptureWindowWrite
  (try dsimp only)
  (repeat' split) <;> first | (simp; done) | skip
theorem execCaptureUnitAccept_goes (ring : Nat) (s : State) : GoesOn (execCaptureUnitAccept ring s) := by
  unfold execCaptureUnitAccept
  (try dsimp only)
  (repeat' split) <;> first | (simp; done) | skip
theorem execBufferGrant_goes (p : Nat) (s : State) : GoesOn (execBufferGrant p s) := by
  unfold execBufferGrant
  (try dsimp only)
  (repeat' split) <;> first | (simp; done) | skip
theorem execCreditSpanGrant_goes (ring : Nat) (s : State) : GoesOn (execCreditSpanGrant ring s) := by
  unfold execCreditSpanGrant
  (try dsimp only)
  (repeat' split) <;> first | (simp; done) | skip
theorem execZoneQueuePush_goes (a : Agent) (ring v : Nat) (s : State) : GoesOn (execZoneQueuePush a ring v s) := by
  unfold execZoneQueuePush
  (try dsimp only)
  (repeat' split) <;> first | (simp; done) | skip
theorem execStallTimeout_goes (ring : Nat) (s : State) : GoesOn (execStallTimeout ring s) := by
  unfold execStallTimeout
  (try dsimp only)
  (repeat' split) <;> first | (simp; done) | skip
theorem execRingArm_goes (a : Agent) (ring : Nat) (s : State) : GoesOn (execRingArm a ring s) := by
  unfold execRingArm
  (try dsimp only)
  (repeat' split) <;> first | (simp; done) | skip
theorem execRingRelease_goes (a : Agent) (ring : Nat) (s : State) : GoesOn (execRingRelease a ring s) := by
  unfold execRingRelease
  (try dsimp only)
  (repeat' split) <;> first | (simp; done) | skip
theorem execCaptureCountClear_goes (a : Agent) (ring : Nat) (s : State) : GoesOn (execCaptureCountClear a ring s) := by
  unfold execCaptureCountClear
  (try dsimp only)
  (repeat' split) <;> first | (simp; done) | skip
theorem execReleaseComplete_goes (ring : Nat) (s : State) : GoesOn (execReleaseComplete ring s) := by
  unfold execReleaseComplete
  (try dsimp only)
  (repeat' split) <;> first | (simp; done) | skip
theorem execVauxPorEnd_goes (bifur mgmtSel dbgen : Bool) (s : State) : GoesOn (execVauxPorEnd bifur mgmtSel dbgen s) := by
  unfold execVauxPorEnd
  (try dsimp only)
  (repeat' split) <;> first | (simp; done) | skip
theorem execVauxLoss_goes (s : State) : GoesOn (execVauxLoss s) := by
  unfold execVauxLoss
  (try dsimp only)
  (repeat' split) <;> first | (simp; done) | skip
theorem execIsolationSwitchOn_goes (s : State) : GoesOn (execIsolationSwitchOn s) := by
  unfold execIsolationSwitchOn
  (try dsimp only)
  (repeat' split) <;> first | (simp; done) | skip
theorem execVinInRange_goes (s : State) : GoesOn (execVinInRange s) := by
  unfold execVinInRange
  (try dsimp only)
  (repeat' split) <;> first | (simp; done) | skip
theorem execWakeEvent_goes (pin : Nat) (s : State) : GoesOn (execWakeEvent pin s) := by
  unfold execWakeEvent
  (try dsimp only)
  (repeat' split) <;> first | (simp; done) | skip
theorem execStartupStageComplete_goes (res : StageRes) (s : State) : GoesOn (execStartupStageComplete res s) := by
  unfold execStartupStageComplete
  (try dsimp only)
  (repeat' split) <;> first | (simp; done) | skip
theorem execFwsProgram_goes (a : Agent) (v : Nat) (s : State) : GoesOn (execFwsProgram a v s) := by
  unfold execFwsProgram
  (try dsimp only)
  (repeat' split) <;> first | (simp; done) | skip
theorem execFwsErase_goes (a : Agent) (v : Nat) (s : State) : GoesOn (execFwsErase a v s) := by
  unfold execFwsErase
  (try dsimp only)
  (repeat' split) <;> first | (simp; done) | skip
theorem execFwsRead_goes (a : Agent) (v : Nat) (s : State) : GoesOn (execFwsRead a v s) := by
  unfold execFwsRead
  (try dsimp only)
  (repeat' split) <;> first | (simp; done) | skip
theorem execFwsOperationDone_goes (ok : Bool) (s : State) : GoesOn (execFwsOperationDone ok s) := by
  unfold execFwsOperationDone
  (try dsimp only)
  (repeat' split) <;> first | (simp; done) | skip
theorem execFwsOperationTimeout_goes (s : State) : GoesOn (execFwsOperationTimeout s) := by
  unfold execFwsOperationTimeout
  (try dsimp only)
  (repeat' split) <;> first | (simp; done) | skip
theorem execCoreReadBusyBank_goes (core addr : Nat) (s : State) : GoesOn (execCoreReadBusyBank core addr s) := by
  unfold execCoreReadBusyBank
  (try dsimp only)
  (repeat' split) <;> first | (simp; done) | skip
theorem execReboot_goes (a : Agent) (key : Nat) (s : State) : GoesOn (execReboot a key s) := by
  unfold execReboot
  (try dsimp only)
  (repeat' split) <;> first | (simp; done) | skip
theorem execJunctionTempSample_goes (t : Int) (s : State) : GoesOn (execJunctionTempSample t s) := by
  unfold execJunctionTempSample
  (try dsimp only)
  (repeat' split) <;> first | (simp; done) | skip
theorem execThermalTrip_goes (s : State) : GoesOn (execThermalTrip s) := by
  unfold execThermalTrip
  (try dsimp only)
  (repeat' split) <;> first | (simp; done) | skip
theorem execThermalCooldown_goes (s : State) : GoesOn (execThermalCooldown s) := by
  unfold execThermalCooldown
  (try dsimp only)
  (repeat' split) <;> first | (simp; done) | skip
theorem execTestAccessPortAccess_goes (addr len : Nat) (s : State) : GoesOn (execTestAccessPortAccess addr len s) := by
  unfold execTestAccessPortAccess
  (try dsimp only)
  (repeat' split) <;> first | (simp; done) | skip
theorem execCrystalFault_goes (cause : Nat) (s : State) : GoesOn (execCrystalFault cause s) := by
  unfold execCrystalFault
  (try dsimp only)
  (repeat' split) <;> first | (simp; done) | skip
theorem execEventRecordArrival_goes (src : Nat) (s : State) : GoesOn (execEventRecordArrival src s) := by
  unfold execEventRecordArrival
  (try dsimp only)
  (repeat' split) <;> first | (simp; done) | skip
theorem execEventRingWrite_goes (ring : Nat) (err : Bool) (s : State) : GoesOn (execEventRingWrite ring err s) := by
  unfold execEventRingWrite
  (try dsimp only)
  (repeat' split) <;> first | (simp; done) | skip
theorem execEventHeadWrite_goes (a : Agent) (ring head : Nat) (s : State) : GoesOn (execEventHeadWrite a ring head s) := by
  unfold execEventHeadWrite
  (try dsimp only)
  (repeat' split) <;> first | (simp; done) | skip
theorem execEventRingConfig_goes (a : Agent) (ring v : Nat) (s : State) : GoesOn (execEventRingConfig a ring v s) := by
  unfold execEventRingConfig
  (try dsimp only)
  (repeat' split) <;> first | (simp; done) | skip
theorem execEventInterruptTimer_goes (ring : Nat) (s : State) : GoesOn (execEventInterruptTimer ring s) := by
  unfold execEventInterruptTimer
  (try dsimp only)
  (repeat' split) <;> first | (simp; done) | skip
theorem execAbort_goes (r : CmdRef) (s : State) : GoesOn (execAbort r s) := by
  unfold execAbort
  (try dsimp only)
  (repeat' split) <;> first | (simp; done) | skip
theorem execControllerEnable_goes (fn ams asqs acqs : Nat) (s : State) : GoesOn (execControllerEnable fn ams asqs acqs s) := by
  unfold execControllerEnable
  (try dsimp only)
  (repeat' split) <;> first | (simp; done) | skip
theorem execControllerReset_goes (fn : Nat) (s : State) : GoesOn (execControllerReset fn s) := by
  unfold execControllerReset
  (try dsimp only)
  (repeat' split) <;> first | (simp; done) | skip
theorem execNormalShutdown_goes (fn : Nat) (s : State) : GoesOn (execNormalShutdown fn s) := by
  unfold execNormalShutdown
  (try dsimp only)
  (repeat' split) <;> first | (simp; done) | skip
theorem execShutdownComplete_goes (fn : Nat) (s : State) : GoesOn (execShutdownComplete fn s) := by
  unfold execShutdownComplete
  (try dsimp only)
  (repeat' split) <;> first | (simp; done) | skip
theorem execAbruptShutdown_goes (fn : Nat) (s : State) : GoesOn (execAbruptShutdown fn s) := by
  unfold execAbruptShutdown
  (try dsimp only)
  (repeat' split) <;> first | (simp; done) | skip
theorem execFunctionLevelReset_goes (fn : Nat) (s : State) : GoesOn (execFunctionLevelReset fn s) := by
  unfold execFunctionLevelReset
  (try dsimp only)
  (repeat' split) <;> first | (simp; done) | skip
theorem execFunctionDisable_goes (fn : Nat) (cause : FnCause) (s : State) : GoesOn (execFunctionDisable fn cause s) := by
  unfold execFunctionDisable
  (try dsimp only)
  (repeat' split) <;> first | (simp; done) | skip
theorem execFunctionEnable_goes (fn : Nat) (cause : FnCause) (s : State) : GoesOn (execFunctionEnable fn cause s) := by
  unfold execFunctionEnable
  (try dsimp only)
  (repeat' split) <;> first | (simp; done) | skip
theorem execPerstAssert_goes (port : Nat) (s : State) : GoesOn (execPerstAssert port s) := by
  unfold execPerstAssert
  (try dsimp only)
  (repeat' split) <;> first | (simp; done) | skip
theorem execPerstDeassert_goes (port : Nat) (s : State) : GoesOn (execPerstDeassert port s) := by
  unfold execPerstDeassert
  (try dsimp only)
  (repeat' split) <;> first | (simp; done) | skip
theorem execPortLinkUp_goes (port rate width : Nat) (flit : Bool) (s : State) : GoesOn (execPortLinkUp port rate width flit s) := by
  unfold execPortLinkUp
  (try dsimp only)
  (repeat' split) <;> first | (simp; done) | skip
theorem execPortLinkDown_goes (port : Nat) (s : State) : GoesOn (execPortLinkDown port s) := by
  unfold execPortLinkDown
  (try dsimp only)
  (repeat' split) <;> first | (simp; done) | skip
theorem execNvmSubsystemReset_goes (fn : Nat) (s : State) : GoesOn (execNvmSubsystemReset fn s) := by
  unfold execNvmSubsystemReset
  (try dsimp only)
  (repeat' split) <;> first | (simp; done) | skip
theorem execWatchdogExpiry_goes (core cause : Nat) (s : State) : GoesOn (execWatchdogExpiry core cause s) := by
  unfold execWatchdogExpiry
  (try dsimp only)
  (repeat' split) <;> first | (simp; done) | skip
theorem execInterruptCoalescingTimer_goes (fn cqid : Nat) (s : State) : GoesOn (execInterruptCoalescingTimer fn cqid s) := by
  unfold execInterruptCoalescingTimer
  (try dsimp only)
  (repeat' split) <;> first | (simp; done) | skip
theorem execStatClr_goes (a : Agent) (s : State) : GoesOn (execStatClr a s) := by
  unfold execStatClr
  (try dsimp only)
  (repeat' split) <;> first | (simp; done) | skip
theorem execNamespaceManagement_goes (r : CmdRef) (s : State) : GoesOn (execNamespaceManagement r s) := by
  unfold execNamespaceManagement
  (try dsimp only)
  (repeat' split) <;> first | (simp; done) | skip
theorem execNamespaceAttachment_goes (r : CmdRef) (s : State) : GoesOn (execNamespaceAttachment r s) := by
  unfold execNamespaceAttachment
  (try dsimp only)
  (repeat' split) <;> first | (simp; done) | skip
theorem execFormatNvm_goes (r : CmdRef) (s : State) : GoesOn (execFormatNvm r s) := by
  unfold execFormatNvm
  (try dsimp only)
  (repeat' split) <;> first | (simp; done) | skip
theorem execSanitize_goes (r : CmdRef) (s : State) : GoesOn (execSanitize r s) := by
  unfold execSanitize
  (try dsimp only)
  (repeat' split) <;> first | (simp; done) | skip
theorem execGetLogPage_goes (r : CmdRef) (s : State) : GoesOn (execGetLogPage r s) := by
  unfold execGetLogPage
  (try dsimp only)
  (repeat' split) <;> first | (simp; done) | skip
theorem execCreateIoSubmissionQueue_goes (r : CmdRef) (s : State) : GoesOn (execCreateIoSubmissionQueue r s) := by
  unfold execCreateIoSubmissionQueue
  (try dsimp only)
  (repeat' split) <;> first | (simp; done) | skip
theorem execCreateIoCompletionQueue_goes (r : CmdRef) (s : State) : GoesOn (execCreateIoCompletionQueue r s) := by
  unfold execCreateIoCompletionQueue
  (try dsimp only)
  (repeat' split) <;> first | (simp; done) | skip
theorem execDeleteIoSubmissionQueue_goes (r : CmdRef) (s : State) : GoesOn (execDeleteIoSubmissionQueue r s) := by
  unfold execDeleteIoSubmissionQueue
  (try dsimp only)
  (repeat' split) <;> first | (simp; done) | skip
theorem execDeleteIoCompletionQueue_goes (r : CmdRef) (s : State) : GoesOn (execDeleteIoCompletionQueue r s) := by
  unfold execDeleteIoCompletionQueue
  (try dsimp only)
  (repeat' split) <;> first | (simp; done) | skip
theorem execVirtualizationManagement_goes (r : CmdRef) (s : State) : GoesOn (execVirtualizationManagement r s) := by
  unfold execVirtualizationManagement
  (try dsimp only)
  (repeat' split) <;> first | (simp; done) | skip
theorem execAsynchronousEventRequest_goes (r : CmdRef) (s : State) : GoesOn (execAsynchronousEventRequest r s) := by
  unfold execAsynchronousEventRequest
  (try dsimp only)
  (repeat' split) <;> first | (simp; done) | skip
theorem execIdentify_goes (r : CmdRef) (s : State) : GoesOn (execIdentify r s) := by
  unfold execIdentify
  (try dsimp only)
  (repeat' split) <;> first | (simp; done) | skip
theorem execSetFeatures_goes (r : CmdRef) (s : State) : GoesOn (execSetFeatures r s) := by
  unfold execSetFeatures
  (try dsimp only)
  (repeat' split) <;> first | (simp; done) | skip
theorem execGetFeatures_goes (r : CmdRef) (s : State) : GoesOn (execGetFeatures r s) := by
  unfold execGetFeatures
  (try dsimp only)
  (repeat' split) <;> first | (simp; done) | skip
theorem execDeviceSelfTest_goes (r : CmdRef) (s : State) : GoesOn (execDeviceSelfTest r s) := by
  unfold execDeviceSelfTest
  (try dsimp only)
  (repeat' split) <;> first | (simp; done) | skip
theorem execDirectiveSend_goes (r : CmdRef) (s : State) : GoesOn (execDirectiveSend r s) := by
  unfold execDirectiveSend
  (try dsimp only)
  (repeat' split) <;> first | (simp; done) | skip
theorem execDirectiveReceive_goes (r : CmdRef) (s : State) : GoesOn (execDirectiveReceive r s) := by
  unfold execDirectiveReceive
  (try dsimp only)
  (repeat' split) <;> first | (simp; done) | skip
theorem execCommitImageSaved_goes (ok : Bool) (s : State) : GoesOn (execCommitImageSaved ok s) := by
  unfold execCommitImageSaved
  (try dsimp only)
  (repeat' split) <;> first | (simp; done) | skip
theorem execCommitIslandsHeld_goes (s : State) : GoesOn (execCommitIslandsHeld s) := by
  unfold execCommitIslandsHeld
  (try dsimp only)
  (repeat' split) <;> first | (simp; done) | skip
theorem execFirmwareImageDownload_goes (r : CmdRef) (s : State) : GoesOn (execFirmwareImageDownload r s) := by
  unfold execFirmwareImageDownload
  (try dsimp only)
  (repeat' split) <;> first | (simp; done) | skip
theorem execFirmwareCommit_goes (r : CmdRef) (s : State) : GoesOn (execFirmwareCommit r s) := by
  unfold execFirmwareCommit
  (try dsimp only)
  (repeat' split) <;> first | (simp; done) | skip
theorem execHotActivationQuiesced_goes (s : State) : GoesOn (execHotActivationQuiesced s) := by
  unfold execHotActivationQuiesced
  (try dsimp only)
  (repeat' split) <;> first | (simp; done) | skip
theorem execHotActivationTimeout_goes (s : State) : GoesOn (execHotActivationTimeout s) := by
  unfold execHotActivationTimeout
  (try dsimp only)
  (repeat' split) <;> first | (simp; done) | skip
theorem execActivationImageLoaded_goes (ok : Bool) (s : State) : GoesOn (execActivationImageLoaded ok s) := by
  unfold execActivationImageLoaded
  (try dsimp only)
  (repeat' split) <;> first | (simp; done) | skip
theorem execActivationComplete_goes (ok : Bool) (pause : Nat) (s : State) : GoesOn (execActivationComplete ok pause s) := by
  unfold execActivationComplete
  (try dsimp only)
  (repeat' split) <;> first | (simp; done) | skip
theorem execSealedEnvelope_goes (r : CmdRef) (s : State) : GoesOn (execSealedEnvelope r s) := by
  unfold execSealedEnvelope
  (try dsimp only)
  (repeat' split) <;> first | (simp; done) | skip
theorem execSealCounterDurable_goes (tenant : Nat) (s : State) : GoesOn (execSealCounterDurable tenant s) := by
  unfold execSealCounterDurable
  (try dsimp only)
  (repeat' split) <;> first | (simp; done) | skip
theorem execVaultStoreWriteDone_goes (okA okB : Bool) (s : State) : GoesOn (execVaultStoreWriteDone okA okB s) := by
  unfold execVaultStoreWriteDone
  (try dsimp only)
  (repeat' split) <;> first | (simp; done) | skip
theorem execTenantPolicySet_goes (r : CmdRef) (s : State) : GoesOn (execTenantPolicySet r s) := by
  unfold execTenantPolicySet
  (try dsimp only)
  (repeat' split) <;> first | (simp; done) | skip
theorem execTenantPolicyGet_goes (r : CmdRef) (s : State) : GoesOn (execTenantPolicyGet r s) := by
  unfold execTenantPolicyGet
  (try dsimp only)
  (repeat' split) <;> first | (simp; done) | skip
theorem execSealStatus_goes (r : CmdRef) (s : State) : GoesOn (execSealStatus r s) := by
  unfold execSealStatus
  (try dsimp only)
  (repeat' split) <;> first | (simp; done) | skip
theorem execVaultSelfTest_goes (a : Agent) (kat rng : Bool) (s : State) : GoesOn (execVaultSelfTest a kat rng s) := by
  unfold execVaultSelfTest
  (try dsimp only)
  (repeat' split) <;> first | (simp; done) | skip
theorem execVaultStoreCompact_goes (a : Agent) (s : State) : GoesOn (execVaultStoreCompact a s) := by
  unfold execVaultStoreCompact
  (try dsimp only)
  (repeat' split) <;> first | (simp; done) | skip
theorem execSealStatusQuery_goes (a : Agent) (s : State) : GoesOn (execSealStatusQuery a s) := by
  unfold execSealStatusQuery
  (try dsimp only)
  (repeat' split) <;> first | (simp; done) | skip
theorem execMisalignedAccess_goes (a : Agent) (off size : Nat) (write : Bool) (v : Nat) (s : State) : GoesOn (execMisalignedAccess a off size write v s) := by
  unfold execMisalignedAccess
  (try dsimp only)
  (repeat' split) <;> first | (simp; done) | skip
theorem execLowDwordRead_goes (a : Agent) (x : ReadAt) (s : State) : GoesOn (execLowDwordRead a x s) := by
  unfold execLowDwordRead
  (try dsimp only)
  (repeat' split) <;> first | (simp; done) | skip
theorem execLowDwordWrite_goes (a : Agent) (off v : Nat) (s : State) : GoesOn (execLowDwordWrite a off v s) := by
  unfold execLowDwordWrite
  (try dsimp only)
  (repeat' split) <;> first | (simp; done) | skip
theorem execHighDwordWrite_goes (a : Agent) (off v : Nat) (s : State) : GoesOn (execHighDwordWrite a off v s) := by
  unfold execHighDwordWrite
  (try dsimp only)
  (repeat' split) <;> first | (simp; done) | skip
theorem execRegisterWrite_goes (a : Agent) (off size v : Nat) (s : State) : GoesOn (execRegisterWrite a off size v s) := by
  unfold execRegisterWrite
  (try dsimp only)
  (repeat' split) <;> first | (simp; done) | skip
theorem execTxWrite_goes (a : Agent) (off size v : Nat) (s : State) : GoesOn (execTxWrite a off size v s) := by
  unfold execTxWrite
  (try dsimp only)
  (repeat' split) <;> first | (simp; done) | skip
theorem execMctpControlMessage_goes (msg : MctpMsg) (s : State) : GoesOn (execMctpControlMessage msg s) := by
  unfold execMctpControlMessage
  (try dsimp only)
  (repeat' split) <;> first | (simp; done) | skip
theorem execReadNvmeMiDataStructure_goes (dtyp portid ctlid : Nat) (s : State) : GoesOn (execReadNvmeMiDataStructure dtyp portid ctlid s) := by
  unfold execReadNvmeMiDataStructure
  (try dsimp only)
  (repeat' split) <;> first | (simp; done) | skip
theorem execNvmSubsystemHealthStatusPoll_goes (clear : Bool) (s : State) : GoesOn (execNvmSubsystemHealthStatusPoll clear s) := by
  unfold execNvmSubsystemHealthStatusPoll
  (try dsimp only)
  (repeat' split) <;> first | (simp; done) | skip
theorem execControllerHealthStatusPoll_goes (start maxent : Nat) (clear : Bool) (s : State) : GoesOn (execControllerHealthStatusPoll start maxent clear s) := by
  unfold execControllerHealthStatusPoll
  (try dsimp only)
  (repeat' split) <;> first | (simp; done) | skip
theorem execConfigurationSet_goes (cid port v : Nat) (s : State) : GoesOn (execConfigurationSet cid port v s) := by
  unfold execConfigurationSet
  (try dsimp only)
  (repeat' split) <;> first | (simp; done) | skip
theorem execConfigurationGet_goes (cid port : Nat) (s : State) : GoesOn (execConfigurationGet cid port s) := by
  unfold execConfigurationGet
  (try dsimp only)
  (repeat' split) <;> first | (simp; done) | skip
theorem execVpdRead_goes (off len : Nat) (s : State) : GoesOn (execVpdRead off len s) := by
  unfold execVpdRead
  (try dsimp only)
  (repeat' split) <;> first | (simp; done) | skip
theorem execVpdWrite_goes (off : Nat) (bytes : List Byte) (s : State) : GoesOn (execVpdWrite off bytes s) := by
  unfold execVpdWrite
  (try dsimp only)
  (repeat' split) <;> first | (simp; done) | skip
theorem execMiReset_goes (rtype : Nat) (s : State) : GoesOn (execMiReset rtype s) := by
  unfold execMiReset
  (try dsimp only)
  (repeat' split) <;> first | (simp; done) | skip
theorem execTunnelledAdminCommand_goes (pf : Nat) (e : Sqe) (s : State) : GoesOn (execTunnelledAdminCommand pf e s) := by
  unfold execTunnelledAdminCommand
  (try dsimp only)
  (repeat' split) <;> first | (simp; done) | skip
theorem execSetupWindowAccess_goes (write : Bool) (off v : Nat) (s : State) : GoesOn (execSetupWindowAccess write off v s) := by
  unfold execSetupWindowAccess
  (try dsimp only)
  (repeat' split) <;> first | (simp; done) | skip
theorem execManagementEndpointReset_goes (cause : Nat) (s : State) : GoesOn (execManagementEndpointReset cause s) := by
  unfold execManagementEndpointReset
  (try dsimp only)
  (repeat' split) <;> first | (simp; done) | skip
theorem execDynamicAddressAssignment_goes (addr : Nat) (setdasa : Bool) (s : State) : GoesOn (execDynamicAddressAssignment addr setdasa s) := by
  unfold execDynamicAddressAssignment
  (try dsimp only)
  (repeat' split) <;> first | (simp; done) | skip
theorem execNvmeMiSend_goes (r : CmdRef) (s : State) : GoesOn (execNvmeMiSend r s) := by
  unfold execNvmeMiSend
  (try dsimp only)
  (repeat' split) <;> first | (simp; done) | skip
theorem execNvmeMiReceive_goes (r : CmdRef) (s : State) : GoesOn (execNvmeMiReceive r s) := by
  unfold execNvmeMiReceive
  (try dsimp only)
  (repeat' split) <;> first | (simp; done) | skip
theorem execRead_goes (r : CmdRef) (s : State) : GoesOn (execRead r s) := by
  unfold execRead
  (try dsimp only)
  (repeat' split) <;> first | (simp; done) | skip
theorem execCompare_goes (r : CmdRef) (s : State) : GoesOn (execCompare r s) := by
  unfold execCompare
  (try dsimp only)
  (repeat' split) <;> first | (simp; done) | skip
theorem execVerify_goes (r : CmdRef) (s : State) : GoesOn (execVerify r s) := by
  unfold execVerify
  (try dsimp only)
  (repeat' split) <;> first | (simp; done) | skip
theorem execReadCompletion_goes (r : CmdRef) (pi : PiCheck) (s : State) : GoesOn (execReadCompletion r pi s) := by
  unfold execReadCompletion
  (try dsimp only)
  (repeat' split) <;> first | (simp; done) | skip
theorem execZoneManagementReceive_goes (r : CmdRef) (s : State) : GoesOn (execZoneManagementReceive r s) := by
  unfold execZoneManagementReceive
  (try dsimp only)
  (repeat' split) <;> first | (simp; done) | skip
theorem execGetLbaStatus_goes (r : CmdRef) (s : State) : GoesOn (execGetLbaStatus r s) := by
  unfold execGetLbaStatus
  (try dsimp only)
  (repeat' split) <;> first | (simp; done) | skip
theorem execSecurityProtocolInformation_goes (r : CmdRef) (s : State) : GoesOn (execSecurityProtocolInformation r s) := by
  unfold execSecurityProtocolInformation
  (try dsimp only)
  (repeat' split) <;> first | (simp; done) | skip
theorem execCertificateChainReceive_goes (r : CmdRef) (s : State) : GoesOn (execCertificateChainReceive r s) := by
  unfold execCertificateChainReceive
  (try dsimp only)
  (repeat' split) <;> first | (simp; done) | skip
theorem execExchangeOfferReceive_goes (r : CmdRef) (s : State) : GoesOn (execExchangeOfferReceive r s) := by
  unfold execExchangeOfferReceive
  (try dsimp only)
  (repeat' split) <;> first | (simp; done) | skip
theorem execAttestedReportReceive_goes (r : CmdRef) (s : State) : GoesOn (execAttestedReportReceive r s) := by
  unfold execAttestedReportReceive
  (try dsimp only)
  (repeat' split) <;> first | (simp; done) | skip
theorem execAttestationNonceSend_goes (r : CmdRef) (s : State) : GoesOn (execAttestationNonceSend r s) := by
  unfold execAttestationNonceSend
  (try dsimp only)
  (repeat' split) <;> first | (simp; done) | skip
theorem execKeyInstall_goes (r : CmdRef) (s : State) : GoesOn (execKeyInstall r s) := by
  unfold execKeyInstall
  (try dsimp only)
  (repeat' split) <;> first | (simp; done) | skip
theorem execTenantUnlock_goes (r : CmdRef) (s : State) : GoesOn (execTenantUnlock r s) := by
  unfold execTenantUnlock
  (try dsimp only)
  (repeat' split) <;> first | (simp; done) | skip
theorem execSpdmRequest_goes (pf : Nat) (msg : SpdmMsg) (s : State) : GoesOn (execSpdmRequest pf msg s) := by
  unfold execSpdmRequest
  (try dsimp only)
  (repeat' split) <;> first | (simp; done) | skip
theorem execIdeKmRequest_goes (pf : Nat) (msg : IdeKmMsg) (s : State) : GoesOn (execIdeKmRequest pf msg s) := by
  unfold execIdeKmRequest
  (try dsimp only)
  (repeat' split) <;> first | (simp; done) | skip
theorem execIdeStreamInsecure_goes (pf stream cause : Nat) (s : State) : GoesOn (execIdeStreamInsecure pf stream cause s) := by
  unfold execIdeStreamInsecure
  (try dsimp only)
  (repeat' split) <;> first | (simp; done) | skip
end Sys2Proof.Machine
end

