-- ==== Sys2Proof/Laws/State.lean ====
section
/-!
SUPPORT. What each field of the state is after each update of a field: one lemma for each pair, true by rfl.
-/

namespace Sys2Proof.Machine

@[simp] theorem State.withAo_ao (s : State) (v : AlwaysOn) : (s.withAo v).ao = v := rfl
@[simp] theorem State.withAo_win (s : State) (v : AlwaysOn) : (s.withAo v).win = s.win := rfl
@[simp] theorem State.withAo_ev (s : State) (v : AlwaysOn) : (s.withAo v).ev = s.ev := rfl
@[simp] theorem State.withAo_host (s : State) (v : AlwaysOn) : (s.withAo v).host = s.host := rfl
@[simp] theorem State.withAo_col (s : State) (v : AlwaysOn) : (s.withAo v).col = s.col := rfl
@[simp] theorem State.withAo_bpm (s : State) (v : AlwaysOn) : (s.withAo v).bpm = s.bpm := rfl
@[simp] theorem State.withAo_cap (s : State) (v : AlwaysOn) : (s.withAo v).cap = s.cap := rfl
@[simp] theorem State.withAo_hld (s : State) (v : AlwaysOn) : (s.withAo v).hld = s.hld := rfl
@[simp] theorem State.withAo_jnl (s : State) (v : AlwaysOn) : (s.withAo v).jnl = s.jnl := rfl
@[simp] theorem State.withAo_zon (s : State) (v : AlwaysOn) : (s.withAo v).zon = s.zon := rfl
@[simp] theorem State.withAo_str (s : State) (v : AlwaysOn) : (s.withAo v).str = s.str := rfl
@[simp] theorem State.withAo_sch (s : State) (v : AlwaysOn) : (s.withAo v).sch = s.sch := rfl
@[simp] theorem State.withAo_lnk (s : State) (v : AlwaysOn) : (s.withAo v).lnk = s.lnk := rfl
@[simp] theorem State.withAo_ddk (s : State) (v : AlwaysOn) : (s.withAo v).ddk = s.ddk := rfl
@[simp] theorem State.withAo_med (s : State) (v : AlwaysOn) : (s.withAo v).med = s.med := rfl
@[simp] theorem State.withAo_sec (s : State) (v : AlwaysOn) : (s.withAo v).sec = s.sec := rfl
@[simp] theorem State.withAo_drm (s : State) (v : AlwaysOn) : (s.withAo v).drm = s.drm := rfl
@[simp] theorem State.withAo_pwr (s : State) (v : AlwaysOn) : (s.withAo v).pwr = s.pwr := rfl
@[simp] theorem State.withAo_boot (s : State) (v : AlwaysOn) : (s.withAo v).boot = s.boot := rfl
@[simp] theorem State.withAo_brd (s : State) (v : AlwaysOn) : (s.withAo v).brd = s.brd := rfl
@[simp] theorem State.withAo_mgt (s : State) (v : AlwaysOn) : (s.withAo v).mgt = s.mgt := rfl
@[simp] theorem State.withAo_free (s : State) (v : AlwaysOn) : (s.withAo v).free = s.free := rfl
@[simp] theorem State.withAo_pending (s : State) (v : AlwaysOn) : (s.withAo v).pending = s.pending := rfl

@[simp] theorem State.withWin_win (s : State) (v : Window) : (s.withWin v).win = v := rfl
@[simp] theorem State.withWin_ao (s : State) (v : Window) : (s.withWin v).ao = s.ao := rfl
@[simp] theorem State.withWin_ev (s : State) (v : Window) : (s.withWin v).ev = s.ev := rfl
@[simp] theorem State.withWin_host (s : State) (v : Window) : (s.withWin v).host = s.host := rfl
@[simp] theorem State.withWin_col (s : State) (v : Window) : (s.withWin v).col = s.col := rfl
@[simp] theorem State.withWin_bpm (s : State) (v : Window) : (s.withWin v).bpm = s.bpm := rfl
@[simp] theorem State.withWin_cap (s : State) (v : Window) : (s.withWin v).cap = s.cap := rfl
@[simp] theorem State.withWin_hld (s : State) (v : Window) : (s.withWin v).hld = s.hld := rfl
@[simp] theorem State.withWin_jnl (s : State) (v : Window) : (s.withWin v).jnl = s.jnl := rfl
@[simp] theorem State.withWin_zon (s : State) (v : Window) : (s.withWin v).zon = s.zon := rfl
@[simp] theorem State.withWin_str (s : State) (v : Window) : (s.withWin v).str = s.str := rfl
@[simp] theorem State.withWin_sch (s : State) (v : Window) : (s.withWin v).sch = s.sch := rfl
@[simp] theorem State.withWin_lnk (s : State) (v : Window) : (s.withWin v).lnk = s.lnk := rfl
@[simp] theorem State.withWin_ddk (s : State) (v : Window) : (s.withWin v).ddk = s.ddk := rfl
@[simp] theorem State.withWin_med (s : State) (v : Window) : (s.withWin v).med = s.med := rfl
@[simp] theorem State.withWin_sec (s : State) (v : Window) : (s.withWin v).sec = s.sec := rfl
@[simp] theorem State.withWin_drm (s : State) (v : Window) : (s.withWin v).drm = s.drm := rfl
@[simp] theorem State.withWin_pwr (s : State) (v : Window) : (s.withWin v).pwr = s.pwr := rfl
@[simp] theorem State.withWin_boot (s : State) (v : Window) : (s.withWin v).boot = s.boot := rfl
@[simp] theorem State.withWin_brd (s : State) (v : Window) : (s.withWin v).brd = s.brd := rfl
@[simp] theorem State.withWin_mgt (s : State) (v : Window) : (s.withWin v).mgt = s.mgt := rfl
@[simp] theorem State.withWin_free (s : State) (v : Window) : (s.withWin v).free = s.free := rfl
@[simp] theorem State.withWin_pending (s : State) (v : Window) : (s.withWin v).pending = s.pending := rfl

@[simp] theorem State.withEv_ev (s : State) (v : Events) : (s.withEv v).ev = v := rfl
@[simp] theorem State.withEv_ao (s : State) (v : Events) : (s.withEv v).ao = s.ao := rfl
@[simp] theorem State.withEv_win (s : State) (v : Events) : (s.withEv v).win = s.win := rfl
@[simp] theorem State.withEv_host (s : State) (v : Events) : (s.withEv v).host = s.host := rfl
@[simp] theorem State.withEv_col (s : State) (v : Events) : (s.withEv v).col = s.col := rfl
@[simp] theorem State.withEv_bpm (s : State) (v : Events) : (s.withEv v).bpm = s.bpm := rfl
@[simp] theorem State.withEv_cap (s : State) (v : Events) : (s.withEv v).cap = s.cap := rfl
@[simp] theorem State.withEv_hld (s : State) (v : Events) : (s.withEv v).hld = s.hld := rfl
@[simp] theorem State.withEv_jnl (s : State) (v : Events) : (s.withEv v).jnl = s.jnl := rfl
@[simp] theorem State.withEv_zon (s : State) (v : Events) : (s.withEv v).zon = s.zon := rfl
@[simp] theorem State.withEv_str (s : State) (v : Events) : (s.withEv v).str = s.str := rfl
@[simp] theorem State.withEv_sch (s : State) (v : Events) : (s.withEv v).sch = s.sch := rfl
@[simp] theorem State.withEv_lnk (s : State) (v : Events) : (s.withEv v).lnk = s.lnk := rfl
@[simp] theorem State.withEv_ddk (s : State) (v : Events) : (s.withEv v).ddk = s.ddk := rfl
@[simp] theorem State.withEv_med (s : State) (v : Events) : (s.withEv v).med = s.med := rfl
@[simp] theorem State.withEv_sec (s : State) (v : Events) : (s.withEv v).sec = s.sec := rfl
@[simp] theorem State.withEv_drm (s : State) (v : Events) : (s.withEv v).drm = s.drm := rfl
@[simp] theorem State.withEv_pwr (s : State) (v : Events) : (s.withEv v).pwr = s.pwr := rfl
@[simp] theorem State.withEv_boot (s : State) (v : Events) : (s.withEv v).boot = s.boot := rfl
@[simp] theorem State.withEv_brd (s : State) (v : Events) : (s.withEv v).brd = s.brd := rfl
@[simp] theorem State.withEv_mgt (s : State) (v : Events) : (s.withEv v).mgt = s.mgt := rfl
@[simp] theorem State.withEv_free (s : State) (v : Events) : (s.withEv v).free = s.free := rfl
@[simp] theorem State.withEv_pending (s : State) (v : Events) : (s.withEv v).pending = s.pending := rfl

@[simp] theorem State.withHost_host (s : State) (v : HostSide) : (s.withHost v).host = v := rfl
@[simp] theorem State.withHost_ao (s : State) (v : HostSide) : (s.withHost v).ao = s.ao := rfl
@[simp] theorem State.withHost_win (s : State) (v : HostSide) : (s.withHost v).win = s.win := rfl
@[simp] theorem State.withHost_ev (s : State) (v : HostSide) : (s.withHost v).ev = s.ev := rfl
@[simp] theorem State.withHost_col (s : State) (v : HostSide) : (s.withHost v).col = s.col := rfl
@[simp] theorem State.withHost_bpm (s : State) (v : HostSide) : (s.withHost v).bpm = s.bpm := rfl
@[simp] theorem State.withHost_cap (s : State) (v : HostSide) : (s.withHost v).cap = s.cap := rfl
@[simp] theorem State.withHost_hld (s : State) (v : HostSide) : (s.withHost v).hld = s.hld := rfl
@[simp] theorem State.withHost_jnl (s : State) (v : HostSide) : (s.withHost v).jnl = s.jnl := rfl
@[simp] theorem State.withHost_zon (s : State) (v : HostSide) : (s.withHost v).zon = s.zon := rfl
@[simp] theorem State.withHost_str (s : State) (v : HostSide) : (s.withHost v).str = s.str := rfl
@[simp] theorem State.withHost_sch (s : State) (v : HostSide) : (s.withHost v).sch = s.sch := rfl
@[simp] theorem State.withHost_lnk (s : State) (v : HostSide) : (s.withHost v).lnk = s.lnk := rfl
@[simp] theorem State.withHost_ddk (s : State) (v : HostSide) : (s.withHost v).ddk = s.ddk := rfl
@[simp] theorem State.withHost_med (s : State) (v : HostSide) : (s.withHost v).med = s.med := rfl
@[simp] theorem State.withHost_sec (s : State) (v : HostSide) : (s.withHost v).sec = s.sec := rfl
@[simp] theorem State.withHost_drm (s : State) (v : HostSide) : (s.withHost v).drm = s.drm := rfl
@[simp] theorem State.withHost_pwr (s : State) (v : HostSide) : (s.withHost v).pwr = s.pwr := rfl
@[simp] theorem State.withHost_boot (s : State) (v : HostSide) : (s.withHost v).boot = s.boot := rfl
@[simp] theorem State.withHost_brd (s : State) (v : HostSide) : (s.withHost v).brd = s.brd := rfl
@[simp] theorem State.withHost_mgt (s : State) (v : HostSide) : (s.withHost v).mgt = s.mgt := rfl
@[simp] theorem State.withHost_free (s : State) (v : HostSide) : (s.withHost v).free = s.free := rfl
@[simp] theorem State.withHost_pending (s : State) (v : HostSide) : (s.withHost v).pending = s.pending := rfl

@[simp] theorem State.withCol_col (s : State) (v : Colander) : (s.withCol v).col = v := rfl
@[simp] theorem State.withCol_ao (s : State) (v : Colander) : (s.withCol v).ao = s.ao := rfl
@[simp] theorem State.withCol_win (s : State) (v : Colander) : (s.withCol v).win = s.win := rfl
@[simp] theorem State.withCol_ev (s : State) (v : Colander) : (s.withCol v).ev = s.ev := rfl
@[simp] theorem State.withCol_host (s : State) (v : Colander) : (s.withCol v).host = s.host := rfl
@[simp] theorem State.withCol_bpm (s : State) (v : Colander) : (s.withCol v).bpm = s.bpm := rfl
@[simp] theorem State.withCol_cap (s : State) (v : Colander) : (s.withCol v).cap = s.cap := rfl
@[simp] theorem State.withCol_hld (s : State) (v : Colander) : (s.withCol v).hld = s.hld := rfl
@[simp] theorem State.withCol_jnl (s : State) (v : Colander) : (s.withCol v).jnl = s.jnl := rfl
@[simp] theorem State.withCol_zon (s : State) (v : Colander) : (s.withCol v).zon = s.zon := rfl
@[simp] theorem State.withCol_str (s : State) (v : Colander) : (s.withCol v).str = s.str := rfl
@[simp] theorem State.withCol_sch (s : State) (v : Colander) : (s.withCol v).sch = s.sch := rfl
@[simp] theorem State.withCol_lnk (s : State) (v : Colander) : (s.withCol v).lnk = s.lnk := rfl
@[simp] theorem State.withCol_ddk (s : State) (v : Colander) : (s.withCol v).ddk = s.ddk := rfl
@[simp] theorem State.withCol_med (s : State) (v : Colander) : (s.withCol v).med = s.med := rfl
@[simp] theorem State.withCol_sec (s : State) (v : Colander) : (s.withCol v).sec = s.sec := rfl
@[simp] theorem State.withCol_drm (s : State) (v : Colander) : (s.withCol v).drm = s.drm := rfl
@[simp] theorem State.withCol_pwr (s : State) (v : Colander) : (s.withCol v).pwr = s.pwr := rfl
@[simp] theorem State.withCol_boot (s : State) (v : Colander) : (s.withCol v).boot = s.boot := rfl
@[simp] theorem State.withCol_brd (s : State) (v : Colander) : (s.withCol v).brd = s.brd := rfl
@[simp] theorem State.withCol_mgt (s : State) (v : Colander) : (s.withCol v).mgt = s.mgt := rfl
@[simp] theorem State.withCol_free (s : State) (v : Colander) : (s.withCol v).free = s.free := rfl
@[simp] theorem State.withCol_pending (s : State) (v : Colander) : (s.withCol v).pending = s.pending := rfl

@[simp] theorem State.withBpm_bpm (s : State) (v : Bpm) : (s.withBpm v).bpm = v := rfl
@[simp] theorem State.withBpm_ao (s : State) (v : Bpm) : (s.withBpm v).ao = s.ao := rfl
@[simp] theorem State.withBpm_win (s : State) (v : Bpm) : (s.withBpm v).win = s.win := rfl
@[simp] theorem State.withBpm_ev (s : State) (v : Bpm) : (s.withBpm v).ev = s.ev := rfl
@[simp] theorem State.withBpm_host (s : State) (v : Bpm) : (s.withBpm v).host = s.host := rfl
@[simp] theorem State.withBpm_col (s : State) (v : Bpm) : (s.withBpm v).col = s.col := rfl
@[simp] theorem State.withBpm_cap (s : State) (v : Bpm) : (s.withBpm v).cap = s.cap := rfl
@[simp] theorem State.withBpm_hld (s : State) (v : Bpm) : (s.withBpm v).hld = s.hld := rfl
@[simp] theorem State.withBpm_jnl (s : State) (v : Bpm) : (s.withBpm v).jnl = s.jnl := rfl
@[simp] theorem State.withBpm_zon (s : State) (v : Bpm) : (s.withBpm v).zon = s.zon := rfl
@[simp] theorem State.withBpm_str (s : State) (v : Bpm) : (s.withBpm v).str = s.str := rfl
@[simp] theorem State.withBpm_sch (s : State) (v : Bpm) : (s.withBpm v).sch = s.sch := rfl
@[simp] theorem State.withBpm_lnk (s : State) (v : Bpm) : (s.withBpm v).lnk = s.lnk := rfl
@[simp] theorem State.withBpm_ddk (s : State) (v : Bpm) : (s.withBpm v).ddk = s.ddk := rfl
@[simp] theorem State.withBpm_med (s : State) (v : Bpm) : (s.withBpm v).med = s.med := rfl
@[simp] theorem State.withBpm_sec (s : State) (v : Bpm) : (s.withBpm v).sec = s.sec := rfl
@[simp] theorem State.withBpm_drm (s : State) (v : Bpm) : (s.withBpm v).drm = s.drm := rfl
@[simp] theorem State.withBpm_pwr (s : State) (v : Bpm) : (s.withBpm v).pwr = s.pwr := rfl
@[simp] theorem State.withBpm_boot (s : State) (v : Bpm) : (s.withBpm v).boot = s.boot := rfl
@[simp] theorem State.withBpm_brd (s : State) (v : Bpm) : (s.withBpm v).brd = s.brd := rfl
@[simp] theorem State.withBpm_mgt (s : State) (v : Bpm) : (s.withBpm v).mgt = s.mgt := rfl
@[simp] theorem State.withBpm_free (s : State) (v : Bpm) : (s.withBpm v).free = s.free := rfl
@[simp] theorem State.withBpm_pending (s : State) (v : Bpm) : (s.withBpm v).pending = s.pending := rfl

@[simp] theorem State.withCap_cap (s : State) (v : Capture) : (s.withCap v).cap = v := rfl
@[simp] theorem State.withCap_ao (s : State) (v : Capture) : (s.withCap v).ao = s.ao := rfl
@[simp] theorem State.withCap_win (s : State) (v : Capture) : (s.withCap v).win = s.win := rfl
@[simp] theorem State.withCap_ev (s : State) (v : Capture) : (s.withCap v).ev = s.ev := rfl
@[simp] theorem State.withCap_host (s : State) (v : Capture) : (s.withCap v).host = s.host := rfl
@[simp] theorem State.withCap_col (s : State) (v : Capture) : (s.withCap v).col = s.col := rfl
@[simp] theorem State.withCap_bpm (s : State) (v : Capture) : (s.withCap v).bpm = s.bpm := rfl
@[simp] theorem State.withCap_hld (s : State) (v : Capture) : (s.withCap v).hld = s.hld := rfl
@[simp] theorem State.withCap_jnl (s : State) (v : Capture) : (s.withCap v).jnl = s.jnl := rfl
@[simp] theorem State.withCap_zon (s : State) (v : Capture) : (s.withCap v).zon = s.zon := rfl
@[simp] theorem State.withCap_str (s : State) (v : Capture) : (s.withCap v).str = s.str := rfl
@[simp] theorem State.withCap_sch (s : State) (v : Capture) : (s.withCap v).sch = s.sch := rfl
@[simp] theorem State.withCap_lnk (s : State) (v : Capture) : (s.withCap v).lnk = s.lnk := rfl
@[simp] theorem State.withCap_ddk (s : State) (v : Capture) : (s.withCap v).ddk = s.ddk := rfl
@[simp] theorem State.withCap_med (s : State) (v : Capture) : (s.withCap v).med = s.med := rfl
@[simp] theorem State.withCap_sec (s : State) (v : Capture) : (s.withCap v).sec = s.sec := rfl
@[simp] theorem State.withCap_drm (s : State) (v : Capture) : (s.withCap v).drm = s.drm := rfl
@[simp] theorem State.withCap_pwr (s : State) (v : Capture) : (s.withCap v).pwr = s.pwr := rfl
@[simp] theorem State.withCap_boot (s : State) (v : Capture) : (s.withCap v).boot = s.boot := rfl
@[simp] theorem State.withCap_brd (s : State) (v : Capture) : (s.withCap v).brd = s.brd := rfl
@[simp] theorem State.withCap_mgt (s : State) (v : Capture) : (s.withCap v).mgt = s.mgt := rfl
@[simp] theorem State.withCap_free (s : State) (v : Capture) : (s.withCap v).free = s.free := rfl
@[simp] theorem State.withCap_pending (s : State) (v : Capture) : (s.withCap v).pending = s.pending := rfl

@[simp] theorem State.withHld_hld (s : State) (v : Holdup) : (s.withHld v).hld = v := rfl
@[simp] theorem State.withHld_ao (s : State) (v : Holdup) : (s.withHld v).ao = s.ao := rfl
@[simp] theorem State.withHld_win (s : State) (v : Holdup) : (s.withHld v).win = s.win := rfl
@[simp] theorem State.withHld_ev (s : State) (v : Holdup) : (s.withHld v).ev = s.ev := rfl
@[simp] theorem State.withHld_host (s : State) (v : Holdup) : (s.withHld v).host = s.host := rfl
@[simp] theorem State.withHld_col (s : State) (v : Holdup) : (s.withHld v).col = s.col := rfl
@[simp] theorem State.withHld_bpm (s : State) (v : Holdup) : (s.withHld v).bpm = s.bpm := rfl
@[simp] theorem State.withHld_cap (s : State) (v : Holdup) : (s.withHld v).cap = s.cap := rfl
@[simp] theorem State.withHld_jnl (s : State) (v : Holdup) : (s.withHld v).jnl = s.jnl := rfl
@[simp] theorem State.withHld_zon (s : State) (v : Holdup) : (s.withHld v).zon = s.zon := rfl
@[simp] theorem State.withHld_str (s : State) (v : Holdup) : (s.withHld v).str = s.str := rfl
@[simp] theorem State.withHld_sch (s : State) (v : Holdup) : (s.withHld v).sch = s.sch := rfl
@[simp] theorem State.withHld_lnk (s : State) (v : Holdup) : (s.withHld v).lnk = s.lnk := rfl
@[simp] theorem State.withHld_ddk (s : State) (v : Holdup) : (s.withHld v).ddk = s.ddk := rfl
@[simp] theorem State.withHld_med (s : State) (v : Holdup) : (s.withHld v).med = s.med := rfl
@[simp] theorem State.withHld_sec (s : State) (v : Holdup) : (s.withHld v).sec = s.sec := rfl
@[simp] theorem State.withHld_drm (s : State) (v : Holdup) : (s.withHld v).drm = s.drm := rfl
@[simp] theorem State.withHld_pwr (s : State) (v : Holdup) : (s.withHld v).pwr = s.pwr := rfl
@[simp] theorem State.withHld_boot (s : State) (v : Holdup) : (s.withHld v).boot = s.boot := rfl
@[simp] theorem State.withHld_brd (s : State) (v : Holdup) : (s.withHld v).brd = s.brd := rfl
@[simp] theorem State.withHld_mgt (s : State) (v : Holdup) : (s.withHld v).mgt = s.mgt := rfl
@[simp] theorem State.withHld_free (s : State) (v : Holdup) : (s.withHld v).free = s.free := rfl
@[simp] theorem State.withHld_pending (s : State) (v : Holdup) : (s.withHld v).pending = s.pending := rfl

@[simp] theorem State.withJnl_jnl (s : State) (v : Journal) : (s.withJnl v).jnl = v := rfl
@[simp] theorem State.withJnl_ao (s : State) (v : Journal) : (s.withJnl v).ao = s.ao := rfl
@[simp] theorem State.withJnl_win (s : State) (v : Journal) : (s.withJnl v).win = s.win := rfl
@[simp] theorem State.withJnl_ev (s : State) (v : Journal) : (s.withJnl v).ev = s.ev := rfl
@[simp] theorem State.withJnl_host (s : State) (v : Journal) : (s.withJnl v).host = s.host := rfl
@[simp] theorem State.withJnl_col (s : State) (v : Journal) : (s.withJnl v).col = s.col := rfl
@[simp] theorem State.withJnl_bpm (s : State) (v : Journal) : (s.withJnl v).bpm = s.bpm := rfl
@[simp] theorem State.withJnl_cap (s : State) (v : Journal) : (s.withJnl v).cap = s.cap := rfl
@[simp] theorem State.withJnl_hld (s : State) (v : Journal) : (s.withJnl v).hld = s.hld := rfl
@[simp] theorem State.withJnl_zon (s : State) (v : Journal) : (s.withJnl v).zon = s.zon := rfl
@[simp] theorem State.withJnl_str (s : State) (v : Journal) : (s.withJnl v).str = s.str := rfl
@[simp] theorem State.withJnl_sch (s : State) (v : Journal) : (s.withJnl v).sch = s.sch := rfl
@[simp] theorem State.withJnl_lnk (s : State) (v : Journal) : (s.withJnl v).lnk = s.lnk := rfl
@[simp] theorem State.withJnl_ddk (s : State) (v : Journal) : (s.withJnl v).ddk = s.ddk := rfl
@[simp] theorem State.withJnl_med (s : State) (v : Journal) : (s.withJnl v).med = s.med := rfl
@[simp] theorem State.withJnl_sec (s : State) (v : Journal) : (s.withJnl v).sec = s.sec := rfl
@[simp] theorem State.withJnl_drm (s : State) (v : Journal) : (s.withJnl v).drm = s.drm := rfl
@[simp] theorem State.withJnl_pwr (s : State) (v : Journal) : (s.withJnl v).pwr = s.pwr := rfl
@[simp] theorem State.withJnl_boot (s : State) (v : Journal) : (s.withJnl v).boot = s.boot := rfl
@[simp] theorem State.withJnl_brd (s : State) (v : Journal) : (s.withJnl v).brd = s.brd := rfl
@[simp] theorem State.withJnl_mgt (s : State) (v : Journal) : (s.withJnl v).mgt = s.mgt := rfl
@[simp] theorem State.withJnl_free (s : State) (v : Journal) : (s.withJnl v).free = s.free := rfl
@[simp] theorem State.withJnl_pending (s : State) (v : Journal) : (s.withJnl v).pending = s.pending := rfl

@[simp] theorem State.withZon_zon (s : State) (v : Zones) : (s.withZon v).zon = v := rfl
@[simp] theorem State.withZon_ao (s : State) (v : Zones) : (s.withZon v).ao = s.ao := rfl
@[simp] theorem State.withZon_win (s : State) (v : Zones) : (s.withZon v).win = s.win := rfl
@[simp] theorem State.withZon_ev (s : State) (v : Zones) : (s.withZon v).ev = s.ev := rfl
@[simp] theorem State.withZon_host (s : State) (v : Zones) : (s.withZon v).host = s.host := rfl
@[simp] theorem State.withZon_col (s : State) (v : Zones) : (s.withZon v).col = s.col := rfl
@[simp] theorem State.withZon_bpm (s : State) (v : Zones) : (s.withZon v).bpm = s.bpm := rfl
@[simp] theorem State.withZon_cap (s : State) (v : Zones) : (s.withZon v).cap = s.cap := rfl
@[simp] theorem State.withZon_hld (s : State) (v : Zones) : (s.withZon v).hld = s.hld := rfl
@[simp] theorem State.withZon_jnl (s : State) (v : Zones) : (s.withZon v).jnl = s.jnl := rfl
@[simp] theorem State.withZon_str (s : State) (v : Zones) : (s.withZon v).str = s.str := rfl
@[simp] theorem State.withZon_sch (s : State) (v : Zones) : (s.withZon v).sch = s.sch := rfl
@[simp] theorem State.withZon_lnk (s : State) (v : Zones) : (s.withZon v).lnk = s.lnk := rfl
@[simp] theorem State.withZon_ddk (s : State) (v : Zones) : (s.withZon v).ddk = s.ddk := rfl
@[simp] theorem State.withZon_med (s : State) (v : Zones) : (s.withZon v).med = s.med := rfl
@[simp] theorem State.withZon_sec (s : State) (v : Zones) : (s.withZon v).sec = s.sec := rfl
@[simp] theorem State.withZon_drm (s : State) (v : Zones) : (s.withZon v).drm = s.drm := rfl
@[simp] theorem State.withZon_pwr (s : State) (v : Zones) : (s.withZon v).pwr = s.pwr := rfl
@[simp] theorem State.withZon_boot (s : State) (v : Zones) : (s.withZon v).boot = s.boot := rfl
@[simp] theorem State.withZon_brd (s : State) (v : Zones) : (s.withZon v).brd = s.brd := rfl
@[simp] theorem State.withZon_mgt (s : State) (v : Zones) : (s.withZon v).mgt = s.mgt := rfl
@[simp] theorem State.withZon_free (s : State) (v : Zones) : (s.withZon v).free = s.free := rfl
@[simp] theorem State.withZon_pending (s : State) (v : Zones) : (s.withZon v).pending = s.pending := rfl

@[simp] theorem State.withStr_str (s : State) (v : Stripes) : (s.withStr v).str = v := rfl
@[simp] theorem State.withStr_ao (s : State) (v : Stripes) : (s.withStr v).ao = s.ao := rfl
@[simp] theorem State.withStr_win (s : State) (v : Stripes) : (s.withStr v).win = s.win := rfl
@[simp] theorem State.withStr_ev (s : State) (v : Stripes) : (s.withStr v).ev = s.ev := rfl
@[simp] theorem State.withStr_host (s : State) (v : Stripes) : (s.withStr v).host = s.host := rfl
@[simp] theorem State.withStr_col (s : State) (v : Stripes) : (s.withStr v).col = s.col := rfl
@[simp] theorem State.withStr_bpm (s : State) (v : Stripes) : (s.withStr v).bpm = s.bpm := rfl
@[simp] theorem State.withStr_cap (s : State) (v : Stripes) : (s.withStr v).cap = s.cap := rfl
@[simp] theorem State.withStr_hld (s : State) (v : Stripes) : (s.withStr v).hld = s.hld := rfl
@[simp] theorem State.withStr_jnl (s : State) (v : Stripes) : (s.withStr v).jnl = s.jnl := rfl
@[simp] theorem State.withStr_zon (s : State) (v : Stripes) : (s.withStr v).zon = s.zon := rfl
@[simp] theorem State.withStr_sch (s : State) (v : Stripes) : (s.withStr v).sch = s.sch := rfl
@[simp] theorem State.withStr_lnk (s : State) (v : Stripes) : (s.withStr v).lnk = s.lnk := rfl
@[simp] theorem State.withStr_ddk (s : State) (v : Stripes) : (s.withStr v).ddk = s.ddk := rfl
@[simp] theorem State.withStr_med (s : State) (v : Stripes) : (s.withStr v).med = s.med := rfl
@[simp] theorem State.withStr_sec (s : State) (v : Stripes) : (s.withStr v).sec = s.sec := rfl
@[simp] theorem State.withStr_drm (s : State) (v : Stripes) : (s.withStr v).drm = s.drm := rfl
@[simp] theorem State.withStr_pwr (s : State) (v : Stripes) : (s.withStr v).pwr = s.pwr := rfl
@[simp] theorem State.withStr_boot (s : State) (v : Stripes) : (s.withStr v).boot = s.boot := rfl
@[simp] theorem State.withStr_brd (s : State) (v : Stripes) : (s.withStr v).brd = s.brd := rfl
@[simp] theorem State.withStr_mgt (s : State) (v : Stripes) : (s.withStr v).mgt = s.mgt := rfl
@[simp] theorem State.withStr_free (s : State) (v : Stripes) : (s.withStr v).free = s.free := rfl
@[simp] theorem State.withStr_pending (s : State) (v : Stripes) : (s.withStr v).pending = s.pending := rfl

@[simp] theorem State.withSch_sch (s : State) (v : Sched) : (s.withSch v).sch = v := rfl
@[simp] theorem State.withSch_ao (s : State) (v : Sched) : (s.withSch v).ao = s.ao := rfl
@[simp] theorem State.withSch_win (s : State) (v : Sched) : (s.withSch v).win = s.win := rfl
@[simp] theorem State.withSch_ev (s : State) (v : Sched) : (s.withSch v).ev = s.ev := rfl
@[simp] theorem State.withSch_host (s : State) (v : Sched) : (s.withSch v).host = s.host := rfl
@[simp] theorem State.withSch_col (s : State) (v : Sched) : (s.withSch v).col = s.col := rfl
@[simp] theorem State.withSch_bpm (s : State) (v : Sched) : (s.withSch v).bpm = s.bpm := rfl
@[simp] theorem State.withSch_cap (s : State) (v : Sched) : (s.withSch v).cap = s.cap := rfl
@[simp] theorem State.withSch_hld (s : State) (v : Sched) : (s.withSch v).hld = s.hld := rfl
@[simp] theorem State.withSch_jnl (s : State) (v : Sched) : (s.withSch v).jnl = s.jnl := rfl
@[simp] theorem State.withSch_zon (s : State) (v : Sched) : (s.withSch v).zon = s.zon := rfl
@[simp] theorem State.withSch_str (s : State) (v : Sched) : (s.withSch v).str = s.str := rfl
@[simp] theorem State.withSch_lnk (s : State) (v : Sched) : (s.withSch v).lnk = s.lnk := rfl
@[simp] theorem State.withSch_ddk (s : State) (v : Sched) : (s.withSch v).ddk = s.ddk := rfl
@[simp] theorem State.withSch_med (s : State) (v : Sched) : (s.withSch v).med = s.med := rfl
@[simp] theorem State.withSch_sec (s : State) (v : Sched) : (s.withSch v).sec = s.sec := rfl
@[simp] theorem State.withSch_drm (s : State) (v : Sched) : (s.withSch v).drm = s.drm := rfl
@[simp] theorem State.withSch_pwr (s : State) (v : Sched) : (s.withSch v).pwr = s.pwr := rfl
@[simp] theorem State.withSch_boot (s : State) (v : Sched) : (s.withSch v).boot = s.boot := rfl
@[simp] theorem State.withSch_brd (s : State) (v : Sched) : (s.withSch v).brd = s.brd := rfl
@[simp] theorem State.withSch_mgt (s : State) (v : Sched) : (s.withSch v).mgt = s.mgt := rfl
@[simp] theorem State.withSch_free (s : State) (v : Sched) : (s.withSch v).free = s.free := rfl
@[simp] theorem State.withSch_pending (s : State) (v : Sched) : (s.withSch v).pending = s.pending := rfl

@[simp] theorem State.withLnk_lnk (s : State) (v : Links) : (s.withLnk v).lnk = v := rfl
@[simp] theorem State.withLnk_ao (s : State) (v : Links) : (s.withLnk v).ao = s.ao := rfl
@[simp] theorem State.withLnk_win (s : State) (v : Links) : (s.withLnk v).win = s.win := rfl
@[simp] theorem State.withLnk_ev (s : State) (v : Links) : (s.withLnk v).ev = s.ev := rfl
@[simp] theorem State.withLnk_host (s : State) (v : Links) : (s.withLnk v).host = s.host := rfl
@[simp] theorem State.withLnk_col (s : State) (v : Links) : (s.withLnk v).col = s.col := rfl
@[simp] theorem State.withLnk_bpm (s : State) (v : Links) : (s.withLnk v).bpm = s.bpm := rfl
@[simp] theorem State.withLnk_cap (s : State) (v : Links) : (s.withLnk v).cap = s.cap := rfl
@[simp] theorem State.withLnk_hld (s : State) (v : Links) : (s.withLnk v).hld = s.hld := rfl
@[simp] theorem State.withLnk_jnl (s : State) (v : Links) : (s.withLnk v).jnl = s.jnl := rfl
@[simp] theorem State.withLnk_zon (s : State) (v : Links) : (s.withLnk v).zon = s.zon := rfl
@[simp] theorem State.withLnk_str (s : State) (v : Links) : (s.withLnk v).str = s.str := rfl
@[simp] theorem State.withLnk_sch (s : State) (v : Links) : (s.withLnk v).sch = s.sch := rfl
@[simp] theorem State.withLnk_ddk (s : State) (v : Links) : (s.withLnk v).ddk = s.ddk := rfl
@[simp] theorem State.withLnk_med (s : State) (v : Links) : (s.withLnk v).med = s.med := rfl
@[simp] theorem State.withLnk_sec (s : State) (v : Links) : (s.withLnk v).sec = s.sec := rfl
@[simp] theorem State.withLnk_drm (s : State) (v : Links) : (s.withLnk v).drm = s.drm := rfl
@[simp] theorem State.withLnk_pwr (s : State) (v : Links) : (s.withLnk v).pwr = s.pwr := rfl
@[simp] theorem State.withLnk_boot (s : State) (v : Links) : (s.withLnk v).boot = s.boot := rfl
@[simp] theorem State.withLnk_brd (s : State) (v : Links) : (s.withLnk v).brd = s.brd := rfl
@[simp] theorem State.withLnk_mgt (s : State) (v : Links) : (s.withLnk v).mgt = s.mgt := rfl
@[simp] theorem State.withLnk_free (s : State) (v : Links) : (s.withLnk v).free = s.free := rfl
@[simp] theorem State.withLnk_pending (s : State) (v : Links) : (s.withLnk v).pending = s.pending := rfl

@[simp] theorem State.withDdk_ddk (s : State) (v : Didrinak) : (s.withDdk v).ddk = v := rfl
@[simp] theorem State.withDdk_ao (s : State) (v : Didrinak) : (s.withDdk v).ao = s.ao := rfl
@[simp] theorem State.withDdk_win (s : State) (v : Didrinak) : (s.withDdk v).win = s.win := rfl
@[simp] theorem State.withDdk_ev (s : State) (v : Didrinak) : (s.withDdk v).ev = s.ev := rfl
@[simp] theorem State.withDdk_host (s : State) (v : Didrinak) : (s.withDdk v).host = s.host := rfl
@[simp] theorem State.withDdk_col (s : State) (v : Didrinak) : (s.withDdk v).col = s.col := rfl
@[simp] theorem State.withDdk_bpm (s : State) (v : Didrinak) : (s.withDdk v).bpm = s.bpm := rfl
@[simp] theorem State.withDdk_cap (s : State) (v : Didrinak) : (s.withDdk v).cap = s.cap := rfl
@[simp] theorem State.withDdk_hld (s : State) (v : Didrinak) : (s.withDdk v).hld = s.hld := rfl
@[simp] theorem State.withDdk_jnl (s : State) (v : Didrinak) : (s.withDdk v).jnl = s.jnl := rfl
@[simp] theorem State.withDdk_zon (s : State) (v : Didrinak) : (s.withDdk v).zon = s.zon := rfl
@[simp] theorem State.withDdk_str (s : State) (v : Didrinak) : (s.withDdk v).str = s.str := rfl
@[simp] theorem State.withDdk_sch (s : State) (v : Didrinak) : (s.withDdk v).sch = s.sch := rfl
@[simp] theorem State.withDdk_lnk (s : State) (v : Didrinak) : (s.withDdk v).lnk = s.lnk := rfl
@[simp] theorem State.withDdk_med (s : State) (v : Didrinak) : (s.withDdk v).med = s.med := rfl
@[simp] theorem State.withDdk_sec (s : State) (v : Didrinak) : (s.withDdk v).sec = s.sec := rfl
@[simp] theorem State.withDdk_drm (s : State) (v : Didrinak) : (s.withDdk v).drm = s.drm := rfl
@[simp] theorem State.withDdk_pwr (s : State) (v : Didrinak) : (s.withDdk v).pwr = s.pwr := rfl
@[simp] theorem State.withDdk_boot (s : State) (v : Didrinak) : (s.withDdk v).boot = s.boot := rfl
@[simp] theorem State.withDdk_brd (s : State) (v : Didrinak) : (s.withDdk v).brd = s.brd := rfl
@[simp] theorem State.withDdk_mgt (s : State) (v : Didrinak) : (s.withDdk v).mgt = s.mgt := rfl
@[simp] theorem State.withDdk_free (s : State) (v : Didrinak) : (s.withDdk v).free = s.free := rfl
@[simp] theorem State.withDdk_pending (s : State) (v : Didrinak) : (s.withDdk v).pending = s.pending := rfl

@[simp] theorem State.withMed_med (s : State) (v : Media) : (s.withMed v).med = v := rfl
@[simp] theorem State.withMed_ao (s : State) (v : Media) : (s.withMed v).ao = s.ao := rfl
@[simp] theorem State.withMed_win (s : State) (v : Media) : (s.withMed v).win = s.win := rfl
@[simp] theorem State.withMed_ev (s : State) (v : Media) : (s.withMed v).ev = s.ev := rfl
@[simp] theorem State.withMed_host (s : State) (v : Media) : (s.withMed v).host = s.host := rfl
@[simp] theorem State.withMed_col (s : State) (v : Media) : (s.withMed v).col = s.col := rfl
@[simp] theorem State.withMed_bpm (s : State) (v : Media) : (s.withMed v).bpm = s.bpm := rfl
@[simp] theorem State.withMed_cap (s : State) (v : Media) : (s.withMed v).cap = s.cap := rfl
@[simp] theorem State.withMed_hld (s : State) (v : Media) : (s.withMed v).hld = s.hld := rfl
@[simp] theorem State.withMed_jnl (s : State) (v : Media) : (s.withMed v).jnl = s.jnl := rfl
@[simp] theorem State.withMed_zon (s : State) (v : Media) : (s.withMed v).zon = s.zon := rfl
@[simp] theorem State.withMed_str (s : State) (v : Media) : (s.withMed v).str = s.str := rfl
@[simp] theorem State.withMed_sch (s : State) (v : Media) : (s.withMed v).sch = s.sch := rfl
@[simp] theorem State.withMed_lnk (s : State) (v : Media) : (s.withMed v).lnk = s.lnk := rfl
@[simp] theorem State.withMed_ddk (s : State) (v : Media) : (s.withMed v).ddk = s.ddk := rfl
@[simp] theorem State.withMed_sec (s : State) (v : Media) : (s.withMed v).sec = s.sec := rfl
@[simp] theorem State.withMed_drm (s : State) (v : Media) : (s.withMed v).drm = s.drm := rfl
@[simp] theorem State.withMed_pwr (s : State) (v : Media) : (s.withMed v).pwr = s.pwr := rfl
@[simp] theorem State.withMed_boot (s : State) (v : Media) : (s.withMed v).boot = s.boot := rfl
@[simp] theorem State.withMed_brd (s : State) (v : Media) : (s.withMed v).brd = s.brd := rfl
@[simp] theorem State.withMed_mgt (s : State) (v : Media) : (s.withMed v).mgt = s.mgt := rfl
@[simp] theorem State.withMed_free (s : State) (v : Media) : (s.withMed v).free = s.free := rfl
@[simp] theorem State.withMed_pending (s : State) (v : Media) : (s.withMed v).pending = s.pending := rfl

@[simp] theorem State.withSec_sec (s : State) (v : Vault) : (s.withSec v).sec = v := rfl
@[simp] theorem State.withSec_ao (s : State) (v : Vault) : (s.withSec v).ao = s.ao := rfl
@[simp] theorem State.withSec_win (s : State) (v : Vault) : (s.withSec v).win = s.win := rfl
@[simp] theorem State.withSec_ev (s : State) (v : Vault) : (s.withSec v).ev = s.ev := rfl
@[simp] theorem State.withSec_host (s : State) (v : Vault) : (s.withSec v).host = s.host := rfl
@[simp] theorem State.withSec_col (s : State) (v : Vault) : (s.withSec v).col = s.col := rfl
@[simp] theorem State.withSec_bpm (s : State) (v : Vault) : (s.withSec v).bpm = s.bpm := rfl
@[simp] theorem State.withSec_cap (s : State) (v : Vault) : (s.withSec v).cap = s.cap := rfl
@[simp] theorem State.withSec_hld (s : State) (v : Vault) : (s.withSec v).hld = s.hld := rfl
@[simp] theorem State.withSec_jnl (s : State) (v : Vault) : (s.withSec v).jnl = s.jnl := rfl
@[simp] theorem State.withSec_zon (s : State) (v : Vault) : (s.withSec v).zon = s.zon := rfl
@[simp] theorem State.withSec_str (s : State) (v : Vault) : (s.withSec v).str = s.str := rfl
@[simp] theorem State.withSec_sch (s : State) (v : Vault) : (s.withSec v).sch = s.sch := rfl
@[simp] theorem State.withSec_lnk (s : State) (v : Vault) : (s.withSec v).lnk = s.lnk := rfl
@[simp] theorem State.withSec_ddk (s : State) (v : Vault) : (s.withSec v).ddk = s.ddk := rfl
@[simp] theorem State.withSec_med (s : State) (v : Vault) : (s.withSec v).med = s.med := rfl
@[simp] theorem State.withSec_drm (s : State) (v : Vault) : (s.withSec v).drm = s.drm := rfl
@[simp] theorem State.withSec_pwr (s : State) (v : Vault) : (s.withSec v).pwr = s.pwr := rfl
@[simp] theorem State.withSec_boot (s : State) (v : Vault) : (s.withSec v).boot = s.boot := rfl
@[simp] theorem State.withSec_brd (s : State) (v : Vault) : (s.withSec v).brd = s.brd := rfl
@[simp] theorem State.withSec_mgt (s : State) (v : Vault) : (s.withSec v).mgt = s.mgt := rfl
@[simp] theorem State.withSec_free (s : State) (v : Vault) : (s.withSec v).free = s.free := rfl
@[simp] theorem State.withSec_pending (s : State) (v : Vault) : (s.withSec v).pending = s.pending := rfl

@[simp] theorem State.withDrm_drm (s : State) (v : Dram) : (s.withDrm v).drm = v := rfl
@[simp] theorem State.withDrm_ao (s : State) (v : Dram) : (s.withDrm v).ao = s.ao := rfl
@[simp] theorem State.withDrm_win (s : State) (v : Dram) : (s.withDrm v).win = s.win := rfl
@[simp] theorem State.withDrm_ev (s : State) (v : Dram) : (s.withDrm v).ev = s.ev := rfl
@[simp] theorem State.withDrm_host (s : State) (v : Dram) : (s.withDrm v).host = s.host := rfl
@[simp] theorem State.withDrm_col (s : State) (v : Dram) : (s.withDrm v).col = s.col := rfl
@[simp] theorem State.withDrm_bpm (s : State) (v : Dram) : (s.withDrm v).bpm = s.bpm := rfl
@[simp] theorem State.withDrm_cap (s : State) (v : Dram) : (s.withDrm v).cap = s.cap := rfl
@[simp] theorem State.withDrm_hld (s : State) (v : Dram) : (s.withDrm v).hld = s.hld := rfl
@[simp] theorem State.withDrm_jnl (s : State) (v : Dram) : (s.withDrm v).jnl = s.jnl := rfl
@[simp] theorem State.withDrm_zon (s : State) (v : Dram) : (s.withDrm v).zon = s.zon := rfl
@[simp] theorem State.withDrm_str (s : State) (v : Dram) : (s.withDrm v).str = s.str := rfl
@[simp] theorem State.withDrm_sch (s : State) (v : Dram) : (s.withDrm v).sch = s.sch := rfl
@[simp] theorem State.withDrm_lnk (s : State) (v : Dram) : (s.withDrm v).lnk = s.lnk := rfl
@[simp] theorem State.withDrm_ddk (s : State) (v : Dram) : (s.withDrm v).ddk = s.ddk := rfl
@[simp] theorem State.withDrm_med (s : State) (v : Dram) : (s.withDrm v).med = s.med := rfl
@[simp] theorem State.withDrm_sec (s : State) (v : Dram) : (s.withDrm v).sec = s.sec := rfl
@[simp] theorem State.withDrm_pwr (s : State) (v : Dram) : (s.withDrm v).pwr = s.pwr := rfl
@[simp] theorem State.withDrm_boot (s : State) (v : Dram) : (s.withDrm v).boot = s.boot := rfl
@[simp] theorem State.withDrm_brd (s : State) (v : Dram) : (s.withDrm v).brd = s.brd := rfl
@[simp] theorem State.withDrm_mgt (s : State) (v : Dram) : (s.withDrm v).mgt = s.mgt := rfl
@[simp] theorem State.withDrm_free (s : State) (v : Dram) : (s.withDrm v).free = s.free := rfl
@[simp] theorem State.withDrm_pending (s : State) (v : Dram) : (s.withDrm v).pending = s.pending := rfl

@[simp] theorem State.withPwr_pwr (s : State) (v : Power) : (s.withPwr v).pwr = v := rfl
@[simp] theorem State.withPwr_ao (s : State) (v : Power) : (s.withPwr v).ao = s.ao := rfl
@[simp] theorem State.withPwr_win (s : State) (v : Power) : (s.withPwr v).win = s.win := rfl
@[simp] theorem State.withPwr_ev (s : State) (v : Power) : (s.withPwr v).ev = s.ev := rfl
@[simp] theorem State.withPwr_host (s : State) (v : Power) : (s.withPwr v).host = s.host := rfl
@[simp] theorem State.withPwr_col (s : State) (v : Power) : (s.withPwr v).col = s.col := rfl
@[simp] theorem State.withPwr_bpm (s : State) (v : Power) : (s.withPwr v).bpm = s.bpm := rfl
@[simp] theorem State.withPwr_cap (s : State) (v : Power) : (s.withPwr v).cap = s.cap := rfl
@[simp] theorem State.withPwr_hld (s : State) (v : Power) : (s.withPwr v).hld = s.hld := rfl
@[simp] theorem State.withPwr_jnl (s : State) (v : Power) : (s.withPwr v).jnl = s.jnl := rfl
@[simp] theorem State.withPwr_zon (s : State) (v : Power) : (s.withPwr v).zon = s.zon := rfl
@[simp] theorem State.withPwr_str (s : State) (v : Power) : (s.withPwr v).str = s.str := rfl
@[simp] theorem State.withPwr_sch (s : State) (v : Power) : (s.withPwr v).sch = s.sch := rfl
@[simp] theorem State.withPwr_lnk (s : State) (v : Power) : (s.withPwr v).lnk = s.lnk := rfl
@[simp] theorem State.withPwr_ddk (s : State) (v : Power) : (s.withPwr v).ddk = s.ddk := rfl
@[simp] theorem State.withPwr_med (s : State) (v : Power) : (s.withPwr v).med = s.med := rfl
@[simp] theorem State.withPwr_sec (s : State) (v : Power) : (s.withPwr v).sec = s.sec := rfl
@[simp] theorem State.withPwr_drm (s : State) (v : Power) : (s.withPwr v).drm = s.drm := rfl
@[simp] theorem State.withPwr_boot (s : State) (v : Power) : (s.withPwr v).boot = s.boot := rfl
@[simp] theorem State.withPwr_brd (s : State) (v : Power) : (s.withPwr v).brd = s.brd := rfl
@[simp] theorem State.withPwr_mgt (s : State) (v : Power) : (s.withPwr v).mgt = s.mgt := rfl
@[simp] theorem State.withPwr_free (s : State) (v : Power) : (s.withPwr v).free = s.free := rfl
@[simp] theorem State.withPwr_pending (s : State) (v : Power) : (s.withPwr v).pending = s.pending := rfl

@[simp] theorem State.withBoot_boot (s : State) (v : Boot) : (s.withBoot v).boot = v := rfl
@[simp] theorem State.withBoot_ao (s : State) (v : Boot) : (s.withBoot v).ao = s.ao := rfl
@[simp] theorem State.withBoot_win (s : State) (v : Boot) : (s.withBoot v).win = s.win := rfl
@[simp] theorem State.withBoot_ev (s : State) (v : Boot) : (s.withBoot v).ev = s.ev := rfl
@[simp] theorem State.withBoot_host (s : State) (v : Boot) : (s.withBoot v).host = s.host := rfl
@[simp] theorem State.withBoot_col (s : State) (v : Boot) : (s.withBoot v).col = s.col := rfl
@[simp] theorem State.withBoot_bpm (s : State) (v : Boot) : (s.withBoot v).bpm = s.bpm := rfl
@[simp] theorem State.withBoot_cap (s : State) (v : Boot) : (s.withBoot v).cap = s.cap := rfl
@[simp] theorem State.withBoot_hld (s : State) (v : Boot) : (s.withBoot v).hld = s.hld := rfl
@[simp] theorem State.withBoot_jnl (s : State) (v : Boot) : (s.withBoot v).jnl = s.jnl := rfl
@[simp] theorem State.withBoot_zon (s : State) (v : Boot) : (s.withBoot v).zon = s.zon := rfl
@[simp] theorem State.withBoot_str (s : State) (v : Boot) : (s.withBoot v).str = s.str := rfl
@[simp] theorem State.withBoot_sch (s : State) (v : Boot) : (s.withBoot v).sch = s.sch := rfl
@[simp] theorem State.withBoot_lnk (s : State) (v : Boot) : (s.withBoot v).lnk = s.lnk := rfl
@[simp] theorem State.withBoot_ddk (s : State) (v : Boot) : (s.withBoot v).ddk = s.ddk := rfl
@[simp] theorem State.withBoot_med (s : State) (v : Boot) : (s.withBoot v).med = s.med := rfl
@[simp] theorem State.withBoot_sec (s : State) (v : Boot) : (s.withBoot v).sec = s.sec := rfl
@[simp] theorem State.withBoot_drm (s : State) (v : Boot) : (s.withBoot v).drm = s.drm := rfl
@[simp] theorem State.withBoot_pwr (s : State) (v : Boot) : (s.withBoot v).pwr = s.pwr := rfl
@[simp] theorem State.withBoot_brd (s : State) (v : Boot) : (s.withBoot v).brd = s.brd := rfl
@[simp] theorem State.withBoot_mgt (s : State) (v : Boot) : (s.withBoot v).mgt = s.mgt := rfl
@[simp] theorem State.withBoot_free (s : State) (v : Boot) : (s.withBoot v).free = s.free := rfl
@[simp] theorem State.withBoot_pending (s : State) (v : Boot) : (s.withBoot v).pending = s.pending := rfl

@[simp] theorem State.withBrd_brd (s : State) (v : Board) : (s.withBrd v).brd = v := rfl
@[simp] theorem State.withBrd_ao (s : State) (v : Board) : (s.withBrd v).ao = s.ao := rfl
@[simp] theorem State.withBrd_win (s : State) (v : Board) : (s.withBrd v).win = s.win := rfl
@[simp] theorem State.withBrd_ev (s : State) (v : Board) : (s.withBrd v).ev = s.ev := rfl
@[simp] theorem State.withBrd_host (s : State) (v : Board) : (s.withBrd v).host = s.host := rfl
@[simp] theorem State.withBrd_col (s : State) (v : Board) : (s.withBrd v).col = s.col := rfl
@[simp] theorem State.withBrd_bpm (s : State) (v : Board) : (s.withBrd v).bpm = s.bpm := rfl
@[simp] theorem State.withBrd_cap (s : State) (v : Board) : (s.withBrd v).cap = s.cap := rfl
@[simp] theorem State.withBrd_hld (s : State) (v : Board) : (s.withBrd v).hld = s.hld := rfl
@[simp] theorem State.withBrd_jnl (s : State) (v : Board) : (s.withBrd v).jnl = s.jnl := rfl
@[simp] theorem State.withBrd_zon (s : State) (v : Board) : (s.withBrd v).zon = s.zon := rfl
@[simp] theorem State.withBrd_str (s : State) (v : Board) : (s.withBrd v).str = s.str := rfl
@[simp] theorem State.withBrd_sch (s : State) (v : Board) : (s.withBrd v).sch = s.sch := rfl
@[simp] theorem State.withBrd_lnk (s : State) (v : Board) : (s.withBrd v).lnk = s.lnk := rfl
@[simp] theorem State.withBrd_ddk (s : State) (v : Board) : (s.withBrd v).ddk = s.ddk := rfl
@[simp] theorem State.withBrd_med (s : State) (v : Board) : (s.withBrd v).med = s.med := rfl
@[simp] theorem State.withBrd_sec (s : State) (v : Board) : (s.withBrd v).sec = s.sec := rfl
@[simp] theorem State.withBrd_drm (s : State) (v : Board) : (s.withBrd v).drm = s.drm := rfl
@[simp] theorem State.withBrd_pwr (s : State) (v : Board) : (s.withBrd v).pwr = s.pwr := rfl
@[simp] theorem State.withBrd_boot (s : State) (v : Board) : (s.withBrd v).boot = s.boot := rfl
@[simp] theorem State.withBrd_mgt (s : State) (v : Board) : (s.withBrd v).mgt = s.mgt := rfl
@[simp] theorem State.withBrd_free (s : State) (v : Board) : (s.withBrd v).free = s.free := rfl
@[simp] theorem State.withBrd_pending (s : State) (v : Board) : (s.withBrd v).pending = s.pending := rfl

@[simp] theorem State.withMgt_mgt (s : State) (v : Mgmt) : (s.withMgt v).mgt = v := rfl
@[simp] theorem State.withMgt_ao (s : State) (v : Mgmt) : (s.withMgt v).ao = s.ao := rfl
@[simp] theorem State.withMgt_win (s : State) (v : Mgmt) : (s.withMgt v).win = s.win := rfl
@[simp] theorem State.withMgt_ev (s : State) (v : Mgmt) : (s.withMgt v).ev = s.ev := rfl
@[simp] theorem State.withMgt_host (s : State) (v : Mgmt) : (s.withMgt v).host = s.host := rfl
@[simp] theorem State.withMgt_col (s : State) (v : Mgmt) : (s.withMgt v).col = s.col := rfl
@[simp] theorem State.withMgt_bpm (s : State) (v : Mgmt) : (s.withMgt v).bpm = s.bpm := rfl
@[simp] theorem State.withMgt_cap (s : State) (v : Mgmt) : (s.withMgt v).cap = s.cap := rfl
@[simp] theorem State.withMgt_hld (s : State) (v : Mgmt) : (s.withMgt v).hld = s.hld := rfl
@[simp] theorem State.withMgt_jnl (s : State) (v : Mgmt) : (s.withMgt v).jnl = s.jnl := rfl
@[simp] theorem State.withMgt_zon (s : State) (v : Mgmt) : (s.withMgt v).zon = s.zon := rfl
@[simp] theorem State.withMgt_str (s : State) (v : Mgmt) : (s.withMgt v).str = s.str := rfl
@[simp] theorem State.withMgt_sch (s : State) (v : Mgmt) : (s.withMgt v).sch = s.sch := rfl
@[simp] theorem State.withMgt_lnk (s : State) (v : Mgmt) : (s.withMgt v).lnk = s.lnk := rfl
@[simp] theorem State.withMgt_ddk (s : State) (v : Mgmt) : (s.withMgt v).ddk = s.ddk := rfl
@[simp] theorem State.withMgt_med (s : State) (v : Mgmt) : (s.withMgt v).med = s.med := rfl
@[simp] theorem State.withMgt_sec (s : State) (v : Mgmt) : (s.withMgt v).sec = s.sec := rfl
@[simp] theorem State.withMgt_drm (s : State) (v : Mgmt) : (s.withMgt v).drm = s.drm := rfl
@[simp] theorem State.withMgt_pwr (s : State) (v : Mgmt) : (s.withMgt v).pwr = s.pwr := rfl
@[simp] theorem State.withMgt_boot (s : State) (v : Mgmt) : (s.withMgt v).boot = s.boot := rfl
@[simp] theorem State.withMgt_brd (s : State) (v : Mgmt) : (s.withMgt v).brd = s.brd := rfl
@[simp] theorem State.withMgt_free (s : State) (v : Mgmt) : (s.withMgt v).free = s.free := rfl
@[simp] theorem State.withMgt_pending (s : State) (v : Mgmt) : (s.withMgt v).pending = s.pending := rfl

@[simp] theorem State.withFree_free (s : State) (v : Nat) : (s.withFree v).free = v := rfl
@[simp] theorem State.withFree_ao (s : State) (v : Nat) : (s.withFree v).ao = s.ao := rfl
@[simp] theorem State.withFree_win (s : State) (v : Nat) : (s.withFree v).win = s.win := rfl
@[simp] theorem State.withFree_ev (s : State) (v : Nat) : (s.withFree v).ev = s.ev := rfl
@[simp] theorem State.withFree_host (s : State) (v : Nat) : (s.withFree v).host = s.host := rfl
@[simp] theorem State.withFree_col (s : State) (v : Nat) : (s.withFree v).col = s.col := rfl
@[simp] theorem State.withFree_bpm (s : State) (v : Nat) : (s.withFree v).bpm = s.bpm := rfl
@[simp] theorem State.withFree_cap (s : State) (v : Nat) : (s.withFree v).cap = s.cap := rfl
@[simp] theorem State.withFree_hld (s : State) (v : Nat) : (s.withFree v).hld = s.hld := rfl
@[simp] theorem State.withFree_jnl (s : State) (v : Nat) : (s.withFree v).jnl = s.jnl := rfl
@[simp] theorem State.withFree_zon (s : State) (v : Nat) : (s.withFree v).zon = s.zon := rfl
@[simp] theorem State.withFree_str (s : State) (v : Nat) : (s.withFree v).str = s.str := rfl
@[simp] theorem State.withFree_sch (s : State) (v : Nat) : (s.withFree v).sch = s.sch := rfl
@[simp] theorem State.withFree_lnk (s : State) (v : Nat) : (s.withFree v).lnk = s.lnk := rfl
@[simp] theorem State.withFree_ddk (s : State) (v : Nat) : (s.withFree v).ddk = s.ddk := rfl
@[simp] theorem State.withFree_med (s : State) (v : Nat) : (s.withFree v).med = s.med := rfl
@[simp] theorem State.withFree_sec (s : State) (v : Nat) : (s.withFree v).sec = s.sec := rfl
@[simp] theorem State.withFree_drm (s : State) (v : Nat) : (s.withFree v).drm = s.drm := rfl
@[simp] theorem State.withFree_pwr (s : State) (v : Nat) : (s.withFree v).pwr = s.pwr := rfl
@[simp] theorem State.withFree_boot (s : State) (v : Nat) : (s.withFree v).boot = s.boot := rfl
@[simp] theorem State.withFree_brd (s : State) (v : Nat) : (s.withFree v).brd = s.brd := rfl
@[simp] theorem State.withFree_mgt (s : State) (v : Nat) : (s.withFree v).mgt = s.mgt := rfl
@[simp] theorem State.withFree_pending (s : State) (v : Nat) : (s.withFree v).pending = s.pending := rfl

@[simp] theorem State.withPending_pending (s : State) (v : List Instr) : (s.withPending v).pending = v := rfl
@[simp] theorem State.withPending_ao (s : State) (v : List Instr) : (s.withPending v).ao = s.ao := rfl
@[simp] theorem State.withPending_win (s : State) (v : List Instr) : (s.withPending v).win = s.win := rfl
@[simp] theorem State.withPending_ev (s : State) (v : List Instr) : (s.withPending v).ev = s.ev := rfl
@[simp] theorem State.withPending_host (s : State) (v : List Instr) : (s.withPending v).host = s.host := rfl
@[simp] theorem State.withPending_col (s : State) (v : List Instr) : (s.withPending v).col = s.col := rfl
@[simp] theorem State.withPending_bpm (s : State) (v : List Instr) : (s.withPending v).bpm = s.bpm := rfl
@[simp] theorem State.withPending_cap (s : State) (v : List Instr) : (s.withPending v).cap = s.cap := rfl
@[simp] theorem State.withPending_hld (s : State) (v : List Instr) : (s.withPending v).hld = s.hld := rfl
@[simp] theorem State.withPending_jnl (s : State) (v : List Instr) : (s.withPending v).jnl = s.jnl := rfl
@[simp] theorem State.withPending_zon (s : State) (v : List Instr) : (s.withPending v).zon = s.zon := rfl
@[simp] theorem State.withPending_str (s : State) (v : List Instr) : (s.withPending v).str = s.str := rfl
@[simp] theorem State.withPending_sch (s : State) (v : List Instr) : (s.withPending v).sch = s.sch := rfl
@[simp] theorem State.withPending_lnk (s : State) (v : List Instr) : (s.withPending v).lnk = s.lnk := rfl
@[simp] theorem State.withPending_ddk (s : State) (v : List Instr) : (s.withPending v).ddk = s.ddk := rfl
@[simp] theorem State.withPending_med (s : State) (v : List Instr) : (s.withPending v).med = s.med := rfl
@[simp] theorem State.withPending_sec (s : State) (v : List Instr) : (s.withPending v).sec = s.sec := rfl
@[simp] theorem State.withPending_drm (s : State) (v : List Instr) : (s.withPending v).drm = s.drm := rfl
@[simp] theorem State.withPending_pwr (s : State) (v : List Instr) : (s.withPending v).pwr = s.pwr := rfl
@[simp] theorem State.withPending_boot (s : State) (v : List Instr) : (s.withPending v).boot = s.boot := rfl
@[simp] theorem State.withPending_brd (s : State) (v : List Instr) : (s.withPending v).brd = s.brd := rfl
@[simp] theorem State.withPending_mgt (s : State) (v : List Instr) : (s.withPending v).mgt = s.mgt := rfl
@[simp] theorem State.withPending_free (s : State) (v : List Instr) : (s.withPending v).free = s.free := rfl

end Sys2Proof.Machine
end

