-- ==== Sys2Proof/Laws/Frame.lean ====
section
/-!
SUPPORT. Frames: which parts of the state an operation may change, as the bits of a mask; an operation that changes only parts of its own
mask preserves every other part, and operations compose. Bits 0 to 22 are the parts of Safety.lean in their order; bit 23 is the vault's
fuses, bit 24 the NOR and the downloaded image, bit 25 the bytes of the DRAM.
-/

namespace Sys2Proof.Machine

set_option linter.all false

/-- The two states agree in every part whose bit is off in the mask. -/
def Same (m : Nat) (s t : State) : Prop :=
  (m.testBit 0 = false → t.ao = s.ao) ∧
  (m.testBit 1 = false → t.win = s.win) ∧
  (m.testBit 2 = false → t.ev = s.ev) ∧
  (m.testBit 3 = false → t.host = s.host) ∧
  (m.testBit 4 = false → t.col = s.col) ∧
  (m.testBit 5 = false → t.bpm = s.bpm) ∧
  (m.testBit 6 = false → t.cap = s.cap) ∧
  (m.testBit 7 = false → t.hld = s.hld) ∧
  (m.testBit 8 = false → t.jnl = s.jnl) ∧
  (m.testBit 9 = false → t.zon = s.zon) ∧
  (m.testBit 10 = false → t.str = s.str) ∧
  (m.testBit 11 = false → t.sch = s.sch) ∧
  (m.testBit 12 = false → t.lnk = s.lnk) ∧
  (m.testBit 13 = false → t.ddk = s.ddk) ∧
  (m.testBit 14 = false → t.med = s.med) ∧
  (m.testBit 15 = false → t.sec = s.sec) ∧
  (m.testBit 16 = false → t.drm = s.drm) ∧
  (m.testBit 17 = false → t.pwr = s.pwr) ∧
  (m.testBit 18 = false → t.boot = s.boot) ∧
  (m.testBit 19 = false → t.brd = s.brd) ∧
  (m.testBit 20 = false → t.mgt = s.mgt) ∧
  (m.testBit 21 = false → t.free = s.free) ∧
  (m.testBit 22 = false → t.pending = s.pending) ∧
  (m.testBit 23 = false → t.sec.fuses = s.sec.fuses) ∧
  (m.testBit 24 = false → t.boot.stores = s.boot.stores) ∧
  (m.testBit 25 = false → t.drm.mem = s.drm.mem)

@[simp] theorem Same.refl (m : Nat) (s : State) : Same m s s := by simp [Same]

theorem Same.trans {m : Nat} {s t u : State} (h : Same m s t) (k : Same m t u) : Same m s u := by
  unfold Same at *
  refine ⟨?_, ?_, ?_, ?_, ?_, ?_, ?_, ?_, ?_, ?_, ?_, ?_, ?_, ?_, ?_, ?_, ?_, ?_, ?_, ?_, ?_, ?_, ?_, ?_, ?_, ?_⟩ <;> intro b <;> simp_all

theorem Same.symm {m : Nat} {s t : State} (h : Same m s t) : Same m t s := by
  unfold Same at *
  refine ⟨?_, ?_, ?_, ?_, ?_, ?_, ?_, ?_, ?_, ?_, ?_, ?_, ?_, ?_, ?_, ?_, ?_, ?_, ?_, ?_, ?_, ?_, ?_, ?_, ?_, ?_⟩ <;> intro b <;> simp_all

theorem Same.mono {m q : Nat} {s t : State} (h : Same m s t) (hq : m &&& q = m) : Same q s t := by
  have key : ∀ k, q.testBit k = false → m.testBit k = false := by
    intro k hk
    have := congrArg (fun n => n.testBit k) hq
    simp only [Nat.testBit_and, hk, Bool.and_false] at this
    exact this.symm
  unfold Same at *
  obtain ⟨h0, h1, h2, h3, h4, h5, h6, h7, h8, h9, h10, h11, h12, h13, h14, h15, h16, h17, h18, h19, h20, h21, h22, h23, h24, h25⟩ := h
  exact ⟨fun b => h0 (key 0 b), fun b => h1 (key 1 b), fun b => h2 (key 2 b), fun b => h3 (key 3 b), fun b => h4 (key 4 b), fun b => h5 (key 5 b), fun b => h6 (key 6 b), fun b => h7 (key 7 b), fun b => h8 (key 8 b), fun b => h9 (key 9 b), fun b => h10 (key 10 b), fun b => h11 (key 11 b), fun b => h12 (key 12 b), fun b => h13 (key 13 b), fun b => h14 (key 14 b), fun b => h15 (key 15 b), fun b => h16 (key 16 b), fun b => h17 (key 17 b), fun b => h18 (key 18 b), fun b => h19 (key 19 b), fun b => h20 (key 20 b), fun b => h21 (key 21 b), fun b => h22 (key 22 b), fun b => h23 (key 23 b), fun b => h24 (key 24 b), fun b => h25 (key 25 b)⟩

theorem Same.ao {m : Nat} {s t : State} (h : Same m s t) (hm : m.testBit 0 = false) : t.ao = s.ao := h.1 hm

theorem Same.win {m : Nat} {s t : State} (h : Same m s t) (hm : m.testBit 1 = false) : t.win = s.win := h.2.1 hm

theorem Same.ev {m : Nat} {s t : State} (h : Same m s t) (hm : m.testBit 2 = false) : t.ev = s.ev := h.2.2.1 hm

theorem Same.host {m : Nat} {s t : State} (h : Same m s t) (hm : m.testBit 3 = false) : t.host = s.host := h.2.2.2.1 hm

theorem Same.col {m : Nat} {s t : State} (h : Same m s t) (hm : m.testBit 4 = false) : t.col = s.col := h.2.2.2.2.1 hm

theorem Same.bpm {m : Nat} {s t : State} (h : Same m s t) (hm : m.testBit 5 = false) : t.bpm = s.bpm := h.2.2.2.2.2.1 hm

theorem Same.cap {m : Nat} {s t : State} (h : Same m s t) (hm : m.testBit 6 = false) : t.cap = s.cap := h.2.2.2.2.2.2.1 hm

theorem Same.hld {m : Nat} {s t : State} (h : Same m s t) (hm : m.testBit 7 = false) : t.hld = s.hld := h.2.2.2.2.2.2.2.1 hm

theorem Same.jnl {m : Nat} {s t : State} (h : Same m s t) (hm : m.testBit 8 = false) : t.jnl = s.jnl := h.2.2.2.2.2.2.2.2.1 hm

theorem Same.zon {m : Nat} {s t : State} (h : Same m s t) (hm : m.testBit 9 = false) : t.zon = s.zon := h.2.2.2.2.2.2.2.2.2.1 hm

theorem Same.str {m : Nat} {s t : State} (h : Same m s t) (hm : m.testBit 10 = false) : t.str = s.str := h.2.2.2.2.2.2.2.2.2.2.1 hm

theorem Same.sch {m : Nat} {s t : State} (h : Same m s t) (hm : m.testBit 11 = false) : t.sch = s.sch := h.2.2.2.2.2.2.2.2.2.2.2.1 hm

theorem Same.lnk {m : Nat} {s t : State} (h : Same m s t) (hm : m.testBit 12 = false) : t.lnk = s.lnk := h.2.2.2.2.2.2.2.2.2.2.2.2.1 hm

theorem Same.ddk {m : Nat} {s t : State} (h : Same m s t) (hm : m.testBit 13 = false) : t.ddk = s.ddk := h.2.2.2.2.2.2.2.2.2.2.2.2.2.1 hm

theorem Same.med {m : Nat} {s t : State} (h : Same m s t) (hm : m.testBit 14 = false) : t.med = s.med := h.2.2.2.2.2.2.2.2.2.2.2.2.2.2.1 hm

theorem Same.sec {m : Nat} {s t : State} (h : Same m s t) (hm : m.testBit 15 = false) : t.sec = s.sec := h.2.2.2.2.2.2.2.2.2.2.2.2.2.2.2.1 hm

theorem Same.drm {m : Nat} {s t : State} (h : Same m s t) (hm : m.testBit 16 = false) : t.drm = s.drm := h.2.2.2.2.2.2.2.2.2.2.2.2.2.2.2.2.1 hm

theorem Same.pwr {m : Nat} {s t : State} (h : Same m s t) (hm : m.testBit 17 = false) : t.pwr = s.pwr := h.2.2.2.2.2.2.2.2.2.2.2.2.2.2.2.2.2.1 hm

theorem Same.boot {m : Nat} {s t : State} (h : Same m s t) (hm : m.testBit 18 = false) : t.boot = s.boot := h.2.2.2.2.2.2.2.2.2.2.2.2.2.2.2.2.2.2.1 hm

theorem Same.brd {m : Nat} {s t : State} (h : Same m s t) (hm : m.testBit 19 = false) : t.brd = s.brd := h.2.2.2.2.2.2.2.2.2.2.2.2.2.2.2.2.2.2.2.1 hm

theorem Same.mgt {m : Nat} {s t : State} (h : Same m s t) (hm : m.testBit 20 = false) : t.mgt = s.mgt := h.2.2.2.2.2.2.2.2.2.2.2.2.2.2.2.2.2.2.2.2.1 hm

theorem Same.free {m : Nat} {s t : State} (h : Same m s t) (hm : m.testBit 21 = false) : t.free = s.free := h.2.2.2.2.2.2.2.2.2.2.2.2.2.2.2.2.2.2.2.2.2.1 hm

theorem Same.pending {m : Nat} {s t : State} (h : Same m s t) (hm : m.testBit 22 = false) : t.pending = s.pending := h.2.2.2.2.2.2.2.2.2.2.2.2.2.2.2.2.2.2.2.2.2.2.1 hm

theorem Same.fuses {m : Nat} {s t : State} (h : Same m s t) (hm : m.testBit 23 = false) : t.sec.fuses = s.sec.fuses := h.2.2.2.2.2.2.2.2.2.2.2.2.2.2.2.2.2.2.2.2.2.2.2.1 hm

theorem Same.stores {m : Nat} {s t : State} (h : Same m s t) (hm : m.testBit 24 = false) : t.boot.stores = s.boot.stores := h.2.2.2.2.2.2.2.2.2.2.2.2.2.2.2.2.2.2.2.2.2.2.2.2.1 hm

theorem Same.dmem {m : Nat} {s t : State} (h : Same m s t) (hm : m.testBit 25 = false) : t.drm.mem = s.drm.mem := h.2.2.2.2.2.2.2.2.2.2.2.2.2.2.2.2.2.2.2.2.2.2.2.2.2 hm

theorem Same.of_step {m : Nat} {s t u : State} (k : Same m t u) : Same m s u = Same m s t :=
  propext ⟨fun h => h.trans k.symm, fun h => h.trans k⟩

theorem foldl_same {α : Type} {m : Nat} (f : State → α → State) (h : ∀ s x, Same m s (f s x)) (l : List α) (s t : State) :
    Same m s (l.foldl f t) ↔ Same m s t := by
  rw [← eq_iff_iff]
  apply Same.of_step
  induction l generalizing t with
  | nil => exact Same.refl m t
  | cons x l ih => exact (h t x).trans (ih _)

theorem Same.foldl {α : Type} {m : Nat} {f : State → α → State} {l : List α} {s t : State} (h : ∀ s x, Same m s (f s x))
    (k : Same m s t) : Same m s (l.foldl f t) := (foldl_same f h l s t).mpr k

theorem foldl_same_fst {α β : Type} {m : Nat} (f : State × β → α → State × β) (h : ∀ a x, Same m a.1 (f a x).1) (l : List α) (a : State × β) :
    Same m a.1 (l.foldl f a).1 := by
  induction l generalizing a with
  | nil => exact Same.refl m _
  | cons x l ih => exact (h a x).trans (ih _)

theorem same_withAo0 (t : State) (v) : Same 1 t (t.withAo v) := by
  unfold Same; refine ⟨?_, ?_, ?_, ?_, ?_, ?_, ?_, ?_, ?_, ?_, ?_, ?_, ?_, ?_, ?_, ?_, ?_, ?_, ?_, ?_, ?_, ?_, ?_, ?_, ?_, ?_⟩ <;> intro h <;> first | rfl | exact absurd h (by decide)

@[simp] theorem same_withAo {q : Nat} (hq : 1 &&& q = 1) (s t : State) (v) : Same q s (t.withAo v) = Same q s t :=
  ((same_withAo0 t v).mono hq).of_step

theorem same_withWin0 (t : State) (v) : Same 2 t (t.withWin v) := by
  unfold Same; refine ⟨?_, ?_, ?_, ?_, ?_, ?_, ?_, ?_, ?_, ?_, ?_, ?_, ?_, ?_, ?_, ?_, ?_, ?_, ?_, ?_, ?_, ?_, ?_, ?_, ?_, ?_⟩ <;> intro h <;> first | rfl | exact absurd h (by decide)

@[simp] theorem same_withWin {q : Nat} (hq : 2 &&& q = 2) (s t : State) (v) : Same q s (t.withWin v) = Same q s t :=
  ((same_withWin0 t v).mono hq).of_step

theorem same_withEv0 (t : State) (v) : Same 4 t (t.withEv v) := by
  unfold Same; refine ⟨?_, ?_, ?_, ?_, ?_, ?_, ?_, ?_, ?_, ?_, ?_, ?_, ?_, ?_, ?_, ?_, ?_, ?_, ?_, ?_, ?_, ?_, ?_, ?_, ?_, ?_⟩ <;> intro h <;> first | rfl | exact absurd h (by decide)

@[simp] theorem same_withEv {q : Nat} (hq : 4 &&& q = 4) (s t : State) (v) : Same q s (t.withEv v) = Same q s t :=
  ((same_withEv0 t v).mono hq).of_step

theorem same_withHost0 (t : State) (v) : Same 8 t (t.withHost v) := by
  unfold Same; refine ⟨?_, ?_, ?_, ?_, ?_, ?_, ?_, ?_, ?_, ?_, ?_, ?_, ?_, ?_, ?_, ?_, ?_, ?_, ?_, ?_, ?_, ?_, ?_, ?_, ?_, ?_⟩ <;> intro h <;> first | rfl | exact absurd h (by decide)

@[simp] theorem same_withHost {q : Nat} (hq : 8 &&& q = 8) (s t : State) (v) : Same q s (t.withHost v) = Same q s t :=
  ((same_withHost0 t v).mono hq).of_step

theorem same_withCol0 (t : State) (v) : Same 16 t (t.withCol v) := by
  unfold Same; refine ⟨?_, ?_, ?_, ?_, ?_, ?_, ?_, ?_, ?_, ?_, ?_, ?_, ?_, ?_, ?_, ?_, ?_, ?_, ?_, ?_, ?_, ?_, ?_, ?_, ?_, ?_⟩ <;> intro h <;> first | rfl | exact absurd h (by decide)

@[simp] theorem same_withCol {q : Nat} (hq : 16 &&& q = 16) (s t : State) (v) : Same q s (t.withCol v) = Same q s t :=
  ((same_withCol0 t v).mono hq).of_step

theorem same_withBpm0 (t : State) (v) : Same 32 t (t.withBpm v) := by
  unfold Same; refine ⟨?_, ?_, ?_, ?_, ?_, ?_, ?_, ?_, ?_, ?_, ?_, ?_, ?_, ?_, ?_, ?_, ?_, ?_, ?_, ?_, ?_, ?_, ?_, ?_, ?_, ?_⟩ <;> intro h <;> first | rfl | exact absurd h (by decide)

@[simp] theorem same_withBpm {q : Nat} (hq : 32 &&& q = 32) (s t : State) (v) : Same q s (t.withBpm v) = Same q s t :=
  ((same_withBpm0 t v).mono hq).of_step

theorem same_withCap0 (t : State) (v) : Same 64 t (t.withCap v) := by
  unfold Same; refine ⟨?_, ?_, ?_, ?_, ?_, ?_, ?_, ?_, ?_, ?_, ?_, ?_, ?_, ?_, ?_, ?_, ?_, ?_, ?_, ?_, ?_, ?_, ?_, ?_, ?_, ?_⟩ <;> intro h <;> first | rfl | exact absurd h (by decide)

@[simp] theorem same_withCap {q : Nat} (hq : 64 &&& q = 64) (s t : State) (v) : Same q s (t.withCap v) = Same q s t :=
  ((same_withCap0 t v).mono hq).of_step

theorem same_withHld0 (t : State) (v) : Same 128 t (t.withHld v) := by
  unfold Same; refine ⟨?_, ?_, ?_, ?_, ?_, ?_, ?_, ?_, ?_, ?_, ?_, ?_, ?_, ?_, ?_, ?_, ?_, ?_, ?_, ?_, ?_, ?_, ?_, ?_, ?_, ?_⟩ <;> intro h <;> first | rfl | exact absurd h (by decide)

@[simp] theorem same_withHld {q : Nat} (hq : 128 &&& q = 128) (s t : State) (v) : Same q s (t.withHld v) = Same q s t :=
  ((same_withHld0 t v).mono hq).of_step

theorem same_withJnl0 (t : State) (v) : Same 256 t (t.withJnl v) := by
  unfold Same; refine ⟨?_, ?_, ?_, ?_, ?_, ?_, ?_, ?_, ?_, ?_, ?_, ?_, ?_, ?_, ?_, ?_, ?_, ?_, ?_, ?_, ?_, ?_, ?_, ?_, ?_, ?_⟩ <;> intro h <;> first | rfl | exact absurd h (by decide)

@[simp] theorem same_withJnl {q : Nat} (hq : 256 &&& q = 256) (s t : State) (v) : Same q s (t.withJnl v) = Same q s t :=
  ((same_withJnl0 t v).mono hq).of_step

theorem same_withZon0 (t : State) (v) : Same 512 t (t.withZon v) := by
  unfold Same; refine ⟨?_, ?_, ?_, ?_, ?_, ?_, ?_, ?_, ?_, ?_, ?_, ?_, ?_, ?_, ?_, ?_, ?_, ?_, ?_, ?_, ?_, ?_, ?_, ?_, ?_, ?_⟩ <;> intro h <;> first | rfl | exact absurd h (by decide)

@[simp] theorem same_withZon {q : Nat} (hq : 512 &&& q = 512) (s t : State) (v) : Same q s (t.withZon v) = Same q s t :=
  ((same_withZon0 t v).mono hq).of_step

theorem same_withStr0 (t : State) (v) : Same 1024 t (t.withStr v) := by
  unfold Same; refine ⟨?_, ?_, ?_, ?_, ?_, ?_, ?_, ?_, ?_, ?_, ?_, ?_, ?_, ?_, ?_, ?_, ?_, ?_, ?_, ?_, ?_, ?_, ?_, ?_, ?_, ?_⟩ <;> intro h <;> first | rfl | exact absurd h (by decide)

@[simp] theorem same_withStr {q : Nat} (hq : 1024 &&& q = 1024) (s t : State) (v) : Same q s (t.withStr v) = Same q s t :=
  ((same_withStr0 t v).mono hq).of_step

theorem same_withSch0 (t : State) (v) : Same 2048 t (t.withSch v) := by
  unfold Same; refine ⟨?_, ?_, ?_, ?_, ?_, ?_, ?_, ?_, ?_, ?_, ?_, ?_, ?_, ?_, ?_, ?_, ?_, ?_, ?_, ?_, ?_, ?_, ?_, ?_, ?_, ?_⟩ <;> intro h <;> first | rfl | exact absurd h (by decide)

@[simp] theorem same_withSch {q : Nat} (hq : 2048 &&& q = 2048) (s t : State) (v) : Same q s (t.withSch v) = Same q s t :=
  ((same_withSch0 t v).mono hq).of_step

theorem same_withLnk0 (t : State) (v) : Same 4096 t (t.withLnk v) := by
  unfold Same; refine ⟨?_, ?_, ?_, ?_, ?_, ?_, ?_, ?_, ?_, ?_, ?_, ?_, ?_, ?_, ?_, ?_, ?_, ?_, ?_, ?_, ?_, ?_, ?_, ?_, ?_, ?_⟩ <;> intro h <;> first | rfl | exact absurd h (by decide)

@[simp] theorem same_withLnk {q : Nat} (hq : 4096 &&& q = 4096) (s t : State) (v) : Same q s (t.withLnk v) = Same q s t :=
  ((same_withLnk0 t v).mono hq).of_step

theorem same_withDdk0 (t : State) (v) : Same 8192 t (t.withDdk v) := by
  unfold Same; refine ⟨?_, ?_, ?_, ?_, ?_, ?_, ?_, ?_, ?_, ?_, ?_, ?_, ?_, ?_, ?_, ?_, ?_, ?_, ?_, ?_, ?_, ?_, ?_, ?_, ?_, ?_⟩ <;> intro h <;> first | rfl | exact absurd h (by decide)

@[simp] theorem same_withDdk {q : Nat} (hq : 8192 &&& q = 8192) (s t : State) (v) : Same q s (t.withDdk v) = Same q s t :=
  ((same_withDdk0 t v).mono hq).of_step

theorem same_withMed0 (t : State) (v) : Same 16384 t (t.withMed v) := by
  unfold Same; refine ⟨?_, ?_, ?_, ?_, ?_, ?_, ?_, ?_, ?_, ?_, ?_, ?_, ?_, ?_, ?_, ?_, ?_, ?_, ?_, ?_, ?_, ?_, ?_, ?_, ?_, ?_⟩ <;> intro h <;> first | rfl | exact absurd h (by decide)

@[simp] theorem same_withMed {q : Nat} (hq : 16384 &&& q = 16384) (s t : State) (v) : Same q s (t.withMed v) = Same q s t :=
  ((same_withMed0 t v).mono hq).of_step

theorem same_withSec0 (t : State) (v) (hv : v.fuses = t.sec.fuses) : Same 32768 t (t.withSec v) := by
  unfold Same; refine ⟨?_, ?_, ?_, ?_, ?_, ?_, ?_, ?_, ?_, ?_, ?_, ?_, ?_, ?_, ?_, ?_, ?_, ?_, ?_, ?_, ?_, ?_, ?_, ?_, ?_, ?_⟩ <;> intro h <;> first | rfl | exact hv | exact absurd h (by decide)

@[simp] theorem same_withSec {q : Nat} (hq : 32768 &&& q = 32768) (s t : State) (v) (hv : v.fuses = t.sec.fuses) : Same q s (t.withSec v) = Same q s t :=
  ((same_withSec0 t v hv).mono hq).of_step

theorem same_withSecAll0 (t : State) (v) : Same 8421376 t (t.withSec v) := by
  unfold Same; refine ⟨?_, ?_, ?_, ?_, ?_, ?_, ?_, ?_, ?_, ?_, ?_, ?_, ?_, ?_, ?_, ?_, ?_, ?_, ?_, ?_, ?_, ?_, ?_, ?_, ?_, ?_⟩ <;> intro h <;> first | rfl | exact absurd h (by decide)

@[simp] theorem same_withSecAll {q : Nat} (hq : 8421376 &&& q = 8421376) (s t : State) (v) : Same q s (t.withSec v) = Same q s t :=
  ((same_withSecAll0 t v).mono hq).of_step

theorem same_withDrm0 (t : State) (v) (hv : v.mem = t.drm.mem) : Same 65536 t (t.withDrm v) := by
  unfold Same; refine ⟨?_, ?_, ?_, ?_, ?_, ?_, ?_, ?_, ?_, ?_, ?_, ?_, ?_, ?_, ?_, ?_, ?_, ?_, ?_, ?_, ?_, ?_, ?_, ?_, ?_, ?_⟩ <;> intro h <;> first | rfl | exact hv | exact absurd h (by decide)

@[simp] theorem same_withDrm {q : Nat} (hq : 65536 &&& q = 65536) (s t : State) (v) (hv : v.mem = t.drm.mem) : Same q s (t.withDrm v) = Same q s t :=
  ((same_withDrm0 t v hv).mono hq).of_step

theorem same_withDrmAll0 (t : State) (v) : Same 33619968 t (t.withDrm v) := by
  unfold Same; refine ⟨?_, ?_, ?_, ?_, ?_, ?_, ?_, ?_, ?_, ?_, ?_, ?_, ?_, ?_, ?_, ?_, ?_, ?_, ?_, ?_, ?_, ?_, ?_, ?_, ?_, ?_⟩ <;> intro h <;> first | rfl | exact absurd h (by decide)

@[simp] theorem same_withDrmAll {q : Nat} (hq : 33619968 &&& q = 33619968) (s t : State) (v) : Same q s (t.withDrm v) = Same q s t :=
  ((same_withDrmAll0 t v).mono hq).of_step

theorem same_withPwr0 (t : State) (v) : Same 131072 t (t.withPwr v) := by
  unfold Same; refine ⟨?_, ?_, ?_, ?_, ?_, ?_, ?_, ?_, ?_, ?_, ?_, ?_, ?_, ?_, ?_, ?_, ?_, ?_, ?_, ?_, ?_, ?_, ?_, ?_, ?_, ?_⟩ <;> intro h <;> first | rfl | exact absurd h (by decide)

@[simp] theorem same_withPwr {q : Nat} (hq : 131072 &&& q = 131072) (s t : State) (v) : Same q s (t.withPwr v) = Same q s t :=
  ((same_withPwr0 t v).mono hq).of_step

theorem same_withBoot0 (t : State) (v) (hv : v.stores = t.boot.stores) : Same 262144 t (t.withBoot v) := by
  unfold Same; refine ⟨?_, ?_, ?_, ?_, ?_, ?_, ?_, ?_, ?_, ?_, ?_, ?_, ?_, ?_, ?_, ?_, ?_, ?_, ?_, ?_, ?_, ?_, ?_, ?_, ?_, ?_⟩ <;> intro h <;> first | rfl | exact hv | exact absurd h (by decide)

@[simp] theorem same_withBoot {q : Nat} (hq : 262144 &&& q = 262144) (s t : State) (v) (hv : v.stores = t.boot.stores) : Same q s (t.withBoot v) = Same q s t :=
  ((same_withBoot0 t v hv).mono hq).of_step

theorem same_withBootAll0 (t : State) (v) : Same 17039360 t (t.withBoot v) := by
  unfold Same; refine ⟨?_, ?_, ?_, ?_, ?_, ?_, ?_, ?_, ?_, ?_, ?_, ?_, ?_, ?_, ?_, ?_, ?_, ?_, ?_, ?_, ?_, ?_, ?_, ?_, ?_, ?_⟩ <;> intro h <;> first | rfl | exact absurd h (by decide)

@[simp] theorem same_withBootAll {q : Nat} (hq : 17039360 &&& q = 17039360) (s t : State) (v) : Same q s (t.withBoot v) = Same q s t :=
  ((same_withBootAll0 t v).mono hq).of_step

theorem same_withBrd0 (t : State) (v) : Same 524288 t (t.withBrd v) := by
  unfold Same; refine ⟨?_, ?_, ?_, ?_, ?_, ?_, ?_, ?_, ?_, ?_, ?_, ?_, ?_, ?_, ?_, ?_, ?_, ?_, ?_, ?_, ?_, ?_, ?_, ?_, ?_, ?_⟩ <;> intro h <;> first | rfl | exact absurd h (by decide)

@[simp] theorem same_withBrd {q : Nat} (hq : 524288 &&& q = 524288) (s t : State) (v) : Same q s (t.withBrd v) = Same q s t :=
  ((same_withBrd0 t v).mono hq).of_step

theorem same_withMgt0 (t : State) (v) : Same 1048576 t (t.withMgt v) := by
  unfold Same; refine ⟨?_, ?_, ?_, ?_, ?_, ?_, ?_, ?_, ?_, ?_, ?_, ?_, ?_, ?_, ?_, ?_, ?_, ?_, ?_, ?_, ?_, ?_, ?_, ?_, ?_, ?_⟩ <;> intro h <;> first | rfl | exact absurd h (by decide)

@[simp] theorem same_withMgt {q : Nat} (hq : 1048576 &&& q = 1048576) (s t : State) (v) : Same q s (t.withMgt v) = Same q s t :=
  ((same_withMgt0 t v).mono hq).of_step

theorem same_withFree0 (t : State) (v) : Same 2097152 t (t.withFree v) := by
  unfold Same; refine ⟨?_, ?_, ?_, ?_, ?_, ?_, ?_, ?_, ?_, ?_, ?_, ?_, ?_, ?_, ?_, ?_, ?_, ?_, ?_, ?_, ?_, ?_, ?_, ?_, ?_, ?_⟩ <;> intro h <;> first | rfl | exact absurd h (by decide)

@[simp] theorem same_withFree {q : Nat} (hq : 2097152 &&& q = 2097152) (s t : State) (v) : Same q s (t.withFree v) = Same q s t :=
  ((same_withFree0 t v).mono hq).of_step

theorem same_withPending0 (t : State) (v) : Same 4194304 t (t.withPending v) := by
  unfold Same; refine ⟨?_, ?_, ?_, ?_, ?_, ?_, ?_, ?_, ?_, ?_, ?_, ?_, ?_, ?_, ?_, ?_, ?_, ?_, ?_, ?_, ?_, ?_, ?_, ?_, ?_, ?_⟩ <;> intro h <;> first | rfl | exact absurd h (by decide)

@[simp] theorem same_withPending {q : Nat} (hq : 4194304 &&& q = 4194304) (s t : State) (v) : Same q s (t.withPending v) = Same q s t :=
  ((same_withPending0 t v).mono hq).of_step

@[simp] theorem Vault.fuses_eq (v : Vault) : v.fuses = (v.svnFloor, v.krevoked, v.kvalid, v.prod, v.gradeX) := by cases v; rfl

@[simp] theorem Boot.stores_eq (b : Boot) : b.stores = (b.nor, b.image) := by cases b; rfl

/-- The part that a bit of a mask stands for. -/
def Part.bit : Part → Nat
  | .ao => 0
  | .win => 1
  | .ev => 2
  | .host => 3
  | .col => 4
  | .bpm => 5
  | .cap => 6
  | .hld => 7
  | .jnl => 8
  | .zon => 9
  | .str => 10
  | .sch => 11
  | .lnk => 12
  | .ddk => 13
  | .med => 14
  | .sec => 15
  | .drm => 16
  | .pwr => 17
  | .boot => 18
  | .brd => 19
  | .mgt => 20
  | .free => 21
  | .pending => 22
  | .fuses => 23
  | .stores => 24
  | .bytes => 25

/-- A mask's frame, in the terms of statements: nothing differs but the parts whose bits are on. -/
theorem Same.onlyChanges {m : Nat} {l : List Part} {s t : State} (h : Same m s t) (hl : ∀ p, p ∉ l → m.testBit p.bit = false) :
    OnlyChanges l s t := by
  intro p hp
  have k := hl p hp
  cases p
  case ao => exact Same.ao h k
  case win => exact Same.win h k
  case ev => exact Same.ev h k
  case host => exact Same.host h k
  case col => exact Same.col h k
  case bpm => exact Same.bpm h k
  case cap => exact Same.cap h k
  case hld => exact Same.hld h k
  case jnl => exact Same.jnl h k
  case zon => exact Same.zon h k
  case str => exact Same.str h k
  case sch => exact Same.sch h k
  case lnk => exact Same.lnk h k
  case ddk => exact Same.ddk h k
  case med => exact Same.med h k
  case sec => exact Same.sec h k
  case drm => exact Same.drm h k
  case pwr => exact Same.pwr h k
  case boot => exact Same.boot h k
  case brd => exact Same.brd h k
  case mgt => exact Same.mgt h k
  case free => exact Same.free h k
  case pending => exact Same.pending h k
  case fuses => exact Same.fuses h k
  case stores => exact Same.stores h k
  case bytes => exact Same.dmem h k

end Sys2Proof.Machine
end

