-- ==== Sys2Proof/Laws/FrameOps.lean ====
section
/-!
SUPPORT. What each operation of the model may change: one frame lemma for each, as a step and as a simplification.
-/

namespace Sys2Proof.Machine
set_option linter.all false

theorem State.putReg_same0 (s : State) (r : RegRef) (v : Nat) : Same 2 s (State.putReg s r v) := by
  unfold State.putReg
  (try dsimp only)
  (repeat' split) <;> simp [foldl_same]
@[simp] theorem State.putReg_same {msk : Nat} (hq : 2 &&& msk = 2) (s₀ : State) (s : State) (r : RegRef) (v : Nat) :
    Same msk s₀ (State.putReg s r v) = Same msk s₀ s := ((State.putReg_same0 s r v).mono hq).of_step
theorem State.putFld_same0 (s : State) (f : Fld) (i j x : Nat) : Same 2 s (State.putFld s f i j x) := by
  unfold State.putFld
  (try dsimp only)
  (repeat' split) <;> simp [foldl_same]
@[simp] theorem State.putFld_same {msk : Nat} (hq : 2 &&& msk = 2) (s₀ : State) (s : State) (f : Fld) (i j x : Nat) :
    Same msk s₀ (State.putFld s f i j x) = Same msk s₀ s := ((State.putFld_same0 s f i j x).mono hq).of_step
theorem State.drew_same0 (s : State) : Same 2097152 s (State.drew s) := by
  unfold State.drew
  (try dsimp only)
  (repeat' split) <;> simp [foldl_same]
@[simp] theorem State.drew_same {msk : Nat} (hq : 2097152 &&& msk = 2097152) (s₀ : State) (s : State) :
    Same msk s₀ (State.drew s) = Same msk s₀ s := ((State.drew_same0 s).mono hq).of_step
theorem State.raise_same0 (s : State) (src code sev : Nat) (pay : List (Nat × Nat)) : Same 4 s (State.raise s src code sev pay) := by
  unfold State.raise
  (try dsimp only)
  (repeat' split) <;> simp [foldl_same]
@[simp] theorem State.raise_same {msk : Nat} (hq : 4 &&& msk = 4) (s₀ : State) (s : State) (src code sev : Nat) (pay : List (Nat × Nat)) :
    Same msk s₀ (State.raise s src code sev pay) = Same msk s₀ s := ((State.raise_same0 s src code sev pay).mono hq).of_step
theorem State.raiseT_same0 (s : State) (src code sev tenant : Nat) (pay : List (Nat × Nat)) : Same 4 s (State.raiseT s src code sev tenant pay) := by
  unfold State.raiseT
  (try dsimp only)
  (repeat' split) <;> simp [foldl_same]
@[simp] theorem State.raiseT_same {msk : Nat} (hq : 4 &&& msk = 4) (s₀ : State) (s : State) (src code sev tenant : Nat) (pay : List (Nat × Nat)) :
    Same msk s₀ (State.raiseT s src code sev tenant pay) = Same msk s₀ s := ((State.raiseT_same0 s src code sev tenant pay).mono hq).of_step
theorem State.raiseDiscarded_same0 (s : State) (off : Nat) (a : Agent) : Same 4 s (State.raiseDiscarded s off a) := by
  unfold State.raiseDiscarded
  (try dsimp only)
  (repeat' split) <;> simp [foldl_same]
@[simp] theorem State.raiseDiscarded_same {msk : Nat} (hq : 4 &&& msk = 4) (s₀ : State) (s : State) (off : Nat) (a : Agent) :
    Same msk s₀ (State.raiseDiscarded s off a) = Same msk s₀ s := ((State.raiseDiscarded_same0 s off a).mono hq).of_step
theorem State.askCredit_same0 (s : State) (who : CreditWho) (bytes : Nat) : Same 128 s (State.askCredit s who bytes) := by
  unfold State.askCredit
  (try dsimp only)
  (repeat' split) <;> simp [foldl_same]
@[simp] theorem State.askCredit_same {msk : Nat} (hq : 128 &&& msk = 128) (s₀ : State) (s : State) (who : CreditWho) (bytes : Nat) :
    Same msk s₀ (State.askCredit s who bytes) = Same msk s₀ s := ((State.askCredit_same0 s who bytes).mono hq).of_step
theorem State.journal_same0 (s : State) (tenant csn : Nat) (b : JBody) : Same 416 s (State.journal s tenant csn b) := by
  unfold State.journal
  (try dsimp only)
  (repeat' split) <;> simp [foldl_same]
@[simp] theorem State.journal_same {msk : Nat} (hq : 416 &&& msk = 416) (s₀ : State) (s : State) (tenant csn : Nat) (b : JBody) :
    Same msk s₀ (State.journal s tenant csn b) = Same msk s₀ s := ((State.journal_same0 s tenant csn b).mono hq).of_step
theorem State.raiseCeiling_same0 (s : State) (n : Nat) : Same 416 s (State.raiseCeiling s n) := by
  unfold State.raiseCeiling
  (try dsimp only)
  (repeat' split) <;> simp [foldl_same]
@[simp] theorem State.raiseCeiling_same {msk : Nat} (hq : 416 &&& msk = 416) (s₀ : State) (s : State) (n : Nat) :
    Same msk s₀ (State.raiseCeiling s n) = Same msk s₀ s := ((State.raiseCeiling_same0 s n).mono hq).of_step
theorem State.takeCsns_same0 (s : State) (n : Nat) : Same 416 s (State.takeCsns s n) := by
  unfold State.takeCsns
  (try dsimp only)
  (repeat' split) <;> simp [foldl_same]
@[simp] theorem State.takeCsns_same {msk : Nat} (hq : 416 &&& msk = 416) (s₀ : State) (s : State) (n : Nat) :
    Same msk s₀ (State.takeCsns s n) = Same msk s₀ s := ((State.takeCsns_same0 s n).mono hq).of_step
theorem State.send_same0 (s : State) (o : HostOut) : Same 8 s (State.send s o) := by
  unfold State.send
  (try dsimp only)
  (repeat' split) <;> simp [foldl_same]
@[simp] theorem State.send_same {msk : Nat} (hq : 8 &&& msk = 8) (s₀ : State) (s : State) (o : HostOut) :
    Same msk s₀ (State.send s o) = Same msk s₀ s := ((State.send_same0 s o).mono hq).of_step
theorem State.putBlk_same0 (s : State) (die block : Nat) (b : Blk) : Same 16384 s (State.putBlk s die block b) := by
  unfold State.putBlk
  (try dsimp only)
  (repeat' split) <;> simp [foldl_same]
@[simp] theorem State.putBlk_same {msk : Nat} (hq : 16384 &&& msk = 16384) (s₀ : State) (s : State) (die block : Nat) (b : Blk) :
    Same msk s₀ (State.putBlk s die block b) = Same msk s₀ s := ((State.putBlk_same0 s die block b).mono hq).of_step
theorem State.setBlk_same0 (s : State) (die block : Nat) (f : Blk → Blk) : Same 16384 s (State.setBlk s die block f) := by
  unfold State.setBlk
  (try dsimp only)
  (repeat' split) <;> simp [foldl_same]
@[simp] theorem State.setBlk_same {msk : Nat} (hq : 16384 &&& msk = 16384) (s₀ : State) (s : State) (die block : Nat) (f : Blk → Blk) :
    Same msk s₀ (State.setBlk s die block f) = Same msk s₀ s := ((State.setBlk_same0 s die block f).mono hq).of_step
theorem State.putSdie_same0 (s : State) (die : Nat) (d : SDie) : Same 2048 s (State.putSdie s die d) := by
  unfold State.putSdie
  (try dsimp only)
  (repeat' split) <;> simp [foldl_same]
@[simp] theorem State.putSdie_same {msk : Nat} (hq : 2048 &&& msk = 2048) (s₀ : State) (s : State) (die : Nat) (d : SDie) :
    Same msk s₀ (State.putSdie s die d) = Same msk s₀ s := ((State.putSdie_same0 s die d).mono hq).of_step
theorem State.setSdie_same0 (s : State) (die : Nat) (f : SDie → SDie) : Same 2048 s (State.setSdie s die f) := by
  unfold State.setSdie
  (try dsimp only)
  (repeat' split) <;> simp [foldl_same]
@[simp] theorem State.setSdie_same {msk : Nat} (hq : 2048 &&& msk = 2048) (s₀ : State) (s : State) (die : Nat) (f : SDie → SDie) :
    Same msk s₀ (State.setSdie s die f) = Same msk s₀ s := ((State.setSdie_same0 s die f).mono hq).of_step
theorem State.putLink_same0 (s : State) (n : Nat) (l : Link) : Same 4096 s (State.putLink s n l) := by
  unfold State.putLink
  (try dsimp only)
  (repeat' split) <;> simp [foldl_same]
@[simp] theorem State.putLink_same {msk : Nat} (hq : 4096 &&& msk = 4096) (s₀ : State) (s : State) (n : Nat) (l : Link) :
    Same msk s₀ (State.putLink s n l) = Same msk s₀ s := ((State.putLink_same0 s n l).mono hq).of_step
theorem State.setLink_same0 (s : State) (n : Nat) (f : Link → Link) : Same 4096 s (State.setLink s n f) := by
  unfold State.setLink
  (try dsimp only)
  (repeat' split) <;> simp [foldl_same]
@[simp] theorem State.setLink_same {msk : Nat} (hq : 4096 &&& msk = 4096) (s₀ : State) (s : State) (n : Nat) (f : Link → Link) :
    Same msk s₀ (State.setLink s n f) = Same msk s₀ s := ((State.setLink_same0 s n f).mono hq).of_step
theorem State.bindBlocks_same0 (s : State) (setid : Nat) (members : List (Nat × Nat)) : Same 16384 s (State.bindBlocks s setid members) := by
  unfold State.bindBlocks
  (try dsimp only)
  (repeat' split) <;> simp [foldl_same]
@[simp] theorem State.bindBlocks_same {msk : Nat} (hq : 16384 &&& msk = 16384) (s₀ : State) (s : State) (setid : Nat) (members : List (Nat × Nat)) :
    Same msk s₀ (State.bindBlocks s setid members) = Same msk s₀ s := ((State.bindBlocks_same0 s setid members).mono hq).of_step
theorem State.bindSet_same0 (s : State) (setid tenant nsix rows csn : Nat) (members : List (Nat × Nat)) : Same 17408 s (State.bindSet s setid tenant nsix rows csn members) := by
  unfold State.bindSet
  (try dsimp only)
  (repeat' split) <;> simp [foldl_same]
@[simp] theorem State.bindSet_same {msk : Nat} (hq : 17408 &&& msk = 17408) (s₀ : State) (s : State) (setid tenant nsix rows csn : Nat) (members : List (Nat × Nat)) :
    Same msk s₀ (State.bindSet s setid tenant nsix rows csn members) = Same msk s₀ s := ((State.bindSet_same0 s setid tenant nsix rows csn members).mono hq).of_step
theorem State.unpinFor_same0 (s : State) (die block : Nat) : Same 24576 s (State.unpinFor s die block) := by
  unfold State.unpinFor
  (try dsimp only)
  (repeat' split) <;> simp [foldl_same]
@[simp] theorem State.unpinFor_same {msk : Nat} (hq : 24576 &&& msk = 24576) (s₀ : State) (s : State) (die block : Nat) :
    Same msk s₀ (State.unpinFor s die block) = Same msk s₀ s := ((State.unpinFor_same0 s die block).mono hq).of_step
theorem State.queueErase_same0 (s : State) (die block reason : Nat) : Same 24992 s (State.queueErase s die block reason) := by
  unfold State.queueErase
  (try dsimp only)
  (repeat' split) <;> simp [foldl_same]
@[simp] theorem State.queueErase_same {msk : Nat} (hq : 24992 &&& msk = 24992) (s₀ : State) (s : State) (die block reason : Nat) :
    Same msk s₀ (State.queueErase s die block reason) = Same msk s₀ s := ((State.queueErase_same0 s die block reason).mono hq).of_step
theorem State.dropSet_same0 (s : State) (setid reason : Nat) : Same 26016 s (State.dropSet s setid reason) := by
  unfold State.dropSet
  (try dsimp only)
  repeat' first | (simp [foldl_same]; done) | intro _ | split | (refine Same.foldl ?_ ?_) | simp [foldl_same]
@[simp] theorem State.dropSet_same {msk : Nat} (hq : 26016 &&& msk = 26016) (s₀ : State) (s : State) (setid reason : Nat) :
    Same msk s₀ (State.dropSet s setid reason) = Same msk s₀ s := ((State.dropSet_same0 s setid reason).mono hq).of_step
theorem State.setTxn_same0 (s : State) (f : Txn → Txn) : Same 2 s (State.setTxn s f) := by
  unfold State.setTxn
  (try dsimp only)
  (repeat' split) <;> simp [foldl_same]
@[simp] theorem State.setTxn_same {msk : Nat} (hq : 2 &&& msk = 2) (s₀ : State) (s : State) (f : Txn → Txn) :
    Same msk s₀ (State.setTxn s f) = Same msk s₀ s := ((State.setTxn_same0 s f).mono hq).of_step
theorem State.applyShadows_same0 (s : State) : Same 2 s (State.applyShadows s) := by
  unfold State.applyShadows
  (try dsimp only)
  repeat' first | (simp [foldl_same]; done) | intro _ | split | (refine Same.foldl ?_ ?_) | simp [foldl_same]
@[simp] theorem State.applyShadows_same {msk : Nat} (hq : 2 &&& msk = 2) (s₀ : State) (s : State) :
    Same msk s₀ (State.applyShadows s) = Same msk s₀ s := ((State.applyShadows_same0 s).mono hq).of_step
theorem State.endTxn_same0 (s : State) (result reason off : Nat) : Same 2 s (State.endTxn s result reason off) := by
  unfold State.endTxn
  (try dsimp only)
  (repeat' split) <;> simp [foldl_same]
@[simp] theorem State.endTxn_same {msk : Nat} (hq : 2 &&& msk = 2) (s₀ : State) (s : State) (result reason off : Nat) :
    Same msk s₀ (State.endTxn s result reason off) = Same msk s₀ s := ((State.endTxn_same0 s result reason off).mono hq).of_step
theorem State.txnEvent_same0 (s : State) (code : Nat) : Same 4 s (State.txnEvent s code) := by
  unfold State.txnEvent
  (try dsimp only)
  (repeat' split) <;> simp [foldl_same]
@[simp] theorem State.txnEvent_same {msk : Nat} (hq : 4 &&& msk = 4) (s₀ : State) (s : State) (code : Nat) :
    Same msk s₀ (State.txnEvent s code) = Same msk s₀ s := ((State.txnEvent_same0 s code).mono hq).of_step
theorem State.rejectTxn_same0 (s : State) (reason off : Nat) : Same 6 s (State.rejectTxn s reason off) := by
  unfold State.rejectTxn
  (try dsimp only)
  (repeat' split) <;> simp [foldl_same]
@[simp] theorem State.rejectTxn_same {msk : Nat} (hq : 6 &&& msk = 6) (s₀ : State) (s : State) (reason off : Nat) :
    Same msk s₀ (State.rejectTxn s reason off) = Same msk s₀ s := ((State.rejectTxn_same0 s reason off).mono hq).of_step
theorem State.abortTxn_same0 (s : State) (result : Nat) : Same 6 s (State.abortTxn s result) := by
  unfold State.abortTxn
  (try dsimp only)
  (repeat' split) <;> simp [foldl_same]
@[simp] theorem State.abortTxn_same {msk : Nat} (hq : 6 &&& msk = 6) (s₀ : State) (s : State) (result : Nat) :
    Same msk s₀ (State.abortTxn s result) = Same msk s₀ s := ((State.abortTxn_same0 s result).mono hq).of_step
theorem State.rollback_same0 (s : State) (owner : Nat) : Same 6 s (State.rollback s owner) := by
  unfold State.rollback
  (try dsimp only)
  (repeat' split) <;> simp [foldl_same]
@[simp] theorem State.rollback_same {msk : Nat} (hq : 6 &&& msk = 6) (s₀ : State) (s : State) (owner : Nat) :
    Same msk s₀ (State.rollback s owner) = Same msk s₀ s := ((State.rollback_same0 s owner).mono hq).of_step
theorem State.rollbackOpen_same0 (s : State) : Same 6 s (State.rollbackOpen s) := by
  unfold State.rollbackOpen
  (try dsimp only)
  (repeat' split) <;> simp [foldl_same]
@[simp] theorem State.rollbackOpen_same {msk : Nat} (hq : 6 &&& msk = 6) (s₀ : State) (s : State) :
    Same msk s₀ (State.rollbackOpen s) = Same msk s₀ s := ((State.rollbackOpen_same0 s).mono hq).of_step
theorem State.beginTxn_same0 (s : State) (a : Agent) : Same 2 s (State.beginTxn s a) := by
  unfold State.beginTxn
  (try dsimp only)
  (repeat' split) <;> simp [foldl_same]
@[simp] theorem State.beginTxn_same {msk : Nat} (hq : 2 &&& msk = 2) (s₀ : State) (s : State) (a : Agent) :
    Same msk s₀ (State.beginTxn s a) = Same msk s₀ s := ((State.beginTxn_same0 s a).mono hq).of_step
theorem State.commitTxn_same0 (s : State) (a : Agent) (save : Bool) : Same 6 s (State.commitTxn s a save) := by
  unfold State.commitTxn
  (try dsimp only)
  (repeat' split) <;> simp [foldl_same]
@[simp] theorem State.commitTxn_same {msk : Nat} (hq : 6 &&& msk = 6) (s₀ : State) (s : State) (a : Agent) (save : Bool) :
    Same msk s₀ (State.commitTxn s a save) = Same msk s₀ s := ((State.commitTxn_same0 s a save).mono hq).of_step
theorem State.abortBy_same0 (s : State) (a : Agent) : Same 6 s (State.abortBy s a) := by
  unfold State.abortBy
  (try dsimp only)
  (repeat' split) <;> simp [foldl_same]
@[simp] theorem State.abortBy_same {msk : Nat} (hq : 6 &&& msk = 6) (s₀ : State) (s : State) (a : Agent) :
    Same msk s₀ (State.abortBy s a) = Same msk s₀ s := ((State.abortBy_same0 s a).mono hq).of_step
theorem State.writeTxnCtl_same0 (s : State) (a : Agent) (v : Nat) : Same 6 s (State.writeTxnCtl s a v) := by
  unfold State.writeTxnCtl
  (try dsimp only)
  (repeat' split) <;> simp [foldl_same]
@[simp] theorem State.writeTxnCtl_same {msk : Nat} (hq : 6 &&& msk = 6) (s₀ : State) (s : State) (a : Agent) (v : Nat) :
    Same msk s₀ (State.writeTxnCtl s a v) = Same msk s₀ s := ((State.writeTxnCtl_same0 s a v).mono hq).of_step
theorem State.writeTx_same0 (s : State) (a : Agent) (r : RegRef) (v : Nat) : Same 6 s (State.writeTx s a r v) := by
  unfold State.writeTx
  (try dsimp only)
  (repeat' split) <;> simp [foldl_same]
@[simp] theorem State.writeTx_same {msk : Nat} (hq : 6 &&& msk = 6) (s₀ : State) (s : State) (a : Agent) (r : RegRef) (v : Nat) :
    Same msk s₀ (State.writeTx s a r v) = Same msk s₀ s := ((State.writeTx_same0 s a r v).mono hq).of_step
theorem State.relevel_same0 (s : State) (p : Nat) : Same 44 s (State.relevel s p) := by
  unfold State.relevel
  (try dsimp only)
  (repeat' split) <;> simp [foldl_same]
@[simp] theorem State.relevel_same {msk : Nat} (hq : 44 &&& msk = 44) (s₀ : State) (s : State) (p : Nat) :
    Same msk s₀ (State.relevel s p) = Same msk s₀ s := ((State.relevel_same0 s p).mono hq).of_step
theorem State.lend_same0 (s : State) (p g owner : Nat) : Same 44 s (State.lend s p g owner) := by
  unfold State.lend
  (try dsimp only)
  (repeat' split) <;> simp [foldl_same]
@[simp] theorem State.lend_same {msk : Nat} (hq : 44 &&& msk = 44) (s₀ : State) (s : State) (p g owner : Nat) :
    Same msk s₀ (State.lend s p g owner) = Same msk s₀ s := ((State.lend_same0 s p g owner).mono hq).of_step
theorem State.giveBack_same0 (s : State) (p g : Nat) : Same 44 s (State.giveBack s p g) := by
  unfold State.giveBack
  (try dsimp only)
  (repeat' split) <;> simp [foldl_same]
@[simp] theorem State.giveBack_same {msk : Nat} (hq : 44 &&& msk = 44) (s₀ : State) (s : State) (p g : Nat) :
    Same msk s₀ (State.giveBack s p g) = Same msk s₀ s := ((State.giveBack_same0 s p g).mono hq).of_step
theorem State.countDown_same0 (s : State) (p g : Nat) (t : Tag) : Same 44 s (State.countDown s p g t) := by
  unfold State.countDown
  (try dsimp only)
  (repeat' split) <;> simp [foldl_same]
@[simp] theorem State.countDown_same {msk : Nat} (hq : 44 &&& msk = 44) (s₀ : State) (s : State) (p g : Nat) (t : Tag) :
    Same msk s₀ (State.countDown s p g t) = Same msk s₀ s := ((State.countDown_same0 s p g t).mono hq).of_step
theorem State.freeHeld_same0 (s : State) (p g : Nat) : Same 44 s (State.freeHeld s p g) := by
  unfold State.freeHeld
  (try dsimp only)
  (repeat' split) <;> simp [foldl_same]
@[simp] theorem State.freeHeld_same {msk : Nat} (hq : 44 &&& msk = 44) (s₀ : State) (s : State) (p g : Nat) :
    Same msk s₀ (State.freeHeld s p g) = Same msk s₀ s := ((State.freeHeld_same0 s p g).mono hq).of_step
theorem State.giveBackAll_same0 (s : State) (gs : List (Nat × Nat)) : Same 44 s (State.giveBackAll s gs) := by
  unfold State.giveBackAll
  (try dsimp only)
  repeat' first | (simp [foldl_same]; done) | intro _ | split | (refine Same.foldl ?_ ?_) | simp [foldl_same]
@[simp] theorem State.giveBackAll_same {msk : Nat} (hq : 44 &&& msk = 44) (s₀ : State) (s : State) (gs : List (Nat × Nat)) :
    Same msk s₀ (State.giveBackAll s gs) = Same msk s₀ s := ((State.giveBackAll_same0 s gs).mono hq).of_step
theorem State.freeNamed_same0 (s : State) (owner : Nat) (gs : List (Nat × Nat)) : Same 44 s (State.freeNamed s owner gs) := by
  unfold State.freeNamed
  (try dsimp only)
  repeat' first | (simp [foldl_same]; done) | intro _ | split | (refine Same.foldl ?_ ?_) | simp [foldl_same]
@[simp] theorem State.freeNamed_same {msk : Nat} (hq : 44 &&& msk = 44) (s₀ : State) (s : State) (owner : Nat) (gs : List (Nat × Nat)) :
    Same msk s₀ (State.freeNamed s owner gs) = Same msk s₀ s := ((State.freeNamed_same0 s owner gs).mono hq).of_step
theorem State.reown_same0 (s : State) (gs : List (Nat × Nat)) (owner : Nat) : Same 32 s (State.reown s gs owner) := by
  unfold State.reown
  (try dsimp only)
  (repeat' split) <;> simp [foldl_same]
@[simp] theorem State.reown_same {msk : Nat} (hq : 32 &&& msk = 32) (s₀ : State) (s : State) (gs : List (Nat × Nat)) (owner : Nat) :
    Same msk s₀ (State.reown s gs owner) = Same msk s₀ s := ((State.reown_same0 s gs owner).mono hq).of_step
theorem State.refuseFree_same0 (s : State) (p g owner engine flags : Nat) : Same 4 s (State.refuseFree s p g owner engine flags) := by
  unfold State.refuseFree
  (try dsimp only)
  (repeat' split) <;> simp [foldl_same]
@[simp] theorem State.refuseFree_same {msk : Nat} (hq : 4 &&& msk = 4) (s₀ : State) (s : State) (p g owner engine flags : Nat) :
    Same msk s₀ (State.refuseFree s p g owner engine flags) = Same msk s₀ s := ((State.refuseFree_same0 s p g owner engine flags).mono hq).of_step
theorem State.askBuffers_same0 (s : State) (owner : Nat) (who : BufWho) (pools : List Nat) : Same 32 s (State.askBuffers s owner who pools) := by
  unfold State.askBuffers
  (try dsimp only)
  (repeat' split) <;> simp [foldl_same]
@[simp] theorem State.askBuffers_same {msk : Nat} (hq : 32 &&& msk = 32) (s₀ : State) (s : State) (owner : Nat) (who : BufWho) (pools : List Nat) :
    Same msk s₀ (State.askBuffers s owner who pools) = Same msk s₀ s := ((State.askBuffers_same0 s owner who pools).mono hq).of_step
theorem State.putFn_same0 (s : State) (t : Nat) (f : FnState) : Same 8 s (State.putFn s t f) := by
  unfold State.putFn
  (try dsimp only)
  (repeat' split) <;> simp [foldl_same]
@[simp] theorem State.putFn_same {msk : Nat} (hq : 8 &&& msk = 8) (s₀ : State) (s : State) (t : Nat) (f : FnState) :
    Same msk s₀ (State.putFn s t f) = Same msk s₀ s := ((State.putFn_same0 s t f).mono hq).of_step
theorem State.setFn_same0 (s : State) (t : Nat) (f : FnState → FnState) : Same 8 s (State.setFn s t f) := by
  unfold State.setFn
  (try dsimp only)
  (repeat' split) <;> simp [foldl_same]
@[simp] theorem State.setFn_same {msk : Nat} (hq : 8 &&& msk = 8) (s₀ : State) (s : State) (t : Nat) (f : FnState → FnState) :
    Same msk s₀ (State.setFn s t f) = Same msk s₀ s := ((State.setFn_same0 s t f).mono hq).of_step
theorem State.putPort_same0 (s : State) (p : Nat) (x : Port) : Same 8 s (State.putPort s p x) := by
  unfold State.putPort
  (try dsimp only)
  (repeat' split) <;> simp [foldl_same]
@[simp] theorem State.putPort_same {msk : Nat} (hq : 8 &&& msk = 8) (s₀ : State) (s : State) (p : Nat) (x : Port) :
    Same msk s₀ (State.putPort s p x) = Same msk s₀ s := ((State.putPort_same0 s p x).mono hq).of_step
theorem State.putSq_same0 (s : State) (fn qid : Nat) (q : Sq) : Same 8 s (State.putSq s fn qid q) := by
  unfold State.putSq
  (try dsimp only)
  repeat' first | (simp [foldl_same]; done) | intro _ | split | (refine Same.foldl ?_ ?_) | simp [foldl_same]
@[simp] theorem State.putSq_same {msk : Nat} (hq : 8 &&& msk = 8) (s₀ : State) (s : State) (fn qid : Nat) (q : Sq) :
    Same msk s₀ (State.putSq s fn qid q) = Same msk s₀ s := ((State.putSq_same0 s fn qid q).mono hq).of_step
theorem State.putCq_same0 (s : State) (fn qid : Nat) (q : Cq) : Same 8 s (State.putCq s fn qid q) := by
  unfold State.putCq
  (try dsimp only)
  repeat' first | (simp [foldl_same]; done) | intro _ | split | (refine Same.foldl ?_ ?_) | simp [foldl_same]
@[simp] theorem State.putCq_same {msk : Nat} (hq : 8 &&& msk = 8) (s₀ : State) (s : State) (fn qid : Nat) (q : Cq) :
    Same msk s₀ (State.putCq s fn qid q) = Same msk s₀ s := ((State.putCq_same0 s fn qid q).mono hq).of_step
theorem State.setCmd_same0 (s : State) (r : CmdRef) (f : Cmd → Cmd) : Same 8 s (State.setCmd s r f) := by
  unfold State.setCmd
  (try dsimp only)
  (repeat' split) <;> simp [foldl_same]
@[simp] theorem State.setCmd_same {msk : Nat} (hq : 8 &&& msk = 8) (s₀ : State) (s : State) (r : CmdRef) (f : Cmd → Cmd) :
    Same msk s₀ (State.setCmd s r f) = Same msk s₀ s := ((State.setCmd_same0 s r f).mono hq).of_step
theorem State.dropCmd_same0 (s : State) (r : CmdRef) : Same 8 s (State.dropCmd s r) := by
  unfold State.dropCmd
  (try dsimp only)
  (repeat' split) <;> simp [foldl_same]
@[simp] theorem State.dropCmd_same {msk : Nat} (hq : 8 &&& msk = 8) (s₀ : State) (s : State) (r : CmdRef) :
    Same msk s₀ (State.dropCmd s r) = Same msk s₀ s := ((State.dropCmd_same0 s r).mono hq).of_step
theorem State.setTsec_same0 (s : State) (t : Nat) (f : TenantSec → TenantSec) : Same 32768 s (State.setTsec s t f) := by
  unfold State.setTsec
  (try dsimp only)
  (repeat' split) <;> simp [foldl_same]
@[simp] theorem State.setTsec_same {msk : Nat} (hq : 32768 &&& msk = 32768) (s₀ : State) (s : State) (t : Nat) (f : TenantSec → TenantSec) :
    Same msk s₀ (State.setTsec s t f) = Same msk s₀ s := ((State.setTsec_same0 s t f).mono hq).of_step
theorem State.storeWrite_same0 (s : State) : Same 32768 s (State.storeWrite s) := by
  unfold State.storeWrite
  (try dsimp only)
  (repeat' split) <;> simp [foldl_same]
@[simp] theorem State.storeWrite_same {msk : Nat} (hq : 32768 &&& msk = 32768) (s₀ : State) (s : State) :
    Same msk s₀ (State.storeWrite s) = Same msk s₀ s := ((State.storeWrite_same0 s).mono hq).of_step
theorem State.sealDone_same0 (s : State) (t : Nat) (st : Status) : Same 32768 s (State.sealDone s t st) := by
  unfold State.sealDone
  (try dsimp only)
  (repeat' split) <;> simp [foldl_same]
@[simp] theorem State.sealDone_same {msk : Nat} (hq : 32768 &&& msk = 32768) (s₀ : State) (s : State) (t : Nat) (st : Status) :
    Same msk s₀ (State.sealDone s t st) = Same msk s₀ s := ((State.sealDone_same0 s t st).mono hq).of_step
theorem State.statusEvent_same0 (s : State) (t opc nsid presented last : Nat) (st : Status) : Same 4 s (State.statusEvent s t opc nsid presented last st) := by
  unfold State.statusEvent
  (try dsimp only)
  (repeat' split) <;> simp [foldl_same]
@[simp] theorem State.statusEvent_same {msk : Nat} (hq : 4 &&& msk = 4) (s₀ : State) (s : State) (t opc nsid presented last : Nat) (st : Status) :
    Same msk s₀ (State.statusEvent s t opc nsid presented last st) = Same msk s₀ s := ((State.statusEvent_same0 s t opc nsid presented last st).mono hq).of_step
theorem State.signal_same0 (s : State) (t cqid : Nat) : Same 8 s (State.signal s t cqid) := by
  unfold State.signal
  (try dsimp only)
  repeat' first | (simp [foldl_same]; done) | intro _ | split | (refine Same.foldl ?_ ?_) | simp [foldl_same]
@[simp] theorem State.signal_same {msk : Nat} (hq : 8 &&& msk = 8) (s₀ : State) (s : State) (t cqid : Nat) :
    Same msk s₀ (State.signal s t cqid) = Same msk s₀ s := ((State.signal_same0 s t cqid).mono hq).of_step
theorem State.placeLocks_same0 (s : State) (r : CmdRef) (excl : Bool) (ranges : List (Nat × Nat × Nat)) : Same 16 s (State.placeLocks s r excl ranges) := by
  unfold State.placeLocks
  (try dsimp only)
  (repeat' split) <;> simp [foldl_same]
@[simp] theorem State.placeLocks_same {msk : Nat} (hq : 16 &&& msk = 16) (s₀ : State) (s : State) (r : CmdRef) (excl : Bool) (ranges : List (Nat × Nat × Nat)) :
    Same msk s₀ (State.placeLocks s r excl ranges) = Same msk s₀ s := ((State.placeLocks_same0 s r excl ranges).mono hq).of_step
theorem State.grantLocks_same0 (s : State) (r : CmdRef) : Same 16 s (State.grantLocks s r) := by
  unfold State.grantLocks
  (try dsimp only)
  (repeat' split) <;> simp [foldl_same]
@[simp] theorem State.grantLocks_same {msk : Nat} (hq : 16 &&& msk = 16) (s₀ : State) (s : State) (r : CmdRef) :
    Same msk s₀ (State.grantLocks s r) = Same msk s₀ s := ((State.grantLocks_same0 s r).mono hq).of_step
theorem State.retireLocks_same0 (s : State) (r : CmdRef) : Same 16 s (State.retireLocks s r) := by
  unfold State.retireLocks
  (try dsimp only)
  (repeat' split) <;> simp [foldl_same]
@[simp] theorem State.retireLocks_same {msk : Nat} (hq : 16 &&& msk = 16) (s₀ : State) (s : State) (r : CmdRef) :
    Same msk s₀ (State.retireLocks s r) = Same msk s₀ s := ((State.retireLocks_same0 s r).mono hq).of_step
theorem State.postCqe_same0 (s : State) (c : Cmd) (st : Status) (dw0 dw1 : Nat) : Same 8 s (State.postCqe s c st dw0 dw1) := by
  unfold State.postCqe
  (try dsimp only)
  repeat' first | (simp [foldl_same]; done) | intro _ | split | (refine Same.foldl ?_ ?_) | simp [foldl_same]
@[simp] theorem State.postCqe_same {msk : Nat} (hq : 8 &&& msk = 8) (s₀ : State) (s : State) (c : Cmd) (st : Status) (dw0 dw1 : Nat) :
    Same msk s₀ (State.postCqe s c st dw0 dw1) = Same msk s₀ s := ((State.postCqe_same0 s c st dw0 dw1).mono hq).of_step
theorem State.completeEv_same0 (s : State) (c : Cmd) (st : Status) (dw0 dw1 : Nat) (ev : State → State) (h : ∀ s, Same 32828 s (ev s)) : Same 32828 s (State.completeEv s c st dw0 dw1 ev) := by
  unfold State.completeEv
  dsimp only
  split <;> (simp; rw [Same.of_step (h _)]; simp)
@[simp] theorem State.completeEv_same {msk : Nat} (hq : 32828 &&& msk = 32828) (s₀ : State) (s : State) (c : Cmd) (st : Status) (dw0 dw1 : Nat) (ev : State → State) (h : ∀ s, Same 32828 s (ev s)) :
    Same msk s₀ (State.completeEv s c st dw0 dw1 ev) = Same msk s₀ s := ((State.completeEv_same0 s c st dw0 dw1 ev h).mono hq).of_step
theorem State.complete_same0 (s : State) (c : Cmd) (st : Status) (dw0 : Nat) (dw1 : Nat) : Same 32828 s (State.complete s c st dw0 dw1) := by
  unfold State.complete
  (try dsimp only)
  (repeat' split) <;> simp [foldl_same]
@[simp] theorem State.complete_same {msk : Nat} (hq : 32828 &&& msk = 32828) (s₀ : State) (s : State) (c : Cmd) (st : Status) (dw0 : Nat) (dw1 : Nat) :
    Same msk s₀ (State.complete s c st dw0 dw1) = Same msk s₀ s := ((State.complete_same0 s c st dw0 dw1).mono hq).of_step
theorem State.completeBytes_same0 (s : State) (c : Cmd) (b : List Byte) (dw0 : Nat) : Same 32828 s (State.completeBytes s c b dw0) := by
  unfold State.completeBytes
  (try dsimp only)
  (repeat' split) <;> simp [foldl_same]
@[simp] theorem State.completeBytes_same {msk : Nat} (hq : 32828 &&& msk = 32828) (s₀ : State) (s : State) (c : Cmd) (b : List Byte) (dw0 : Nat) :
    Same msk s₀ (State.completeBytes s c b dw0) = Same msk s₀ s := ((State.completeBytes_same0 s c b dw0).mono hq).of_step
theorem State.pumpAsync_same0 (s : State) (t : Nat) : Same 32828 s (State.pumpAsync s t) := by
  unfold State.pumpAsync
  (try dsimp only)
  repeat' first | (simp [foldl_same]; done) | intro _ | split | (refine Same.foldl ?_ ?_) | simp [foldl_same]
@[simp] theorem State.pumpAsync_same {msk : Nat} (hq : 32828 &&& msk = 32828) (s₀ : State) (s : State) (t : Nat) :
    Same msk s₀ (State.pumpAsync s t) = Same msk s₀ s := ((State.pumpAsync_same0 s t).mono hq).of_step
theorem State.asyncEvent_same0 (s : State) (t type info log : Nat) : Same 32828 s (State.asyncEvent s t type info log) := by
  unfold State.asyncEvent
  (try dsimp only)
  (repeat' split) <;> simp [foldl_same]
@[simp] theorem State.asyncEvent_same {msk : Nat} (hq : 32828 &&& msk = 32828) (s₀ : State) (s : State) (t type info log : Nat) :
    Same msk s₀ (State.asyncEvent s t type info log) = Same msk s₀ s := ((State.asyncEvent_same0 s t type info log).mono hq).of_step
theorem State.putNs_same0 (s : State) (nsix : Nat) (n : Ns) : Same 512 s (State.putNs s nsix n) := by
  unfold State.putNs
  (try dsimp only)
  (repeat' split) <;> simp [foldl_same]
@[simp] theorem State.putNs_same {msk : Nat} (hq : 512 &&& msk = 512) (s₀ : State) (s : State) (nsix : Nat) (n : Ns) :
    Same msk s₀ (State.putNs s nsix n) = Same msk s₀ s := ((State.putNs_same0 s nsix n).mono hq).of_step
theorem State.setNs_same0 (s : State) (nsix : Nat) (f : Ns → Ns) : Same 512 s (State.setNs s nsix f) := by
  unfold State.setNs
  (try dsimp only)
  (repeat' split) <;> simp [foldl_same]
@[simp] theorem State.setNs_same {msk : Nat} (hq : 512 &&& msk = 512) (s₀ : State) (s : State) (nsix : Nat) (f : Ns → Ns) :
    Same msk s₀ (State.setNs s nsix f) = Same msk s₀ s := ((State.setNs_same0 s nsix f).mono hq).of_step
theorem State.countDevice_same0 (s : State) (i n : Nat) : Same 16384 s (State.countDevice s i n) := by
  unfold State.countDevice
  (try dsimp only)
  (repeat' split) <;> simp [foldl_same]
@[simp] theorem State.countDevice_same {msk : Nat} (hq : 16384 &&& msk = 16384) (s₀ : State) (s : State) (i n : Nat) :
    Same msk s₀ (State.countDevice s i n) = Same msk s₀ s := ((State.countDevice_same0 s i n).mono hq).of_step
theorem State.countSet_same0 (s : State) (ds i n : Nat) : Same 16384 s (State.countSet s ds i n) := by
  unfold State.countSet
  (try dsimp only)
  (repeat' split) <;> simp [foldl_same]
@[simp] theorem State.countSet_same {msk : Nat} (hq : 16384 &&& msk = 16384) (s₀ : State) (s : State) (ds i n : Nat) :
    Same msk s₀ (State.countSet s ds i n) = Same msk s₀ s := ((State.countSet_same0 s ds i n).mono hq).of_step
theorem State.countHealth_same0 (s : State) (nsix i n : Nat) : Same 16384 s (State.countHealth s nsix i n) := by
  unfold State.countHealth
  (try dsimp only)
  (repeat' split) <;> simp [foldl_same]
@[simp] theorem State.countHealth_same {msk : Nat} (hq : 16384 &&& msk = 16384) (s₀ : State) (s : State) (nsix i n : Nat) :
    Same msk s₀ (State.countHealth s nsix i n) = Same msk s₀ s := ((State.countHealth_same0 s nsix i n).mono hq).of_step
theorem State.deferOn_same0 (s : State) (t : Nat) (e : DefEntry) (flag any : Bool) : Same 32828 s (State.deferOn s t e flag any) := by
  unfold State.deferOn
  (try dsimp only)
  (repeat' split) <;> simp [foldl_same]
@[simp] theorem State.deferOn_same {msk : Nat} (hq : 32828 &&& msk = 32828) (s₀ : State) (s : State) (t : Nat) (e : DefEntry) (flag any : Bool) :
    Same msk s₀ (State.deferOn s t e flag any) = Same msk s₀ s := ((State.deferOn_same0 s t e flag any).mono hq).of_step
theorem State.deferError_same0 (s : State) (nsix : Nat) (e : DefEntry) (origin : Option CmdRef) : Same 49724 s (State.deferError s nsix e origin) := by
  unfold State.deferError
  (try dsimp only)
  (repeat' split) <;> simp [foldl_same]
@[simp] theorem State.deferError_same {msk : Nat} (hq : 49724 &&& msk = 49724) (s₀ : State) (s : State) (nsix : Nat) (e : DefEntry) (origin : Option CmdRef) :
    Same msk s₀ (State.deferError s nsix e origin) = Same msk s₀ s := ((State.deferError_same0 s nsix e origin).mono hq).of_step
theorem State.deferUnknown_same0 (s : State) (e : DefEntry) : Same 49212 s (State.deferUnknown s e) := by
  unfold State.deferUnknown
  (try dsimp only)
  (repeat' split) <;> simp [foldl_same]
@[simp] theorem State.deferUnknown_same {msk : Nat} (hq : 49212 &&& msk = 49212) (s₀ : State) (s : State) (e : DefEntry) :
    Same msk s₀ (State.deferUnknown s e) = Same msk s₀ s := ((State.deferUnknown_same0 s e).mono hq).of_step
theorem State.addKept_same0 (s : State) (nsix t : Nat) : Same 33340 s (State.addKept s nsix t) := by
  unfold State.addKept
  (try dsimp only)
  repeat' first | (simp [foldl_same]; done) | intro _ | split | (refine Same.foldl ?_ ?_) | simp [foldl_same]
@[simp] theorem State.addKept_same {msk : Nat} (hq : 33340 &&& msk = 33340) (s₀ : State) (s : State) (nsix t : Nat) :
    Same msk s₀ (State.addKept s nsix t) = Same msk s₀ s := ((State.addKept_same0 s nsix t).mono hq).of_step
theorem State.unflag_same0 (s : State) (t nsid : Nat) : Same 8 s (State.unflag s t nsid) := by
  unfold State.unflag
  (try dsimp only)
  (repeat' split) <;> simp [foldl_same]
@[simp] theorem State.unflag_same {msk : Nat} (hq : 8 &&& msk = 8) (s₀ : State) (s : State) (t nsid : Nat) :
    Same msk s₀ (State.unflag s t nsid) = Same msk s₀ s := ((State.unflag_same0 s t nsid).mono hq).of_step
theorem State.nsChanged_same0 (s : State) (nsix : Nat) : Same 32828 s (State.nsChanged s nsix) := by
  unfold State.nsChanged
  (try dsimp only)
  repeat' first | (simp [foldl_same]; done) | intro _ | split | (refine Same.foldl ?_ ?_) | simp [foldl_same]
@[simp] theorem State.nsChanged_same {msk : Nat} (hq : 32828 &&& msk = 32828) (s₀ : State) (s : State) (nsix : Nat) :
    Same msk s₀ (State.nsChanged s nsix) = Same msk s₀ s := ((State.nsChanged_same0 s nsix).mono hq).of_step
theorem State.zoneChanged_same0 (s : State) (nsix zslba : Nat) : Same 32828 s (State.zoneChanged s nsix zslba) := by
  unfold State.zoneChanged
  (try dsimp only)
  repeat' first | (simp [foldl_same]; done) | intro _ | split | (refine Same.foldl ?_ ?_) | simp [foldl_same]
@[simp] theorem State.zoneChanged_same {msk : Nat} (hq : 32828 &&& msk = 32828) (s₀ : State) (s : State) (nsix zslba : Nat) :
    Same msk s₀ (State.zoneChanged s nsix zslba) = Same msk s₀ s := ((State.zoneChanged_same0 s nsix zslba).mono hq).of_step
theorem State.ewChange_same0 (s : State) (code : Nat) (ds : Option Nat) (on : Bool) (value threshold : Nat) : Same 1097788 s (State.ewChange s code ds on value threshold) := by
  unfold State.ewChange
  (try dsimp only)
  repeat' first | (simp [foldl_same]; done) | intro _ | split | (refine Same.foldl ?_ ?_) | simp [foldl_same]
@[simp] theorem State.ewChange_same {msk : Nat} (hq : 1097788 &&& msk = 1097788) (s₀ : State) (s : State) (code : Nat) (ds : Option Nat) (on : Bool) (value threshold : Nat) :
    Same msk s₀ (State.ewChange s code ds on value threshold) = Same msk s₀ s := ((State.ewChange_same0 s code ds on value threshold).mono hq).of_step
theorem State.ewRaise_same0 (s : State) (code : Nat) (ds : Option Nat) (value threshold : Nat) : Same 1097788 s (State.ewRaise s code ds value threshold) := by
  unfold State.ewRaise
  (try dsimp only)
  (repeat' split) <;> simp [foldl_same]
@[simp] theorem State.ewRaise_same {msk : Nat} (hq : 1097788 &&& msk = 1097788) (s₀ : State) (s : State) (code : Nat) (ds : Option Nat) (value threshold : Nat) :
    Same msk s₀ (State.ewRaise s code ds value threshold) = Same msk s₀ s := ((State.ewRaise_same0 s code ds value threshold).mono hq).of_step
theorem State.ewClear_same0 (s : State) (code : Nat) (ds : Option Nat) (value threshold : Nat) : Same 1097788 s (State.ewClear s code ds value threshold) := by
  unfold State.ewClear
  (try dsimp only)
  (repeat' split) <;> simp [foldl_same]
@[simp] theorem State.ewClear_same {msk : Nat} (hq : 1097788 &&& msk = 1097788) (s₀ : State) (s : State) (code : Nat) (ds : Option Nat) (value threshold : Nat) :
    Same msk s₀ (State.ewClear s code ds value threshold) = Same msk s₀ s := ((State.ewClear_same0 s code ds value threshold).mono hq).of_step
theorem State.ewSpare_same0 (s : State) (ds : Nat) : Same 1097788 s (State.ewSpare s ds) := by
  unfold State.ewSpare
  (try dsimp only)
  (repeat' split) <;> simp [foldl_same]
@[simp] theorem State.ewSpare_same {msk : Nat} (hq : 1097788 &&& msk = 1097788) (s₀ : State) (s : State) (ds : Nat) :
    Same msk s₀ (State.ewSpare s ds) = Same msk s₀ s := ((State.ewSpare_same0 s ds).mono hq).of_step
theorem State.ewBench_same0 (s : State) : Same 1097788 s (State.ewBench s) := by
  unfold State.ewBench
  (try dsimp only)
  (repeat' split) <;> simp [foldl_same]
@[simp] theorem State.ewBench_same {msk : Nat} (hq : 1097788 &&& msk = 1097788) (s₀ : State) (s : State) :
    Same msk s₀ (State.ewBench s) = Same msk s₀ s := ((State.ewBench_same0 s).mono hq).of_step
theorem State.chargeBucket_same0 (s : State) (t k cost : Nat) : Same 2048 s (State.chargeBucket s t k cost) := by
  unfold State.chargeBucket
  (try dsimp only)
  (repeat' split) <;> simp [foldl_same]
@[simp] theorem State.chargeBucket_same {msk : Nat} (hq : 2048 &&& msk = 2048) (s₀ : State) (s : State) (t k cost : Nat) :
    Same msk s₀ (State.chargeBucket s t k cost) = Same msk s₀ s := ((State.chargeBucket_same0 s t k cost).mono hq).of_step
theorem State.chargeSnow_same0 (s : State) (t dir bytes : Nat) : Same 2048 s (State.chargeSnow s t dir bytes) := by
  unfold State.chargeSnow
  (try dsimp only)
  (repeat' split) <;> simp [foldl_same]
@[simp] theorem State.chargeSnow_same {msk : Nat} (hq : 2048 &&& msk = 2048) (s₀ : State) (s : State) (t dir bytes : Nat) :
    Same msk s₀ (State.chargeSnow s t dir bytes) = Same msk s₀ s := ((State.chargeSnow_same0 s t dir bytes).mono hq).of_step
theorem State.settleBuckets_same0 (s : State) : Same 2048 s (State.settleBuckets s) := by
  unfold State.settleBuckets
  (try dsimp only)
  (repeat' split) <;> simp [foldl_same]
@[simp] theorem State.settleBuckets_same {msk : Nat} (hq : 2048 &&& msk = 2048) (s₀ : State) (s : State) :
    Same msk s₀ (State.settleBuckets s) = Same msk s₀ s := ((State.settleBuckets_same0 s).mono hq).of_step
theorem State.putFlash_same0 (s : State) (die block slot : Nat) (u : FlashUnit) : Same 16384 s (State.putFlash s die block slot u) := by
  unfold State.putFlash
  (try dsimp only)
  (repeat' split) <;> simp [foldl_same]
@[simp] theorem State.putFlash_same {msk : Nat} (hq : 16384 &&& msk = 16384) (s₀ : State) (s : State) (die block slot : Nat) (u : FlashUnit) :
    Same msk s₀ (State.putFlash s die block slot u) = Same msk s₀ s := ((State.putFlash_same0 s die block slot u).mono hq).of_step
theorem State.putRow_same0 (s : State) (setid row : Nat) (r : Row) : Same 1024 s (State.putRow s setid row r) := by
  unfold State.putRow
  (try dsimp only)
  (repeat' split) <;> simp [foldl_same]
@[simp] theorem State.putRow_same {msk : Nat} (hq : 1024 &&& msk = 1024) (s₀ : State) (s : State) (setid row : Nat) (r : Row) :
    Same msk s₀ (State.putRow s setid row r) = Same msk s₀ s := ((State.putRow_same0 s setid row r).mono hq).of_step
theorem State.setRow_same0 (s : State) (setid row : Nat) (f : Row → Row) : Same 1024 s (State.setRow s setid row f) := by
  unfold State.setRow
  (try dsimp only)
  (repeat' split) <;> simp [foldl_same]
@[simp] theorem State.setRow_same {msk : Nat} (hq : 1024 &&& msk = 1024) (s₀ : State) (s : State) (setid row : Nat) (f : Row → Row) :
    Same msk s₀ (State.setRow s setid row f) = Same msk s₀ s := ((State.setRow_same0 s setid row f).mono hq).of_step
theorem State.countStr_same0 (s : State) (i n : Nat) : Same 1024 s (State.countStr s i n) := by
  unfold State.countStr
  (try dsimp only)
  (repeat' split) <;> simp [foldl_same]
@[simp] theorem State.countStr_same {msk : Nat} (hq : 1024 &&& msk = 1024) (s₀ : State) (s : State) (i n : Nat) :
    Same msk s₀ (State.countStr s i n) = Same msk s₀ s := ((State.countStr_same0 s i n).mono hq).of_step
theorem State.openRow_same0 (s : State) (setid : Nat) (r : SetRec) (row lo hi : Nat) : Same 1440 s (State.openRow s setid r row lo hi) := by
  unfold State.openRow
  (try dsimp only)
  (repeat' split) <;> simp [foldl_same]
@[simp] theorem State.openRow_same {msk : Nat} (hq : 1440 &&& msk = 1440) (s₀ : State) (s : State) (setid : Nat) (r : SetRec) (row lo hi : Nat) :
    Same msk s₀ (State.openRow s setid r row lo hi) = Same msk s₀ s := ((State.openRow_same0 s setid r row lo hi).mono hq).of_step
theorem State.parityRow_same0 (s : State) (setid : Nat) (r : SetRec) (row : Nat) (early : Bool) : Same 1440 s (State.parityRow s setid r row early) := by
  unfold State.parityRow
  (try dsimp only)
  (repeat' split) <;> simp [foldl_same]
@[simp] theorem State.parityRow_same {msk : Nat} (hq : 1440 &&& msk = 1440) (s₀ : State) (s : State) (setid : Nat) (r : SetRec) (row : Nat) (early : Bool) :
    Same msk s₀ (State.parityRow s setid r row early) = Same msk s₀ s := ((State.parityRow_same0 s setid r row early).mono hq).of_step
theorem State.fillPos_same0 (s : State) (setid : Nat) (r : SetRec) (row d : Nat) (x : RowPos) (early : Bool) : Same 1440 s (State.fillPos s setid r row d x early) := by
  unfold State.fillPos
  (try dsimp only)
  (repeat' split) <;> simp [foldl_same]
@[simp] theorem State.fillPos_same {msk : Nat} (hq : 1440 &&& msk = 1440) (s₀ : State) (s : State) (setid : Nat) (r : SetRec) (row d : Nat) (x : RowPos) (early : Bool) :
    Same msk s₀ (State.fillPos s setid r row d x early) = Same msk s₀ s := ((State.fillPos_same0 s setid r row d x early).mono hq).of_step
theorem State.padRow_same0 (s : State) (setid : Nat) (r : SetRec) (row : Nat) : Same 1440 s (State.padRow s setid r row) := by
  unfold State.padRow
  (try dsimp only)
  (repeat' split) <;> simp [foldl_same]
@[simp] theorem State.padRow_same {msk : Nat} (hq : 1440 &&& msk = 1440) (s₀ : State) (s : State) (setid : Nat) (r : SetRec) (row : Nat) :
    Same msk s₀ (State.padRow s setid r row) = Same msk s₀ s := ((State.padRow_same0 s setid r row).mono hq).of_step
theorem State.returnCredit_same0 (s : State) (n : Nat) : Same 128 s (State.returnCredit s n) := by
  unfold State.returnCredit
  (try dsimp only)
  (repeat' split) <;> simp [foldl_same]
@[simp] theorem State.returnCredit_same {msk : Nat} (hq : 128 &&& msk = 128) (s₀ : State) (s : State) (n : Nat) :
    Same msk s₀ (State.returnCredit s n) = Same msk s₀ s := ((State.returnCredit_same0 s n).mono hq).of_step
theorem State.retireUnit_same0 (s : State) (key : Nat) : Same 1196 s (State.retireUnit s key) := by
  unfold State.retireUnit
  split
  · simp
  · dsimp only
    split <;> rw [State.giveBackAll_same (by decide), same_withStr (by decide)] <;> simp
@[simp] theorem State.retireUnit_same {msk : Nat} (hq : 1196 &&& msk = 1196) (s₀ : State) (s : State) (key : Nat) :
    Same msk s₀ (State.retireUnit s key) = Same msk s₀ s := ((State.retireUnit_same0 s key).mono hq).of_step
theorem State.settleStaged_same0 (s : State) (u : DramUnit) : Same 1196 s (State.settleStaged s u) := by
  unfold State.settleStaged
  (try dsimp only)
  (repeat' split) <;> simp [foldl_same]
@[simp] theorem State.settleStaged_same {msk : Nat} (hq : 1196 &&& msk = 1196) (s₀ : State) (s : State) (u : DramUnit) :
    Same msk s₀ (State.settleStaged s u) = Same msk s₀ s := ((State.settleStaged_same0 s u).mono hq).of_step
theorem State.unstage_same0 (s : State) (nsix zslba row : Nat) : Same 1024 s (State.unstage s nsix zslba row) := by
  unfold State.unstage
  (try dsimp only)
  (repeat' split) <;> simp [foldl_same]
@[simp] theorem State.unstage_same {msk : Nat} (hq : 1024 &&& msk = 1024) (s₀ : State) (s : State) (nsix zslba row : Nat) :
    Same msk s₀ (State.unstage s nsix zslba row) = Same msk s₀ s := ((State.unstage_same0 s nsix zslba row).mono hq).of_step
theorem State.noteClose_same0 (s : State) (key seq : Nat) : Same 72 s (State.noteClose s key seq) := by
  unfold State.noteClose
  (try dsimp only)
  (repeat' split) <;> simp [foldl_same]
@[simp] theorem State.noteClose_same {msk : Nat} (hq : 72 &&& msk = 72) (s₀ : State) (s : State) (key seq : Nat) :
    Same msk s₀ (State.noteClose s key seq) = Same msk s₀ s := ((State.noteClose_same0 s key seq).mono hq).of_step
theorem State.closeRow_same0 (s : State) (setid : Nat) (r : SetRec) (row : Nat) : Same 17900 s (State.closeRow s setid r row) := by
  unfold State.closeRow
  (try dsimp only)
  repeat' first | (simp [foldl_same]; done) | intro _ | split | (refine Same.foldl ?_ ?_) | simp [foldl_same]
@[simp] theorem State.closeRow_same {msk : Nat} (hq : 17900 &&& msk = 17900) (s₀ : State) (s : State) (setid : Nat) (r : SetRec) (row : Nat) :
    Same msk s₀ (State.closeRow s setid r row) = Same msk s₀ s := ((State.closeRow_same0 s setid r row).mono hq).of_step
theorem State.closeRows_same0 (s : State) (setid : Nat) (r : SetRec) (first n : Nat) : Same 17900 s (State.closeRows s setid r first n) := by
  unfold State.closeRows
  (try dsimp only)
  repeat' first | (simp [foldl_same]; done) | intro _ | split | (refine Same.foldl ?_ ?_) | simp [foldl_same]
@[simp] theorem State.closeRows_same {msk : Nat} (hq : 17900 &&& msk = 17900) (s₀ : State) (s : State) (setid : Nat) (r : SetRec) (first n : Nat) :
    Same msk s₀ (State.closeRows s setid r first n) = Same msk s₀ s := ((State.closeRows_same0 s setid r first n).mono hq).of_step
theorem State.earlyClose_same0 (s : State) (setid row : Nat) : Same 1952 s (State.earlyClose s setid row) := by
  unfold State.earlyClose
  (try dsimp only)
  (repeat' split) <;> simp [foldl_same]
@[simp] theorem State.earlyClose_same {msk : Nat} (hq : 1952 &&& msk = 1952) (s₀ : State) (s : State) (setid row : Nat) :
    Same msk s₀ (State.earlyClose s setid row) = Same msk s₀ s := ((State.earlyClose_same0 s setid row).mono hq).of_step
theorem State.bindSuper_same1 {s : State} {staging : Bool} {nsix tenant group : Nat} {t : State} {x : Nat}
    (h : s.bindSuper staging nsix tenant group = some (t, x)) : Same 18336 s t := by
  unfold State.bindSuper at h
  cases staging
  all_goals
    simp only [if_true, if_false, Bool.false_eq_true] at h
    split at h
    · cases h
    · split at h
      · split at h
        · cases h
        · simp only [Option.some.injEq, Prod.mk.injEq] at h
          obtain ⟨rfl, rfl⟩ := h
          simp
      · cases h
theorem State.openStaging_same1 {s : State} {tenant : Nat} {t : State} {x : Nat} (h : s.openStaging tenant = some (t, x)) :
    Same 18336 s t := by
  unfold State.openStaging at h
  (repeat' split at h) <;> first
    | (exact State.bindSuper_same1 h)
    | (simp only [Option.some.injEq, Prod.mk.injEq] at h; obtain ⟨rfl, -⟩ := h; simp)
theorem State.stageUnit_same0 (s : State) (key : Nat) : Same 18340 s (State.stageUnit s key) := by
  unfold State.stageUnit
  (try dsimp only)
  repeat' split
  all_goals first | (simp [foldl_same]; done) | ((try simp [foldl_same]); exact (State.openStaging_same1 (by assumption)).mono (by decide))
@[simp] theorem State.stageUnit_same {msk : Nat} (hq : 18340 &&& msk = 18340) (s₀ : State) (s : State) (key : Nat) :
    Same msk s₀ (State.stageUnit s key) = Same msk s₀ s := ((State.stageUnit_same0 s key).mono hq).of_step
theorem State.stageRow_same0 (s : State) (setid row : Nat) : Same 18340 s (State.stageRow s setid row) := by
  unfold State.stageRow
  (try dsimp only)
  (repeat' split) <;> simp [foldl_same]
@[simp] theorem State.stageRow_same {msk : Nat} (hq : 18340 &&& msk = 18340) (s₀ : State) (s : State) (setid row : Nat) :
    Same msk s₀ (State.stageRow s setid row) = Same msk s₀ s := ((State.stageRow_same0 s setid row).mono hq).of_step
theorem State.closeEarly_same0 (s : State) (id : Nat) : Same 18340 s (State.closeEarly s id) := by
  unfold State.closeEarly
  (try dsimp only)
  (repeat' split) <;> simp [foldl_same]
@[simp] theorem State.closeEarly_same {msk : Nat} (hq : 18340 &&& msk = 18340) (s₀ : State) (s : State) (id : Nat) :
    Same msk s₀ (State.closeEarly s id) = Same msk s₀ s := ((State.closeEarly_same0 s id).mono hq).of_step
theorem State.closeStaging_same0 (s : State) (tenant : Nat) : Same 1952 s (State.closeStaging s tenant) := by
  unfold State.closeStaging
  (try dsimp only)
  (repeat' split) <;> simp [foldl_same]
@[simp] theorem State.closeStaging_same {msk : Nat} (hq : 1952 &&& msk = 1952) (s₀ : State) (s : State) (tenant : Nat) :
    Same msk s₀ (State.closeStaging s tenant) = Same msk s₀ s := ((State.closeStaging_same0 s tenant).mono hq).of_step
theorem State.gcMode_same0 (s : State) (ds : Nat) : Same 16384 s (State.gcMode s ds) := by
  unfold State.gcMode
  (try dsimp only)
  (repeat' split) <;> simp [foldl_same]
@[simp] theorem State.gcMode_same {msk : Nat} (hq : 16384 &&& msk = 16384) (s₀ : State) (s : State) (ds : Nat) :
    Same msk s₀ (State.gcMode s ds) = Same msk s₀ s := ((State.gcMode_same0 s ds).mono hq).of_step
theorem State.resnow_same0 (s : State) (ds : Nat) : Same 18436 s (State.resnow s ds) := by
  unfold State.resnow
  (try dsimp only)
  (repeat' split) <;> simp [foldl_same]
@[simp] theorem State.resnow_same {msk : Nat} (hq : 18436 &&& msk = 18436) (s₀ : State) (s : State) (ds : Nat) :
    Same msk s₀ (State.resnow s ds) = Same msk s₀ s := ((State.resnow_same0 s ds).mono hq).of_step
theorem State.resnowTenant_same0 (s : State) (t : Nat) : Same 18436 s (State.resnowTenant s t) := by
  unfold State.resnowTenant
  (try dsimp only)
  (repeat' split) <;> simp [foldl_same]
@[simp] theorem State.resnowTenant_same {msk : Nat} (hq : 18436 &&& msk = 18436) (s₀ : State) (s : State) (t : Nat) :
    Same msk s₀ (State.resnowTenant s t) = Same msk s₀ s := ((State.resnowTenant_same0 s t).mono hq).of_step
theorem State.countUse_same0 (s : State) (nsix group : Nat) (reloc : Bool) : Same 512 s (State.countUse s nsix group reloc) := by
  unfold State.countUse
  (try dsimp only)
  (repeat' split) <;> simp [foldl_same]
@[simp] theorem State.countUse_same {msk : Nat} (hq : 512 &&& msk = 512) (s₀ : State) (s : State) (nsix group : Nat) (reloc : Bool) :
    Same msk s₀ (State.countUse s nsix group reloc) = Same msk s₀ s := ((State.countUse_same0 s nsix group reloc).mono hq).of_step
theorem State.noteReplaced_same0 (s : State) (u : DramUnit) : Same 8 s (State.noteReplaced s u) := by
  unfold State.noteReplaced
  (try dsimp only)
  (repeat' split) <;> simp [foldl_same]
@[simp] theorem State.noteReplaced_same {msk : Nat} (hq : 8 &&& msk = 8) (s₀ : State) (s : State) (u : DramUnit) :
    Same msk s₀ (State.noteReplaced s u) = Same msk s₀ s := ((State.noteReplaced_same0 s u).mono hq).of_step
theorem State.openSuper_same1 {s : State} {nsix tenant group : Nat} {t : State} {x : Nat} (h : s.openSuper nsix tenant group = some (t, x)) :
    Same 20388 s t := by
  unfold State.openSuper at h
  split at h
  · simp only [Option.some.injEq, Prod.mk.injEq] at h; obtain ⟨rfl, -⟩ := h; simp
  · simp only [Option.map_eq_some_iff, Prod.mk.injEq] at h
    obtain ⟨⟨u, y⟩, h1, rfl, -⟩ := h
    simp [(State.bindSuper_same1 h1).mono]
theorem State.placeSlot_same0 (s : State) (key : Nat) (u : DramUnit) : Same 20396 s (State.placeSlot s key u) := by
  unfold State.placeSlot
  (try dsimp only)
  repeat' split
  all_goals first | (simp [foldl_same]; done) | ((try simp [foldl_same]); exact (State.openSuper_same1 (by assumption)).mono (by decide))
@[simp] theorem State.placeSlot_same {msk : Nat} (hq : 20396 &&& msk = 20396) (s₀ : State) (s : State) (key : Nat) (u : DramUnit) :
    Same msk s₀ (State.placeSlot s key u) = Same msk s₀ s := ((State.placeSlot_same0 s key u).mono hq).of_step
theorem State.placeZone_same0 (s : State) (key : Nat) (u : DramUnit) : Same 1440 s (State.placeZone s key u) := by
  unfold State.placeZone
  (try dsimp only)
  (repeat' split) <;> simp [foldl_same]
@[simp] theorem State.placeZone_same {msk : Nat} (hq : 1440 &&& msk = 1440) (s₀ : State) (s : State) (key : Nat) (u : DramUnit) :
    Same msk s₀ (State.placeZone s key u) = Same msk s₀ s := ((State.placeZone_same0 s key u).mono hq).of_step
theorem State.placeUnit_same0 (s : State) (key : Nat) (u : DramUnit) : Same 20396 s (State.placeUnit s key u) := by
  unfold State.placeUnit
  (try dsimp only)
  (repeat' split) <;> simp [foldl_same]
@[simp] theorem State.placeUnit_same {msk : Nat} (hq : 20396 &&& msk = 20396) (s₀ : State) (s : State) (key : Nat) (u : DramUnit) :
    Same msk s₀ (State.placeUnit s key u) = Same msk s₀ s := ((State.placeUnit_same0 s key u).mono hq).of_step
theorem State.wtClose_same0 (s : State) (key : Nat) : Same 18340 s (State.wtClose s key) := by
  unfold State.wtClose
  (try dsimp only)
  (repeat' split) <;> simp [foldl_same]
@[simp] theorem State.wtClose_same {msk : Nat} (hq : 18340 &&& msk = 18340) (s₀ : State) (s : State) (key : Nat) :
    Same msk s₀ (State.wtClose s key) = Same msk s₀ s := ((State.wtClose_same0 s key).mono hq).of_step
theorem State.closePartial_same0 (s : State) (k left : Nat) : Same 18340 s (s.closePartial k left) := by
  induction k generalizing s left with
  | zero => simp [State.closePartial]
  | succ k ih =>
    simp only [State.closePartial]
    (repeat' split) <;> first | (simp; done) | exact Same.trans (by simp) (ih _ _)
@[simp] theorem State.closePartial_same {msk : Nat} (hq : 18340 &&& msk = 18340) (s₀ s : State) (k left : Nat) :
    Same msk s₀ (s.closePartial k left) = Same msk s₀ s := ((State.closePartial_same0 s k left).mono hq).of_step
theorem State.pressCredit_same0 (s : State) : Same 18340 s (State.pressCredit s) := by
  unfold State.pressCredit
  (try dsimp only)
  repeat' first | (simp [foldl_same]; done) | intro _ | split | (refine Same.foldl ?_ ?_) | simp [foldl_same]
@[simp] theorem State.pressCredit_same {msk : Nat} (hq : 18340 &&& msk = 18340) (s₀ : State) (s : State) :
    Same msk s₀ (State.pressCredit s) = Same msk s₀ s := ((State.pressCredit_same0 s).mono hq).of_step
theorem State.closeFor_same0 (s : State) (fn nsid csn : Nat) : Same 18340 s (State.closeFor s fn nsid csn) := by
  unfold State.closeFor
  (try dsimp only)
  repeat' first | (simp [foldl_same]; done) | intro _ | split | (refine Same.foldl ?_ ?_) | simp [foldl_same]
@[simp] theorem State.closeFor_same {msk : Nat} (hq : 18340 &&& msk = 18340) (s₀ : State) (s : State) (fn nsid csn : Nat) :
    Same msk s₀ (State.closeFor s fn nsid csn) = Same msk s₀ s := ((State.closeFor_same0 s fn nsid csn).mono hq).of_step
theorem State.closeForFlushes_same0 (s : State) : Same 18340 s (State.closeForFlushes s) := by
  unfold State.closeForFlushes
  (try dsimp only)
  (repeat' split) <;> simp [foldl_same]
@[simp] theorem State.closeForFlushes_same {msk : Nat} (hq : 18340 &&& msk = 18340) (s₀ : State) (s : State) :
    Same msk s₀ (State.closeForFlushes s) = Same msk s₀ s := ((State.closeForFlushes_same0 s).mono hq).of_step
theorem State.padBad_same0 (s : State) (setid : Nat) (r : SetRec) (x : Nat × Nat × Nat × Info) : Same 50876 s (State.padBad s setid r x) := by
  unfold State.padBad
  (try dsimp only)
  (repeat' split) <;> simp [foldl_same]
@[simp] theorem State.padBad_same {msk : Nat} (hq : 50876 &&& msk = 50876) (s₀ : State) (s : State) (setid : Nat) (r : SetRec) (x : Nat × Nat × Nat × Info) :
    Same msk s₀ (State.padBad s setid r x) = Same msk s₀ s := ((State.padBad_same0 s setid r x).mono hq).of_step
theorem State.queueProgram_same0 (s : State) (setid : Nat) (r : SetRec) (m grp : Nat) : Same 3072 s (State.queueProgram s setid r m grp) := by
  unfold State.queueProgram
  (try dsimp only)
  (repeat' split) <;> simp [foldl_same]
@[simp] theorem State.queueProgram_same {msk : Nat} (hq : 3072 &&& msk = 3072) (s₀ : State) (s : State) (setid : Nat) (r : SetRec) (m grp : Nat) :
    Same msk s₀ (State.queueProgram s setid r m grp) = Same msk s₀ s := ((State.queueProgram_same0 s setid r m grp).mono hq).of_step
theorem State.enterWt_same0 (s : State) (cause : Nat) : Same 132 s (State.enterWt s cause) := by
  unfold State.enterWt
  (try dsimp only)
  (repeat' split) <;> simp [foldl_same]
@[simp] theorem State.enterWt_same {msk : Nat} (hq : 132 &&& msk = 132) (s₀ : State) (s : State) (cause : Nat) :
    Same msk s₀ (State.enterWt s cause) = Same msk s₀ s := ((State.enterWt_same0 s cause).mono hq).of_step
theorem State.checkMargin_same0 (s : State) : Same 1097788 s (State.checkMargin s) := by
  unfold State.checkMargin
  (try dsimp only)
  (repeat' split) <;> simp [foldl_same]
@[simp] theorem State.checkMargin_same {msk : Nat} (hq : 1097788 &&& msk = 1097788) (s₀ : State) (s : State) :
    Same msk s₀ (State.checkMargin s) = Same msk s₀ s := ((State.checkMargin_same0 s).mono hq).of_step
theorem State.rebudget_same0 (s : State) : Same 1099708 s (State.rebudget s) := by
  unfold State.rebudget
  (try dsimp only)
  (repeat' split) <;> simp [foldl_same]
@[simp] theorem State.rebudget_same {msk : Nat} (hq : 1099708 &&& msk = 1099708) (s₀ : State) (s : State) :
    Same msk s₀ (State.rebudget s) = Same msk s₀ s := ((State.rebudget_same0 s).mono hq).of_step
theorem State.recharge_same0 (s : State) : Same 128 s (State.recharge s) := by
  unfold State.recharge
  (try dsimp only)
  (repeat' split) <;> simp [foldl_same]
@[simp] theorem State.recharge_same {msk : Nat} (hq : 128 &&& msk = 128) (s₀ : State) (s : State) :
    Same msk s₀ (State.recharge s) = Same msk s₀ s := ((State.recharge_same0 s).mono hq).of_step
theorem State.requestTest_same0 (s : State) : Same 128 s (State.requestTest s) := by
  unfold State.requestTest
  (try dsimp only)
  (repeat' split) <;> simp [foldl_same]
@[simp] theorem State.requestTest_same {msk : Nat} (hq : 128 &&& msk = 128) (s₀ : State) (s : State) :
    Same msk s₀ (State.requestTest s) = Same msk s₀ s := ((State.requestTest_same0 s).mono hq).of_step
theorem State.leaveWt_same0 (s : State) : Same 132 s (State.leaveWt s) := by
  unfold State.leaveWt
  (try dsimp only)
  (repeat' split) <;> simp [foldl_same]
@[simp] theorem State.leaveWt_same {msk : Nat} (hq : 132 &&& msk = 132) (s₀ : State) (s : State) :
    Same msk s₀ (State.leaveWt s) = Same msk s₀ s := ((State.leaveWt_same0 s).mono hq).of_step
theorem drawMediaKey_same0 (n : Nat) (s : State) : Same 2097152 s (drawMediaKey n s).1 := by
  induction n generalizing s with
  | zero => simp [drawMediaKey]
  | succ n ih =>
    simp only [drawMediaKey]
    split
    · exact Same.trans (by simp) (ih s.drew)
    · simp
theorem State.newMediaKey_same0 (s : State) : Same 2129920 s ((State.newMediaKey s).1) := by
  unfold State.newMediaKey
  dsimp only
  rw [same_withSec (by decide) _ _ _ (by simp)]
  exact (drawMediaKey_same0 64 s).mono (by decide)
@[simp] theorem State.newMediaKey_same {msk : Nat} (hq : 2129920 &&& msk = 2129920) (s₀ : State) (s : State) :
    Same msk s₀ ((State.newMediaKey s).1) = Same msk s₀ s := ((State.newMediaKey_same0 s).mono hq).of_step
theorem State.destroyKey_same0 (s : State) (owner nsix cmd : Nat) (id : Option Nat) : Same 32772 s (State.destroyKey s owner nsix cmd id) := by
  unfold State.destroyKey
  (try dsimp only)
  (repeat' split) <;> simp [foldl_same]
@[simp] theorem State.destroyKey_same {msk : Nat} (hq : 32772 &&& msk = 32772) (s₀ : State) (s : State) (owner nsix cmd : Nat) (id : Option Nat) :
    Same msk s₀ (State.destroyKey s owner nsix cmd id) = Same msk s₀ s := ((State.destroyKey_same0 s owner nsix cmd id).mono hq).of_step
theorem State.keyEvent_same0 (s : State) (code t : Nat) (tkid skid : Nat) : Same 4 s (State.keyEvent s code t tkid skid) := by
  unfold State.keyEvent
  (try dsimp only)
  (repeat' split) <;> simp [foldl_same]
@[simp] theorem State.keyEvent_same {msk : Nat} (hq : 4 &&& msk = 4) (s₀ : State) (s : State) (code t : Nat) (tkid skid : Nat) :
    Same msk s₀ (State.keyEvent s code t tkid skid) = Same msk s₀ s := ((State.keyEvent_same0 s code t tkid skid).mono hq).of_step
theorem State.serveDeficit_same0 (s : State) (dir t : Nat) : Same 8 s (State.serveDeficit s dir t) := by
  unfold State.serveDeficit
  (try dsimp only)
  (repeat' split) <;> simp [foldl_same]
@[simp] theorem State.serveDeficit_same {msk : Nat} (hq : 8 &&& msk = 8) (s₀ : State) (s : State) (dir t : Nat) :
    Same msk s₀ (State.serveDeficit s dir t) = Same msk s₀ s := ((State.serveDeficit_same0 s dir t).mono hq).of_step
theorem State.amberAdvance_same0 (s : State) : Same 8 s (State.amberAdvance s) := by
  unfold State.amberAdvance
  (try dsimp only)
  (repeat' split) <;> simp [foldl_same]
@[simp] theorem State.amberAdvance_same {msk : Nat} (hq : 8 &&& msk = 8) (s₀ : State) (s : State) :
    Same msk s₀ (State.amberAdvance s) = Same msk s₀ s := ((State.amberAdvance_same0 s).mono hq).of_step
theorem State.amberCharge_same0 (s : State) (t bytes : Nat) : Same 8 s (State.amberCharge s t bytes) := by
  unfold State.amberCharge
  (try dsimp only)
  (repeat' split) <;> simp [foldl_same]
@[simp] theorem State.amberCharge_same {msk : Nat} (hq : 8 &&& msk = 8) (s₀ : State) (s : State) (t bytes : Nat) :
    Same msk s₀ (State.amberCharge s t bytes) = Same msk s₀ s := ((State.amberCharge_same0 s t bytes).mono hq).of_step
theorem State.requestLocks_same0 (s : State) (c : Cmd) : Same 24 s (State.requestLocks s c) := by
  unfold State.requestLocks
  (try dsimp only)
  (repeat' split) <;> simp [foldl_same]
@[simp] theorem State.requestLocks_same {msk : Nat} (hq : 24 &&& msk = 24) (s₀ : State) (s : State) (c : Cmd) :
    Same msk s₀ (State.requestLocks s c) = Same msk s₀ s := ((State.requestLocks_same0 s c).mono hq).of_step
theorem State.putZone_same0 (s : State) (e : Nat) (z : Zone) : Same 512 s (State.putZone s e z) := by
  unfold State.putZone
  (try dsimp only)
  (repeat' split) <;> simp [foldl_same]
@[simp] theorem State.putZone_same {msk : Nat} (hq : 512 &&& msk = 512) (s₀ : State) (s : State) (e : Nat) (z : Zone) :
    Same msk s₀ (State.putZone s e z) = Same msk s₀ s := ((State.putZone_same0 s e z).mono hq).of_step
theorem State.setZone_same0 (s : State) (e : Nat) (f : Zone → Zone) : Same 512 s (State.setZone s e f) := by
  unfold State.setZone
  (try dsimp only)
  (repeat' split) <;> simp [foldl_same]
@[simp] theorem State.setZone_same {msk : Nat} (hq : 512 &&& msk = 512) (s₀ : State) (s : State) (e : Nat) (f : Zone → Zone) :
    Same msk s₀ (State.setZone s e f) = Same msk s₀ s := ((State.setZone_same0 s e f).mono hq).of_step
theorem State.zoneRecord_same0 (s : State) (tenant csn e action : Nat) : Same 416 s (State.zoneRecord s tenant csn e action) := by
  unfold State.zoneRecord
  (try dsimp only)
  (repeat' split) <;> simp [foldl_same]
@[simp] theorem State.zoneRecord_same {msk : Nat} (hq : 416 &&& msk = 416) (s₀ : State) (s : State) (tenant csn e action : Nat) :
    Same msk s₀ (State.zoneRecord s tenant csn e action) = Same msk s₀ s := ((State.zoneRecord_same0 s tenant csn e action).mono hq).of_step
theorem State.zoneEvent_same0 (s : State) (e : Nat) : Same 4 s (State.zoneEvent s e) := by
  unfold State.zoneEvent
  (try dsimp only)
  (repeat' split) <;> simp [foldl_same]
@[simp] theorem State.zoneEvent_same {msk : Nat} (hq : 4 &&& msk = 4) (s₀ : State) (s : State) (e : Nat) :
    Same msk s₀ (State.zoneEvent s e) = Same msk s₀ s := ((State.zoneEvent_same0 s e).mono hq).of_step
theorem State.putCapRing_same0 (s : State) (n : Nat) (r : CapRing) : Same 64 s (State.putCapRing s n r) := by
  unfold State.putCapRing
  (try dsimp only)
  (repeat' split) <;> simp [foldl_same]
@[simp] theorem State.putCapRing_same {msk : Nat} (hq : 64 &&& msk = 64) (s₀ : State) (s : State) (n : Nat) (r : CapRing) :
    Same msk s₀ (State.putCapRing s n r) = Same msk s₀ s := ((State.putCapRing_same0 s n r).mono hq).of_step
theorem State.setCapRing_same0 (s : State) (n : Nat) (f : CapRing → CapRing) : Same 64 s (State.setCapRing s n f) := by
  unfold State.setCapRing
  (try dsimp only)
  (repeat' split) <;> simp [foldl_same]
@[simp] theorem State.setCapRing_same {msk : Nat} (hq : 64 &&& msk = 64) (s₀ : State) (s : State) (n : Nat) (f : CapRing → CapRing) :
    Same msk s₀ (State.setCapRing s n f) = Same msk s₀ s := ((State.setCapRing_same0 s n f).mono hq).of_step
theorem State.raiseRingEv_same0 (s : State) (n code sev : Nat) (pay : List (Nat × Nat)) : Same 4 s (State.raiseRingEv s n code sev pay) := by
  unfold State.raiseRingEv
  (try dsimp only)
  (repeat' split) <;> simp [foldl_same]
@[simp] theorem State.raiseRingEv_same {msk : Nat} (hq : 4 &&& msk = 4) (s₀ : State) (s : State) (n code sev : Nat) (pay : List (Nat × Nat)) :
    Same msk s₀ (State.raiseRingEv s n code sev pay) = Same msk s₀ s := ((State.raiseRingEv_same0 s n code sev pay).mono hq).of_step
theorem State.putPiece_same0 (s : State) (n roff : Nat) (p : BitVec 512) : Same 64 s (State.putPiece s n roff p) := by
  unfold State.putPiece
  (try dsimp only)
  (repeat' split) <;> simp [foldl_same]
@[simp] theorem State.putPiece_same {msk : Nat} (hq : 64 &&& msk = 64) (s₀ : State) (s : State) (n roff : Nat) (p : BitVec 512) :
    Same msk s₀ (State.putPiece s n roff p) = Same msk s₀ s := ((State.putPiece_same0 s n roff p).mono hq).of_step
theorem State.fillUnit_same0 (s : State) (n roff k : Nat) : Same 64 s (s.fillUnit n roff k) := by
  induction k generalizing s with
  | zero => simp [State.fillUnit]
  | succ k ih =>
    simp only [State.fillUnit]
    split
    · simp
    · exact Same.trans (by simp) (ih _)
@[simp] theorem State.fillUnit_same {msk : Nat} (hq : 64 &&& msk = 64) (s₀ s : State) (n roff k : Nat) :
    Same msk s₀ (s.fillUnit n roff k) = Same msk s₀ s := ((State.fillUnit_same0 s n roff k).mono hq).of_step
theorem State.putMarker_same0 (s : State) (n : Nat) (m : Marker) : Same 96 s (State.putMarker s n m) := by
  unfold State.putMarker
  (try dsimp only)
  repeat' first | (simp [foldl_same]; done) | intro _ | split | (refine Same.foldl ?_ ?_) | simp [foldl_same]
@[simp] theorem State.putMarker_same {msk : Nat} (hq : 96 &&& msk = 96) (s₀ : State) (s : State) (n : Nat) (m : Marker) :
    Same msk s₀ (State.putMarker s n m) = Same msk s₀ s := ((State.putMarker_same0 s n m).mono hq).of_step
theorem State.checkLow_same0 (s : State) (n : Nat) : Same 68 s (State.checkLow s n) := by
  unfold State.checkLow
  (try dsimp only)
  (repeat' split) <;> simp [foldl_same]
@[simp] theorem State.checkLow_same {msk : Nat} (hq : 68 &&& msk = 68) (s₀ : State) (s : State) (n : Nat) :
    Same msk s₀ (State.checkLow s n) = Same msk s₀ s := ((State.checkLow_same0 s n).mono hq).of_step
theorem State.startZone_same0 (s : State) (n prev : Nat) : Same 96 s (State.startZone s n prev) := by
  unfold State.startZone
  (try dsimp only)
  (repeat' split) <;> simp [foldl_same]
@[simp] theorem State.startZone_same {msk : Nat} (hq : 96 &&& msk = 96) (s₀ : State) (s : State) (n prev : Nat) :
    Same msk s₀ (State.startZone s n prev) = Same msk s₀ s := ((State.startZone_same0 s n prev).mono hq).of_step
theorem State.switchZone_same0 (s : State) (n : Nat) : Same 100 s (State.switchZone s n) := by
  unfold State.switchZone
  (try dsimp only)
  (repeat' split) <;> simp [foldl_same]
@[simp] theorem State.switchZone_same {msk : Nat} (hq : 100 &&& msk = 100) (s₀ : State) (s : State) (n : Nat) :
    Same msk s₀ (State.switchZone s n) = Same msk s₀ s := ((State.switchZone_same0 s n).mono hq).of_step
theorem State.settleZone_same0 (s : State) (n : Nat) : Same 100 s (State.settleZone s n) := by
  unfold State.settleZone
  (try dsimp only)
  (repeat' split) <;> simp [foldl_same]
@[simp] theorem State.settleZone_same {msk : Nat} (hq : 100 &&& msk = 100) (s₀ : State) (s : State) (n : Nat) :
    Same msk s₀ (State.settleZone s n) = Same msk s₀ s := ((State.settleZone_same0 s n).mono hq).of_step
theorem State.faultRing_same0 (s : State) (n reason : Nat) : Same 100 s (State.faultRing s n reason) := by
  unfold State.faultRing
  (try dsimp only)
  (repeat' split) <;> simp [foldl_same]
@[simp] theorem State.faultRing_same {msk : Nat} (hq : 100 &&& msk = 100) (s₀ : State) (s : State) (n reason : Nat) :
    Same msk s₀ (State.faultRing s n reason) = Same msk s₀ s := ((State.faultRing_same0 s n reason).mono hq).of_step
theorem State.takeHeader_same0 (s : State) (n : Nat) (b : BitVec 512) : Same 100 s (State.takeHeader s n b) := by
  unfold State.takeHeader
  (try dsimp only)
  (repeat' split) <;> simp [foldl_same]
@[simp] theorem State.takeHeader_same {msk : Nat} (hq : 100 &&& msk = 100) (s₀ : State) (s : State) (n : Nat) (b : BitVec 512) :
    Same msk s₀ (State.takeHeader s n b) = Same msk s₀ s := ((State.takeHeader_same0 s n b).mono hq).of_step
theorem State.takeBlock_same0 (s : State) (n : Nat) (b : BitVec 512) : Same 100 s (State.takeBlock s n b) := by
  unfold State.takeBlock
  (try dsimp only)
  (repeat' split) <;> simp [foldl_same]
@[simp] theorem State.takeBlock_same {msk : Nat} (hq : 100 &&& msk = 100) (s₀ : State) (s : State) (n : Nat) (b : BitVec 512) :
    Same msk s₀ (State.takeBlock s n b) = Same msk s₀ s := ((State.takeBlock_same0 s n b).mono hq).of_step
theorem State.unbindZone_same0 (s : State) (e : Nat) (full byItself : Bool) : Same 932 s (State.unbindZone s e full byItself) := by
  unfold State.unbindZone
  (try dsimp only)
  (repeat' split) <;> simp [foldl_same]
@[simp] theorem State.unbindZone_same {msk : Nat} (hq : 932 &&& msk = 932) (s₀ : State) (s : State) (e : Nat) (full byItself : Bool) :
    Same msk s₀ (State.unbindZone s e full byItself) = Same msk s₀ s := ((State.unbindZone_same0 s e full byItself).mono hq).of_step
theorem State.releaseRing_same0 (s : State) (n reason : Nat) : Same 996 s (State.releaseRing s n reason) := by
  unfold State.releaseRing
  (try dsimp only)
  (repeat' split) <;> simp [foldl_same]
@[simp] theorem State.releaseRing_same {msk : Nat} (hq : 996 &&& msk = 996) (s₀ : State) (s : State) (n reason : Nat) :
    Same msk s₀ (State.releaseRing s n reason) = Same msk s₀ s := ((State.releaseRing_same0 s n reason).mono hq).of_step
theorem State.releaseNs_same0 (s : State) (nsix : Nat) : Same 996 s (State.releaseNs s nsix) := by
  unfold State.releaseNs
  (try dsimp only)
  repeat' first | (simp [foldl_same]; done) | intro _ | split | (refine Same.foldl ?_ ?_) | simp [foldl_same]
@[simp] theorem State.releaseNs_same {msk : Nat} (hq : 996 &&& msk = 996) (s₀ : State) (s : State) (nsix : Nat) :
    Same msk s₀ (State.releaseNs s nsix) = Same msk s₀ s := ((State.releaseNs_same0 s nsix).mono hq).of_step
theorem State.releaseFn_same0 (s : State) (t : Nat) : Same 996 s (State.releaseFn s t) := by
  unfold State.releaseFn
  (try dsimp only)
  repeat' first | (simp [foldl_same]; done) | intro _ | split | (refine Same.foldl ?_ ?_) | simp [foldl_same]
@[simp] theorem State.releaseFn_same {msk : Nat} (hq : 996 &&& msk = 996) (s₀ : State) (s : State) (t : Nat) :
    Same msk s₀ (State.releaseFn s t) = Same msk s₀ s := ((State.releaseFn_same0 s t).mono hq).of_step
theorem State.capZoneLost_same0 (s : State) (e : Nat) : Same 100 s (State.capZoneLost s e) := by
  unfold State.capZoneLost
  (try dsimp only)
  repeat' first | (simp [foldl_same]; done) | intro _ | split | (refine Same.foldl ?_ ?_) | simp [foldl_same]
@[simp] theorem State.capZoneLost_same {msk : Nat} (hq : 100 &&& msk = 100) (s₀ : State) (s : State) (e : Nat) :
    Same msk s₀ (State.capZoneLost s e) = Same msk s₀ s := ((State.capZoneLost_same0 s e).mono hq).of_step
theorem State.protectNs_same0 (s : State) (nsix : Nat) : Same 1098748 s (State.protectNs s nsix) := by
  unfold State.protectNs
  (try dsimp only)
  (repeat' split) <;> simp [foldl_same]
@[simp] theorem State.protectNs_same {msk : Nat} (hq : 1098748 &&& msk = 1098748) (s₀ : State) (s : State) (nsix : Nat) :
    Same msk s₀ (State.protectNs s nsix) = Same msk s₀ s := ((State.protectNs_same0 s nsix).mono hq).of_step
theorem State.bindEmpty_same0 (s : State) (nsix e tenant csn : Nat) (members : Option (List (Nat × Nat))) : Same 17920 s (State.bindEmpty s nsix e tenant csn members) := by
  unfold State.bindEmpty
  (try dsimp only)
  (repeat' split) <;> simp [foldl_same]
@[simp] theorem State.bindEmpty_same {msk : Nat} (hq : 17920 &&& msk = 17920) (s₀ : State) (s : State) (nsix e tenant csn : Nat) (members : Option (List (Nat × Nat))) :
    Same msk s₀ (State.bindEmpty s nsix e tenant csn members) = Same msk s₀ s := ((State.bindEmpty_same0 s nsix e tenant csn members).mono hq).of_step
theorem State.bindLate_same1 {s : State} {n : Ns} {nsix e : Nat} {t : State} (h : s.bindLate n nsix e = some t) :
    Same 20388 s t := by
  unfold State.bindLate at h
  (repeat' split at h) <;> (try (simp only [reduceCtorEq] at h; done)) <;> (simp only [Option.some.injEq] at h; subst h; simp)
theorem State.closeImplicit_same1 {s : State} {tenant : Nat} {t : State} (h : s.closeImplicit tenant = some t) :
    Same 932 s t := by
  unfold State.closeImplicit at h
  simp only [Option.map_eq_some_iff] at h
  obtain ⟨a, -, rfl⟩ := h
  simp
theorem State.openZone_same0 (s : State) (n : Ns) (nsix e : Nat) (z : Zone) (explicit : Bool) : Same 1101820 s ((State.openZone s n nsix e z explicit).1) := by
  unfold State.openZone
  dsimp only
  split
  · split <;> simp
  split
  · simp
  generalize hc : (if s.openOf n.owner + 1 ≤ s.fld F.ZON_TN_LIM_OPEN n.owner then some s else if explicit = true then none else s.closeImplicit n.owner) = cl
  cases cl with
  | none => simp
  | some s1 =>
    have k1 : Same 1101820 s s1 := by
      split at hc
      · cases hc; exact Same.refl _ _
      · split at hc
        · cases hc
        · exact (State.closeImplicit_same1 hc).mono (by decide)
    dsimp only
    cases hb : s1.bindLate n nsix e with
    | none => simp
    | some s2 =>
      dsimp only
      rw [State.setZone_same (by decide), Same.of_step ((State.bindLate_same1 hb).mono (by decide))]
      exact k1
@[simp] theorem State.openZone_same {msk : Nat} (hq : 1101820 &&& msk = 1101820) (s₀ : State) (s : State) (n : Ns) (nsix e : Nat) (z : Zone) (explicit : Bool) :
    Same msk s₀ ((State.openZone s n nsix e z explicit).1) = Same msk s₀ s := ((State.openZone_same0 s n nsix e z explicit).mono hq).of_step
theorem State.padZoneRange_same0 (s : State) (nsix lba nlb : Nat) : Same 1440 s (State.padZoneRange s nsix lba nlb) := by
  unfold State.padZoneRange
  (try dsimp only)
  repeat' first | (simp [foldl_same]; done) | intro _ | split | (refine Same.foldl ?_ ?_) | simp [foldl_same]
@[simp] theorem State.padZoneRange_same {msk : Nat} (hq : 1440 &&& msk = 1440) (s₀ : State) (s : State) (nsix lba nlb : Nat) :
    Same msk s₀ (State.padZoneRange s nsix lba nlb) = Same msk s₀ s := ((State.padZoneRange_same0 s nsix lba nlb).mono hq).of_step
theorem State.undoActions_same0 (s : State) (c : Cmd) : Same 512 s (State.undoActions s c) := by
  unfold State.undoActions
  (try dsimp only)
  (repeat' split) <;> simp [foldl_same]
@[simp] theorem State.undoActions_same {msk : Nat} (hq : 512 &&& msk = 512) (s₀ : State) (s : State) (c : Cmd) :
    Same msk s₀ (State.undoActions s c) = Same msk s₀ s := ((State.undoActions_same0 s c).mono hq).of_step
theorem State.abandonWrite_same0 (s : State) (c : Cmd) : Same 1952 s (State.abandonWrite s c) := by
  unfold State.abandonWrite
  (try dsimp only)
  (repeat' split) <;> simp [foldl_same]
@[simp] theorem State.abandonWrite_same {msk : Nat} (hq : 1952 &&& msk = 1952) (s₀ : State) (s : State) (c : Cmd) :
    Same msk s₀ (State.abandonWrite s c) = Same msk s₀ s := ((State.abandonWrite_same0 s c).mono hq).of_step
theorem State.failWrite_same0 (s : State) (c : Cmd) (st : Status) : Same 34748 s (State.failWrite s c st) := by
  unfold State.failWrite
  (try dsimp only)
  repeat' first | (simp [foldl_same]; done) | intro _ | split | (refine Same.foldl ?_ ?_) | simp [foldl_same]
@[simp] theorem State.failWrite_same {msk : Nat} (hq : 34748 &&& msk = 34748) (s₀ : State) (s : State) (c : Cmd) (st : Status) :
    Same msk s₀ (State.failWrite s c st) = Same msk s₀ s := ((State.failWrite_same0 s c st).mono hq).of_step
theorem State.waitZone_same0 (s : State) (c : Cmd) : Same 8 s (State.waitZone s c) := by
  unfold State.waitZone
  (try dsimp only)
  (repeat' split) <;> simp [foldl_same]
@[simp] theorem State.waitZone_same {msk : Nat} (hq : 8 &&& msk = 8) (s₀ : State) (s : State) (c : Cmd) :
    Same msk s₀ (State.waitZone s c) = Same msk s₀ s := ((State.waitZone_same0 s c).mono hq).of_step
theorem State.openZone_same1 {s : State} {n : Ns} {nsix e : Nat} {z : Zone} {explicit : Bool} {t : State} {st : Status}
    (h : s.openZone n nsix e z explicit = (t, st)) : Same 1101820 s t := by
  have k := State.openZone_same0 s n nsix e z explicit
  rw [h] at k
  exact k
theorem State.handleZoneWrite_same0 (s : State) (c : Cmd) (n : Ns) (append : Bool) : Same 1101820 s (State.handleZoneWrite s c n append) := by
  unfold State.handleZoneWrite
  dsimp only
  repeat' split
  all_goals first
    | (simp; done)
    | ((try simp); exact (State.openZone_same1 (by assumption)).mono (by decide))
@[simp] theorem State.handleZoneWrite_same {msk : Nat} (hq : 1101820 &&& msk = 1101820) (s₀ : State) (s : State) (c : Cmd) (n : Ns) (append : Bool) :
    Same msk s₀ (State.handleZoneWrite s c n append) = Same msk s₀ s := ((State.handleZoneWrite_same0 s c n append).mono hq).of_step
theorem State.handlePlacementWrite_same0 (s : State) (c : Cmd) (n : Ns) : Same 1098748 s (State.handlePlacementWrite s c n) := by
  unfold State.handlePlacementWrite
  (try dsimp only)
  repeat' first | (simp [foldl_same]; done) | intro _ | split | (refine Same.foldl ?_ ?_) | simp [foldl_same]
@[simp] theorem State.handlePlacementWrite_same {msk : Nat} (hq : 1098748 &&& msk = 1098748) (s₀ : State) (s : State) (c : Cmd) (n : Ns) :
    Same msk s₀ (State.handlePlacementWrite s c n) = Same msk s₀ s := ((State.handlePlacementWrite_same0 s c n).mono hq).of_step
theorem State.addUnit_same0 (s : State) (key : Nat) (u : DramUnit) : Same 1024 s (State.addUnit s key u) := by
  unfold State.addUnit
  (try dsimp only)
  (repeat' split) <;> simp [foldl_same]
@[simp] theorem State.addUnit_same {msk : Nat} (hq : 1024 &&& msk = 1024) (s₀ : State) (s : State) (key : Nat) (u : DramUnit) :
    Same msk s₀ (State.addUnit s key u) = Same msk s₀ s := ((State.addUnit_same0 s key u).mono hq).of_step
theorem State.addCompanions_same0 (s : State) (c : Cmd) (n : Ns) (k : Nat) (us : List (Nat × Nat × Block × Nat)) : Same 1536 s ((State.addCompanions s c n k us).1) := by
  unfold State.addCompanions
  dsimp only
  refine foldl_same_fst _ (fun a x => ?_) _ (s, _)
  simp
@[simp] theorem State.addCompanions_same {msk : Nat} (hq : 1536 &&& msk = 1536) (s₀ : State) (s : State) (c : Cmd) (n : Ns) (k : Nat) (us : List (Nat × Nat × Block × Nat)) :
    Same msk s₀ ((State.addCompanions s c n k us).1) = Same msk s₀ s := ((State.addCompanions_same0 s c n k us).mono hq).of_step
theorem State.grantCsns_same0 (s : State) (c : Cmd) (n : Ns) : Same 1960 s (State.grantCsns s c n) := by
  unfold State.grantCsns
  (try dsimp only)
  repeat' first | (simp [foldl_same]; done) | intro _ | split | (refine Same.foldl ?_ ?_) | simp [foldl_same]
@[simp] theorem State.grantCsns_same {msk : Nat} (hq : 1960 &&& msk = 1960) (s₀ : State) (s : State) (c : Cmd) (n : Ns) :
    Same msk s₀ (State.grantCsns s c n) = Same msk s₀ s := ((State.grantCsns_same0 s c n).mono hq).of_step
theorem State.supersede_same0 (s : State) (nsix lba : Nat) (below : Nat) : Same 1024 s (State.supersede s nsix lba below) := by
  unfold State.supersede
  (try dsimp only)
  (repeat' split) <;> simp [foldl_same]
@[simp] theorem State.supersede_same {msk : Nat} (hq : 1024 &&& msk = 1024) (s₀ : State) (s : State) (nsix lba : Nat) (below : Nat) :
    Same msk s₀ (State.supersede s nsix lba below) = Same msk s₀ s := ((State.supersede_same0 s nsix lba below).mono hq).of_step
theorem State.setMap_same0 (s : State) (nsix lba nlb : Nat) (v : Option Nat) : Same 1536 s (State.setMap s nsix lba nlb v) := by
  unfold State.setMap
  (try dsimp only)
  (repeat' split) <;> simp [foldl_same]
@[simp] theorem State.setMap_same {msk : Nat} (hq : 1536 &&& msk = 1536) (s₀ : State) (s : State) (nsix lba nlb : Nat) (v : Option Nat) :
    Same msk s₀ (State.setMap s nsix lba nlb v) = Same msk s₀ s := ((State.setMap_same0 s nsix lba nlb v).mono hq).of_step
theorem State.recordMap_same0 (s : State) (c : Cmd) (n : Ns) (kind csns : Nat) (ranges : List (Nat × Nat)) : Same 424 s (State.recordMap s c n kind csns ranges) := by
  unfold State.recordMap
  dsimp only
  rw [State.setCmd_same (by decide), Same.of_step (foldl_same_fst _ (fun a x => ?_) _ (s.takeCsns csns, _))] <;> simp
@[simp] theorem State.recordMap_same {msk : Nat} (hq : 424 &&& msk = 424) (s₀ : State) (s : State) (c : Cmd) (n : Ns) (kind csns : Nat) (ranges : List (Nat × Nat)) :
    Same msk s₀ (State.recordMap s c n kind csns ranges) = Same msk s₀ s := ((State.recordMap_same0 s c n kind csns ranges).mono hq).of_step
theorem State.handleAction_same0 (s : State) (c : Cmd) (n : Ns) (act e : Nat) : Same 1101820 s ((State.handleAction s c n act e).1) := by
  unfold State.handleAction
  dsimp only
  by_cases ha : act = 1
  · simp only [ha, if_true]
    repeat' split
    all_goals first
      | (simp; done)
      | ((try simp); exact (State.openZone_same1 (by assumption)).mono (by decide))
  · simp only [ha, if_false]
    repeat' split
    all_goals simp
@[simp] theorem State.handleAction_same {msk : Nat} (hq : 1101820 &&& msk = 1101820) (s₀ : State) (s : State) (c : Cmd) (n : Ns) (act e : Nat) :
    Same msk s₀ ((State.handleAction s c n act e).1) = Same msk s₀ s := ((State.handleAction_same0 s c n act e).mono hq).of_step
theorem State.recordActions_same0 (s : State) (c : Cmd) (n : Ns) : Same 16808 s (State.recordActions s c n) := by
  unfold State.recordActions
  dsimp only
  rw [State.setCmd_same (by decide)]
  refine foldl_same_fst _ (fun a x => ?_) _ (s, _)
  (repeat' split) <;> simp
@[simp] theorem State.recordActions_same {msk : Nat} (hq : 16808 &&& msk = 16808) (s₀ : State) (s : State) (c : Cmd) (n : Ns) :
    Same msk s₀ (State.recordActions s c n) = Same msk s₀ s := ((State.recordActions_same0 s c n).mono hq).of_step
theorem State.zoneAction_same0 (s : State) (c : Cmd) (n : Ns) (act : Nat) : Same 1101820 s (State.zoneAction s c n act) := by
  unfold State.zoneAction
  dsimp only
  have key : Same 1101820 s (((s.actionZones c n act).foldl (fun (a : State × Status) e =>
    match a.2 with
    | .success => a.1.handleAction c n act e
    | _ => a) (s, .success))).1 := by
    refine foldl_same_fst _ (fun a x => ?_) _ (s, _)
    split <;> simp
  repeat' split
  all_goals first | (simp; done) | ((try simp); exact key)
@[simp] theorem State.zoneAction_same {msk : Nat} (hq : 1101820 &&& msk = 1101820) (s₀ : State) (s : State) (c : Cmd) (n : Ns) (act : Nat) :
    Same msk s₀ (State.zoneAction s c n act) = Same msk s₀ s := ((State.zoneAction_same0 s c n act).mono hq).of_step
theorem State.finishRows_same0 (s : State) (e : Nat) : Same 1440 s (State.finishRows s e) := by
  unfold State.finishRows
  (try dsimp only)
  repeat' first | (simp [foldl_same]; done) | intro _ | split | (refine Same.foldl ?_ ?_) | simp [foldl_same]
@[simp] theorem State.finishRows_same {msk : Nat} (hq : 1440 &&& msk = 1440) (s₀ : State) (s : State) (e : Nat) :
    Same msk s₀ (State.finishRows s e) = Same msk s₀ s := ((State.finishRows_same0 s e).mono hq).of_step
theorem State.applyReset_same0 (s : State) (nsix : Nat) (n : Ns) (a : ZoneAct) : Same 28588 s (State.applyReset s nsix n a) := by
  unfold State.applyReset
  (try dsimp only)
  (repeat' split) <;> simp [foldl_same]
@[simp] theorem State.applyReset_same {msk : Nat} (hq : 28588 &&& msk = 28588) (s₀ : State) (s : State) (nsix : Nat) (n : Ns) (a : ZoneAct) :
    Same msk s₀ (State.applyReset s nsix n a) = Same msk s₀ s := ((State.applyReset_same0 s nsix n a).mono hq).of_step
theorem State.applyAction_same0 (s : State) (nsix : Nat) (n : Ns) (a : ZoneAct) : Same 28588 s (State.applyAction s nsix n a) := by
  unfold State.applyAction
  (try dsimp only)
  (repeat' split) <;> simp [foldl_same]
@[simp] theorem State.applyAction_same {msk : Nat} (hq : 28588 &&& msk = 28588) (s₀ : State) (s : State) (nsix : Nat) (n : Ns) (a : ZoneAct) :
    Same msk s₀ (State.applyAction s nsix n a) = Same msk s₀ s := ((State.applyAction_same0 s nsix n a).mono hq).of_step
theorem State.cutPage_same0 (s : State) (p : JPage) (rest : List JPage) : Same 256 s (State.cutPage s p rest) := by
  unfold State.cutPage
  (try dsimp only)
  (repeat' split) <;> simp [foldl_same]
@[simp] theorem State.cutPage_same {msk : Nat} (hq : 256 &&& msk = 256) (s₀ : State) (s : State) (p : JPage) (rest : List JPage) :
    Same msk s₀ (State.cutPage s p rest) = Same msk s₀ s := ((State.cutPage_same0 s p rest).mono hq).of_step
theorem State.countFree_same0 (s : State) : Same 256 s (State.countFree s) := by
  unfold State.countFree
  (try dsimp only)
  (repeat' split) <;> simp [foldl_same]
@[simp] theorem State.countFree_same {msk : Nat} (hq : 256 &&& msk = 256) (s₀ : State) (s : State) :
    Same msk s₀ (State.countFree s) = Same msk s₀ s := ((State.countFree_same0 s).mono hq).of_step
theorem State.protectAll_same0 (s : State) : Same 1098748 s (State.protectAll s) := by
  unfold State.protectAll
  (try dsimp only)
  (repeat' split) <;> simp [foldl_same]
@[simp] theorem State.protectAll_same {msk : Nat} (hq : 1098748 &&& msk = 1098748) (s₀ : State) (s : State) :
    Same msk s₀ (State.protectAll s) = Same msk s₀ s := ((State.protectAll_same0 s).mono hq).of_step
theorem State.recordOnBoth_same0 (s : State) (r : JRec) : Same 428 s (State.recordOnBoth s r) := by
  unfold State.recordOnBoth
  (try dsimp only)
  (repeat' split) <;> simp [foldl_same]
@[simp] theorem State.recordOnBoth_same {msk : Nat} (hq : 428 &&& msk = 428) (s₀ : State) (s : State) (r : JRec) :
    Same msk s₀ (State.recordOnBoth s r) = Same msk s₀ s := ((State.recordOnBoth_same0 s r).mono hq).of_step
theorem State.pageOnBoth_same0 (s : State) (seq : Nat) : Same 428 s (State.pageOnBoth s seq) := by
  unfold State.pageOnBoth
  (try dsimp only)
  (repeat' split) <;> simp [foldl_same]
@[simp] theorem State.pageOnBoth_same {msk : Nat} (hq : 428 &&& msk = 428) (s₀ : State) (s : State) (seq : Nat) :
    Same msk s₀ (State.pageOnBoth s seq) = Same msk s₀ s := ((State.pageOnBoth_same0 s seq).mono hq).of_step
theorem State.trimJournal_same0 (s : State) : Same 256 s (State.trimJournal s) := by
  unfold State.trimJournal
  (try dsimp only)
  (repeat' split) <;> simp [foldl_same]
@[simp] theorem State.trimJournal_same {msk : Nat} (hq : 256 &&& msk = 256) (s₀ : State) (s : State) :
    Same msk s₀ (State.trimJournal s) = Same msk s₀ s := ((State.trimJournal_same0 s).mono hq).of_step
theorem State.programNor_same0 (s : State) (addr : Nat) (bs : List Byte) (whole : Bool) : Same 19136512 s (State.programNor s addr bs whole) := by
  unfold State.programNor
  (try dsimp only)
  (repeat' split) <;> simp [foldl_same]
@[simp] theorem State.programNor_same {msk : Nat} (hq : 19136512 &&& msk = 19136512) (s₀ : State) (s : State) (addr : Nat) (bs : List Byte) (whole : Bool) :
    Same msk s₀ (State.programNor s addr bs whole) = Same msk s₀ s := ((State.programNor_same0 s addr bs whole).mono hq).of_step
theorem State.cutProgram_same0 (s : State) : Same 19136512 s (State.cutProgram s) := by
  unfold State.cutProgram
  (try dsimp only)
  (repeat' split) <;> simp [foldl_same]
@[simp] theorem State.cutProgram_same {msk : Nat} (hq : 19136512 &&& msk = 19136512) (s₀ : State) (s : State) :
    Same msk s₀ (State.cutProgram s) = Same msk s₀ s := ((State.cutProgram_same0 s).mono hq).of_step
theorem State.saveImage_same0 (s : State) : Same 262144 s (State.saveImage s) := by
  unfold State.saveImage
  (try dsimp only)
  (repeat' split) <;> simp [foldl_same]
@[simp] theorem State.saveImage_same {msk : Nat} (hq : 262144 &&& msk = 262144) (s₀ : State) (s : State) :
    Same msk s₀ (State.saveImage s) = Same msk s₀ s := ((State.saveImage_same0 s).mono hq).of_step
theorem State.loadImage_same0 (s : State) (base : Nat) (words : AMap Word64) : Same 2 s (State.loadImage s base words) := by
  unfold State.loadImage
  (try dsimp only)
  repeat' first | (simp [foldl_same]; done) | intro _ | split | (refine Same.foldl ?_ ?_) | simp [foldl_same]
@[simp] theorem State.loadImage_same {msk : Nat} (hq : 2 &&& msk = 2) (s₀ : State) (s : State) (base : Nat) (words : AMap Word64) :
    Same msk s₀ (State.loadImage s base words) = Same msk s₀ s := ((State.loadImage_same0 s base words).mono hq).of_step
theorem State.recap_same0 (s : State) : Same 1099708 s (State.recap s) := by
  unfold State.recap
  (try dsimp only)
  (repeat' split) <;> simp [foldl_same]
@[simp] theorem State.recap_same {msk : Nat} (hq : 1099708 &&& msk = 1099708) (s₀ : State) (s : State) :
    Same msk s₀ (State.recap s) = Same msk s₀ s := ((State.recap_same0 s).mono hq).of_step
theorem State.saveCopyPkg_same0 (s : State) : Same 2359552 s (State.saveCopyPkg s) := by
  unfold State.saveCopyPkg
  (try dsimp only)
  (repeat' split) <;> simp [foldl_same]
@[simp] theorem State.saveCopyPkg_same {msk : Nat} (hq : 2359552 &&& msk = 2359552) (s₀ : State) (s : State) :
    Same msk s₀ (State.saveCopyPkg s) = Same msk s₀ s := ((State.saveCopyPkg_same0 s).mono hq).of_step
theorem State.reestablish_same0 (s : State) (copy old new : Nat) : Same 260 s (State.reestablish s copy old new) := by
  unfold State.reestablish
  (try dsimp only)
  (repeat' split) <;> simp [foldl_same]
@[simp] theorem State.reestablish_same {msk : Nat} (hq : 260 &&& msk = 260) (s₀ : State) (s : State) (copy old new : Nat) :
    Same msk s₀ (State.reestablish s copy old new) = Same msk s₀ s := ((State.reestablish_same0 s copy old new).mono hq).of_step
theorem State.copyLost_same0 (s : State) (copy : Nat) : Same 3458046 s (State.copyLost s copy) := by
  unfold State.copyLost
  (try dsimp only)
  (repeat' split) <;> simp [foldl_same]
@[simp] theorem State.copyLost_same {msk : Nat} (hq : 3458046 &&& msk = 3458046) (s₀ : State) (s : State) (copy : Nat) :
    Same msk s₀ (State.copyLost s copy) = Same msk s₀ s := ((State.copyLost_same0 s copy).mono hq).of_step
theorem State.loseMember_same0 (s : State) (setid m : Nat) : Same 17900 s (State.loseMember s setid m) := by
  unfold State.loseMember
  (try dsimp only)
  (repeat' split) <;> simp [foldl_same]
@[simp] theorem State.loseMember_same {msk : Nat} (hq : 17900 &&& msk = 17900) (s₀ : State) (s : State) (setid m : Nat) :
    Same msk s₀ (State.loseMember s setid m) = Same msk s₀ s := ((State.loseMember_same0 s setid m).mono hq).of_step
theorem State.loseMembers_same0 (s : State) (p : Nat → Nat → Bool) : Same 17900 s (State.loseMembers s p) := by
  unfold State.loseMembers
  (try dsimp only)
  repeat' first | (simp [foldl_same]; done) | intro _ | split | (refine Same.foldl ?_ ?_) | simp [foldl_same]
@[simp] theorem State.loseMembers_same {msk : Nat} (hq : 17900 &&& msk = 17900) (s₀ : State) (s : State) (p : Nat → Nat → Bool) :
    Same msk s₀ (State.loseMembers s p) = Same msk s₀ s := ((State.loseMembers_same0 s p).mono hq).of_step
theorem State.markDieBlocks_same0 (s : State) (die : Nat) : Same 16384 s (State.markDieBlocks s die) := by
  unfold State.markDieBlocks
  (try dsimp only)
  repeat' first | (simp [foldl_same]; done) | intro _ | split | (refine Same.foldl ?_ ?_) | simp [foldl_same]
@[simp] theorem State.markDieBlocks_same {msk : Nat} (hq : 16384 &&& msk = 16384) (s₀ : State) (s : State) (die : Nat) :
    Same msk s₀ (State.markDieBlocks s die) = Same msk s₀ s := ((State.markDieBlocks_same0 s die).mono hq).of_step
theorem State.afterLoss_same0 (s : State) (die : Nat) : Same 1099836 s (State.afterLoss s die) := by
  unfold State.afterLoss
  (try dsimp only)
  (repeat' split) <;> simp [foldl_same]
@[simp] theorem State.afterLoss_same {msk : Nat} (hq : 1099836 &&& msk = 1099836) (s₀ : State) (s : State) (die : Nat) :
    Same msk s₀ (State.afterLoss s die) = Same msk s₀ s := ((State.afterLoss_same0 s die).mono hq).of_step
theorem State.packageFail_same0 (s : State) (pkg cause : Nat) : Same 3461118 s (State.packageFail s pkg cause) := by
  unfold State.packageFail
  (try dsimp only)
  (repeat' split) <;> simp [foldl_same]
@[simp] theorem State.packageFail_same {msk : Nat} (hq : 3461118 &&& msk = 3461118) (s₀ : State) (s : State) (pkg cause : Nat) :
    Same msk s₀ (State.packageFail s pkg cause) = Same msk s₀ s := ((State.packageFail_same0 s pkg cause).mono hq).of_step
theorem State.dieFail_same0 (s : State) (die cause : Nat) : Same 3461118 s (State.dieFail s die cause) := by
  unfold State.dieFail
  (try dsimp only)
  (repeat' split) <;> simp [foldl_same]
@[simp] theorem State.dieFail_same {msk : Nat} (hq : 3461118 &&& msk = 3461118) (s₀ : State) (s : State) (die cause : Nat) :
    Same msk s₀ (State.dieFail s die cause) = Same msk s₀ s := ((State.dieFail_same0 s die cause).mono hq).of_step
theorem State.retireBlock_same0 (s : State) (die block cause : Nat) : Same 3461118 s (State.retireBlock s die block cause) := by
  unfold State.retireBlock
  (try dsimp only)
  (repeat' split) <;> simp [foldl_same]
@[simp] theorem State.retireBlock_same {msk : Nat} (hq : 3461118 &&& msk = 3461118) (s₀ : State) (s : State) (die block cause : Nat) :
    Same msk s₀ (State.retireBlock s die block cause) = Same msk s₀ s := ((State.retireBlock_same0 s die block cause).mono hq).of_step
theorem State.monitor_same0 (s : State) (kind ns : Nat) : Same 2048 s (State.monitor s kind ns) := by
  unfold State.monitor
  (try dsimp only)
  (repeat' split) <;> simp [foldl_same]
@[simp] theorem State.monitor_same {msk : Nat} (hq : 2048 &&& msk = 2048) (s₀ : State) (s : State) (kind ns : Nat) :
    Same msk s₀ (State.monitor s kind ns) = Same msk s₀ s := ((State.monitor_same0 s kind ns).mono hq).of_step
theorem State.writeLmon_same0 (s : State) (v : Nat) : Same 2050 s (State.writeLmon s v) := by
  unfold State.writeLmon
  (try dsimp only)
  (repeat' split) <;> simp [foldl_same]
@[simp] theorem State.writeLmon_same {msk : Nat} (hq : 2050 &&& msk = 2050) (s₀ : State) (s : State) (v : Nat) :
    Same msk s₀ (State.writeLmon s v) = Same msk s₀ s := ((State.writeLmon_same0 s v).mono hq).of_step
theorem State.countHistory_same0 (s : State) (c : Cmd) : Same 512 s (State.countHistory s c) := by
  unfold State.countHistory
  (try dsimp only)
  (repeat' split) <;> simp [foldl_same]
@[simp] theorem State.countHistory_same {msk : Nat} (hq : 512 &&& msk = 512) (s₀ : State) (s : State) (c : Cmd) :
    Same msk s₀ (State.countHistory s c) = Same msk s₀ s := ((State.countHistory_same0 s c).mono hq).of_step
theorem State.raiseLastCsn_same0 (s : State) (n : Ns) (u : DramUnit) : Same 512 s (State.raiseLastCsn s n u) := by
  unfold State.raiseLastCsn
  (try dsimp only)
  (repeat' split) <;> simp [foldl_same]
@[simp] theorem State.raiseLastCsn_same {msk : Nat} (hq : 512 &&& msk = 512) (s₀ : State) (s : State) (n : Ns) (u : DramUnit) :
    Same msk s₀ (State.raiseLastCsn s n u) = Same msk s₀ s := ((State.raiseLastCsn_same0 s n u).mono hq).of_step
theorem State.acceptUnit_same0 (s : State) (key : Nat) : Same 1568 s (State.acceptUnit s key) := by
  unfold State.acceptUnit
  (try dsimp only)
  (repeat' split) <;> simp [foldl_same]
@[simp] theorem State.acceptUnit_same {msk : Nat} (hq : 1568 &&& msk = 1568) (s₀ : State) (s : State) (key : Nat) :
    Same msk s₀ (State.acceptUnit s key) = Same msk s₀ s := ((State.acceptUnit_same0 s key).mono hq).of_step
theorem State.raiseLast_same0 (s : State) (n : Ns) (c : Cmd) : Same 512 s (State.raiseLast s n c) := by
  unfold State.raiseLast
  (try dsimp only)
  (repeat' split) <;> simp [foldl_same]
@[simp] theorem State.raiseLast_same {msk : Nat} (hq : 512 &&& msk = 512) (s₀ : State) (s : State) (n : Ns) (c : Cmd) :
    Same msk s₀ (State.raiseLast s n c) = Same msk s₀ s := ((State.raiseLast_same0 s n c).mono hq).of_step
theorem State.acceptWrite_same0 (s : State) (c : Cmd) : Same 17952 s (State.acceptWrite s c) := by
  unfold State.acceptWrite
  (try dsimp only)
  (repeat' split) <;> simp [foldl_same]
@[simp] theorem State.acceptWrite_same {msk : Nat} (hq : 17952 &&& msk = 17952) (s₀ : State) (s : State) (c : Cmd) :
    Same msk s₀ (State.acceptWrite s c) = Same msk s₀ s := ((State.acceptWrite_same0 s c).mono hq).of_step
theorem State.creditRecord_same0 (s : State) (seq : Nat) : Same 256 s (State.creditRecord s seq) := by
  unfold State.creditRecord
  (try dsimp only)
  (repeat' split) <;> simp [foldl_same]
@[simp] theorem State.creditRecord_same {msk : Nat} (hq : 256 &&& msk = 256) (s₀ : State) (s : State) (seq : Nat) :
    Same msk s₀ (State.creditRecord s seq) = Same msk s₀ s := ((State.creditRecord_same0 s seq).mono hq).of_step
theorem State.creditWrite_same0 (s : State) (r : CmdRef) (credit : Bool) : Same 17960 s (State.creditWrite s r credit) := by
  unfold State.creditWrite
  (try dsimp only)
  (repeat' split) <;> simp [foldl_same]
@[simp] theorem State.creditWrite_same {msk : Nat} (hq : 17960 &&& msk = 17960) (s₀ : State) (s : State) (r : CmdRef) (credit : Bool) :
    Same msk s₀ (State.creditWrite s r credit) = Same msk s₀ s := ((State.creditWrite_same0 s r credit).mono hq).of_step
theorem State.creditCapture_same0 (s : State) (ring : Nat) (credit : Bool) : Same 1024 s (State.creditCapture s ring credit) := by
  unfold State.creditCapture
  (try dsimp only)
  (repeat' split) <;> simp [foldl_same]
@[simp] theorem State.creditCapture_same {msk : Nat} (hq : 1024 &&& msk = 1024) (s₀ : State) (s : State) (ring : Nat) (credit : Bool) :
    Same msk s₀ (State.creditCapture s ring credit) = Same msk s₀ s := ((State.creditCapture_same0 s ring credit).mono hq).of_step
theorem State.applyMapChange_same0 (s : State) (c : Cmd) : Same 1536 s (State.applyMapChange s c) := by
  unfold State.applyMapChange
  (try dsimp only)
  (repeat' split) <;> simp [foldl_same]
@[simp] theorem State.applyMapChange_same {msk : Nat} (hq : 1536 &&& msk = 1536) (s₀ : State) (s : State) (c : Cmd) :
    Same msk s₀ (State.applyMapChange s c) = Same msk s₀ s := ((State.applyMapChange_same0 s c).mono hq).of_step
theorem State.finishWrite_same0 (s : State) (c : Cmd) : Same 52796 s (State.finishWrite s c) := by
  unfold State.finishWrite
  (try dsimp only)
  repeat' first | (simp [foldl_same]; done) | intro _ | split | (refine Same.foldl ?_ ?_) | simp [foldl_same]
@[simp] theorem State.finishWrite_same {msk : Nat} (hq : 52796 &&& msk = 52796) (s₀ : State) (s : State) (c : Cmd) :
    Same msk s₀ (State.finishWrite s c) = Same msk s₀ s := ((State.finishWrite_same0 s c).mono hq).of_step
theorem State.ewOnce_same0 (s : State) (code : Nat) (ds : Option Nat) (value threshold : Nat) : Same 1097788 s (State.ewOnce s code ds value threshold) := by
  unfold State.ewOnce
  (try dsimp only)
  (repeat' split) <;> simp [foldl_same]
@[simp] theorem State.ewOnce_same {msk : Nat} (hq : 1097788 &&& msk = 1097788) (s₀ : State) (s : State) (code : Nat) (ds : Option Nat) (value threshold : Nat) :
    Same msk s₀ (State.ewOnce s code ds value threshold) = Same msk s₀ s := ((State.ewOnce_same0 s code ds value threshold).mono hq).of_step
theorem State.deferLost_same0 (s : State) (nsix lba tag index : Nat) : Same 2146876 s (State.deferLost s nsix lba tag index) := by
  unfold State.deferLost
  (try dsimp only)
  (repeat' split) <;> simp [foldl_same]
@[simp] theorem State.deferLost_same {msk : Nat} (hq : 2146876 &&& msk = 2146876) (s₀ : State) (s : State) (nsix lba tag index : Nat) :
    Same msk s₀ (State.deferLost s nsix lba tag index) = Same msk s₀ s := ((State.deferLost_same0 s nsix lba tag index).mono hq).of_step
theorem State.rowLost_same0 (s : State) (setid row cause members : Nat) : Same 3196476 s (State.rowLost s setid row cause members) := by
  unfold State.rowLost
  (try dsimp only)
  repeat' first | (simp [foldl_same]; done) | intro _ | split | (refine Same.foldl ?_ ?_) | simp [foldl_same]
@[simp] theorem State.rowLost_same {msk : Nat} (hq : 3196476 &&& msk = 3196476) (s₀ : State) (s : State) (setid row cause members : Nat) :
    Same msk s₀ (State.rowLost s setid row cause members) = Same msk s₀ s := ((State.rowLost_same0 s setid row cause members).mono hq).of_step
theorem State.leaveRing_same0 (s : State) (e : Nat) (ring : Option Nat) : Same 100 s (State.leaveRing s e ring) := by
  unfold State.leaveRing
  (try dsimp only)
  (repeat' split) <;> simp [foldl_same]
@[simp] theorem State.leaveRing_same {msk : Nat} (hq : 100 &&& msk = 100) (s₀ : State) (s : State) (e : Nat) (ring : Option Nat) :
    Same msk s₀ (State.leaveRing s e ring) = Same msk s₀ s := ((State.leaveRing_same0 s e ring).mono hq).of_step
theorem State.zoneToReadOnly_same0 (s : State) (e : Nat) : Same 33788 s (State.zoneToReadOnly s e) := by
  unfold State.zoneToReadOnly
  (try dsimp only)
  (repeat' split) <;> simp [foldl_same]
@[simp] theorem State.zoneToReadOnly_same {msk : Nat} (hq : 33788 &&& msk = 33788) (s₀ : State) (s : State) (e : Nat) :
    Same msk s₀ (State.zoneToReadOnly s e) = Same msk s₀ s := ((State.zoneToReadOnly_same0 s e).mono hq).of_step
theorem State.blockMember_same0 (s : State) (setid m tenant : Nat) : Same 1098812 s (State.blockMember s setid m tenant) := by
  unfold State.blockMember
  (try dsimp only)
  (repeat' split) <;> simp [foldl_same]
@[simp] theorem State.blockMember_same {msk : Nat} (hq : 1098812 &&& msk = 1098812) (s₀ : State) (s : State) (setid m tenant : Nat) :
    Same msk s₀ (State.blockMember s setid m tenant) = Same msk s₀ s := ((State.blockMember_same0 s setid m tenant).mono hq).of_step
theorem State.stopZone_same0 (s : State) (setid : Nat) : Same 33788 s (State.stopZone s setid) := by
  unfold State.stopZone
  (try dsimp only)
  (repeat' split) <;> simp [foldl_same]
@[simp] theorem State.stopZone_same {msk : Nat} (hq : 33788 &&& msk = 33788) (s₀ : State) (s : State) (setid : Nat) :
    Same msk s₀ (State.stopZone s setid) = Same msk s₀ s := ((State.stopZone_same0 s setid).mono hq).of_step
theorem State.stopSuper_same0 (s : State) (setid : Nat) : Same 18336 s (State.stopSuper s setid) := by
  unfold State.stopSuper
  dsimp only
  rw [same_withMed (by decide)]
  have k : ∀ l : List Nat, Same 18336 s (l.foldl (fun s row => if (s.row setid row).parity then s else s.earlyClose setid row) s) :=
    fun l => Same.foldl (fun s x => by split <;> simp) (Same.refl _ _)
  split <;> (rw [same_withZon (by decide)]; exact k _)
@[simp] theorem State.stopSuper_same {msk : Nat} (hq : 18336 &&& msk = 18336) (s₀ : State) (s : State) (setid : Nat) :
    Same msk s₀ (State.stopSuper s setid) = Same msk s₀ s := ((State.stopSuper_same0 s setid).mono hq).of_step
theorem State.noReplacement_same0 (s : State) (setid m : Nat) : Same 1099772 s (State.noReplacement s setid m) := by
  unfold State.noReplacement
  (try dsimp only)
  repeat' first | (simp [foldl_same]; done) | intro _ | split | (refine Same.foldl ?_ ?_) | simp [foldl_same]
@[simp] theorem State.noReplacement_same {msk : Nat} (hq : 1099772 &&& msk = 1099772) (s₀ : State) (s : State) (setid m : Nat) :
    Same msk s₀ (State.noReplacement s setid m) = Same msk s₀ s := ((State.noReplacement_same0 s setid m).mono hq).of_step
theorem State.writeGroups_same0 (s : State) (setid : Nat) (r : SetRec) (m die block n : Nat) (content : State → Nat → Info × Bool × Bool) : Same 17408 s (State.writeGroups s setid r m die block n content) := by
  unfold State.writeGroups
  (try dsimp only)
  repeat' first | (simp [foldl_same]; done) | intro _ | split | (refine Same.foldl ?_ ?_) | simp [foldl_same]
@[simp] theorem State.writeGroups_same {msk : Nat} (hq : 17408 &&& msk = 17408) (s₀ : State) (s : State) (setid : Nat) (r : SetRec) (m die block n : Nat) (content : State → Nat → Info × Bool × Bool) :
    Same msk s₀ (State.writeGroups s setid r m die block n content) = Same msk s₀ s := ((State.writeGroups_same0 s setid r m die block n content).mono hq).of_step
theorem State.releaseOld_same0 (s : State) (die block : Nat) : Same 24992 s (State.releaseOld s die block) := by
  unfold State.releaseOld
  (try dsimp only)
  (repeat' split) <;> simp [foldl_same]
@[simp] theorem State.releaseOld_same {msk : Nat} (hq : 24992 &&& msk = 24992) (s₀ : State) (s : State) (die block : Nat) :
    Same msk s₀ (State.releaseOld s die block) = Same msk s₀ s := ((State.releaseOld_same0 s die block).mono hq).of_step
theorem State.adopt_same0 (s : State) (setid : Nat) (r : SetRec) (m die block : Nat) : Same 1109436 s (State.adopt s setid r m die block) := by
  unfold State.adopt
  (try dsimp only)
  (repeat' split) <;> simp [foldl_same]
@[simp] theorem State.adopt_same {msk : Nat} (hq : 1109436 &&& msk = 1109436) (s₀ : State) (s : State) (setid : Nat) (r : SetRec) (m die block : Nat) :
    Same msk s₀ (State.adopt s setid r m die block) = Same msk s₀ s := ((State.adopt_same0 s setid r m die block).mono hq).of_step
theorem State.clearGroups_same0 (s : State) (setid m : Nat) : Same 1024 s (State.clearGroups s setid m) := by
  unfold State.clearGroups
  (try dsimp only)
  (repeat' split) <;> simp [foldl_same]
@[simp] theorem State.clearGroups_same {msk : Nat} (hq : 1024 &&& msk = 1024) (s₀ : State) (s : State) (setid m : Nat) :
    Same msk s₀ (State.clearGroups s setid m) = Same msk s₀ s := ((State.clearGroups_same0 s setid m).mono hq).of_step
theorem State.loseRows_same0 (s : State) (setid : Nat) (r : SetRec) (m n cause : Nat) : Same 3196476 s (State.loseRows s setid r m n cause) := by
  unfold State.loseRows
  (try dsimp only)
  repeat' first | (simp [foldl_same]; done) | intro _ | split | (refine Same.foldl ?_ ?_) | simp [foldl_same]
@[simp] theorem State.loseRows_same {msk : Nat} (hq : 3196476 &&& msk = 3196476) (s₀ : State) (s : State) (setid : Nat) (r : SetRec) (m n cause : Nat) :
    Same msk s₀ (State.loseRows s setid r m n cause) = Same msk s₀ s := ((State.loseRows_same0 s setid r m n cause).mono hq).of_step
theorem State.replaceMember_same0 (s : State) (setid m : Nat) : Same 3207164 s (State.replaceMember s setid m) := by
  unfold State.replaceMember
  (try dsimp only)
  (repeat' split) <;> simp [foldl_same]
@[simp] theorem State.replaceMember_same {msk : Nat} (hq : 3207164 &&& msk = 3207164) (s₀ : State) (s : State) (setid m : Nat) :
    Same msk s₀ (State.replaceMember s setid m) = Same msk s₀ s := ((State.replaceMember_same0 s setid m).mono hq).of_step
theorem State.startRebuild_same0 (s : State) : Same 1099772 s (State.startRebuild s) := by
  unfold State.startRebuild
  (try dsimp only)
  (repeat' split) <;> simp [foldl_same]
@[simp] theorem State.startRebuild_same {msk : Nat} (hq : 1099772 &&& msk = 1099772) (s₀ : State) (s : State) :
    Same msk s₀ (State.startRebuild s) = Same msk s₀ s := ((State.startRebuild_same0 s).mono hq).of_step
theorem State.chargeRebuild_same0 (s : State) (b : Rebuild) (r : SetRec) : Same 2099200 s (State.chargeRebuild s b r) := by
  unfold State.chargeRebuild
  (try dsimp only)
  (repeat' split) <;> simp [foldl_same]
@[simp] theorem State.chargeRebuild_same {msk : Nat} (hq : 2099200 &&& msk = 2099200) (s₀ : State) (s : State) (b : Rebuild) (r : SetRec) :
    Same msk s₀ (State.chargeRebuild s b r) = Same msk s₀ s := ((State.chargeRebuild_same0 s b r).mono hq).of_step
theorem State.rebuildNext_same0 (s : State) (b : Rebuild) (r : SetRec) : Same 3198524 s (State.rebuildNext s b r) := by
  unfold State.rebuildNext
  (try dsimp only)
  (repeat' split) <;> simp [foldl_same]
@[simp] theorem State.rebuildNext_same {msk : Nat} (hq : 3198524 &&& msk = 3198524) (s₀ : State) (s : State) (b : Rebuild) (r : SetRec) :
    Same msk s₀ (State.rebuildNext s b r) = Same msk s₀ s := ((State.rebuildNext_same0 s b r).mono hq).of_step
theorem State.endRebuild_same0 (s : State) (b : Rebuild) (r : SetRec) : Same 1109436 s (State.endRebuild s b r) := by
  unfold State.endRebuild
  (try dsimp only)
  repeat' first | (simp [foldl_same]; done) | intro _ | split | (refine Same.foldl ?_ ?_) | simp [foldl_same]
@[simp] theorem State.endRebuild_same {msk : Nat} (hq : 1109436 &&& msk = 1109436) (s₀ : State) (s : State) (b : Rebuild) (r : SetRec) :
    Same msk s₀ (State.endRebuild s b r) = Same msk s₀ s := ((State.endRebuild_same0 s b r).mono hq).of_step
theorem State.resendInhibited_same0 (s : State) (link : Nat) : Same 3072 s (State.resendInhibited s link) := by
  unfold State.resendInhibited
  (try dsimp only)
  repeat' first | (simp [foldl_same]; done) | intro _ | split | (refine Same.foldl ?_ ?_) | simp [foldl_same]
@[simp] theorem State.resendInhibited_same {msk : Nat} (hq : 3072 &&& msk = 3072) (s₀ : State) (s : State) (link : Nat) :
    Same msk s₀ (State.resendInhibited s link) = Same msk s₀ s := ((State.resendInhibited_same0 s link).mono hq).of_step
theorem State.linkCount_same0 (s : State) (n i k : Nat) : Same 4096 s (State.linkCount s n i k) := by
  unfold State.linkCount
  (try dsimp only)
  (repeat' split) <;> simp [foldl_same]
@[simp] theorem State.linkCount_same {msk : Nat} (hq : 4096 &&& msk = 4096) (s₀ : State) (s : State) (n i k : Nat) :
    Same msk s₀ (State.linkCount s n i k) = Same msk s₀ s := ((State.linkCount_same0 s n i k).mono hq).of_step
theorem State.countDdk_same0 (s : State) (n i k : Nat) : Same 8192 s (State.countDdk s n i k) := by
  unfold State.countDdk
  (try dsimp only)
  (repeat' split) <;> simp [foldl_same]
@[simp] theorem State.countDdk_same {msk : Nat} (hq : 8192 &&& msk = 8192) (s₀ : State) (s : State) (n i k : Nat) :
    Same msk s₀ (State.countDdk s n i k) = Same msk s₀ s := ((State.countDdk_same0 s n i k).mono hq).of_step
theorem State.putBand_same0 (s : State) (key : Nat) (b : Band) : Same 8192 s (State.putBand s key b) := by
  unfold State.putBand
  (try dsimp only)
  (repeat' split) <;> simp [foldl_same]
@[simp] theorem State.putBand_same {msk : Nat} (hq : 8192 &&& msk = 8192) (s₀ : State) (s : State) (key : Nat) (b : Band) :
    Same msk s₀ (State.putBand s key b) = Same msk s₀ s := ((State.putBand_same0 s key b).mono hq).of_step
theorem State.setRecal_same0 (s : State) (key : Nat) : Same 8192 s (State.setRecal s key) := by
  unfold State.setRecal
  (try dsimp only)
  (repeat' split) <;> simp [foldl_same]
@[simp] theorem State.setRecal_same {msk : Nat} (hq : 8192 &&& msk = 8192) (s₀ : State) (s : State) (key : Nat) :
    Same msk s₀ (State.setRecal s key) = Same msk s₀ s := ((State.setRecal_same0 s key).mono hq).of_step
theorem State.touchBand_same0 (s : State) (die w k r : Nat) : Same 8192 s (State.touchBand s die w k r) := by
  unfold State.touchBand
  (try dsimp only)
  (repeat' split) <;> simp [foldl_same]
@[simp] theorem State.touchBand_same {msk : Nat} (hq : 8192 &&& msk = 8192) (s₀ : State) (s : State) (die w k r : Nat) :
    Same msk s₀ (State.touchBand s die w k r) = Same msk s₀ s := ((State.touchBand_same0 s die w k r).mono hq).of_step
theorem State.checkBand_same0 (s : State) (key : Nat) : Same 73732 s (State.checkBand s key) := by
  unfold State.checkBand
  (try dsimp only)
  (repeat' split) <;> simp [foldl_same]
@[simp] theorem State.checkBand_same {msk : Nat} (hq : 73732 &&& msk = 73732) (s₀ : State) (s : State) (key : Nat) :
    Same msk s₀ (State.checkBand s key) = Same msk s₀ s := ((State.checkBand_same0 s key).mono hq).of_step
theorem State.checkDesc_same0 (s : State) (die : Nat) : Same 8196 s (State.checkDesc s die) := by
  unfold State.checkDesc
  (try dsimp only)
  (repeat' split) <;> simp [foldl_same]
@[simp] theorem State.checkDesc_same {msk : Nat} (hq : 8196 &&& msk = 8196) (s₀ : State) (s : State) (die : Nat) :
    Same msk s₀ (State.checkDesc s die) = Same msk s₀ s := ((State.checkDesc_same0 s die).mono hq).of_step
theorem State.setRefSlot_same0 (s : State) (die i : Nat) (f : RefSlot → RefSlot) : Same 8192 s (State.setRefSlot s die i f) := by
  unfold State.setRefSlot
  (try dsimp only)
  (repeat' split) <;> simp [foldl_same]
@[simp] theorem State.setRefSlot_same {msk : Nat} (hq : 8192 &&& msk = 8192) (s₀ : State) (s : State) (die i : Nat) (f : RefSlot → RefSlot) :
    Same msk s₀ (State.setRefSlot s die i f) = Same msk s₀ s := ((State.setRefSlot_same0 s die i f).mono hq).of_step
theorem State.takeSlot_same0 (s : State) (die i : Nat) : Same 8192 s (State.takeSlot s die i) := by
  unfold State.takeSlot
  (try dsimp only)
  (repeat' split) <;> simp [foldl_same]
@[simp] theorem State.takeSlot_same {msk : Nat} (hq : 8192 &&& msk = 8192) (s₀ : State) (s : State) (die i : Nat) :
    Same msk s₀ (State.takeSlot s die i) = Same msk s₀ s := ((State.takeSlot_same0 s die i).mono hq).of_step
theorem State.leaveSlot_same0 (s : State) (die : Nat) (i : Option Nat) : Same 8192 s (State.leaveSlot s die i) := by
  unfold State.leaveSlot
  (try dsimp only)
  (repeat' split) <;> simp [foldl_same]
@[simp] theorem State.leaveSlot_same {msk : Nat} (hq : 8192 &&& msk = 8192) (s₀ : State) (s : State) (die : Nat) (i : Option Nat) :
    Same msk s₀ (State.leaveSlot s die i) = Same msk s₀ s := ((State.leaveSlot_same0 s die i).mono hq).of_step
theorem State.setRead_same0 (s : State) (rid : Nat) (f : UnitRead → UnitRead) : Same 8192 s (State.setRead s rid f) := by
  unfold State.setRead
  (try dsimp only)
  (repeat' split) <;> simp [foldl_same]
@[simp] theorem State.setRead_same {msk : Nat} (hq : 8192 &&& msk = 8192) (s₀ : State) (s : State) (rid : Nat) (f : UnitRead → UnitRead) :
    Same msk s₀ (State.setRead s rid f) = Same msk s₀ s := ((State.setRead_same0 s rid f).mono hq).of_step
theorem State.dropRead_same0 (s : State) (rid : Nat) : Same 8192 s (State.dropRead s rid) := by
  unfold State.dropRead
  (try dsimp only)
  (repeat' split) <;> simp [foldl_same]
@[simp] theorem State.dropRead_same {msk : Nat} (hq : 8192 &&& msk = 8192) (s₀ : State) (s : State) (rid : Nat) :
    Same msk s₀ (State.dropRead s rid) = Same msk s₀ s := ((State.dropRead_same0 s rid).mono hq).of_step
theorem State.sendUnder_same0 (s : State) (n tag reissues : Nat) (die : Nat) (req : DieReq) : Same 4096 s (State.sendUnder s n tag reissues die req) := by
  unfold State.sendUnder
  (try dsimp only)
  (repeat' split) <;> simp [foldl_same]
@[simp] theorem State.sendUnder_same {msk : Nat} (hq : 4096 &&& msk = 4096) (s₀ : State) (s : State) (n tag reissues : Nat) (die : Nat) (req : DieReq) :
    Same msk s₀ (State.sendUnder s n tag reissues die req) = Same msk s₀ s := ((State.sendUnder_same0 s n tag reissues die req).mono hq).of_step
theorem State.sendReq_same0 (s : State) (die : Nat) (req : DieReq) : Same 4096 s (State.sendReq s die req) := by
  unfold State.sendReq
  (try dsimp only)
  (repeat' split) <;> simp [foldl_same]
@[simp] theorem State.sendReq_same {msk : Nat} (hq : 4096 &&& msk = 4096) (s₀ : State) (s : State) (die : Nat) (req : DieReq) :
    Same msk s₀ (State.sendReq s die req) = Same msk s₀ s := ((State.sendReq_same0 s die req).mono hq).of_step
theorem State.control_same0 (s : State) (die : Nat) (k : ReqKind) : Same 4096 s (State.control s die k) := by
  unfold State.control
  (try dsimp only)
  (repeat' split) <;> simp [foldl_same]
@[simp] theorem State.control_same {msk : Nat} (hq : 4096 &&& msk = 4096) (s₀ : State) (s : State) (die : Nat) (k : ReqKind) :
    Same msk s₀ (State.control s die k) = Same msk s₀ s := ((State.control_same0 s die k).mono hq).of_step
theorem State.freeTag_same0 (s : State) (n tag : Nat) : Same 4096 s (State.freeTag s n tag) := by
  unfold State.freeTag
  (try dsimp only)
  (repeat' split) <;> simp [foldl_same]
@[simp] theorem State.freeTag_same {msk : Nat} (hq : 4096 &&& msk = 4096) (s₀ : State) (s : State) (n tag : Nat) :
    Same msk s₀ (State.freeTag s n tag) = Same msk s₀ s := ((State.freeTag_same0 s n tag).mono hq).of_step
theorem State.setLane_same0 (s : State) (n k : Nat) (f : Lane → Lane) : Same 4096 s (State.setLane s n k f) := by
  unfold State.setLane
  (try dsimp only)
  (repeat' split) <;> simp [foldl_same]
@[simp] theorem State.setLane_same {msk : Nat} (hq : 4096 &&& msk = 4096) (s₀ : State) (s : State) (n k : Nat) (f : Lane → Lane) :
    Same msk s₀ (State.setLane s n k f) = Same msk s₀ s := ((State.setLane_same0 s n k f).mono hq).of_step
theorem State.sendTrain_same0 (s : State) (n phase : Nat) : Same 4096 s (State.sendTrain s n phase) := by
  unfold State.sendTrain
  (try dsimp only)
  (repeat' split) <;> simp [foldl_same]
@[simp] theorem State.sendTrain_same {msk : Nat} (hq : 4096 &&& msk = 4096) (s₀ : State) (s : State) (n phase : Nat) :
    Same msk s₀ (State.sendTrain s n phase) = Same msk s₀ s := ((State.sendTrain_same0 s n phase).mono hq).of_step
theorem State.writeBridge_same0 (s : State) (n : Nat) : Same 4096 s (State.writeBridge s n) := by
  unfold State.writeBridge
  (try dsimp only)
  (repeat' split) <;> simp [foldl_same]
@[simp] theorem State.writeBridge_same {msk : Nat} (hq : 4096 &&& msk = 4096) (s₀ : State) (s : State) (n : Nat) :
    Same msk s₀ (State.writeBridge s n) = Same msk s₀ s := ((State.writeBridge_same0 s n).mono hq).of_step
theorem State.configureBridge_same0 (s : State) (n : Nat) : Same 4096 s (State.configureBridge s n) := by
  unfold State.configureBridge
  (try dsimp only)
  (repeat' split) <;> simp [foldl_same]
@[simp] theorem State.configureBridge_same {msk : Nat} (hq : 4096 &&& msk = 4096) (s₀ : State) (s : State) (n : Nat) :
    Same msk s₀ (State.configureBridge s n) = Same msk s₀ s := ((State.configureBridge_same0 s n).mono hq).of_step
theorem State.startPhase_same0 (s : State) (n k phase : Nat) : Same 4096 s (State.startPhase s n k phase) := by
  unfold State.startPhase
  (try dsimp only)
  (repeat' split) <;> simp [foldl_same]
@[simp] theorem State.startPhase_same {msk : Nat} (hq : 4096 &&& msk = 4096) (s₀ : State) (s : State) (n k phase : Nat) :
    Same msk s₀ (State.startPhase s n k phase) = Same msk s₀ s := ((State.startPhase_same0 s n k phase).mono hq).of_step
theorem State.settleLink_same0 (s : State) (n : Nat) : Same 4096 s (State.settleLink s n) := by
  unfold State.settleLink
  (try dsimp only)
  (repeat' split) <;> simp [foldl_same]
@[simp] theorem State.settleLink_same {msk : Nat} (hq : 4096 &&& msk = 4096) (s₀ : State) (s : State) (n : Nat) :
    Same msk s₀ (State.settleLink s n) = Same msk s₀ s := ((State.settleLink_same0 s n).mono hq).of_step
theorem State.trainLane_same0 (s : State) (n k phase trigger : Nat) : Same 4096 s (State.trainLane s n k phase trigger) := by
  unfold State.trainLane
  (try dsimp only)
  (repeat' split) <;> simp [foldl_same]
@[simp] theorem State.trainLane_same {msk : Nat} (hq : 4096 &&& msk = 4096) (s₀ : State) (s : State) (n k phase trigger : Nat) :
    Same msk s₀ (State.trainLane s n k phase trigger) = Same msk s₀ s := ((State.trainLane_same0 s n k phase trigger).mono hq).of_step
theorem State.trainLink_same0 (s : State) (n phase trigger : Nat) : Same 4096 s (State.trainLink s n phase trigger) := by
  unfold State.trainLink
  (try dsimp only)
  (repeat' split) <;> simp [foldl_same]
@[simp] theorem State.trainLink_same {msk : Nat} (hq : 4096 &&& msk = 4096) (s₀ : State) (s : State) (n phase trigger : Nat) :
    Same msk s₀ (State.trainLink s n phase trigger) = Same msk s₀ s := ((State.trainLink_same0 s n phase trigger).mono hq).of_step
theorem State.queueRead_same0 (s : State) (die : Nat) (q : DieReq) : Same 2048 s (State.queueRead s die q) := by
  unfold State.queueRead
  (try dsimp only)
  repeat' first | (simp [foldl_same]; done) | intro _ | split | (refine Same.foldl ?_ ?_) | simp [foldl_same]
@[simp] theorem State.queueRead_same {msk : Nat} (hq : 2048 &&& msk = 2048) (s₀ : State) (s : State) (die : Nat) (q : DieReq) :
    Same msk s₀ (State.queueRead s die q) = Same msk s₀ s := ((State.queueRead_same0 s die q).mono hq).of_step
theorem State.unqueue_same0 (s : State) (die rid : Nat) : Same 2048 s (State.unqueue s die rid) := by
  unfold State.unqueue
  (try dsimp only)
  (repeat' split) <;> simp [foldl_same]
@[simp] theorem State.unqueue_same {msk : Nat} (hq : 2048 &&& msk = 2048) (s₀ : State) (s : State) (die rid : Nat) :
    Same msk s₀ (State.unqueue s die rid) = Same msk s₀ s := ((State.unqueue_same0 s die rid).mono hq).of_step
theorem State.sendSuspend_same0 (s : State) (die : Nat) : Same 6144 s (State.sendSuspend s die) := by
  unfold State.sendSuspend
  (try dsimp only)
  (repeat' split) <;> simp [foldl_same]
@[simp] theorem State.sendSuspend_same {msk : Nat} (hq : 6144 &&& msk = 6144) (s₀ : State) (s : State) (die : Nat) :
    Same msk s₀ (State.sendSuspend s die) = Same msk s₀ s := ((State.sendSuspend_same0 s die).mono hq).of_step
theorem State.newRead_same0 (s : State) (u : UnitRead) : Same 8192 s ((State.newRead s u).1) := by
  unfold State.newRead
  (try dsimp only)
  (repeat' split) <;> simp [foldl_same]
@[simp] theorem State.newRead_same {msk : Nat} (hq : 8192 &&& msk = 8192) (s₀ : State) (s : State) (u : UnitRead) :
    Same msk s₀ ((State.newRead s u).1) = Same msk s₀ s := ((State.newRead_same0 s u).mono hq).of_step
theorem State.arriveWith_same1 (s : State) (rid : Nat) (soft : Bool) (recon : State → Nat → List Nat → State) {k : Nat}
    (h : ∀ s r p, Same k s (recon s r p)) (hk : 14336 &&& k = 14336) : Same k s (s.arriveWith rid soft recon) := by
  unfold State.arriveWith
  dsimp only
  have m1 : ∀ t : State, Same 14336 s t → Same k s t := fun t h => h.mono hk
  split
  · exact m1 _ (by simp)
  · split
    · exact m1 _ (by simp)
    · split
      · exact m1 _ (by simp)
      · exact m1 _ (by simp)
      · rw [Same.of_step (h _ _ _)]; exact m1 _ (by simp)
theorem State.arriveMember_same0 (s : State) (rid : Nat) (soft : Bool) : Same 14336 s (State.arriveMember s rid soft) := by
  exact State.arriveWith_same1 _ _ _ _ (fun s _ _ => Same.refl _ _) (by decide)
@[simp] theorem State.arriveMember_same {msk : Nat} (hq : 14336 &&& msk = 14336) (s₀ : State) (s : State) (rid : Nat) (soft : Bool) :
    Same msk s₀ (State.arriveMember s rid soft) = Same msk s₀ s := ((State.arriveMember_same0 s rid soft).mono hq).of_step
theorem State.readForRecon_same0 (s : State) (id : Nat) (c : Recon) (r : SetRec) (k : Nat) (final : Bool) : Same 14336 s (State.readForRecon s id c r k final) := by
  unfold State.readForRecon
  (try dsimp only)
  repeat' first | (simp [foldl_same]; done) | intro _ | split | (refine Same.foldl ?_ ?_) | simp [foldl_same]
@[simp] theorem State.readForRecon_same {msk : Nat} (hq : 14336 &&& msk = 14336) (s₀ : State) (s : State) (id : Nat) (c : Recon) (r : SetRec) (k : Nat) (final : Bool) :
    Same msk s₀ (State.readForRecon s id c r k final) = Same msk s₀ s := ((State.readForRecon_same0 s id c r k final).mono hq).of_step
theorem State.startRecon_same0 (s : State) (rid : Nat) (picks : List Nat) : Same 15360 s (State.startRecon s rid picks) := by
  unfold State.startRecon
  (try dsimp only)
  (repeat' split) <;> simp [foldl_same]
@[simp] theorem State.startRecon_same {msk : Nat} (hq : 15360 &&& msk = 15360) (s₀ : State) (s : State) (rid : Nat) (picks : List Nat) :
    Same msk s₀ (State.startRecon s rid picks) = Same msk s₀ s := ((State.startRecon_same0 s rid picks).mono hq).of_step
theorem State.arrive_same0 (s : State) (rid : Nat) : Same 15360 s (State.arrive s rid) := by
  unfold State.arrive
  split
  · exact Same.refl _ _
  · exact State.arriveWith_same1 _ _ _ _ (fun s r p => (State.startRecon_same0 s r p).mono (by decide)) (by decide)
@[simp] theorem State.arrive_same {msk : Nat} (hq : 15360 &&& msk = 15360) (s₀ : State) (s : State) (rid : Nat) :
    Same msk s₀ (State.arrive s rid) = Same msk s₀ s := ((State.arrive_same0 s rid).mono hq).of_step
theorem State.giveUnit_same0 (s : State) (r : CmdRef) (k : Nat) (out : RdOut) : Same 8 s (State.giveUnit s r k out) := by
  unfold State.giveUnit
  exact State.setCmd_same0 _ _ _
@[simp] theorem State.giveUnit_same {msk : Nat} (hq : 8 &&& msk = 8) (s₀ : State) (s : State) (r : CmdRef) (k : Nat) (out : RdOut) :
    Same msk s₀ (State.giveUnit s r k out) = Same msk s₀ s := ((State.giveUnit_same0 s r k out).mono hq).of_step
theorem State.finalReads_same0 (s : State) (id : Nat) : Same 15360 s (State.finalReads s id) := by
  unfold State.finalReads
  (try dsimp only)
  (repeat' split) <;> simp [foldl_same]
@[simp] theorem State.finalReads_same {msk : Nat} (hq : 15360 &&& msk = 15360) (s₀ : State) (s : State) (id : Nat) :
    Same msk s₀ (State.finalReads s id) = Same msk s₀ s := ((State.finalReads_same0 s id).mono hq).of_step
theorem State.memberDone_same0 (s : State) (id k : Nat) (ok : Bool) : Same 15360 s (State.memberDone s id k ok) := by
  unfold State.memberDone
  (try dsimp only)
  (repeat' split) <;> simp [foldl_same]
@[simp] theorem State.memberDone_same {msk : Nat} (hq : 15360 &&& msk = 15360) (s₀ : State) (s : State) (id k : Nat) (ok : Bool) :
    Same msk s₀ (State.memberDone s id k ok) = Same msk s₀ s := ((State.memberDone_same0 s id k ok).mono hq).of_step
theorem State.toRecon_same0 (s : State) (rid : Nat) (u : UnitRead) : Same 15360 s (State.toRecon s rid u) := by
  unfold State.toRecon
  (try dsimp only)
  (repeat' split) <;> simp [foldl_same]
@[simp] theorem State.toRecon_same {msk : Nat} (hq : 15360 &&& msk = 15360) (s₀ : State) (s : State) (rid : Nat) (u : UnitRead) :
    Same msk s₀ (State.toRecon s rid u) = Same msk s₀ s := ((State.toRecon_same0 s rid u).mono hq).of_step
theorem State.resolveRead_same0 (s : State) (rid : Nat) (out : RdOut) : Same 15368 s (State.resolveRead s rid out) := by
  unfold State.resolveRead
  split
  · exact Same.refl _ _
  · dsimp only
    generalize hs : s.setRead rid _ = s1
    have k : Same 15368 s s1 := by rw [← hs]; simp
    split
    · split
      · rw [Same.of_step ((State.toRecon_same0 _ _ _).mono (by decide))]; exact k
      · rw [State.dropRead_same (by decide), State.giveUnit_same (by decide)]; exact k
    · rw [Same.of_step ((State.memberDone_same0 _ _ _ _).mono (by decide)), State.dropRead_same (by decide)]; exact k
    · rw [State.dropRead_same (by decide)]
      split
      · split
        · rw [State.setFn_same (by decide)]; exact k
        · exact k
      · exact k
@[simp] theorem State.resolveRead_same {msk : Nat} (hq : 15368 &&& msk = 15368) (s₀ : State) (s : State) (rid : Nat) (out : RdOut) :
    Same msk s₀ (State.resolveRead s rid out) = Same msk s₀ s := ((State.resolveRead_same0 s rid out).mono hq).of_step
theorem State.decoded_same0 (s : State) (rid : Nat) : Same 31752 s (State.decoded s rid) := by
  unfold State.decoded
  (try dsimp only)
  (repeat' split) <;> simp [foldl_same]
@[simp] theorem State.decoded_same {msk : Nat} (hq : 31752 &&& msk = 31752) (s₀ : State) (s : State) (rid : Nat) :
    Same msk s₀ (State.decoded s rid) = Same msk s₀ s := ((State.decoded_same0 s rid).mono hq).of_step
theorem State.refuseRead_same0 (s : State) (rid : Nat) (u : UnitRead) : Same 15372 s (State.refuseRead s rid u) := by
  unfold State.refuseRead
  (try dsimp only)
  (repeat' split) <;> simp [foldl_same]
@[simp] theorem State.refuseRead_same {msk : Nat} (hq : 15372 &&& msk = 15372) (s₀ : State) (s : State) (rid : Nat) (u : UnitRead) :
    Same msk s₀ (State.refuseRead s rid u) = Same msk s₀ s := ((State.refuseRead_same0 s rid u).mono hq).of_step
theorem State.requestRefresh_same0 (s : State) (die block trigger : Nat) : Same 16388 s (State.requestRefresh s die block trigger) := by
  unfold State.requestRefresh
  (try dsimp only)
  (repeat' split) <;> simp [foldl_same]
@[simp] theorem State.requestRefresh_same {msk : Nat} (hq : 16388 &&& msk = 16388) (s₀ : State) (s : State) (die block trigger : Nat) :
    Same msk s₀ (State.requestRefresh s die block trigger) = Same msk s₀ s := ((State.requestRefresh_same0 s die block trigger).mono hq).of_step
theorem State.countRead_same0 (s : State) (die block : Nat) : Same 16388 s (State.countRead s die block) := by
  unfold State.countRead
  (try dsimp only)
  (repeat' split) <;> simp [foldl_same]
@[simp] theorem State.countRead_same {msk : Nat} (hq : 16388 &&& msk = 16388) (s₀ : State) (s : State) (die block : Nat) :
    Same msk s₀ (State.countRead s die block) = Same msk s₀ s := ((State.countRead_same0 s die block).mono hq).of_step
theorem State.sendRead_same0 (s : State) (die : Nat) (q : DieReq) : Same 97292 s ((State.sendRead s die q).1) := by
  unfold State.sendRead
  (try dsimp only)
  (repeat' split) <;> simp [foldl_same]
@[simp] theorem State.sendRead_same {msk : Nat} (hq : 97292 &&& msk = 97292) (s₀ : State) (s : State) (die : Nat) (q : DieReq) :
    Same msk s₀ ((State.sendRead s die q).1) = Same msk s₀ s := ((State.sendRead_same0 s die q).mono hq).of_step
theorem State.sendHead_same0 (s : State) (die k : Nat) : Same 97292 s (State.sendHead s die k) := by
  unfold State.sendHead
  (try dsimp only)
  (repeat' split) <;> simp [foldl_same]
@[simp] theorem State.sendHead_same {msk : Nat} (hq : 97292 &&& msk = 97292) (s₀ : State) (s : State) (die k : Nat) :
    Same msk s₀ (State.sendHead s die k) = Same msk s₀ s := ((State.sendHead_same0 s die k).mono hq).of_step
theorem State.startWrite_same0 (s : State) (die : Nat) : Same 22528 s (State.startWrite s die) := by
  unfold State.startWrite
  (try dsimp only)
  (repeat' split) <;> simp [foldl_same]
@[simp] theorem State.startWrite_same {msk : Nat} (hq : 22528 &&& msk = 22528) (s₀ : State) (s : State) (die : Nat) :
    Same msk s₀ (State.startWrite s die) = Same msk s₀ s := ((State.startWrite_same0 s die).mono hq).of_step
theorem State.serveSuspended_same0 (s : State) (die : Nat) (o : DieOp) : Same 97292 s (State.serveSuspended s die o) := by
  unfold State.serveSuspended
  (try dsimp only)
  (repeat' split) <;> simp [foldl_same]
@[simp] theorem State.serveSuspended_same {msk : Nat} (hq : 97292 &&& msk = 97292) (s₀ : State) (s : State) (die : Nat) (o : DieOp) :
    Same msk s₀ (State.serveSuspended s die o) = Same msk s₀ s := ((State.serveSuspended_same0 s die o).mono hq).of_step
theorem State.failReads_same0 (s : State) (die : Nat) : Same 15368 s (State.failReads s die) := by
  unfold State.failReads
  (try dsimp only)
  (repeat' split) <;> simp [foldl_same]
@[simp] theorem State.failReads_same {msk : Nat} (hq : 15368 &&& msk = 15368) (s₀ : State) (s : State) (die : Nat) :
    Same msk s₀ (State.failReads s die) = Same msk s₀ s := ((State.failReads_same0 s die).mono hq).of_step
theorem State.decideReads_same0 (s : State) (die : Nat) (rs : List Nat) (susp : Bool) : Same 15360 s (State.decideReads s die rs susp) := by
  unfold State.decideReads
  (try dsimp only)
  repeat' first | (simp [foldl_same]; done) | intro _ | split | (refine Same.foldl ?_ ?_) | simp [foldl_same]
@[simp] theorem State.decideReads_same {msk : Nat} (hq : 15360 &&& msk = 15360) (s₀ : State) (s : State) (die : Nat) (rs : List Nat) (susp : Bool) :
    Same msk s₀ (State.decideReads s die rs susp) = Same msk s₀ s := ((State.decideReads_same0 s die rs susp).mono hq).of_step
theorem State.redecide_same0 (s : State) (die : Nat) : Same 15360 s (State.redecide s die) := by
  unfold State.redecide
  (try dsimp only)
  repeat' first | (simp [foldl_same]; done) | intro _ | split | (refine Same.foldl ?_ ?_) | simp [foldl_same]
@[simp] theorem State.redecide_same {msk : Nat} (hq : 15360 &&& msk = 15360) (s₀ : State) (s : State) (die : Nat) :
    Same msk s₀ (State.redecide s die) = Same msk s₀ s := ((State.redecide_same0 s die).mono hq).of_step
theorem State.chargeMaint_same0 (s : State) (die : Nat) (maint : Bool) (t : Nat) : Same 2048 s (State.chargeMaint s die maint t) := by
  unfold State.chargeMaint
  (try dsimp only)
  (repeat' split) <;> simp [foldl_same]
@[simp] theorem State.chargeMaint_same {msk : Nat} (hq : 2048 &&& msk = 2048) (s₀ : State) (s : State) (die : Nat) (maint : Bool) (t : Nat) :
    Same msk s₀ (State.chargeMaint s die maint t) = Same msk s₀ s := ((State.chargeMaint_same0 s die maint t).mono hq).of_step
theorem State.clearOp_same0 (s : State) (die : Nat) : Same 2048 s (State.clearOp s die) := by
  unfold State.clearOp
  (try dsimp only)
  (repeat' split) <;> simp [foldl_same]
@[simp] theorem State.clearOp_same {msk : Nat} (hq : 2048 &&& msk = 2048) (s₀ : State) (s : State) (die : Nat) :
    Same msk s₀ (State.clearOp s die) = Same msk s₀ s := ((State.clearOp_same0 s die).mono hq).of_step
theorem State.setGroup_same0 (s : State) (key : Nat) (f : Group → Group) : Same 1024 s (State.setGroup s key f) := by
  unfold State.setGroup
  (try dsimp only)
  (repeat' split) <;> simp [foldl_same]
@[simp] theorem State.setGroup_same {msk : Nat} (hq : 1024 &&& msk = 1024) (s₀ : State) (s : State) (key : Nat) (f : Group → Group) :
    Same msk s₀ (State.setGroup s key f) = Same msk s₀ s := ((State.setGroup_same0 s key f).mono hq).of_step
theorem State.groupDone_same0 (s : State) (setid : Nat) (r : SetRec) (m grp : Nat) : Same 17900 s (State.groupDone s setid r m grp) := by
  unfold State.groupDone
  (try dsimp only)
  repeat' first | (simp [foldl_same]; done) | intro _ | split | (refine Same.foldl ?_ ?_) | simp [foldl_same]
@[simp] theorem State.groupDone_same {msk : Nat} (hq : 17900 &&& msk = 17900) (s₀ : State) (s : State) (setid : Nat) (r : SetRec) (m grp : Nat) :
    Same msk s₀ (State.groupDone s setid r m grp) = Same msk s₀ s := ((State.groupDone_same0 s setid r m grp).mono hq).of_step
theorem State.groupFails_same0 (s : State) (setid m grp : Nat) : Same 1024 s (State.groupFails s setid m grp) := by
  unfold State.groupFails
  (try dsimp only)
  (repeat' split) <;> simp [foldl_same]
@[simp] theorem State.groupFails_same {msk : Nat} (hq : 1024 &&& msk = 1024) (s₀ : State) (s : State) (setid m grp : Nat) :
    Same msk s₀ (State.groupFails s setid m grp) = Same msk s₀ s := ((State.groupFails_same0 s setid m grp).mono hq).of_step
theorem State.done08_same0 (s : State) (die : Nat) : Same 3461118 s (State.done08 s die) := by
  unfold State.done08
  (try dsimp only)
  (repeat' split) <;> simp [foldl_same]
@[simp] theorem State.done08_same {msk : Nat} (hq : 3461118 &&& msk = 3461118) (s₀ : State) (s : State) (die : Nat) :
    Same msk s₀ (State.done08 s die) = Same msk s₀ s := ((State.done08_same0 s die).mono hq).of_step
theorem State.programEnd_same0 (s : State) (die sent setid m grp : Nat) (e : ProgEnd) : Same 3461118 s (State.programEnd s die sent setid m grp e) := by
  unfold State.programEnd
  (try dsimp only)
  (repeat' split) <;> simp [foldl_same]
@[simp] theorem State.programEnd_same {msk : Nat} (hq : 3461118 &&& msk = 3461118) (s₀ : State) (s : State) (die sent setid m grp : Nat) (e : ProgEnd) :
    Same msk s₀ (State.programEnd s die sent setid m grp e) = Same msk s₀ s := ((State.programEnd_same0 s die sent setid m grp e).mono hq).of_step
theorem State.wipeBlock_same0 (s : State) (die block : Nat) : Same 16384 s (State.wipeBlock s die block) := by
  unfold State.wipeBlock
  (try dsimp only)
  (repeat' split) <;> simp [foldl_same]
@[simp] theorem State.wipeBlock_same {msk : Nat} (hq : 16384 &&& msk = 16384) (s₀ : State) (s : State) (die block : Nat) :
    Same msk s₀ (State.wipeBlock s die block) = Same msk s₀ s := ((State.wipeBlock_same0 s die block).mono hq).of_step
theorem State.returnHandle_same0 (s : State) (setid : Nat) : Same 512 s (State.returnHandle s setid) := by
  unfold State.returnHandle
  (try dsimp only)
  (repeat' split) <;> simp [foldl_same]
@[simp] theorem State.returnHandle_same {msk : Nat} (hq : 512 &&& msk = 512) (s₀ : State) (s : State) (setid : Nat) :
    Same msk s₀ (State.returnHandle s setid) = Same msk s₀ s := ((State.returnHandle_same0 s setid).mono hq).of_step
theorem State.eraseEnd_same0 (s : State) (die sent block : Nat) (req : DieReq) (code : Option Nat) : Same 3469310 s (State.eraseEnd s die sent block req code) := by
  unfold State.eraseEnd
  (try dsimp only)
  (repeat' split) <;> simp [foldl_same]
@[simp] theorem State.eraseEnd_same {msk : Nat} (hq : 3469310 &&& msk = 3469310) (s₀ : State) (s : State) (die sent block : Nat) (req : DieReq) (code : Option Nat) :
    Same msk s₀ (State.eraseEnd s die sent block req code) = Same msk s₀ s := ((State.eraseEnd_same0 s die sent block req code).mono hq).of_step
theorem State.readBack_same0 (s : State) (t : TagRec) : Same 10240 s (State.readBack s t) := by
  unfold State.readBack
  (try dsimp only)
  (repeat' split) <;> simp [foldl_same]
@[simp] theorem State.readBack_same {msk : Nat} (hq : 10240 &&& msk = 10240) (s₀ : State) (s : State) (t : TagRec) :
    Same msk s₀ (State.readBack s t) = Same msk s₀ s := ((State.readBack_same0 s t).mono hq).of_step
theorem State.noRefs_same0 (s : State) (die band : Nat) : Same 8192 s (State.noRefs s die band) := by
  unfold State.noRefs
  (try dsimp only)
  (repeat' split) <;> simp [foldl_same]
@[simp] theorem State.noRefs_same {msk : Nat} (hq : 8192 &&& msk = 8192) (s₀ : State) (s : State) (die band : Nat) :
    Same msk s₀ (State.noRefs s die band) = Same msk s₀ s := ((State.noRefs_same0 s die band).mono hq).of_step
theorem State.refDone_same0 (s : State) (die slot band : Nat) (ok : Bool) : Same 8192 s (State.refDone s die slot band ok) := by
  unfold State.refDone
  (try dsimp only)
  (repeat' split) <;> simp [foldl_same]
@[simp] theorem State.refDone_same {msk : Nat} (hq : 8192 &&& msk = 8192) (s₀ : State) (s : State) (die slot band : Nat) (ok : Bool) :
    Same msk s₀ (State.refDone s die slot band ok) = Same msk s₀ s := ((State.refDone_same0 s die slot band ok).mono hq).of_step
theorem State.dropSample_same0 (s : State) (n : Nat) : Same 24576 s (State.dropSample s n) := by
  unfold State.dropSample
  (try dsimp only)
  (repeat' split) <;> simp [foldl_same]
@[simp] theorem State.dropSample_same {msk : Nat} (hq : 24576 &&& msk = 24576) (s₀ : State) (s : State) (n : Nat) :
    Same msk s₀ (State.dropSample s n) = Same msk s₀ s := ((State.dropSample_same0 s n).mono hq).of_step
theorem State.laneUp_same0 (s : State) (n k : Nat) : Same 1103804 s (State.laneUp s n k) := by
  unfold State.laneUp
  (try dsimp only)
  (repeat' split) <;> simp [foldl_same]
@[simp] theorem State.laneUp_same {msk : Nat} (hq : 1103804 &&& msk = 1103804) (s₀ : State) (s : State) (n k : Nat) :
    Same msk s₀ (State.laneUp s n k) = Same msk s₀ s := ((State.laneUp_same0 s n k).mono hq).of_step
theorem State.configAnswered_same0 (s : State) (n : Nat) : Same 1103804 s (State.configAnswered s n) := by
  unfold State.configAnswered
  (try dsimp only)
  repeat' first | (simp [foldl_same]; done) | intro _ | split | (refine Same.foldl ?_ ?_) | simp [foldl_same]
@[simp] theorem State.configAnswered_same {msk : Nat} (hq : 1103804 &&& msk = 1103804) (s₀ : State) (s : State) (n : Nat) :
    Same msk s₀ (State.configAnswered s n) = Same msk s₀ s := ((State.configAnswered_same0 s n).mono hq).of_step
theorem State.requestFailed_same0 (s : State) (n : Nat) (t : TagRec) (link : Bool) : Same 3473406 s (State.requestFailed s n t link) := by
  unfold State.requestFailed
  (try dsimp only)
  (repeat' split) <;> simp [foldl_same]
@[simp] theorem State.requestFailed_same {msk : Nat} (hq : 3473406 &&& msk = 3473406) (s₀ : State) (s : State) (n : Nat) (t : TagRec) (link : Bool) :
    Same msk s₀ (State.requestFailed s n t link) = Same msk s₀ s := ((State.requestFailed_same0 s n t link).mono hq).of_step
theorem State.doneWith_same0 (s : State) (n : Nat) (t : TagRec) (code : Nat) : Same 3473406 s (State.doneWith s n t code) := by
  unfold State.doneWith
  (try dsimp only)
  (repeat' split) <;> simp [foldl_same]
@[simp] theorem State.doneWith_same {msk : Nat} (hq : 3473406 &&& msk = 3473406) (s₀ : State) (s : State) (n : Nat) (t : TagRec) (code : Nat) :
    Same msk s₀ (State.doneWith s n t code) = Same msk s₀ s := ((State.doneWith_same0 s n t code).mono hq).of_step
theorem State.reissue_same0 (s : State) (n tag : Nat) : Same 3473406 s (State.reissue s n tag) := by
  unfold State.reissue
  (try dsimp only)
  (repeat' split) <;> simp [foldl_same]
@[simp] theorem State.reissue_same {msk : Nat} (hq : 3473406 &&& msk = 3473406) (s₀ : State) (s : State) (n tag : Nat) :
    Same msk s₀ (State.reissue s n tag) = Same msk s₀ s := ((State.reissue_same0 s n tag).mono hq).of_step
theorem State.receive_same0 (s : State) (n : Nat) (f : Frame) : Same 4096 s ((State.receive s n f).1) := by
  unfold State.receive
  (try dsimp only)
  (repeat' split) <;> simp [foldl_same]
@[simp] theorem State.receive_same {msk : Nat} (hq : 4096 &&& msk = 4096) (s₀ : State) (s : State) (n : Nat) (f : Frame) :
    Same msk s₀ ((State.receive s n f).1) = Same msk s₀ s := ((State.receive_same0 s n f).mono hq).of_step
theorem State.setInh_same0 (s : State) (n die inh vsup dtemp : Nat) : Same 7172 s (State.setInh s n die inh vsup dtemp) := by
  unfold State.setInh
  (try dsimp only)
  (repeat' split) <;> simp [foldl_same]
@[simp] theorem State.setInh_same {msk : Nat} (hq : 7172 &&& msk = 7172) (s₀ : State) (s : State) (n die inh vsup dtemp : Nat) :
    Same msk s₀ (State.setInh s n die inh vsup dtemp) = Same msk s₀ s := ((State.setInh_same0 s n die inh vsup dtemp).mono hq).of_step
theorem State.statusBlock_same0 (s : State) (n : Nat) (f : Frame) : Same 7172 s (State.statusBlock s n f) := by
  unfold State.statusBlock
  (try dsimp only)
  (repeat' split) <;> simp [foldl_same]
@[simp] theorem State.statusBlock_same {msk : Nat} (hq : 7172 &&& msk = 7172) (s₀ : State) (s : State) (n : Nat) (f : Frame) :
    Same msk s₀ (State.statusBlock s n f) = Same msk s₀ s := ((State.statusBlock_same0 s n f).mono hq).of_step
theorem State.samplePage_same0 (s : State) (n die block grp page : Nat) : Same 2107392 s (State.samplePage s n die block grp page) := by
  unfold State.samplePage
  (try dsimp only)
  (repeat' split) <;> simp [foldl_same]
@[simp] theorem State.samplePage_same {msk : Nat} (hq : 2107392 &&& msk = 2107392) (s₀ : State) (s : State) (n die block grp page : Nat) :
    Same msk s₀ (State.samplePage s n die block grp page) = Same msk s₀ s := ((State.samplePage_same0 s n die block grp page).mono hq).of_step
theorem State.sampleRr_same0 (s : State) (t : TagRec) (rid : Nat) : Same 2048 s (State.sampleRr s t rid) := by
  unfold State.sampleRr
  (try dsimp only)
  (repeat' split) <;> simp [foldl_same]
@[simp] theorem State.sampleRr_same {msk : Nat} (hq : 2048 &&& msk = 2048) (s₀ : State) (s : State) (t : TagRec) (rid : Nat) :
    Same msk s₀ (State.sampleRr s t rid) = Same msk s₀ s := ((State.sampleRr_same0 s t rid).mono hq).of_step
theorem State.bridgeReset_same0 (s : State) (n old new : Nat) : Same 3473406 s (State.bridgeReset s n old new) := by
  unfold State.bridgeReset
  dsimp only
  rw [State.raise_same (by decide), State.writeBridge_same (by decide), same_withDdk (by decide), foldl_same _ (fun s e => by split <;> simp)]
  simp
@[simp] theorem State.bridgeReset_same {msk : Nat} (hq : 3473406 &&& msk = 3473406) (s₀ : State) (s : State) (n old new : Nat) :
    Same msk s₀ (State.bridgeReset s n old new) = Same msk s₀ s := ((State.bridgeReset_same0 s n old new).mono hq).of_step
theorem State.linkFails_same0 (s : State) (n cause : Nat) : Same 3473406 s (State.linkFails s n cause) := by
  unfold State.linkFails
  (try dsimp only)
  repeat' first | (simp [foldl_same]; done) | intro _ | split | (refine Same.foldl ?_ ?_) | simp [foldl_same]
@[simp] theorem State.linkFails_same {msk : Nat} (hq : 3473406 &&& msk = 3473406) (s₀ : State) (s : State) (n cause : Nat) :
    Same msk s₀ (State.linkFails s n cause) = Same msk s₀ s := ((State.linkFails_same0 s n cause).mono hq).of_step
theorem State.attemptFails_same0 (s : State) (n k : Nat) : Same 3473406 s (State.attemptFails s n k) := by
  unfold State.attemptFails
  (try dsimp only)
  (repeat' split) <;> simp [foldl_same]
@[simp] theorem State.attemptFails_same {msk : Nat} (hq : 3473406 &&& msk = 3473406) (s₀ : State) (s : State) (n k : Nat) :
    Same msk s₀ (State.attemptFails s n k) = Same msk s₀ s := ((State.attemptFails_same0 s n k).mono hq).of_step
theorem State.nextPhase_same0 (s : State) (n k phase : Nat) : Same 4096 s (State.nextPhase s n k phase) := by
  unfold State.nextPhase
  (try dsimp only)
  (repeat' split) <;> simp [foldl_same]
@[simp] theorem State.nextPhase_same {msk : Nat} (hq : 4096 &&& msk = 4096) (s₀ : State) (s : State) (n k phase : Nat) :
    Same msk s₀ (State.nextPhase s n k phase) = Same msk s₀ s := ((State.nextPhase_same0 s n k phase).mono hq).of_step
theorem State.clearSram_same0 (s : State) (lo hi : Nat) : Same 65536 s (State.clearSram s lo hi) := by
  unfold State.clearSram
  (try dsimp only)
  (repeat' split) <;> simp [foldl_same]
@[simp] theorem State.clearSram_same {msk : Nat} (hq : 65536 &&& msk = 65536) (s₀ : State) (s : State) (lo hi : Nat) :
    Same msk s₀ (State.clearSram s lo hi) = Same msk s₀ s := ((State.clearSram_same0 s lo hi).mono hq).of_step
theorem State.sramEvent_same0 (s : State) : Same 65540 s (State.sramEvent s) := by
  unfold State.sramEvent
  (try dsimp only)
  (repeat' split) <;> simp [foldl_same]
@[simp] theorem State.sramEvent_same {msk : Nat} (hq : 65540 &&& msk = 65540) (s₀ : State) (s : State) :
    Same msk s₀ (State.sramEvent s) = Same msk s₀ s := ((State.sramEvent_same0 s).mono hq).of_step
theorem State.readSram_same0 (s : State) (off : Nat) : Same 65540 s ((State.readSram s off).1) := by
  unfold State.readSram
  dsimp only
  repeat' split
  all_goals simp [Dram.sramWrite]
@[simp] theorem State.readSram_same {msk : Nat} (hq : 65540 &&& msk = 65540) (s₀ : State) (s : State) (off : Nat) :
    Same msk s₀ ((State.readSram s off).1) = Same msk s₀ s := ((State.readSram_same0 s off).mono hq).of_step
theorem State.scrubSram_same0 (s : State) (start n : Nat) : Same 65540 s (State.scrubSram s start n) := by
  unfold State.scrubSram
  (try dsimp only)
  (repeat' split) <;> simp [foldl_same]
@[simp] theorem State.scrubSram_same {msk : Nat} (hq : 65540 &&& msk = 65540) (s₀ : State) (s : State) (start n : Nat) :
    Same msk s₀ (State.scrubSram s start n) = Same msk s₀ s := ((State.scrubSram_same0 s start n).mono hq).of_step
theorem State.putChan_same0 (s : State) (n : Nat) (c : Chan) : Same 65536 s (State.putChan s n c) := by
  unfold State.putChan
  (try dsimp only)
  (repeat' split) <;> simp [foldl_same]
@[simp] theorem State.putChan_same {msk : Nat} (hq : 65536 &&& msk = 65536) (s₀ : State) (s : State) (n : Nat) (c : Chan) :
    Same msk s₀ (State.putChan s n c) = Same msk s₀ s := ((State.putChan_same0 s n c).mono hq).of_step
theorem State.setChan_same0 (s : State) (n : Nat) (f : Chan → Chan) : Same 65536 s (State.setChan s n f) := by
  unfold State.setChan
  (try dsimp only)
  (repeat' split) <;> simp [foldl_same]
@[simp] theorem State.setChan_same {msk : Nat} (hq : 65536 &&& msk = 65536) (s₀ : State) (s : State) (n : Nat) (f : Chan → Chan) :
    Same msk s₀ (State.setChan s n f) = Same msk s₀ s := ((State.setChan_same0 s n f).mono hq).of_step
theorem State.setSub_same0 (s : State) (n k : Nat) (f : SubChan → SubChan) : Same 65536 s (State.setSub s n k f) := by
  unfold State.setSub
  (try dsimp only)
  (repeat' split) <;> simp [foldl_same]
@[simp] theorem State.setSub_same {msk : Nat} (hq : 65536 &&& msk = 65536) (s₀ : State) (s : State) (n k : Nat) (f : SubChan → SubChan) :
    Same msk s₀ (State.setSub s n k f) = Same msk s₀ s := ((State.setSub_same0 s n k f).mono hq).of_step
theorem State.countChan_same0 (s : State) (n i k : Nat) : Same 65536 s (State.countChan s n i k) := by
  unfold State.countChan
  (try dsimp only)
  (repeat' split) <;> simp [foldl_same]
@[simp] theorem State.countChan_same {msk : Nat} (hq : 65536 &&& msk = 65536) (s₀ : State) (s : State) (n i k : Nat) :
    Same msk s₀ (State.countChan s n i k) = Same msk s₀ s := ((State.countChan_same0 s n i k).mono hq).of_step
theorem State.openBank_same0 (s : State) (p : DramPlace) : Same 65536 s (State.openBank s p) := by
  unfold State.openBank
  (try dsimp only)
  (repeat' split) <;> simp [foldl_same]
@[simp] theorem State.openBank_same {msk : Nat} (hq : 65536 &&& msk = 65536) (s₀ : State) (s : State) (p : DramPlace) :
    Same msk s₀ (State.openBank s p) = Same msk s₀ s := ((State.openBank_same0 s p).mono hq).of_step
theorem State.holdOrder_same0 (s : State) (ch sub : Nat) (h : OrderHold) : Same 65536 s (State.holdOrder s ch sub h) := by
  unfold State.holdOrder
  (try dsimp only)
  (repeat' split) <;> simp [foldl_same]
@[simp] theorem State.holdOrder_same {msk : Nat} (hq : 65536 &&& msk = 65536) (s₀ : State) (s : State) (ch sub : Nat) (h : OrderHold) :
    Same msk s₀ (State.holdOrder s ch sub h) = Same msk s₀ s := ((State.holdOrder_same0 s ch sub h).mono hq).of_step
theorem State.pruneHolds_same0 (s : State) (ch sub : Nat) : Same 65536 s (State.pruneHolds s ch sub) := by
  unfold State.pruneHolds
  (try dsimp only)
  (repeat' split) <;> simp [foldl_same]
@[simp] theorem State.pruneHolds_same {msk : Nat} (hq : 65536 &&& msk = 65536) (s₀ : State) (s : State) (ch sub : Nat) :
    Same msk s₀ (State.pruneHolds s ch sub) = Same msk s₀ s := ((State.pruneHolds_same0 s ch sub).mono hq).of_step
theorem State.issueWrite_same0 (s : State) (e : WqEntry) : Same 33619968 s (State.issueWrite s e) := by
  unfold State.issueWrite
  (try dsimp only)
  (repeat' split) <;> simp [foldl_same]
@[simp] theorem State.issueWrite_same {msk : Nat} (hq : 33619968 &&& msk = 33619968) (s₀ : State) (s : State) (e : WqEntry) :
    Same msk s₀ (State.issueWrite s e) = Same msk s₀ s := ((State.issueWrite_same0 s e).mono hq).of_step
theorem State.queueWrite_same0 (s : State) (a data : Nat) : Same 65536 s (State.queueWrite s a data) := by
  unfold State.queueWrite
  (try dsimp only)
  repeat' first | (simp [foldl_same]; done) | intro _ | split | (refine Same.foldl ?_ ?_) | simp [foldl_same]
@[simp] theorem State.queueWrite_same {msk : Nat} (hq : 65536 &&& msk = 65536) (s₀ : State) (s : State) (a data : Nat) :
    Same msk s₀ (State.queueWrite s a data) = Same msk s₀ s := ((State.queueWrite_same0 s a data).mono hq).of_step
theorem State.markDevice_same0 (s : State) (ch sub dev : Nat) : Same 2097158 s (State.markDevice s ch sub dev) := by
  unfold State.markDevice
  (try dsimp only)
  (repeat' split) <;> simp [foldl_same]
@[simp] theorem State.markDevice_same {msk : Nat} (hq : 2097158 &&& msk = 2097158) (s₀ : State) (s : State) (ch sub dev : Nat) :
    Same msk s₀ (State.markDevice s ch sub dev) = Same msk s₀ s := ((State.markDevice_same0 s ch sub dev).mono hq).of_step
theorem State.attribute_same0 (s : State) (ch sub : Nat) (errs : List (Nat × Nat)) : Same 2162694 s (State.attribute s ch sub errs) := by
  unfold State.attribute
  (try dsimp only)
  (repeat' split) <;> simp [foldl_same]
@[simp] theorem State.attribute_same {msk : Nat} (hq : 2162694 &&& msk = 2162694) (s₀ : State) (s : State) (ch sub : Nat) (errs : List (Nat × Nat)) :
    Same msk s₀ (State.attribute s ch sub errs) = Same msk s₀ s := ((State.attribute_same0 s ch sub errs).mono hq).of_step
theorem State.correctedEvent_same0 (s : State) (ch : Nat) : Same 65540 s (State.correctedEvent s ch) := by
  unfold State.correctedEvent
  (try dsimp only)
  (repeat' split) <;> simp [foldl_same]
@[simp] theorem State.correctedEvent_same {msk : Nat} (hq : 65540 &&& msk = 65540) (s₀ : State) (s : State) (ch : Nat) :
    Same msk s₀ (State.correctedEvent s ch) = Same msk s₀ s := ((State.correctedEvent_same0 s ch).mono hq).of_step
theorem State.corrected_same0 (s : State) (r : RqEntry) (data : Nat) (errs : List (Nat × Nat)) : Same 35717126 s (State.corrected s r data errs) := by
  unfold State.corrected
  (try dsimp only)
  (repeat' split) <;> simp [foldl_same]
@[simp] theorem State.corrected_same {msk : Nat} (hq : 35717126 &&& msk = 35717126) (s₀ : State) (s : State) (r : RqEntry) (data : Nat) (errs : List (Nat × Nat)) :
    Same msk s₀ (State.corrected s r data errs) = Same msk s₀ s := ((State.corrected_same0 s r data errs).mono hq).of_step
theorem State.uncorrectable_same0 (s : State) (a addrErr : Nat) : Same 2162692 s (State.uncorrectable s a addrErr) := by
  unfold State.uncorrectable
  (try dsimp only)
  (repeat' split) <;> simp [foldl_same]
@[simp] theorem State.uncorrectable_same {msk : Nat} (hq : 2162692 &&& msk = 2162692) (s₀ : State) (s : State) (a addrErr : Nat) :
    Same msk s₀ (State.uncorrectable s a addrErr) = Same msk s₀ s := ((State.uncorrectable_same0 s a addrErr).mono hq).of_step
theorem State.refreshRank_same0 (s : State) (ch sub rank k : Nat) : Same 65536 s (State.refreshRank s ch sub rank k) := by
  unfold State.refreshRank
  (try dsimp only)
  (repeat' split) <;> simp [foldl_same]
@[simp] theorem State.refreshRank_same {msk : Nat} (hq : 65536 &&& msk = 65536) (s₀ : State) (s : State) (ch sub rank k : Nat) :
    Same msk s₀ (State.refreshRank s ch sub rank k) = Same msk s₀ s := ((State.refreshRank_same0 s ch sub rank k).mono hq).of_step
theorem State.refreshFreed_same0 (s : State) (ch sub rank : Nat) : Same 65536 s (State.refreshFreed s ch sub rank) := by
  unfold State.refreshFreed
  (try dsimp only)
  (repeat' split) <;> simp [foldl_same]
@[simp] theorem State.refreshFreed_same {msk : Nat} (hq : 65536 &&& msk = 65536) (s₀ : State) (s : State) (ch sub rank : Nat) :
    Same msk s₀ (State.refreshFreed s ch sub rank) = Same msk s₀ s := ((State.refreshFreed_same0 s ch sub rank).mono hq).of_step
theorem State.decodeRead_same0 (s : State) (r : RqEntry) : Same 35717134 s (State.decodeRead s r) := by
  unfold State.decodeRead
  (try dsimp only)
  (repeat' split) <;> simp [foldl_same]
@[simp] theorem State.decodeRead_same {msk : Nat} (hq : 35717134 &&& msk = 35717134) (s₀ : State) (s : State) (r : RqEntry) :
    Same msk s₀ (State.decodeRead s r) = Same msk s₀ s := ((State.decodeRead_same0 s r).mono hq).of_step
theorem State.issueRead_same0 (s : State) (r : RqEntry) : Same 35717134 s (State.issueRead s r) := by
  unfold State.issueRead
  (try dsimp only)
  (repeat' split) <;> simp [foldl_same]
@[simp] theorem State.issueRead_same {msk : Nat} (hq : 35717134 &&& msk = 35717134) (s₀ : State) (s : State) (r : RqEntry) :
    Same msk s₀ (State.issueRead s r) = Same msk s₀ s := ((State.issueRead_same0 s r).mono hq).of_step
theorem State.issueCmd_same0 (s : State) (c : DramCmd) : Same 35717134 s (s.issueCmd c) := by
  cases c <;> simp [State.issueCmd]
@[simp] theorem State.issueCmd_same {msk : Nat} (hq : 35717134 &&& msk = 35717134) (s₀ s : State) (c : DramCmd) :
    Same msk s₀ (s.issueCmd c) = Same msk s₀ s := ((State.issueCmd_same0 s c).mono hq).of_step
theorem State.issue_same0 (s : State) (ch sub : Nat) (c : DramCmd) : Same 35717134 s (State.issue s ch sub c) := by
  unfold State.issue
  (try dsimp only)
  repeat' first | (simp [foldl_same]; done) | intro _ | split | (refine Same.foldl ?_ ?_) | simp [foldl_same]
@[simp] theorem State.issue_same {msk : Nat} (hq : 35717134 &&& msk = 35717134) (s₀ : State) (s : State) (ch sub : Nat) (c : DramCmd) :
    Same msk s₀ (State.issue s ch sub c) = Same msk s₀ s := ((State.issue_same0 s ch sub c).mono hq).of_step
theorem State.drainOne_same0 (s : State) (ch sub : Nat) : Same 35717134 s (State.drainOne s ch sub) := by
  unfold State.drainOne
  (try dsimp only)
  (repeat' split) <;> simp [foldl_same]
@[simp] theorem State.drainOne_same {msk : Nat} (hq : 35717134 &&& msk = 35717134) (s₀ : State) (s : State) (ch sub : Nat) :
    Same msk s₀ (State.drainOne s ch sub) = Same msk s₀ s := ((State.drainOne_same0 s ch sub).mono hq).of_step
theorem State.drainNext_same0 (s : State) (ch sub : Nat) : Same 35717134 s (State.drainNext s ch sub) := by
  unfold State.drainNext
  (try dsimp only)
  (repeat' split) <;> simp [foldl_same]
@[simp] theorem State.drainNext_same {msk : Nat} (hq : 35717134 &&& msk = 35717134) (s₀ : State) (s : State) (ch sub : Nat) :
    Same msk s₀ (State.drainNext s ch sub) = Same msk s₀ s := ((State.drainNext_same0 s ch sub).mono hq).of_step
theorem State.subStep_same0 (s : State) (ch sub : Nat) : Same 35717134 s (State.subStep s ch sub) := by
  unfold State.subStep
  (try dsimp only)
  (repeat' split) <;> simp [foldl_same]
@[simp] theorem State.subStep_same {msk : Nat} (hq : 35717134 &&& msk = 35717134) (s₀ : State) (s : State) (ch sub : Nat) :
    Same msk s₀ (State.subStep s ch sub) = Same msk s₀ s := ((State.subStep_same0 s ch sub).mono hq).of_step
theorem State.drainStep_same0 (s : State) : Same 35717134 s (State.drainStep s) := by
  unfold State.drainStep
  (try dsimp only)
  (repeat' split) <;> simp [foldl_same]
@[simp] theorem State.drainStep_same {msk : Nat} (hq : 35717134 &&& msk = 35717134) (s₀ : State) (s : State) :
    Same msk s₀ (State.drainStep s) = Same msk s₀ s := ((State.drainStep_same0 s).mono hq).of_step
theorem State.drainAll_same0 (s : State) (ch sub : Nat) : Same 33619968 s (State.drainAll s ch sub) := by
  unfold State.drainAll
  (try dsimp only)
  repeat' first | (simp [foldl_same]; done) | intro _ | split | (refine Same.foldl ?_ ?_) | simp [foldl_same]
@[simp] theorem State.drainAll_same {msk : Nat} (hq : 33619968 &&& msk = 33619968) (s₀ : State) (s : State) (ch sub : Nat) :
    Same msk s₀ (State.drainAll s ch sub) = Same msk s₀ s := ((State.drainAll_same0 s ch sub).mono hq).of_step
theorem State.drainEverything_same0 (s : State) : Same 33619968 s (State.drainEverything s) := by
  unfold State.drainEverything
  (try dsimp only)
  (repeat' split) <;> simp [foldl_same]
@[simp] theorem State.drainEverything_same {msk : Nat} (hq : 33619968 &&& msk = 33619968) (s₀ : State) (s : State) :
    Same msk s₀ (State.drainEverything s) = Same msk s₀ s := ((State.drainEverything_same0 s).mono hq).of_step
theorem State.joinReads_same0 (s : State) (a : Nat) (sym : DramSyms) : Same 65536 s (State.joinReads s a sym) := by
  unfold State.joinReads
  (try dsimp only)
  (repeat' split) <;> simp [foldl_same]
@[simp] theorem State.joinReads_same {msk : Nat} (hq : 65536 &&& msk = 65536) (s₀ : State) (s : State) (a : Nat) (sym : DramSyms) :
    Same msk s₀ (State.joinReads s a sym) = Same msk s₀ s := ((State.joinReads_same0 s a sym).mono hq).of_step
theorem State.zeroFill_same0 (s : State) (ch : Nat) : Same 33619968 s (State.zeroFill s ch) := by
  unfold State.zeroFill
  (try dsimp only)
  (repeat' split) <;> simp [foldl_same]
@[simp] theorem State.zeroFill_same {msk : Nat} (hq : 33619968 &&& msk = 33619968) (s₀ : State) (s : State) (ch : Nat) :
    Same msk s₀ (State.zeroFill s ch) = Same msk s₀ s := ((State.zeroFill_same0 s ch).mono hq).of_step
theorem State.trainChan_same0 (s : State) (ch : Nat) : Same 33619968 s (State.trainChan s ch) := by
  unfold State.trainChan
  (try dsimp only)
  (repeat' split) <;> simp [foldl_same]
@[simp] theorem State.trainChan_same {msk : Nat} (hq : 33619968 &&& msk = 33619968) (s₀ : State) (s : State) (ch : Nat) :
    Same msk s₀ (State.trainChan s ch) = Same msk s₀ s := ((State.trainChan_same0 s ch).mono hq).of_step
theorem State.trainFailed_same0 (s : State) (ch phase : Nat) : Same 4 s (State.trainFailed s ch phase) := by
  unfold State.trainFailed
  (try dsimp only)
  (repeat' split) <;> simp [foldl_same]
@[simp] theorem State.trainFailed_same {msk : Nat} (hq : 4 &&& msk = 4) (s₀ : State) (s : State) (ch phase : Nat) :
    Same msk s₀ (State.trainFailed s ch phase) = Same msk s₀ s := ((State.trainFailed_same0 s ch phase).mono hq).of_step
theorem State.writeTrnCtl_same0 (s : State) (a : Agent) (ch v : Nat) : Same 65542 s (State.writeTrnCtl s a ch v) := by
  unfold State.writeTrnCtl
  (try dsimp only)
  (repeat' split) <;> simp [foldl_same]
@[simp] theorem State.writeTrnCtl_same {msk : Nat} (hq : 65542 &&& msk = 65542) (s₀ : State) (s : State) (a : Agent) (ch v : Nat) :
    Same msk s₀ (State.writeTrnCtl s a ch v) = Same msk s₀ s := ((State.writeTrnCtl_same0 s a ch v).mono hq).of_step
theorem State.putBurst_same0 (s : State) (ch : Nat) (burst : List Byte) : Same 2 s (State.putBurst s ch burst) := by
  unfold State.putBurst
  (try dsimp only)
  (repeat' split) <;> simp [foldl_same]
@[simp] theorem State.putBurst_same {msk : Nat} (hq : 2 &&& msk = 2) (s₀ : State) (s : State) (ch : Nat) (burst : List Byte) :
    Same msk s₀ (State.putBurst s ch burst) = Same msk s₀ s := ((State.putBurst_same0 s ch burst).mono hq).of_step
theorem State.writeTrnDly_same0 (s : State) (a : Agent) (ch v : Nat) : Same 65542 s (State.writeTrnDly s a ch v) := by
  unfold State.writeTrnDly
  (try dsimp only)
  (repeat' split) <;> simp [foldl_same]
@[simp] theorem State.writeTrnDly_same {msk : Nat} (hq : 65542 &&& msk = 65542) (s₀ : State) (s : State) (a : Agent) (ch v : Nat) :
    Same msk s₀ (State.writeTrnDly s a ch v) = Same msk s₀ s := ((State.writeTrnDly_same0 s a ch v).mono hq).of_step
theorem State.writeMrCmd_same0 (s : State) (ch v rdata : Nat) : Same 65538 s (State.writeMrCmd s ch v rdata) := by
  unfold State.writeMrCmd
  (try dsimp only)
  (repeat' split) <;> simp [foldl_same]
@[simp] theorem State.writeMrCmd_same {msk : Nat} (hq : 65538 &&& msk = 65538) (s₀ : State) (s : State) (ch v rdata : Nat) :
    Same msk s₀ (State.writeMrCmd s ch v rdata) = Same msk s₀ s := ((State.writeMrCmd_same0 s ch v rdata).mono hq).of_step
theorem State.setScrub_same0 (s : State) (f : Scrub → Scrub) : Same 65536 s (State.setScrub s f) := by
  unfold State.setScrub
  (try dsimp only)
  (repeat' split) <;> simp [foldl_same]
@[simp] theorem State.setScrub_same {msk : Nat} (hq : 65536 &&& msk = 65536) (s₀ : State) (s : State) (f : Scrub → Scrub) :
    Same msk s₀ (State.setScrub s f) = Same msk s₀ s := ((State.setScrub_same0 s f).mono hq).of_step
theorem State.startScrub_same0 (s : State) : Same 65536 s (State.startScrub s) := by
  unfold State.startScrub
  (try dsimp only)
  (repeat' split) <;> simp [foldl_same]
@[simp] theorem State.startScrub_same {msk : Nat} (hq : 65536 &&& msk = 65536) (s₀ : State) (s : State) :
    Same msk s₀ (State.startScrub s) = Same msk s₀ s := ((State.startScrub_same0 s).mono hq).of_step
theorem State.abortScrub_same0 (s : State) : Same 65536 s (State.abortScrub s) := by
  unfold State.abortScrub
  (try dsimp only)
  (repeat' split) <;> simp [foldl_same]
@[simp] theorem State.abortScrub_same {msk : Nat} (hq : 65536 &&& msk = 65536) (s₀ : State) (s : State) :
    Same msk s₀ (State.abortScrub s) = Same msk s₀ s := ((State.abortScrub_same0 s).mono hq).of_step
theorem State.writeScrCtl_same0 (s : State) (a : Agent) (v : Nat) : Same 65542 s (State.writeScrCtl s a v) := by
  unfold State.writeScrCtl
  (try dsimp only)
  (repeat' split) <;> simp [foldl_same]
@[simp] theorem State.writeScrCtl_same {msk : Nat} (hq : 65542 &&& msk = 65542) (s₀ : State) (s : State) (a : Agent) (v : Nat) :
    Same msk s₀ (State.writeScrCtl s a v) = Same msk s₀ s := ((State.writeScrCtl_same0 s a v).mono hq).of_step
theorem State.putDom_same0 (s : State) (d : Nat) (x : Domain) : Same 131072 s (State.putDom s d x) := by
  unfold State.putDom
  (try dsimp only)
  (repeat' split) <;> simp [foldl_same]
@[simp] theorem State.putDom_same {msk : Nat} (hq : 131072 &&& msk = 131072) (s₀ : State) (s : State) (d : Nat) (x : Domain) :
    Same msk s₀ (State.putDom s d x) = Same msk s₀ s := ((State.putDom_same0 s d x).mono hq).of_step
theorem State.setDom_same0 (s : State) (d : Nat) (f : Domain → Domain) : Same 131072 s (State.setDom s d f) := by
  unfold State.setDom
  (try dsimp only)
  (repeat' split) <;> simp [foldl_same]
@[simp] theorem State.setDom_same {msk : Nat} (hq : 131072 &&& msk = 131072) (s₀ : State) (s : State) (d : Nat) (f : Domain → Domain) :
    Same msk s₀ (State.setDom s d f) = Same msk s₀ s := ((State.setDom_same0 s d f).mono hq).of_step
theorem State.beginReturn_same0 (s : State) (d : Nat) : Same 131072 s (State.beginReturn s d) := by
  unfold State.beginReturn
  (try dsimp only)
  (repeat' split) <;> simp [foldl_same]
@[simp] theorem State.beginReturn_same {msk : Nat} (hq : 131072 &&& msk = 131072) (s₀ : State) (s : State) (d : Nat) :
    Same msk s₀ (State.beginReturn s d) = Same msk s₀ s := ((State.beginReturn_same0 s d).mono hq).of_step
theorem State.abandonEntry_same0 (s : State) (d cause : Nat) : Same 131072 s (State.abandonEntry s d cause) := by
  unfold State.abandonEntry
  (try dsimp only)
  (repeat' split) <;> simp [foldl_same]
@[simp] theorem State.abandonEntry_same {msk : Nat} (hq : 131072 &&& msk = 131072) (s₀ : State) (s : State) (d cause : Nat) :
    Same msk s₀ (State.abandonEntry s d cause) = Same msk s₀ s := ((State.abandonEntry_same0 s d cause).mono hq).of_step
theorem State.undoEntry_same0 (s : State) (d : Nat) : Same 2228228 s (State.undoEntry s d) := by
  unfold State.undoEntry
  (try dsimp only)
  (repeat' split) <;> simp [foldl_same]
@[simp] theorem State.undoEntry_same {msk : Nat} (hq : 2228228 &&& msk = 2228228) (s₀ : State) (s : State) (d : Nat) :
    Same msk s₀ (State.undoEntry s d) = Same msk s₀ s := ((State.undoEntry_same0 s d).mono hq).of_step
theorem State.atPoint_same0 (s : State) (d ap : Nat) : Same 2228228 s (State.atPoint s d ap) := by
  unfold State.atPoint
  (try dsimp only)
  (repeat' split) <;> simp [foldl_same]
@[simp] theorem State.atPoint_same {msk : Nat} (hq : 2228228 &&& msk = 2228228) (s₀ : State) (s : State) (d ap : Nat) :
    Same msk s₀ (State.atPoint s d ap) = Same msk s₀ s := ((State.atPoint_same0 s d ap).mono hq).of_step
theorem State.beginEntry_same0 (s : State) (d : Nat) (t : DomState) : Same 2228228 s (State.beginEntry s d t) := by
  unfold State.beginEntry
  (try dsimp only)
  (repeat' split) <;> simp [foldl_same]
@[simp] theorem State.beginEntry_same {msk : Nat} (hq : 2228228 &&& msk = 2228228) (s₀ : State) (s : State) (d : Nat) (t : DomState) :
    Same msk s₀ (State.beginEntry s d t) = Same msk s₀ s := ((State.beginEntry_same0 s d t).mono hq).of_step
theorem State.writePwrCmd_same0 (s : State) (v : Nat) : Same 2228228 s (State.writePwrCmd s v) := by
  unfold State.writePwrCmd
  (try dsimp only)
  (repeat' split) <;> simp [foldl_same]
@[simp] theorem State.writePwrCmd_same {msk : Nat} (hq : 2228228 &&& msk = 2228228) (s₀ : State) (s : State) (v : Nat) :
    Same msk s₀ (State.writePwrCmd s v) = Same msk s₀ s := ((State.writePwrCmd_same0 s v).mono hq).of_step
theorem State.refuseEntry_same0 (s : State) (d reason : Nat) : Same 131076 s (State.refuseEntry s d reason) := by
  unfold State.refuseEntry
  (try dsimp only)
  (repeat' split) <;> simp [foldl_same]
@[simp] theorem State.refuseEntry_same {msk : Nat} (hq : 131076 &&& msk = 131076) (s₀ : State) (s : State) (d reason : Nat) :
    Same msk s₀ (State.refuseEntry s d reason) = Same msk s₀ s := ((State.refuseEntry_same0 s d reason).mono hq).of_step
theorem State.closeAllPartial_same0 (s : State) : Same 18340 s (State.closeAllPartial s) := by
  unfold State.closeAllPartial
  (try dsimp only)
  (repeat' split) <;> simp [foldl_same]
@[simp] theorem State.closeAllPartial_same {msk : Nat} (hq : 18340 &&& msk = 18340) (s₀ : State) (s : State) :
    Same msk s₀ (State.closeAllPartial s) = Same msk s₀ s := ((State.closeAllPartial_same0 s).mono hq).of_step
theorem State.lockTenant_same0 (s : State) (t : Nat) : Same 32772 s (State.lockTenant s t) := by
  unfold State.lockTenant
  (try dsimp only)
  (repeat' split) <;> simp [foldl_same]
@[simp] theorem State.lockTenant_same {msk : Nat} (hq : 32772 &&& msk = 32772) (s₀ : State) (s : State) (t : Nat) :
    Same msk s₀ (State.lockTenant s t) = Same msk s₀ s := ((State.lockTenant_same0 s t).mono hq).of_step
theorem State.loseDomain_same0 (s : State) (d : Nat) : Same 35100924 s (State.loseDomain s d) := by
  unfold State.loseDomain
  repeat' first
    | (rw [State.putLink_same (by decide)]; exact Same.refl _ _)
    | (rw [State.setChan_same (by decide), State.zeroFill_same (by decide)]; exact Same.refl _ _)
    | (rw [State.putPort_same (by decide)]; exact Same.refl _ _)
    | (rw [same_withCap (by decide)]; exact Same.refl _ _)
    | (rw [same_withHld (by decide)]; exact Same.refl _ _)
    | (rw [same_withCol (by decide)]; exact Same.refl _ _)
    | (rw [same_withBpm (by decide)]; exact Same.refl _ _)
    | (rw [same_withSch (by decide)]; exact Same.refl _ _)
    | (rw [same_withBoot (by decide) _ _ _ (by simp)]; exact Same.refl _ _)
    | (rw [same_withMgt (by decide)]; exact Same.refl _ _)
    | (rw [same_withPwr (by decide)]; exact Same.refl _ _)
    | exact Same.refl _ _
    | (refine Same.foldl (fun s x => ?_) ?_
       · rw [State.lockTenant_same (by decide)]; exact Same.refl _ _
       · rw [same_withSec (by decide) _ _ _ (by simp)]; exact Same.refl _ _)
    | refine iteInduction (fun _ => ?_) (fun _ => ?_)
@[simp] theorem State.loseDomain_same {msk : Nat} (hq : 35100924 &&& msk = 35100924) (s₀ : State) (s : State) (d : Nat) :
    Same msk s₀ (State.loseDomain s d) = Same msk s₀ s := ((State.loseDomain_same0 s d).mono hq).of_step
theorem State.completeEntry_same0 (s : State) (d : Nat) : Same 35100924 s (State.completeEntry s d) := by
  unfold State.completeEntry
  (try dsimp only)
  (repeat' split) <;> simp [foldl_same]
@[simp] theorem State.completeEntry_same {msk : Nat} (hq : 35100924 &&& msk = 35100924) (s₀ : State) (s : State) (d : Nat) :
    Same msk s₀ (State.completeEntry s d) = Same msk s₀ s := ((State.completeEntry_same0 s d).mono hq).of_step
theorem State.vaultStart_same0 (s : State) : Same 32772 s (State.vaultStart s) := by
  unfold State.vaultStart
  (try dsimp only)
  (repeat' split) <;> simp [foldl_same]
@[simp] theorem State.vaultStart_same {msk : Nat} (hq : 32772 &&& msk = 32772) (s₀ : State) (s : State) :
    Same msk s₀ (State.vaultStart s) = Same msk s₀ s := ((State.vaultStart_same0 s).mono hq).of_step
theorem State.engineBack_same0 (s : State) (e : Nat) : Same 8196 s (State.engineBack s e) := by
  unfold State.engineBack
  (try dsimp only)
  (repeat' split) <;> simp [foldl_same]
@[simp] theorem State.engineBack_same {msk : Nat} (hq : 8196 &&& msk = 8196) (s₀ : State) (s : State) (e : Nat) :
    Same msk s₀ (State.engineBack s e) = Same msk s₀ s := ((State.engineBack_same0 s e).mono hq).of_step
theorem State.afterOff_same0 (s : State) (d : Nat) : Same 33660932 s (State.afterOff s d) := by
  unfold State.afterOff
  (try dsimp only)
  (repeat' split) <;> simp [foldl_same]
@[simp] theorem State.afterOff_same {msk : Nat} (hq : 33660932 &&& msk = 33660932) (s₀ : State) (s : State) (d : Nat) :
    Same msk s₀ (State.afterOff s d) = Same msk s₀ s := ((State.afterOff_same0 s d).mono hq).of_step
theorem State.holdupReturns_same0 (s : State) : Same 1099708 s (State.holdupReturns s) := by
  unfold State.holdupReturns
  (try dsimp only)
  (repeat' split) <;> simp [foldl_same]
@[simp] theorem State.holdupReturns_same {msk : Nat} (hq : 1099708 &&& msk = 1099708) (s₀ : State) (s : State) :
    Same msk s₀ (State.holdupReturns s) = Same msk s₀ s := ((State.holdupReturns_same0 s).mono hq).of_step
theorem State.completeReturn_same0 (s : State) (d : Nat) : Same 34858940 s (State.completeReturn s d) := by
  unfold State.completeReturn
  (try dsimp only)
  (repeat' split) <;> simp [foldl_same]
@[simp] theorem State.completeReturn_same {msk : Nat} (hq : 34858940 &&& msk = 34858940) (s₀ : State) (s : State) (d : Nat) :
    Same msk s₀ (State.completeReturn s d) = Same msk s₀ s := ((State.completeReturn_same0 s d).mono hq).of_step
theorem State.allOn_same0 (s : State) : Same 131072 s (State.allOn s) := by
  unfold State.allOn
  (try dsimp only)
  (repeat' split) <;> simp [foldl_same]
@[simp] theorem State.allOn_same {msk : Nat} (hq : 131072 &&& msk = 131072) (s₀ : State) (s : State) :
    Same msk s₀ (State.allOn s) = Same msk s₀ s := ((State.allOn_same0 s).mono hq).of_step
theorem State.domainsForFlush_same0 (s : State) : Same 131072 s (State.domainsForFlush s) := by
  unfold State.domainsForFlush
  (try dsimp only)
  (repeat' split) <;> simp [foldl_same]
@[simp] theorem State.domainsForFlush_same {msk : Nat} (hq : 131072 &&& msk = 131072) (s₀ : State) (s : State) :
    Same msk s₀ (State.domainsForFlush s) = Same msk s₀ s := ((State.domainsForFlush_same0 s).mono hq).of_step
theorem State.wakeEngine_same0 (s : State) : Same 131072 s (State.wakeEngine s) := by
  unfold State.wakeEngine
  (try dsimp only)
  (repeat' split) <;> simp [foldl_same]
@[simp] theorem State.wakeEngine_same {msk : Nat} (hq : 131072 &&& msk = 131072) (s₀ : State) (s : State) :
    Same msk s₀ (State.wakeEngine s) = Same msk s₀ s := ((State.wakeEngine_same0 s).mono hq).of_step
theorem State.softTooLong_same0 (s : State) (u : UnitRead) : Same 2228224 s ((State.softTooLong s u).1) := by
  unfold State.softTooLong
  (try dsimp only)
  (repeat' split) <;> simp [foldl_same]
@[simp] theorem State.softTooLong_same {msk : Nat} (hq : 2228224 &&& msk = 2228224) (s₀ : State) (s : State) (u : UnitRead) :
    Same msk s₀ ((State.softTooLong s u).1) = Same msk s₀ s := ((State.softTooLong_same0 s u).mono hq).of_step
theorem State.reportBlock_same0 (s : State) (die block : Nat) : Same 3461118 s (State.reportBlock s die block) := by
  unfold State.reportBlock
  (try dsimp only)
  (repeat' split) <;> simp [foldl_same]
@[simp] theorem State.reportBlock_same {msk : Nat} (hq : 3461118 &&& msk = 3461118) (s₀ : State) (s : State) (die block : Nat) :
    Same msk s₀ (State.reportBlock s die block) = Same msk s₀ s := ((State.reportBlock_same0 s die block).mono hq).of_step
theorem State.recalRead_same0 (s : State) (u : UnitRead) : Same 8192 s (State.recalRead s u) := by
  unfold State.recalRead
  (try dsimp only)
  (repeat' split) <;> simp [foldl_same]
@[simp] theorem State.recalRead_same {msk : Nat} (hq : 8192 &&& msk = 8192) (s₀ : State) (s : State) (u : UnitRead) :
    Same msk s₀ (State.recalRead s u) = Same msk s₀ s := ((State.recalRead_same0 s u).mono hq).of_step
theorem State.ladderFails_same0 (s : State) (rid : Nat) (u : UnitRead) (queued : Bool) : Same 3473406 s (State.ladderFails s rid u queued) := by
  unfold State.ladderFails
  (try dsimp only)
  (repeat' split) <;> simp [foldl_same]
@[simp] theorem State.ladderFails_same {msk : Nat} (hq : 3473406 &&& msk = 3473406) (s₀ : State) (s : State) (rid : Nat) (u : UnitRead) (queued : Bool) :
    Same msk s₀ (State.ladderFails s rid u queued) = Same msk s₀ s := ((State.ladderFails_same0 s rid u queued).mono hq).of_step
theorem State.retentionCheck_same0 (s : State) (die : Nat) : Same 16388 s (State.retentionCheck s die) := by
  unfold State.retentionCheck
  (try dsimp only)
  repeat' first | (simp [foldl_same]; done) | intro _ | split | (refine Same.foldl ?_ ?_) | simp [foldl_same]
@[simp] theorem State.retentionCheck_same {msk : Nat} (hq : 16388 &&& msk = 16388) (s₀ : State) (s : State) (die : Nat) :
    Same msk s₀ (State.retentionCheck s die) = Same msk s₀ s := ((State.retentionCheck_same0 s die).mono hq).of_step
theorem State.countWindow_same0 (s : State) (die : Nat) (med : Nat × Nat) : Same 2048 s (State.countWindow s die med) := by
  unfold State.countWindow
  (try dsimp only)
  (repeat' split) <;> simp [foldl_same]
@[simp] theorem State.countWindow_same {msk : Nat} (hq : 2048 &&& msk = 2048) (s₀ : State) (s : State) (die : Nat) (med : Nat × Nat) :
    Same msk s₀ (State.countWindow s die med) = Same msk s₀ s := ((State.countWindow_same0 s die med).mono hq).of_step
theorem State.benchLink_same0 (s : State) (n : Nat) (med : Nat) : Same 2048 s (State.benchLink s n med) := by
  unfold State.benchLink
  (try dsimp only)
  (repeat' split) <;> simp [foldl_same]
@[simp] theorem State.benchLink_same {msk : Nat} (hq : 2048 &&& msk = 2048) (s₀ : State) (s : State) (n : Nat) (med : Nat) :
    Same msk s₀ (State.benchLink s n med) = Same msk s₀ s := ((State.benchLink_same0 s n med).mono hq).of_step
theorem State.benchDie_same0 (s : State) (die : Nat) (med : Nat × Nat) : Same 2052 s (State.benchDie s die med) := by
  unfold State.benchDie
  (try dsimp only)
  (repeat' split) <;> simp [foldl_same]
@[simp] theorem State.benchDie_same {msk : Nat} (hq : 2052 &&& msk = 2052) (s₀ : State) (s : State) (die : Nat) (med : Nat × Nat) :
    Same msk s₀ (State.benchDie s die med) = Same msk s₀ s := ((State.benchDie_same0 s die med).mono hq).of_step
theorem State.benchStep_same0 (s : State) (die : Nat) (med : Nat × Nat) (linkBack : Bool) : Same 2052 s (State.benchStep s die med linkBack) := by
  unfold State.benchStep
  (try dsimp only)
  (repeat' split) <;> simp [foldl_same]
@[simp] theorem State.benchStep_same {msk : Nat} (hq : 2052 &&& msk = 2052) (s₀ : State) (s : State) (die : Nat) (med : Nat × Nat) (linkBack : Bool) :
    Same msk s₀ (State.benchStep s die med linkBack) = Same msk s₀ s := ((State.benchStep_same0 s die med linkBack).mono hq).of_step
theorem State.windowBenched_same0 (s : State) : Same 2052 s (State.windowBenched s) := by
  unfold State.windowBenched
  dsimp only
  refine Same.foldl (fun s x => by simp) (Same.foldl (fun s x => ?_) (Same.foldl (fun s x => by simp) (by simp)))
  split <;> simp
@[simp] theorem State.windowBenched_same {msk : Nat} (hq : 2052 &&& msk = 2052) (s₀ : State) (s : State) :
    Same msk s₀ (State.windowBenched s) = Same msk s₀ s := ((State.windowBenched_same0 s).mono hq).of_step
theorem State.putCk_same0 (s : State) (kind : Nat) (c : Ckpt) : Same 16384 s (State.putCk s kind c) := by
  unfold State.putCk
  (try dsimp only)
  (repeat' split) <;> simp [foldl_same]
@[simp] theorem State.putCk_same {msk : Nat} (hq : 16384 &&& msk = 16384) (s₀ : State) (s : State) (kind : Nat) (c : Ckpt) :
    Same msk s₀ (State.putCk s kind c) = Same msk s₀ s := ((State.putCk_same0 s kind c).mono hq).of_step
theorem State.chooseCkSets_same1 {s : State} {dies : List Nat} {kind fuel k left : Nat} {x : State × List (Nat × List (Nat × Nat))}
    (h : s.chooseCkSets dies kind fuel k left = some x) : Same 16384 s x.1 := by
  induction fuel generalizing s k left x with
  | zero => simp [State.chooseCkSets] at h
  | succ fuel ih =>
    rw [State.chooseCkSets] at h
    split at h
    · cases h
    · rename_i ms _
      dsimp only at h
      have m : Same 16384 s (ms.zipIdx.foldl (fun (s : State) m => s.setBlk m.1.1 m.1.2 fun b =>
          { b with st := .system, setid := ckSetId kind k, member := m.2 }) s) := Same.foldl (fun s x => by simp) (Same.refl _ _)
      split at h
      · cases h; exact m
      · simp only [Option.map_eq_some_iff] at h
        obtain ⟨y, hy, rfl⟩ := h
        exact m.trans (ih hy :)
theorem State.cutCkpt_same0 (s : State) (kind : Nat) : Same 16800 s (State.cutCkpt s kind) := by
  unfold State.cutCkpt
  extract_lets x t c seq c2 u
  have k : Same 16800 s t := by
    show Same _ s ((s.ckSets kind).getD (s, [])).1
    cases h : s.ckSets kind with
    | none => exact Same.refl _ _
    | some y => exact (State.chooseCkSets_same1 h).mono (by decide)
  rw [State.journal_same (by decide), same_withMed (by decide), State.putCk_same (by decide)]
  exact k
@[simp] theorem State.cutCkpt_same {msk : Nat} (hq : 16800 &&& msk = 16800) (s₀ : State) (s : State) (kind : Nat) :
    Same msk s₀ (State.cutCkpt s kind) = Same msk s₀ s := ((State.cutCkpt_same0 s kind).mono hq).of_step
theorem State.dropCkSets_same0 (s : State) (sets : List (Nat × List (Nat × Nat))) : Same 24992 s (State.dropCkSets s sets) := by
  unfold State.dropCkSets
  (try dsimp only)
  repeat' first | (simp [foldl_same]; done) | intro _ | split | (refine Same.foldl ?_ ?_) | simp [foldl_same]
@[simp] theorem State.dropCkSets_same {msk : Nat} (hq : 24992 &&& msk = 24992) (s₀ : State) (s : State) (sets : List (Nat × List (Nat × Nat))) :
    Same msk s₀ (State.dropCkSets s sets) = Same msk s₀ s := ((State.dropCkSets_same0 s sets).mono hq).of_step
theorem State.copyUnit_same0 (s : State) (setid : Nat) (r : SetRec) (nsix lba entry : Nat) : Same 3196860 s ((State.copyUnit s setid r nsix lba entry).1) := by
  unfold State.copyUnit
  (try dsimp only)
  (repeat' split) <;> simp [foldl_same]
@[simp] theorem State.copyUnit_same {msk : Nat} (hq : 3196860 &&& msk = 3196860) (s₀ : State) (s : State) (setid : Nat) (r : SetRec) (nsix lba entry : Nat) :
    Same msk s₀ ((State.copyUnit s setid r nsix lba entry).1) = Same msk s₀ s := ((State.copyUnit_same0 s setid r nsix lba entry).mono hq).of_step
theorem State.copyStaged_same0 (s : State) (setid : Nat) (r : SetRec) (key place : Nat) : Same 3196860 s ((State.copyStaged s setid r key place).1) := by
  unfold State.copyStaged
  (try dsimp only)
  repeat' split
  all_goals first | (simp [foldl_same]; done) | ((try simp [foldl_same]); exact (State.openStaging_same1 (by assumption)).mono (by decide))
@[simp] theorem State.copyStaged_same {msk : Nat} (hq : 3196860 &&& msk = 3196860) (s₀ : State) (s : State) (setid : Nat) (r : SetRec) (key place : Nat) :
    Same msk s₀ ((State.copyStaged s setid r key place).1) = Same msk s₀ s := ((State.copyStaged_same0 s setid r key place).mono hq).of_step
theorem State.eraseSuper_same0 (s : State) (setid : Nat) : Same 28580 s (State.eraseSuper s setid) := by
  unfold State.eraseSuper
  (try dsimp only)
  (repeat' split) <;> simp [foldl_same]
@[simp] theorem State.eraseSuper_same {msk : Nat} (hq : 28580 &&& msk = 28580) (s₀ : State) (s : State) (setid : Nat) :
    Same msk s₀ (State.eraseSuper s setid) = Same msk s₀ s := ((State.eraseSuper_same0 s setid).mono hq).of_step
theorem State.startRelocation_same0 (s : State) (setid : Nat) (r : SetRec) : Same 3196860 s (State.startRelocation s setid r) := by
  unfold State.startRelocation
  dsimp only
  rw [same_withMed (by decide)]
  refine foldl_same_fst _ (fun a x => ?_) _ (_, _)
  (repeat' split) <;> simp
@[simp] theorem State.startRelocation_same {msk : Nat} (hq : 3196860 &&& msk = 3196860) (s₀ : State) (s : State) (setid : Nat) (r : SetRec) :
    Same msk s₀ (State.startRelocation s setid r) = Same msk s₀ s := ((State.startRelocation_same0 s setid r).mono hq).of_step
theorem State.countClean_same0 (s : State) (setid : Nat) : Same 512 s (State.countClean s setid) := by
  unfold State.countClean
  (try dsimp only)
  (repeat' split) <;> simp [foldl_same]
@[simp] theorem State.countClean_same {msk : Nat} (hq : 512 &&& msk = 512) (s₀ : State) (s : State) (setid : Nat) :
    Same msk s₀ (State.countClean s setid) = Same msk s₀ s := ((State.countClean_same0 s setid).mono hq).of_step
theorem State.commitRecord_same0 (s : State) (x : Nat × Nat × Nat × Nat) : Same 416 s ((State.commitRecord s x).1) := by
  unfold State.commitRecord
  (try dsimp only)
  (repeat' split) <;> simp [foldl_same]
@[simp] theorem State.commitRecord_same {msk : Nat} (hq : 416 &&& msk = 416) (s₀ : State) (s : State) (x : Nat × Nat × Nat × Nat) :
    Same msk s₀ ((State.commitRecord s x).1) = Same msk s₀ s := ((State.commitRecord_same0 s x).mono hq).of_step
theorem State.commitCopies_same0 (s : State) (setid : Nat) (r : Reloc) (closed : List RelCopy) : Same 17312 s (State.commitCopies s setid r closed) := by
  unfold State.commitCopies
  dsimp only
  rw [same_withMed (by decide)]
  refine Same.foldl (fun s x => by simp) ?_
  refine Same.trans ?_ (foldl_same_fst _ (fun a x => ?_) _ (_, _))
  · exact Same.foldl (fun s x => by simp) (Same.refl _ _)
  · simp
@[simp] theorem State.commitCopies_same {msk : Nat} (hq : 17312 &&& msk = 17312) (s₀ : State) (s : State) (setid : Nat) (r : Reloc) (closed : List RelCopy) :
    Same msk s₀ (State.commitCopies s setid r closed) = Same msk s₀ s := ((State.commitCopies_same0 s setid r closed).mono hq).of_step
theorem State.maintRead_same0 (s : State) (setid : Nat) (r : SetRec) (m row : Nat) (fn : Option Nat) (last : Bool) : Same 15360 s (State.maintRead s setid r m row fn last) := by
  unfold State.maintRead
  (try dsimp only)
  repeat' first | (simp [foldl_same]; done) | intro _ | split | (refine Same.foldl ?_ ?_) | simp [foldl_same]
@[simp] theorem State.maintRead_same {msk : Nat} (hq : 15360 &&& msk = 15360) (s₀ : State) (s : State) (setid : Nat) (r : SetRec) (m row : Nat) (fn : Option Nat) (last : Bool) :
    Same msk s₀ (State.maintRead s setid r m row fn last) = Same msk s₀ s := ((State.maintRead_same0 s setid r m row fn last).mono hq).of_step
theorem State.minuteIn_same0 (s : State) (scope : Nat) (dies : List Nat) : Same 16384 s (State.minuteIn s scope dies) := by
  unfold State.minuteIn
  (try dsimp only)
  (repeat' split) <;> simp [foldl_same]
@[simp] theorem State.minuteIn_same {msk : Nat} (hq : 16384 &&& msk = 16384) (s₀ : State) (s : State) (scope : Nat) (dies : List Nat) :
    Same msk s₀ (State.minuteIn s scope dies) = Same msk s₀ s := ((State.minuteIn_same0 s scope dies).mono hq).of_step
theorem State.powerOff_same0 (s : State) (vaux : Bool) : Same 54525951 s (State.powerOff s vaux) := by
  unfold State.powerOff
  refine ((State.cutProgram_same0 s).mono (q := 54525951) (by decide)).trans ?_
  generalize s.cutProgram = t
  unfold Same
  refine ⟨?_,?_,?_,?_,?_,?_,?_,?_,?_,?_,?_,?_,?_,?_,?_,?_,?_,?_,?_,?_,?_,?_,?_,?_,?_,?_⟩ <;> intro h <;> first | rfl | exact absurd h (by decide)
@[simp] theorem State.powerOff_same {msk : Nat} (hq : 54525951 &&& msk = 54525951) (s₀ : State) (s : State) (vaux : Bool) :
    Same msk s₀ (State.powerOff s vaux) = Same msk s₀ s := ((State.powerOff_same0 s vaux).mono hq).of_step
theorem State.restart_same0 (s : State) (rtype : Nat) : Same 917508 s (State.restart s rtype) := by
  unfold State.restart
  (try dsimp only)
  (repeat' split) <;> simp [foldl_same]
@[simp] theorem State.restart_same {msk : Nat} (hq : 917508 &&& msk = 917508) (s₀ : State) (s : State) (rtype : Nat) :
    Same msk s₀ (State.restart s rtype) = Same msk s₀ s := ((State.restart_same0 s rtype).mono hq).of_step
theorem State.afterPower_same0 (s : State) (rtype : Nat) : Same 54525951 s (State.afterPower s rtype) := by
  unfold State.afterPower
  (try dsimp only)
  (repeat' split) <;> simp [foldl_same]
@[simp] theorem State.afterPower_same {msk : Nat} (hq : 54525951 &&& msk = 54525951) (s₀ : State) (s : State) (rtype : Nat) :
    Same msk s₀ (State.afterPower s rtype) = Same msk s₀ s := ((State.afterPower_same0 s rtype).mono hq).of_step
theorem State.startFlush_same0 (s : State) (cause : Nat) : Same 54525951 s (State.startFlush s cause) := by
  unfold State.startFlush
  (try dsimp only)
  (repeat' split) <;> simp [foldl_same]
@[simp] theorem State.startFlush_same {msk : Nat} (hq : 54525951 &&& msk = 54525951) (s₀ : State) (s : State) (cause : Nat) :
    Same msk s₀ (State.startFlush s cause) = Same msk s₀ s := ((State.startFlush_same0 s cause).mono hq).of_step
theorem State.writeHldCtl_same0 (s : State) (v : Nat) : Same 54525951 s (State.writeHldCtl s v) := by
  unfold State.writeHldCtl
  (try dsimp only)
  (repeat' split) <;> simp [foldl_same]
@[simp] theorem State.writeHldCtl_same {msk : Nat} (hq : 54525951 &&& msk = 54525951) (s₀ : State) (s : State) (v : Nat) :
    Same msk s₀ (State.writeHldCtl s v) = Same msk s₀ s := ((State.writeHldCtl_same0 s v).mono hq).of_step
theorem State.composeImage_same0 (s : State) : Same 128 s (State.composeImage s) := by
  unfold State.composeImage
  (try dsimp only)
  (repeat' split) <;> simp [foldl_same]
@[simp] theorem State.composeImage_same {msk : Nat} (hq : 128 &&& msk = 128) (s₀ : State) (s : State) :
    Same msk s₀ (State.composeImage s) = Same msk s₀ s := ((State.composeImage_same0 s).mono hq).of_step
theorem State.putImage_same0 (s : State) (i : Image) : Same 128 s (State.putImage s i) := by
  unfold State.putImage
  (try dsimp only)
  (repeat' split) <;> simp [foldl_same]
@[simp] theorem State.putImage_same {msk : Nat} (hq : 128 &&& msk = 128) (s₀ : State) (s : State) (i : Image) :
    Same msk s₀ (State.putImage s i) = Same msk s₀ s := ((State.putImage_same0 s i).mono hq).of_step
theorem State.cutImage_same0 (s : State) : Same 2097280 s (State.cutImage s) := by
  unfold State.cutImage
  (try dsimp only)
  (repeat' split) <;> simp [foldl_same]
@[simp] theorem State.cutImage_same {msk : Nat} (hq : 2097280 &&& msk = 2097280) (s₀ : State) (s : State) :
    Same msk s₀ (State.cutImage s) = Same msk s₀ s := ((State.cutImage_same0 s).mono hq).of_step
theorem State.capTakeCsn_same0 (s : State) (n : Nat) (r : CapRing) (u : CapUnit) (rest : List CapUnit) (entry nsix : Nat) : Same 2016 s (State.capTakeCsn s n r u rest entry nsix) := by
  unfold State.capTakeCsn
  (try dsimp only)
  (repeat' split) <;> simp [foldl_same]
@[simp] theorem State.capTakeCsn_same {msk : Nat} (hq : 2016 &&& msk = 2016) (s₀ : State) (s : State) (n : Nat) (r : CapRing) (u : CapUnit) (rest : List CapUnit) (entry nsix : Nat) :
    Same msk s₀ (State.capTakeCsn s n r u rest entry nsix) = Same msk s₀ s := ((State.capTakeCsn_same0 s n r u rest entry nsix).mono hq).of_step
theorem State.releaseSpans_same0 (s : State) (n : Nat) : Same 108 s (State.releaseSpans s n) := by
  unfold State.releaseSpans
  (try dsimp only)
  repeat' first | (simp [foldl_same]; done) | intro _ | split | (refine Same.foldl ?_ ?_) | simp [foldl_same]
@[simp] theorem State.releaseSpans_same {msk : Nat} (hq : 108 &&& msk = 108) (s₀ : State) (s : State) (n : Nat) :
    Same msk s₀ (State.releaseSpans s n) = Same msk s₀ s := ((State.releaseSpans_same0 s n).mono hq).of_step
theorem State.capAccept_same0 (s : State) (n : Nat) (r : CapRing) (u : CapUnit) (csn : Nat) (rest : List (CapUnit × Nat)) (entry : Nat) : Same 2028 s (State.capAccept s n r u csn rest entry) := by
  unfold State.capAccept
  (try dsimp only)
  (repeat' split) <;> simp [foldl_same]
@[simp] theorem State.capAccept_same {msk : Nat} (hq : 2028 &&& msk = 2028) (s₀ : State) (s : State) (n : Nat) (r : CapRing) (u : CapUnit) (csn : Nat) (rest : List (CapUnit × Nat)) (entry : Nat) :
    Same msk s₀ (State.capAccept s n r u csn rest entry) = Same msk s₀ s := ((State.capAccept_same0 s n r u csn rest entry).mono hq).of_step
theorem State.capNext_same0 (s : State) (ring : Nat) (r : CapRing) : Same 2016 s (State.capNext s ring r) := by
  unfold State.capNext
  (try dsimp only)
  (repeat' split) <;> simp [foldl_same]
@[simp] theorem State.capNext_same {msk : Nat} (hq : 2016 &&& msk = 2016) (s₀ : State) (s : State) (ring : Nat) (r : CapRing) :
    Same msk s₀ (State.capNext s ring r) = Same msk s₀ s := ((State.capNext_same0 s ring r).mono hq).of_step
theorem State.pushCredit_same0 (s : State) (n : Nat) : Same 8 s (State.pushCredit s n) := by
  unfold State.pushCredit
  (try dsimp only)
  (repeat' split) <;> simp [foldl_same]
@[simp] theorem State.pushCredit_same {msk : Nat} (hq : 8 &&& msk = 8) (s₀ : State) (s : State) (n : Nat) :
    Same msk s₀ (State.pushCredit s n) = Same msk s₀ s := ((State.pushCredit_same0 s n).mono hq).of_step
theorem State.takeSpan_same0 (s : State) (n g : Nat) : Same 108 s (State.takeSpan s n g) := by
  unfold State.takeSpan
  (try dsimp only)
  (repeat' split) <;> simp [foldl_same]
@[simp] theorem State.takeSpan_same {msk : Nat} (hq : 108 &&& msk = 108) (s₀ : State) (s : State) (n g : Nat) :
    Same msk s₀ (State.takeSpan s n g) = Same msk s₀ s := ((State.takeSpan_same0 s n g).mono hq).of_step
theorem State.deliver_same0 (s : State) (who : BufWho) (p g : Nat) : Same 364 s (State.deliver s who p g) := by
  unfold State.deliver
  (try dsimp only)
  (repeat' split) <;> simp [foldl_same]
@[simp] theorem State.deliver_same {msk : Nat} (hq : 364 &&& msk = 364) (s₀ : State) (s : State) (who : BufWho) (p g : Nat) :
    Same msk s₀ (State.deliver s who p g) = Same msk s₀ s := ((State.deliver_same0 s who p g).mono hq).of_step
theorem State.serve_same0 (s : State) (r : BufReq) (g : Nat) : Same 364 s (State.serve s r g) := by
  unfold State.serve
  (try dsimp only)
  (repeat' split) <;> simp [foldl_same]
@[simp] theorem State.serve_same {msk : Nat} (hq : 364 &&& msk = 364) (s₀ : State) (s : State) (r : BufReq) (g : Nat) :
    Same msk s₀ (State.serve s r g) = Same msk s₀ s := ((State.serve_same0 s r g).mono hq).of_step
theorem State.feedRing_same0 (s : State) (n k : Nat) : Same 100 s (s.feedRing n k) := by
  induction k generalizing s with
  | zero => simp [State.feedRing]
  | succ k ih =>
    simp only [State.feedRing]
    (repeat' split) <;> first | (simp; done) | exact Same.trans (by first | (simp; done) | (repeat' split) <;> simp) (ih _)
@[simp] theorem State.feedRing_same {msk : Nat} (hq : 100 &&& msk = 100) (s₀ s : State) (n k : Nat) :
    Same msk s₀ (s.feedRing n k) = Same msk s₀ s := ((State.feedRing_same0 s n k).mono hq).of_step
theorem State.pushZone_same0 (s : State) (ring zone : Nat) : Same 20452 s (State.pushZone s ring zone) := by
  unfold State.pushZone
  (try dsimp only)
  repeat' split
  all_goals first | (simp [foldl_same]; done) | ((try simp [foldl_same]); exact (State.bindLate_same1 (by assumption)).mono (by decide))
@[simp] theorem State.pushZone_same {msk : Nat} (hq : 20452 &&& msk = 20452) (s₀ : State) (s : State) (ring zone : Nat) :
    Same msk s₀ (State.pushZone s ring zone) = Same msk s₀ s := ((State.pushZone_same0 s ring zone).mono hq).of_step
theorem State.armRing_same0 (s : State) (ring : Nat) : Same 2130020 s (State.armRing s ring) := by
  unfold State.armRing
  (try dsimp only)
  (repeat' split) <;> simp [State.drew]
@[simp] theorem State.armRing_same {msk : Nat} (hq : 2130020 &&& msk = 2130020) (s₀ : State) (s : State) (ring : Nat) :
    Same msk s₀ (State.armRing s ring) = Same msk s₀ s := ((State.armRing_same0 s ring).mono hq).of_step
theorem State.writeCapCtl_same0 (s : State) (ring v : Nat) : Same 2130916 s (State.writeCapCtl s ring v) := by
  unfold State.writeCapCtl
  (try dsimp only)
  (repeat' split) <;> simp [foldl_same]
@[simp] theorem State.writeCapCtl_same {msk : Nat} (hq : 2130916 &&& msk = 2130916) (s₀ : State) (s : State) (ring v : Nat) :
    Same msk s₀ (State.writeCapCtl s ring v) = Same msk s₀ s := ((State.writeCapCtl_same0 s ring v).mono hq).of_step
theorem State.endRelease_same0 (s : State) (ring : Nat) : Same 1004 s (State.endRelease s ring) := by
  unfold State.endRelease
  (try dsimp only)
  repeat' first | (simp [foldl_same]; done) | intro _ | split | (refine Same.foldl ?_ ?_) | simp [foldl_same]
@[simp] theorem State.endRelease_same {msk : Nat} (hq : 1004 &&& msk = 1004) (s₀ : State) (s : State) (ring : Nat) :
    Same msk s₀ (State.endRelease s ring) = Same msk s₀ s := ((State.endRelease_same0 s ring).mono hq).of_step
theorem State.markSystem_same0 (s : State) : Same 16384 s (State.markSystem s) := by
  unfold State.markSystem
  (try dsimp only)
  repeat' first | (simp [foldl_same]; done) | intro _ | split | (refine Same.foldl ?_ ?_) | simp [foldl_same]
@[simp] theorem State.markSystem_same {msk : Nat} (hq : 16384 &&& msk = 16384) (s₀ : State) (s : State) :
    Same msk s₀ (State.markSystem s) = Same msk s₀ s := ((State.markSystem_same0 s).mono hq).of_step
theorem State.checkCkpts_same0 (s : State) : Same 16384 s (State.checkCkpts s) := by
  unfold State.checkCkpts
  (try dsimp only)
  (repeat' split) <;> simp [foldl_same]
@[simp] theorem State.checkCkpts_same {msk : Nat} (hq : 16384 &&& msk = 16384) (s₀ : State) (s : State) :
    Same msk s₀ (State.checkCkpts s) = Same msk s₀ s := ((State.checkCkpts_same0 s).mono hq).of_step
theorem State.restoreTables_same0 (s : State) : Same 28160 s (State.restoreTables s) := by
  unfold State.restoreTables
  (try dsimp only)
  (repeat' split) <;> simp [foldl_same]
@[simp] theorem State.restoreTables_same {msk : Nat} (hq : 28160 &&& msk = 28160) (s₀ : State) (s : State) :
    Same msk s₀ (State.restoreTables s) = Same msk s₀ s := ((State.restoreTables_same0 s).mono hq).of_step
theorem State.markFactoryBad_same0 (s : State) : Same 16384 s (State.markFactoryBad s) := by
  unfold State.markFactoryBad
  (try dsimp only)
  (repeat' split) <;> simp [foldl_same]
@[simp] theorem State.markFactoryBad_same {msk : Nat} (hq : 16384 &&& msk = 16384) (s₀ : State) (s : State) :
    Same msk s₀ (State.markFactoryBad s) = Same msk s₀ s := ((State.markFactoryBad_same0 s).mono hq).of_step
theorem State.ageDies_same0 (s : State) (img : Option Image) : Same 8192 s (State.ageDies s img) := by
  unfold State.ageDies
  (try dsimp only)
  (repeat' split) <;> simp [foldl_same]
@[simp] theorem State.ageDies_same {msk : Nat} (hq : 8192 &&& msk = 8192) (s₀ : State) (s : State) (img : Option Image) :
    Same msk s₀ (State.ageDies s img) = Same msk s₀ s := ((State.ageDies_same0 s img).mono hq).of_step
theorem State.replayZone_same0 (s : State) (r : JRec) (e action zs wpoff zcap bindCsn : Nat) (members : List (Nat × Nat)) : Same 17920 s (State.replayZone s r e action zs wpoff zcap bindCsn members) := by
  unfold State.replayZone
  (try dsimp only)
  (repeat' split) <;> simp [foldl_same]
@[simp] theorem State.replayZone_same {msk : Nat} (hq : 17920 &&& msk = 17920) (s₀ : State) (s : State) (r : JRec) (e action zs wpoff zcap bindCsn : Nat) (members : List (Nat × Nat)) :
    Same msk s₀ (State.replayZone s r e action zs wpoff zcap bindCsn members) = Same msk s₀ s := ((State.replayZone_same0 s r e action zs wpoff zcap bindCsn members).mono hq).of_step
theorem State.replayMark_same0 (s : State) (nsix lba n : Nat) : Same 512 s (State.replayMark s nsix lba n) := by
  unfold State.replayMark
  (try dsimp only)
  (repeat' split) <;> simp [foldl_same]
@[simp] theorem State.replayMark_same {msk : Nat} (hq : 512 &&& msk = 512) (s₀ : State) (s : State) (nsix lba n : Nat) :
    Same msk s₀ (State.replayMark s nsix lba n) = Same msk s₀ s := ((State.replayMark_same0 s nsix lba n).mono hq).of_step
theorem State.replayNs_same0 (s : State) (kept : AMap Ns) (r : JRec) (nsix action kind lbaf nph nsze nsid : Nat) : Same 512 s (State.replayNs s kept r nsix action kind lbaf nph nsze nsid) := by
  unfold State.replayNs
  (try dsimp only)
  (repeat' split) <;> simp [foldl_same]
@[simp] theorem State.replayNs_same {msk : Nat} (hq : 512 &&& msk = 512) (s₀ : State) (s : State) (kept : AMap Ns) (r : JRec) (nsix action kind lbaf nph nsze nsid : Nat) :
    Same msk s₀ (State.replayNs s kept r nsix action kind lbaf nph nsze nsid) = Same msk s₀ s := ((State.replayNs_same0 s kept r nsix action kind lbaf nph nsze nsid).mono hq).of_step
theorem State.replayDone_same0 (s : State) (is : Intents) (die block : Nat) : Same 16384 s ((State.replayDone s is die block).1) := by
  unfold State.replayDone
  (try dsimp only)
  (repeat' split) <;> simp [foldl_same]
@[simp] theorem State.replayDone_same {msk : Nat} (hq : 16384 &&& msk = 16384) (s₀ : State) (s : State) (is : Intents) (die block : Nat) :
    Same msk s₀ ((State.replayDone s is die block).1) = Same msk s₀ s := ((State.replayDone_same0 s is die block).mono hq).of_step
theorem State.replay1_same0 (kept : AMap Ns) (a : State × Intents) (r : JRec) : Same 17920 a.1 ((State.replay1 kept a r).1) := by
  unfold State.replay1
  dsimp only
  repeat' split
  all_goals first
    | exact Same.refl _ _
    | simp [foldl_same]
@[simp] theorem State.replay1_same {msk : Nat} (hq : 17920 &&& msk = 17920) (s₀ : State) (kept : AMap Ns) (a : State × Intents) (r : JRec) :
    Same msk s₀ ((State.replay1 kept a r).1) = Same msk s₀ a.1 := ((State.replay1_same0 kept a r).mono hq).of_step
theorem State.replayDrop_same0 (s : State) (setid : Nat) : Same 17920 s (State.replayDrop s setid) := by
  unfold State.replayDrop
  (try dsimp only)
  (repeat' split) <;> simp [foldl_same]
@[simp] theorem State.replayDrop_same {msk : Nat} (hq : 17920 &&& msk = 17920) (s₀ : State) (s : State) (setid : Nat) :
    Same msk s₀ (State.replayDrop s setid) = Same msk s₀ s := ((State.replayDrop_same0 s setid).mono hq).of_step
theorem State.replay2_same0 (img : Option Image) (s : State) (r : JRec) : Same 17920 s (State.replay2 img s r) := by
  unfold State.replay2
  (try dsimp only)
  (repeat' split) <;> simp [foldl_same]
@[simp] theorem State.replay2_same {msk : Nat} (hq : 17920 &&& msk = 17920) (s₀ : State) (img : Option Image) (s : State) (r : JRec) :
    Same msk s₀ (State.replay2 img s r) = Same msk s₀ s := ((State.replay2_same0 img s r).mono hq).of_step
theorem State.replayRecords_same0 (s : State) (img : Option Image) (kept : AMap Ns) : Same 17920 s ((State.replayRecords s img kept).1) := by
  unfold State.replayRecords
  dsimp only
  have k := foldl_same_fst (m := 17920) (State.replay1 kept) (fun a r => (State.replay1_same0 kept a r).mono (by decide)) (s.jnl.recs.filter s.med.ck1.before) (s, s.tableIntents)
  simp [foldl_same]
  exact k
@[simp] theorem State.replayRecords_same {msk : Nat} (hq : 17920 &&& msk = 17920) (s₀ : State) (s : State) (img : Option Image) (kept : AMap Ns) :
    Same msk s₀ ((State.replayRecords s img kept).1) = Same msk s₀ s := ((State.replayRecords_same0 s img kept).mono hq).of_step
theorem State.rederive_same0 (s : State) : Same 17920 s (State.rederive s) := by
  unfold State.rederive
  (try dsimp only)
  repeat' first | (simp [foldl_same]; done) | intro _ | split | (refine Same.foldl ?_ ?_) | simp [foldl_same]
@[simp] theorem State.rederive_same {msk : Nat} (hq : 17920 &&& msk = 17920) (s₀ : State) (s : State) :
    Same msk s₀ (State.rederive s) = Same msk s₀ s := ((State.rederive_same0 s).mono hq).of_step
theorem State.scanSet_same0 (s : State) (opened closed : List Nat) (setid : Nat) : Same 1024 s (State.scanSet s opened closed setid) := by
  unfold State.scanSet
  (try dsimp only)
  repeat' first | (simp [foldl_same]; done) | intro _ | split | (refine Same.foldl ?_ ?_) | simp [foldl_same]
@[simp] theorem State.scanSet_same {msk : Nat} (hq : 1024 &&& msk = 1024) (s₀ : State) (s : State) (opened closed : List Nat) (setid : Nat) :
    Same msk s₀ (State.scanSet s opened closed setid) = Same msk s₀ s := ((State.scanSet_same0 s opened closed setid).mono hq).of_step
theorem State.scanRows_same0 (s : State) : Same 1024 s (State.scanRows s) := by
  unfold State.scanRows
  (try dsimp only)
  (repeat' split) <;> simp [foldl_same]
@[simp] theorem State.scanRows_same {msk : Nat} (hq : 1024 &&& msk = 1024) (s₀ : State) (s : State) :
    Same msk s₀ (State.scanRows s) = Same msk s₀ s := ((State.scanRows_same0 s).mono hq).of_step
theorem State.refill_same0 (s : State) : Same 512 s (State.refill s) := by
  unfold State.refill
  (try dsimp only)
  (repeat' split) <;> simp [foldl_same]
@[simp] theorem State.refill_same {msk : Nat} (hq : 512 &&& msk = 512) (s₀ : State) (s : State) :
    Same msk s₀ (State.refill s) = Same msk s₀ s := ((State.refill_same0 s).mono hq).of_step
theorem State.indexStaged_same0 (s : State) (setid row d : Nat) (i : Info) : Same 1024 s (State.indexStaged s setid row d i) := by
  unfold State.indexStaged
  (try dsimp only)
  (repeat' split) <;> simp [foldl_same]
@[simp] theorem State.indexStaged_same {msk : Nat} (hq : 1024 &&& msk = 1024) (s₀ : State) (s : State) (setid row d : Nat) (i : Info) :
    Same msk s₀ (State.indexStaged s setid row d i) = Same msk s₀ s := ((State.indexStaged_same0 s setid row d i).mono hq).of_step
theorem State.rebuildStaging_same0 (s : State) : Same 1024 s (State.rebuildStaging s) := by
  unfold State.rebuildStaging
  (try dsimp only)
  repeat' first | (simp [foldl_same]; done) | intro _ | split | (refine Same.foldl ?_ ?_) | simp [foldl_same]
@[simp] theorem State.rebuildStaging_same {msk : Nat} (hq : 1024 &&& msk = 1024) (s₀ : State) (s : State) :
    Same msk s₀ (State.rebuildStaging s) = Same msk s₀ s := ((State.rebuildStaging_same0 s).mono hq).of_step
theorem State.reopenStaging_same0 (s : State) : Same 512 s (State.reopenStaging s) := by
  unfold State.reopenStaging
  (try dsimp only)
  repeat' first | (simp [foldl_same]; done) | intro _ | split | (refine Same.foldl ?_ ?_) | simp [foldl_same]
@[simp] theorem State.reopenStaging_same {msk : Nat} (hq : 512 &&& msk = 512) (s₀ : State) (s : State) :
    Same msk s₀ (State.reopenStaging s) = Same msk s₀ s := ((State.reopenStaging_same0 s).mono hq).of_step
theorem State.refillRow_same0 (s : State) (setid row : Nat) : Same 1024 s (State.refillRow s setid row) := by
  unfold State.refillRow
  (try dsimp only)
  (repeat' split) <;> simp [foldl_same]
@[simp] theorem State.refillRow_same {msk : Nat} (hq : 1024 &&& msk = 1024) (s₀ : State) (s : State) (setid row : Nat) :
    Same msk s₀ (State.refillRow s setid row) = Same msk s₀ s := ((State.refillRow_same0 s setid row).mono hq).of_step
theorem State.restoreUnit_same0 (s : State) (u : ImageUnit) (superseded : Bool) : Same 20396 s (State.restoreUnit s u superseded) := by
  unfold State.restoreUnit
  (try dsimp only)
  (repeat' split) <;> simp [foldl_same]
@[simp] theorem State.restoreUnit_same {msk : Nat} (hq : 20396 &&& msk = 20396) (s₀ : State) (s : State) (u : ImageUnit) (superseded : Bool) :
    Same msk s₀ (State.restoreUnit s u superseded) = Same msk s₀ s := ((State.restoreUnit_same0 s u superseded).mono hq).of_step
theorem State.replayOp_same0 (s : State) (x : Nat × ReplayOp) : Same 20396 s (State.replayOp s x) := by
  unfold State.replayOp
  (try dsimp only)
  (repeat' split) <;> simp [foldl_same]
@[simp] theorem State.replayOp_same {msk : Nat} (hq : 20396 &&& msk = 20396) (s₀ : State) (s : State) (x : Nat × ReplayOp) :
    Same msk s₀ (State.replayOp s x) = Same msk s₀ s := ((State.replayOp_same0 s x).mono hq).of_step
theorem State.replayMaps_same0 (s : State) (img : Option Image) (journal : Bool) : Same 20396 s (State.replayMaps s img journal) := by
  unfold State.replayMaps
  (try dsimp only)
  (repeat' split) <;> simp [foldl_same]
@[simp] theorem State.replayMaps_same {msk : Nat} (hq : 20396 &&& msk = 20396) (s₀ : State) (s : State) (img : Option Image) (journal : Bool) :
    Same msk s₀ (State.replayMaps s img journal) = Same msk s₀ s := ((State.replayMaps_same0 s img journal).mono hq).of_step
theorem State.restoreZone_same0 (s : State) (e : Nat) (z : Zone) : Same 512 s (State.restoreZone s e z) := by
  unfold State.restoreZone
  (try dsimp only)
  (repeat' split) <;> simp [foldl_same]
@[simp] theorem State.restoreZone_same {msk : Nat} (hq : 512 &&& msk = 512) (s₀ : State) (s : State) (e : Nat) (z : Zone) :
    Same msk s₀ (State.restoreZone s e z) = Same msk s₀ s := ((State.restoreZone_same0 s e z).mono hq).of_step
theorem State.endMarker_same0 (s : State) (e : Nat) (x : CapEnd) : Same 1952 s (State.endMarker s e x) := by
  unfold State.endMarker
  (try dsimp only)
  (repeat' split) <;> simp [foldl_same]
@[simp] theorem State.endMarker_same {msk : Nat} (hq : 1952 &&& msk = 1952) (s₀ : State) (s : State) (e : Nat) (x : CapEnd) :
    Same msk s₀ (State.endMarker s e x) = Same msk s₀ s := ((State.endMarker_same0 s e x).mono hq).of_step
theorem State.leaveCapture_same0 (s : State) (e : Nat) (z : Zone) : Same 1956 s (State.leaveCapture s e z) := by
  unfold State.leaveCapture
  (try dsimp only)
  (repeat' split) <;> simp [foldl_same]
@[simp] theorem State.leaveCapture_same {msk : Nat} (hq : 1956 &&& msk = 1956) (s₀ : State) (s : State) (e : Nat) (z : Zone) :
    Same msk s₀ (State.leaveCapture s e z) = Same msk s₀ s := ((State.leaveCapture_same0 s e z).mono hq).of_step
theorem State.padBelow_same0 (s : State) (e : Nat) : Same 1440 s (State.padBelow s e) := by
  unfold State.padBelow
  (try dsimp only)
  repeat' first | (simp [foldl_same]; done) | intro _ | split | (refine Same.foldl ?_ ?_) | simp [foldl_same]
@[simp] theorem State.padBelow_same {msk : Nat} (hq : 1440 &&& msk = 1440) (s₀ : State) (s : State) (e : Nat) :
    Same msk s₀ (State.padBelow s e) = Same msk s₀ s := ((State.padBelow_same0 s e).mono hq).of_step
theorem State.restoreZones_same0 (s : State) : Same 1956 s (State.restoreZones s) := by
  unfold State.restoreZones
  (try dsimp only)
  (repeat' split) <;> simp [foldl_same]
@[simp] theorem State.restoreZones_same {msk : Nat} (hq : 1956 &&& msk = 1956) (s₀ : State) (s : State) :
    Same msk s₀ (State.restoreZones s) = Same msk s₀ s := ((State.restoreZones_same0 s).mono hq).of_step
theorem State.programFull_same0 (s : State) (setid m : Nat) : Same 17900 s (State.programFull s setid m) := by
  unfold State.programFull
  (try dsimp only)
  repeat' first | (simp [foldl_same]; done) | intro _ | split | (refine Same.foldl ?_ ?_) | simp [foldl_same]
@[simp] theorem State.programFull_same {msk : Nat} (hq : 17900 &&& msk = 17900) (s₀ : State) (s : State) (setid m : Nat) :
    Same msk s₀ (State.programFull s setid m) = Same msk s₀ s := ((State.programFull_same0 s setid m).mono hq).of_step
theorem State.closeWhole_same0 (s : State) (setid : Nat) : Same 17900 s (State.closeWhole s setid) := by
  unfold State.closeWhole
  (try dsimp only)
  (repeat' split) <;> simp [foldl_same]
@[simp] theorem State.closeWhole_same {msk : Nat} (hq : 17900 &&& msk = 17900) (s₀ : State) (s : State) (setid : Nat) :
    Same msk s₀ (State.closeWhole s setid) = Same msk s₀ s := ((State.closeWhole_same0 s setid).mono hq).of_step
theorem State.finishSet_same0 (s : State) (setid : Nat) : Same 3207164 s (State.finishSet s setid) := by
  unfold State.finishSet
  dsimp only
  rw [State.closeWhole_same (by decide)]
  exact Same.foldl (fun s x => by simp) (Same.foldl (fun s x => by simp) (Same.refl _ _))
@[simp] theorem State.finishSet_same {msk : Nat} (hq : 3207164 &&& msk = 3207164) (s₀ : State) (s : State) (setid : Nat) :
    Same msk s₀ (State.finishSet s setid) = Same msk s₀ s := ((State.finishSet_same0 s setid).mono hq).of_step
theorem State.closeSuper_same0 (s : State) (setid : Nat) : Same 1952 s (State.closeSuper s setid) := by
  unfold State.closeSuper
  (try dsimp only)
  repeat' first | (simp [foldl_same]; done) | intro _ | split | (refine Same.foldl ?_ ?_) | simp [foldl_same]
@[simp] theorem State.closeSuper_same {msk : Nat} (hq : 1952 &&& msk = 1952) (s₀ : State) (s : State) (setid : Nat) :
    Same msk s₀ (State.closeSuper s setid) = Same msk s₀ s := ((State.closeSuper_same0 s setid).mono hq).of_step
theorem State.stageOpen_same0 (s : State) : Same 18340 s (State.stageOpen s) := by
  unfold State.stageOpen
  (try dsimp only)
  (repeat' split) <;> simp [foldl_same]
@[simp] theorem State.stageOpen_same {msk : Nat} (hq : 18340 &&& msk = 18340) (s₀ : State) (s : State) :
    Same msk s₀ (State.stageOpen s) = Same msk s₀ s := ((State.stageOpen_same0 s).mono hq).of_step
theorem State.finishStripes_same0 (s : State) : Same 3207164 s (State.finishStripes s) := by
  unfold State.finishStripes
  (try dsimp only)
  (repeat' split) <;> simp [foldl_same]
@[simp] theorem State.finishStripes_same {msk : Nat} (hq : 3207164 &&& msk = 3207164) (s₀ : State) (s : State) :
    Same msk s₀ (State.finishStripes s) = Same msk s₀ s := ((State.finishStripes_same0 s).mono hq).of_step
theorem State.eraseAgain_same0 (s : State) (die block : Nat) : Same 17312 s (State.eraseAgain s die block) := by
  unfold State.eraseAgain
  (try dsimp only)
  (repeat' split) <;> simp [foldl_same]
@[simp] theorem State.eraseAgain_same {msk : Nat} (hq : 17312 &&& msk = 17312) (s₀ : State) (s : State) (die block : Nat) :
    Same msk s₀ (State.eraseAgain s die block) = Same msk s₀ s := ((State.eraseAgain_same0 s die block).mono hq).of_step
theorem State.eraseRest_same0 (s : State) : Same 25504 s (State.eraseRest s) := by
  unfold State.eraseRest
  (try dsimp only)
  (repeat' split) <;> simp [foldl_same]
@[simp] theorem State.eraseRest_same {msk : Nat} (hq : 25504 &&& msk = 25504) (s₀ : State) (s : State) :
    Same msk s₀ (State.eraseRest s) = Same msk s₀ s := ((State.eraseRest_same0 s).mono hq).of_step
theorem State.markLost_same0 (s : State) (u : ImageUnit) : Same 1952 s (State.markLost s u) := by
  unfold State.markLost
  (try dsimp only)
  (repeat' split) <;> simp [foldl_same]
@[simp] theorem State.markLost_same {msk : Nat} (hq : 1952 &&& msk = 1952) (s₀ : State) (s : State) (u : ImageUnit) :
    Same msk s₀ (State.markLost s u) = Same msk s₀ s := ((State.markLost_same0 s u).mono hq).of_step
theorem State.markLosses_same0 (s : State) (img : Option Image) : Same 1952 s (State.markLosses s img) := by
  unfold State.markLosses
  (try dsimp only)
  (repeat' split) <;> simp [foldl_same]
@[simp] theorem State.markLosses_same {msk : Nat} (hq : 1952 &&& msk = 1952) (s₀ : State) (s : State) (img : Option Image) :
    Same msk s₀ (State.markLosses s img) = Same msk s₀ s := ((State.markLosses_same0 s img).mono hq).of_step
theorem State.reportRecord_same0 (s : State) (r : JRec) : Same 49724 s (State.reportRecord s r) := by
  unfold State.reportRecord
  (try dsimp only)
  (repeat' split) <;> simp [foldl_same]
@[simp] theorem State.reportRecord_same {msk : Nat} (hq : 49724 &&& msk = 49724) (s₀ : State) (s : State) (r : JRec) :
    Same msk s₀ (State.reportRecord s r) = Same msk s₀ s := ((State.reportRecord_same0 s r).mono hq).of_step
theorem State.reportFlushStripe_same0 (s : State) (i : Image) (k : Nat) : Same 1098812 s (State.reportFlushStripe s i k) := by
  unfold State.reportFlushStripe
  (try dsimp only)
  (repeat' split) <;> simp [foldl_same]
@[simp] theorem State.reportFlushStripe_same {msk : Nat} (hq : 1098812 &&& msk = 1098812) (s₀ : State) (s : State) (i : Image) (k : Nat) :
    Same msk s₀ (State.reportFlushStripe s i k) = Same msk s₀ s := ((State.reportFlushStripe_same0 s i k).mono hq).of_step
theorem State.reportRows_same0 (s : State) : Same 3196476 s (State.reportRows s) := by
  unfold State.reportRows
  (try dsimp only)
  repeat' first | (simp [foldl_same]; done) | intro _ | split | (refine Same.foldl ?_ ?_) | simp [foldl_same]
@[simp] theorem State.reportRows_same {msk : Nat} (hq : 3196476 &&& msk = 3196476) (s₀ : State) (s : State) :
    Same msk s₀ (State.reportRows s) = Same msk s₀ s := ((State.reportRows_same0 s).mono hq).of_step
theorem State.reportLosses_same0 (s : State) (img : Option Image) (gone : List JRec) : Same 1099324 s (State.reportLosses s img gone) := by
  unfold State.reportLosses
  (try dsimp only)
  repeat' first | (simp [foldl_same]; done) | intro _ | split | (refine Same.foldl ?_ ?_) | simp [foldl_same]
@[simp] theorem State.reportLosses_same {msk : Nat} (hq : 1099324 &&& msk = 1099324) (s₀ : State) (s : State) (img : Option Image) (gone : List JRec) :
    Same msk s₀ (State.reportLosses s img gone) = Same msk s₀ s := ((State.reportLosses_same0 s img gone).mono hq).of_step
theorem State.reportFlush_same0 (s : State) (img : Option Image) : Same 132 s (State.reportFlush s img) := by
  unfold State.reportFlush
  (try dsimp only)
  (repeat' split) <;> simp [foldl_same]
@[simp] theorem State.reportFlush_same {msk : Nat} (hq : 132 &&& msk = 132) (s₀ : State) (s : State) (img : Option Image) :
    Same msk s₀ (State.reportFlush s img) = Same msk s₀ s := ((State.reportFlush_same0 s img).mono hq).of_step
theorem State.resumeCsn_same0 (s : State) : Same 256 s (State.resumeCsn s) := by
  unfold State.resumeCsn
  (try dsimp only)
  (repeat' split) <;> simp [foldl_same]
@[simp] theorem State.resumeCsn_same {msk : Nat} (hq : 256 &&& msk = 256) (s₀ : State) (s : State) :
    Same msk s₀ (State.resumeCsn s) = Same msk s₀ s := ((State.resumeCsn_same0 s).mono hq).of_step
theorem State.settleJournal_same0 (s : State) : Same 3458046 s (State.settleJournal s) := by
  unfold State.settleJournal
  (try dsimp only)
  (repeat' split) <;> simp [foldl_same]
@[simp] theorem State.settleJournal_same {msk : Nat} (hq : 3458046 &&& msk = 3458046) (s₀ : State) (s : State) :
    Same msk s₀ (State.settleJournal s) = Same msk s₀ s := ((State.settleJournal_same0 s).mono hq).of_step
theorem State.findJournal_same0 (s : State) (img : Option Image) : Same 256 s ((State.findJournal s img).1) := by
  unfold State.findJournal
  (try dsimp only)
  (repeat' split) <;> simp [foldl_same]
@[simp] theorem State.findJournal_same {msk : Nat} (hq : 256 &&& msk = 256) (s₀ : State) (s : State) (img : Option Image) :
    Same msk s₀ ((State.findJournal s img).1) = Same msk s₀ s := ((State.findJournal_same0 s img).mono hq).of_step
theorem State.recover_same0 (s : State) : Same 3469310 s (State.recover s) := by
  unfold State.recover
  (try dsimp only)
  repeat' first | (simp [foldl_same]; done) | intro _ | split | (refine Same.foldl ?_ ?_) | simp [foldl_same]
@[simp] theorem State.recover_same {msk : Nat} (hq : 3469310 &&& msk = 3469310) (s₀ : State) (s : State) :
    Same msk s₀ (State.recover s) = Same msk s₀ s := ((State.recover_same0 s).mono hq).of_step
theorem State.appendBoot_same0 (s : State) (slot trial : Nat) : Same 262144 s (State.appendBoot s slot trial) := by
  unfold State.appendBoot
  (try dsimp only)
  (repeat' split) <;> simp [foldl_same]
@[simp] theorem State.appendBoot_same {msk : Nat} (hq : 262144 &&& msk = 262144) (s₀ : State) (s : State) (slot trial : Nat) :
    Same msk s₀ (State.appendBoot s slot trial) = Same msk s₀ s := ((State.appendBoot_same0 s slot trial).mono hq).of_step
theorem State.chooseSlot_same0 (s : State) : Same 262144 s ((State.chooseSlot s).1) := by
  unfold State.chooseSlot
  (try dsimp only)
  (repeat' split) <;> simp [foldl_same]
@[simp] theorem State.chooseSlot_same {msk : Nat} (hq : 262144 &&& msk = 262144) (s₀ : State) (s : State) :
    Same msk s₀ ((State.chooseSlot s).1) = Same msk s₀ s := ((State.chooseSlot_same0 s).mono hq).of_step
theorem State.raiseFloor_same0 (s : State) (slot : Nat) : Same 8421380 s (State.raiseFloor s slot) := by
  unfold State.raiseFloor
  (try dsimp only)
  (repeat' split) <;> simp [foldl_same]
@[simp] theorem State.raiseFloor_same {msk : Nat} (hq : 8421380 &&& msk = 8421380) (s₀ : State) (s : State) (slot : Nat) :
    Same msk s₀ (State.raiseFloor s slot) = Same msk s₀ s := ((State.raiseFloor_same0 s slot).mono hq).of_step
theorem State.recoveryMode_same0 (s : State) (cause : Nat) : Same 262156 s (State.recoveryMode s cause) := by
  unfold State.recoveryMode
  (try dsimp only)
  (repeat' split) <;> simp [foldl_same]
@[simp] theorem State.recoveryMode_same {msk : Nat} (hq : 262156 &&& msk = 262156) (s₀ : State) (s : State) (cause : Nat) :
    Same msk s₀ (State.recoveryMode s cause) = Same msk s₀ s := ((State.recoveryMode_same0 s cause).mono hq).of_step
theorem State.eraseSector_same0 (s : State) (x : Nat) : Same 17039360 s (State.eraseSector s x) := by
  unfold State.eraseSector
  (try dsimp only)
  (repeat' split) <;> simp [foldl_same]
@[simp] theorem State.eraseSector_same {msk : Nat} (hq : 17039360 &&& msk = 17039360) (s₀ : State) (s : State) (x : Nat) :
    Same msk s₀ (State.eraseSector s x) = Same msk s₀ s := ((State.eraseSector_same0 s x).mono hq).of_step
theorem State.resolveFlags_same0 (s : State) : Same 17039364 s (State.resolveFlags s) := by
  unfold State.resolveFlags
  (try dsimp only)
  (repeat' split) <;> simp [foldl_same]
@[simp] theorem State.resolveFlags_same {msk : Nat} (hq : 17039364 &&& msk = 17039364) (s₀ : State) (s : State) :
    Same msk s₀ (State.resolveFlags s) = Same msk s₀ s := ((State.resolveFlags_same0 s).mono hq).of_step
theorem State.reportStart_same0 (s : State) : Same 262148 s (State.reportStart s) := by
  unfold State.reportStart
  (try dsimp only)
  (repeat' split) <;> simp [foldl_same]
@[simp] theorem State.reportStart_same {msk : Nat} (hq : 262148 &&& msk = 262148) (s₀ : State) (s : State) :
    Same msk s₀ (State.reportStart s) = Same msk s₀ s := ((State.reportStart_same0 s).mono hq).of_step
theorem State.loadTables_same0 (s : State) (id : Nat) : Same 8192 s (State.loadTables s id) := by
  unfold State.loadTables
  (try dsimp only)
  (repeat' split) <;> simp [foldl_same]
@[simp] theorem State.loadTables_same {msk : Nat} (hq : 8192 &&& msk = 8192) (s₀ : State) (s : State) (id : Nat) :
    Same msk s₀ (State.loadTables s id) = Same msk s₀ s := ((State.loadTables_same0 s id).mono hq).of_step
theorem State.loadBoot_same0 (s : State) : Same 270338 s ((State.loadBoot s).1) := by
  unfold State.loadBoot
  dsimp only
  split
  · simp
  · rename_i c _
    have k : Same 270338 s (((s.loadImage c.base c.words).loadTables c.base).chooseSlot).1 := by simp
    split <;> (rename_i h; rw [h] at k; exact k)
@[simp] theorem State.loadBoot_same {msk : Nat} (hq : 270338 &&& msk = 270338) (s₀ : State) (s : State) :
    Same msk s₀ ((State.loadBoot s).1) = Same msk s₀ s := ((State.loadBoot_same0 s).mono hq).of_step
theorem State.trainAll_same0 (s : State) : Same 33619968 s (State.trainAll s) := by
  unfold State.trainAll
  (try dsimp only)
  (repeat' split) <;> simp [foldl_same]
@[simp] theorem State.trainAll_same {msk : Nat} (hq : 33619968 &&& msk = 33619968) (s₀ : State) (s : State) :
    Same msk s₀ (State.trainAll s) = Same msk s₀ s := ((State.trainAll_same0 s).mono hq).of_step
theorem State.trainLinks_same0 (s : State) : Same 4096 s (State.trainLinks s) := by
  unfold State.trainLinks
  (try dsimp only)
  repeat' first | (simp [foldl_same]; done) | intro _ | split | (refine Same.foldl ?_ ?_) | simp [foldl_same]
@[simp] theorem State.trainLinks_same {msk : Nat} (hq : 4096 &&& msk = 4096) (s₀ : State) (s : State) :
    Same msk s₀ (State.trainLinks s) = Same msk s₀ s := ((State.trainLinks_same0 s).mono hq).of_step
theorem State.trainPorts_same0 (s : State) : Same 8 s (State.trainPorts s) := by
  unfold State.trainPorts
  (try dsimp only)
  (repeat' split) <;> simp [foldl_same]
@[simp] theorem State.trainPorts_same {msk : Nat} (hq : 8 &&& msk = 8) (s₀ : State) (s : State) :
    Same msk s₀ (State.trainPorts s) = Same msk s₀ s := ((State.trainPorts_same0 s).mono hq).of_step
theorem State.readyPorts_same0 (s : State) : Same 262318 s (State.readyPorts s) := by
  unfold State.readyPorts
  (try dsimp only)
  (repeat' split) <;> simp [foldl_same]
@[simp] theorem State.readyPorts_same {msk : Nat} (hq : 262318 &&& msk = 262318) (s₀ : State) (s : State) :
    Same msk s₀ (State.readyPorts s) = Same msk s₀ s := ((State.readyPorts_same0 s).mono hq).of_step
theorem State.keepTrial_same0 (s : State) : Same 262144 s (State.keepTrial s) := by
  unfold State.keepTrial
  (try dsimp only)
  (repeat' split) <;> simp [foldl_same]
@[simp] theorem State.keepTrial_same {msk : Nat} (hq : 262144 &&& msk = 262144) (s₀ : State) (s : State) :
    Same msk s₀ (State.keepTrial s) = Same msk s₀ s := ((State.keepTrial_same0 s).mono hq).of_step
theorem State.enablePorts_same0 (s : State) : Same 9750462 s (State.enablePorts s) := by
  unfold State.enablePorts
  (try dsimp only)
  (repeat' split) <;> simp [foldl_same]
@[simp] theorem State.enablePorts_same {msk : Nat} (hq : 9750462 &&& msk = 9750462) (s₀ : State) (s : State) :
    Same msk s₀ (State.enablePorts s) = Same msk s₀ s := ((State.enablePorts_same0 s).mono hq).of_step
theorem State.endStage_same0 (s : State) : Same 62259198 s ((State.endStage s).1) := by
  unfold State.endStage
  (try dsimp only)
  (repeat' split) <;> simp [foldl_same]
@[simp] theorem State.endStage_same {msk : Nat} (hq : 62259198 &&& msk = 62259198) (s₀ : State) (s : State) :
    Same msk s₀ ((State.endStage s).1) = Same msk s₀ s := ((State.endStage_same0 s).mono hq).of_step
theorem State.putFwsBuf_same0 (s : State) (bs : List Byte) : Same 2 s (State.putFwsBuf s bs) := by
  unfold State.putFwsBuf
  (try dsimp only)
  (repeat' split) <;> simp [foldl_same]
@[simp] theorem State.putFwsBuf_same {msk : Nat} (hq : 2 &&& msk = 2) (s₀ : State) (s : State) (bs : List Byte) :
    Same msk s₀ (State.putFwsBuf s bs) = Same msk s₀ s := ((State.putFwsBuf_same0 s bs).mono hq).of_step
theorem State.fwsResult_same0 (s : State) (r : Nat) : Same 262144 s (State.fwsResult s r) := by
  unfold State.fwsResult
  (try dsimp only)
  (repeat' split) <;> simp [foldl_same]
@[simp] theorem State.fwsResult_same {msk : Nat} (hq : 262144 &&& msk = 262144) (s₀ : State) (s : State) (r : Nat) :
    Same msk s₀ (State.fwsResult s r) = Same msk s₀ s := ((State.fwsResult_same0 s r).mono hq).of_step
theorem Boot.addFlag_stores (b : Boot) (x : Nat) : (b.addFlag x).stores = b.stores := by
  unfold Boot.addFlag Boot.putFlags; split <;> rfl
theorem Boot.eraseFlags_stores (b : Boot) (k : Nat) : (b.eraseFlags k).stores = b.stores := by
  unfold Boot.eraseFlags Boot.clearFlag
  dsimp only
  rw [← Boot.addFlag_stores b (if k = 0 then sectorF0 else sectorF1)]
  generalize b.addFlag _ = c
  unfold Boot.putFlags; split <;> rfl
theorem Boot.rollFlags_stores (b : Boot) : b.rollFlags.stores = b.stores := by
  unfold Boot.rollFlags
  dsimp only
  split
  · rfl
  · rw [Boot.eraseFlags_stores]; exact Boot.eraseFlags_stores b (1 - b.fActive)
theorem State.fwsGo_same0 (s : State) (a : Agent) (op addr len : Nat) : Same 2359298 s (State.fwsGo s a op addr len) := by
  unfold State.fwsGo
  dsimp only
  repeat' split
  all_goals first | (simp; done) | skip
  rw [same_withBoot (by decide) _ _ _ (by rw [Boot.addFlag_stores, Boot.rollFlags_stores])]
  simp
@[simp] theorem State.fwsGo_same {msk : Nat} (hq : 2359298 &&& msk = 2359298) (s₀ : State) (s : State) (a : Agent) (op addr len : Nat) :
    Same msk s₀ (State.fwsGo s a op addr len) = Same msk s₀ s := ((State.fwsGo_same0 s a op addr len).mono hq).of_step
theorem State.writeFwsCmd_same0 (s : State) (a : Agent) (v : Nat) : Same 2359302 s (State.writeFwsCmd s a v) := by
  unfold State.writeFwsCmd
  (try dsimp only)
  (repeat' split) <;> simp [foldl_same]
@[simp] theorem State.writeFwsCmd_same {msk : Nat} (hq : 2359302 &&& msk = 2359302) (s₀ : State) (s : State) (a : Agent) (v : Nat) :
    Same msk s₀ (State.writeFwsCmd s a v) = Same msk s₀ s := ((State.writeFwsCmd_same0 s a v).mono hq).of_step
theorem State.writeFwsCtl_same0 (s : State) (a : Agent) (v : Nat) : Same 54525951 s (State.writeFwsCtl s a v) := by
  unfold State.writeFwsCtl
  (try dsimp only)
  (repeat' split) <;> simp [foldl_same]
@[simp] theorem State.writeFwsCtl_same {msk : Nat} (hq : 54525951 &&& msk = 54525951) (s₀ : State) (s : State) (a : Agent) (v : Nat) :
    Same msk s₀ (State.writeFwsCtl s a v) = Same msk s₀ s := ((State.writeFwsCtl_same0 s a v).mono hq).of_step
theorem State.putRing_same0 (s : State) (r : Nat) (x : EvRing) : Same 4 s (State.putRing s r x) := by
  unfold State.putRing
  (try dsimp only)
  (repeat' split) <;> simp [foldl_same]
@[simp] theorem State.putRing_same {msk : Nat} (hq : 4 &&& msk = 4) (s₀ : State) (s : State) (r : Nat) (x : EvRing) :
    Same msk s₀ (State.putRing s r x) = Same msk s₀ s := ((State.putRing_same0 s r x).mono hq).of_step
theorem State.setRing_same0 (s : State) (r : Nat) (f : EvRing → EvRing) : Same 4 s (State.setRing s r f) := by
  unfold State.setRing
  (try dsimp only)
  (repeat' split) <;> simp [foldl_same]
@[simp] theorem State.setRing_same {msk : Nat} (hq : 4 &&& msk = 4) (s₀ : State) (s : State) (r : Nat) (f : EvRing → EvRing) :
    Same msk s₀ (State.setRing s r f) = Same msk s₀ s := ((State.setRing_same0 s r f).mono hq).of_step
theorem State.raiseRing_same0 (s : State) (code sev ring : Nat) (except : Option Nat) (pay : List (Nat × Nat)) : Same 4 s (State.raiseRing s code sev ring except pay) := by
  unfold State.raiseRing
  (try dsimp only)
  (repeat' split) <;> simp [foldl_same]
@[simp] theorem State.raiseRing_same {msk : Nat} (hq : 4 &&& msk = 4) (s₀ : State) (s : State) (code sev ring : Nat) (except : Option Nat) (pay : List (Nat × Nat)) :
    Same msk s₀ (State.raiseRing s code sev ring except pay) = Same msk s₀ s := ((State.raiseRing_same0 s code sev ring except pay).mono hq).of_step
theorem State.disableRing_same0 (s : State) (r cause : Nat) : Same 6 s (State.disableRing s r cause) := by
  unfold State.disableRing
  (try dsimp only)
  (repeat' split) <;> simp [foldl_same]
@[simp] theorem State.disableRing_same {msk : Nat} (hq : 6 &&& msk = 6) (s₀ : State) (s : State) (r cause : Nat) :
    Same msk s₀ (State.disableRing s r cause) = Same msk s₀ s := ((State.disableRing_same0 s r cause).mono hq).of_step
theorem State.ringsLose_same0 (s : State) (pf cause : Nat) : Same 6 s (State.ringsLose s pf cause) := by
  unfold State.ringsLose
  (try dsimp only)
  repeat' first | (simp [foldl_same]; done) | intro _ | split | (refine Same.foldl ?_ ?_) | simp [foldl_same]
@[simp] theorem State.ringsLose_same {msk : Nat} (hq : 6 &&& msk = 6) (s₀ : State) (s : State) (pf cause : Nat) :
    Same msk s₀ (State.ringsLose s pf cause) = Same msk s₀ s := ((State.ringsLose_same0 s pf cause).mono hq).of_step
theorem State.tenantLog_same0 (s : State) (t : Nat) (e : EvOut) : Same 32828 s (State.tenantLog s t e) := by
  unfold State.tenantLog
  (try dsimp only)
  (repeat' split) <;> simp [foldl_same]
@[simp] theorem State.tenantLog_same {msk : Nat} (hq : 32828 &&& msk = 32828) (s₀ : State) (s : State) (t : Nat) (e : EvOut) :
    Same msk s₀ (State.tenantLog s t e) = Same msk s₀ s := ((State.tenantLog_same0 s t e).mono hq).of_step
theorem State.signalRing_same0 (s : State) (r : Nat) : Same 12 s (State.signalRing s r) := by
  unfold State.signalRing
  (try dsimp only)
  (repeat' split) <;> simp [foldl_same]
@[simp] theorem State.signalRing_same {msk : Nat} (hq : 12 &&& msk = 12) (s₀ : State) (s : State) (r : Nat) :
    Same msk s₀ (State.signalRing s r) = Same msk s₀ s := ((State.signalRing_same0 s r).mono hq).of_step
theorem State.reportLost_same0 (s : State) (r : Nat) : Same 4 s (State.reportLost s r) := by
  unfold State.reportLost
  (try dsimp only)
  (repeat' split) <;> simp [foldl_same]
@[simp] theorem State.reportLost_same {msk : Nat} (hq : 4 &&& msk = 4) (s₀ : State) (s : State) (r : Nat) :
    Same msk s₀ (State.reportLost s r) = Same msk s₀ s := ((State.reportLost_same0 s r).mono hq).of_step
theorem State.writeEvtCfg_same0 (s : State) (a : Agent) (r v : Nat) : Same 6 s (State.writeEvtCfg s a r v) := by
  unfold State.writeEvtCfg
  (try dsimp only)
  (repeat' split) <;> simp [foldl_same]
@[simp] theorem State.writeEvtCfg_same {msk : Nat} (hq : 6 &&& msk = 6) (s₀ : State) (s : State) (a : Agent) (r v : Nat) :
    Same msk s₀ (State.writeEvtCfg s a r v) = Same msk s₀ s := ((State.writeEvtCfg_same0 s a r v).mono hq).of_step
theorem State.writeRingAddr_same0 (s : State) (a : Agent) (r : RegRef) (v : Nat) : Same 6 s (State.writeRingAddr s a r v) := by
  unfold State.writeRingAddr
  (try dsimp only)
  (repeat' split) <;> simp [foldl_same]
@[simp] theorem State.writeRingAddr_same {msk : Nat} (hq : 6 &&& msk = 6) (s₀ : State) (s : State) (a : Agent) (r : RegRef) (v : Nat) :
    Same msk s₀ (State.writeRingAddr s a r v) = Same msk s₀ s := ((State.writeRingAddr_same0 s a r v).mono hq).of_step
theorem State.renameCmd_same0 (s : State) (r g : CmdRef) : Same 9376 s (State.renameCmd s r g) := by
  unfold State.renameCmd
  (try dsimp only)
  (repeat' split) <;> simp [foldl_same]
@[simp] theorem State.renameCmd_same {msk : Nat} (hq : 9376 &&& msk = 9376) (s₀ : State) (s : State) (r g : CmdRef) :
    Same msk s₀ (State.renameCmd s r g) = Same msk s₀ s := ((State.renameCmd_same0 s r g).mono hq).of_step
theorem State.settleCmd_same0 (s : State) (c : Cmd) : Same 28588 s (State.settleCmd s c) := by
  unfold State.settleCmd
  (try dsimp only)
  (repeat' split) <;> simp [foldl_same]
@[simp] theorem State.settleCmd_same {msk : Nat} (hq : 28588 &&& msk = 28588) (s₀ : State) (s : State) (c : Cmd) :
    Same msk s₀ (State.settleCmd s c) = Same msk s₀ s := ((State.settleCmd_same0 s c).mono hq).of_step
theorem State.abandonCmd_same0 (s : State) (named : Bool) (c : Cmd) : Same 61372 s (State.abandonCmd s named c) := by
  unfold State.abandonCmd
  (try dsimp only)
  (repeat' split) <;> simp [foldl_same]
@[simp] theorem State.abandonCmd_same {msk : Nat} (hq : 61372 &&& msk = 61372) (s₀ : State) (s : State) (named : Bool) (c : Cmd) :
    Same msk s₀ (State.abandonCmd s named c) = Same msk s₀ s := ((State.abandonCmd_same0 s named c).mono hq).of_step
theorem State.forgetRefs_same0 (s : State) (t : Nat) : Same 1024 s (State.forgetRefs s t) := by
  unfold State.forgetRefs
  (try dsimp only)
  (repeat' split) <;> simp [foldl_same]
@[simp] theorem State.forgetRefs_same {msk : Nat} (hq : 1024 &&& msk = 1024) (s₀ : State) (s : State) (t : Nat) :
    Same msk s₀ (State.forgetRefs s t) = Same msk s₀ s := ((State.forgetRefs_same0 s t).mono hq).of_step
theorem State.abandonFn_same0 (s : State) (t : Nat) (named : Bool) : Same 61372 s (State.abandonFn s t named) := by
  unfold State.abandonFn
  (try dsimp only)
  (repeat' split) <;> simp [foldl_same]
@[simp] theorem State.abandonFn_same {msk : Nat} (hq : 61372 &&& msk = 61372) (s₀ : State) (s : State) (t : Nat) (named : Bool) :
    Same msk s₀ (State.abandonFn s t named) = Same msk s₀ s := ((State.abandonFn_same0 s t named).mono hq).of_step
theorem State.cutEnvelope_same0 (s : State) (t : Nat) : Same 32768 s (State.cutEnvelope s t) := by
  unfold State.cutEnvelope
  (try dsimp only)
  (repeat' split) <;> simp [foldl_same]
@[simp] theorem State.cutEnvelope_same {msk : Nat} (hq : 32768 &&& msk = 32768) (s₀ : State) (s : State) (t : Nat) :
    Same msk s₀ (State.cutEnvelope s t) = Same msk s₀ s := ((State.cutEnvelope_same0 s t).mono hq).of_step
theorem State.takeBack_same0 (s : State) (c : Cmd) : Same 32768 s (State.takeBack s c) := by
  unfold State.takeBack
  (try dsimp only)
  (repeat' split) <;> simp [foldl_same]
@[simp] theorem State.takeBack_same {msk : Nat} (hq : 32768 &&& msk = 32768) (s₀ : State) (s : State) (c : Cmd) :
    Same msk s₀ (State.takeBack s c) = Same msk s₀ s := ((State.takeBack_same0 s c).mono hq).of_step
theorem State.resetController_same0 (s : State) (t : Nat) (named : Bool) : Same 61374 s (State.resetController s t named) := by
  unfold State.resetController
  (try dsimp only)
  (repeat' split) <;> simp [foldl_same]
@[simp] theorem State.resetController_same {msk : Nat} (hq : 61374 &&& msk = 61374) (s₀ : State) (s : State) (t : Nat) (named : Bool) :
    Same msk s₀ (State.resetController s t named) = Same msk s₀ s := ((State.resetController_same0 s t named).mono hq).of_step
theorem State.freeOwner_same0 (s : State) (t : Nat) : Same 44 s (State.freeOwner s t) := by
  unfold State.freeOwner
  (try dsimp only)
  repeat' first | (simp [foldl_same]; done) | intro _ | split | (refine Same.foldl ?_ ?_) | simp [foldl_same]
@[simp] theorem State.freeOwner_same {msk : Nat} (hq : 44 &&& msk = 44) (s₀ : State) (s : State) (t : Nat) :
    Same msk s₀ (State.freeOwner s t) = Same msk s₀ s := ((State.freeOwner_same0 s t).mono hq).of_step
theorem State.resetOne_same0 (s : State) (t : Nat) : Same 61438 s (State.resetOne s t) := by
  unfold State.resetOne
  (try dsimp only)
  (repeat' split) <;> simp [foldl_same]
@[simp] theorem State.resetOne_same {msk : Nat} (hq : 61438 &&& msk = 61438) (s₀ : State) (s : State) (t : Nat) :
    Same msk s₀ (State.resetOne s t) = Same msk s₀ s := ((State.resetOne_same0 s t).mono hq).of_step
theorem State.resetFunction_same0 (s : State) (t : Nat) : Same 61438 s (State.resetFunction s t) := by
  unfold State.resetFunction
  (try dsimp only)
  (repeat' split) <;> simp [foldl_same]
@[simp] theorem State.resetFunction_same {msk : Nat} (hq : 61438 &&& msk = 61438) (s₀ : State) (s : State) (t : Nat) :
    Same msk s₀ (State.resetFunction s t) = Same msk s₀ s := ((State.resetFunction_same0 s t).mono hq).of_step
theorem State.disableOne_same0 (s : State) (t : Nat) : Same 61436 s (State.disableOne s t) := by
  unfold State.disableOne
  (try dsimp only)
  (repeat' split) <;> simp [foldl_same]
@[simp] theorem State.disableOne_same {msk : Nat} (hq : 61436 &&& msk = 61436) (s₀ : State) (s : State) (t : Nat) :
    Same msk s₀ (State.disableOne s t) = Same msk s₀ s := ((State.disableOne_same0 s t).mono hq).of_step
theorem State.shutdownFlush_same0 (s : State) (t : Nat) : Same 18348 s (State.shutdownFlush s t) := by
  unfold State.shutdownFlush
  (try dsimp only)
  (repeat' split) <;> simp [foldl_same]
@[simp] theorem State.shutdownFlush_same {msk : Nat} (hq : 18348 &&& msk = 18348) (s₀ : State) (s : State) (t : Nat) :
    Same msk s₀ (State.shutdownFlush s t) = Same msk s₀ s := ((State.shutdownFlush_same0 s t).mono hq).of_step
theorem State.resetPort_same0 (s : State) (p : Nat) : Same 61438 s (State.resetPort s p) := by
  unfold State.resetPort
  (try dsimp only)
  (repeat' split) <;> simp [foldl_same]
@[simp] theorem State.resetPort_same {msk : Nat} (hq : 61438 &&& msk = 61438) (s₀ : State) (s : State) (p : Nat) :
    Same msk s₀ (State.resetPort s p) = Same msk s₀ s := ((State.resetPort_same0 s p).mono hq).of_step
theorem State.linkDown_same0 (s : State) (p : Nat) : Same 12 s (State.linkDown s p) := by
  unfold State.linkDown
  (try dsimp only)
  (repeat' split) <;> simp [foldl_same]
@[simp] theorem State.linkDown_same {msk : Nat} (hq : 12 &&& msk = 12) (s₀ : State) (s : State) (p : Nat) :
    Same msk s₀ (State.linkDown s p) = Same msk s₀ s := ((State.linkDown_same0 s p).mono hq).of_step
theorem State.resetAll_same0 (s : State) : Same 61438 s (State.resetAll s) := by
  unfold State.resetAll
  (try dsimp only)
  (repeat' split) <;> simp [foldl_same]
@[simp] theorem State.resetAll_same {msk : Nat} (hq : 61438 &&& msk = 61438) (s₀ : State) (s : State) :
    Same msk s₀ (State.resetAll s) = Same msk s₀ s := ((State.resetAll_same0 s).mono hq).of_step
theorem State.subsystemReset_same0 (s : State) : Same 54525951 s (State.subsystemReset s) := by
  unfold State.subsystemReset
  (try dsimp only)
  (repeat' split) <;> simp [foldl_same]
@[simp] theorem State.subsystemReset_same {msk : Nat} (hq : 54525951 &&& msk = 54525951) (s₀ : State) (s : State) :
    Same msk s₀ (State.subsystemReset s) = Same msk s₀ s := ((State.subsystemReset_same0 s).mono hq).of_step
theorem State.writeRlkCtl_same0 (s : State) (v : Nat) : Same 16 s (State.writeRlkCtl s v) := by
  unfold State.writeRlkCtl
  (try dsimp only)
  (repeat' split) <;> simp [foldl_same]
@[simp] theorem State.writeRlkCtl_same {msk : Nat} (hq : 16 &&& msk = 16) (s₀ : State) (s : State) (v : Nat) :
    Same msk s₀ (State.writeRlkCtl s v) = Same msk s₀ s := ((State.writeRlkCtl_same0 s v).mono hq).of_step
theorem State.bindZones_same0 (s : State) (nsix csn : Nat) (n : Ns) : Same 18336 s (State.bindZones s nsix csn n) := by
  unfold State.bindZones
  (try dsimp only)
  repeat' first | (simp [foldl_same]; done) | intro _ | split | (refine Same.foldl ?_ ?_) | simp [foldl_same]
@[simp] theorem State.bindZones_same {msk : Nat} (hq : 18336 &&& msk = 18336) (s₀ : State) (s : State) (nsix csn : Nat) (n : Ns) :
    Same msk s₀ (State.bindZones s nsix csn n) = Same msk s₀ s := ((State.bindZones_same0 s nsix csn n).mono hq).of_step
theorem State.clearNs_same0 (s : State) (nsix : Nat) (n : Ns) : Same 28588 s (State.clearNs s nsix n) := by
  unfold State.clearNs
  (try dsimp only)
  repeat' first | (simp [foldl_same]; done) | intro _ | split | (refine Same.foldl ?_ ?_) | simp [foldl_same]
@[simp] theorem State.clearNs_same {msk : Nat} (hq : 28588 &&& msk = 28588) (s₀ : State) (s : State) (nsix : Nat) (n : Ns) :
    Same msk s₀ (State.clearNs s nsix n) = Same msk s₀ s := ((State.clearNs_same0 s nsix n).mono hq).of_step
theorem State.namespaceRecord_same0 (s : State) (nsix action : Nat) (n : Ns) : Same 416 s (State.namespaceRecord s nsix action n) := by
  unfold State.namespaceRecord
  (try dsimp only)
  (repeat' split) <;> simp [foldl_same]
@[simp] theorem State.namespaceRecord_same {msk : Nat} (hq : 416 &&& msk = 416) (s₀ : State) (s : State) (nsix action : Nat) (n : Ns) :
    Same msk s₀ (State.namespaceRecord s nsix action n) = Same msk s₀ s := ((State.namespaceRecord_same0 s nsix action n).mono hq).of_step
theorem State.addNs_same0 (s : State) (nsix : Nat) (n : Ns) : Same 2148256 s (State.addNs s nsix n) := by
  unfold State.addNs
  (try dsimp only)
  repeat' first | (simp [foldl_same]; done) | intro _ | split | (refine Same.foldl ?_ ?_) | simp [foldl_same]
@[simp] theorem State.addNs_same {msk : Nat} (hq : 2148256 &&& msk = 2148256) (s₀ : State) (s : State) (nsix : Nat) (n : Ns) :
    Same msk s₀ (State.addNs s nsix n) = Same msk s₀ s := ((State.addNs_same0 s nsix n).mono hq).of_step
theorem State.eraseNs_same0 (s : State) (nsix action cmd : Nat) (n : Ns) : Same 3207100 s (State.eraseNs s nsix action cmd n) := by
  unfold State.eraseNs
  (try dsimp only)
  repeat' first | (simp [foldl_same]; done) | intro _ | split | (refine Same.foldl ?_ ?_) | simp [foldl_same]
@[simp] theorem State.eraseNs_same {msk : Nat} (hq : 3207100 &&& msk = 3207100) (s₀ : State) (s : State) (nsix action cmd : Nat) (n : Ns) :
    Same msk s₀ (State.eraseNs s nsix action cmd n) = Same msk s₀ s := ((State.eraseNs_same0 s nsix action cmd n).mono hq).of_step
theorem State.removeNs_same0 (s : State) (nsix cmd : Nat) (n : Ns) : Same 61356 s (State.removeNs s nsix cmd n) := by
  unfold State.removeNs
  (try dsimp only)
  (repeat' split) <;> simp [foldl_same]
@[simp] theorem State.removeNs_same {msk : Nat} (hq : 61356 &&& msk = 61356) (s₀ : State) (s : State) (nsix cmd : Nat) (n : Ns) :
    Same msk s₀ (State.removeNs s nsix cmd n) = Same msk s₀ s := ((State.removeNs_same0 s nsix cmd n).mono hq).of_step
theorem State.noteNs_same0 (s : State) (t nsid : Nat) : Same 32828 s (State.noteNs s t nsid) := by
  unfold State.noteNs
  (try dsimp only)
  (repeat' split) <;> simp [foldl_same]
@[simp] theorem State.noteNs_same {msk : Nat} (hq : 32828 &&& msk = 32828) (s₀ : State) (s : State) (t nsid : Nat) :
    Same msk s₀ (State.noteNs s t nsid) = Same msk s₀ s := ((State.noteNs_same0 s t nsid).mono hq).of_step
theorem State.deleteNs_same0 (s : State) (nsix cmd : Nat) (n : Ns) : Same 61372 s (State.deleteNs s nsix cmd n) := by
  unfold State.deleteNs
  (try dsimp only)
  (repeat' split) <;> simp [foldl_same]
@[simp] theorem State.deleteNs_same {msk : Nat} (hq : 61372 &&& msk = 61372) (s₀ : State) (s : State) (nsix cmd : Nat) (n : Ns) :
    Same msk s₀ (State.deleteNs s nsix cmd n) = Same msk s₀ s := ((State.deleteNs_same0 s nsix cmd n).mono hq).of_step
theorem State.addNew_same0 (s : State) (x : NewNs) (n : Ns) (comp : Nat) : Same 2150308 s (State.addNew s x n comp) := by
  unfold State.addNew
  (try dsimp only)
  (repeat' split) <;> simp [foldl_same]
@[simp] theorem State.addNew_same {msk : Nat} (hq : 2150308 &&& msk = 2150308) (s₀ : State) (s : State) (x : NewNs) (n : Ns) (comp : Nat) :
    Same msk s₀ (State.addNew s x n comp) = Same msk s₀ s := ((State.addNew_same0 s x n comp).mono hq).of_step
theorem State.attach_same0 (s : State) (nsix t : Nat) : Same 33340 s (State.attach s nsix t) := by
  unfold State.attach
  (try dsimp only)
  (repeat' split) <;> simp [foldl_same]
@[simp] theorem State.attach_same {msk : Nat} (hq : 33340 &&& msk = 33340) (s₀ : State) (s : State) (nsix t : Nat) :
    Same msk s₀ (State.attach s nsix t) = Same msk s₀ s := ((State.attach_same0 s nsix t).mono hq).of_step
theorem State.detach_same0 (s : State) (nsix t : Nat) : Same 33340 s (State.detach s nsix t) := by
  unfold State.detach
  (try dsimp only)
  (repeat' split) <;> simp [foldl_same]
@[simp] theorem State.detach_same {msk : Nat} (hq : 33340 &&& msk = 33340) (s₀ : State) (s : State) (nsix t : Nat) :
    Same msk s₀ (State.detach s nsix t) = Same msk s₀ s := ((State.detach_same0 s nsix t).mono hq).of_step
theorem State.eraseFor_same0 (s : State) (nsix lbaf : Nat) (old : List (Nat × Ns)) (n : Ns) : Same 3207100 s (State.eraseFor s nsix lbaf old n) := by
  unfold State.eraseFor
  dsimp only
  split
  · split <;> simp
  · refine Same.foldl (fun s x => ?_) (by simp)
    split <;> simp
@[simp] theorem State.eraseFor_same {msk : Nat} (hq : 3207100 &&& msk = 3207100) (s₀ : State) (s : State) (nsix lbaf : Nat) (old : List (Nat × Ns)) (n : Ns) :
    Same msk s₀ (State.eraseFor s nsix lbaf old n) = Same msk s₀ s := ((State.eraseFor_same0 s nsix lbaf old n).mono hq).of_step
theorem State.runSanitize_same0 (s : State) (c : Cmd) : Same 3207100 s (State.runSanitize s c) := by
  unfold State.runSanitize
  (try dsimp only)
  (repeat' split) <;> simp [foldl_same]
@[simp] theorem State.runSanitize_same {msk : Nat} (hq : 3207100 &&& msk = 3207100) (s₀ : State) (s : State) (c : Cmd) :
    Same msk s₀ (State.runSanitize s c) = Same msk s₀ s := ((State.runSanitize_same0 s c).mono hq).of_step
theorem State.afterLog_same0 (s : State) (t : Nat) (e : Sqe) : Same 17420 s (State.afterLog s t e) := by
  unfold State.afterLog
  (try dsimp only)
  (repeat' split) <;> simp [foldl_same]
@[simp] theorem State.afterLog_same {msk : Nat} (hq : 17420 &&& msk = 17420) (s₀ : State) (s : State) (t : Nat) (e : Sqe) :
    Same msk s₀ (State.afterLog s t e) = Same msk s₀ s := ((State.afterLog_same0 s t e).mono hq).of_step
theorem State.tableRead_same0 (s : State) (c : Cmd) : Same 557116 s (State.tableRead s c) := by
  unfold State.tableRead
  (try dsimp only)
  (repeat' split) <;> simp [foldl_same]
@[simp] theorem State.tableRead_same {msk : Nat} (hq : 557116 &&& msk = 557116) (s₀ : State) (s : State) (c : Cmd) :
    Same msk s₀ (State.tableRead s c) = Same msk s₀ s := ((State.tableRead_same0 s c).mono hq).of_step
theorem State.cfgWrite_same0 (s : State) (t off v : Nat) : Same 8 s (State.cfgWrite s t off v) := by
  unfold State.cfgWrite
  (try dsimp only)
  (repeat' split) <;> simp [foldl_same]
@[simp] theorem State.cfgWrite_same {msk : Nat} (hq : 8 &&& msk = 8) (s₀ : State) (s : State) (t off v : Nat) :
    Same msk s₀ (State.cfgWrite s t off v) = Same msk s₀ s := ((State.cfgWrite_same0 s t off v).mono hq).of_step
theorem State.releaseTest_same0 (s : State) (t : Nat) : Same 8192 s (State.releaseTest s t) := by
  unfold State.releaseTest
  (try dsimp only)
  (repeat' split) <;> simp [foldl_same]
@[simp] theorem State.releaseTest_same {msk : Nat} (hq : 8192 &&& msk = 8192) (s₀ : State) (s : State) (t : Nat) :
    Same msk s₀ (State.releaseTest s t) = Same msk s₀ s := ((State.releaseTest_same0 s t).mono hq).of_step
theorem State.testGroup_same0 (s : State) (t : Nat) (g : Nat × SetRec × Nat × Nat) : Same 15360 s (State.testGroup s t g) := by
  unfold State.testGroup
  (try dsimp only)
  (repeat' split) <;> simp [foldl_same]
@[simp] theorem State.testGroup_same {msk : Nat} (hq : 15360 &&& msk = 15360) (s₀ : State) (s : State) (t : Nat) (g : Nat × SetRec × Nat × Nat) :
    Same msk s₀ (State.testGroup s t g) = Same msk s₀ s := ((State.testGroup_same0 s t g).mono hq).of_step
theorem State.startTest_same0 (s : State) (t kind : Nat) : Same 15368 s (State.startTest s t kind) := by
  unfold State.startTest
  (try dsimp only)
  (repeat' split) <;> simp [foldl_same]
@[simp] theorem State.startTest_same {msk : Nat} (hq : 15368 &&& msk = 15368) (s₀ : State) (s : State) (t kind : Nat) :
    Same msk s₀ (State.startTest s t kind) = Same msk s₀ s := ((State.startTest_same0 s t kind).mono hq).of_step
theorem State.liftProtection_same0 (s : State) (grown : List Nat) : Same 1098300 s (State.liftProtection s grown) := by
  unfold State.liftProtection
  rw [foldl_same _ (fun s m => by (repeat' split) <;> simp)]
  simp
@[simp] theorem State.liftProtection_same {msk : Nat} (hq : 1098300 &&& msk = 1098300) (s₀ : State) (s : State) (grown : List Nat) :
    Same msk s₀ (State.liftProtection s grown) = Same msk s₀ s := ((State.liftProtection_same0 s grown).mono hq).of_step
theorem State.moveCopies_same0 (s o : State) : Same 260 s (State.moveCopies s o) := by
  unfold State.moveCopies
  dsimp only
  split
  · split
    · exact Same.refl _ _
    · rw [State.reestablish_same (by decide)]; exact Same.refl _ _
  · split
    · rw [State.reestablish_same (by decide)]; exact Same.refl _ _
    · rw [State.reestablish_same (by decide), State.reestablish_same (by decide)]; exact Same.refl _ _
@[simp] theorem State.moveCopies_same {msk : Nat} (hq : 260 &&& msk = 260) (s₀ : State) (s o : State) :
    Same msk s₀ (State.moveCopies s o) = Same msk s₀ s := ((State.moveCopies_same0 s o).mono hq).of_step
theorem State.commitLinks_same0 (s o : State) : Same 4096 s (State.commitLinks s o) := by
  unfold State.commitLinks
  refine Same.foldl (fun t x => ?_) (Same.refl _ _)
  dsimp only
  repeat' split
  all_goals simp
@[simp] theorem State.commitLinks_same {msk : Nat} (hq : 4096 &&& msk = 4096) (s₀ : State) (s o : State) :
    Same msk s₀ (State.commitLinks s o) = Same msk s₀ s := ((State.commitLinks_same0 s o).mono hq).of_step
theorem State.afterCommit_same0 (s o : State) : Same 1105852 s (State.afterCommit s o) := by
  unfold State.afterCommit
  (try dsimp only)
  (repeat' split) <;> simp [foldl_same]
@[simp] theorem State.afterCommit_same {msk : Nat} (hq : 1105852 &&& msk = 1105852) (s₀ : State) (s o : State) :
    Same msk s₀ (State.afterCommit s o) = Same msk s₀ s := ((State.afterCommit_same0 s o).mono hq).of_step
theorem State.writeSlot_same0 (s : State) (slot : Nat) : Same 17039360 s (State.writeSlot s slot) := by
  unfold State.writeSlot
  (try dsimp only)
  (repeat' split) <;> simp [foldl_same]
@[simp] theorem State.writeSlot_same {msk : Nat} (hq : 17039360 &&& msk = 17039360) (s₀ : State) (s : State) (slot : Nat) :
    Same msk s₀ (State.writeSlot s slot) = Same msk s₀ s := ((State.writeSlot_same0 s slot).mono hq).of_step
theorem State.commitFails_same0 (s : State) (c : Cmd) (slot : Nat) (k : FwCheck) : Same 32828 s (State.commitFails s c slot k) := by
  unfold State.commitFails
  (try dsimp only)
  (repeat' split) <;> simp [foldl_same]
@[simp] theorem State.commitFails_same {msk : Nat} (hq : 32828 &&& msk = 32828) (s₀ : State) (s : State) (c : Cmd) (slot : Nat) (k : FwCheck) :
    Same msk s₀ (State.commitFails s c slot k) = Same msk s₀ s := ((State.commitFails_same0 s c slot k).mono hq).of_step
theorem State.activate_same0 (s : State) (c : Cmd) (slot build : Nat) : Same 262158 s (State.activate s c slot build) := by
  unfold State.activate
  (try dsimp only)
  (repeat' split) <;> simp [foldl_same]
@[simp] theorem State.activate_same {msk : Nat} (hq : 262158 &&& msk = 262158) (s₀ : State) (s : State) (c : Cmd) (slot build : Nat) :
    Same msk s₀ (State.activate s c slot build) = Same msk s₀ s := ((State.activate_same0 s c slot build).mono hq).of_step
theorem State.endActivation_same0 (s : State) (a : Activation) (st : Status) : Same 294972 s (State.endActivation s a st) := by
  unfold State.endActivation
  (try dsimp only)
  (repeat' split) <;> simp [foldl_same]
@[simp] theorem State.endActivation_same {msk : Nat} (hq : 294972 &&& msk = 294972) (s₀ : State) (s : State) (a : Activation) (st : Status) :
    Same msk s₀ (State.endActivation s a st) = Same msk s₀ s := ((State.endActivation_same0 s a st).mono hq).of_step
theorem State.actPhase_same0 (s : State) (a : Activation) (p : ActPhase) : Same 262144 s (State.actPhase s a p) := by
  unfold State.actPhase
  (try dsimp only)
  (repeat' split) <;> simp [foldl_same]
@[simp] theorem State.actPhase_same {msk : Nat} (hq : 262144 &&& msk = 262144) (s₀ : State) (s : State) (a : Activation) (p : ActPhase) :
    Same msk s₀ (State.actPhase s a p) = Same msk s₀ s := ((State.actPhase_same0 s a p).mono hq).of_step
theorem State.adoptImage_same0 (s : State) (slot pause : Nat) : Same 8683524 s (State.adoptImage s slot pause) := by
  unfold State.adoptImage
  (try dsimp only)
  (repeat' split) <;> simp [foldl_same]
@[simp] theorem State.adoptImage_same {msk : Nat} (hq : 8683524 &&& msk = 8683524) (s₀ : State) (s : State) (slot pause : Nat) :
    Same msk s₀ (State.adoptImage s slot pause) = Same msk s₀ s := ((State.adoptImage_same0 s slot pause).mono hq).of_step
theorem State.sealFailure_same0 (s : State) (t opc : Nat) (st : Status) (presented : Nat) : Same 32772 s (State.sealFailure s t opc st presented) := by
  unfold State.sealFailure
  (try dsimp only)
  (repeat' split) <;> simp [foldl_same]
@[simp] theorem State.sealFailure_same {msk : Nat} (hq : 32772 &&& msk = 32772) (s₀ : State) (s : State) (t opc : Nat) (st : Status) (presented : Nat) :
    Same msk s₀ (State.sealFailure s t opc st presented) = Same msk s₀ s := ((State.sealFailure_same0 s t opc st presented).mono hq).of_step
theorem State.storeCopyLost_same0 (s : State) (copy : Nat) (both : Bool) : Same 2097156 s (State.storeCopyLost s copy both) := by
  unfold State.storeCopyLost
  (try dsimp only)
  (repeat' split) <;> simp [foldl_same]
@[simp] theorem State.storeCopyLost_same {msk : Nat} (hq : 2097156 &&& msk = 2097156) (s₀ : State) (s : State) (copy : Nat) (both : Bool) :
    Same msk s₀ (State.storeCopyLost s copy both) = Same msk s₀ s := ((State.storeCopyLost_same0 s copy both).mono hq).of_step
theorem State.endPartnership_same0 (s : State) (a b : Nat) : Same 33340 s (State.endPartnership s a b) := by
  unfold State.endPartnership
  dsimp only
  refine Same.foldl (fun s x => ?_) (Same.foldl (fun s x => ?_) (Same.refl _ _)) <;> (split <;> simp)
@[simp] theorem State.endPartnership_same {msk : Nat} (hq : 33340 &&& msk = 33340) (s₀ : State) (s : State) (a b : Nat) :
    Same msk s₀ (State.endPartnership s a b) = Same msk s₀ s := ((State.endPartnership_same0 s a b).mono hq).of_step
theorem State.release_same0 (s : State) (t : Nat) : Same 61372 s (State.release s t) := by
  unfold State.release
  (try dsimp only)
  (repeat' split) <;> simp [foldl_same]
@[simp] theorem State.release_same {msk : Nat} (hq : 61372 &&& msk = 61372) (s₀ : State) (s : State) (t : Nat) :
    Same msk s₀ (State.release s t) = Same msk s₀ s := ((State.release_same0 s t).mono hq).of_step
theorem State.markReleasing_same0 (s : State) (r : CmdRef) (target : Nat) : Same 32768 s (State.markReleasing s r target) := by
  unfold State.markReleasing
  (try dsimp only)
  (repeat' split) <;> simp [foldl_same]
@[simp] theorem State.markReleasing_same {msk : Nat} (hq : 32768 &&& msk = 32768) (s₀ : State) (s : State) (r : CmdRef) (target : Nat) :
    Same msk s₀ (State.markReleasing s r target) = Same msk s₀ s := ((State.markReleasing_same0 s r target).mono hq).of_step
theorem State.mailbox_same0 (s : State) (result : Nat) : Same 32768 s (State.mailbox s result) := by
  unfold State.mailbox
  (try dsimp only)
  (repeat' split) <;> simp [foldl_same]
@[simp] theorem State.mailbox_same {msk : Nat} (hq : 32768 &&& msk = 32768) (s₀ : State) (s : State) (result : Nat) :
    Same msk s₀ (State.mailbox s result) = Same msk s₀ s := ((State.mailbox_same0 s result).mono hq).of_step
theorem State.vaultSelfTest_same0 (s : State) (kat rng : Bool) : Same 2129924 s (State.vaultSelfTest s kat rng) := by
  unfold State.vaultSelfTest
  (try dsimp only)
  (repeat' split) <;> simp [foldl_same]
@[simp] theorem State.vaultSelfTest_same {msk : Nat} (hq : 2129924 &&& msk = 2129924) (s₀ : State) (s : State) (kat rng : Bool) :
    Same msk s₀ (State.vaultSelfTest s kat rng) = Same msk s₀ s := ((State.vaultSelfTest_same0 s kat rng).mono hq).of_step
theorem State.compactStore_same0 (s : State) : Same 32768 s (State.compactStore s) := by
  unfold State.compactStore
  (try dsimp only)
  (repeat' split) <;> simp [foldl_same]
@[simp] theorem State.compactStore_same {msk : Nat} (hq : 32768 &&& msk = 32768) (s₀ : State) (s : State) :
    Same msk s₀ (State.compactStore s) = Same msk s₀ s := ((State.compactStore_same0 s).mono hq).of_step
theorem State.querySeal_same0 (s : State) : Same 32770 s (State.querySeal s) := by
  unfold State.querySeal
  (try dsimp only)
  (repeat' split) <;> simp [foldl_same]
@[simp] theorem State.querySeal_same {msk : Nat} (hq : 32770 &&& msk = 32770) (s₀ : State) (s : State) :
    Same msk s₀ (State.querySeal s) = Same msk s₀ s := ((State.querySeal_same0 s).mono hq).of_step
theorem State.writeMailbox_same0 (s : State) (v : Nat) : Same 2129926 s (State.writeMailbox s v) := by
  unfold State.writeMailbox
  (try dsimp only)
  (repeat' split) <;> simp [foldl_same]
@[simp] theorem State.writeMailbox_same {msk : Nat} (hq : 2129926 &&& msk = 2129926) (s₀ : State) (s : State) (v : Nat) :
    Same msk s₀ (State.writeMailbox s v) = Same msk s₀ s := ((State.writeMailbox_same0 s v).mono hq).of_step
theorem State.readDword_same0 (s : State) (a : Agent) (off : Nat) : Same 2 s ((State.readDword s a off).1) := by
  unfold State.readDword
  (try dsimp only)
  (repeat' split) <;> simp [foldl_same]
@[simp] theorem State.readDword_same {msk : Nat} (hq : 2 &&& msk = 2) (s₀ : State) (s : State) (a : Agent) (off : Nat) :
    Same msk s₀ ((State.readDword s a off).1) = Same msk s₀ s := ((State.readDword_same0 s a off).mono hq).of_step
theorem State.readQword_same0 (s : State) (a : Agent) (off : Nat) : Same 2 s ((State.readQword s a off).1) := by
  unfold State.readQword
  (try dsimp only)
  (repeat' split) <;> simp [foldl_same]
@[simp] theorem State.readQword_same {msk : Nat} (hq : 2 &&& msk = 2) (s₀ : State) (s : State) (a : Agent) (off : Nat) :
    Same msk s₀ ((State.readQword s a off).1) = Same msk s₀ s := ((State.readQword_same0 s a off).mono hq).of_step
theorem State.storeFields_same0 (s : State) (r : RegRef) (v : Nat) : Same 2 s (State.storeFields s r v) := by
  unfold State.storeFields
  (try dsimp only)
  (repeat' split) <;> simp [foldl_same]
@[simp] theorem State.storeFields_same {msk : Nat} (hq : 2 &&& msk = 2) (s₀ : State) (s : State) (r : RegRef) (v : Nat) :
    Same msk s₀ (State.storeFields s r v) = Same msk s₀ s := ((State.storeFields_same0 s r v).mono hq).of_step
theorem State.actOnWrite_same0 (s : State) (a : Agent) (r : RegRef) (v : Nat) : Same 54525951 s (State.actOnWrite s a r v) := by
  unfold State.actOnWrite
  (try dsimp only)
  (repeat' split) <;> simp [foldl_same]
@[simp] theorem State.actOnWrite_same {msk : Nat} (hq : 54525951 &&& msk = 54525951) (s₀ : State) (s : State) (a : Agent) (r : RegRef) (v : Nat) :
    Same msk s₀ (State.actOnWrite s a r v) = Same msk s₀ s := ((State.actOnWrite_same0 s a r v).mono hq).of_step
theorem State.writeReg_same0 (s : State) (a : Agent) (r : RegRef) (v : Nat) : Same 54525951 s (State.writeReg s a r v) := by
  unfold State.writeReg
  (try dsimp only)
  (repeat' split) <;> simp [foldl_same]
@[simp] theorem State.writeReg_same {msk : Nat} (hq : 54525951 &&& msk = 54525951) (s₀ : State) (s : State) (a : Agent) (r : RegRef) (v : Nat) :
    Same msk s₀ (State.writeReg s a r v) = Same msk s₀ s := ((State.writeReg_same0 s a r v).mono hq).of_step
theorem State.writeDword_same0 (s : State) (a : Agent) (off v : Nat) : Same 54525951 s (State.writeDword s a off v) := by
  unfold State.writeDword
  (try dsimp only)
  (repeat' split) <;> simp [foldl_same]
@[simp] theorem State.writeDword_same {msk : Nat} (hq : 54525951 &&& msk = 54525951) (s₀ : State) (s : State) (a : Agent) (off v : Nat) :
    Same msk s₀ (State.writeDword s a off v) = Same msk s₀ s := ((State.writeDword_same0 s a off v).mono hq).of_step
theorem State.writeQword_same0 (s : State) (a : Agent) (off v : Nat) : Same 54525951 s (State.writeQword s a off v) := by
  unfold State.writeQword
  (try dsimp only)
  (repeat' split) <;> simp [foldl_same]
@[simp] theorem State.writeQword_same {msk : Nat} (hq : 54525951 &&& msk = 54525951) (s₀ : State) (s : State) (a : Agent) (off v : Nat) :
    Same msk s₀ (State.writeQword s a off v) = Same msk s₀ s := ((State.writeQword_same0 s a off v).mono hq).of_step
theorem State.answer_same0 (s : State) (x : MiRes) : Same 8 s (State.answer s x) := by
  unfold State.answer
  (try dsimp only)
  (repeat' split) <;> simp [foldl_same]
@[simp] theorem State.answer_same {msk : Nat} (hq : 8 &&& msk = 8) (s₀ : State) (s : State) (x : MiRes) :
    Same msk s₀ (State.answer s x) = Same msk s₀ s := ((State.answer_same0 s x).mono hq).of_step
theorem State.clearChanges_same0 (s : State) (mask : Nat) : Same 1048576 s (State.clearChanges s mask) := by
  unfold State.clearChanges
  (try dsimp only)
  (repeat' split) <;> simp [foldl_same]
@[simp] theorem State.clearChanges_same {msk : Nat} (hq : 1048576 &&& msk = 1048576) (s₀ : State) (s : State) (mask : Nat) :
    Same msk s₀ (State.clearChanges s mask) = Same msk s₀ s := ((State.clearChanges_same0 s mask).mono hq).of_step
theorem State.configSet_same0 (s : State) (cid port v : Nat) : Same 1048576 s ((State.configSet s cid port v).1) := by
  unfold State.configSet
  (try dsimp only)
  (repeat' split) <;> simp [foldl_same]
@[simp] theorem State.configSet_same {msk : Nat} (hq : 1048576 &&& msk = 1048576) (s₀ : State) (s : State) (cid port v : Nat) :
    Same msk s₀ ((State.configSet s cid port v).1) = Same msk s₀ s := ((State.configSet_same0 s cid port v).mono hq).of_step
theorem State.vpdWrite_same0 (s : State) (off : Nat) (bs : List Byte) : Same 1048576 s ((State.vpdWrite s off bs).1) := by
  unfold State.vpdWrite
  (try dsimp only)
  (repeat' split) <;> simp [foldl_same]
@[simp] theorem State.vpdWrite_same {msk : Nat} (hq : 1048576 &&& msk = 1048576) (s₀ : State) (s : State) (off : Nat) (bs : List Byte) :
    Same msk s₀ ((State.vpdWrite s off bs).1) = Same msk s₀ s := ((State.vpdWrite_same0 s off bs).mono hq).of_step
theorem State.miWindow_same0 (s : State) (write : Bool) (off v : Nat) : Same 54525951 s ((State.miWindow s write off v).1) := by
  unfold State.miWindow
  (try dsimp only)
  (repeat' split) <;> simp [foldl_same]
@[simp] theorem State.miWindow_same {msk : Nat} (hq : 54525951 &&& msk = 54525951) (s₀ : State) (s : State) (write : Bool) (off v : Nat) :
    Same msk s₀ ((State.miWindow s write off v).1) = Same msk s₀ s := ((State.miWindow_same0 s write off v).mono hq).of_step
theorem State.inBand_same0 (s : State) (e : Sqe) (send : Bool) : Same 1048576 s ((State.inBand s e send).1) := by
  unfold State.inBand
  (try dsimp only)
  (repeat' split) <;> simp [foldl_same]
@[simp] theorem State.inBand_same {msk : Nat} (hq : 1048576 &&& msk = 1048576) (s₀ : State) (s : State) (e : Sqe) (send : Bool) :
    Same msk s₀ ((State.inBand s e send).1) = Same msk s₀ s := ((State.inBand_same0 s e send).mono hq).of_step
theorem State.readMedia_same0 (s : State) (c : Cmd) (n : Ns) (k setid row d lo hi : Nat) : Same 15368 s (State.readMedia s c n k setid row d lo hi) := by
  unfold State.readMedia
  (try dsimp only)
  (repeat' split) <;> simp [foldl_same]
@[simp] theorem State.readMedia_same {msk : Nat} (hq : 15368 &&& msk = 15368) (s₀ : State) (s : State) (c : Cmd) (n : Ns) (k setid row d lo hi : Nat) :
    Same msk s₀ (State.readMedia s c n k setid row d lo hi) = Same msk s₀ s := ((State.readMedia_same0 s c n k setid row d lo hi).mono hq).of_step
theorem State.startReads_same0 (s : State) (c : Cmd) (n : Ns) : Same 15368 s (State.startReads s c n) := by
  unfold State.startReads
  dsimp only
  rw [foldl_same _ (fun s m => by split <;> simp)]
  simp
@[simp] theorem State.startReads_same {msk : Nat} (hq : 15368 &&& msk = 15368) (s₀ : State) (s : State) (c : Cmd) (n : Ns) :
    Same msk s₀ (State.startReads s c n) = Same msk s₀ s := ((State.startReads_same0 s c n).mono hq).of_step
theorem State.readAgain_same0 (s : State) (c : Cmd) : Same 44 s (State.readAgain s c) := by
  unfold State.readAgain
  (try dsimp only)
  (repeat' split) <;> simp [foldl_same]
@[simp] theorem State.readAgain_same {msk : Nat} (hq : 44 &&& msk = 44) (s₀ : State) (s : State) (c : Cmd) :
    Same msk s₀ (State.readAgain s c) = Same msk s₀ s := ((State.readAgain_same0 s c).mono hq).of_step
theorem State.piFailed_same0 (s : State) (c : Cmd) (n : Ns) : Same 2113540 s (State.piFailed s c n) := by
  unfold State.piFailed
  (try dsimp only)
  (repeat' split) <;> simp [foldl_same]
@[simp] theorem State.piFailed_same {msk : Nat} (hq : 2113540 &&& msk = 2113540) (s₀ : State) (s : State) (c : Cmd) (n : Ns) :
    Same msk s₀ (State.piFailed s c n) = Same msk s₀ s := ((State.piFailed_same0 s c n).mono hq).of_step
theorem State.receiveBytes_same0 (s : State) (c : Cmd) (b : List Byte) : Same 32828 s (State.receiveBytes s c b) := by
  unfold State.receiveBytes
  (try dsimp only)
  (repeat' split) <;> simp [foldl_same]
@[simp] theorem State.receiveBytes_same {msk : Nat} (hq : 32828 &&& msk = 32828) (s₀ : State) (s : State) (c : Cmd) (b : List Byte) :
    Same msk s₀ (State.receiveBytes s c b) = Same msk s₀ s := ((State.receiveBytes_same0 s c b).mono hq).of_step
theorem State.withdrawOffer_same0 (s : State) (t : Nat) : Same 32768 s (State.withdrawOffer s t) := by
  unfold State.withdrawOffer
  (try dsimp only)
  (repeat' split) <;> simp [foldl_same]
@[simp] theorem State.withdrawOffer_same {msk : Nat} (hq : 32768 &&& msk = 32768) (s₀ : State) (s : State) (t : Nat) :
    Same msk s₀ (State.withdrawOffer s t) = Same msk s₀ s := ((State.withdrawOffer_same0 s t).mono hq).of_step
theorem State.takeKeys_same0 (s : State) (t : Nat) (tk sk : List Nat) : Same 32772 s (State.takeKeys s t tk sk) := by
  unfold State.takeKeys
  (try dsimp only)
  (repeat' split) <;> simp [foldl_same]
@[simp] theorem State.takeKeys_same {msk : Nat} (hq : 32772 &&& msk = 32772) (s₀ : State) (s : State) (t : Nat) (tk sk : List Nat) :
    Same msk s₀ (State.takeKeys s t tk sk) = Same msk s₀ s := ((State.takeKeys_same0 s t tk sk).mono hq).of_step
theorem State.putResp_same0 (s : State) (pf : Nat) (x : Responder) : Same 32768 s (State.putResp s pf x) := by
  unfold State.putResp
  (try dsimp only)
  (repeat' split) <;> simp [foldl_same]
@[simp] theorem State.putResp_same {msk : Nat} (hq : 32768 &&& msk = 32768) (s₀ : State) (s : State) (pf : Nat) (x : Responder) :
    Same msk s₀ (State.putResp s pf x) = Same msk s₀ s := ((State.putResp_same0 s pf x).mono hq).of_step
theorem State.spdmReply_same0 (s : State) (pf code p1 p2 : Nat) (rest : List Nat) : Same 8 s (State.spdmReply s pf code p1 p2 rest) := by
  unfold State.spdmReply
  (try dsimp only)
  (repeat' split) <;> simp [foldl_same]
@[simp] theorem State.spdmReply_same {msk : Nat} (hq : 8 &&& msk = 8) (s₀ : State) (s : State) (pf code p1 p2 : Nat) (rest : List Nat) :
    Same msk s₀ (State.spdmReply s pf code p1 p2 rest) = Same msk s₀ s := ((State.spdmReply_same0 s pf code p1 p2 rest).mono hq).of_step
theorem State.spdmError_same0 (s : State) (pf code : Nat) : Same 8 s (State.spdmError s pf code) := by
  unfold State.spdmError
  (try dsimp only)
  (repeat' split) <;> simp [foldl_same]
@[simp] theorem State.spdmError_same {msk : Nat} (hq : 8 &&& msk = 8) (s₀ : State) (s : State) (pf code : Nat) :
    Same msk s₀ (State.spdmError s pf code) = Same msk s₀ s := ((State.spdmError_same0 s pf code).mono hq).of_step
theorem State.dropSession_same0 (s : State) (pf id : Nat) : Same 32768 s (State.dropSession s pf id) := by
  unfold State.dropSession
  (try dsimp only)
  (repeat' split) <;> simp [foldl_same]
@[simp] theorem State.dropSession_same {msk : Nat} (hq : 32768 &&& msk = 32768) (s₀ : State) (s : State) (pf id : Nat) :
    Same msk s₀ (State.dropSession s pf id) = Same msk s₀ s := ((State.dropSession_same0 s pf id).mono hq).of_step
theorem State.mapSession_same0 (s : State) (pf id : Nat) (f : Session → Session) : Same 32768 s (State.mapSession s pf id f) := by
  unfold State.mapSession
  (try dsimp only)
  (repeat' split) <;> simp [foldl_same]
@[simp] theorem State.mapSession_same {msk : Nat} (hq : 32768 &&& msk = 32768) (s₀ : State) (s : State) (pf id : Nat) (f : Session → Session) :
    Same msk s₀ (State.mapSession s pf id f) = Same msk s₀ s := ((State.mapSession_same0 s pf id f).mono hq).of_step
theorem State.spdm_same0 (s : State) (pf : Nat) (m : SpdmMsg) : Same 2129928 s (State.spdm s pf m) := by
  unfold State.spdm
  (try dsimp only)
  (repeat' split) <;> simp [foldl_same]
@[simp] theorem State.spdm_same {msk : Nat} (hq : 2129928 &&& msk = 2129928) (s₀ : State) (s : State) (pf : Nat) (m : SpdmMsg) :
    Same msk s₀ (State.spdm s pf m) = Same msk s₀ s := ((State.spdm_same0 s pf m).mono hq).of_step
theorem State.putStream_same0 (s : State) (port stream : Nat) (x : IdeStream) : Same 32772 s (State.putStream s port stream x) := by
  unfold State.putStream
  (try dsimp only)
  (repeat' split) <;> simp [foldl_same]
@[simp] theorem State.putStream_same {msk : Nat} (hq : 32772 &&& msk = 32772) (s₀ : State) (s : State) (port stream : Nat) (x : IdeStream) :
    Same msk s₀ (State.putStream s port stream x) = Same msk s₀ s := ((State.putStream_same0 s port stream x).mono hq).of_step
theorem State.ideReply_same0 (s : State) (pf object stream status sub : Nat) : Same 8 s (State.ideReply s pf object stream status sub) := by
  unfold State.ideReply
  (try dsimp only)
  (repeat' split) <;> simp [foldl_same]
@[simp] theorem State.ideReply_same {msk : Nat} (hq : 8 &&& msk = 8) (s₀ : State) (s : State) (pf object stream status sub : Nat) :
    Same msk s₀ (State.ideReply s pf object stream status sub) = Same msk s₀ s := ((State.ideReply_same0 s pf object stream status sub).mono hq).of_step
theorem State.ideKm_same0 (s : State) (pf : Nat) (m : IdeKmMsg) : Same 32828 s (State.ideKm s pf m) := by
  unfold State.ideKm
  (try dsimp only)
  (repeat' split) <;> simp [foldl_same]
@[simp] theorem State.ideKm_same {msk : Nat} (hq : 32828 &&& msk = 32828) (s₀ : State) (s : State) (pf : Nat) (m : IdeKmMsg) :
    Same msk s₀ (State.ideKm s pf m) = Same msk s₀ s := ((State.ideKm_same0 s pf m).mono hq).of_step
theorem State.idle_same0 (s : State) : Same 35717135 s (State.idle s) := by
  unfold State.idle
  (try dsimp only)
  (repeat' split) <;> simp [foldl_same]
@[simp] theorem State.idle_same {msk : Nat} (hq : 35717135 &&& msk = 35717135) (s₀ : State) (s : State) :
    Same msk s₀ (State.idle s) = Same msk s₀ s := ((State.idle_same0 s).mono hq).of_step
end Sys2Proof.Machine
end

