-- ==== Sys2Proof/Laws/FrameExec.lean ====
section
/-!
SUPPORT. What each meaning may change when it goes on: one frame lemma for each.
-/

namespace Sys2Proof.Machine

open Sys2Proof
set_option linter.all false

/-- Whatever next state the outcome holds differs only in the parts of the mask. -/
def Keeps (m : Nat) (s : State) (o : Outcome) : Prop := ∀ t, o = .next t → Same m s t
@[simp] theorem Keeps.next (m : Nat) (s t : State) : Keeps m s (.next t) = Same m s t := by
  simp [Keeps]
@[simp] theorem Keeps.fault (m : Nat) (s : State) (f : Fault) : Keeps m s (.fault f) := by
  simp [Keeps]
theorem Keeps.ite {m : Nat} {s : State} {c : Prop} [Decidable c] {a b : Outcome} (h : Keeps m s a) (k : Keeps m s b) : Keeps m s (if c then a else b) := by
  split <;> assumption
theorem State.runReady_keeps {m : Nat} {s : State} {r : CmdRef} {q : Bool} {opc : Nat} {f : Cmd → State} (h : ∀ c, Same m s (f c)) :
    Keeps m s (s.runReady r q opc f) := by
  unfold State.runReady
  (repeat' split) <;> simp [h]
theorem State.runRead_keeps (s : State) (r : CmdRef) (opc : Nat) (f : Cmd → Bool) : Keeps 48188 s (s.runRead r opc f) := by
  unfold State.runRead
  (repeat' split) <;> simp
theorem State.runZoneAction_keeps (s : State) (r : CmdRef) (act : Nat) : Keeps 1101820 s (s.runZoneAction r act) := by
  unfold State.runZoneAction
  (repeat' split) <;> simp
theorem State.runWrite_keeps {m : Nat} {s : State} {r : CmdRef} {opc : Nat} {f : Cmd → Ns → State} (h : ∀ c n, Same m s (f c n))
    (hm : 34748 &&& m = 34748) : Keeps m s (s.runWrite r opc f) := by
  unfold State.runWrite
  (repeat' split) <;> simp [h, hm]
theorem State.miRun_keeps {m : Nat} {s : State} {f : State → State × MiRes} (h : Same m s (f s).1) (hm : 8 &&& m = 8) :
    Keeps m s (s.miRun f) := by
  unfold State.miRun
  (repeat' split) <;> simp [h, hm]
theorem State.runStored_keeps {m : Nat} {s : State} {r : CmdRef} {opc : Nat} {w : Cmd → Bool} {plan : Cmd → Except Status (State × Nat)}
    (h : ∀ c t n, plan c = .ok (t, n) → Same m s t) (hm : 32828 &&& m = 32828) (hs : 32768 &&& m = 32768)
    (hc : 8 &&& m = 8) : Keeps m s (s.runStored r opc w plan) := by
  unfold State.runStored
  (repeat' split) <;> simp [hm, hs, hc]
  exact h _ _ _ (by assumption)
theorem State.receive_same1 {s : State} {n : Nat} {f : Frame} {t : State} {x : Option TagRec} (h : s.receive n f = (t, x)) : Same 4096 s t := by
  have k := State.receive_same0 s n f
  rw [h] at k
  exact k
theorem State.receive_same2 {s : State} {a b c n : Nat} {f : Frame} {t : State} {x : Option TagRec} (h : (s.linkCount a b c).receive n f = (t, x)) :
    Same 4096 s t := by
  have k := State.receive_same0 (s.linkCount a b c) n f
  rw [h] at k
  exact Same.trans (by simp) k
theorem ok_of_ite {α : Type} {c : Prop} [Decidable c] {a : Status} {e : Except Status α} {x : α} (h : (if c then .error a else e) = .ok x) : e = .ok x := by
  split at h
  · cases h
  · exact h
theorem State.create_same1 {s : State} {issuer csi : Nat} {b : List Byte} {t : State} {n : Nat} (h : s.create issuer csi b = .ok (t, n)) :
    Same 2150308 s t := by
  unfold State.create at h
  dsimp only at h
  replace h := ok_of_ite (ok_of_ite h)
  split at h
  · cases h
  replace h := ok_of_ite (ok_of_ite (ok_of_ite (ok_of_ite h)))
  split at h
  · cases h
  replace h := ok_of_ite (ok_of_ite (ok_of_ite h))
  simp only [Except.ok.injEq, Prod.mk.injEq] at h
  obtain ⟨rfl, -⟩ := h
  simp
theorem State.planNamespace_same1 {s : State} {c : Cmd} {t : State} {n : Nat} (h : s.planNamespace c = .ok (t, n)) : Same 2158524 s t := by
  unfold State.planNamespace at h
  repeat' split at h
  all_goals first
    | (simp only [reduceCtorEq] at h; done)
    | exact (State.create_same1 h).mono (by decide)
    | (simp only [Except.ok.injEq, Prod.mk.injEq] at h; obtain ⟨rfl, -⟩ := h; exact Same.foldl (fun s x => by simp) (Same.refl _ _))
theorem State.reformat_same1 {s : State} {k f p : Nat} {e : Bool} {n : Ns} {t : State} (h : s.reformat k f p e n = some t) : Same 3207100 s t := by
  unfold State.reformat at h
  dsimp only at h
  rw [ite_eq_iff] at h
  rcases h with ⟨-, h⟩ | ⟨-, h⟩
  · cases h
  · simp only [Option.some.injEq] at h
    subst h
    simp
theorem foldl_bind_same {α : Type} {m : Nat} (f : State → α → Option State) (h : ∀ s x t, f s x = some t → Same m s t) (l : List α) :
    ∀ (a : Option State) (s t : State), (∀ u, a = some u → Same m s u) → l.foldl (fun (a : Option State) x => a.bind fun s => f s x) a = some t → Same m s t := by
  induction l with
  | nil => intro a s t k e; exact k t e
  | cons x l ih =>
    intro a s t k e
    refine ih _ s t (fun u hu => ?_) e
    cases a with
    | none => cases hu
    | some v => exact (k v rfl).trans (h v x u hu)
theorem State.planFormat_same1 {s : State} {c : Cmd} {t : State} {n : Nat} (h : s.planFormat c = .ok (t, n)) : Same 3207100 s t := by
  unfold State.planFormat at h
  dsimp only at h
  split at h
  · simp only [reduceCtorEq] at h
  split at h
  · simp only [reduceCtorEq] at h
  split at h
  · simp only [reduceCtorEq] at h
  split at h
  · simp only [reduceCtorEq] at h
  split at h
  · simp only [reduceCtorEq] at h
  split at h
  · simp only [Except.ok.injEq, Prod.mk.injEq] at h
    obtain ⟨rfl, -⟩ := h
    refine (foldl_bind_same _ (fun s x t h => State.reformat_same1 h) _ _ _ _ (fun u hu => ?_) ‹_›).mono (by decide)
    cases hu
    exact Same.refl _ _
  · simp only [reduceCtorEq] at h
theorem State.planPolicy_same1 {s : State} {c : Cmd} {t : State} {n : Nat} (h : s.planPolicy c = .ok (t, n)) : Same 61372 s t := by
  unfold State.planPolicy at h
  dsimp only at h
  repeat' split at h
  all_goals first
    | (simp only [reduceCtorEq] at h; done)
    | (simp only [Except.ok.injEq, Prod.mk.injEq] at h; obtain ⟨rfl, -⟩ := h; simp)
theorem State.assignFlex_same1 {s : State} {a : Nat} {v : Bool} {n : Nat} {t : State} (h : s.assignFlex a v n = some t) : Same 8 s t := by
  unfold State.assignFlex at h
  split at h
  · simp only [Option.some.injEq] at h; subst h; simp
  · simp only [reduceCtorEq] at h

theorem execTransactionBegin_keeps (a : Agent) (s : State) : Keeps 2 s (execTransactionBegin a s) := by
  unfold execTransactionBegin
  (try dsimp only)
  repeat' split
  all_goals first | (simp [foldl_same]; done) | skip
theorem execTransactionCommit_keeps (a : Agent) (save : Bool) (s : State) : Keeps 6 s (execTransactionCommit a save s) := by
  unfold execTransactionCommit
  (try dsimp only)
  repeat' split
  all_goals first | (simp [foldl_same]; done) | skip
theorem execTransactionAbort_keeps (a : Agent) (s : State) : Keeps 6 s (execTransactionAbort a s) := by
  unfold execTransactionAbort
  (try dsimp only)
  repeat' split
  all_goals first | (simp [foldl_same]; done) | skip
theorem execTransactionTimeout_keeps (s : State) : Keeps 6 s (execTransactionTimeout s) := by
  unfold execTransactionTimeout
  (try dsimp only)
  repeat' split
  all_goals first | (simp [foldl_same]; done) | skip
theorem execBootLock_keeps (a : Agent) (s : State) : Keeps 2 s (execBootLock a s) := by
  unfold execBootLock
  (try dsimp only)
  repeat' split
  all_goals first | (simp [foldl_same]; done) | skip
theorem execCountedFree_keeps (engine p g : Nat) (s : State) : Keeps 44 s (execCountedFree engine p g s) := by
  unfold execCountedFree
  (try dsimp only)
  repeat' split
  all_goals first | (simp [foldl_same]; done) | skip
theorem execNamedOwnerFree_keeps (engine p g owner : Nat) (s : State) : Keeps 44 s (execNamedOwnerFree engine p g owner s) := by
  unfold execNamedOwnerFree
  (try dsimp only)
  repeat' split
  all_goals first | (simp [foldl_same]; done) | skip
theorem execReferenceTake_keeps (engine p g : Nat) (s : State) : Keeps 36 s (execReferenceTake engine p g s) := by
  unfold execReferenceTake
  (try dsimp only)
  repeat' split
  all_goals first | (simp [foldl_same]; done) | skip
theorem execStripeUnitPlacement_keeps (csn : Nat) (comp : Bool) (s : State) : Keeps 20396 s (execStripeUnitPlacement csn comp s) := by
  unfold execStripeUnitPlacement
  (try dsimp only)
  repeat' split
  all_goals first | (simp [foldl_same]; done) | skip
theorem execGroupProgram_keeps (setid m grp : Nat) (s : State) : Keeps 52924 s (execGroupProgram setid m grp s) := by
  unfold execGroupProgram
  (try dsimp only)
  repeat' split
  all_goals first | (simp [foldl_same]; done) | skip
theorem execBankReady_keeps (vbank : Nat) (s : State) : Keeps 132 s (execBankReady vbank s) := by
  unfold execBankReady
  (try dsimp only)
  repeat' split
  all_goals first | (simp [foldl_same]; done) | skip
theorem execBankAboveVFloor_keeps (vbank : Nat) (s : State) : Keeps 128 s (execBankAboveVFloor vbank s) := by
  unfold execBankAboveVFloor
  (try dsimp only)
  repeat' split
  all_goals first | (simp [foldl_same]; done) | skip
theorem execEnergyTestRequest_keeps (a : Agent) (s : State) : Keeps 128 s (execEnergyTestRequest a s) := by
  unfold execEnergyTestRequest
  (try dsimp only)
  repeat' split
  all_goals first | (simp [foldl_same]; done) | skip
theorem execTestPeriodExpiry_keeps (s : State) : Keeps 128 s (execTestPeriodExpiry s) := by
  unfold execTestPeriodExpiry
  (try dsimp only)
  repeat' split
  all_goals first | (simp [foldl_same]; done) | skip
theorem execEnergyTestStart_keeps (v0 v1 : Nat) (s : State) : Keeps 1099708 s (execEnergyTestStart v0 v1 s) := by
  unfold execEnergyTestStart
  (try dsimp only)
  repeat' split
  all_goals first | (simp [foldl_same]; done) | skip
theorem execTestDischargeEnd_keeps (vbank tns : Nat) (s : State) : Keeps 128 s (execTestDischargeEnd vbank tns s) := by
  unfold execTestDischargeEnd
  (try dsimp only)
  repeat' split
  all_goals first | (simp [foldl_same]; done) | skip
theorem execEnergyTestComplete_keeps (vbank : Nat) (s : State) : Keeps 1099708 s (execEnergyTestComplete vbank s) := by
  unfold execEnergyTestComplete
  (try dsimp only)
  repeat' split
  all_goals first | (simp [foldl_same]; done) | skip
theorem execVinBelowThreshold_keeps (v : Nat) (s : State) : Keeps 128 s (execVinBelowThreshold v s) := by
  unfold execVinBelowThreshold
  (try dsimp only)
  repeat' split
  all_goals first | (simp [foldl_same]; done) | skip
theorem execVinDip_keeps (v low us : Nat) (s : State) : Keeps 132 s (execVinDip v low us s) := by
  unfold execVinDip
  (try dsimp only)
  repeat' split
  all_goals first | (simp [foldl_same]; done) | skip
theorem execDoorbellWrite_keeps (fn qid tail : Nat) (entries : List Sqe) (s : State) : Keeps 8 s (execDoorbellWrite fn qid tail entries s) := by
  unfold execDoorbellWrite
  (try dsimp only)
  repeat' split
  all_goals first | (simp [foldl_same]; done) | skip
theorem execCqHeadDoorbell_keeps (fn qid head : Nat) (s : State) : Keeps 32828 s (execCqHeadDoorbell fn qid head s) := by
  unfold execCqHeadDoorbell
  (try dsimp only)
  repeat' split
  all_goals first | (simp [foldl_same]; done) | skip
theorem execCommandFetch_keeps (fn qid : Nat) (s : State) : Keeps 32828 s (execCommandFetch fn qid s) := by
  unfold execCommandFetch
  (try dsimp only)
  repeat' split
  all_goals first | (simp [foldl_same]; done) | skip
theorem execCommandAdmission_keeps (r : CmdRef) (s : State) : Keeps 2072 s (execCommandAdmission r s) := by
  unfold execCommandAdmission
  (try dsimp only)
  repeat' split
  all_goals first | (simp [foldl_same]; done) | skip
theorem execLockGrant_keeps (r : CmdRef) (s : State) : Keeps 56 s (execLockGrant r s) := by
  unfold execLockGrant
  (try dsimp only)
  repeat' split
  all_goals first | (simp [foldl_same]; done) | skip
theorem execZoneOpen_keeps (r : CmdRef) (s : State) : Keeps 1101820 s (execZoneOpen r s) := by
  unfold execZoneOpen
  exact State.runZoneAction_keeps _ _ _
theorem execZoneClose_keeps (r : CmdRef) (s : State) : Keeps 1101820 s (execZoneClose r s) := by
  unfold execZoneClose
  exact State.runZoneAction_keeps _ _ _
theorem execZoneFinish_keeps (r : CmdRef) (s : State) : Keeps 1101820 s (execZoneFinish r s) := by
  unfold execZoneFinish
  exact State.runZoneAction_keeps _ _ _
theorem execZoneReset_keeps (r : CmdRef) (s : State) : Keeps 1101820 s (execZoneReset r s) := by
  unfold execZoneReset
  exact State.runZoneAction_keeps _ _ _
theorem execZoneOffline_keeps (r : CmdRef) (s : State) : Keeps 1101820 s (execZoneOffline r s) := by
  unfold execZoneOffline
  exact State.runZoneAction_keeps _ _ _
theorem execZoneActionAcknowledge_keeps (r : CmdRef) (s : State) : Keeps 61372 s (execZoneActionAcknowledge r s) := by
  unfold execZoneActionAcknowledge
  (try dsimp only)
  repeat' split
  all_goals first | (simp [foldl_same]; done) | skip
theorem execWrite_keeps (r : CmdRef) (s : State) : Keeps 1101820 s (execWrite r s) := by
  unfold execWrite
  refine State.runWrite_keeps (fun c n => ?_) (by decide)
  (try dsimp only)
  repeat' split
  all_goals first | (simp [foldl_same]; done) | skip
theorem execZoneAppend_keeps (r : CmdRef) (s : State) : Keeps 1101820 s (execZoneAppend r s) := by
  unfold execZoneAppend
  refine State.runWrite_keeps (fun c n => ?_) (by decide)
  (try dsimp only)
  repeat' split
  all_goals first | (simp [foldl_same]; done) | skip
theorem execWriteZeroes_keeps (r : CmdRef) (s : State) : Keeps 1101820 s (execWriteZeroes r s) := by
  unfold execWriteZeroes
  refine State.runWrite_keeps (fun c n => ?_) (by decide)
  (try dsimp only)
  repeat' split
  all_goals first | (simp [foldl_same]; done) | skip
theorem execWriteUncorrectable_keeps (r : CmdRef) (s : State) : Keeps 34748 s (execWriteUncorrectable r s) := by
  unfold execWriteUncorrectable
  refine State.runWrite_keeps (fun c n => ?_) (by decide)
  (try dsimp only)
  repeat' split
  all_goals first | (simp [foldl_same]; done) | skip
theorem execDatasetManagement_keeps (r : CmdRef) (taken : Nat) (s : State) : Keeps 34748 s (execDatasetManagement r taken s) := by
  unfold execDatasetManagement
  refine State.runWrite_keeps (fun c n => ?_) (by decide)
  (try dsimp only)
  repeat' split
  all_goals first | (simp [foldl_same]; done) | skip
theorem execJournalPageTimer_keeps (s : State) : Keeps 256 s (execJournalPageTimer s) := by
  unfold execJournalPageTimer
  (try dsimp only)
  repeat' split
  all_goals first | (simp [foldl_same]; done) | skip
theorem execJournalPageProgrammed_keeps (seq : Nat) (s : State) : Keeps 1098748 s (execJournalPageProgrammed seq s) := by
  unfold execJournalPageProgrammed
  (try dsimp only)
  repeat' split
  all_goals first | (simp [foldl_same]; done) | skip
theorem execLatencyMonitorConfig_keeps (a : Agent) (v : Nat) (s : State) : Keeps 2050 s (execLatencyMonitorConfig a v s) := by
  unfold execLatencyMonitorConfig
  (try dsimp only)
  repeat' split
  all_goals first | (simp [foldl_same]; done) | skip
theorem execHostDataBlock_keeps (r : CmdRef) (data : Block) (mdata : Nat) (pi : PiCheck) (s : State) : Keeps 34748 s (execHostDataBlock r data mdata pi s) := by
  unfold execHostDataBlock
  (try dsimp only)
  repeat' split
  all_goals first | (simp [foldl_same]; done) | skip
theorem execHoldupCreditGrant_keeps (s : State) : Keeps 2115500 s (execHoldupCreditGrant s) := by
  unfold execHoldupCreditGrant
  (try dsimp only)
  repeat' split
  all_goals first | (simp [foldl_same]; done) | skip
theorem execWriteCompletion_keeps (r : CmdRef) (s : State) : Keeps 52796 s (execWriteCompletion r s) := by
  unfold execWriteCompletion
  (try dsimp only)
  repeat' split
  all_goals first | (simp [foldl_same]; done) | skip
theorem execFuaCompletion_keeps (r : CmdRef) (s : State) : Keeps 52796 s (execFuaCompletion r s) := by
  unfold execFuaCompletion
  (try dsimp only)
  repeat' split
  all_goals first | (simp [foldl_same]; done) | skip
theorem execFlush_keeps (r : CmdRef) (s : State) : Keeps 18348 s (execFlush r s) := by
  unfold execFlush
  refine State.runReady_keeps (fun c => ?_)
  (try dsimp only)
  repeat' split
  all_goals first | (simp [foldl_same]; done) | skip
theorem execFlushCompletion_keeps (r : CmdRef) (s : State) : Keeps 32828 s (execFlushCompletion r s) := by
  unfold execFlushCompletion
  (try dsimp only)
  repeat' split
  all_goals first | (simp [foldl_same]; done) | skip
theorem execEpochEnd_keeps (nsix : Nat) (s : State) : Keeps 512 s (execEpochEnd nsix s) := by
  unfold execEpochEnd
  (try dsimp only)
  repeat' split
  all_goals first | (simp [foldl_same]; done) | skip
theorem execLostLbaSearchEnd_keeps (record pos : Nat) (s : State) : Keeps 2147900 s (execLostLbaSearchEnd record pos s) := by
  unfold execLostLbaSearchEnd
  (try dsimp only)
  repeat' split
  all_goals first | (simp [foldl_same]; done) | skip
theorem execMemberReplacement_keeps (setid m : Nat) (s : State) : Keeps 3207164 s (execMemberReplacement setid m s) := by
  unfold execMemberReplacement
  (try dsimp only)
  repeat' split
  all_goals first | (simp [foldl_same]; done) | skip
theorem execRebuildRow_keeps (s : State) : Keeps 3207164 s (execRebuildRow s) := by
  unfold execRebuildRow
  (try dsimp only)
  repeat' split
  all_goals first | (simp [foldl_same]; done) | skip
theorem execStagedReadback_keeps (setid row : Nat) (s : State) : Keeps 3196860 s (execStagedReadback setid row s) := by
  unfold execStagedReadback
  (try dsimp only)
  repeat' split
  all_goals first | (simp; done) | skip
  rw [Keeps.next, State.parityRow_same (by decide)]
  refine Same.foldl (fun s x => ?_) (Same.refl _ _)
  repeat' split
  all_goals simp
theorem execInhibitWaitTimeout_keeps (die : Nat) (s : State) : Keeps 3072 s (execInhibitWaitTimeout die s) := by
  unfold execInhibitWaitTimeout
  (try dsimp only)
  repeat' split
  all_goals first | (simp [foldl_same]; done) | skip
theorem execStripeCounterClear_keeps (a : Agent) (s : State) : Keeps 1024 s (execStripeCounterClear a s) := by
  unfold execStripeCounterClear
  (try dsimp only)
  repeat' split
  all_goals first | (simp [foldl_same]; done) | skip
theorem execReconstructionComplete_keeps (id : Nat) (s : State) : Keeps 3210812 s (execReconstructionComplete id s) := by
  unfold execReconstructionComplete
  (try dsimp only)
  repeat' split
  all_goals first | (simp [foldl_same]; done) | skip
theorem execDieDispatch_keeps (die : Nat) (s : State) : Keeps 97292 s (execDieDispatch die s) := by
  unfold execDieDispatch
  (try dsimp only)
  repeat' split
  all_goals first | (simp [foldl_same]; done) | skip
theorem execClassAgeingTimeout_keeps (die : Nat) (s : State) : Keeps 15360 s (execClassAgeingTimeout die s) := by
  unfold execClassAgeingTimeout
  (try dsimp only)
  repeat' split
  all_goals first | (simp [foldl_same]; done) | skip
theorem execSuspholdExpiry_keeps (die : Nat) (s : State) : Keeps 97292 s (execSuspholdExpiry die s) := by
  unfold execSuspholdExpiry
  (try dsimp only)
  repeat' split
  all_goals first | (simp [foldl_same]; done) | skip
theorem execRdata_keeps (link : Nat) (f : Frame) (s : State) : Keeps 2111488 s (execRdata link f s) := by
  unfold execRdata
  (try dsimp only)
  repeat' split
  all_goals first | (simp [foldl_same]; done) | ((try simp [foldl_same]); exact (State.receive_same1 (by assumption)).mono (by decide)) | ((try simp [foldl_same]); apply Same.trans (t := _) ((State.receive_same1 (by assumption)).mono (by decide)); simp [foldl_same]) | skip
theorem execSdata_keeps (link : Nat) (f : Frame) (s : State) : Keeps 2111488 s (execSdata link f s) := by
  unfold execSdata
  (try dsimp only)
  repeat' split
  all_goals first | (simp [foldl_same]; done) | ((try simp [foldl_same]); exact (State.receive_same1 (by assumption)).mono (by decide)) | ((try simp [foldl_same]); apply Same.trans (t := _) ((State.receive_same1 (by assumption)).mono (by decide)); simp [foldl_same]) | skip
theorem execDone_keeps (link : Nat) (f : Frame) (s : State) : Keeps 3473406 s (execDone link f s) := by
  unfold execDone
  (try dsimp only)
  repeat' split
  all_goals first | (simp [foldl_same]; done) | ((try simp [foldl_same]); exact (State.receive_same1 (by assumption)).mono (by decide)) | ((try simp [foldl_same]); apply Same.trans (t := _) ((State.receive_same1 (by assumption)).mono (by decide)); simp [foldl_same]) | skip
theorem execBusy_keeps (link : Nat) (f : Frame) (s : State) : Keeps 15360 s (execBusy link f s) := by
  unfold execBusy
  dsimp only
  repeat' split
  all_goals first | (simp; done) | ((try simp); exact (State.receive_same2 (by assumption)).mono (by decide)) | skip
theorem execInhibit_keeps (link : Nat) (f : Frame) (s : State) : Keeps 2104324 s (execInhibit link f s) := by
  unfold execInhibit
  dsimp only
  repeat' split
  all_goals first | (simp; done) | ((try simp); exact (State.receive_same2 (by assumption)).mono (by decide)) | skip
theorem execStatusRsp_keeps (link : Nat) (f : Frame) (s : State) : Keeps 3473406 s (execStatusRsp link f s) := by
  unfold execStatusRsp
  (try dsimp only)
  repeat' split
  all_goals first | (simp [foldl_same]; done) | ((try simp [foldl_same]); exact (State.receive_same1 (by assumption)).mono (by decide)) | ((try simp [foldl_same]); apply Same.trans (t := _) ((State.receive_same1 (by assumption)).mono (by decide)); simp [foldl_same]) | skip
theorem execNak_keeps (link : Nat) (f : Frame) (s : State) : Keeps 3473406 s (execNak link f s) := by
  unfold execNak
  dsimp only
  repeat' split
  all_goals first | (simp; done) | ((try simp); exact (State.receive_same2 (by assumption)).mono (by decide)) | skip
theorem execAlert_keeps (link : Nat) (f : Frame) (s : State) : Keeps 3465214 s (execAlert link f s) := by
  unfold execAlert
  (try dsimp only)
  repeat' split
  all_goals first | (simp [foldl_same]; done) | skip
theorem execRegData_keeps (link : Nat) (f : Frame) (s : State) : Keeps 3473406 s (execRegData link f s) := by
  unfold execRegData
  (try dsimp only)
  repeat' split
  all_goals first | (simp [foldl_same]; done) | ((try simp [foldl_same]); exact (State.receive_same1 (by assumption)).mono (by decide)) | ((try simp [foldl_same]); apply Same.trans (t := _) ((State.receive_same1 (by assumption)).mono (by decide)); simp [foldl_same]) | skip
theorem execTrainRsp_keeps (link : Nat) (f : Frame) (errs : Nat) (s : State) : Keeps 3473406 s (execTrainRsp link f errs s) := by
  unfold execTrainRsp
  (try dsimp only)
  repeat' split
  all_goals first | (simp [foldl_same]; done) | skip
theorem execTrainDetectTimer_keeps (link lane : Nat) (s : State) : Keeps 4096 s (execTrainDetectTimer link lane s) := by
  unfold execTrainDetectTimer
  (try dsimp only)
  repeat' split
  all_goals first | (simp [foldl_same]; done) | skip
theorem execLinkTrainingPhaseTimeout_keeps (link lane : Nat) (s : State) : Keeps 3473406 s (execLinkTrainingPhaseTimeout link lane s) := by
  unfold execLinkTrainingPhaseTimeout
  (try dsimp only)
  repeat' split
  all_goals first | (simp [foldl_same]; done) | skip
theorem execCorruptFrame_keeps (link lane : Nat) (hcrc : Bool) (s : State) : Keeps 4096 s (execCorruptFrame link lane hcrc s) := by
  unfold execCorruptFrame
  (try dsimp only)
  repeat' split
  all_goals first | (simp [foldl_same]; done) | skip
theorem execFrameLengthTimeout_keeps (link lane : Nat) (s : State) : Keeps 4096 s (execFrameLengthTimeout link lane s) := by
  unfold execFrameLengthTimeout
  (try dsimp only)
  repeat' split
  all_goals first | (simp [foldl_same]; done) | skip
theorem execBurstEnd_keeps (link lane : Nat) (cut : Bool) (s : State) : Keeps 4096 s (execBurstEnd link lane cut s) := by
  unfold execBurstEnd
  (try dsimp only)
  repeat' split
  all_goals first | (simp [foldl_same]; done) | skip
theorem execTagTimerExpiry_keeps (link tag : Nat) (s : State) : Keeps 3473406 s (execTagTimerExpiry link tag s) := by
  unfold execTagTimerExpiry
  (try dsimp only)
  repeat' split
  all_goals first | (simp [foldl_same]; done) | skip
theorem execQuarantineExpiry_keeps (link tag : Nat) (s : State) : Keeps 4096 s (execQuarantineExpiry link tag s) := by
  unfold execQuarantineExpiry
  (try dsimp only)
  repeat' split
  all_goals first | (simp [foldl_same]; done) | skip
theorem execInhibitPollTimer_keeps (link : Nat) (s : State) : Keeps 4096 s (execInhibitPollTimer link s) := by
  unfold execInhibitPollTimer
  (try dsimp only)
  repeat' split
  all_goals first | (simp [foldl_same]; done) | skip
theorem execDieTempPoll_keeps (die : Nat) (s : State) : Keeps 4096 s (execDieTempPoll die s) := by
  unfold execDieTempPoll
  (try dsimp only)
  repeat' split
  all_goals first | (simp [foldl_same]; done) | skip
theorem execResetbr_keeps (a : Agent) (link : Nat) (s : State) : Keeps 4096 s (execResetbr a link s) := by
  unfold execResetbr
  (try dsimp only)
  repeat' split
  all_goals first | (simp [foldl_same]; done) | skip
theorem execRetrain_keeps (a : Agent) (link : Nat) (s : State) : Keeps 4096 s (execRetrain a link s) := by
  unfold execRetrain
  (try dsimp only)
  repeat' split
  all_goals first | (simp [foldl_same]; done) | skip
theorem execLinkCounterClear_keeps (a : Agent) (link : Nat) (s : State) : Keeps 4096 s (execLinkCounterClear a link s) := by
  unfold execLinkCounterClear
  (try dsimp only)
  repeat' split
  all_goals first | (simp [foldl_same]; done) | skip
theorem execDramWriteRequest_keeps (addr data : Nat) (s : State) : Keeps 65536 s (execDramWriteRequest addr data s) := by
  unfold execDramWriteRequest
  (try dsimp only)
  repeat' split
  all_goals first | (simp [foldl_same]; done) | skip
theorem execDramReadRequest_keeps (addr : Nat) (sym : DramSyms) (s : State) : Keeps 35717134 s (execDramReadRequest addr sym s) := by
  unfold execDramReadRequest
  (try dsimp only)
  repeat' split
  all_goals first | (simp [foldl_same]; done) | skip
theorem execWriteAgeTimeout_keeps (ch sub : Nat) (s : State) : Keeps 35717134 s (execWriteAgeTimeout ch sub s) := by
  unfold execWriteAgeTimeout
  (try dsimp only)
  repeat' split
  all_goals first | (simp [foldl_same]; done) | skip
theorem execRefreshDue_keeps (ch sub rank : Nat) (s : State) : Keeps 65536 s (execRefreshDue ch sub rank s) := by
  unfold execRefreshDue
  (try dsimp only)
  repeat' split
  all_goals first | (simp [foldl_same]; done) | skip
theorem execMr4Poll_keeps (ch mult : Nat) (s : State) : Keeps 65536 s (execMr4Poll ch mult s) := by
  unfold execMr4Poll
  (try dsimp only)
  repeat' split
  all_goals first | (simp [foldl_same]; done) | skip
theorem execZqCalibrationTimer_keeps (ch : Nat) (s : State) : Keeps 65536 s (execZqCalibrationTimer ch s) := by
  unfold execZqCalibrationTimer
  (try dsimp only)
  repeat' split
  all_goals first | (simp [foldl_same]; done) | skip
theorem execOscillatorTimer_keeps (ch drift : Nat) (s : State) : Keeps 65536 s (execOscillatorTimer ch drift s) := by
  unfold execOscillatorTimer
  (try dsimp only)
  repeat' split
  all_goals first | (simp [foldl_same]; done) | skip
theorem execTrainingOperation_keeps (a : Agent) (ch v : Nat) (s : State) : Keeps 65542 s (execTrainingOperation a ch v s) := by
  unfold execTrainingOperation
  (try dsimp only)
  repeat' split
  all_goals first | (simp [foldl_same]; done) | skip
theorem execTrainingOperationDone_keeps (ch fail : Nat) (first : Option Nat) (burst : List Byte) (s : State) : Keeps 65538 s (execTrainingOperationDone ch fail first burst s) := by
  unfold execTrainingOperationDone
  (try dsimp only)
  repeat' split
  all_goals first | (simp [foldl_same]; done) | skip
theorem execDelaySet_keeps (a : Agent) (ch v : Nat) (s : State) : Keeps 65542 s (execDelaySet a ch v s) := by
  unfold execDelaySet
  (try dsimp only)
  repeat' split
  all_goals first | (simp [foldl_same]; done) | skip
theorem execModeRegisterCommand_keeps (a : Agent) (ch v rdata : Nat) (s : State) : Keeps 65538 s (execModeRegisterCommand a ch v rdata s) := by
  unfold execModeRegisterCommand
  (try dsimp only)
  repeat' split
  all_goals first | (simp [foldl_same]; done) | skip
theorem execScrubStart_keeps (a : Agent) (v : Nat) (s : State) : Keeps 65542 s (execScrubStart a v s) := by
  unfold execScrubStart
  (try dsimp only)
  repeat' split
  all_goals first | (simp [foldl_same]; done) | skip
theorem execScrubAbort_keeps (a : Agent) (s : State) : Keeps 65536 s (execScrubAbort a s) := by
  unfold execScrubAbort
  (try dsimp only)
  repeat' split
  all_goals first | (simp [foldl_same]; done) | skip
theorem execScrubPassEnd_keeps (s : State) : Keeps 2162692 s (execScrubPassEnd s) := by
  unfold execScrubPassEnd
  (try dsimp only)
  repeat' split
  all_goals first | (simp [foldl_same]; done) | skip
theorem execDomainCommand_keeps (a : Agent) (v : Nat) (s : State) : Keeps 2228228 s (execDomainCommand a v s) := by
  unfold execDomainCommand
  (try dsimp only)
  repeat' split
  all_goals first | (simp [foldl_same]; done) | skip
theorem execHandshakeReply_keeps (dom : Nat) (reply : HsReply) (s : State) : Keeps 2228228 s (execHandshakeReply dom reply s) := by
  unfold execHandshakeReply
  (try dsimp only)
  repeat' split
  all_goals first | (simp [foldl_same]; done) | skip
theorem execHandshakeDelayExpiry_keeps (dom : Nat) (s : State) : Keeps 131072 s (execHandshakeDelayExpiry dom s) := by
  unfold execHandshakeDelayExpiry
  (try dsimp only)
  repeat' split
  all_goals first | (simp [foldl_same]; done) | skip
theorem execQuiesceDone_keeps (dom : Nat) (s : State) : Keeps 2246564 s (execQuiesceDone dom s) := by
  unfold execQuiesceDone
  (try dsimp only)
  repeat' split
  all_goals first | (simp [foldl_same]; done) | skip
theorem execDomainEntryComplete_keeps (dom : Nat) (s : State) : Keeps 37198076 s (execDomainEntryComplete dom s) := by
  unfold execDomainEntryComplete
  (try dsimp only)
  repeat' split
  all_goals first | (simp [foldl_same]; done) | skip
theorem execDomainReturnComplete_keeps (dom : Nat) (s : State) : Keeps 34858940 s (execDomainReturnComplete dom s) := by
  unfold execDomainReturnComplete
  (try dsimp only)
  repeat' split
  all_goals first | (simp [foldl_same]; done) | skip
theorem execDomainReturnFailed_keeps (dom cause : Nat) (s : State) : Keeps 131076 s (execDomainReturnFailed dom cause s) := by
  unfold execDomainReturnFailed
  (try dsimp only)
  repeat' split
  all_goals first | (simp [foldl_same]; done) | skip
theorem execWakePinChange_keeps (pin : Nat) (level : Bool) (s : State) : Keeps 131072 s (execWakePinChange pin level s) := by
  unfold execWakePinChange
  (try dsimp only)
  repeat' split
  all_goals first | (simp [foldl_same]; done) | skip
theorem execHardDecodeDone_keeps (id : Nat) (res : DecodeRes) (s : State) : Keeps 3604478 s (execHardDecodeDone id res s) := by
  unfold execHardDecodeDone
  dsimp only
  repeat' split
  all_goals first | (simp; done) | skip
  all_goals rw [Keeps.next]
  all_goals refine Same.trans ?_ (State.arriveWith_same1 _ _ _ _ (fun s r p => ?_) (by decide))
  all_goals first
    | (simp; done)
    | exact Same.refl _ _
    | (split <;> simp)
theorem execSoftDecodeDone_keeps (id : Nat) (res : DecodeRes) (s : State) : Keeps 3473406 s (execSoftDecodeDone id res s) := by
  unfold execSoftDecodeDone
  (try dsimp only)
  repeat' split
  all_goals first | (simp [foldl_same]; done) | skip
theorem execEffectiveHoursTick_keeps (s : State) : Keeps 24580 s (execEffectiveHoursTick s) := by
  unfold execEffectiveHoursTick
  (try dsimp only)
  repeat' split
  all_goals first | (simp [foldl_same]; done) | skip
theorem execCalibrationSampleStart_keeps (die w k r block grp : Nat) (s : State) : Keeps 26624 s (execCalibrationSampleStart die w k r block grp s) := by
  unfold execCalibrationSampleStart
  (try dsimp only)
  repeat' split
  all_goals first | (simp [foldl_same]; done) | skip
theorem execCalibrationSampleEnd_keeps (link : Nat) (ok : Bool) (counts : List CalCount) (errs : Nat) (n0 n1 : List Nat) (s : State) : Keeps 2121732 s (execCalibrationSampleEnd link ok counts errs n0 n1 s) := by
  unfold execCalibrationSampleEnd
  (try dsimp only)
  repeat' split
  all_goals first | (simp [foldl_same]; done) | skip
theorem execDdkCounterClear_keeps (a : Agent) (link : Nat) (s : State) : Keeps 8192 s (execDdkCounterClear a link s) := by
  unfold execDdkCounterClear
  (try dsimp only)
  repeat' split
  all_goals first | (simp [foldl_same]; done) | skip
theorem execSoftEngineFault_keeps (engine : Nat) (s : State) : Keeps 3473406 s (execSoftEngineFault engine s) := by
  unfold execSoftEngineFault
  dsimp only
  repeat' split
  all_goals first | (simp; done) | skip
  rw [Keeps.next]
  refine Same.foldl (fun s x => ?_) (by simp)
  split <;> simp
theorem execSchedulerWindowEnd_keeps (s : State) : Keeps 1099836 s (execSchedulerWindowEnd s) := by
  unfold execSchedulerWindowEnd
  (try dsimp only)
  repeat' split
  all_goals first | (simp [foldl_same]; done) | skip
theorem execEraseRelease_keeps (s : State) : Keeps 18432 s (execEraseRelease s) := by
  unfold execEraseRelease
  (try dsimp only)
  repeat' split
  all_goals first | (simp [foldl_same]; done) | skip
theorem execCheckpointTimer_keeps (s : State) : Keeps 16800 s (execCheckpointTimer s) := by
  unfold execCheckpointTimer
  (try dsimp only)
  repeat' split
  all_goals first | (simp [foldl_same]; done) | skip
theorem execCheckpointStart_keeps (kind : Nat) (s : State) : Keeps 16800 s (execCheckpointStart kind s) := by
  unfold execCheckpointStart
  (try dsimp only)
  repeat' split
  all_goals first | (simp [foldl_same]; done) | skip
theorem execCheckpointComplete_keeps (kind : Nat) (s : State) : Keeps 2384292 s (execCheckpointComplete kind s) := by
  unfold execCheckpointComplete
  (try dsimp only)
  repeat' split
  all_goals first | (simp [foldl_same]; done) | skip
theorem execGcVictimSelect_keeps (ds : Nat) (s : State) : Keeps 3207100 s (execGcVictimSelect ds s) := by
  unfold execGcVictimSelect
  (try dsimp only)
  repeat' split
  all_goals first | (simp [foldl_same]; done) | skip
theorem execRelocationCommit_keeps (setid : Nat) (s : State) : Keeps 28580 s (execRelocationCommit setid s) := by
  unfold execRelocationCommit
  (try dsimp only)
  repeat' split
  all_goals first | (simp [foldl_same]; done) | skip
theorem execPatrolVisit_keeps (die block grp : Nat) (s : State) : Keeps 31744 s (execPatrolVisit die block grp s) := by
  unfold execPatrolVisit
  (try dsimp only)
  repeat' split
  all_goals first | (simp [foldl_same]; done) | skip
theorem execTemperatureMinuteTick_keeps (s : State) : Keeps 16384 s (execTemperatureMinuteTick s) := by
  unfold execTemperatureMinuteTick
  dsimp only
  rw [Keeps.next]
  refine Same.foldl (fun s x => ?_) (by simp)
  (repeat' split) <;> simp
theorem execVinLossConfirmed_keeps (s : State) : Keeps 54525951 s (execVinLossConfirmed s) := by
  unfold execVinLossConfirmed
  (try dsimp only)
  repeat' split
  all_goals first | (simp [foldl_same]; done) | skip
theorem execForcedFlush_keeps (a : Agent) (key test : Nat) (s : State) : Keeps 54525951 s (execForcedFlush a key test s) := by
  unfold execForcedFlush
  (try dsimp only)
  repeat' split
  all_goals first | (simp [foldl_same]; done) | skip
theorem execFlushDrainDone_keeps (s : State) : Keeps 33620096 s (execFlushDrainDone s) := by
  unfold execFlushDrainDone
  (try dsimp only)
  repeat' split
  all_goals first | (simp [foldl_same]; done) | skip
theorem execFlushCommitProgrammed_keeps (s : State) : Keeps 128 s (execFlushCommitProgrammed s) := by
  unfold execFlushCommitProgrammed
  (try dsimp only)
  repeat' split
  all_goals first | (simp [foldl_same]; done) | skip
theorem execFlushEnd_keeps (s : State) : Keeps 54525951 s (execFlushEnd s) := by
  unfold execFlushEnd
  (try dsimp only)
  repeat' split
  all_goals first | (simp [foldl_same]; done) | skip
theorem execCaptureWindowWrite_keeps (pf off rid : Nat) (bytes : List Byte) (s : State) : Keeps 100 s (execCaptureWindowWrite pf off rid bytes s) := by
  unfold execCaptureWindowWrite
  (try dsimp only)
  repeat' split
  all_goals first | (simp [foldl_same]; done) | skip
theorem execCaptureUnitAccept_keeps (ring : Nat) (s : State) : Keeps 2028 s (execCaptureUnitAccept ring s) := by
  unfold execCaptureUnitAccept
  (try dsimp only)
  repeat' split
  all_goals first | (simp [foldl_same]; done) | skip
theorem execBufferGrant_keeps (p : Nat) (s : State) : Keeps 364 s (execBufferGrant p s) := by
  unfold execBufferGrant
  (try dsimp only)
  repeat' split
  all_goals first | (simp [foldl_same]; done) | skip
theorem execCreditSpanGrant_keeps (ring : Nat) (s : State) : Keeps 364 s (execCreditSpanGrant ring s) := by
  unfold execCreditSpanGrant
  (try dsimp only)
  repeat' split
  all_goals first | (simp [foldl_same]; done) | skip
theorem execZoneQueuePush_keeps (a : Agent) (ring v : Nat) (s : State) : Keeps 20452 s (execZoneQueuePush a ring v s) := by
  unfold execZoneQueuePush
  (try dsimp only)
  repeat' split
  all_goals first | (simp [foldl_same]; done) | skip
theorem execStallTimeout_keeps (ring : Nat) (s : State) : Keeps 100 s (execStallTimeout ring s) := by
  unfold execStallTimeout
  (try dsimp only)
  repeat' split
  all_goals first | (simp [foldl_same]; done) | skip
theorem execRingArm_keeps (a : Agent) (ring : Nat) (s : State) : Keeps 2130020 s (execRingArm a ring s) := by
  unfold execRingArm
  (try dsimp only)
  repeat' split
  all_goals first | (simp [foldl_same]; done) | skip
theorem execRingRelease_keeps (a : Agent) (ring : Nat) (s : State) : Keeps 996 s (execRingRelease a ring s) := by
  unfold execRingRelease
  (try dsimp only)
  repeat' split
  all_goals first | (simp [foldl_same]; done) | skip
theorem execCaptureCountClear_keeps (a : Agent) (ring : Nat) (s : State) : Keeps 2130916 s (execCaptureCountClear a ring s) := by
  unfold execCaptureCountClear
  (try dsimp only)
  repeat' split
  all_goals first | (simp [foldl_same]; done) | skip
theorem execReleaseComplete_keeps (ring : Nat) (s : State) : Keeps 1004 s (execReleaseComplete ring s) := by
  unfold execReleaseComplete
  (try dsimp only)
  repeat' split
  all_goals first | (simp [foldl_same]; done) | skip
theorem execVauxPorEnd_keeps (bifur mgmtSel dbgen : Bool) (s : State) : Keeps 524289 s (execVauxPorEnd bifur mgmtSel dbgen s) := by
  unfold execVauxPorEnd
  (try dsimp only)
  repeat' split
  all_goals first | (simp [foldl_same]; done) | skip
theorem execVauxLoss_keeps (s : State) : Keeps 54525951 s (execVauxLoss s) := by
  unfold execVauxLoss
  (try dsimp only)
  repeat' split
  all_goals first | (simp [foldl_same]; done) | skip
theorem execIsolationSwitchOn_keeps (s : State) : Keeps 524288 s (execIsolationSwitchOn s) := by
  unfold execIsolationSwitchOn
  (try dsimp only)
  repeat' split
  all_goals first | (simp [foldl_same]; done) | skip
theorem execVinInRange_keeps (s : State) : Keeps 917508 s (execVinInRange s) := by
  unfold execVinInRange
  (try dsimp only)
  repeat' split
  all_goals first | (simp [foldl_same]; done) | skip
theorem execWakeEvent_keeps (pin : Nat) (s : State) : Keeps 54525951 s (execWakeEvent pin s) := by
  unfold execWakeEvent
  (try dsimp only)
  repeat' split
  all_goals first | (simp [foldl_same]; done) | skip
theorem execStartupStageComplete_keeps (res : StageRes) (s : State) : Keeps 62259198 s (execStartupStageComplete res s) := by
  unfold execStartupStageComplete
  have k := State.endStage_same0 s
  repeat' split
  all_goals first
    | (simp; done)
    | (dsimp only; (repeat' split) <;> simp; done)
    | (rename_i h; rw [h] at k; dsimp only at k; (repeat' split) <;> simp <;> exact k.mono (by decide))
    | (rename_i h _; rw [h] at k; dsimp only at k; (repeat' split) <;> simp <;> exact k.mono (by decide))
    | skip
theorem execFwsProgram_keeps (a : Agent) (v : Nat) (s : State) : Keeps 2359302 s (execFwsProgram a v s) := by
  unfold execFwsProgram
  (try dsimp only)
  repeat' split
  all_goals first | (simp [foldl_same]; done) | skip
theorem execFwsErase_keeps (a : Agent) (v : Nat) (s : State) : Keeps 2359302 s (execFwsErase a v s) := by
  unfold execFwsErase
  (try dsimp only)
  repeat' split
  all_goals first | (simp [foldl_same]; done) | skip
theorem execFwsRead_keeps (a : Agent) (v : Nat) (s : State) : Keeps 2359302 s (execFwsRead a v s) := by
  unfold execFwsRead
  (try dsimp only)
  repeat' split
  all_goals first | (simp [foldl_same]; done) | skip
theorem execFwsOperationDone_keeps (ok : Bool) (s : State) : Keeps 19136512 s (execFwsOperationDone ok s) := by
  unfold execFwsOperationDone
  (try dsimp only)
  repeat' split
  all_goals first | (simp [foldl_same]; done) | skip
theorem execFwsOperationTimeout_keeps (s : State) : Keeps 19136512 s (execFwsOperationTimeout s) := by
  unfold execFwsOperationTimeout
  (try dsimp only)
  repeat' split
  all_goals first | (simp [foldl_same]; done) | skip
theorem execCoreReadBusyBank_keeps (core addr : Nat) (s : State) : Keeps 2359300 s (execCoreReadBusyBank core addr s) := by
  unfold execCoreReadBusyBank
  (try dsimp only)
  repeat' split
  all_goals first | (simp [foldl_same]; done) | skip
theorem execReboot_keeps (a : Agent) (key : Nat) (s : State) : Keeps 54525951 s (execReboot a key s) := by
  unfold execReboot
  (try dsimp only)
  repeat' split
  all_goals first | (simp [foldl_same]; done) | skip
theorem execJunctionTempSample_keeps (t : Int) (s : State) : Keeps 524292 s (execJunctionTempSample t s) := by
  unfold execJunctionTempSample
  (try dsimp only)
  repeat' split
  all_goals first | (simp [foldl_same]; done) | skip
theorem execThermalTrip_keeps (s : State) : Keeps 54525951 s (execThermalTrip s) := by
  unfold execThermalTrip
  (try dsimp only)
  repeat' split
  all_goals first | (simp [foldl_same]; done) | skip
theorem execThermalCooldown_keeps (s : State) : Keeps 524288 s (execThermalCooldown s) := by
  unfold execThermalCooldown
  (try dsimp only)
  repeat' split
  all_goals first | (simp [foldl_same]; done) | skip
theorem execTestAccessPortAccess_keeps (addr len : Nat) (s : State) : Keeps 524292 s (execTestAccessPortAccess addr len s) := by
  unfold execTestAccessPortAccess
  (try dsimp only)
  repeat' split
  all_goals first | (simp [foldl_same]; done) | skip
theorem execCrystalFault_keeps (cause : Nat) (s : State) : Keeps 524292 s (execCrystalFault cause s) := by
  unfold execCrystalFault
  (try dsimp only)
  repeat' split
  all_goals first | (simp [foldl_same]; done) | skip
theorem execEventRecordArrival_keeps (src : Nat) (s : State) : Keeps 32828 s (execEventRecordArrival src s) := by
  unfold execEventRecordArrival
  (try dsimp only)
  repeat' split
  all_goals first | (simp [foldl_same]; done) | skip
theorem execEventRingWrite_keeps (ring : Nat) (err : Bool) (s : State) : Keeps 14 s (execEventRingWrite ring err s) := by
  unfold execEventRingWrite
  (try dsimp only)
  repeat' split
  all_goals first | (simp [foldl_same]; done) | skip
theorem execEventHeadWrite_keeps (a : Agent) (ring head : Nat) (s : State) : Keeps 2 s (execEventHeadWrite a ring head s) := by
  unfold execEventHeadWrite
  (try dsimp only)
  repeat' split
  all_goals first | (simp [foldl_same]; done) | skip
theorem execEventRingConfig_keeps (a : Agent) (ring v : Nat) (s : State) : Keeps 6 s (execEventRingConfig a ring v s) := by
  unfold execEventRingConfig
  (try dsimp only)
  repeat' split
  all_goals first | (simp [foldl_same]; done) | skip
theorem execEventInterruptTimer_keeps (ring : Nat) (s : State) : Keeps 12 s (execEventInterruptTimer ring s) := by
  unfold execEventInterruptTimer
  (try dsimp only)
  repeat' split
  all_goals first | (simp [foldl_same]; done) | skip
theorem execAbort_keeps (r : CmdRef) (s : State) : Keeps 34748 s (execAbort r s) := by
  unfold execAbort
  refine State.runReady_keeps (fun c => ?_)
  (try dsimp only)
  repeat' split
  all_goals first | (simp [foldl_same]; done) | skip
theorem execControllerEnable_keeps (fn ams asqs acqs : Nat) (s : State) : Keeps 8 s (execControllerEnable fn ams asqs acqs s) := by
  unfold execControllerEnable
  (try dsimp only)
  repeat' split
  all_goals first | (simp [foldl_same]; done) | skip
theorem execControllerReset_keeps (fn : Nat) (s : State) : Keeps 61374 s (execControllerReset fn s) := by
  unfold execControllerReset
  (try dsimp only)
  repeat' split
  all_goals first | (simp [foldl_same]; done) | skip
theorem execNormalShutdown_keeps (fn : Nat) (s : State) : Keeps 18348 s (execNormalShutdown fn s) := by
  unfold execNormalShutdown
  (try dsimp only)
  repeat' split
  all_goals first | (simp [foldl_same]; done) | skip
theorem execShutdownComplete_keeps (fn : Nat) (s : State) : Keeps 18348 s (execShutdownComplete fn s) := by
  unfold execShutdownComplete
  (try dsimp only)
  repeat' split
  all_goals first | (simp [foldl_same]; done) | skip
theorem execAbruptShutdown_keeps (fn : Nat) (s : State) : Keeps 61372 s (execAbruptShutdown fn s) := by
  unfold execAbruptShutdown
  (try dsimp only)
  repeat' split
  all_goals first | (simp [foldl_same]; done) | skip
theorem execFunctionLevelReset_keeps (fn : Nat) (s : State) : Keeps 61438 s (execFunctionLevelReset fn s) := by
  unfold execFunctionLevelReset
  (try dsimp only)
  repeat' split
  all_goals first | (simp [foldl_same]; done) | skip
theorem execFunctionDisable_keeps (fn : Nat) (cause : FnCause) (s : State) : Keeps 61438 s (execFunctionDisable fn cause s) := by
  unfold execFunctionDisable
  (try dsimp only)
  repeat' split
  all_goals first | (simp [foldl_same]; done) | skip
theorem execFunctionEnable_keeps (fn : Nat) (cause : FnCause) (s : State) : Keeps 8 s (execFunctionEnable fn cause s) := by
  unfold execFunctionEnable
  (try dsimp only)
  repeat' split
  all_goals first | (simp [foldl_same]; done) | skip
theorem execPerstAssert_keeps (port : Nat) (s : State) : Keeps 61438 s (execPerstAssert port s) := by
  unfold execPerstAssert
  (try dsimp only)
  repeat' split
  all_goals first | (simp [foldl_same]; done) | skip
theorem execPerstDeassert_keeps (port : Nat) (s : State) : Keeps 8 s (execPerstDeassert port s) := by
  unfold execPerstDeassert
  (try dsimp only)
  repeat' split
  all_goals first | (simp [foldl_same]; done) | skip
theorem execPortLinkUp_keeps (port rate width : Nat) (flit : Bool) (s : State) : Keeps 12 s (execPortLinkUp port rate width flit s) := by
  unfold execPortLinkUp
  (try dsimp only)
  repeat' split
  all_goals first | (simp [foldl_same]; done) | skip
theorem execPortLinkDown_keeps (port : Nat) (s : State) : Keeps 61438 s (execPortLinkDown port s) := by
  unfold execPortLinkDown
  (try dsimp only)
  repeat' split
  all_goals first | (simp [foldl_same]; done) | skip
theorem execNvmSubsystemReset_keeps (fn : Nat) (s : State) : Keeps 54525951 s (execNvmSubsystemReset fn s) := by
  unfold execNvmSubsystemReset
  (try dsimp only)
  repeat' split
  all_goals first | (simp [foldl_same]; done) | skip
theorem execWatchdogExpiry_keeps (core cause : Nat) (s : State) : Keeps 54525951 s (execWatchdogExpiry core cause s) := by
  unfold execWatchdogExpiry
  (try dsimp only)
  repeat' split
  all_goals first | (simp [foldl_same]; done) | skip
theorem execInterruptCoalescingTimer_keeps (fn cqid : Nat) (s : State) : Keeps 8 s (execInterruptCoalescingTimer fn cqid s) := by
  unfold execInterruptCoalescingTimer
  (try dsimp only)
  repeat' split
  all_goals first | (simp [foldl_same]; done) | skip
theorem execStatClr_keeps (a : Agent) (s : State) : Keeps 16 s (execStatClr a s) := by
  unfold execStatClr
  (try dsimp only)
  repeat' split
  all_goals first | (simp [foldl_same]; done) | skip
theorem execNamespaceManagement_keeps (r : CmdRef) (s : State) : Keeps 2158524 s (execNamespaceManagement r s) := by
  unfold execNamespaceManagement
  split
  · exact State.runStored_keeps (fun c t n h => (State.planNamespace_same1 h).mono (by decide)) (by decide) (by decide) (by decide)
  · simp
theorem execNamespaceAttachment_keeps (r : CmdRef) (s : State) : Keeps 33340 s (execNamespaceAttachment r s) := by
  unfold execNamespaceAttachment
  refine State.runReady_keeps (fun c => ?_)
  (try dsimp only)
  repeat' split
  all_goals first | (simp [foldl_same]; done) | skip
theorem execFormatNvm_keeps (r : CmdRef) (s : State) : Keeps 3207100 s (execFormatNvm r s) := by
  unfold execFormatNvm
  split
  · exact State.runStored_keeps (fun c t n h => (State.planFormat_same1 h).mono (by decide)) (by decide) (by decide) (by decide)
  · simp
theorem execSanitize_keeps (r : CmdRef) (s : State) : Keeps 3207100 s (execSanitize r s) := by
  unfold execSanitize
  (try dsimp only)
  repeat' split
  all_goals first | (simp [foldl_same]; done) | skip
theorem execGetLogPage_keeps (r : CmdRef) (s : State) : Keeps 2671676 s (execGetLogPage r s) := by
  unfold execGetLogPage
  refine State.runReady_keeps (fun c => ?_)
  (try dsimp only)
  repeat' split
  all_goals first | (simp [foldl_same]; done) | skip
theorem execCreateIoSubmissionQueue_keeps (r : CmdRef) (s : State) : Keeps 32828 s (execCreateIoSubmissionQueue r s) := by
  unfold execCreateIoSubmissionQueue
  refine State.runReady_keeps (fun c => ?_)
  (try dsimp only)
  repeat' split
  all_goals first | (simp [foldl_same]; done) | skip
theorem execCreateIoCompletionQueue_keeps (r : CmdRef) (s : State) : Keeps 32828 s (execCreateIoCompletionQueue r s) := by
  unfold execCreateIoCompletionQueue
  refine State.runReady_keeps (fun c => ?_)
  (try dsimp only)
  repeat' split
  all_goals first | (simp [foldl_same]; done) | skip
theorem execDeleteIoSubmissionQueue_keeps (r : CmdRef) (s : State) : Keeps 32828 s (execDeleteIoSubmissionQueue r s) := by
  unfold execDeleteIoSubmissionQueue
  refine State.runReady_keeps (fun c => ?_)
  (try dsimp only)
  repeat' split
  all_goals first | (simp [foldl_same]; done) | skip
theorem execDeleteIoCompletionQueue_keeps (r : CmdRef) (s : State) : Keeps 32828 s (execDeleteIoCompletionQueue r s) := by
  unfold execDeleteIoCompletionQueue
  refine State.runReady_keeps (fun c => ?_)
  (try dsimp only)
  repeat' split
  all_goals first | (simp [foldl_same]; done) | skip
theorem execVirtualizationManagement_keeps (r : CmdRef) (s : State) : Keeps 61374 s (execVirtualizationManagement r s) := by
  unfold execVirtualizationManagement
  refine State.runReady_keeps (fun c => ?_)
  dsimp only
  repeat' split
  all_goals first
    | (simp; done)
    | (rw [State.complete_same (by decide)]; exact (State.assignFlex_same1 (by assumption)).mono (by decide))
theorem execAsynchronousEventRequest_keeps (r : CmdRef) (s : State) : Keeps 32828 s (execAsynchronousEventRequest r s) := by
  unfold execAsynchronousEventRequest
  refine State.runReady_keeps (fun c => ?_)
  (try dsimp only)
  repeat' split
  all_goals first | (simp [foldl_same]; done) | skip
theorem execIdentify_keeps (r : CmdRef) (s : State) : Keeps 32828 s (execIdentify r s) := by
  unfold execIdentify
  refine State.runReady_keeps (fun c => ?_)
  (try dsimp only)
  repeat' split
  all_goals first | (simp [foldl_same]; done) | skip
theorem execSetFeatures_keeps (r : CmdRef) (s : State) : Keeps 32828 s (execSetFeatures r s) := by
  unfold execSetFeatures
  refine State.runReady_keeps (fun c => ?_)
  (try dsimp only)
  repeat' split
  all_goals first | (simp [foldl_same]; done) | skip
theorem execGetFeatures_keeps (r : CmdRef) (s : State) : Keeps 32828 s (execGetFeatures r s) := by
  unfold execGetFeatures
  refine State.runReady_keeps (fun c => ?_)
  (try dsimp only)
  repeat' split
  all_goals first | (simp [foldl_same]; done) | skip
theorem execDeviceSelfTest_keeps (r : CmdRef) (s : State) : Keeps 48188 s (execDeviceSelfTest r s) := by
  unfold execDeviceSelfTest
  refine State.runReady_keeps (fun c => ?_)
  (try dsimp only)
  repeat' split
  all_goals first | (simp [foldl_same]; done) | skip
theorem execDirectiveSend_keeps (r : CmdRef) (s : State) : Keeps 32828 s (execDirectiveSend r s) := by
  unfold execDirectiveSend
  refine State.runReady_keeps (fun c => ?_)
  (try dsimp only)
  repeat' split
  all_goals first | (simp [foldl_same]; done) | skip
theorem execDirectiveReceive_keeps (r : CmdRef) (s : State) : Keeps 32828 s (execDirectiveReceive r s) := by
  unfold execDirectiveReceive
  refine State.runReady_keeps (fun c => ?_)
  (try dsimp only)
  repeat' split
  all_goals first | (simp [foldl_same]; done) | skip
theorem execCommitImageSaved_keeps (ok : Bool) (s : State) : Keeps 262150 s (execCommitImageSaved ok s) := by
  unfold execCommitImageSaved
  have k : Same 262150 s s.applyShadows.saveImage := by simp
  have hs := k.stores (by decide)
  split
  · split
    · rw [Keeps.next, State.setTxn_same (by decide), same_withBoot (by decide) _ _ _ hs]
      exact Same.refl _ _
    · simp
  · simp
theorem execCommitIslandsHeld_keeps (s : State) : Keeps 1105854 s (execCommitIslandsHeld s) := by
  unfold execCommitIslandsHeld
  (try dsimp only)
  repeat' split
  all_goals first | (simp [foldl_same]; done) | skip
theorem execFirmwareImageDownload_keeps (r : CmdRef) (s : State) : Keeps 17072188 s (execFirmwareImageDownload r s) := by
  unfold execFirmwareImageDownload
  refine State.runReady_keeps (fun c => ?_)
  (try dsimp only)
  repeat' split
  all_goals first | (simp [foldl_same]; done) | skip
theorem execFirmwareCommit_keeps (r : CmdRef) (s : State) : Keeps 19169342 s (execFirmwareCommit r s) := by
  unfold execFirmwareCommit
  split
  · simp
  refine State.runReady_keeps (fun c => ?_)
  dsimp only
  repeat' split
  all_goals simp
theorem execHotActivationQuiesced_keeps (s : State) : Keeps 262144 s (execHotActivationQuiesced s) := by
  unfold execHotActivationQuiesced
  (try dsimp only)
  repeat' split
  all_goals first | (simp [foldl_same]; done) | skip
theorem execHotActivationTimeout_keeps (s : State) : Keeps 294972 s (execHotActivationTimeout s) := by
  unfold execHotActivationTimeout
  (try dsimp only)
  repeat' split
  all_goals first | (simp [foldl_same]; done) | skip
theorem execActivationImageLoaded_keeps (ok : Bool) (s : State) : Keeps 294972 s (execActivationImageLoaded ok s) := by
  unfold execActivationImageLoaded
  (try dsimp only)
  repeat' split
  all_goals first | (simp [foldl_same]; done) | skip
theorem execActivationComplete_keeps (ok : Bool) (pause : Nat) (s : State) : Keeps 8683580 s (execActivationComplete ok pause s) := by
  unfold execActivationComplete
  (try dsimp only)
  repeat' split
  all_goals first | (simp [foldl_same]; done) | skip
theorem execSealedEnvelope_keeps (r : CmdRef) (s : State) : Keeps 32828 s (execSealedEnvelope r s) := by
  unfold execSealedEnvelope
  (try dsimp only)
  repeat' split
  all_goals first | (simp [foldl_same]; done) | skip
theorem execSealCounterDurable_keeps (tenant : Nat) (s : State) : Keeps 32828 s (execSealCounterDurable tenant s) := by
  unfold execSealCounterDurable
  (try dsimp only)
  repeat' split
  all_goals first | (simp [foldl_same]; done) | skip
theorem execVaultStoreWriteDone_keeps (okA okB : Bool) (s : State) : Keeps 2129924 s (execVaultStoreWriteDone okA okB s) := by
  unfold execVaultStoreWriteDone
  (try dsimp only)
  repeat' split
  all_goals first | (simp [foldl_same]; done) | skip
theorem execTenantPolicySet_keeps (r : CmdRef) (s : State) : Keeps 61372 s (execTenantPolicySet r s) := by
  unfold execTenantPolicySet
  have k : Keeps 61372 s (s.runStored r 0xC5 s.releaseWaits s.planPolicy) :=
    State.runStored_keeps (fun c t n h => (State.planPolicy_same1 h).mono (by decide)) (by decide) (by decide) (by decide)
  split
  · simp
  split
  · simp
  split
  · rename_i h
    rw [h, Keeps.next] at k
    rw [Keeps.next]
    split
    · rw [State.markReleasing_same (by decide)]; exact k
    · exact k
  · exact k
theorem execTenantPolicyGet_keeps (r : CmdRef) (s : State) : Keeps 32828 s (execTenantPolicyGet r s) := by
  unfold execTenantPolicyGet
  refine State.runReady_keeps (fun c => ?_)
  (try dsimp only)
  repeat' split
  all_goals first | (simp [foldl_same]; done) | skip
theorem execSealStatus_keeps (r : CmdRef) (s : State) : Keeps 32828 s (execSealStatus r s) := by
  unfold execSealStatus
  refine State.runReady_keeps (fun c => ?_)
  (try dsimp only)
  repeat' split
  all_goals first | (simp [foldl_same]; done) | skip
theorem execVaultSelfTest_keeps (a : Agent) (kat rng : Bool) (s : State) : Keeps 2129924 s (execVaultSelfTest a kat rng s) := by
  unfold execVaultSelfTest
  (try dsimp only)
  repeat' split
  all_goals first | (simp [foldl_same]; done) | skip
theorem execVaultStoreCompact_keeps (a : Agent) (s : State) : Keeps 32768 s (execVaultStoreCompact a s) := by
  unfold execVaultStoreCompact
  (try dsimp only)
  repeat' split
  all_goals first | (simp [foldl_same]; done) | skip
theorem execSealStatusQuery_keeps (a : Agent) (s : State) : Keeps 32770 s (execSealStatusQuery a s) := by
  unfold execSealStatusQuery
  (try dsimp only)
  repeat' split
  all_goals first | (simp [foldl_same]; done) | skip
theorem execMisalignedAccess_keeps (a : Agent) (off size : Nat) (write : Bool) (v : Nat) (s : State) : Keeps 12 s (execMisalignedAccess a off size write v s) := by
  unfold execMisalignedAccess
  (try dsimp only)
  repeat' split
  all_goals first | (simp [foldl_same]; done) | skip
theorem execLowDwordRead_keeps (a : Agent) (x : ReadAt) (s : State) : Keeps 10 s (execLowDwordRead a x s) := by
  unfold execLowDwordRead
  (try dsimp only)
  repeat' split
  all_goals first | (simp [foldl_same]; done) | skip
theorem execLowDwordWrite_keeps (a : Agent) (off v : Nat) (s : State) : Keeps 54525951 s (execLowDwordWrite a off v s) := by
  unfold execLowDwordWrite
  (try dsimp only)
  repeat' split
  all_goals first | (simp [foldl_same]; done) | skip
theorem execHighDwordWrite_keeps (a : Agent) (off v : Nat) (s : State) : Keeps 54525951 s (execHighDwordWrite a off v s) := by
  unfold execHighDwordWrite
  (try dsimp only)
  repeat' split
  all_goals first | (simp [foldl_same]; done) | skip
theorem execRegisterWrite_keeps (a : Agent) (off size v : Nat) (s : State) : Keeps 54525951 s (execRegisterWrite a off size v s) := by
  unfold execRegisterWrite
  (try dsimp only)
  repeat' split
  all_goals first | (simp [foldl_same]; done) | skip
theorem execTxWrite_keeps (a : Agent) (off size v : Nat) (s : State) : Keeps 54525951 s (execTxWrite a off size v s) := by
  unfold execTxWrite
  (try dsimp only)
  repeat' split
  all_goals first | (simp [foldl_same]; done) | skip
theorem execMctpControlMessage_keeps (msg : MctpMsg) (s : State) : Keeps 1048584 s (execMctpControlMessage msg s) := by
  unfold execMctpControlMessage
  (try dsimp only)
  repeat' split
  all_goals first | (simp [foldl_same]; done) | skip
theorem execReadNvmeMiDataStructure_keeps (dtyp portid ctlid : Nat) (s : State) : Keeps 8 s (execReadNvmeMiDataStructure dtyp portid ctlid s) := by
  unfold execReadNvmeMiDataStructure
  refine State.miRun_keeps ?_ (by decide)
  (try dsimp only)
  repeat' split
  all_goals first | (simp [foldl_same]; done) | skip
theorem execNvmSubsystemHealthStatusPoll_keeps (clear : Bool) (s : State) : Keeps 1048584 s (execNvmSubsystemHealthStatusPoll clear s) := by
  unfold execNvmSubsystemHealthStatusPoll
  refine State.miRun_keeps ?_ (by decide)
  (try dsimp only)
  repeat' split
  all_goals first | (simp [foldl_same]; done) | skip
theorem execControllerHealthStatusPoll_keeps (start maxent : Nat) (clear : Bool) (s : State) : Keeps 1048584 s (execControllerHealthStatusPoll start maxent clear s) := by
  unfold execControllerHealthStatusPoll
  refine State.miRun_keeps ?_ (by decide)
  (try dsimp only)
  repeat' split
  all_goals first | (simp [foldl_same]; done) | skip
theorem execConfigurationSet_keeps (cid port v : Nat) (s : State) : Keeps 1048584 s (execConfigurationSet cid port v s) := by
  unfold execConfigurationSet
  refine State.miRun_keeps ?_ (by decide)
  (try dsimp only)
  repeat' split
  all_goals first | (simp [foldl_same]; done) | skip
theorem execConfigurationGet_keeps (cid port : Nat) (s : State) : Keeps 8 s (execConfigurationGet cid port s) := by
  unfold execConfigurationGet
  refine State.miRun_keeps ?_ (by decide)
  (try dsimp only)
  repeat' split
  all_goals first | (simp [foldl_same]; done) | skip
theorem execVpdRead_keeps (off len : Nat) (s : State) : Keeps 8 s (execVpdRead off len s) := by
  unfold execVpdRead
  refine State.miRun_keeps ?_ (by decide)
  (try dsimp only)
  repeat' split
  all_goals first | (simp [foldl_same]; done) | skip
theorem execVpdWrite_keeps (off : Nat) (bytes : List Byte) (s : State) : Keeps 1048584 s (execVpdWrite off bytes s) := by
  unfold execVpdWrite
  refine State.miRun_keeps ?_ (by decide)
  (try dsimp only)
  repeat' split
  all_goals first | (simp [foldl_same]; done) | skip
theorem execMiReset_keeps (rtype : Nat) (s : State) : Keeps 54525951 s (execMiReset rtype s) := by
  unfold execMiReset
  refine State.miRun_keeps ?_ (by decide)
  (try dsimp only)
  repeat' split
  all_goals first | (simp [foldl_same]; done) | skip
theorem execTunnelledAdminCommand_keeps (pf : Nat) (e : Sqe) (s : State) : Keeps 32828 s (execTunnelledAdminCommand pf e s) := by
  unfold execTunnelledAdminCommand
  (try dsimp only)
  repeat' split
  all_goals first | (simp [foldl_same]; done) | skip
theorem execSetupWindowAccess_keeps (write : Bool) (off v : Nat) (s : State) : Keeps 54525951 s (execSetupWindowAccess write off v s) := by
  unfold execSetupWindowAccess
  refine State.miRun_keeps ?_ (by decide)
  (try dsimp only)
  repeat' split
  all_goals first | (simp [foldl_same]; done) | skip
theorem execManagementEndpointReset_keeps (cause : Nat) (s : State) : Keeps 1048582 s (execManagementEndpointReset cause s) := by
  unfold execManagementEndpointReset
  (try dsimp only)
  repeat' split
  all_goals first | (simp [foldl_same]; done) | skip
theorem execDynamicAddressAssignment_keeps (addr : Nat) (setdasa : Bool) (s : State) : Keeps 1048576 s (execDynamicAddressAssignment addr setdasa s) := by
  unfold execDynamicAddressAssignment
  (try dsimp only)
  repeat' split
  all_goals first | (simp [foldl_same]; done) | skip
theorem execNvmeMiSend_keeps (r : CmdRef) (s : State) : Keeps 54525951 s (execNvmeMiSend r s) := by
  unfold execNvmeMiSend
  refine State.runReady_keeps (fun c => ?_)
  (try dsimp only)
  repeat' split
  all_goals first | (simp [foldl_same]; done) | skip
theorem execNvmeMiReceive_keeps (r : CmdRef) (s : State) : Keeps 1081404 s (execNvmeMiReceive r s) := by
  unfold execNvmeMiReceive
  refine State.runReady_keeps (fun c => ?_)
  (try dsimp only)
  repeat' split
  all_goals first | (simp [foldl_same]; done) | skip
theorem execRead_keeps (r : CmdRef) (s : State) : Keeps 48188 s (execRead r s) := by
  unfold execRead
  exact State.runRead_keeps _ _ _ _
theorem execCompare_keeps (r : CmdRef) (s : State) : Keeps 48188 s (execCompare r s) := by
  unfold execCompare
  exact State.runRead_keeps _ _ _ _
theorem execVerify_keeps (r : CmdRef) (s : State) : Keeps 48188 s (execVerify r s) := by
  unfold execVerify
  exact State.runRead_keeps _ _ _ _
theorem execReadCompletion_keeps (r : CmdRef) (pi : PiCheck) (s : State) : Keeps 2148412 s (execReadCompletion r pi s) := by
  unfold execReadCompletion
  (try dsimp only)
  repeat' split
  all_goals first | (simp [foldl_same]; done) | skip
theorem execZoneManagementReceive_keeps (r : CmdRef) (s : State) : Keeps 32828 s (execZoneManagementReceive r s) := by
  unfold execZoneManagementReceive
  refine State.runReady_keeps (fun c => ?_)
  (try dsimp only)
  repeat' split
  all_goals first | (simp [foldl_same]; done) | skip
theorem execGetLbaStatus_keeps (r : CmdRef) (s : State) : Keeps 32828 s (execGetLbaStatus r s) := by
  unfold execGetLbaStatus
  refine State.runReady_keeps (fun c => ?_)
  (try dsimp only)
  repeat' split
  all_goals first | (simp [foldl_same]; done) | skip
theorem execSecurityProtocolInformation_keeps (r : CmdRef) (s : State) : Keeps 32828 s (execSecurityProtocolInformation r s) := by
  unfold execSecurityProtocolInformation
  refine State.runReady_keeps (fun c => ?_)
  (try dsimp only)
  repeat' split
  all_goals first | (simp [foldl_same]; done) | ((try simp [foldl_same]); exact (State.receive_same1 (by assumption)).mono (by decide)) | ((try simp [foldl_same]); apply Same.trans (t := _) ((State.receive_same1 (by assumption)).mono (by decide)); simp [foldl_same]) | skip
theorem execCertificateChainReceive_keeps (r : CmdRef) (s : State) : Keeps 32828 s (execCertificateChainReceive r s) := by
  unfold execCertificateChainReceive
  refine State.runReady_keeps (fun c => ?_)
  (try dsimp only)
  repeat' split
  all_goals first | (simp [foldl_same]; done) | ((try simp [foldl_same]); exact (State.receive_same1 (by assumption)).mono (by decide)) | ((try simp [foldl_same]); apply Same.trans (t := _) ((State.receive_same1 (by assumption)).mono (by decide)); simp [foldl_same]) | skip
theorem execExchangeOfferReceive_keeps (r : CmdRef) (s : State) : Keeps 2129980 s (execExchangeOfferReceive r s) := by
  unfold execExchangeOfferReceive
  refine State.runReady_keeps (fun c => ?_)
  (try dsimp only)
  repeat' split
  all_goals first | (simp [foldl_same]; done) | ((try simp [foldl_same]); exact (State.receive_same1 (by assumption)).mono (by decide)) | ((try simp [foldl_same]); apply Same.trans (t := _) ((State.receive_same1 (by assumption)).mono (by decide)); simp [foldl_same]) | skip
theorem execAttestedReportReceive_keeps (r : CmdRef) (s : State) : Keeps 2129980 s (execAttestedReportReceive r s) := by
  unfold execAttestedReportReceive
  refine State.runReady_keeps (fun c => ?_)
  (try dsimp only)
  repeat' split
  all_goals first | (simp [foldl_same]; done) | ((try simp [foldl_same]); exact (State.receive_same1 (by assumption)).mono (by decide)) | ((try simp [foldl_same]); apply Same.trans (t := _) ((State.receive_same1 (by assumption)).mono (by decide)); simp [foldl_same]) | skip
theorem execAttestationNonceSend_keeps (r : CmdRef) (s : State) : Keeps 32828 s (execAttestationNonceSend r s) := by
  unfold execAttestationNonceSend
  refine State.runReady_keeps (fun c => ?_)
  (try dsimp only)
  repeat' split
  all_goals first | (simp [foldl_same]; done) | skip
theorem execKeyInstall_keeps (r : CmdRef) (s : State) : Keeps 32828 s (execKeyInstall r s) := by
  unfold execKeyInstall
  (try dsimp only)
  repeat' split
  all_goals first | (simp [foldl_same]; done) | skip
theorem execTenantUnlock_keeps (r : CmdRef) (s : State) : Keeps 32828 s (execTenantUnlock r s) := by
  unfold execTenantUnlock
  refine State.runReady_keeps (fun c => ?_)
  (try dsimp only)
  repeat' split
  all_goals first | (simp [foldl_same]; done) | skip
theorem execSpdmRequest_keeps (pf : Nat) (msg : SpdmMsg) (s : State) : Keeps 2129928 s (execSpdmRequest pf msg s) := by
  unfold execSpdmRequest
  (try dsimp only)
  repeat' split
  all_goals first | (simp [foldl_same]; done) | skip
theorem execIdeKmRequest_keeps (pf : Nat) (msg : IdeKmMsg) (s : State) : Keeps 32828 s (execIdeKmRequest pf msg s) := by
  unfold execIdeKmRequest
  (try dsimp only)
  repeat' split
  all_goals first | (simp [foldl_same]; done) | skip
theorem execIdeStreamInsecure_keeps (pf stream cause : Nat) (s : State) : Keeps 32772 s (execIdeStreamInsecure pf stream cause s) := by
  unfold execIdeStreamInsecure
  (try dsimp only)
  repeat' split
  all_goals first | (simp [foldl_same]; done) | skip
end Sys2Proof.Machine
end

