-- ==== Sys2Proof/Laws/Map.lean ====
section
/-!
SUPPORT. The laws of finite maps: what is listed at a key after an insertion, a removal and a change.
-/

namespace Sys2Proof.Machine

@[simp] theorem AMap.get?_nil {α : Type} (k : Nat) : AMap.get? ([] : AMap α) k = none := rfl

@[simp] theorem AMap.get?_ins_same {α : Type} (m : AMap α) (k : Nat) (x : α) : (m.ins k x).get? k = some x := by
  induction m with
  | nil => simp [AMap.ins, AMap.get?]
  | cons e m ih =>
    obtain ⟨a, v⟩ := e
    by_cases h : k < a
    · simp [AMap.ins, h, AMap.get?]
    · by_cases g : k = a
      · simp [AMap.ins, g, AMap.get?]
      · have n : a ≠ k := fun e => g e.symm
        simp [AMap.ins, h, g, AMap.get?, n, ih]

theorem AMap.get?_ins_other {α : Type} (m : AMap α) {k q : Nat} (x : α) (h : q ≠ k) : (m.ins k x).get? q = m.get? q := by
  have hs : k ≠ q := fun e => h e.symm
  induction m with
  | nil => simp [AMap.ins, AMap.get?, hs]
  | cons e m ih =>
    obtain ⟨a, v⟩ := e
    by_cases g : k < a
    · simp [AMap.ins, g, AMap.get?, hs]
    · by_cases g2 : k = a
      · subst g2
        simp [AMap.ins, AMap.get?, hs]
      · simp [AMap.ins, g, g2, AMap.get?, ih]

@[simp] theorem AMap.get?_del_same {α : Type} (m : AMap α) (k : Nat) : (m.del k).get? k = none := by
  induction m with
  | nil => rfl
  | cons e m ih =>
    obtain ⟨a, v⟩ := e
    by_cases g : a = k <;> simp [AMap.del, AMap.get?, g, ih]

theorem AMap.get?_del_other {α : Type} (m : AMap α) {k q : Nat} (h : q ≠ k) : (m.del k).get? q = m.get? q := by
  induction m with
  | nil => rfl
  | cons e m ih =>
    obtain ⟨a, v⟩ := e
    by_cases g : a = k
    · subst g
      have hs : ¬a = q := fun e => h e.symm
      simp [AMap.del, AMap.get?, hs, ih]
    · simp [AMap.del, AMap.get?, g, ih]

@[simp] theorem AMap.get?_mapV {α β : Type} (m : AMap α) (f : Nat → α → β) (k : Nat) : (m.mapV f).get? k = (m.get? k).map (f k) := by
  induction m with
  | nil => rfl
  | cons e m ih =>
    obtain ⟨a, v⟩ := e
    unfold AMap.mapV at ih
    by_cases g : a = k
    · simp [AMap.mapV, AMap.get?, g]
    · simp [AMap.mapV, AMap.get?, g, ih]

@[simp] theorem AMap.getD_ins_same {α : Type} (m : AMap α) (k : Nat) (x d : α) : (m.ins k x).getD k d = x := by simp [AMap.getD]

theorem AMap.getD_ins_other {α : Type} (m : AMap α) {k q : Nat} (x d : α) (h : q ≠ k) : (m.ins k x).getD q d = m.getD q d := by
  simp [AMap.getD, AMap.get?_ins_other m x h]

@[simp] theorem AMap.getD_upd_same {α : Type} (m : AMap α) (k : Nat) (d : α) (f : α → α) : (m.upd k d f).getD k d = f (m.getD k d) := by
  simp [AMap.upd]

theorem AMap.getD_upd_other {α : Type} (m : AMap α) {k q : Nat} (d e : α) (f : α → α) (h : q ≠ k) : (m.upd k d f).getD q e = m.getD q e := by
  simp [AMap.upd, AMap.getD_ins_other m _ e h]

end Sys2Proof.Machine
end

