-- ==== Sys2Proof/Laws/Memory.lean ====
section
/-!
SUPPORT. The laws of the byte memories: every operation keeps the canonical form; a read after a write.
-/

namespace Sys2Proof.Machine

theorem Mem.wfFrom_mono {d : Byte} {m : Mem} {lo hi : Nat} (h : lo ≤ hi) (k : Mem.wfFrom d hi m = true) : Mem.wfFrom d lo m = true := by
  cases m with
  | nil => rfl
  | cons c m =>
    simp only [Mem.wfFrom, Bool.and_eq_true, decide_eq_true_eq] at *
    exact ⟨⟨h.trans k.1.1, k.1.2⟩, k.2⟩

theorem Mem.wfFrom_write {d : Byte} {m : Mem} {lo a : Nat} (b : Byte) (h : Mem.wfFrom d lo m = true) (ha : lo ≤ a) :
    Mem.wfFrom d lo (Mem.write d m a b) = true := by
  induction m generalizing lo with
  | nil =>
    simp only [Mem.write]
    split
    · rfl
    · simp [Mem.wfFrom, *]
  | cons c m ih =>
    obtain ⟨k, v⟩ := c
    simp only [Mem.wfFrom, Bool.and_eq_true, decide_eq_true_eq] at h
    obtain ⟨⟨h1, h2⟩, h3⟩ := h
    simp only [Mem.write]
    split
    · split
      · simp [Mem.wfFrom, h1, h2, h3]
      · simp [Mem.wfFrom, *]
    · split
      · split
        · exact Mem.wfFrom_mono (by omega) h3
        · subst_vars; simp [Mem.wfFrom, *]
      · simp only [Mem.wfFrom, Bool.and_eq_true, decide_eq_true_eq]
        exact ⟨⟨h1, h2⟩, ih h3 (by omega)⟩

theorem Mem.wf_write {d : Byte} {m : Mem} (a : Nat) (b : Byte) (h : Mem.wf d m = true) : Mem.wf d (Mem.write d m a b) = true :=
  Mem.wfFrom_write b h (Nat.zero_le a)

theorem Mem.wf_writeLE {d : Byte} (n : Nat) {m : Mem} (a v : Nat) (h : Mem.wf d m = true) : Mem.wf d (Mem.writeLE d n m a v) = true := by
  induction n generalizing m a v with
  | zero => exact h
  | succ n ih => exact ih _ _ (Mem.wf_write _ _ h)

theorem Mem.wf_writeBytes {d : Byte} (bs : List Byte) {m : Mem} (a : Nat) (h : Mem.wf d m = true) : Mem.wf d (Mem.writeBytes d m a bs) = true := by
  induction bs generalizing m a with
  | nil => exact h
  | cons b bs ih => exact ih _ (Mem.wf_write _ _ h)

theorem Mem.wfFrom_filter {d : Byte} {m : Mem} {lo : Nat} (p : Host.Cell → Bool) (h : Mem.wfFrom d lo m = true) :
    Mem.wfFrom d lo (m.filter p) = true := by
  induction m generalizing lo with
  | nil => rfl
  | cons c m ih =>
    obtain ⟨k, v⟩ := c
    simp only [Mem.wfFrom, Bool.and_eq_true, decide_eq_true_eq] at h
    obtain ⟨⟨h1, h2⟩, h3⟩ := h
    rw [List.filter_cons]
    split
    · simp only [Mem.wfFrom, Bool.and_eq_true, decide_eq_true_eq]
      exact ⟨⟨h1, h2⟩, ih h3⟩
    · exact Mem.wfFrom_mono (by omega) (ih h3)

theorem Mem.wf_filter {d : Byte} {m : Mem} (p : Host.Cell → Bool) (h : Mem.wf d m = true) : Mem.wf d (m.filter p) = true :=
  Mem.wfFrom_filter p h

theorem Mem.wf_clear {d : Byte} {m : Mem} (a n : Nat) (h : Mem.wf d m = true) : Mem.wf d (m.clear a n) = true := Mem.wf_filter _ h

/-- Below the lowest listed address everything reads as the default. -/
theorem Mem.read_below {d : Byte} {m : Mem} {lo a : Nat} (h : Mem.wfFrom d lo m = true) (ha : a < lo) : Mem.read d m a = d := by
  induction m generalizing lo with
  | nil => rfl
  | cons c m ih =>
    obtain ⟨k, v⟩ := c
    simp only [Mem.wfFrom, Bool.and_eq_true, decide_eq_true_eq] at h
    simp only [Mem.read]
    rw [if_neg (by omega)]
    exact ih h.2 (by omega)

theorem Mem.read_write {d : Byte} {m : Mem} {lo : Nat} (h : Mem.wfFrom d lo m = true) (a : Nat) (b : Byte) (x : Nat) :
    Mem.read d (Mem.write d m a b) x = if x = a then b else Mem.read d m x := by
  induction m generalizing lo with
  | nil =>
    simp only [Mem.write]
    split
    · simp_all [Mem.read]
    · simp only [Mem.read]
      by_cases hx : x = a
      · simp [hx]
      · rw [if_neg (fun e => hx e.symm), if_neg hx]
  | cons c m ih =>
    obtain ⟨k, v⟩ := c
    simp only [Mem.wfFrom, Bool.and_eq_true, decide_eq_true_eq] at h
    obtain ⟨⟨h1, h2⟩, h3⟩ := h
    have low : ∀ y, y < k + 1 → Mem.read d m y = d := fun y hy => Mem.read_below h3 hy
    simp only [Mem.write]
    split
    · rename_i hak
      split
      · rename_i hb
        by_cases hx : x = a
        · subst hx; rw [if_pos rfl]; simp only [Mem.read]; rw [if_neg (by omega), low x (by omega), hb]
        · rw [if_neg hx]
      · simp only [Mem.read]
        by_cases hx : x = a
        · simp [hx]
        · rw [if_neg (fun e => hx e.symm), if_neg hx]
    · split
      · rename_i hak
        subst hak
        split
        · rename_i hb
          by_cases hx : x = a
          · subst hx; rw [if_pos rfl, low x (by omega), hb]
          · rw [if_neg hx]; simp only [Mem.read]; rw [if_neg (fun e => hx e.symm)]
        · simp only [Mem.read]
          by_cases hx : x = a
          · simp [hx]
          · rw [if_neg (fun e => hx e.symm), if_neg hx, if_neg (fun e => hx e.symm)]
      · simp only [Mem.read]
        rw [ih h3]
        by_cases hx : x = a
        · subst hx; rw [if_pos rfl, if_neg (by omega)]; simp
        · simp [hx]

theorem Mem.read_write_same {d : Byte} {m : Mem} (h : Mem.wf d m = true) (a : Nat) (b : Byte) : Mem.read d (Mem.write d m a b) a = b := by
  rw [Mem.read_write h, if_pos rfl]

theorem Mem.read_write_other {d : Byte} {m : Mem} (h : Mem.wf d m = true) {a x : Nat} (b : Byte) (hx : x ≠ a) :
    Mem.read d (Mem.write d m a b) x = Mem.read d m x := by rw [Mem.read_write h, if_neg hx]

theorem Mem.read_writeLE_other {d : Byte} (n : Nat) {m : Mem} (h : Mem.wf d m = true) (a v x : Nat) (hx : x < a ∨ a + n ≤ x) :
    Mem.read d (Mem.writeLE d n m a v) x = Mem.read d m x := by
  induction n generalizing m a v with
  | zero => rfl
  | succ n ih =>
    simp only [Mem.writeLE]
    rw [ih (Mem.wf_write _ _ h) _ _ (by omega), Mem.read_write_other h _ (by omega)]

theorem Mem.readLE_writeLE {d : Byte} (n : Nat) {m : Mem} (h : Mem.wf d m = true) (a v : Nat) :
    Mem.readLE d n (Mem.writeLE d n m a v) a = v % 256 ^ n := by
  induction n generalizing m a v with
  | zero => simp [Mem.readLE, Nat.mod_one]
  | succ n ih =>
    simp only [Mem.readLE, Mem.writeLE]
    rw [ih (Mem.wf_write _ _ h), Mem.read_writeLE_other n (Mem.wf_write _ _ h) _ _ _ (by omega), Mem.read_write_same h]
    have e : (256 : Nat) ^ (n + 1) = 256 * 256 ^ n := by rw [Nat.pow_succ, Nat.mul_comm]
    rw [BitVec.toNat_ofNat, e, Nat.mod_mul]

end Sys2Proof.Machine
end

