-- ==== Sys2Proof/Laws/MemWf.lean ====
section
/-!
SUPPORT. Every operation, and each meaning that writes a memory, keeps the canonical form of the memories.
-/

namespace Sys2Proof.Machine

open Sys2Proof
set_option linter.all false

theorem Same.memWf {m : Nat} {s t : State} (h : Same m s t) (a : m.testBit 24 = false) (b : m.testBit 25 = false) : t.memWf = s.memWf := by
  have h1 := h.stores a
  have h2 := h.dmem b
  simp only [Boot.stores, Prod.mk.injEq] at h1
  simp only [State.memWf, h1.1, h1.2, h2]

theorem memWf_iff (s : State) : s.memWf = true ↔ Mem.wf 0 s.drm.mem = true ∧ Mem.wf 0xFF s.boot.nor = true ∧ Mem.wf 0 s.boot.image = true := by
  simp [State.memWf, and_assoc]

theorem foldl_memWf {α : Type} {f : State → α → State} (h : ∀ s x, s.memWf = true → (f s x).memWf = true) (l : List α) (s : State)
    (k : s.memWf = true) : (l.foldl f s).memWf = true := by
  induction l generalizing s with
  | nil => exact k
  | cons x l ih => exact ih _ (h s x k)

theorem foldl_wf {α : Type} {f : Mem → α → Mem} {d : Byte} (h : ∀ m x, Mem.wf d m = true → Mem.wf d (f m x) = true) (l : List α) (m : Mem)
    (k : Mem.wf d m = true) : Mem.wf d (l.foldl f m) = true := by
  induction l generalizing m with
  | nil => exact k
  | cons x l ih => exact ih _ (h m x k)

@[simp] theorem withDrm_memWf (s : State) (v : Dram) (h : v.mem = s.drm.mem) : (s.withDrm v).memWf = s.memWf :=
  (same_withDrm0 s v h).memWf rfl rfl

@[simp] theorem withBoot_memWf (s : State) (v : Boot) (h : v.stores = s.boot.stores) : (s.withBoot v).memWf = s.memWf :=
  (same_withBoot0 s v h).memWf rfl rfl

theorem withDrm_wf (s : State) (v : Dram) (h : s.memWf = true) (k : Mem.wf 0 v.mem = true) : (s.withDrm v).memWf = true := by
  rw [memWf_iff] at h ⊢
  exact ⟨k, h.2⟩

theorem withBoot_wf (s : State) (v : Boot) (h : s.memWf = true) (k : Mem.wf 0xFF v.nor = true) (g : Mem.wf 0 v.image = true) :
    (s.withBoot v).memWf = true := by
  rw [memWf_iff] at h ⊢
  exact ⟨h.1, k, g⟩

@[simp] theorem withAo_memWf (s : State) (v) : (s.withAo v).memWf = s.memWf := rfl

@[simp] theorem withWin_memWf (s : State) (v) : (s.withWin v).memWf = s.memWf := rfl

@[simp] theorem withEv_memWf (s : State) (v) : (s.withEv v).memWf = s.memWf := rfl

@[simp] theorem withHost_memWf (s : State) (v) : (s.withHost v).memWf = s.memWf := rfl

@[simp] theorem withCol_memWf (s : State) (v) : (s.withCol v).memWf = s.memWf := rfl

@[simp] theorem withBpm_memWf (s : State) (v) : (s.withBpm v).memWf = s.memWf := rfl

@[simp] theorem withCap_memWf (s : State) (v) : (s.withCap v).memWf = s.memWf := rfl

@[simp] theorem withHld_memWf (s : State) (v) : (s.withHld v).memWf = s.memWf := rfl

@[simp] theorem withJnl_memWf (s : State) (v) : (s.withJnl v).memWf = s.memWf := rfl

@[simp] theorem withZon_memWf (s : State) (v) : (s.withZon v).memWf = s.memWf := rfl

@[simp] theorem withStr_memWf (s : State) (v) : (s.withStr v).memWf = s.memWf := rfl

@[simp] theorem withSch_memWf (s : State) (v) : (s.withSch v).memWf = s.memWf := rfl

@[simp] theorem withLnk_memWf (s : State) (v) : (s.withLnk v).memWf = s.memWf := rfl

@[simp] theorem withDdk_memWf (s : State) (v) : (s.withDdk v).memWf = s.memWf := rfl

@[simp] theorem withMed_memWf (s : State) (v) : (s.withMed v).memWf = s.memWf := rfl

@[simp] theorem withPwr_memWf (s : State) (v) : (s.withPwr v).memWf = s.memWf := rfl

@[simp] theorem withBrd_memWf (s : State) (v) : (s.withBrd v).memWf = s.memWf := rfl

@[simp] theorem withMgt_memWf (s : State) (v) : (s.withMgt v).memWf = s.memWf := rfl

@[simp] theorem withFree_memWf (s : State) (v) : (s.withFree v).memWf = s.memWf := rfl

@[simp] theorem withPending_memWf (s : State) (v) : (s.withPending v).memWf = s.memWf := rfl

@[simp] theorem withSec_memWf (s : State) (v) : (s.withSec v).memWf = s.memWf := rfl

@[simp] theorem State.openBank_memWf (s : State) (p : DramPlace) : (State.openBank s p).memWf = s.memWf := (State.openBank_same0 s p).memWf rfl rfl
@[simp] theorem State.pruneHolds_memWf (s : State) (ch sub : Nat) : (State.pruneHolds s ch sub).memWf = s.memWf := (State.pruneHolds_same0 s ch sub).memWf rfl rfl
@[simp] theorem State.holdOrder_memWf (s : State) (ch sub : Nat) (h : OrderHold) : (State.holdOrder s ch sub h).memWf = s.memWf := (State.holdOrder_same0 s ch sub h).memWf rfl rfl
@[simp] theorem State.queueWrite_memWf (s : State) (a data : Nat) : (State.queueWrite s a data).memWf = s.memWf := (State.queueWrite_same0 s a data).memWf rfl rfl
@[simp] theorem State.joinReads_memWf (s : State) (a : Nat) (sym : DramSyms) : (State.joinReads s a sym).memWf = s.memWf := (State.joinReads_same0 s a sym).memWf rfl rfl
@[simp] theorem State.refreshFreed_memWf (s : State) (ch sub rank : Nat) : (State.refreshFreed s ch sub rank).memWf = s.memWf := (State.refreshFreed_same0 s ch sub rank).memWf rfl rfl
@[simp] theorem State.clearSram_memWf (s : State) (lo hi : Nat) : (State.clearSram s lo hi).memWf = s.memWf := (State.clearSram_same0 s lo hi).memWf rfl rfl
@[simp] theorem State.countChan_memWf (s : State) (n i k : Nat) : (State.countChan s n i k).memWf = s.memWf := (State.countChan_same0 s n i k).memWf rfl rfl
@[simp] theorem State.setSub_memWf (s : State) (n k : Nat) (f : SubChan → SubChan) : (State.setSub s n k f).memWf = s.memWf := (State.setSub_same0 s n k f).memWf rfl rfl
@[simp] theorem State.setChan_memWf (s : State) (n : Nat) (f : Chan → Chan) : (State.setChan s n f).memWf = s.memWf := (State.setChan_same0 s n f).memWf rfl rfl
@[simp] theorem State.raise_memWf (s : State) (src code sev : Nat) (pay : List (Nat × Nat)) : (State.raise s src code sev pay).memWf = s.memWf := (State.raise_same0 s src code sev pay).memWf rfl rfl
@[simp] theorem State.putDom_memWf (s : State) (d : Nat) (x : Domain) : (State.putDom s d x).memWf = s.memWf := (State.putDom_same0 s d x).memWf rfl rfl
@[simp] theorem State.holdupReturns_memWf (s : State) : (State.holdupReturns s).memWf = s.memWf := (State.holdupReturns_same0 s).memWf rfl rfl
@[simp] theorem State.restart_memWf (s : State) (rtype : Nat) : (State.restart s rtype).memWf = s.memWf := (State.restart_same0 s rtype).memWf rfl rfl
@[simp] theorem State.vaultStart_memWf (s : State) : (State.vaultStart s).memWf = s.memWf := (State.vaultStart_same0 s).memWf rfl rfl
@[simp] theorem State.engineBack_memWf (s : State) (e : Nat) : (State.engineBack s e).memWf = s.memWf := (State.engineBack_same0 s e).memWf rfl rfl
@[simp] theorem State.allOn_memWf (s : State) : (State.allOn s).memWf = s.memWf := (State.allOn_same0 s).memWf rfl rfl
@[simp] theorem State.domainsForFlush_memWf (s : State) : (State.domainsForFlush s).memWf = s.memWf := (State.domainsForFlush_same0 s).memWf rfl rfl
@[simp] theorem State.requestTest_memWf (s : State) : (State.requestTest s).memWf = s.memWf := (State.requestTest_same0 s).memWf rfl rfl
@[simp] theorem State.raiseDiscarded_memWf (s : State) (off : Nat) (a : Agent) : (State.raiseDiscarded s off a).memWf = s.memWf := (State.raiseDiscarded_same0 s off a).memWf rfl rfl
@[simp] theorem State.resetAll_memWf (s : State) : (State.resetAll s).memWf = s.memWf := (State.resetAll_same0 s).memWf rfl rfl
@[simp] theorem State.reportStart_memWf (s : State) : (State.reportStart s).memWf = s.memWf := (State.reportStart_same0 s).memWf rfl rfl
@[simp] theorem State.trainPorts_memWf (s : State) : (State.trainPorts s).memWf = s.memWf := (State.trainPorts_same0 s).memWf rfl rfl
@[simp] theorem State.putLink_memWf (s : State) (n : Nat) (l : Link) : (State.putLink s n l).memWf = s.memWf := (State.putLink_same0 s n l).memWf rfl rfl
@[simp] theorem State.putPort_memWf (s : State) (p : Nat) (x : Port) : (State.putPort s p x).memWf = s.memWf := (State.putPort_same0 s p x).memWf rfl rfl
@[simp] theorem State.lockTenant_memWf (s : State) (t : Nat) : (State.lockTenant s t).memWf = s.memWf := (State.lockTenant_same0 s t).memWf rfl rfl
@[simp] theorem State.correctedEvent_memWf (s : State) (ch : Nat) : (State.correctedEvent s ch).memWf = s.memWf := (State.correctedEvent_same0 s ch).memWf rfl rfl
@[simp] theorem State.attribute_memWf (s : State) (ch sub : Nat) (errs : List (Nat × Nat)) : (State.attribute s ch sub errs).memWf = s.memWf := (State.attribute_same0 s ch sub errs).memWf rfl rfl
@[simp] theorem State.uncorrectable_memWf (s : State) (a addrErr : Nat) : (State.uncorrectable s a addrErr).memWf = s.memWf := (State.uncorrectable_same0 s a addrErr).memWf rfl rfl
@[simp] theorem State.drew_memWf (s : State) : (State.drew s).memWf = s.memWf := (State.drew_same0 s).memWf rfl rfl
@[simp] theorem State.writeTx_memWf (s : State) (a : Agent) (r : RegRef) (v : Nat) : (State.writeTx s a r v).memWf = s.memWf := (State.writeTx_same0 s a r v).memWf rfl rfl
@[simp] theorem State.storeFields_memWf (s : State) (r : RegRef) (v : Nat) : (State.storeFields s r v).memWf = s.memWf := (State.storeFields_same0 s r v).memWf rfl rfl
@[simp] theorem State.send_memWf (s : State) (o : HostOut) : (State.send s o).memWf = s.memWf := (State.send_same0 s o).memWf rfl rfl
@[simp] theorem State.cutImage_memWf (s : State) : (State.cutImage s).memWf = s.memWf := (State.cutImage_same0 s).memWf rfl rfl
@[simp] theorem State.composeImage_memWf (s : State) : (State.composeImage s).memWf = s.memWf := (State.composeImage_same0 s).memWf rfl rfl
@[simp] theorem State.abandonEntry_memWf (s : State) (d cause : Nat) : (State.abandonEntry s d cause).memWf = s.memWf := (State.abandonEntry_same0 s d cause).memWf rfl rfl
@[simp] theorem State.beginReturn_memWf (s : State) (d : Nat) : (State.beginReturn s d).memWf = s.memWf := (State.beginReturn_same0 s d).memWf rfl rfl
@[simp] theorem State.recoveryMode_memWf (s : State) (cause : Nat) : (State.recoveryMode s cause).memWf = s.memWf := (State.recoveryMode_same0 s cause).memWf rfl rfl
@[simp] theorem State.trainFailed_memWf (s : State) (ch phase : Nat) : (State.trainFailed s ch phase).memWf = s.memWf := (State.trainFailed_same0 s ch phase).memWf rfl rfl
@[simp] theorem State.fwsResult_memWf (s : State) (r : Nat) : (State.fwsResult s r).memWf = s.memWf := (State.fwsResult_same0 s r).memWf rfl rfl
@[simp] theorem State.complete_memWf (s : State) (c : Cmd) (st : Status) (dw0 : Nat) (dw1 : Nat) : (State.complete s c st dw0 dw1).memWf = s.memWf := (State.complete_same0 s c st dw0 dw1).memWf rfl rfl
@[simp] theorem State.activate_memWf (s : State) (c : Cmd) (slot build : Nat) : (State.activate s c slot build).memWf = s.memWf := (State.activate_same0 s c slot build).memWf rfl rfl
@[simp] theorem State.appendBoot_memWf (s : State) (slot trial : Nat) : (State.appendBoot s slot trial).memWf = s.memWf := (State.appendBoot_same0 s slot trial).memWf rfl rfl
@[simp] theorem State.commitFails_memWf (s : State) (c : Cmd) (slot : Nat) (k : FwCheck) : (State.commitFails s c slot k).memWf = s.memWf := (State.commitFails_same0 s c slot k).memWf rfl rfl
@[simp] theorem State.inBand_memWf (s : State) (e : Sqe) (send : Bool) : (State.inBand s e send).1.memWf = s.memWf := (State.inBand_same0 s e send).memWf rfl rfl
@[simp] theorem State.answer_memWf (s : State) (x : MiRes) : (State.answer s x).memWf = s.memWf := (State.answer_same0 s x).memWf rfl rfl
@[simp] theorem State.setDom_memWf (s : State) (d : Nat) (f : Domain → Domain) : (State.setDom s d f).memWf = s.memWf := (State.setDom_same0 s d f).memWf rfl rfl
@[simp] theorem State.undoEntry_memWf (s : State) (d : Nat) : (State.undoEntry s d).memWf = s.memWf := (State.undoEntry_same0 s d).memWf rfl rfl
@[simp] theorem State.atPoint_memWf (s : State) (d ap : Nat) : (State.atPoint s d ap).memWf = s.memWf := (State.atPoint_same0 s d ap).memWf rfl rfl

theorem withDrm_writeLE_wf (s : State) (n a v : Nat) (b : List Nat) (h : s.memWf = true) :
    (s.withDrm { s.drm with mem := Mem.writeLE 0 n s.drm.mem a v, bad := b }).memWf = true := by
  rw [memWf_iff] at h ⊢
  exact ⟨Mem.wf_writeLE _ _ _ h.1, h.2⟩

@[simp] theorem State.issueWrite_wf (s : State) (e : WqEntry) (h : s.memWf = true) : (State.issueWrite s e).memWf = true := by
  unfold State.issueWrite
  dsimp only
  refine withDrm_writeLE_wf _ 64 _ _ _ ?_
  simp [h]

theorem ite_memWf {c : Prop} [Decidable c] {a b : State} (h : a.memWf = true) (k : b.memWf = true) :
    (if c then a else b).memWf = true := by
  split
  · exact h
  · exact k

@[simp] theorem State.corrected_wf (s : State) (r : RqEntry) (data : Nat) (errs : List (Nat × Nat)) (h : s.memWf = true) : (State.corrected s r data errs).memWf = true := by
  unfold State.corrected
  dsimp only
  split
  · simp [h]
  · rw [State.countChan_memWf]
    split
    · simp [h]
    · exact State.issueWrite_wf _ _ (by simp [h])

@[simp] theorem State.decodeRead_wf (s : State) (r : RqEntry) (h : s.memWf = true) : (State.decodeRead s r).memWf = true := by
  unfold State.decodeRead
  dsimp only
  (repeat' split) <;> simp [h]

@[simp] theorem State.issueRead_wf (s : State) (r : RqEntry) (h : s.memWf = true) : (State.issueRead s r).memWf = true := by
  unfold State.issueRead
  dsimp only
  simp [h]

theorem State.issueCmd_wf (s : State) (c : DramCmd) (h : s.memWf = true) : (s.issueCmd c).memWf = true := by
  cases c <;> simp [State.issueCmd, h]

@[simp] theorem State.issue_wf (s : State) (ch sub : Nat) (c : DramCmd) (h : s.memWf = true) : (State.issue s ch sub c).memWf = true := by
  unfold State.issue
  refine State.issueCmd_wf _ _ ?_
  split
  · exact foldl_memWf (fun s d k => State.issueCmd_wf _ _ k) _ _ h
  · exact h

@[simp] theorem State.drainOne_wf (s : State) (ch sub : Nat) (h : s.memWf = true) : (State.drainOne s ch sub).memWf = true := by
  unfold State.drainOne
  split <;> simp [h]

@[simp] theorem State.drainNext_wf (s : State) (ch sub : Nat) (h : s.memWf = true) : (State.drainNext s ch sub).memWf = true := by
  unfold State.drainNext
  simp [h]

@[simp] theorem State.subStep_wf (s : State) (ch sub : Nat) (h : s.memWf = true) : (State.subStep s ch sub).memWf = true := by
  unfold State.subStep
  dsimp only
  (repeat' split) <;> simp [h]

@[simp] theorem State.drainAll_wf (s : State) (ch sub : Nat) (h : s.memWf = true) : (State.drainAll s ch sub).memWf = true := by
  unfold State.drainAll
  rw [State.setSub_memWf]
  exact foldl_memWf (fun s e k => State.issueWrite_wf _ _ k) _ _ h

@[simp] theorem State.drainEverything_wf (s : State) (h : s.memWf = true) : (State.drainEverything s).memWf = true := foldl_memWf (fun s n k => State.drainAll_wf _ _ _ (State.drainAll_wf _ _ _ k)) _ _ h

@[simp] theorem State.drainStep_wf (s : State) (h : s.memWf = true) : (State.drainStep s).memWf = true := foldl_memWf (fun s n k => State.subStep_wf _ n 1 (State.subStep_wf _ n 0 k)) _ _ h

@[simp] theorem State.zeroFill_wf (s : State) (ch : Nat) (h : s.memWf = true) : (State.zeroFill s ch).memWf = true := withDrm_wf _ _ h (Mem.wf_filter _ ((memWf_iff _).mp h).1)

@[simp] theorem State.programNor_wf (s : State) (addr : Nat) (bs : List Byte) (whole : Bool) (h : s.memWf = true) : (State.programNor s addr bs whole).memWf = true := by
  unfold State.programNor
  dsimp only
  have k := fun x y => withBoot_wf s x h (y : Mem.wf 0xFF x.nor = true)
  rw [memWf_iff] at h
  split
  · exact k _ (foldl_wf (fun m x k => Mem.wf_write _ _ k) _ _ h.2.1) h.2.2
  · rw [withFree_memWf]
    exact k _ (foldl_wf (fun m x k => Mem.wf_write _ _ k) _ _ h.2.1) h.2.2

@[simp] theorem State.cutProgram_wf (s : State) (h : s.memWf = true) : (State.cutProgram s).memWf = true := by
  unfold State.cutProgram
  (repeat' split) <;> simp [h]

@[simp] theorem State.powerOff_wf (s : State) (vaux : Bool) (h : s.memWf = true) : (State.powerOff s vaux).memWf = true := by
  have k := State.cutProgram_wf s h
  unfold State.powerOff
  rw [memWf_iff] at k ⊢
  exact ⟨rfl, k.2.1, rfl⟩

@[simp] theorem State.eraseSector_wf (s : State) (x : Nat) (h : s.memWf = true) : (State.eraseSector s x).memWf = true := withBoot_wf _ _ h (Mem.wf_clear _ _ ((memWf_iff _).mp h).2.1) ((memWf_iff _).mp h).2.2

@[simp] theorem State.writeSlot_wf (s : State) (slot : Nat) (h : s.memWf = true) : (State.writeSlot s slot).memWf = true := withBoot_wf _ _ h (Mem.wf_writeBytes _ _ (Mem.wf_filter _ ((memWf_iff _).mp h).2.1)) rfl

@[simp] theorem State.trainChan_wf (s : State) (ch : Nat) (h : s.memWf = true) : (State.trainChan s ch).memWf = true := by
  unfold State.trainChan
  simp [h]

@[simp] theorem State.trainAll_wf (s : State) (h : s.memWf = true) : (State.trainAll s).memWf = true := foldl_memWf (fun s c k => State.trainChan_wf _ _ k) _ _ h

@[simp] theorem State.loseDomain_wf (s : State) (d : Nat) (h : s.memWf = true) : (State.loseDomain s d).memWf = true := by
  unfold State.loseDomain
  refine ite_memWf ?_ ?_
  · rw [State.putLink_memWf]; exact h
  refine ite_memWf ?_ ?_
  · rw [State.setChan_memWf]; exact State.zeroFill_wf _ _ h
  refine ite_memWf ?_ ?_
  · rw [State.putPort_memWf]; exact h
  refine ite_memWf ?_ ?_
  · exact h
  refine ite_memWf ?_ ?_
  · refine foldl_memWf (fun s x k => ?_) _ _ h
    rw [State.lockTenant_memWf]; exact k
  refine ite_memWf ?_ ?_
  · exact h
  refine ite_memWf ?_ ?_
  · exact h
  refine ite_memWf ?_ ?_
  · exact h
  refine ite_memWf ?_ ?_
  · exact h
  refine ite_memWf ?_ ?_
  · exact h
  refine ite_memWf ?_ ?_
  · exact h
  refine ite_memWf ?_ ?_
  · exact h
  · exact h

@[simp] theorem State.completeEntry_wf (s : State) (d : Nat) (h : s.memWf = true) : (State.completeEntry s d).memWf = true := by
  unfold State.completeEntry
  dsimp only
  split <;> simp [h]

@[simp] theorem State.afterOff_wf (s : State) (d : Nat) (h : s.memWf = true) : (State.afterOff s d).memWf = true := by
  unfold State.afterOff
  (repeat' split) <;> simp [h]

@[simp] theorem State.completeReturn_wf (s : State) (d : Nat) (h : s.memWf = true) : (State.completeReturn s d).memWf = true := by
  unfold State.completeReturn
  dsimp only
  (repeat' split) <;> simp [h]

@[simp] theorem State.afterPower_wf (s : State) (rtype : Nat) (h : s.memWf = true) : (State.afterPower s rtype).memWf = true := by
  unfold State.afterPower
  dsimp only
  split <;> simp [h]

@[simp] theorem State.startFlush_wf (s : State) (cause : Nat) (h : s.memWf = true) : (State.startFlush s cause).memWf = true := by
  have k : ∀ t, Same (2 ^ 24 - 1) s t → t.memWf = true := fun t k => by rw [k.memWf rfl rfl]; exact h
  unfold State.startFlush
  dsimp only
  refine ite_memWf h ?_
  refine ite_memWf (State.afterPower_wf _ _ h) ?_
  refine k _ ?_
  have e := (same_withDrm (q := 2 ^ 24 - 1) (by decide) s (s.withHld { s.hld with bank := .flushing, flush := .draining, flushCause := cause, test := .none }) { s.drm with flushRefresh := true } rfl).mpr (by simp)
  split <;> simpa using e

@[simp] theorem State.writeHldCtl_wf (s : State) (v : Nat) (h : s.memWf = true) : (State.writeHldCtl s v).memWf = true := by
  unfold State.writeHldCtl
  (repeat' split) <;> simp [h]

theorem Boot.clearFlags_stores (l : List Nat) (b : Boot) : (l.foldl Boot.clearFlag b).stores = b.stores := by
  induction l generalizing b with
  | nil => rfl
  | cons x l ih => exact ih _

theorem Boot.dropFlags_stores (l : List Nat) (b : Boot) :
    (l.foldl (fun b x => (b.putFlags (if x = sectorF0 then 0 else 1) []).clearFlag x) b).stores = b.stores := by
  induction l generalizing b with
  | nil => rfl
  | cons x l ih =>
    refine (ih _).trans ?_
    show (b.putFlags _ []).stores = b.stores
    unfold Boot.putFlags
    split <;> rfl

@[simp] theorem State.resolveFlags_wf (s : State) (h : s.memWf = true) : (State.resolveFlags s).memWf = true := by
  unfold State.resolveFlags
  dsimp only
  refine (withBoot_memWf _ _ (Boot.clearFlags_stores _ _)).trans ?_
  refine foldl_memWf (fun s x k => by simp [k]) _ _ ?_
  rw [withBoot_memWf _ _ (Boot.dropFlags_stores _ _)]
  exact h

@[simp] theorem State.writeFwsCtl_wf (s : State) (a : Agent) (v : Nat) (h : s.memWf = true) : (State.writeFwsCtl s a v).memWf = true := by
  unfold State.writeFwsCtl
  (repeat' split) <;> simp [h]

@[simp] theorem State.subsystemReset_wf (s : State) (h : s.memWf = true) : (State.subsystemReset s).memWf = true := by
  unfold State.subsystemReset
  simp [h]

theorem State.endStage_wf (s : State) (h : s.memWf = true) : s.endStage.1.memWf = true := by
  unfold State.endStage
  split
  · simp [h]
  · simp [h]
  · rw [(State.loadBoot_same0 s).memWf rfl rfl]; exact h
  · simp [h]
  · dsimp only
    rw [(State.trainLinks_same0 _).memWf rfl rfl]
    simp [h]
  · dsimp only
    rw [(State.recap_same0 s).memWf rfl rfl]; exact h
  · dsimp only
    rw [(State.recover_same0 s).memWf rfl rfl]; exact h
  · dsimp only
    rw [(State.enablePorts_same0 s).memWf rfl rfl]; exact h
  · exact h

theorem State.actOnWrite_wf (s : State) (a : Agent) (r : RegRef) (v : Nat) (h : s.memWf = true) : (s.actOnWrite a r v).memWf = true := by
  have k : ∀ t, Same (2 ^ 24 - 1) s t → t.memWf = true := fun t k => by rw [k.memWf rfl rfl]; exact h
  by_cases h1 : r.reg = .HLD_CTL
  · simp only [State.actOnWrite, h1]
    exact State.writeHldCtl_wf _ _ h
  by_cases h2 : r.reg = .FWS_CTL
  · simp only [State.actOnWrite, h2]
    exact State.writeFwsCtl_wf _ _ _ h
  refine k _ ?_
  unfold State.actOnWrite
  repeat' split
  all_goals first
    | (exfalso; first | exact h1 ‹_› | exact h2 ‹_›)
    | simp

theorem State.writeReg_wf (s : State) (a : Agent) (r : RegRef) (v : Nat) (h : s.memWf = true) : (s.writeReg a r v).memWf = true := by
  unfold State.writeReg
  dsimp only
  have h1 : (if r.reg.maskOf (· == .tx) = 0 then s else s.writeTx a r v).memWf = true := by
    split <;> simp [h]
  generalize (if r.reg.maskOf (· == .tx) = 0 then s else s.writeTx a r v) = t at h1 ⊢
  have k : ∀ u, Same (2 ^ 24 - 1) t u → u.memWf = true := fun u k => by rw [k.memWf rfl rfl]; exact h1
  split
  all_goals first
    | (refine k _ ?_; simp; done)
    | skip
  split
  · exact k _ (by simp)
  split
  · exact k _ (by simp)
  · exact State.actOnWrite_wf _ _ _ _ (by simp [h1])

theorem State.writeDword_wf (s : State) (a : Agent) (off v : Nat) (h : s.memWf = true) : (s.writeDword a off v).memWf = true := by
  unfold State.writeDword
  dsimp only
  repeat' split
  all_goals first
    | exact h
    | exact State.writeReg_wf _ _ _ _ h
    | (refine State.writeReg_wf _ _ _ _ ?_; exact h)

theorem State.writeQword_wf (s : State) (a : Agent) (off v : Nat) (h : s.memWf = true) : (s.writeQword a off v).memWf = true := by
  unfold State.writeQword
  repeat' split
  · exact State.writeReg_wf _ _ _ _ h
  · exact State.writeDword_wf _ _ _ _ (State.writeReg_wf _ _ _ _ h)
  · exact State.writeDword_wf _ _ _ _ (State.writeDword_wf _ _ _ _ h)

theorem State.miWindow_wf (s : State) (w : Bool) (off v : Nat) (h : s.memWf = true) : (s.miWindow w off v).1.memWf = true := by
  have k : ∀ t, Same (2 ^ 24 - 1) s t → t.memWf = true := fun t k => by rw [k.memWf rfl rfl]; exact h
  unfold State.miWindow
  dsimp only
  repeat' split
  all_goals first
    | exact h
    | exact State.writeDword_wf _ _ _ _ h
    | exact k _ (by simp)

/-- An outcome's next state, where it has one, has canonical memories. -/
def StaysWf (o : Outcome) : Prop := ∀ t, o = .next t → t.memWf = true

@[simp] theorem StaysWf.next (t : State) : StaysWf (.next t) = (t.memWf = true) := by simp [StaysWf]

@[simp] theorem StaysWf.fault (f : Fault) : StaysWf (.fault f) := by simp [StaysWf]

theorem Keeps.staysWf {m : Nat} {s : State} {o : Outcome} (k : Keeps m s o) (h : s.memWf = true) (a : m.testBit 24 = false := by decide)
    (b : m.testBit 25 = false := by decide) : StaysWf o := fun t e => by rw [(k t e).memWf a b]; exact h

theorem execLowDwordWrite_staysWf (a : Agent) (off v : Nat) (s : State) (h : s.memWf = true) : StaysWf (execLowDwordWrite a off v s) := by
  unfold execLowDwordWrite
  repeat' split
  all_goals first | exact h | (rw [StaysWf.next]; first | exact h | exact State.writeDword_wf _ _ _ _ h | exact State.writeQword_wf _ _ _ _ h)


theorem execHighDwordWrite_staysWf (a : Agent) (off v : Nat) (s : State) (h : s.memWf = true) : StaysWf (execHighDwordWrite a off v s) := by
  unfold execHighDwordWrite
  repeat' split
  all_goals first | exact h | (rw [StaysWf.next]; first | exact h | exact State.writeDword_wf _ _ _ _ h | exact State.writeQword_wf _ _ _ _ h)


theorem execRegisterWrite_staysWf (a : Agent) (off size v : Nat) (s : State) (h : s.memWf = true) : StaysWf (execRegisterWrite a off size v s) := by
  unfold execRegisterWrite
  repeat' split
  all_goals first | exact h | (rw [StaysWf.next]; first | exact h | exact State.writeDword_wf _ _ _ _ h | exact State.writeQword_wf _ _ _ _ h)


theorem execTxWrite_staysWf (a : Agent) (off size v : Nat) (s : State) (h : s.memWf = true) : StaysWf (execTxWrite a off size v s) := by
  unfold execTxWrite
  repeat' split
  all_goals first | exact h | (rw [StaysWf.next]; first | exact h | exact State.writeDword_wf _ _ _ _ h | exact State.writeQword_wf _ _ _ _ h)


theorem execFirmwareCommit_staysWf (r : CmdRef) (s : State) (h : s.memWf = true) : StaysWf (execFirmwareCommit r s) := by
  unfold execFirmwareCommit
  dsimp only
  split
  · simp [h]
  unfold State.runReady
  repeat' split
  all_goals first | exact h | (simp only [StaysWf.next]; (repeat' split) <;> simp [h]; done) | skip


theorem execFirmwareImageDownload_staysWf (r : CmdRef) (s : State) (h : s.memWf = true) : StaysWf (execFirmwareImageDownload r s) := by
  unfold execFirmwareImageDownload State.runReady
  repeat' split
  · simp [h]
  · rw [StaysWf.next]
    dsimp only
    split
    · simp [h]
    · rw [State.complete_memWf]
      exact withBoot_wf _ _ h ((memWf_iff _).mp h).2.1 (Mem.wf_writeBytes _ _ ((memWf_iff _).mp h).2.2)
  · simp [h]


theorem execNvmeMiSend_staysWf (r : CmdRef) (s : State) (h : s.memWf = true) : StaysWf (execNvmeMiSend r s) := by
  unfold execNvmeMiSend State.runReady
  repeat' split
  all_goals first | (simp [h]; done) | (rw [StaysWf.next]; dsimp only; split <;> simp [h])


theorem execNvmSubsystemReset_staysWf (fn : Nat) (s : State) (h : s.memWf = true) : StaysWf (execNvmSubsystemReset fn s) := by
  unfold execNvmSubsystemReset
  (try dsimp only)
  (repeat' split) <;> simp [h]


theorem execForcedFlush_staysWf (a : Agent) (key test : Nat) (s : State) (h : s.memWf = true) : StaysWf (execForcedFlush a key test s) := by
  unfold execForcedFlush
  (try dsimp only)
  (repeat' split) <;> simp [h]


theorem execVinLossConfirmed_staysWf (s : State) (h : s.memWf = true) : StaysWf (execVinLossConfirmed s) := by
  unfold execVinLossConfirmed
  (try dsimp only)
  (repeat' split) <;> simp [h]


theorem execFlushDrainDone_staysWf (s : State) (h : s.memWf = true) : StaysWf (execFlushDrainDone s) := by
  unfold execFlushDrainDone
  (try dsimp only)
  (repeat' split) <;> simp [h]


theorem execFlushEnd_staysWf (s : State) (h : s.memWf = true) : StaysWf (execFlushEnd s) := by
  unfold execFlushEnd
  (try dsimp only)
  (repeat' split) <;> simp [h]


theorem execDramReadRequest_staysWf (addr : Nat) (sym : DramSyms) (s : State) (h : s.memWf = true) : StaysWf (execDramReadRequest addr sym s) := by
  unfold execDramReadRequest
  (try dsimp only)
  (repeat' split) <;> simp [h]


theorem execWriteAgeTimeout_staysWf (ch sub : Nat) (s : State) (h : s.memWf = true) : StaysWf (execWriteAgeTimeout ch sub s) := by
  unfold execWriteAgeTimeout
  (try dsimp only)
  (repeat' split) <;> simp [h]


theorem execDomainEntryComplete_staysWf (dom : Nat) (s : State) (h : s.memWf = true) : StaysWf (execDomainEntryComplete dom s) := by
  unfold execDomainEntryComplete
  (try dsimp only)
  (repeat' split) <;> simp [h]


theorem execDomainReturnComplete_staysWf (dom : Nat) (s : State) (h : s.memWf = true) : StaysWf (execDomainReturnComplete dom s) := by
  unfold execDomainReturnComplete
  (try dsimp only)
  (repeat' split) <;> simp [h]


theorem execWakeEvent_staysWf (pin : Nat) (s : State) (h : s.memWf = true) : StaysWf (execWakeEvent pin s) := by
  unfold execWakeEvent
  dsimp only
  split
  · split
    · simp [h]
    · rw [StaysWf.next, State.raise_memWf]
      exact foldl_memWf (fun s d k => by simp [k]) _ _ (foldl_memWf (fun s d k => by simp [k]) _ _ (by simp [h]))
  · simp [h]


theorem execMiReset_staysWf (rtype : Nat) (s : State) (h : s.memWf = true) : StaysWf (execMiReset rtype s) := by
  unfold execMiReset State.miRun
  (repeat' split) <;> simp [h]


theorem execSetupWindowAccess_staysWf (write : Bool) (off v : Nat) (s : State) (h : s.memWf = true) : StaysWf (execSetupWindowAccess write off v s) := by
  unfold execSetupWindowAccess State.miRun
  split
  · simp [h]
  · rw [StaysWf.next, State.answer_memWf]; exact State.miWindow_wf _ _ _ _ h


theorem execVauxLoss_staysWf (s : State) (h : s.memWf = true) : StaysWf (execVauxLoss s) := by
  unfold execVauxLoss
  (try dsimp only)
  (repeat' split) <;> simp [h]


theorem execStartupStageComplete_staysWf (res : StageRes) (s : State) (h : s.memWf = true) : StaysWf (execStartupStageComplete res s) := by
  unfold execStartupStageComplete
  have e := State.endStage_wf s h
  repeat' split
  all_goals first
    | (simp [h]; done)
    | (dsimp only; (repeat' split) <;> simp [h]; done)
    | (rename_i q; rw [q] at e; dsimp only at e; (repeat' split) <;> simp [e]; done)
    | (rename_i q _; rw [q] at e; dsimp only at e; (repeat' split) <;> simp [e]; done)


theorem execFwsOperationDone_staysWf (ok : Bool) (s : State) (h : s.memWf = true) : StaysWf (execFwsOperationDone ok s) := by
  unfold execFwsOperationDone
  (try dsimp only)
  (repeat' split) <;> simp [h]
  exact (withBoot_memWf _ _ rfl).trans (State.eraseSector_wf _ _ ((withBoot_memWf _ _ rfl).trans h))

theorem execReboot_staysWf (a : Agent) (key : Nat) (s : State) (h : s.memWf = true) : StaysWf (execReboot a key s) := by
  unfold execReboot
  (try dsimp only)
  (repeat' split) <;> simp [h]


theorem execWatchdogExpiry_staysWf (core cause : Nat) (s : State) (h : s.memWf = true) : StaysWf (execWatchdogExpiry core cause s) := by
  unfold execWatchdogExpiry
  (try dsimp only)
  (repeat' split) <;> simp [h]


theorem execThermalTrip_staysWf (s : State) (h : s.memWf = true) : StaysWf (execThermalTrip s) := by
  unfold execThermalTrip
  (try dsimp only)
  (repeat' split) <;> simp [h]


theorem execFwsOperationTimeout_staysWf (s : State) (h : s.memWf = true) : StaysWf (execFwsOperationTimeout s) := by
  unfold execFwsOperationTimeout
  (try dsimp only)
  (repeat' split) <;> simp [h]

end Sys2Proof.Machine
end

