-- ==== Sys2Proof/Laws/Operations.lean ====
section
/-!
SUPPORT. What the shared operations do, one lemma for each effect that statements cite.
-/

namespace Sys2Proof.Machine

open Sys2Proof
set_option linter.all false

@[simp] theorem State.withAo_fld (s : State) (v : AlwaysOn) (f : Fld) (i j : Nat) : (s.withAo v).fld f i j = s.fld f i j := rfl

@[simp] theorem State.withAo_flag (s : State) (v : AlwaysOn) (f : Fld) (i j : Nat) : (s.withAo v).flag f i j = s.flag f i j := rfl

@[simp] theorem State.withEv_fld (s : State) (v : Events) (f : Fld) (i j : Nat) : (s.withEv v).fld f i j = s.fld f i j := rfl

@[simp] theorem State.withEv_flag (s : State) (v : Events) (f : Fld) (i j : Nat) : (s.withEv v).flag f i j = s.flag f i j := rfl

@[simp] theorem State.withHost_fld (s : State) (v : HostSide) (f : Fld) (i j : Nat) : (s.withHost v).fld f i j = s.fld f i j := rfl

@[simp] theorem State.withHost_flag (s : State) (v : HostSide) (f : Fld) (i j : Nat) : (s.withHost v).flag f i j = s.flag f i j := rfl

@[simp] theorem State.withCol_fld (s : State) (v : Colander) (f : Fld) (i j : Nat) : (s.withCol v).fld f i j = s.fld f i j := rfl

@[simp] theorem State.withCol_flag (s : State) (v : Colander) (f : Fld) (i j : Nat) : (s.withCol v).flag f i j = s.flag f i j := rfl

@[simp] theorem State.withBpm_fld (s : State) (v : Bpm) (f : Fld) (i j : Nat) : (s.withBpm v).fld f i j = s.fld f i j := rfl

@[simp] theorem State.withBpm_flag (s : State) (v : Bpm) (f : Fld) (i j : Nat) : (s.withBpm v).flag f i j = s.flag f i j := rfl

@[simp] theorem State.withCap_fld (s : State) (v : Capture) (f : Fld) (i j : Nat) : (s.withCap v).fld f i j = s.fld f i j := rfl

@[simp] theorem State.withCap_flag (s : State) (v : Capture) (f : Fld) (i j : Nat) : (s.withCap v).flag f i j = s.flag f i j := rfl

@[simp] theorem State.withHld_fld (s : State) (v : Holdup) (f : Fld) (i j : Nat) : (s.withHld v).fld f i j = s.fld f i j := rfl

@[simp] theorem State.withHld_flag (s : State) (v : Holdup) (f : Fld) (i j : Nat) : (s.withHld v).flag f i j = s.flag f i j := rfl

@[simp] theorem State.withJnl_fld (s : State) (v : Journal) (f : Fld) (i j : Nat) : (s.withJnl v).fld f i j = s.fld f i j := rfl

@[simp] theorem State.withJnl_flag (s : State) (v : Journal) (f : Fld) (i j : Nat) : (s.withJnl v).flag f i j = s.flag f i j := rfl

@[simp] theorem State.withZon_fld (s : State) (v : Zones) (f : Fld) (i j : Nat) : (s.withZon v).fld f i j = s.fld f i j := rfl

@[simp] theorem State.withZon_flag (s : State) (v : Zones) (f : Fld) (i j : Nat) : (s.withZon v).flag f i j = s.flag f i j := rfl

@[simp] theorem State.withStr_fld (s : State) (v : Stripes) (f : Fld) (i j : Nat) : (s.withStr v).fld f i j = s.fld f i j := rfl

@[simp] theorem State.withStr_flag (s : State) (v : Stripes) (f : Fld) (i j : Nat) : (s.withStr v).flag f i j = s.flag f i j := rfl

@[simp] theorem State.withSch_fld (s : State) (v : Sched) (f : Fld) (i j : Nat) : (s.withSch v).fld f i j = s.fld f i j := rfl

@[simp] theorem State.withSch_flag (s : State) (v : Sched) (f : Fld) (i j : Nat) : (s.withSch v).flag f i j = s.flag f i j := rfl

@[simp] theorem State.withLnk_fld (s : State) (v : Links) (f : Fld) (i j : Nat) : (s.withLnk v).fld f i j = s.fld f i j := rfl

@[simp] theorem State.withLnk_flag (s : State) (v : Links) (f : Fld) (i j : Nat) : (s.withLnk v).flag f i j = s.flag f i j := rfl

@[simp] theorem State.withDdk_fld (s : State) (v : Didrinak) (f : Fld) (i j : Nat) : (s.withDdk v).fld f i j = s.fld f i j := rfl

@[simp] theorem State.withDdk_flag (s : State) (v : Didrinak) (f : Fld) (i j : Nat) : (s.withDdk v).flag f i j = s.flag f i j := rfl

@[simp] theorem State.withMed_fld (s : State) (v : Media) (f : Fld) (i j : Nat) : (s.withMed v).fld f i j = s.fld f i j := rfl

@[simp] theorem State.withMed_flag (s : State) (v : Media) (f : Fld) (i j : Nat) : (s.withMed v).flag f i j = s.flag f i j := rfl

@[simp] theorem State.withSec_fld (s : State) (v : Vault) (f : Fld) (i j : Nat) : (s.withSec v).fld f i j = s.fld f i j := rfl

@[simp] theorem State.withSec_flag (s : State) (v : Vault) (f : Fld) (i j : Nat) : (s.withSec v).flag f i j = s.flag f i j := rfl

@[simp] theorem State.withDrm_fld (s : State) (v : Dram) (f : Fld) (i j : Nat) : (s.withDrm v).fld f i j = s.fld f i j := rfl

@[simp] theorem State.withDrm_flag (s : State) (v : Dram) (f : Fld) (i j : Nat) : (s.withDrm v).flag f i j = s.flag f i j := rfl

@[simp] theorem State.withPwr_fld (s : State) (v : Power) (f : Fld) (i j : Nat) : (s.withPwr v).fld f i j = s.fld f i j := rfl

@[simp] theorem State.withPwr_flag (s : State) (v : Power) (f : Fld) (i j : Nat) : (s.withPwr v).flag f i j = s.flag f i j := rfl

@[simp] theorem State.withBoot_fld (s : State) (v : Boot) (f : Fld) (i j : Nat) : (s.withBoot v).fld f i j = s.fld f i j := rfl

@[simp] theorem State.withBoot_flag (s : State) (v : Boot) (f : Fld) (i j : Nat) : (s.withBoot v).flag f i j = s.flag f i j := rfl

@[simp] theorem State.withBrd_fld (s : State) (v : Board) (f : Fld) (i j : Nat) : (s.withBrd v).fld f i j = s.fld f i j := rfl

@[simp] theorem State.withBrd_flag (s : State) (v : Board) (f : Fld) (i j : Nat) : (s.withBrd v).flag f i j = s.flag f i j := rfl

@[simp] theorem State.withMgt_fld (s : State) (v : Mgmt) (f : Fld) (i j : Nat) : (s.withMgt v).fld f i j = s.fld f i j := rfl

@[simp] theorem State.withMgt_flag (s : State) (v : Mgmt) (f : Fld) (i j : Nat) : (s.withMgt v).flag f i j = s.flag f i j := rfl

@[simp] theorem State.withFree_fld (s : State) (v : Nat) (f : Fld) (i j : Nat) : (s.withFree v).fld f i j = s.fld f i j := rfl

@[simp] theorem State.withFree_flag (s : State) (v : Nat) (f : Fld) (i j : Nat) : (s.withFree v).flag f i j = s.flag f i j := rfl

@[simp] theorem State.withPending_fld (s : State) (v : List Instr) (f : Fld) (i j : Nat) : (s.withPending v).fld f i j = s.fld f i j := rfl

@[simp] theorem State.withPending_flag (s : State) (v : List Instr) (f : Fld) (i j : Nat) : (s.withPending v).flag f i j = s.flag f i j := rfl

@[simp] theorem State.raise_fld (s : State) (a b c : Nat) (l : List (Nat × Nat)) (f : Fld) (i j : Nat) : (s.raise a b c l).fld f i j = s.fld f i j := rfl

@[simp] theorem State.raise_flag (s : State) (a b c : Nat) (l : List (Nat × Nat)) (f : Fld) (i j : Nat) : (s.raise a b c l).flag f i j = s.flag f i j := rfl

@[simp] theorem State.relevel_tags (s : State) (p : Nat) : (s.relevel p).bpm.tags = s.bpm.tags := by
  unfold State.relevel
  dsimp only
  repeat' split
  all_goals simp [State.raise]

@[simp] theorem State.relevel_waits (s : State) (p : Nat) : (s.relevel p).bpm.waits = s.bpm.waits := by
  unfold State.relevel
  dsimp only
  repeat' split
  all_goals simp [State.raise]

@[simp] theorem State.relevel_refWaits (s : State) (p : Nat) : (s.relevel p).bpm.refWaits = s.bpm.refWaits := by
  unfold State.relevel
  dsimp only
  repeat' split
  all_goals simp [State.raise]

@[simp] theorem State.relevel_freed (s : State) (p : Nat) : ((s.relevel p).pool p).freed = (s.pool p).freed := by
  unfold State.relevel
  dsimp only
  repeat' split
  all_goals simp [State.raise, State.pool]

/-- Lending tags the granule and takes it off the stack. -/
theorem State.lend_spec (s : State) (p g owner : Nat) :
    (s.lend p g owner).bpm.tags =
      s.bpm.tags.ins (tagKey p g) { owner := owner, named := s.flag F.BPM_CTL_NOM || owner == ownerSelfTest, count := 1 } ∧
    (s.lend p g owner).bpm.waits = s.bpm.waits ∧ (s.lend p g owner).bpm.refWaits = s.bpm.refWaits ∧
    ((s.lend p g owner).pool p).freed = (s.pool p).freed.tail := by
  unfold State.lend
  simp only [State.relevel_tags, State.relevel_waits, State.relevel_refWaits, State.relevel_freed]
  refine ⟨by simp, by simp, by simp, ?_⟩
  simp only [State.pool, State.withBpm_bpm, AMap.getD_ins_same]
  split <;> simp_all

/-- A granule given back has no tag and lies on top of its pool's stack. -/
theorem State.giveBack_spec (s : State) (p g : Nat) :
    (s.giveBack p g).bpm.tags = s.bpm.tags.del (tagKey p g) ∧ ((s.giveBack p g).pool p).freed = g :: (s.pool p).freed := by
  unfold State.giveBack
  constructor
  · simp
  · simp only [State.relevel_freed]
    simp [State.pool]

/-- A frame lemma's mask, read as the list of parts it allows. -/
theorem Same.only {m : Nat} {s t : State} (l : List Part) (h : Same m s t) (hl : ∀ p, p ∉ l → m.testBit p.bit = false) :
    OnlyChanges l s t := h.onlyChanges hl

/-- A command changed in place is found changed. -/
theorem State.cmd?_setCmd {s : State} {r : CmdRef} {c : Cmd} {f : Cmd → Cmd} (h : s.cmd? r = some c) (hf : (f c).ref = c.ref) :
    (s.setCmd r f).cmd? r = some (f c) := by
  unfold State.cmd? State.setCmd at *
  simp only [State.withHost_host]
  generalize s.host.cmds = l at h
  induction l with
  | nil => simp at h
  | cons x l ih =>
    simp only [List.map_cons, List.find?_cons] at h ⊢
    by_cases g : x.ref = r
    · simp [g] at h
      subst h
      simp [g, hf]
    · simp only [beq_eq_false_iff_ne.mpr g] at h
      simp only [g, if_false, beq_eq_false_iff_ne.mpr g]
      exact ih h

/-- A command found has the reference it was looked for by. -/
theorem State.cmd?_ref {s : State} {r : CmdRef} {c : Cmd} (h : s.cmd? r = some c) : c.ref = r := by
  have := List.find?_some h
  simpa using this

@[simp] theorem State.setCmd_cqRoom (s : State) (r q : CmdRef) (f : Cmd → Cmd) : (s.setCmd r f).cqRoom q = s.cqRoom q := rfl

@[simp] theorem State.link_setLink (s : State) (n : Nat) (f) : (s.setLink n f).link n = f (s.link n) := by
  simp [State.setLink, State.putLink, State.link]

@[simp] theorem State.link_linkCount_tags (s : State) (n i k : Nat) : ((s.linkCount n i k).link n).tags = (s.link n).tags := by
  simp [State.linkCount]

/-- A response that names a tag in use, from its die, is counted and finds its request. -/
theorem State.receive_known {s : State} {n : Nat} {f : Frame} {t : TagRec} (h : (s.link n).tags.get? f.tag = some t) (hd : t.die % 64 = f.die) :
    s.receive n f = (s.linkCount n 10 1, some t) := by
  simp [State.receive, h, hd]

/-- A response that names no tag in use is counted as stray, and ends the tag's quarantine. -/
theorem State.receive_unknown {s : State} {n : Nat} {f : Frame} (h : (s.link n).tags.get? f.tag = none) :
    s.receive n f = (((s.linkCount n 10 1).setLink n fun l => { l with quar := l.quar.filter fun q => q != f.tag }).linkCount n 8 1, none) := by
  simp [State.receive, h]

/-- A choice between two next states is a next state. -/
theorem next_ite (p : Prop) [Decidable p] (a b : State) : (if p then (Host.Outcome.next a : Outcome) else .next b) = .next (if p then a else b) := by
  split <;> rfl

/-- The registers' fields are those of the setup window alone. -/
theorem State.fld_win {s t : State} (h : t.win = s.win) (f : Fld) (i j : Nat) : t.fld f i j = s.fld f i j := by
  cases s; cases t; subst h; rfl

theorem State.flag_win {s t : State} (h : t.win = s.win) (f : Fld) (i j : Nat) : t.flag f i j = s.flag f i j := by
  unfold State.flag; rw [State.fld_win h]

/-- A block record put is the record found. -/
@[simp] theorem State.blk_putBlk (s : State) (d b : Nat) (x : Blk) : (s.putBlk d b x).blk d b = x := by
  unfold State.putBlk State.blk
  have e : ∀ v : Media, (s.withMed v).sysblk = s.sysblk := fun _ => rfl
  simp only [e]
  split <;> simp_all

@[simp] theorem State.blk_setBlk (s : State) (d b : Nat) (f : Blk → Blk) : (s.setBlk d b f).blk d b = f (s.blk d b) := by
  simp [State.setBlk]

/-- A band stored is the band found. -/
@[simp] theorem State.band_putBand (s : State) (k : Nat) (b : Band) : (s.putBand k b).band k = b := by
  unfold State.putBand State.band
  split
  · simp_all [AMap.getD]
  · simp

@[simp] theorem State.putBand_calib (s : State) (k : Nat) (b : Band) : (s.putBand k b).ddk.calib = s.ddk.calib := by
  unfold State.putBand; split <;> rfl

/-- A command that may run has the effect of its row. -/
theorem State.mayRun.eq {s : State} {r : CmdRef} {c : Cmd} {adm : Bool} {opc : Nat} (h : s.mayRun r c adm opc) (f : Cmd → State) :
    s.runReady r adm opc f = .next (f c) := by
  obtain ⟨h1, h2, h3, h4, h5⟩ := h
  unfold State.runReady
  simp only [h1]
  rw [if_pos ⟨h2, h3, h4, h5⟩]

/-- Writing a number of n bytes leaves n bytes. -/
@[simp] theorem toBytes_length (n v : Nat) : (toBytes n v).length = n := by simp [toBytes]

/-- The bytes of a number, one at a time. -/
theorem toBytes_succ (n v : Nat) : toBytes (n + 1) v = BitVec.ofNat 8 v :: toBytes n (v / 256) := by
  unfold toBytes
  rw [List.range_succ_eq_map]
  simp only [List.map_cons, List.map_map, Nat.mul_zero, Nat.shiftRight_zero, List.cons.injEq, true_and]
  apply List.map_congr_left
  intro i _
  simp only [Function.comp_apply, Nat.succ_eq_add_one, Nat.mul_add, Nat.mul_one, Nat.add_comm (8 * i) 8, Nat.shiftRight_add]
  rw [show v >>> 8 = v / 256 from Nat.shiftRight_eq_div_pow v 8]

/-- A number written and read is the number, modulo what its bytes hold. -/
theorem ofBytes_toBytes (n : Nat) : ∀ v, ofBytes (toBytes n v) = v % 256 ^ n := by
  induction n with
  | zero => intro v; simp [toBytes, ofBytes, Nat.mod_one]
  | succ n ih =>
    intro v
    rw [toBytes_succ, ofBytes, ih, Nat.pow_succ, Nat.mul_comm (256 ^ n) 256, Nat.mod_mul]
    simp

/-- A check passed: where the result is no error, the check's condition does not hold. -/
theorem ok_of_check {α ε : Type} {p : Prop} [Decidable p] {e : ε} {x : Except ε α} {y : α} (h : (if p then Except.error e else x) = .ok y) : ¬ p ∧ x = .ok y := by
  by_cases g : p
  · rw [if_pos g] at h; cases h
  · rw [if_neg g] at h; exact ⟨g, h⟩

/-- A change of a pool's pressure level touches no command in flight and sends nothing. -/
theorem State.relevel_host (s : State) (p : Nat) :
    (s.relevel p).host.cmds = s.host.cmds ∧ (s.relevel p).host.out = s.host.out := by
  have hr : ∀ (u : State) a b c l, (u.raise a b c l).host = u.host := fun u a b c l => (State.raise_same0 u a b c l).host rfl
  unfold State.relevel
  dsimp only
  repeat' split
  all_goals simp [hr]

/-- Freeing granules touches no command in flight and sends nothing. -/
theorem State.giveBackAll_host (s : State) (gs : List (Nat × Nat)) :
    (s.giveBackAll gs).host.cmds = s.host.cmds ∧ (s.giveBackAll gs).host.out = s.host.out := by
  have hf : ∀ (u : State) p g, (u.freeHeld p g).host.cmds = u.host.cmds ∧ (u.freeHeld p g).host.out = u.host.out := by
    intro u p g
    unfold State.freeHeld
    split
    · exact ⟨rfl, rfl⟩
    · rename_i t _
      have hc : (u.countDown p g t).host = u.host ∨ True := Or.inr trivial
      split
      · unfold State.giveBack; simp [State.relevel_host]
      · unfold State.countDown
        repeat' split
        all_goals simp [State.relevel_host, State.giveBack]
  unfold State.giveBackAll
  induction gs generalizing s with
  | nil => exact ⟨rfl, rfl⟩
  | cons a l ih => rw [List.foldl_cons]; exact ⟨(ih _).1.trans (hf s _ _).1, (ih _).2.trans (hf s _ _).2⟩

end Sys2Proof.Machine
end

