-- ==== Sys2Proof/Machine/Checkpoint.lean ====
section
/-!
DEFINITION. The bytes of a checkpoint on flash (R501, R504 to R506 of spec/10_media_management.md): its sections, its stream, the set headers, the
directory, and the unit at each slot of its sets. No command reads them; a start finds a checkpoint through them (R507, R508).
-/

namespace Sys2Proof.Machine

/-- The part with the structures of a cut in place of its own. -/
def State.atCut (s : State) (c : CkData) : State :=
  let s := s.withZon { s.zon with ns := c.ns, zdt := c.zdt, map := c.map, sb := c.sb, stg := c.stg }
  let s := s.withStr { s.str with sets := c.sets }
  let s := s.withMed { s.med with bit := c.bit }
  s.withDdk { s.ddk with bands := c.bands, eh := c.eh }

/-- An entry of the namespace table (section 0x01; DESIGN CHOICE, log entry 156). -/
def nsEntry (n : Option Ns) : List Byte :=
  match n with
  | none => List.replicate 24 0
  | some n => layRow [(4, n.nsid), (2, n.owner), (1, n.kind.code), (1, n.lbaf), (8, n.nsze), (1, n.nph), (1, b2n n.wp), (2, n.runs.length), (4, 0)] ++ n.runs.flatMap fun r => layRow [(4, r.1), (4, r.2)]

/-- An entry of the superblock table (section 0x12; DESIGN CHOICE, log entry 156). -/
def State.superEntry (s : State) (setid : Nat) : List Byte :=
  match s.superOf setid, s.set? setid with
  | some b, some r => padTo 80 (layRow [(1, 1 + b2n b.stopped), (2, b.nsix), (2, b.group), (4, b.next), (4, s.validOf setid), (8, r.bindCsn)] ++ memberBytes r.members)
  | _, _ => List.replicate 80 0

/-- The bytes of a section, at the length that the cut gives it (R501). -/
def State.sectionBytes (s : State) (c : CkData) (type len : Nat) : List Byte :=
  let t := s.atCut c
  let ns (p : Ns → Bool) : List (Nat × Ns) := (List.range 4096).filterMap fun k => (c.ns.get? k).bind fun n => if p n then some (k, n) else none
  padTo len (match type with
    | 0x01 => (List.range 4096).flatMap fun k => nsEntry (c.ns.get? k)
    | 0x02 => (List.range (2 ^ 20)).flatMap t.zoneBytes
    | 0x03 => (List.range (2 ^ 24)).flatMap fun k => (t.blk (k / 8192) (k % 8192)).bytes
    | 0x04 => ((List.range (2048 * 512)).flatMap fun k => (c.bands.getD k Band.invalid).bytes) ++ (List.range 2048).flatMap fun d => toBytes 4 (c.eh.getD d 0)
    | 0x05 => ((List.range 2048).flatMap fun d => toBytes 1 (b2n (c.benched.contains d) + 2 * b2n (c.held.contains d) + 4 * b2n (c.failed.contains d))) ++
        (List.range 32).flatMap fun l => toBytes 1 (b2n (c.links.contains l))
    | 0x06 => (ns fun n => n.kind == .zoned).flatMap fun x => (List.range x.2.zones).flatMap fun z =>
        match (x.2.entryOf z).bind t.zone? with
        | some d => d.unread.flatMap fun u => layRow [(2, x.1), (6, z), (8, 262144 * z + u.1), (8, u.2)]
        | none => []
    | 0x11 => (ns fun n => n.kind != .zoned).flatMap fun x => layRow [(2, x.1), (6, 0), (8, x.2.nsze)] ++
        (List.range x.2.nsze).flatMap fun b => toBytes 4 (c.map.getD (lbaKey x.1 b) 0xFFFFFFFF)
    | 0x12 => ((List.range 16384).flatMap fun h => t.superEntry (placementSet h)) ++ (List.range 2048).flatMap fun g => t.superEntry (stagingSet g)
    | 0x13 => c.pending.flatMap fun x => layRow [(8, x.1), (5, x.2.2.1), (2, x.2.1), (1, b2n x.2.2.2)]
    | _ => [])

/-- The checkpoint stream: its sections one after another (R504, R506). -/
def State.ckStream (s : State) (c : CkData) (kind : Nat) : List Byte := (c.sections kind).flatMap fun x => s.sectionBytes c x.1 x.2

/-- The set header (R505). -/
def ckHeader (kind ordinal seq csn : Nat) : List Byte :=
  let l := padTo 4092 (layRow [(4, 0x434B5348), (1, kind), (1, ordinal), (2, 0), (8, seq), (8, csn)])
  l ++ toBytes 4 (crc32cBytes l)

/-- The section descriptors: type, offset in the stream, length, and CRC-32C of the section (R506). -/
def State.ckDescriptors (s : State) (c : CkData) : Nat → List (Nat × Nat) → List Byte
  | _, [] => []
  | off, x :: xs => layRow [(2, x.1), (6, 0), (8, off), (8, x.2), (4, crc32cBytes (s.sectionBytes c x.1 x.2)), (4, 0)] ++ s.ckDescriptors c (off + x.2) xs

/-- The directory (R506). -/
def State.ckDirectory (s : State) (k : Ckpt) (kind : Nat) : List Byte :=
  let secs := k.done.sections kind
  let l := padTo 4092 (layRow [(4, 0x434B4452), (1, kind), (1, k.doneSets.length), (1, secs.length), (1, 0), (8, k.doneSeq), (8, k.doneCsn), (4, k.doneRec),
      (4, 0), (8, k.doneTime), (24, 0)] ++ padTo 256 (s.ckDescriptors k.done 0 secs) ++ padTo 128 (layRow (k.doneSets.map fun x => (4, x.1))))
  l ++ toBytes 4 (crc32cBytes l)

/-- A checkpoint unit: its covered part is zero but for DCRC (R404, R504). -/
def ckInfo (b : List Byte) : Info := mkInfo (BitVec.ofNat 32768 (ofBytes (padTo 4096 b))) 0 0 0 0 0 0 0 false false

/-- Data units that the sets before one hold beside their headers. -/
def State.ckBefore (s : State) (k : Ckpt) (ordinal : Nat) : Nat := ((k.doneSets.take ordinal).map fun x => 16 * s.minUnits x.2 - 1).sum

/-- What data position d of a row of a checkpoint set holds: the set header at row 0, position 0, then the stream in set and slot order, and the
directory as the last data unit; none past it (R504). -/
def State.ckData (s : State) (k : Ckpt) (kind ordinal row d : Nat) : Option Info :=
  if row = 0 ∧ d = 0 then some (ckInfo (ckHeader kind ordinal k.doneSeq k.doneCsn))
  else
    let n := s.ckBefore k ordinal + 16 * row + d - 1
    let stream := ceilDiv (k.done.streamLen kind) 4096
    if n < stream then some (ckInfo (((s.ckStream k.done kind).drop (4096 * n)).take 4096))
    else if n = stream then some (ckInfo (s.ckDirectory k kind))
    else none

/-- The unit that member m of a checkpoint set holds in a row of its last complete checkpoint, with its trailer (R400, R402, R405, R504). -/
def State.ckUnit (s : State) (k : Ckpt) (kind ordinal row m : Nat) : Option FlashUnit :=
  match k.doneSets.drop ordinal with
  | [] => none
  | x :: _ =>
    let ds := (List.range 16).map fun d => s.ckData k kind ordinal row d
    if ds.all (·.isNone) then none
    else
      let b := nth x.2 m (0, 0)
      let is := ds.map fun i => i.getD 0
      let role := roleOf row m
      let pad := decide (role < 16) && (nth ds role none).isNone
      let i := if role = 16 then parityP is else if role = 17 then parityQ is else nth is role 0
      some { info := i, trailer := { die := b.1, block := b.2, slot := row, setid := x.1, lost := false, pad := pad, role := role } }

end Sys2Proof.Machine
end

