-- ==== Sys2Proof/Machine/Granules.lean ====
section
/-!
DEFINITION. DRAM structures whose entries are narrower than a granule (R377, R490, R590): band entries and BIT entries as they lie in DRAM, and
the one way in which such an entry is changed. The tables themselves are fields of State; these are the granules that hold them (log entry 163).
-/

namespace Sys2Proof.Machine

/-- Where a block's BIT entry lies from the start of the table (R490). -/
def bitOffset (die block : Nat) : Nat := (8192 * die + block) * 16

/-- The granule that holds a block's BIT entry, with the entries of the three blocks beside it. -/
def State.bitGranule (s : State) (die block : Nat) : List Byte := (List.range 4).flatMap fun i => (s.blk die (block / 4 * 4 + i)).bytes

/-- The granule that holds a band entry and the one beside it. -/
def State.bandGranule (s : State) (die idx : Nat) : List Byte :=
  (s.band (die * 512 + idx / 2 * 2)).bytes ++ (s.band (die * 512 + idx / 2 * 2 + 1)).bytes

/-- Entries of a granule changed, the rest of it kept. -/
def patch (g : List Byte) (off : Nat) (entry : List Byte) : List Byte := g.take off ++ entry ++ g.drop (off + entry.length)

/-- Change a narrow entry in DRAM: its granule is read, changed and written back whole (R590). -/
def State.changeEntry (s : State) (a : Nat) (entry : List Byte) : State :=
  let g := a / 64 * 64
  s.queueWrite g (ofBytes (patch (toBytes 64 (Mem.readLE 0 64 s.drm.mem g)) (a % 64) entry))

end Sys2Proof.Machine
end

