-- ==== Sys2Proof/WellFormed.lean ====
section
/-!
DEFINITION. Which commands are well-formed: every operand lies in the range that the spec gives its kind (functions and tenants R71 and R72,
queues R84, links and lanes R286, dies, blocks and groups of the package chapter, Setup Window offsets R651, domains R630, and so on).
-/

namespace Sys2Proof

/-- A function or tenant number (R71, R72). -/
def okFn (n : Nat) : Bool := n < 1024

/-- A queue identifier. -/
def okQid (n : Nat) : Bool := n < 65536

/-- A link number. -/
def okLink (n : Nat) : Bool := n < 32

/-- A global die number. -/
def okDie (n : Nat) : Bool := n < 2048

/-- A block of a die. -/
def okBlock (n : Nat) : Bool := n < 8192

/-- A 4-page group of a block. -/
def okGrp (n : Nat) : Bool := n < 1024

/-- A member of a set (R399). -/
def okMember (n : Nat) : Bool := n < 18

/-- A set id. -/
def okSet (n : Nat) : Bool := n < 2097152

/-- A DRAM channel. -/
def okChan (n : Nat) : Bool := n < 4

/-- One of two. -/
def okBit (n : Nat) : Bool := n < 2

/-- A power domain (R630). -/
def okDom (n : Nat) : Bool := n < 148

/-- A wake pin. -/
def okPin (n : Nat) : Bool := n < 8

/-- A buffer pool (R200). -/
def okPool (n : Nat) : Bool := n < 6

/-- A granule of a pool. -/
def okGranule (n : Nat) : Bool := n < 4194304

/-- An owner tag (R208). -/
def okOwner (n : Nat) : Bool := n < 2048

/-- An event source (R666). -/
def okSource (n : Nat) : Bool := n < 1024

/-- A control core. -/
def okCore (n : Nat) : Bool := n < 16

/-- A checkpoint kind. -/
def okKind (n : Nat) : Bool := n == 1 || n == 2

/-- A stripe row. -/
def okRow (n : Nat) : Bool := n < 32768

/-- A data position. -/
def okPos (n : Nat) : Bool := n < 16

/-- A die set. -/
def okDs (n : Nat) : Bool := n < 128

/-- A namespace index. -/
def okNsix (n : Nat) : Bool := n < 4096

/-- An IDE stream. -/
def okStream (n : Nat) : Bool := n < 16

/-- A byte. -/
def okByte (n : Nat) : Bool := n < 256

/-- Two bytes. -/
def okHalf (n : Nat) : Bool := n < 65536

/-- Four bytes. -/
def okWord (n : Nat) : Bool := n < 4294967296

/-- Eight bytes. -/
def okQword (n : Nat) : Bool := n < 18446744073709551616

/-- An offset of the Setup Window (64 MiB). -/
def okOffset (n : Nat) : Bool := n < 67108864

/-- Four bits. -/
def okNibble (n : Nat) : Bool := n < 16

/-- Three bits. -/
def okOctal (n : Nat) : Bool := n < 8

/-- Two bits. -/
def okTwo (n : Nat) : Bool := n < 4

/-- A link tag. -/
def okTag (n : Nat) : Bool := n < 1024

/-- A mask of 40 lanes. -/
def okLanes (n : Nat) : Bool := n < 1099511627776

/-- Host metadata of a block, at most 64 bytes. -/
def okMeta (n : Nat) : Bool := n < 2 ^ 512

/-- A DRAM address. -/
def okDram (n : Nat) : Bool := n < 68719476736

/-- A DRAM granule, 64 bytes. -/
def okGranuleData (n : Nat) : Bool := n < 2 ^ 512

/-- A 7-bit address. -/
def okAddr7 (n : Nat) : Bool := n < 128

/-- An access size. -/
def okSize (n : Nat) : Bool := 0 < n && n ≤ 8

/-- A capture ring. -/
def okRing (n : Nat) : Bool := n < 64

/-- A mask of the 256 ranges of a command. -/
def okMask (n : Nat) : Bool := n < 2 ^ 256

/-- Symbols in error: the pattern of the four virtual ones has 32 bits. -/
def okSyms (x : DramSyms) : Bool := okWord x.virt

/-- A reference to a command: the identifiers of tunnelled commands lie above those of a queue's entries (R678). -/
def okRef (r : CmdRef) : Bool := okFn r.fn && okQid r.qid && r.cid < 131072

/-- A submission queue entry: every field fits its place. -/
def okSqe (e : Sqe) : Bool :=
  okByte e.opc && okHalf e.cid && okWord e.nsid && okWord e.cdw10 && okWord e.cdw11 && okWord e.cdw12 && okWord e.cdw13 && okWord e.cdw14 && okWord e.cdw15

/-- A frame: lane, DIE, TAG and ARG fit the header, and the payload a page (R295). -/
def okFrame (f : Frame) : Bool := okBit f.lane && f.die < 64 && okTag f.tag && f.arg < 4096 && f.payload.length ≤ 18432

def okSpdm (m : SpdmMsg) : Bool := okByte m.code && okByte m.param1 && okByte m.param2

def okIdeKm (m : IdeKmMsg) : Bool := okByte m.object && okByte m.stream && okBit m.keySet && okBit m.rxTx

def okMctp (m : MctpMsg) : Bool := m.cmd < 512

/-- A junction temperature in °C. -/
def okTemp (t : Int) : Bool := -273 ≤ t && t < 1000

/-- Is a command well-formed? -/
def Instr.wf : Instr → Bool
  | .misalignedAccess _ off size _ v => okOffset off && okSize size && okQword v
  | .lowDwordRead _ x => okOffset x.off && okSize x.size
  | .lowDwordWrite _ off v => okOffset off && okWord v
  | .highDwordWrite _ off v => okOffset off && okWord v
  | .registerWrite _ off size v => okOffset off && okSize size && okQword v
  | .txWrite _ off size v => okOffset off && okSize size && okQword v
  | .doorbellWrite fn qid tail entries => okFn fn && okQid qid && okHalf tail && entries.all okSqe
  | .cqHeadDoorbell fn qid head => okFn fn && okQid qid && okHalf head
  | .commandFetch fn qid => okFn fn && okQid qid
  | .commandAdmission r => okRef r
  | .lockGrant r => okRef r
  | .bufferGrant p => okPool p
  | .hostDataBlock r _ mdata _ => okRef r && okMeta mdata
  | .holdupCreditGrant => true
  | .writeCompletion r => okRef r
  | .readCompletion r _ => okRef r
  | .flushCompletion r => okRef r
  | .fuaCompletion r => okRef r
  | .createIoSubmissionQueue r => okRef r
  | .deleteIoSubmissionQueue r => okRef r
  | .createIoCompletionQueue r => okRef r
  | .deleteIoCompletionQueue r => okRef r
  | .getLogPage r => okRef r
  | .identify r => okRef r
  | .abort r => okRef r
  | .setFeatures r => okRef r
  | .getFeatures r => okRef r
  | .asynchronousEventRequest r => okRef r
  | .namespaceManagement r => okRef r
  | .firmwareCommit r => okRef r
  | .firmwareImageDownload r => okRef r
  | .deviceSelfTest r => okRef r
  | .namespaceAttachment r => okRef r
  | .directiveSend r => okRef r
  | .directiveReceive r => okRef r
  | .virtualizationManagement r => okRef r
  | .nvmeMiSend r => okRef r
  | .nvmeMiReceive r => okRef r
  | .formatNvm r => okRef r
  | .sanitize r => okRef r
  | .getLbaStatus r => okRef r
  | .sealedEnvelope r => okRef r
  | .sealCounterDurable tenant => okFn tenant
  | .tenantPolicySet r => okRef r
  | .tenantPolicyGet r => okRef r
  | .sealStatus r => okRef r
  | .securityProtocolInformation r => okRef r
  | .certificateChainReceive r => okRef r
  | .exchangeOfferReceive r => okRef r
  | .attestationNonceSend r => okRef r
  | .attestedReportReceive r => okRef r
  | .keyInstall r => okRef r
  | .tenantUnlock r => okRef r
  | .flush r => okRef r
  | .write r => okRef r
  | .read r => okRef r
  | .writeUncorrectable r => okRef r
  | .compare r => okRef r
  | .writeZeroes r => okRef r
  | .datasetManagement r taken => okRef r && okMask taken
  | .verify r => okRef r
  | .zoneOpen r => okRef r
  | .zoneClose r => okRef r
  | .zoneFinish r => okRef r
  | .zoneReset r => okRef r
  | .zoneOffline r => okRef r
  | .zoneActionAcknowledge r => okRef r
  | .zoneManagementReceive r => okRef r
  | .zoneAppend r => okRef r
  | .controllerEnable fn ams asqs acqs => okFn fn && okOctal ams && okHalf asqs && okHalf acqs
  | .controllerReset fn => okFn fn
  | .normalShutdown fn => okFn fn
  | .shutdownComplete fn => okFn fn
  | .abruptShutdown fn => okFn fn
  | .functionLevelReset fn => okFn fn
  | .functionDisable fn _ => okFn fn
  | .perstAssert port => okBit port
  | .perstDeassert port => okBit port
  | .portLinkUp port rate width _ => okBit port && okOctal rate && okByte width
  | .portLinkDown port => okBit port
  | .nvmSubsystemReset fn => okFn fn
  | .statClr _ => true
  | .countedFree engine p g => okOctal engine && okPool p && okGranule g
  | .namedOwnerFree engine p g owner => okOctal engine && okPool p && okGranule g && okOwner owner
  | .referenceTake engine p g => okOctal engine && okPool p && okGranule g
  | .captureWindowWrite pf off rid _ => okBit pf && okWord off && okHalf rid
  | .captureUnitAccept ring => okRing ring
  | .creditSpanGrant ring => okRing ring
  | .zoneQueuePush _ ring v => okRing ring && okWord v
  | .stallTimeout ring => okRing ring
  | .ringArm _ ring => okRing ring
  | .ringRelease _ ring => okRing ring
  | .releaseComplete ring => okRing ring
  | .captureCountClear _ ring => okRing ring
  | .bankReady vbank => okHalf vbank
  | .energyTestRequest _ => true
  | .testPeriodExpiry => true
  | .energyTestStart v0 v1 => okHalf v0 && okHalf v1
  | .testDischargeEnd vbank tns => okHalf vbank && okQword tns
  | .energyTestComplete vbank => okHalf vbank
  | .forcedFlush _ key test => okByte key && okBit test
  | .vinBelowThreshold v => okWord v
  | .vinDip v low us => okWord v && okHalf low && okWord us
  | .vinLossConfirmed => true
  | .flushDrainDone => true
  | .flushCommitProgrammed => true
  | .flushEnd => true
  | .journalPageTimer => true
  | .journalPageProgrammed seq => okQword seq
  | .rdata link f => okLink link && okFrame f
  | .sdata link f => okLink link && okFrame f
  | .done link f => okLink link && okFrame f
  | .busy link f => okLink link && okFrame f
  | .inhibit link f => okLink link && okFrame f
  | .statusRsp link f => okLink link && okFrame f
  | .nak link f => okLink link && okFrame f
  | .alert link f => okLink link && okFrame f
  | .regData link f => okLink link && okFrame f
  | .trainRsp link f errs => okLink link && okFrame f && okWord errs
  | .corruptFrame link lane _ => okLink link && okBit lane
  | .tagTimerExpiry link tag => okLink link && okTag tag
  | .quarantineExpiry link tag => okLink link && okTag tag
  | .frameLengthTimeout link lane => okLink link && okBit lane
  | .burstEnd link lane _ => okLink link && okBit lane
  | .trainDetectTimer link lane => okLink link && okBit lane
  | .inhibitPollTimer link => okLink link
  | .dieTempPoll die => okDie die
  | .resetbr _ link => okLink link
  | .retrain _ link => okLink link
  | .linkCounterClear _ link => okLink link
  | .hardDecodeDone id _ => okQword id
  | .softDecodeDone id _ => okQword id
  | .effectiveHoursTick => true
  | .calibrationSampleStart die w k r block grp => okDie die && okNibble w && okOctal k && okTwo r && okBlock block && okGrp grp
  | .calibrationSampleEnd link _ _ errs _ _ => okLink link && okWord errs
  | .ddkCounterClear _ link => okLink link
  | .softEngineFault engine => okOctal engine
  | .stripeUnitPlacement csn _ => okQword csn
  | .groupProgram setid m grp => okSet setid && okMember m && okGrp grp
  | .stagedReadback setid row => okSet setid && okRow row
  | .memberReplacement setid m => okSet setid && okMember m
  | .rebuildRow => true
  | .reconstructionComplete id => okQword id
  | .lostLbaSearchEnd record pos => okWord record && okPos pos
  | .inhibitWaitTimeout die => okDie die
  | .stripeCounterClear _ => true
  | .dieDispatch die => okDie die
  | .classAgeingTimeout die => okDie die
  | .suspholdExpiry die => okDie die
  | .schedulerWindowEnd => true
  | .latencyMonitorConfig _ v => okWord v
  | .epochEnd nsix => okNsix nsix
  | .eraseRelease => true
  | .checkpointTimer => true
  | .checkpointStart kind => okKind kind
  | .checkpointComplete kind => okKind kind
  | .gcVictimSelect ds => okDs ds
  | .relocationCommit setid => okSet setid
  | .patrolVisit die block grp => okDie die && okBlock block && okGrp grp
  | .temperatureMinuteTick => true
  | .spdmRequest pf msg => okBit pf && okSpdm msg
  | .ideKmRequest pf msg => okBit pf && okIdeKm msg
  | .vaultSelfTest _ _ _ => true
  | .vaultStoreCompact _ => true
  | .sealStatusQuery _ => true
  | .vaultStoreWriteDone _ _ => true
  | .dramWriteRequest addr data => okDram addr && okGranuleData data
  | .dramReadRequest addr sym => okDram addr && okSyms sym
  | .writeAgeTimeout ch sub => okChan ch && okBit sub
  | .refreshDue ch sub rank => okChan ch && okBit sub && okBit rank
  | .mr4Poll ch mult => okChan ch && okNibble mult
  | .zqCalibrationTimer ch => okChan ch
  | .oscillatorTimer ch drift => okChan ch && okWord drift
  | .trainingOperation _ ch v => okChan ch && okWord v
  | .trainingOperationDone ch fail _ _ => okChan ch && okLanes fail
  | .delaySet _ ch v => okChan ch && okWord v
  | .modeRegisterCommand _ ch v rd => okChan ch && okWord v && okByte rd
  | .scrubStart _ v => okWord v
  | .scrubAbort _ => true
  | .scrubPassEnd => true
  | .domainCommand _ v => okWord v
  | .handshakeReply dom _ => okDom dom
  | .handshakeDelayExpiry dom => okDom dom
  | .quiesceDone dom => okDom dom
  | .domainEntryComplete dom => okDom dom
  | .domainReturnComplete dom => okDom dom
  | .domainReturnFailed dom cause => okDom dom && okByte cause
  | .wakePinChange pin _ => okPin pin
  | .wakeEvent pin => okPin pin
  | .transactionBegin _ => true
  | .transactionCommit _ _ => true
  | .transactionAbort _ => true
  | .commitImageSaved _ => true
  | .commitIslandsHeld => true
  | .transactionTimeout => true
  | .bootLock _ => true
  | .eventRecordArrival src => okSource src
  | .eventRingWrite ring _ => okBit ring
  | .eventHeadWrite _ ring head => okBit ring && okHalf head
  | .eventRingConfig _ ring v => okBit ring && okQword v
  | .eventInterruptTimer ring => okBit ring
  | .mctpControlMessage msg => okMctp msg
  | .readNvmeMiDataStructure dtyp portid ctlid => okByte dtyp && okByte portid && okHalf ctlid
  | .nvmSubsystemHealthStatusPoll _ => true
  | .controllerHealthStatusPoll start maxent _ => okHalf start && okByte maxent
  | .configurationSet cid port v => okByte cid && okByte port && okWord v
  | .configurationGet cid port => okByte cid && okByte port
  | .vpdRead off len => okHalf off && okWord len
  | .vpdWrite off _ => okHalf off
  | .miReset rtype => okByte rtype
  | .tunnelledAdminCommand pf e => okBit pf && okSqe e
  | .setupWindowAccess _ off v => okOffset off && okWord v
  | .vauxPorEnd _ _ _ => true
  | .vauxLoss => true
  | .isolationSwitchOn => true
  | .vinInRange => true
  | .startupStageComplete _ => true
  | .fwsProgram _ v => okWord v
  | .fwsErase _ v => okWord v
  | .fwsRead _ v => okWord v
  | .fwsOperationDone _ => true
  | .coreReadBusyBank core addr => okCore core && okWord addr
  | .reboot _ key => okByte key
  | .watchdogExpiry core cause => okCore core && okByte cause
  | .hotActivationQuiesced => true
  | .hotActivationTimeout => true
  | .activationImageLoaded _ => true
  | .activationComplete _ pause => okWord pause
  | .junctionTempSample t => okTemp t
  | .thermalTrip => true
  | .thermalCooldown => true
  | .linkTrainingPhaseTimeout link lane => okLink link && okBit lane
  | .testAccessPortAccess addr len => okQword addr && okWord len
  | .crystalFault cause => okByte cause
  | .managementEndpointReset cause => okByte cause
  | .functionEnable fn _ => okFn fn
  | .interruptCoalescingTimer fn cqid => okFn fn && okQid cqid
  | .ideStreamInsecure pf stream cause => okBit pf && okStream stream && okByte cause
  | .bankAboveVFloor vbank => okHalf vbank
  | .dynamicAddressAssignment addr _ => okAddr7 addr
  | .fwsOperationTimeout => true

end Sys2Proof
end

