-- ==== Sys2Proof/Tests/Slice0.lean ====
section
/-!
SUPPORT. Tests: ill-formed commands that each check refuses; worked examples of the spec and of the standards it names; and witnesses, concrete
states and operands that meet the hypotheses of the statements, clause by clause, at the ends of their ranges.
-/

set_option Elab.async false

namespace Sys2Proof.Tests

open Sys2Proof Sys2Proof.Machine

/-! ### Small states -/

/-- A submission queue entry of namespace 1 with command dwords 10 to 13. -/
def sqe (opc d10 d11 d12 d13 : Nat) : Sqe :=
  { opc := opc, cid := 1, nsid := 1, cdw10 := d10, cdw11 := d11, cdw12 := d12, cdw13 := d13, cdw14 := 0, cdw15 := 0, dptr := .prp [], data := [] }

/-- A command of function 0 on a queue, in a phase. -/
def cmdOf (qid : Nat) (e : Sqe) (p : Phase) : Cmd :=
  { ref := ⟨0, qid, e.cid⟩, sqe := e, phase := p, sealed := false, tunnel := false, bellTime := 0, cls := 0, nsix := 0, lba := 0, nlb := 1, group := 0
    bufs := ⟨[], []⟩, blocks := 0, got := [], units := [], opened := false, acts := [], csn := none, recs := [], press := 0, snow := false
    hold := false, status := .success, core := false, zord := 0, replaced := [], taken := [], reread := false }

/-- The state after reset with commands in flight, and CSNs to draw. -/
def withCmds (l : List Cmd) : State :=
  (State.reset.withHost { HostSide.reset with cmds := l }).withJnl { Journal.reset with csn := 100, ceiling := 2 ^ 30 }

/-- The state after reset, in parts. -/
abbrev rst : State := State.reset

def withHld (h : Holdup) : State := rst.withHld h

def withTxn (st owner : Nat) : State := rst.withWin { Window.reset with txn := { Txn.reset with state := st, owner := owner } }

/-! ### Ill-formed commands, one for each check -/

theorem test_wf_fn : Instr.wf (.sealCounterDurable 1024) = false := by decide +kernel

theorem test_wf_qid : Instr.wf (.commandFetch 0 65536) = false := by decide +kernel

theorem test_wf_link : Instr.wf (.resetbr .pf0 32) = false := by decide +kernel

theorem test_wf_die : Instr.wf (.dieTempPoll 2048) = false := by decide +kernel

theorem test_wf_block : Instr.wf (.patrolVisit 0 8192 0) = false := by decide +kernel

theorem test_wf_grp : Instr.wf (.patrolVisit 0 0 1024) = false := by decide +kernel

theorem test_wf_member : Instr.wf (.memberReplacement 0 18) = false := by decide +kernel

theorem test_wf_set : Instr.wf (.relocationCommit 2097152) = false := by decide +kernel

theorem test_wf_chan : Instr.wf (.zqCalibrationTimer 4) = false := by decide +kernel

theorem test_wf_bit : Instr.wf (.portLinkDown 2) = false := by decide +kernel

theorem test_wf_dom : Instr.wf (.quiesceDone 148) = false := by decide +kernel

theorem test_wf_pin : Instr.wf (.wakeEvent 8) = false := by decide +kernel

theorem test_wf_pool : Instr.wf (.bufferGrant 6) = false := by decide +kernel

theorem test_wf_granule : Instr.wf (.countedFree 0 0 4194304) = false := by decide +kernel

theorem test_wf_owner : Instr.wf (.namedOwnerFree 0 0 0 2048) = false := by decide +kernel

theorem test_wf_source : Instr.wf (.eventRecordArrival 1024) = false := by decide +kernel

theorem test_wf_core : Instr.wf (.watchdogExpiry 16 0) = false := by decide +kernel

theorem test_wf_kind : Instr.wf (.checkpointStart 3) = false := by decide +kernel

theorem test_wf_row : Instr.wf (.stagedReadback 0 32768) = false := by decide +kernel

theorem test_wf_ds : Instr.wf (.gcVictimSelect 128) = false := by decide +kernel

theorem test_wf_nsix : Instr.wf (.epochEnd 4096) = false := by decide +kernel

theorem test_wf_stream : Instr.wf (.ideStreamInsecure 0 16 0) = false := by decide +kernel

theorem test_wf_byte : Instr.wf (.crystalFault 256) = false := by decide +kernel

theorem test_wf_half : Instr.wf (.bankReady 65536) = false := by decide +kernel

theorem test_wf_word : Instr.wf (.vinBelowThreshold 4294967296) = false := by decide +kernel

theorem test_wf_qword : Instr.wf (.journalPageProgrammed 18446744073709551616) = false := by decide +kernel

theorem test_wf_offset : Instr.wf (.lowDwordRead .pf0 ⟨67108864, 4⟩) = false := by decide +kernel

theorem test_wf_nibble : Instr.wf (.mr4Poll 0 16) = false := by decide +kernel

theorem test_wf_octal : Instr.wf (.countedFree 8 0 0) = false := by decide +kernel

theorem test_wf_two : Instr.wf (.calibrationSampleStart 0 0 0 4 0 0) = false := by decide +kernel

theorem test_wf_tag : Instr.wf (.tagTimerExpiry 0 1024) = false := by decide +kernel

theorem test_wf_lanes : Instr.wf (.trainingOperationDone 0 1099511627776 none []) = false := by decide +kernel

theorem test_wf_meta : Instr.wf (.hostDataBlock ⟨0, 1, 0⟩ 0 (2 ^ 512) .ok) = false := by decide +kernel

theorem test_wf_dram : Instr.wf (.dramReadRequest 68719476736 ⟨[], 0⟩) = false := by decide +kernel

theorem test_wf_granuleData : Instr.wf (.dramWriteRequest 0 (2 ^ 512)) = false := by decide +kernel

theorem test_wf_addr7 : Instr.wf (.dynamicAddressAssignment 128 true) = false := by decide +kernel

theorem test_wf_size : Instr.wf (.registerWrite .pf0 0 9 0) = false := by decide +kernel

theorem test_wf_ring : Instr.wf (.captureUnitAccept 64) = false := by decide +kernel

theorem test_wf_ref : Instr.wf (.read ⟨0, 1, 131072⟩) = false := by decide +kernel

theorem test_wf_sqe : Instr.wf (.doorbellWrite 0 1 1 [{ sqe 256 0 0 0 0 with cid := 0 }]) = false := by decide +kernel

theorem test_wf_frame : Instr.wf (.done 0 ⟨0, 64, 0, 0, []⟩) = false := by decide +kernel

theorem test_wf_frame_payload : Instr.wf (.rdata 0 ⟨0, 0, 0, 0, List.replicate 18433 0⟩) = false := by decide +kernel

theorem test_wf_spdm : Instr.wf (.spdmRequest 0 ⟨256, 0, 0, []⟩) = false := by decide +kernel

theorem test_wf_temp : Instr.wf (.junctionTempSample 1000) = false := by decide +kernel

theorem test_wf_pos : Instr.wf (.lostLbaSearchEnd 0 16) = false := by decide +kernel

theorem test_wf_ideKm : Instr.wf (.ideKmRequest 0 ⟨true, 2, 0, 2, 0, []⟩) = false := by decide +kernel

theorem test_wf_mctp : Instr.wf (.mctpControlMessage ⟨512, []⟩) = false := by decide +kernel

/-- And at the ends of the ranges the same commands are well-formed. -/
theorem test_wf_ok : [Instr.sealCounterDurable 1023, .resetbr .pf0 31, .dieTempPoll 2047, .patrolVisit 2047 8191 1023, .memberReplacement 2097151 17,
    .quiesceDone 147, .bufferGrant 5, .registerWrite .pf0 67108863 8 18446744073709551615, .read ⟨1023, 65535, 131071⟩, .junctionTempSample (-273),
    .checkpointStart 2].all Instr.wf = true := by decide +kernel

/-! ### Worked examples: ciphers, digests and units -/

/-- FIPS 197, appendix C.3: AES-256 of 00112233445566778899aabbccddeeff under 000102…1f. -/
theorem test_aes256 : aesEnc (roundKeys (List.range 32)) ((List.range 16).map (· * 17)) =
    [0x8e, 0xa2, 0xb7, 0xca, 0x51, 0x67, 0x45, 0xbf, 0xea, 0xfc, 0x49, 0x90, 0x4b, 0x49, 0x60, 0x89] := by decide +kernel

/-- FIPS 180-4: SHA-384 of "abc" begins cb00753f45a35e8b. -/
theorem test_sha384 : (sha384 [0x61, 0x62, 0x63]).take 8 = [0xcb, 0x00, 0x75, 0x3f, 0x45, 0xa3, 0x5e, 0x8b] := by decide +kernel

/-- NIST SP 800-38B, AES-256 CMAC of the empty message begins 028962f61b7bf89e. -/
theorem test_cmac : (cmac (octetsBE 32 0x603deb1015ca71be2b73aef0857d77811f352c073b6108d72d9810a30914dff4) []).take 8 =
    [0x02, 0x89, 0x62, 0xf6, 0x1b, 0x7b, 0xf8, 0x9e] := by decide +kernel

/-- CRC-32C of "123456789" is E3069283. -/
theorem test_crc32c : crc32cBytes [0x31, 0x32, 0x33, 0x34, 0x35, 0x36, 0x37, 0x38, 0x39] = 0xE3069283 := by decide +kernel

/-- R403: the inverse of 3 is 0xF4. -/
theorem test_gf_inverse : gfMul 3 0xF4 = 1 := by decide +kernel

/-- R403: two data bytes lost with the others 0: from P 0x66 and Q 0x22, D1 is 0x3C and D0 is 0x5A. -/
theorem test_two_lost : gfMul (0x66 ^^^ 0x22) 0xF4 = 0x3C ∧ 0x66 ^^^ 0x3C = 0x5A := by decide +kernel

/-- R400: row 16,319 has P at member 11, Q at member 12, d0 at 13, d1 at 14 and d15 at 10. -/
theorem test_roles : roleOf 16319 11 = 16 ∧ roleOf 16319 12 = 17 ∧ memberOfData 16319 0 = 13 ∧ memberOfData 16319 1 = 14 ∧ memberOfData 16319 15 = 10 := by decide +kernel

/-- R361, the example: units per group 17 four times, 16 eight times, 15 three times and 14 give U = 16,320; slot 2,401 lies in w 2, group 141, as unit 4. -/
theorem test_slot_place : 64 * (List.replicate 4 17 ++ List.replicate 8 16 ++ List.replicate 3 15 ++ [14]).sum = 16320 ∧
    slotPlace (List.replicate 4 17 ++ List.replicate 8 16 ++ List.replicate 3 15 ++ [14]) 0 2401 = some (2, 141, 4) := by decide +kernel

/-- R393, the example: with STEP 2, 412 against 137 moves −3 to −1; 240 against 205 moves nothing. -/
theorem test_new_offset : newOffset (-3) ⟨412, 137⟩ 2 = -1 ∧ newOffset (-1) ⟨240, 205⟩ 2 = -1 := by decide +kernel

/-- R298, the example: OP 0x01, DIE 37, TAG 0x15A, LEN 16, ARG 0 give header bits 63:16 of 0x0CAAD0010000. -/
theorem test_header : headerTop 0x01 37 0x15A 16 0 = 0x0CAAD0010000 := by decide +kernel

/-- R298: a receiver that hunts from the first bit finds the frame whole, and a flipped payload bit fails its frame CRC (R296, R297, R300). -/
theorem test_hunt :
    let h := headerTop 0x01 37 0x15A 2 0 * 65536 + headerCrc (headerTop 0x01 37 0x15A 2 0)
    let w := wireBits h [0x12, 0x34]
    w.length = 32 + 64 + 16 + 32 ∧ huntFrames 0 1 w = [.frame h (msbBits 8 0x12 ++ msbBits 8 0x34) true] ∧
    (match huntFrames 0 1 (w.set 100 (!w.getD 100 false)) with | [.frame _ _ ok] => ok | _ => true) = false := by decide +kernel

/-- R367, the example: with GAIN 24 and SOFFS 8, z = 6 gives 7, z = 4 gives 1 and z = 3 gives −2; the randomiser bit negates. -/
theorem test_llr : llrOf 24 8 6 false = 7 ∧ llrOf 24 8 4 false = 1 ∧ llrOf 24 8 3 false = -2 ∧ llrOf 24 8 6 true = -7 := by decide +kernel

/-- R604: a granule stored under its address passes its check there, and fails it at the next granule. -/
theorem test_check_bytes : granulePasses 0x1234567840 (granuleStored 0x1234567840 0xABCDEF0123456789) = true ∧
    granulePasses 0x1234567880 (granuleStored 0x1234567840 0xABCDEF0123456789) = false := by decide +kernel

/-- R357: randomising twice gives the bytes back, and R590: changing an entry keeps the rest of its granule. -/
theorem test_randomise : randomise (codewordSeed 5 6 7) (randomise (codewordSeed 5 6 7) [1, 2, 3]) = [1, 2, 3] ∧
    patch [1, 2, 3, 4] 1 [9, 9] = [1, 9, 9, 4] := by decide +kernel

/-- R71: the VFs of PF0 have routing IDs 2 to 512, and those of PF1 513 to 1,023; on 2 × x8 each 1 to 511. -/
theorem test_routing : State.reset.routingId 2 = 2 ∧ State.reset.routingId 512 = 512 ∧ State.reset.routingId 513 = 513 ∧ State.reset.routingId 1023 = 1023 ∧
    ((State.reset.withAo { AlwaysOn.reset with bifur := true }).routingId 513 = 1) ∧ ((State.reset.withAo { AlwaysOn.reset with bifur := true }).routingId 1023 = 511) ∧
    State.reset.vfBarAlign 0 = 2 ^ 18 := by decide +kernel

/-! ### Witnesses: the Setup Window and its transactions -/

theorem wit_DwordPairs : rst.regAt 16 = some (⟨.GLB_AOTIME, 0, 0⟩, false) ∧ rst.regAt 20 = some (⟨.GLB_AOTIME, 0, 0⟩, true) ∧
    RegName.GLB_AOTIME.place.wide = true ∧ 16 % 4 = 0 ∧ 20 % 4 = 0 ∧ rst.win.latch.get? (latchKey .pf0 16) = none ∧ rst.win.held.get? (latchKey .pf0 16) = none ∧
    ((rst.win.latch.ins (latchKey .pf0 16) 5).get? (latchKey .pf0 16) = some 5) ∧ ((rst.win.held.ins (latchKey .mgmt 16) 7).get? (latchKey .mgmt 16) = some 7) ∧
    latchKey .pf0 16 ≠ latchKey .mgmt 16 := by decide +kernel

theorem wit_WindowAccesses : aligned 18 4 = false ∧ aligned 4 8 = false ∧ aligned 1 2 = false ∧ rst.regAt (2 ^ 26 - 4) = none ∧
    rst.regAt 264 = some (⟨.GLB_TXN_TMO, 0, 0⟩, false) ∧ RegName.GLB_TXN_TMO.place.wide = false ∧
    rst.regAt 16 = some (⟨.GLB_AOTIME, 0, 0⟩, false) ∧ 16 % 8 = 0 ∧ RegName.GLB_AOTIME.place.wide = true ∧
    RegName.MEM_SCR_ADDR.fields.all (fun f => f.acc == .rw || f.acc == .ro) = true ∧
    outOfRange .GLB_TXN_TMO 65535 = false ∧ RegName.GLB_TXN_TMO.maskOf (· == .rw) ≠ 0 ∧
    outOfRange .EVT_BASE 11 = true ∧ outOfRange .EVT_BASE 10 = false ∧
    RegName.EVT_BASE.fields.all (fun f => f.acc == .rw || f.acc == .ro) = true ∧
    RegName.EVT_BASE ∉ [RegName.EVT_CFG, .SCH_LMON_CFG, .DRM_TRN_DLY, .FWS_ADDR, .FWS_BUF] := by decide +kernel

theorem wit_TransactionCommands_begin : rst.win.txn.state = 0 ∧ (withTxn 1 0).win.txn.state ≠ 0 ∧ (withTxn 4 0).win.txn.state ≠ 0 := by decide +kernel

theorem wit_TransactionCommands_write : rst.regAt 393216 = some (⟨.RLK_CFG, 0, 0⟩, false) ∧ 393216 % 4 = 0 ∧ RegName.RLK_CFG.place.wide = false ∧
    RegName.RLK_CFG.fields.all (fun f => f.acc == .tx || f.acc == .ro) = true ∧ RegName.RLK_CFG.maskOf (· == .tx) ≠ 0 ∧
    outOfRange .RLK_CFG (256 * 65536) = false ∧ 256 * 65536 < 2 ^ 32 ∧
    (withTxn 1 3).owns .mgmt = true ∧ (withTxn 1 3).win.txn.state = 1 ∧ (withTxn 1 3).owns .pf1 = false ∧ rst.owns .pf0 = false ∧
    (withTxn 3 0).owns .pf0 = true ∧ (withTxn 3 0).win.txn.state ≠ 1 := by decide +kernel

theorem wit_TransactionCommands_timeout : (withTxn 1 0).win.txn.state = 1 ∧ (withTxn 1 0).fld F.GLB_TXN_TMO_MS ≠ 0 ∧ (withTxn 1 0).owns .pf0 = true := by decide +kernel

/-! ### Witnesses: buffers, hold-up and the flush -/

/-- Granule 5 of pool 0 lent to owner 9 with a count. -/
def lent (named : Bool) (count : Nat) : State := rst.withBpm { Bpm.reset with tags := [(tagKey 0 5, ⟨9, named, count⟩)] }

theorem wit_BufferGrants : let s := rst.withBpm { Bpm.reset with pools := [(0, ⟨[5], 6, 0⟩)], waits := [⟨0, 9, .span 0⟩] }
    s.nextRequest 0 = some ⟨0, 9, .span 0⟩ ∧ s.topGranule 0 = some 5 ∧ rst.nextRequest 0 = none := by decide +kernel

theorem wit_BufferFrees : (lent false 1).bpm.tags.get? (tagKey 0 5) = some ⟨9, false, 1⟩ ∧ (lent false 2).bpm.tags.get? (tagKey 0 5) = some ⟨9, false, 2⟩ ∧
    (lent false 0).bpm.tags.get? (tagKey 0 5) = some ⟨9, false, 0⟩ ∧ (lent true 1).bpm.tags.get? (tagKey 0 5) = some ⟨9, true, 1⟩ ∧
    (lent false 15).bpm.tags.get? (tagKey 0 5) = some ⟨9, false, 15⟩ ∧ (lent false 14).bpm.tags.get? (tagKey 0 5) = some ⟨9, false, 14⟩ ∧
    rst.bpm.tags.get? (tagKey 0 5) = none := by decide +kernel

/-- The bank of the examples of R249: 35 V, four strings, a margin of 90 percent, 300 mJ fixed, and n links in service. -/
def atBank (n : Nat) (h : Holdup) : State :=
  (((((((withHld h).withLnk { Links.reset with links := (List.range n).map fun k => (k, { Link.reset with st := .active }) }).withMed
    { Media.reset with flcap := 4096 }).putFld F.HLD_VOLT_VCHG 0 0 3500).putFld F.HLD_CFG_STRINGS 0 0 4).putFld F.HLD_CFG_MARGIN 0 0 90).putFld
    F.HLD_CFG_CAP_MIB 0 0 4096).putFld F.HLD_EFIXED_MJ 0 0 300

/-- R249, its first example: 4,803,140,000 bytes (the example rounds the energies to 1 mJ), B 4,096 MiB, 4,032 MiB during a test. -/
theorem test_budget_of_a_magazine : (atBank 32 Holdup.reset).budgetLimit 4700 3500 / mib = 4580 ∧
    64 * ((atBank 32 Holdup.reset).budgetLimit 4700 3500 / (64 * mib)) = 4544 ∧ (atBank 32 Holdup.reset).budgetOf 4700 3500 = 4096 * mib ∧
    (atBank 32 Holdup.reset).budgetOf 4700 3400 = 4032 * mib := by decide +kernel

/-- R249, its second example: 24 links and 2.4 mF give 1,216 MiB, 1.5 mF 384 MiB. -/
theorem test_budget_of_a_field_magazine : (atBank 24 Holdup.reset).budgetOf 2400 3500 = 1216 * mib ∧ (atBank 24 Holdup.reset).budgetOf 1500 3500 = 384 * mib := by
  decide +kernel

theorem wit_EnergyTests_bank : rst.hld.bank = .uncharged ∧ rst.fld F.HLD_VOLT_VFLOOR ≤ 2000 ∧
    (atBank 32 Holdup.reset).fld F.HLD_VOLT_VCHG ≤ 3475 + 25 ∧ 3525 ≤ (atBank 32 Holdup.reset).fld F.HLD_VOLT_VCHG + 25 ∧
    rst.hld.wasReady = false ∧ rst.hld.test = .none ∧ (withHld { Holdup.reset with wasReady := true, bank := .charging }).hld.wasReady = true ∧
    (withHld { Holdup.reset with test := .waiting }).hld.test = .waiting ∧ (withHld { Holdup.reset with test := .loaded }).hld.test = .loaded ∧
    (withHld { Holdup.reset with test := .recharging }).hld.test = .recharging := by decide +kernel

def testDue : State := atBank 32 { Holdup.reset with test := .waiting, bank := .ready, result := 1, cPass := 4700 }

def discharged : State := atBank 32 { Holdup.reset with test := .recharging, cuf := 4700, esr := 10 }

def weak : State := atBank 32 { Holdup.reset with test := .recharging, cuf := 0 }

theorem wit_EnergyTests_test : testDue.hld.resv ≤ testDue.testBudget ∧ testDue.hld.bank = .ready ∧
    (withHld { Holdup.reset with test := .loaded, v1 := 100 }).fld F.HLD_TEST_DV = 100 ∧
    discharged.hld.esr ≤ discharged.fld F.HLD_ESRMAX_MOHM ∧ budgetMin ≤ discharged.budgetOf discharged.hld.cuf (discharged.fld F.HLD_VOLT_VCHG) ∧
    ¬ (weak.hld.esr ≤ weak.fld F.HLD_ESRMAX_MOHM ∧ budgetMin ≤ weak.budgetOf weak.hld.cuf (weak.fld F.HLD_VOLT_VCHG)) := by decide +kernel

/-- VIN has been below its threshold of 10.2 V since time 0, with the ports enabled. -/
def sagging : State := ((withHld { Holdup.reset with vinLow := some 0 }).withHost { HostSide.reset with enabled := true }).putFld F.HLD_VLOSS_V 0 0 1020

theorem wit_VinAndFlush_vin : 1019 < sagging.fld F.HLD_VLOSS_V ∧ rst.hld.vinLow = none ∧ rst.hld.flush = .none ∧ sagging.hld.vinLow = some 0 ∧
    sagging.fld F.HLD_VLOSS_V ≤ 1020 ∧ 0 < sagging.fld F.HLD_VLOSS_DG ∧ sagging.hld.flush = .none ∧ sagging.host.enabled = true ∧
    0x5C % 256 = 0x5C ∧ 0x5D % 256 ≠ 0x5C := by decide +kernel

theorem wit_VinAndFlush_flush : (let s := withHld { Holdup.reset with flush := .draining }; s.hld.flush = .draining ∧ s.chanDoms.all (fun d => (s.dom d).st != .returning) = true) ∧
    (let i : Image := ⟨1, 1, 0, 0, 0, [], [], [], [], 0, false, 0⟩; let s := withHld { Holdup.reset with flush := .writing, imgSeq := 1, area1 := some i }
      s.image? = some i ∧ i.area = s.hld.imgSeq % 2) ∧ (withHld { Holdup.reset with flush := .committed }).hld.flush = .committed := by decide +kernel

theorem wit_JournalAndCredit_pages : (let s := rst.withJnl { Journal.reset with openFirst := some 0 }; s.jnl.openFirst = some 0) ∧ rst.jnl.openFirst = none ∧
    (let s := (rst.withJnl { Journal.reset with pages := [⟨1, 0, 1, false⟩], okA := true, okB := true }); s.jnl.pages = [⟨1, 0, 1, false⟩]) := by decide +kernel

/-- One credit request at the head of the queue. -/
def asking (wt : Bool) (w : CreditWho) (b budget : Nat) : State := withHld { Holdup.reset with queue := [⟨w, b⟩], wt := wt, budget := budget }

theorem wit_JournalAndCredit_credit : (asking false (.write ⟨0, 1, 1⟩) 100 99).creditLimit < 0 + 100 ∧ 0 + 100 ≤ (asking false (.write ⟨0, 1, 1⟩) 100 100).creditLimit ∧
    0 + 100 ≤ (asking false (.capture 3) 100 100).creditLimit ∧ 0 + 100 ≤ (asking false (.record 3) 100 100).creditLimit ∧
    (asking true (.record 3) 100 0).hld.wt = true ∧ 4 * rst.hld.resv ≤ 3 * rst.hld.budget := by decide +kernel

/-! ### Witnesses: the write path, zones and stripes -/

/-- A namespace of two zones' size, of which it holds Zone Descriptor Table entries 0 and 1. -/
def nsOf (k : NsKind) : Ns :=
  { nsid := 1, owner := 0, kind := k, lbaf := 0, pit := 0, ext := false, nph := 0, nsze := 524288, runs := if k = .zoned then [(0, 2)] else [], attached := [0]
    wp := false, comp := none, handles := 0, hist := [], epochBytes := 0, useHost := [], useReloc := [], useClean := [], bindCsn := 0, key := none
    kept := [], keptTotal := 0, keptHere := 0 }

def zoneOf (st : ZState) (wp : Nat) : Zone :=
  { zs := st, bound := true, ring := none, nsix := 0, wpoff := wp, zcap := 244800, bindCsn := 0, lastCsn := 0, action := none, unread := [], written := wp }

/-- Namespace 1 at index 0, its zone 0, and commands. -/
def withNs (n : Ns) (z : Zone) (l : List Cmd) : State := (withCmds l).withZon { Zones.reset with ns := [(0, n)], zdt := [(0, z)] }

abbrev r1 : CmdRef := ⟨0, 1, 1⟩

/-- An I/O command of a phase in namespace 1. -/
def ioIn (k : NsKind) (z : Zone) (opc d12 : Nat) (p : Phase) : State := withNs (nsOf k) z [cmdOf 1 (sqe opc 0 0 d12 0) p]

theorem wit_HostDataAndAcknowledgement_data :
    let c : Cmd := { cmdOf 1 (sqe 0x01 0 0 1 0) .data with nlb := 2 }
    let s := withNs (nsOf .zoned) (zoneOf .implicitOpen 2) [c]
    s.cmd? r1 = some c ∧ s.nsAt c.nsix = some (nsOf .zoned) ∧ c.blocks < c.nlb ∧ s.csnReady (c.nlb + 8) = true ∧ s.hld.flush = .none ∧ s.cqRoom r1 = true ∧
    c.blocks + 1 < c.nlb ∧ ({ c with blocks := 1 } : Cmd).blocks + 1 = c.nlb ∧ PiCheck.guard ≠ .ok ∧
    (withNs (nsOf .placement) (zoneOf .empty 0) [cmdOf 1 (sqe 0x05 0 0 0 0) .data]).cqRoom r1 = true := by decide +kernel

theorem wit_HostDataAndAcknowledgement_completion :
    let c := cmdOf 1 (sqe 0x01 0 0 0 0) .accepted
    let f := cmdOf 1 (sqe 0x01 0 0 (2 ^ 30) 0) .accepted
    let s := withCmds [c]
    s.cmd? r1 = some c ∧ s.cqRoom r1 = true ∧ s.hld.flush = .none ∧ c.ref.qid ≠ 0 ∧ c.carriesUnits = true ∧ c.sqe.fua = false ∧ f.sqe.fua = true ∧
    s.writeCovered c = true ∧ f.units.all (fun k => (s.str.dram.get? k).isNone) = true ∧ s.coverDurable (s.nsOwner f.nsix) f.recs = true ∧
    (let s := s.withJnl { s.jnl with recs := [⟨0, 0, 0, .ceiling, false, false, none, none⟩] };
      s.coverDurable (s.nsOwner f.nsix) [0] = false ∧ [0].all s.durable = false) ∧
    ((withNs (nsOf .zoned) (zoneOf .full 0) []).withJnl { Journal.reset with recs := [⟨0, 0, 0, .stripeClose 0 0 0, false, false, none, none⟩] }).flushDone 0 1 1 [0] = false ∧
    ([] : List Nat).all s.durable = true ∧ s.flushDone 0 1 0 [] = true := by decide +kernel

theorem wit_HostDataAndAcknowledgement_uncovered :
    let u : DramUnit := ⟨0, 0, 0, 0, 0, 0, 0, false, false, true, false, false, false, none, none, some r1, [], none⟩
    let c : Cmd := { cmdOf 1 (sqe 0x01 0 0 0 0) .accepted with units := [14] }
    let s := (withCmds [c]).withStr { Stripes.reset with dram := [(14, u)] }
    s.writeCovered c = false ∧ c.units.all (fun k => (s.str.dram.get? k).isNone) = false := by decide +kernel

theorem wit_HostDataAndAcknowledgement_others :
    let a := cmdOf 0 (sqe 0x08 (1 + 1 * 65536) 0 0 0) .ready
    let w := cmdOf 1 (sqe 0x01 0 0 0 0) .ready
    let b := cmdOf 1 (sqe 0x01 0 0 0 0) .accepted
    (withCmds [a]).cmd? ⟨0, 1, 1⟩ = none ∧ (withCmds [a, w]).cmd? ⟨0, 1, 1⟩ = some w ∧ (withCmds [a, w]).abortable w = true ∧ w.ref ≠ a.ref ∧ (withCmds [a, w]).cqRoom w.ref = true ∧
    (withCmds [a, b]).cmd? ⟨0, 1, 1⟩ = some b ∧ (withCmds [a, b]).abortable b = false ∧
    (withCmds [cmdOf 1 (sqe 0x00 0 0 0 0) .ready]).cqRoom r1 = true ∧ (withCmds [cmdOf 1 (sqe 0x00 0 0 0 0) .flushing]).cqRoom r1 = true := by decide +kernel

theorem wit_ZonedWrites :
    let c (slba nlb : Nat) : Cmd := { cmdOf 1 (sqe 0x01 slba 0 0 0) .ready with nlb := nlb }
    (ioIn .zoned (zoneOf .implicitOpen 4) 0x01 0 .ready).zoneAt (nsOf .zoned) 4 = some (0, zoneOf .implicitOpen 4) ∧
    ({ zoneOf .implicitOpen 4 with action := some r1 } : Zone).action.isSome = true ∧ (zoneOf .full 244800).writeStatus ≠ .success ∧
    (zoneOf .implicitOpen 4).writeStatus = .success ∧ (zoneOf .implicitOpen 4).action = none ∧ (c 5 1).sqe.slba ≠ (c 5 1).sqe.slba / 262144 * 262144 + 4 ∧
    (c 4 1).sqe.slba = (c 4 1).sqe.slba / 262144 * 262144 + 4 ∧ 244800 < 244799 + (c 4 2).nlb ∧ 244799 + (c 4 1).nlb ≤ 244800 ∧ 244799 + (c 4 1).nlb = 244800 ∧
    (zoneOf .explicitOpen 244799).zs.isOpen = true := by decide +kernel

theorem wit_WriteCommands :
    let s := ioIn .zoned (zoneOf .implicitOpen 0) 0x01 0 .ready
    s.nsAt 0 = some (nsOf .zoned) ∧ r1.qid ≠ 0 ∧ s.csnReady (1 + 8) = true ∧ s.cqRoom r1 = true ∧ s.hld.flush = .none ∧
    ({ nsOf .zoned with wp := true } : Ns).wp = true ∧ (nsOf .zoned).kind = .zoned ∧ (nsOf .placement).kind ≠ .zoned ∧
    (let c := cmdOf 1 { sqe 0x09 0 4 0 0 with data := List.replicate 4 0 ++ [1, 0, 0, 0] ++ List.replicate 8 0 } .ready; c.sqe.dealloc = true ∧ c.mapRanges ≠ []) ∧
    (cmdOf 1 (sqe 0x09 0 4 0 0) .ready).mapRanges = [] ∧ (cmdOf 1 (sqe 0x09 0 0 0 0) .ready).sqe.dealloc = false := by decide +kernel

theorem wit_WriteCommands_placement :
    let s := ioIn .placement (zoneOf .empty 0) 0x01 0 .ready
    let n := nsOf .placement
    s.slotsFor 0 n (n.groupOf (sqe 0x01 0 0 0 0) 0) 1 = false ∧ s.gcCould 0 = false ∧
    (let t := s.withZon { s.zon with sb := [(0, ⟨0, 0, 0, 16, 16, true⟩)] }; t.slotsFor 0 n (n.groupOf (sqe 0x01 0 0 0 0) 0) 1 = false ∧ t.gcCould 0 = true) ∧
    (let t := s.withZon { s.zon with sb := [(0, ⟨0, 0, n.groupOf (sqe 0x01 0 0 0 0) 0, 15, 16, false⟩)] }; t.slotsFor 0 n (n.groupOf (sqe 0x01 0 0 0 0) 0) 1 = true) := by
  decide +kernel

theorem wit_ZoneActions :
    let c (zsa : Nat) := cmdOf 1 (sqe 0x79 0 0 0 zsa) .ready
    let s (z : Zone) (zsa : Nat) := withNs (nsOf .zoned) z [c zsa]
    (s (zoneOf .empty 0) 3).csnReady (262144 + 8) = true ∧ (s (zoneOf .empty 0) 3).cqRoom r1 = true ∧ (c 3).sqe.zsa = 3 ∧ (c 3).sqe.selectAll = false ∧
    (s { zoneOf .closed 8 with action := some ⟨0, 2, 9⟩ } 2).actionBlocked (c 2) (nsOf .zoned) 3 = true ∧
    (s (zoneOf .closed 8) 2).actionBlocked (c 2) (nsOf .zoned) 3 = false ∧ (nsOf .zoned).entryOf 0 = some 0 ∧ (s (zoneOf .closed 8) 2).zone? 0 = some (zoneOf .closed 8) ∧
    ({ zoneOf .closed 8 with ring := some 0 } : Zone).ring.isSome = true ∧ actionResult 2 (zoneOf .full 0) = .error .zoneInvalidTransition ∧
    actionResult 4 (zoneOf .empty 0) = .ok none ∧ actionResult 3 (zoneOf .closed 8) = .ok (some .full) ∧ actionResult 4 (zoneOf .full 8) = .ok (some .empty) ∧
    actionResult 5 (zoneOf .readOnly 8) = .ok (some .offline) ∧ actionResult 2 (zoneOf .implicitOpen 8) = .ok (some .closed) ∧
    actionResult 1 (zoneOf .empty 0) = .ok (some .explicitOpen) := by decide +kernel

theorem wit_ZoneActions_open :
    let c := cmdOf 1 (sqe 0x79 0 0 0 3) .ready
    let s := withNs (nsOf .zoned) (zoneOf .implicitOpen 8) [c]
    let x := s.openZone (nsOf .zoned) 0 0 (zoneOf .implicitOpen 8) true
    x.2 = .success ∧ x.1.cmd? r1 = some c := by decide +kernel

theorem wit_ZoneActions_acknowledge :
    let c : Cmd := { cmdOf 1 (sqe 0x79 0 0 0 2) .record with acts := [⟨0, 3, 5, some 0, [], .explicitOpen, 8⟩] }
    let s := withNs (nsOf .zoned) (zoneOf .full 244800) [c]
    let t := s.withJnl { s.jnl with recs := [⟨0, 0, 0, .ceiling, false, false, none, none⟩] }
    c.acts.all (fun a => s.durable (a.jrec.getD 0)) = true ∧ c.acts.all (fun a => t.durable (a.jrec.getD 0)) = false ∧ s.hld.flush = .none := by decide +kernel

/-- A set of one row on blocks 40 of dies 0 to 17, its row padded with both parities. -/
def aSet : SetRec := ⟨(List.range 18).map fun m => (m, 40), 0, 0, 1, 0, 0, 0, false⟩

def aRow : Row := { Row.empty with pos := List.replicate 16 .pad, p := some 0, q := some 0, opened := true, parity := true }

def withSet : State := rst.withStr { Stripes.reset with sets := [(0, aSet)], rows := [(0, aRow)] }

def aUnit (ref : Option CmdRef) (place : Option (Nat × Nat)) : DramUnit := ⟨7, 0, 0, 0, 0, 0, 0, false, false, ref.isNone, false, false, false, place, none, ref, [], none⟩

theorem wit_StripesAndRecovery :
    (rst.withStr { Stripes.reset with dram := [(unitKey 7 false, aUnit none none)] }).str.dram.get? (unitKey 7 false) = some (aUnit none none) ∧
    rst.mayPlace (aUnit none none) = true ∧ (withCmds [cmdOf 1 (sqe 0x01 0 0 0 0) .accepted]).mayPlace { aUnit (some r1) none with through := true } = true ∧ rst.logHeld = false ∧
    ((rst.withPwr { Power.reset with doms := [(137, { Domain.reset with st := .entering, ap := 1 })] }).logHeld = true) ∧
    (withCmds [cmdOf 1 (sqe 0x01 0 0 0 0) .credit]).mayPlace (aUnit (some r1) none) = false ∧ (aUnit none (some (0, 3))).place.isSome = true ∧
    withSet.set? 0 = some aSet ∧ aSet.memberLost 0 = false ∧ withSet.groupState 0 0 0 = none ∧ withSet.groupFull 0 aSet 0 0 = true ∧
    (withSet.groupSpan aSet 0 0).1 < aSet.rows ∧ withSet.badUnits 0 aSet 0 0 = [] ∧ (rst.link 0).inh = 0 ∧
    ((rst.withLnk { Links.reset with links := [(0, { Link.reset with inh := 1 })] }).link (pkgOf 63)).inh ≠ 0 := by decide +kernel

theorem wit_StripesAndRecovery_epoch :
    let n : Ns := { nsOf .placement with epochBytes := 2 ^ 30 }
    let s := (withNs n (zoneOf .empty 0) []).putFld F.ZON_PL_EPOCH_EPOCH_GIB 0 0 1
    s.nsAt 0 = some n ∧ 0 < s.fld F.ZON_PL_EPOCH_EPOCH_GIB ∧ s.fld F.ZON_PL_EPOCH_EPOCH_GIB * 2 ^ 30 ≤ n.epochBytes := by decide +kernel

theorem wit_LostMembers :
    let f := withSet.withStr { withSet.str with groups := [(0 * 32 * 1024, ⟨.failed, 0, none⟩)] }
    f.mustReplace 0 aSet 0 = true ∧ withSet.mustReplace 0 aSet 0 = false ∧
    (withSet.putFld F.STR_RBCFG_RBEN 0 0 1).flag F.STR_RBCFG_RBEN = true ∧ (withSet.putFld F.STR_RBCFG_RBEN 0 0 0).flag F.STR_RBCFG_RBEN = false ∧
    (let b : Rebuild := ⟨0, 3, 40, 41, 1, 0, []⟩; let s := withSet.withStr { withSet.str with rebuild := some b }; s.set? b.setid = some aSet) ∧
    (let b : Rebuild := ⟨9, 3, 40, 41, 1, 0, []⟩; withSet.set? b.setid = none) ∧
    withSet.groupsFilled 0 aSet 0 = true ∧ (withSet.withZon { Zones.reset with ns := [(0, nsOf .zoned)], zdt := [(0, zoneOf .full 0)] }).rowLba 0 0 = some 0 ∧
    (∀ d < 16, nth (withSet.row 0 0).pos d .empty ≠ .staged) := by decide +kernel

theorem wit_LostMembers_search :
    let e : LostRec := ⟨5, 0, 2, 2, 0x100000 * 2 ^ 15, 0, 1, 1, none, 0, 0, 0, [0]⟩
    let s := rst.withStr { Stripes.reset with lost := [e] }
    (s.str.lost.find? fun e => e.index == 5 && e.search.contains 0) = some e ∧
    (s.zon.map.find? fun x => x.2 == (stripeSet e.stripe - 0x100000) * 2 ^ 18 + 16 * stripeRow e.stripe + 0) = none ∧
    ((s.withZon { Zones.reset with map := [(17, 0)] }).zon.map.find? fun x => x.2 == (stripeSet e.stripe - 0x100000) * 2 ^ 18 + 16 * stripeRow e.stripe + 0) = some (17, 0) := by
  decide +kernel

def aRead : UnitRead :=
  { who := .recon 0 0, die := 2, block := 40, slot := 0, setid := 0, row := 0, member := 2, role := 0, cls := 0, tenant := 0, nsix := 0, lba := 0, loCsn := 0, hiCsn := 0
    st := .sent, out := .pending, arrive := 0, soft := false, hardFailed := false, final := false, noRef := false, ref := none, recon := none, llr := [] }

theorem wit_LostMembers_recon :
    let c : Recon := ⟨0, 0, 2, 0, 7, [], [], [], [], false⟩
    let s := (withSet.withStr { withSet.str with recon := [(1, c)] }).withDdk { Didrinak.reset with reads := [(7, aRead)] }
    s.str.recon.get? 1 = some c ∧ s.set? c.setid = some aSet ∧ s.uread c.rid = some aRead ∧ c.out = [] ∧
    s.reconOut c aSet aRead false = .unreadable ∧ s.reconOut c aSet aRead true = .unreadable := by decide +kernel

/-- A die of a link that is up, with reads or writes waiting. -/
def dieWith (d : SDie) : State :=
  (rst.withLnk { Links.reset with links := [(0, { Link.reset with st := .active })] }).withSch { Sched.reset with dies := [(0, d)] }

def aReq (k : ReqKind) (cls : Nat) : DieReq := ⟨k, cls, 0, false⟩

theorem wit_DieScheduling :
    let d := SDie.reset 0
    (dieWith { d with failed := true }).dieFailed 0 = true ∧ (dieWith d).dieFailed 0 = false ∧ rst.canSend 0 = false ∧ (dieWith d).canSend 0 = true ∧
    ((dieWith { d with op := some ⟨aReq (.erase 40 false) 2, 0, true, 0, 0, 1, false⟩ }).sdie 0).op = some ⟨aReq (.erase 40 false) 2, 0, true, 0, 0, 1, false⟩ ∧
    (let s := dieWith { d with q0 := [aReq (.readHard 1) 0], reads := 0 }; (s.sdie 0).q0 ≠ [] ∧ (s.sdie 0).reads < s.fld F.SCH_SUSP_RQMAX) ∧
    (let s := dieWith { d with q1 := [aReq (.readHard 1) 1] }; s.writeOverdue (s.sdie 0) = false ∧ (s.sdie 0).q1 ≠ []) ∧
    (let s := (dieWith { d with mw := [aReq (.program 0 0 0) 1] }).withAo { AlwaysOn.reset with time := 1000 * rst.fld F.SCH_PGM_PGMWAIT + 1 };
      s.writeOverdue (s.sdie 0) = true ∧ s.writeReady 0 (s.sdie 0) = true) ∧
    (let s := dieWith { d with q2 := [aReq (.readHard 1) 2] }; s.writeReady 0 (s.sdie 0) = false ∧ (s.sdie 0).q2 = aReq (.readHard 1) 2 :: []) := by decide +kernel

/-- A request outstanding under tag 3 of link 0. -/
def tagged (k : ReqKind) (l : List (Nat × TagRec)) : State :=
  (rst.withLnk { Links.reset with links := [(0, { Link.reset with st := .active, tags := (3, ⟨5, aReq k 0, 0, 0, false, false⟩) :: l })] }).withDdk
    { Didrinak.reset with reads := [(7, aRead)] }

def aFrame (arg : Nat) : Frame := ⟨0, 5, 3, arg, []⟩

theorem wit_ResponseFrames :
    (rst.link 0).tags.get? 3 = none ∧ ((tagged (.readHard 7) []).link 0).tags.get? 3 = some ⟨5, aReq (.readHard 7) 0, 0, 0, false, false⟩ ∧ 5 % 64 = (aFrame 0).die ∧
    (let s := tagged (.readSoft 7) [];
      ((((s.linkCount 0 10 1).freeTag 0 3).readBack ⟨5, aReq (.readSoft 7) 0, 0, 0, false, false⟩).uread 7) = some aRead) ∧
    (let s := tagged (.status 4) [(4, ⟨5, aReq (.readHard 7) 0, 0, 0, true, false⟩)];
      ((((s.linkCount 0 10 1).freeTag 0 3).statusBlock 0 (aFrame 0)).link 0).tags.get? 4 = some ⟨5, aReq (.readHard 7) 0, 0, 0, true, false⟩) := by decide +kernel

/-- Zero units on every member of the set. -/
def onFlash : State :=
  withSet.withMed { Media.reset with flash := (List.range 18).map fun m => (flashKey m 40 0, ⟨0, ⟨m, 40, 0, 0, false, decide (2 ≤ m), roleOf 0 m⟩⟩) }

theorem wit_LostMembers_recovered :
    let c : Recon := ⟨0, 0, 2, 0, 7, [], [], (List.range 18).filter (· != 2), [], false⟩
    onFlash.reconOut c aSet aRead false ≠ .unreadable := by decide +kernel

/-! ### Witnesses: links, DRAM, power domains and the read channel -/

theorem wit_RefusalFrames :
    ((tagged (.readHard 7) []).link 0).tags.get? 3 = some ⟨5, aReq (.readHard 7) 0, 0, 0, false, false⟩ ∧ (ReqKind.readHard 7).rid? = some 7 ∧
    (let s := tagged (.readHard 7) []
     let v := (((s.linkCount 0 5 1).linkCount 0 10 1).freeTag 0 3).setSdie 5 (fun d => { d with busy := 1023 * 10000, busyAt := s.ao.time })
     let u := ((v.readBack ⟨5, aReq (.readHard 7) 0, 0, 0, false, false⟩).setRead 7 fun y => { y with st := .queued }).setSdie 5 (fun d => { d with q0 := aReq (.readHard 7) 0 :: d.q0 })
     u.uread 7 = some { aRead with st := .queued }) ∧
    ((tagged (.program 0 2 0) []).link 0).tags.get? 3 = some ⟨5, aReq (.program 0 2 0) 0, 0, 0, false, false⟩ ∧
    ((tagged (.erase 40 false) []).link 0).tags.get? 3 = some ⟨5, aReq (.erase 40 false) 0, 0, 0, false, false⟩ ∧
    ((rst.withLnk { Links.reset with links := [(0, { Link.reset with dies := 32 })] }).link 0).dies.testBit (aFrame 4).die = true ∧
    (aFrame 4).arg ≠ 1 ∧ (aFrame 4).arg ≠ 3 ∧ (aFrame 3).arg = 3 ∧ (aFrame 3).tag ≠ 0x3FF := by decide +kernel

/-- Lane 0 of link 0 in training. -/
def laneOf (l : Lane) : State := rst.withLnk { Links.reset with links := [(0, { Link.reset with st := .training, lane0 := l })] }

theorem wit_LinkTraining :
    let l : Lane := { Lane.reset with training := true }
    ((laneOf Lane.reset).link 0).lane 0 = Lane.reset ∧ Lane.reset.training = false ∧ ((laneOf l).link 0).lane 0 = l ∧
    (⟨0, 0, 0, 0, []⟩ : Frame).arg / 512 % 8 = l.phase ∧ (⟨0, 0, 0, 1023, []⟩ : Frame).arg / 512 % 8 = ({ l with phase := 1 } : Lane).phase ∧
    (⟨0, 0, 0, 1024, []⟩ : Frame).arg / 512 % 8 = ({ l with phase := 2 } : Lane).phase ∧ (⟨0, 0, 0, 1536, []⟩ : Frame).arg / 512 % 8 = ({ l with phase := 3 } : Lane).phase ∧
    (⟨0, 0, 0, 512, []⟩ : Frame).arg / 512 % 8 ≠ l.phase ∧ ({ l with frames := 63 } : Lane).frames + 1 = 64 := by decide +kernel

theorem wit_LinkTraining_timers :
    (((tagged (.readHard 7) []).link 0).lane 1).up = false ∧ ((laneOf { Lane.reset with up := true }).link 0).lane 0 = { Lane.reset with up := true } ∧
    ((tagged (.readHard 7) []).link 0).tags.get? 3 = some ⟨5, aReq (.readHard 7) 0, 0, 0, false, false⟩ ∧ (tagged (.readHard 7) []).linkUp 0 = true ∧
    (let s := rst.withLnk { Links.reset with links := [(0, { Link.reset with st := .degraded, inh := 1, dies := 1 })] };
      (s.link 0).inh ≠ 0 ∧ s.canSend 0 = true ∧ (s.link (pkgOf 0)).dies.testBit (0 % 64) = true) ∧
    (rst.putFld F.LNK_CTL_EN 31 0 1).flag F.LNK_CTL_EN 31 = true ∧ (rst.putFld F.LNK_CTL_EN 31 0 0).flag F.LNK_CTL_EN 31 = false := by decide +kernel

/-- Channels 0 and 1 in use. -/
def aChan (c : Chan) : State := (rst.withDrm { Dram.reset with chans := [(0, c), (1, c)] }).putFld F.DRM_CFG_CHEN 0 0 3

theorem wit_DramReadsBackWrites :
    let s := aChan { Chan.reset with trained := true }
    s.memWf = true ∧ 0 < s.dramSize ∧ s.dramSize - 64 < s.dramSize ∧ (s.dramSize - 64) % 64 = 0 ∧ s.dramLive (s.dramSize - 64) = true ∧
    ((s.chan (s.dramPlace (s.dramSize - 64)).ch).sub (s.dramPlace (s.dramSize - 64)).sub).wq.length < 64 := by decide +kernel

theorem wit_DramAddresses : rst.dramSize ≤ 0 ∧ 0 < 2 ^ 36 ∧ (aChan Chan.reset).subIndex 64 = (aChan Chan.reset).subIndex 64 := by decide +kernel

theorem wit_DramCommands :
    let s := aChan { Chan.reset with trained := true, busy := true, sub0 := { SubChan.reset with banks := [(0, ⟨some 1, [], 5⟩)] }, dly := [(0, 9)] }
    0 < 4 ∧ 1 < 2 ∧ (s.chan 0).trained = true ∧ (s.chan 0).busy = true ∧ s.fld F.DRM_CFG_RANKS ≤ s.fld F.DRM_CFG_RANKS ∧
    ((s.chan 0).sub 0).banks.get? 0 = some ⟨some 1, [], 5⟩ ∧ (s.chan 0).dly.get? 0 = some 9 ∧ (1 ≤ bits 0x100 15 8 ∧ bits 0x100 15 8 ≤ 128) ∧
    (1 ≤ bits 0x8000 15 8 ∧ bits 0x8000 15 8 ≤ 128) ∧ (2 ^ 31).testBit 31 = true ∧ (2 ^ 31 + 2 ^ 30).testBit 30 = true := by decide +kernel

theorem wit_DramCommands_scrub :
    let s := rst.withDrm { Dram.reset with scrub := { Scrub.reset with busy := true, len := 64 } }
    s.drm.scrub.busy = true ∧ s.drm.scrub.aborted = false := by decide +kernel

/-- A domain in a state of its own. -/
def domIs (d : Nat) (x : Domain) : State := rst.withPwr { Power.reset with doms := Power.reset.doms.ins d x }

theorem wit_DomainEntries_command : rst.domResult 255 0 = 1 ∧ (rst.withPwr { Power.reset with doms := [(64, { Domain.reset with st := .on })] }).domResult 64 2 = 0 := by
  decide +kernel

theorem wit_DomainEntries_handshake :
    let x : Domain := { Domain.reset with st := .entering, prev := .on, target := .off, ap := 0 }
    domHs 92 = true ∧ (domIs 92 x).dom 92 = x ∧ (domIs 92 x).hsRefuses 92 .off = none ∧ (domIs 92 x).hsDelays 92 = false ∧
    (let s := (domIs 92 x).withZon { Zones.reset with ns := [(0, nsOf .zoned)] }; s.hsRefuses 92 .off = some 6) ∧
    (let s := (domIs 92 x).withDrm { Dram.reset with chans := [(0, { Chan.reset with sub1 := { SubChan.reset with wq := [⟨0, 0, 0, 0⟩] } })] };
      s.hsRefuses 92 .off = none ∧ s.hsDelays 92 = true ∧ x.delays + 1 < s.fld F.PWR_HS_CFG_HSMAX ∧
      s.fld F.PWR_HS_CFG_HSMAX ≤ ({ x with delays := s.fld F.PWR_HS_CFG_HSMAX - 1 } : Domain).delays + 1) := by decide +kernel

theorem wit_DomainEntries_completion :
    let x : Domain := { Domain.reset with st := .entering, prev := .on, target := .off, ap := 1 }
    (domIs 142 x).quiesced 142 = true ∧ ((domIs 142 x).withHld { Holdup.reset with resv := 1 }).quiesced 142 = false ∧ (domIs 142 x).dom 142 = x ∧ x.abandon = none ∧
    ({ x with ap := 2 } : Domain).ap = 2 ∧ ({ x with prev := .retention } : Domain).prev = .retention ∧ ({ x with abandon := some 8 } : Domain).abandon = some 8 ∧
    ({ x with waiting := true } : Domain).waiting = true ∧ ({ x with target := .retention } : Domain).target = .retention := by decide +kernel

theorem wit_DomainReturns :
    let x : Domain := { Domain.reset with st := .returning, prev := .off, target := .on }
    ((domIs 64 x).dom 64).st = .returning ∧ (let s := rst.withPwr { Power.reset with doms := [(64, x), (144, { Domain.reset with st := .on })] }; (s.dom 64).st = .returning ∧ (s.requires 64).all s.isOn = true) ∧ (rst.requires 0).all rst.isOn = false ∧
    (domIs 64 { x with prev := .retention }).dom 64 = { x with prev := .retention } ∧ 7 < 8 ∧
    (rst.putFld F.PWR_WAKE_CFG_EN 7 0 1).flag F.PWR_WAKE_CFG_EN 7 = true ∧ (rst.putFld F.PWR_WAKE_CFG_EN 7 0 1).asserted 7 = true := by decide +kernel

/-- One unit read of die 2. -/
def reading (u : UnitRead) : State := (rst.withDdk { Didrinak.reset with reads := [(7, u)] }).withPwr { Power.reset with doms := [(64, { Domain.reset with st := .on })] }

theorem wit_HardAndSoftDecoding :
    let h : UnitRead := { aRead with st := .hardDecoding }
    let q : UnitRead := { aRead with st := .softQueued, soft := true, hardFailed := true }
    (reading aRead).uread 7 = some aRead ∧ aRead.st ≠ .hardDecoding ∧ (reading h).uread 7 = some h ∧
    ((reading h).putFld F.DDK_CTL_SOFTEN 0 0 0).flag F.DDK_CTL_SOFTEN (pkgOf h.die) = false ∧ ((reading h).putFld F.DDK_CTL_SOFTEN 0 0 1).flag F.DDK_CTL_SOFTEN (pkgOf h.die) = true ∧
    ((reading h).withDdk { Didrinak.reset with engFault := List.range 8 }).enginesLeft = [] ∧ (reading h).enginesLeft ≠ [] ∧
    (reading q).uread 7 = some q ∧ (reading q).softRank 7 q < (reading q).enginesOn.length ∧ rst.enginesOn.length ≤ rst.softRank 7 q ∧
    (let s := (reading { h with soft := false }).withDdk { Didrinak.reset with engFault := List.range 8 }; (s.softTooLong h).2 = true) := by decide +kernel

def aDesc : Desc := ⟨List.replicate 16 100, 200, 30, 0, 0, 3000, [5, 10, 15, 20, 25, 30, 35], false⟩

/-- Block 40 of die 0 bound in a set whose one row is closed, with the descriptors of package 0. -/
def sampling (d : Didrinak) (pin : Bool) : State :=
  (((rst.withStr { Stripes.reset with sets := [(0, aSet)], rows := [(0, { aRow with closed := true })] }).withDdk { d with desc := [(0, aDesc)] }).withMed
    { Media.reset with bit := [(40, ⟨0, .bound, pin, false, false, 0, 0, 0, 0, 0, 0, 0⟩)] }).putFld F.DDK_CTL_CALEN 0 0 1

theorem wit_CalibrationAndEngines :
    let s := sampling Didrinak.reset false
    s.flag F.DDK_CTL_CALEN (pkgOf 0) = true ∧ s.ddk.calib.get? (pkgOf 0) = none ∧ (s.descOf 0).isSome = true ∧ s.dieFailed 0 = false ∧
    s.calCandidate (bandKey 0 15 0 0) = true ∧ s.canSample 0 15 0 0 40 1023 = true ∧ s.canSample 0 0 0 0 40 0 = true ∧ s.hld.flush = .none ∧
    (let c : Calib := ⟨0, bandKey 0 0 0 0, 40, 0, 4⟩; let s := sampling { Didrinak.reset with calib := [(0, c)] } true;
      s.ddk.calib.get? 0 = some c ∧ 4 ≤ c.pages ∧ (s.blk c.die c.block).st = .bound ∧ (s.blk c.die c.block).wbin = c.band % 512 / 4 % 8 ∧
      s.retentionBin c.die c.block = c.band % 4 ∧ (s.ddk.samples.getD c.band 0 + 1) % 4 ≠ 0) ∧
    (let c : Calib := ⟨0, bandKey 0 0 1 0, 40, 0, 4⟩; (sampling { Didrinak.reset with calib := [(0, c)] } true).ddk.calib.get? 0 = some c ∧ 0 ≠ c.band % 512 / 4 % 8) := by
  decide +kernel

theorem wit_CalibrationAndEngines_fault : rst.ddk.engFault.contains 7 = false ∧ 0 ∈ rst.enginesLeft ∧
    (let s := rst.withDdk { Didrinak.reset with engFault := List.range 7 }; s.ddk.engFault.contains 7 = false ∧ (∀ f < 8, f = 7 ∨ f ∈ s.ddk.engFault) ∧
      s.ddk.engFault.contains 6 = true) := by decide +kernel

/-! ### Witnesses: media management, capture, start-up, firmware and events -/

/-- Block 40 of die 0 in the erase queue. -/
def erasing : State := rst.withMed { Media.reset with erq := [(0, 40)] }

theorem wit_MediaHousekeeping_erase : let s := erasing.putFld F.SCH_WIN_MAINT 0 0 10
    s.hld.flush = .none ∧ s.med.erq.find? s.releasable = some (0, 40) := by decide +kernel

/-- Eighteen links up with one die each, a system block on each, ports enabled. -/
def eighteen (n : Nat) : State :=
  (((rst.withHost { HostSide.reset with enabled := true }).withLnk { Links.reset with links := (List.range n).map fun k => (k, { Link.reset with st := .active, dies := 1 }) }).withMed
    { Media.reset with bit := (List.range n).map fun k => (blkKey (64 * k) 3, ⟨0, .system, false, false, false, 0, 0, 0, 0, 0, 0, 0⟩) })

theorem wit_MediaHousekeeping_checkpoint :
    let s := eighteen 18
    s.ckMay 1 = true ∧ s.ckMay 2 = true ∧ (eighteen 17).ckMay 1 = false ∧ (s.withMed { Media.reset with slotted := s.fld F.ZON_CKPT_CK2GIB * 262144 }).ckDue 2 = true ∧
    ((rst.withMed { Media.reset with ck2 := { Ckpt.reset with active := true } }).ck 2).active = true ∧
    ((rst.withHld { Holdup.reset with flush := .draining }).hld.flush ≠ .none) := by decide +kernel

/-- Placement superblock 0 of namespace 0, full, with v valid units, a refresh victim of die set 0. -/
def superWith (v : Nat) : State :=
  ((((withCmds []).withZon { Zones.reset with ns := [(0, nsOf .placement)], sb := [(0, ⟨0, 0, 0, 16, 16, true⟩)], map := (List.range v).map fun k => (k, k) }).withStr
    { Stripes.reset with sets := [(0x100000, aSet)], rows := [(0x100000 * 2 ^ 15, { aRow with closed := true })] }).withMed { Media.reset with victims := [0x100000] }).putFld
    F.ZON_TN_DS_VALID 0 0 1

theorem wit_MediaHousekeeping_gc :
    ((rst.gcMode 0).gcVictim 0 = none) ∧ ((superWith 0).gcMode 0).gcVictim 0 = some (0x100000, aSet, 0) ∧ ((superWith 3).gcMode 0).gcVictim 0 = some (0x100000, aSet, 3) ∧
    ((superWith 3).gcMode 0).csnReady (3 + 8) = true := by decide +kernel

theorem wit_MediaHousekeeping_relocation :
    let r : Reloc := ⟨0x100000, [⟨14, 0, 0, 0⟩], [], false⟩
    let s := (superWith 0).withMed { Media.reset with relocs := [r] }
    s.med.relocs.find? (fun r => r.setid == 0x100000) = some r ∧ s.hld.flush = .none ∧ (s.set? 0x100000).isSome = true ∧ r.copies ≠ [] ∧
    s.csnReady ((r.copies.filter fun c => (s.str.dram.get? c.key).isNone).length + 8) = true ∧ ({ r with copies := [] } : Reloc).recs.all s.durable = true ∧
    s.validOf 0x100000 = 0 := by decide +kernel

theorem wit_MediaHousekeeping_patrol :
    let s := sampling Didrinak.reset false
    s.set? (s.blk 0 40).setid = some aSet ∧ (s.blk 0 40).st = .bound ∧ s.dieFailed 0 = false ∧ s.hld.flush = .none := by decide +kernel

/-- Ring 63 armed on function 0, with zone 0 of the namespace as its stream. -/
def ringWith (r : CapRing) : State :=
  ((withNs (nsOf .zoned) (zoneOf .empty 0) []).withCap { Capture.reset with rings := [(63, { r with zq := [⟨0, 0⟩], strm := some ⟨0, 0⟩ })] }).putFld F.CAP_NS_NSID 63 0 1

theorem wit_CaptureWrites_window :
    let r : CapRing := { CapRing.reset with st := .armed, crlim := 2 ^ 20 }
    let s := ringWith r
    (63 * 2 ^ 28 + aperture) / 2 ^ 28 = 63 ∧ (63 * 2 ^ 28 + aperture) % 2 ^ 28 = aperture ∧ s.hld.flush = .none ∧ rst.strayWrite 0 63 aperture 0 64 = true ∧
    s.strayWrite 0 63 aperture 0 64 = false ∧ s.strayWrite 0 63 (2 ^ 28 - 64) 0 64 = false ∧ s.strayWrite 0 63 (2 ^ 28 - 64) 0 65 = true ∧
    s.strayWrite 0 63 (aperture + 1) 0 64 = false ∧ (aperture + 1) % 64 ≠ 0 ∧
    ((ringBlocks (s.capRing 63).crlim (aperture - aperture) 1 (List.replicate 64 0)).any fun b => b.1 < (s.capRing 63).arrived + 2 ^ 27 ||
      ((s.capRing 63).blocks.get? ((b.1 - 2 ^ 27) / 64)).isSome) = false ∧
    (let s := ringWith { r with arrived := 64 };
      ((ringBlocks (s.capRing 63).crlim (aperture - aperture) 1 (List.replicate 64 0)).any fun b => b.1 < (s.capRing 63).arrived + 2 ^ 27 ||
        ((s.capRing 63).blocks.get? ((b.1 - 2 ^ 27) / 64)).isSome) = true) := by decide +kernel

theorem wit_CaptureWrites_accept :
    let u : CapUnit := ⟨0, 4096, [], 0, 0, 0, []⟩
    let s := ringWith { CapRing.reset with st := .armed, inflight := [(u, 7)] }
    s.csnReady 2 = true ∧ s.zone? u.entry = some (zoneOf .empty 0) ∧ s.capReady 7 (s.nsOwner 0) u.closes = true ∧
    ((ringWith { CapRing.reset with st := .armed, units := [u] }).capRing 63).inflight = [] := by decide +kernel

theorem wit_CaptureWrites_stall :
    let r : CapRing := { CapRing.reset with st := .armed, crlim := 2 ^ 20, arrived := 2 ^ 20 - 64 }
    let s := ringWith r
    (s.capRing 63).st = .armed ∧ (s.capRing 63).arrived < (s.capRing 63).crlim ∧ s.host.paused = false ∧ s.hld.flush = .none ∧
    ((ringWith { r with blocks := [(0, 0)], inRec := true }).capRing 63).blocks ≠ [] ∧ ((ringWith { r with inRec := true, truncated := true }).capRing 63).truncated = true ∧
    ((ringWith { r with inRec := true }).capRing 63).truncated = false ∧ ((ringWith { r with cur := [0] }).capRing 63).cur ≠ [] := by decide +kernel

theorem wit_CaptureRings :
    let s := (ringWith CapRing.reset).putFld F.CAP_CFG_WIN 63 0 1024
    rst.armCheck 63 = 9 ∧ s.armCheck 63 = 0 ∧ (s.putFld F.CAP_CFG_WIN 62 0 1).armCheck 63 = 0 ∧
    (let g := ((ringWith { CapRing.reset with st := .armed }).putFld F.CAP_CFG_WIN 63 0 1).withBpm { Bpm.reset with pools := [(5, ⟨[9], 10, 0⟩)] }
       let w := g.askBuffers (ownerRing 63) (.span 63) [5]
       g.spanOpen 63 = true ∧ g.bpm.waits.contains (spanRequest 63) = false ∧ w.topGranule 5 = some 9 ∧ w.nextRequest 5 = some (spanRequest 63)) ∧
    (let g := (ringWith { CapRing.reset with st := .armed }).putFld F.CAP_CFG_WIN 63 0 1
     (g.askBuffers (ownerRing 63) (.span 63) [5]).topGranule 5 = none) ∧
    s.csnReady 40 = true ∧ rst.pushCheck (rst.capRing 63) 1 0 = .error 5 ∧ s.csnReady 4 = true := by decide +kernel

theorem wit_CaptureRings_release :
    let r : CapRing := { CapRing.reset with st := .draining, release := 2 }
    let s := ringWith r
    (s.capRing 63).st = .draining ∧ (s.capRing 63).units = [] ∧ (s.capRing 63).inflight = [] ∧ s.csnReady 40 = true ∧ (s.capRing 63).ended = false ∧
    s.streamRoom (s.capRing 63) = true ∧ ((ringWith { r with ended := true }).capRing 63).ended = true ∧
    (ringWith { r with cut := true }).streamRoom ((ringWith { r with cut := true }).capRing 63) = false := by decide +kernel

/-- The board with its supplies, in a stage of start-up. -/
def atStage (n : Nat) : State := (rst.withBrd { Board.reset with vaux := true, iso := true, vin := true }).withBoot { Boot.reset with stage := n }

theorem wit_SuppliesAndStages : rst.brd.vaux = false ∧ (atStage 0).brd.vaux = true ∧ (atStage 0).brd.vin = true ∧
    (rst.withBrd { Board.reset with vaux := true }).brd.vin = false ∧ (rst.withBrd { Board.reset with vaux := true }).brd.iso = false ∧ (atStage 0).brd.iso = true ∧
    (atStage 0).boot.stage = 0 ∧ 1 ≤ (atStage 1).boot.stage ∧ (atStage 8).boot.stage ≤ 8 ∧ (atStage 6).linksTraining = false ∧ (atStage 1).endStage.2 = true ∧
    (atStage 4).endStage.2 = true ∧ (atStage 2).endStage.2 = true ∧ ((atStage 6).withLnk { Links.reset with links := [(0, { Link.reset with st := .training })] }).linksTraining = true ∧
    9 ≤ (atStage 9).boot.stage ∧ (atStage 1).boot.recov = false := by decide +kernel

theorem wit_SuppliesAndStages_no_image : ((atStage 3).withBoot { (atStage 3).boot with cfgA := none }).endStage.2 = false := by decide +kernel

theorem wit_BoardEvents : rst.tempLimits = (100, 105, 110) ∧ (rst.withSec { Vault.reset with gradeX := true }).tempLimits = (110, 115, 120) ∧
    (let s := rst.withBrd { Board.reset with temp := 110 }; (110 : Int) ≤ s.brd.temp ∧ s.brd.tripped = false) ∧ rst.brd.temp < 110 ∧
    (let s := rst.withBrd { Board.reset with temp := 94, tripped := true }; s.brd.tripped = true ∧ s.brd.temp < 105 - 10) ∧
    (rst.withBrd { Board.reset with dbgen := true }).brd.dbg2 = false ∧ rst.brd.dbgen = false ∧ 15 < 16 ∧ 1 ≤ (atStage 1).boot.stage ∧
    (rst.withBoot { Boot.reset with op := some ⟨1, 0, 0⟩ }).bankBusy 0 = true ∧ rst.bankBusy 0 = false ∧ rst.fwsMay (.core 0) = true ∧
    (rst.withBoot { Boot.reset with recov := true }).fwsMay .pf0 = true ∧ 0xB0 % 256 = 0xB0 := by decide +kernel

theorem wit_FirmwareStore : (2 ^ 31).testBit 31 = true ∧ bits (2 ^ 31) 30 28 = 0 ∧ bits (2 ^ 31 + 2 ^ 28) 30 28 = 1 ∧ bits (2 ^ 31 + 2 ^ 29) 30 28 = 2 ∧
    (let s := rst.withBoot { Boot.reset with op := some ⟨0, 0xFFFF00, 256⟩ }; s.boot.op = some ⟨0, 0xFFFF00, 256⟩ ∧ s.memWf = true ∧ 255 < 256) ∧
    (let s := rst.withBoot { Boot.reset with op := some ⟨1, 0x10000, 0⟩ }; s.boot.op = some ⟨1, 0x10000, 0⟩ ∧ s.memWf = true) := by decide +kernel

/-- A command of PF0's admin queue that may run, in a state. -/
theorem mayRun_of {s : State} {c : Cmd} {opc : Nat} (h : (s.cmd? c.ref == some c && c.phase == .ready && c.sqe.opc == opc && c.ref.qid == 0 && s.cqRoom c.ref) = true) :
    s.mayRun c.ref c true opc := by
  simp only [Bool.and_eq_true, beq_iff_eq] at h
  exact ⟨h.1.1.1.1, h.1.1.1.2, h.1.1.2, by simp [h.1.2], h.2⟩

/-- PF0's administrator command with an opcode and command dwords. -/
def adm (opc d10 d11 d12 d13 : Nat) : Cmd := cmdOf 0 (sqe opc d10 d11 d12 d13) .ready

/-- Every administrator command may run from a state in which it is the command in flight. -/
theorem wit_mayRun (opc d10 d11 d12 d13 : Nat) : (withCmds [adm opc d10 d11 d12 d13]).mayRun ⟨0, 0, 1⟩ (adm opc d10 d11 d12 d13) true opc :=
  ⟨rfl, rfl, rfl, rfl, rfl⟩

theorem wit_FirmwareCommands :
    slotSize < 4 * 0xFFFFFFFF + 4 * (0 + 1) ∧ 4 * (slotSize / 4 - 1) + 4 * (0 + 1) ≤ slotSize ∧ 4 * (2097152 / 4 - 1 + 1) ≤ 2097152 ∧ 2097152 < 4 * (2097152 / 4 + 1) ∧
    bits (4 * 8) 5 3 = 4 ∧ bits (1 * 8 + 2) 5 3 = 1 ∧ bits (1 * 8 + 2) 2 0 = 2 ∧ bits (1 * 8 + 3) 2 0 = 3 ∧ rst.boot.imageLen = 0 ∧ rst.boot.run ≠ 1 ∧
    rst.boot.act = none ∧ rst.boot.op = none ∧ rst.checkSlot 1 = .ok ⟨0, false, false, 0, 0⟩ ∧
    (let s := rst.withBoot { Boot.reset with imageLen := 4 }; (s.writeSlot 2).checkSlot 2 = .invalid) := by decide +kernel

theorem wit_FirmwareCommands_activation :
    let a (p : ActPhase) : Activation := ⟨⟨0, 0, 1⟩, 2, p, 0⟩
    let s (p : ActPhase) := (withCmds [adm 0x10 0 0 0 0]).withBoot { Boot.reset with act := some (a p) }
    (s .quiescing).boot.act = some (a .quiescing) ∧ (s .quiescing).coresIdle (a .quiescing) = true ∧ (s .loading).boot.act = some (a .loading) ∧
    (s .adopting).boot.act = some (a .adopting) := by decide +kernel

def aRec : EvRec := ⟨0x011, 1, 3, none, 0, 0, 4, none, none⟩

theorem wit_EventRecordsAndRings :
    takeFirst (fun e : EvRec => e.src == 0x011) [aRec] = some (aRec, []) ∧ aRec.tenant = none ∧ rst.ev.epoch < 0x3FFFF ∧ rst.ev.count < 2 ^ 30 ∧
    rst.passes 1 aRec = true ∧ (rst.ring 1).hold.length < holdSize ∧ holdSize ≤ (List.replicate holdSize (⟨0, 0, 0, 0, 0, 0⟩ : EvOut)).length ∧
    (∀ e ∈ [aRec], e.src ≠ 0x012) ∧
    (let s := (rst.putFld F.EVT_CFG_EN 1 0 1).withEv { Events.reset with ring1 := { EvRing.reset with hold := [⟨1, 0, 0, 0, 0, 0⟩] } };
      s.ringOpen 1 = true ∧ (s.ring 1).hold = ⟨1, 0, 0, 0, 0, 0⟩ :: []) ∧ rst.ringOpen 0 = false ∧
    F.EVT_CFG_VEC.inRange (64 * 65536 + 256 + 1) = true ∧ F.EVT_CFG_INTCNT.inRange (64 * 65536 + 256 + 1) = true ∧ F.EVT_CFG_INTAGE.inRange (64 * 65536 + 256 + 1) = true ∧
    (rst.putFld F.EVT_CFG_INTEN 1 0 1).flag F.EVT_CFG_INTEN 1 = true ∧ (rst.ring 0).unsig = 0 := by decide +kernel

/-- Ports up, functions as given. -/
def portsUp (fs : List (Nat × FnState)) : State :=
  rst.withHost { HostSide.reset with enabled := true, fns := fs, portA := ⟨false, true, true, 5, 16, true⟩ }

theorem wit_Controllers :
    let f := FnState.reset
    (portsUp []).reachable 0 = true ∧ ((portsUp []).fn 0).en = false ∧ isVf 0 = false ∧ isVf 1023 = true ∧
    (portsUp [(1, { f with vfe := true }), (1023, { f with online := true })]).reachable 1023 = true ∧ (portsUp [(1, { f with vfe := true })]).reachable 1023 = true ∧
    ((portsUp [(0, { f with en := true })]).fn 0).en = true ∧ ((portsUp [(0, { f with en := true, bme := true, vfe := true })]).fn 0).vfe = true ∧
    rst.reachable 0 = false ∧
    (let s := portsUp [(0, { f with en := true, shn := 1, shst := 1, shutFlush := some 0 })];
      ((s.shutdownFlush 0).fn 0).shutFlush = some 0 ∧ (s.shutdownFlush 0).flushDone 0 0xFFFFFFFF 0 ((s.shutdownFlush 0).openCloses 0 0xFFFFFFFF) = true) := by decide +kernel

theorem wit_Ports :
    rst.hasPort 0 = true ∧ (rst.withAo { AlwaysOn.reset with bifur := true }).hasPort 1 = true ∧ (rst.port 0).perst = true ∧ ((portsUp []).port 0).perst = false ∧
    (portsUp []).linkFits 6 16 = true ∧ (portsUp []).linkFits 1 1 = true ∧ (portsUp []).linkFits 7 16 = false ∧ ((portsUp []).port 0).up = true ∧ (rst.port 0).up = false ∧
    (let s := rst.withHost { HostSide.reset with portA := ⟨false, true, false, 0, 0, false⟩ }; (s.port 0).train = true ∧ (s.port 0).up = false) ∧
    (let q : Cq := ⟨64, 0, 0, true, true, 3, 1⟩; (rst.withHost { HostSide.reset with cqs := [(1, q)] }).cq? 0 1 = some q ∧ q.ien = true ∧ 0 < q.unsig) := by decide +kernel

/-! ### Witnesses: the front end, administration, tenants and management -/

theorem wit_StepKeepsMemoryForm : rst.memWf = true ∧ ((rst.withDrm { Dram.reset with mem := [(0, 1), (2 ^ 36 - 1, 255)] }).memWf = true) := by decide +kernel

theorem wit_StepKeepsOrder : (rst.withPending [.journalPageTimer, .rebuildRow]).pending.tail = [.rebuildRow] ∧ rst.pending = [] ∧
    (rst.withBrd { Board.reset with vaux := true }).brd.vaux = true ∧ rst.brd.vaux = false := by decide +kernel

theorem wit_CompletionEndsACommand :
    let c := cmdOf 1 (sqe 0x01 0 0 0 0) .accepted
    let q := Sq.new 1 64 0 0
    let s := rst.withHost { HostSide.reset with enabled := true, portA := ⟨false, true, true, 5, 16, true⟩, fns := [(0, { FnState.reset with en := true, bme := true })]
                                                sqs := [(1, q)], cqs := [(1, Cq.new 64 true 1)], cmds := [c] }
    c.tunnel = false ∧ s.sq? 0 1 = some q ∧ s.cq? 0 q.cqid = some (Cq.new 64 true 1) ∧ s.fnLive 0 = true ∧ eligible 0 0x06 = false ∧
    ({ c with tunnel := true } : Cmd).tunnel = true := by decide +kernel

def lockOf (cid lo hi : Nat) (excl : Bool) : LockEntry := ⟨⟨0, 1, cid⟩, 0, lo, hi, excl, false, 0⟩

theorem wit_LocksAreGrantedInOrder :
    let c : Cmd := cmdOf 1 (sqe 0x01 0 0 0 0) .lockWait
    let s (l : List LockEntry) := (withCmds [c]).withCol { Colander.reset with table := l }
    (s []).cmd? r1 = some c ∧ c.phase = .lockWait ∧
    (∃ e ∈ (s [lockOf 9 0 8 true, lockOf 1 8 15 false]).col.table.takeWhile (fun e => e.ref != r1),
      ∃ m ∈ (s [lockOf 9 0 8 true, lockOf 1 8 15 false]).col.table, m.ref = r1 ∧ conflict e m = true) ∧
    (∀ e ∈ (s [lockOf 9 0 7 true, lockOf 1 8 15 true]).col.table.takeWhile (fun e => e.ref != r1),
      ∀ m ∈ (s [lockOf 9 0 7 true, lockOf 1 8 15 true]).col.table, m.ref = r1 → conflict e m = false) ∧
    conflict (lockOf 9 0 8 false) (lockOf 1 8 15 false) = false := by decide +kernel

/-- PF0 enabled on port 0 with its admin queue and an I/O queue, the window locked. -/
def live (l : List Sqe) (cs : List Cmd) : State :=
  (((rst.withHost { HostSide.reset with enabled := true, portA := ⟨false, true, true, 5, 16, true⟩, fns := [(0, { FnState.reset with en := true, bme := true })]
                                        sqs := [(0, Sq.new 0 64 0 0), (1, { Sq.new 1 64 0 0 with entries := l, tail := l.length })]
                                        cqs := [(0, Cq.new 64 true 0), (1, Cq.new 64 true 1)], cmds := cs }).withWin
    { Window.reset with locked := true }).withZon { Zones.reset with ns := [(0, nsOf .placement)] }).putFld F.BPM_CTL_NOM 0 0 0

theorem wit_FrontEnd :
    let s := live [sqe 0x02 0 0 0 0] []
    (live [] []).sq? 0 1 = some (Sq.new 1 64 0 0) ∧ 63 < (Sq.new 1 64 0 0).size ∧ 63 = ((Sq.new 1 64 0 0).tail + (List.replicate 63 (sqe 0x02 0 0 0 0)).length) % 64 ∧
    (Sq.new 1 64 0 0).entries.length + 63 < 64 ∧ s.cq? 0 1 = some (Cq.new 64 true 1) ∧ (0 + 64 - 0) % 64 ≤ ((Cq.new 64 true 1).tail + 64 - 0) % 64 ∧ (s.fn 0).aev = [] ∧
    (s.sq? 0 1).map (·.entries) = some (sqe 0x02 0 0 0 0 :: []) ∧ s.mayFetch 0 = true ∧ s.formatWaits 0 1 (sqe 0x02 0 0 0 0) = false ∧ s.cqRoom ⟨0, 1, 1⟩ = true ∧ s.cmd? ⟨0, 1, 1⟩ = none ∧
    s.fetchStatus 0 1 (sqe 0x02 0 0 0 0) false = .nsNotReady ∧ s.fetchStatus 0 0 (sqe 0x06 0 0 0 0) false = .success := by decide +kernel

theorem wit_FrontEnd_admission :
    let c := cmdOf 1 (sqe 0x02 0 0 0 0) .admission
    let s := ((((live [] [c]).putFld F.SCH_TN_CFG_RDEPTH 0 0 16).putFld F.SCH_TN_CFG_WT 0 0 16).putFld F.SCH_TN_RCAP_BW 0 0 65535).putFld F.SCH_TN_RCAP_IOPS 0 0 65535
    s.cmd? r1 = some c ∧ s.cmdCharge c = some (0, 4096) ∧ s.firstAwaiting 0 0 = some r1 ∧ s.servedNext 0 = some 0 ∧
    s.amberAdvance.amberOpen 0 (xferBytes c.sqe 1) = true := by decide +kernel

theorem wit_FrontEnd_locks :
    let c := cmdOf 1 (sqe 0x02 0 0 0 0) .held
    let s := live [] [c]
    s.cmdLocks c = some (false, [(0, 0, 0)]) ∧ (s.putFld F.RLK_CFG_FN_CAP 0 0 256).lockFits 0 1 = true ∧ s.heldBefore r1 = false ∧
    ((s.putFld F.RLK_CFG_FN_CAP 0 0 256).withCol { Colander.reset with table := (List.range 256).map fun i => lockOf i 0 0 false }).lockFits 0 1 = false ∧
    s.cmdLocks (cmdOf 0 (sqe 0x06 0 0 0 0) .ready) = none := by decide +kernel

theorem wit_QueueCommands :
    let s := live [] []
    1 ≤ s.ioQueues 0 ∧ s.ioQueues 0 < 65535 ∧ (s.sq? 0 1).isSome = true ∧ s.sq? 0 2 = none ∧ queueSizeOk 0 = false ∧ queueSizeOk 1 = true ∧ queueSizeOk 4095 = true ∧
    queueSizeOk 4096 = false ∧ s.cq? 0 2 = none ∧ (s.cq? 0 1).isSome = true ∧ s.vectorUsed 0 1 = true ∧ s.vectorUsed 0 2 = false ∧ 2 ≤ s.ioVectors 0 ∧
    (3 : Nat).testBit 1 = true ∧ (1 : Nat).testBit 0 = true ∧ (∃ e ∈ s.host.sqs, e.1 / 65536 = 0 ∧ e.2.cqid = 1) ∧ (∀ e ∈ s.host.sqs, ¬ (e.1 / 65536 = 0 ∧ e.2.cqid = 2)) ∧
    (∃ d ∈ (live [] [cmdOf 1 (sqe 0x02 0 0 0 0) .ready]).host.cmds, d.ref.fn = 0 ∧ d.ref.qid = 1) := by decide +kernel

theorem wit_FeaturesAndEvents :
    featSupported.contains 0x01 = true ∧ featSupported.contains 0x0B = true ∧ featSupported.contains 0x80 = false ∧ featSupported.contains 0xC0 = true ∧
    (2 ^ 31).testBit 31 = true ∧ featValue (sqe 0x09 0xC0 1 0 0) = .ok 1 ∧ featValue (sqe 0x09 0x02 1 0 0) = .error .invalidField ∧
    featValue (sqe 0x09 0x07 0 0 0) = .ok 0 ∧ featValue (sqe 0x09 0x07 65535 0 0) = .error .invalidField ∧ rst.ioVectors 0 < 65535 ∧
    bits (4 * 256 + 1) 10 8 = 4 ∧ bits (3 * 256 + 1) 10 8 = 3 ∧ 0 < aerMax ∧
    rst.identifyData 0 (sqe 0x06 0xFF 0 0 0) = .error .invalidField ∧ (rst.identifyData 0 { sqe 0x06 0x02 0 0 0 with nsid := 0 }).toOption.isSome = true ∧
    rst.logPage 0 (sqe 0x02 0x0F 0 0 0) = .error .invalidLogPage ∧ (sqe 0x02 0x81 0 0 0).logLen ≤ maxTransfer ∧ (sqe 0x02 0x81 0 0 0).lpo % 4 = 0 ∧
    (sqe 0x02 0x81 0 1 0).lid ≠ 0xC6 ∧ (sqe 0x02 0x81 0 1 0).lpo % 4 ≠ 0 ∧ maxTransfer < (sqe 0x02 (65535 * 65536 + 0x81) 65535 0 0).logLen ∧
    (rst.logPage 0 (sqe 0x02 0x81 0 0 0)).toOption.isSome = true := by decide +kernel

theorem wit_HostReads :
    let c (p : Phase) := cmdOf 1 (sqe 0x05 0 0 0 0) p
    let s (z : Zone) (p : Phase) := withNs (nsOf .zoned) z [c p]
    (s (zoneOf .full 8) .data).cmd? r1 = some (c .data) ∧ (s (zoneOf .full 8) .data).nsAt 0 = some (nsOf .zoned) ∧ (c .data).blocks ≠ (c .data).nlb ∧
    (s (zoneOf .full 8) .data).touchesOffline (nsOf .zoned) (c .data).lba (c .data).nlb = false ∧ (s (zoneOf .offline 8) .data).touchesOffline (nsOf .zoned) (c .data).lba (c .data).nlb = true ∧
    (s (zoneOf .empty 0) .data).findBlock 0 (nsOf .zoned) 0 = .zero ∧
    (s { zoneOf .full 8 with unread := [(0, 1)] } .data).findBlock 0 (nsOf .zoned) 0 = .bad ∧
    ({ c .reading with blocks := 1 } : Cmd).blocks = ({ c .reading with blocks := 1 } : Cmd).nlb ∧ PiCheck.ref ≠ .ok ∧
    ({ c .reading with status := .unrecoveredRead } : Cmd).status ≠ .success ∧ (c .reading).sqe.opc ≠ 0x02 ∧ (s (zoneOf .full 8) .reading).cqRoom r1 = true ∧
    (s (zoneOf .full 8) .reading).hld.flush = .none := by decide +kernel

theorem wit_ReportsOfZonesAndBlocks :
    bits 0x800 15 8 = 8 ∧ bits 0x700 15 8 = 7 ∧ bits 0x01 7 0 ≠ 0 ∧ (2 ^ 16 : Nat).testBit 16 = true ∧ (zoneOf .full 8).zs = .full ∧ (zoneOf .full 8).zcap < 2 ^ 64 ∧
    (withNs (nsOf .placement) (zoneOf .full 8) []).nsAt 0 = some (nsOf .placement) ∧ (nsOf .placement).nsze ≤ 524288 ∧ 524287 < (nsOf .placement).nsze ∧
    (rst.dramUnit 0 0).isSome = false ∧ rst.zon.map.get? (lbaKey 0 0) = none ∧
    (((withNs (nsOf .placement) (zoneOf .full 8) []).withStr { Stripes.reset with dram := [(14, ⟨7, 0, 0, 0, 0, 0, 0, false, false, true, false, false, false, none, none, none, [], none⟩)] }).dramUnit 0 0).isSome = true := by
  decide +kernel

/-- PF0 with a die set of one die in each of 18 packages. -/
def withDies (s : State) : State :=
  (List.range 18).foldl (fun s p => s.putFld F.ZON_DS_MAP_DIES 0 (2 * p) 1) (s.putFld F.ZON_TN_DS_VALID 0 0 1)

theorem wit_NamespaceManagement :
    let c (op : Nat) (p : Phase) := cmdOf 0 (sqe 0x0D op 0 0 0) p
    let s (p : Phase) := withNs (nsOf .zoned) (zoneOf .full 8) [c 1 p]
    (s .ready).cmd? ⟨0, 0, 1⟩ = some (c 1 .ready) ∧ (s .ready).cqRoom ⟨0, 0, 1⟩ = true ∧ (s .ready).manyCsns = true ∧
    (s .ready).planNamespace (c 2 .ready) = .error .invalidField ∧ ((s .ready).planNamespace (c 1 .ready)).toOption.isSome = true ∧
    ((s .background).withSec { Vault.reset with writes := 1 }).sec.writes = 1 ∧ (s .background).eraseWaits (c 1 .background) = false ∧
    (withTxn 1 0).win.txn.state ≠ 0 ∧ (s .ready).nsOf? 1 = some (0, nsOf .zoned) ∧ mayErase 0 0 = true ∧ mayErase 1 0 = false ∧ mayErase 0 512 = true ∧
    (s .ready).ringBound 0 = false ∧ ((withNs (nsOf .zoned) { zoneOf .empty 0 with ring := some 3 } []).ringBound 0 = true) ∧
    (s .ready).nsOf? 2 = none ∧ (s .ready).attachStatus 0 (nsOf .zoned) false [0] = .nsAlreadyAttached ∧ (s .ready).attachStatus 0 (nsOf .zoned) true [0] = .success ∧
    (s .ready).attachStatus 0 { nsOf .zoned with attached := [] } false [0] = .success := by decide +kernel

theorem wit_NamespaceManagement_create :
    let s := withDies (withCmds [])
    (s.create 0 2 (toBytes 8 262144 ++ toBytes 8 262144)).toOption.isSome = true ∧ (s.create 0 0 (toBytes 8 256 ++ toBytes 8 256)).toOption.isSome = true := by decide +kernel

theorem wit_FormatAndSanitize :
    let c (d : Nat) (p : Phase) := cmdOf 0 (sqe 0x80 d 0 0 0) p
    let z (d : Nat) (p : Phase) := cmdOf 0 (sqe 0x84 d 0 0 0) p
    let s (x : Cmd) := withNs (nsOf .zoned) (zoneOf .full 8) [x]
    (s (c 0 .ready)).cmd? ⟨0, 0, 1⟩ = some (c 0 .ready) ∧ ((s (c 0 .ready)).planFormat (c 0 .ready)).toOption.isSome = true ∧
    (s (c 0 .ready)).planFormat (c (3 * 512) .ready) = .error .invalidField ∧ (s (c 0 .ready)).planFormat (c 4 .ready) = .error .invalidFormat ∧
    bits (2 * 512) 11 9 = 2 ∧ formatOk 3 3 0 = true ∧ formatOk 0 1 0 = false ∧ ((s (c 0 .ready)).reformat 0 0 0 false (nsOf .zoned)).isSome = true ∧
    ((s (c 0 .ready)).reformat 0 3 0 false (nsOf .placement)).isSome = false ∧ (s (c 0 .background)).eraseWaits (c 0 .background) = false ∧
    (withNs (nsOf .zoned) (zoneOf .full 8) [c 0 .background, cmdOf 1 (sqe 0x02 0 0 0 0) .reading]).eraseWaits (c 0 .background) = true ∧
    (z 4 .ready).sqe.cdw10 % 8 = 4 ∧ (s (z 4 .ready)).sanitizing 0 = false ∧ (∀ x ∈ (s (z 4 .ready)).sanitized 0, (s (z 4 .ready)).ringBound x.1 = false) ∧
    (∃ x ∈ (withNs (nsOf .zoned) { zoneOf .empty 0 with ring := some 3 } []).sanitized 0,
      (withNs (nsOf .zoned) { zoneOf .empty 0 with ring := some 3 } []).ringBound x.1 = true) ∧ (s (z 4 .ready)).manyCsns = true := by decide +kernel

theorem wit_FormatAndSanitize_running :
    let f := { FnState.reset with sanState := 2, sanBlocks := [40] }
    ((rst.withHost { HostSide.reset with fns := [(0, f)] }).withMed { Media.reset with erq := [(0, 40)], bit := [(40, ⟨0, .eraseQueue, false, false, false, 0, 0, 0, 0, 0, 0, 0⟩)] }).sanitizing 0 = true := by decide +kernel

theorem wit_SelfTestsDirectivesAndResources :
    let s := withNs (nsOf .placement) (zoneOf .full 8) []
    (rst.fn 0).dst = 0 ∧ ((rst.withHost { HostSide.reset with fns := [(0, { FnState.reset with dst := 2 })] }).fn 0).dst ≠ 0 ∧ s.visible 0 1 false = some (0, nsOf .placement) ∧
    s.visible 1 1 false = none ∧ bits 0x0001 7 0 = 1 ∧ bits 0x0200 15 8 = 2 ∧ 4 * (maxTransfer / 4 - 1 + 1) ≤ maxTransfer ∧ maxTransfer < 4 * (maxTransfer / 4 + 1) ∧
    isVf 512 = true ∧ pfOf 512 = 0 ∧ isVf 513 = true ∧ pfOf 513 = 1 ∧ overLimit 2 true 65535 = true ∧ overLimit 2 true 1 = false ∧ (rst.fn 2).online = false ∧
    (let f := { FnState.reset with vq := 1, vi := 1 }; f.vq ≠ 0 ∧ f.vi ≠ 0) := by decide +kernel

theorem wit_SelfTestsDirectivesAndResources_assign : (rst.assignFlex 2 true 0).isSome = true := by
  unfold State.assignFlex
  rw [if_pos (by rw [show rst.flexUsed (pfOf 2) true - rst.flexOf 2 true + 0 = 0 from by decide +kernel]; exact Nat.zero_le _)]
  rfl

/-- An envelope of tenant 0 around a Namespace Management command, with its tag under a key of ones. -/
def sealedText (counter : Nat) : List Byte :=
  [0x0D] ++ List.replicate 63 0 ++ toBytes 8 counter ++ toBytes 4 64 ++ List.replicate 68 0

def sealedSqe (counter : Nat) : Sqe :=
  { sqe 0xC4 160 0 0 0 with data := sealedText counter ++ (cmac (List.replicate 32 1) (octetsOf (sealedText counter))).map (BitVec.ofNat 8) }

def sealer (claimed : Bool) (counter : Nat) (c : Cmd) : State :=
  (withCmds [c]).withSec { Vault.reset with tenants := [(0, { TenantSec.fresh 0 with claimed := claimed, sk := List.replicate 32 1, counter := counter })] }

theorem wit_SealedCommands :
    let c := cmdOf 0 (sealedSqe 9) .ready
    let x := envelopeOf c.sqe
    let s := sealer true 8 c
    s.cmd? ⟨0, 0, 1⟩ = some c ∧ s.cqRoom ⟨0, 0, 1⟩ = true ∧ (s.tsec 0).env = none ∧ s.sec.mbBusy = false ∧ x.wellFormed c.sqe.cdw10 = true ∧ x.counter = 9 ∧
    (s.host.cmds.find? fun x => x.ref.fn == 0 && x.ref.qid == 0 && x.sqe.opc == 0xC4 && x.phase == .ready) = some c ∧
    (s.tsec 0).claimed = true ∧ (s.tsec 0).releasing = false ∧ (s.tsec 0).counter < x.counter ∧ x.counter ≤ ((sealer true 9 c).tsec 0).counter ∧
    ((sealer false 0 c).tsec 0).claimed = false ∧ s.innerPermitted 0 x = true := by decide +kernel

theorem wit_SealedCommands_tag : (sealer true 8 (cmdOf 0 (sealedSqe 9) .ready)).sealCheck 0 160 (envelopeOf (sealedSqe 9)) = .success := by decide +kernel

theorem wit_SealedCommands_refused :
    (sealer true 9 (cmdOf 0 (sealedSqe 9) .ready)).sealCheck 0 160 (envelopeOf (sealedSqe 9)) = .sealCounter ∧
    (sealer true 8 (cmdOf 0 (sealedSqe 9) .ready)).sealCheck 0 160 (envelopeOf { sealedSqe 9 with data := sealedText 9 }) = .sealAuthFailed ∧
    (sealer true 8 (cmdOf 0 (sealedSqe 9) .ready)).sealCheck 0 161 (envelopeOf (sealedSqe 9)) = .invalidField := by decide +kernel

theorem wit_SealedCommands_durable :
    let c := cmdOf 0 (sealedSqe 9) .sealing
    let e : Envelope := ⟨⟨0, 0, 1⟩, sqe 0x06 0 0 0 0, false, false⟩
    let s := (withCmds [c]).withSec { Vault.reset with tenants := [(0, { TenantSec.fresh 0 with env := some e })] }
    (s.tsec 0).env = some e ∧ s.cmd? e.ref = some c ∧ e.durable = false ∧ s.cqRoom e.ref = true ∧ s.sec.writes = 0 ∧
    (rst.fld F.SEC_MB_DATA_DATA 0 % 65536 < 1024) ∧ ((rst.putFld F.SEC_MB_DATA_DATA 0 0 1024).fld F.SEC_MB_DATA_DATA 0 % 65536 = 1024) := by decide +kernel

theorem wit_TenantPoliciesAndTheVaultStore :
    let c (t d11 : Nat) := cmdOf 0 { sqe 0xC5 t d11 0 0 with data := [1, 0] ++ toBytes 2 t ++ List.replicate 60 0 } .ready
    governs 0 2 = true ∧ governs 0 513 = false ∧ (withTxn 1 0).win.txn.state ≠ 0 ∧ (c 513 0).sqe.cdw10 % 1024 = 513 ∧ (c 2 1).sqe.cdw11.testBit 0 = true ∧
    (c 2 0).sqe.cdw11.testBit 0 = false ∧ (withCmds []).planPolicy (c 513 0) = .error .tenantScope ∧ (∀ x ∈ rst.owned 2, rst.ringBound x.1 = false) ∧
    (∃ x ∈ (withNs { nsOf .zoned with owner := 2 } { zoneOf .empty 0 with ring := some 3 } []).owned 2,
      (withNs { nsOf .zoned with owner := 2 } { zoneOf .empty 0 with ring := some 3 } []).ringBound x.1 = true) ∧
    rst.sec.writes = 0 ∧ rst.sec.mbBusy = false ∧ policySections 0 2 = some (true, false) ∧ policySections 0 0 = some (true, true) ∧ policySections 2 2 = some (false, true) := by
  decide +kernel

theorem wit_TenantPoliciesAndTheVaultStore_set :
    let c := cmdOf 0 { sqe 0xC5 0 0 0 0 with data := [0, 0, 0, 0, 1, 16, 0, 0, 1] ++ List.replicate 55 0 } .ready
    ((withCmds [c]).planPolicy c).toOption.isSome = true := by decide +kernel

theorem wit_KeyExchange :
    let d (p q : Nat) := p * 2 ^ 24 + q * 2 ^ 8
    secp (sqe 0x82 (d 0 0) 0 0 0) = 0 ∧ spsp (sqe 0x82 (d 0 0) 0 0 0) = 0 ∧ secp (sqe 0x82 (d 0xF0 3) 0 0 0) = 0xF0 ∧ spsp (sqe 0x82 (d 0xF0 3) 0 0 0) = 3 ∧
    spsp (sqe 0x81 (d 0xF0 0x10) 0 0 0) = 0x10 ∧ spsp (sqe 0x81 (d 0xF0 0x12) 0 0 0) = 0x12 ∧ (rst.tsec 0).nonce = none ∧ (rst.tsec 0).offer = none ∧
    (cmdOf 0 (sqe 0x81 (d 0xF0 0x10) 216 0 0) .ready).sqe.cdw11 = 216 ∧ (cmdOf 0 (sqe 0x81 (d 0xF0 0x10) 215 0 0) .ready).sqe.cdw11 ≠ 216 ∧
    rst.openBlob 0 [] = .error .invalidField ∧ (rst.tsec 0).claimed = false ∧ (rst.tsec 0).locked = false ∧
    (let s := rst.withSec { Vault.reset with tenants := [(0, { TenantSec.fresh 0 with nonce := some (List.replicate 32 0), locked := true, claimed := true })] };
      (s.tsec 0).nonce = some (List.replicate 32 0) ∧ (s.tsec 0).locked = true ∧ (s.tsec 0).claimed = true) := by decide +kernel

/-- The vault has loaded its store, and PF0 has a responder. -/
def responder (r : Responder) : State := (portsUp []).withSec { Vault.reset with st := 1, resp0 := r }

theorem wit_SpdmAndIde :
    let y : Session := ⟨0x10000, 2, 0, 0⟩
    let m : SpdmMsg := { code := 0xE5, param1 := 0, param2 := 0, body := toBytes 4 0x10000 }
    rst.reachable 0 = false ∧ (responder Responder.reset).reachable 0 = true ∧ (responder Responder.reset).sec.st ≠ 0 ∧ ((responder ⟨2, []⟩).resp 0).stage = 2 ∧
    ((responder ⟨3, [y, y]⟩).resp 0).sessions.length = 2 ∧ (responder ⟨3, [{ y with phase := 1 }]⟩).sessionOf 0 m 1 = some { y with phase := 1 } ∧
    (responder ⟨3, [y]⟩).sessionOf 0 m 1 = none ∧ (responder ⟨3, [y]⟩).sessionOf 0 m 2 = some y ∧ (∃ z ∈ ((responder ⟨3, [y]⟩).resp 0).sessions, z.phase = 2) ∧
    (⟨2, [(0, []), (1, [])], 0⟩ : IdeStream).complete 0 = true ∧ (⟨0, [(0, [])], 0⟩ : IdeStream).complete 0 = false ∧ 8 ≤ 8 ∧
    (0x7F : Nat) ∉ [0x84, 0xE1, 0xE3, 0x81, 0x82, 0x83, 0xE0, 0xE4, 0xE5, 0xE8, 0xE9, 0xEC] := by decide +kernel

theorem wit_ManagementCommands :
    (rst.withMgt { Mgmt.reset with paused := true }).mgt.paused = true ∧ rst.mgt.paused = false ∧ rst.brd.mgmtSel = false ∧ 64 ≤ 4224 ∧ 4224 < 4225 ∧
    vpdSize - 1 + 1 ≤ vpdSize ∧ vpdSize < vpdSize + 1 ∧ (7 : Nat) % 256 = 7 ∧ bits 0 31 24 = 0 := by decide +kernel

theorem wit_ManagementEndpoint :
    (254 : Nat) ≠ 0 ∧ (254 : Nat) ≠ 255 ∧ ofBytes (([0, 254] : List Byte).drop 1 |>.take 1) = 254 ∧ (6 : Nat) ∉ [1, 2, 3, 4, 5, 0x100, 0x101] ∧
    (rst.withBrd { Board.reset with mgmtSel := true }).brd.mgmtSel = true ∧ 127 < 128 ∧ rst.mgt.addr = none ∧ rst.host.enabled = false ∧
    (portsUp []).host.enabled = true ∧ (portsUp []).host.paused = false ∧ (portsUp []).hld.flush = .none ∧ (portsUp []).cmd? ⟨0, 0, tunnelCid + 1⟩ = none ∧
    tunnelled.contains 0x06 = true ∧ tunnelled.contains 0x05 = false ∧ (portsUp []).fetchStatus 0 0 (sqe 0x06 0 0 0 0) false = .success ∧
    (portsUp []).fetchStatus 1 0 (sqe 0xFF 0 0 0 0) false ≠ .success ∧ (withTxn 1 3).win.txn.owner = 3 ∧ (withTxn 3 0).win.txn.state = 3 ∧ (withTxn 4 0).win.txn.state = 4 := by
  decide +kernel

theorem wit_RegisterLocations :
    locate (RegRef.off ⟨.RLK_CFG, 0, 0⟩) = some (⟨.RLK_CFG, 0, 0⟩, false) ∧ locate (RegRef.off ⟨.BPM_TN_RSV, 1023, 0⟩) = some (⟨.BPM_TN_RSV, 1023, 0⟩, false) ∧
    RegName.BPM_TN_RSV.place.s1 ≠ 0 ∧ 1023 < RegName.BPM_TN_RSV.place.n1 ∧ RegName.EVT_BASE.place.wide = true ∧
    locate (RegRef.off ⟨.EVT_BASE, 1, 0⟩ + 4) = some (⟨.EVT_BASE, 1, 0⟩, true) ∧ locate (2 ^ 26 - 4) = none := by decide +kernel

theorem wit_UnitSlotsOfABlock :
    let n := rst.groupUnits 0 0
    15 < 16 ∧ 64 * (n.take 15).sum ≤ 64 * (n.take 15).sum ∧ 64 * (n.take 15).sum < 64 * (n.take 16).sum ∧ rst.unitCount 0 0 ≤ rst.unitCount 0 0 := by decide +kernel

theorem wit_FusesOnlyBurn : (rst.checkSlot 1).info? = some ⟨0, false, false, 0, 0⟩ ∧ (rst.withSec { Vault.reset with krevoked := 2 }).sec.krevoked.testBit 1 = true := by
  decide +kernel

/-! ### Witnesses: more clauses -/

theorem wit_TransactionCommands_forms :
    rst.regAt 0x51010 = some (⟨.CAP_CRPUSH, 0, 0⟩, false) ∧ 0x51010 % 8 = 0 ∧ RegName.CAP_CRPUSH.place.wide = true ∧ RegName.CAP_CRPUSH.maskOf (· == .tx) ≠ 0 ∧
    outOfRange .CAP_CRPUSH (2 ^ 64 - 1) = false ∧ rst.regAt 0x100000 = some (⟨.LNK_CTL, 0, 0⟩, false) ∧ RegName.LNK_CTL.maskOf (· == .tx) ≠ 0 ∧
    RegName.LNK_CTL.place.wide = false := by decide +kernel

theorem wit_VinAndFlush_stripes :
    let i : Image := ⟨1, 1, 0, 0, 0, [], [], [], List.range 18, 0, false, 0⟩
    18 ≤ i.pkgs.length ∧ i.pkgs.Nodup ∧ 0 < 18 ∧ 17 < 18 ∧ 0 ≠ 17 := by decide +kernel

theorem wit_JournalAndCredit_record :
    let s := rst.withJnl { Journal.reset with pages := [⟨1, 0, 1, false⟩], okA := true, okB := true, recs := [⟨0, 0, 0, .ceiling, true, false, some 1, none⟩] }
    s.copiesReady = true ∧ s.goneRecord 1 1 (s.jnl.recs.filter fun r => r.page == some 1) = none ∧ rst.copiesReady = false ∧
    rst.granted 137 = false ∧ rst.ckFull = false ∧ (CreditWho.write r1).isWrite = true ∧ (CreditWho.record 3).isWrite = false := by decide +kernel

theorem wit_JournalAndCredit_checkpoint :
    ((rst.withMed { Media.reset with ck1 := { Ckpt.reset with active := true } }).putFld F.ZON_CKPT_CKBUF 0 0 0).ckFull = true := by
  have h : ((rst.withMed { Media.reset with ck1 := { Ckpt.reset with active := true } }).putFld F.ZON_CKPT_CKBUF 0 0 0).fld F.ZON_CKPT_CKBUF = 0 := by decide +kernel
  unfold State.ckFull State.ckCopied
  rw [h, Nat.mul_zero, Nat.zero_add, Nat.mod_one]
  rfl

theorem wit_ZonedWrites_queue :
    let c := cmdOf 1 (sqe 0x01 0 0 0 0) .ready
    let w : Cmd := { cmdOf 1 (sqe 0x01 0 0 0 0) .zoneWait with ref := ⟨0, 1, 9⟩ }
    (withNs (nsOf .zoned) (zoneOf .implicitOpen 4) [w, c]).zoneQueued c = true ∧ (withNs (nsOf .zoned) (zoneOf .implicitOpen 4) [c]).zoneQueued c = false := by decide +kernel

theorem wit_WriteCommands_masked : masked 2 [0, 1, 2] = [1] ∧ masked 2 [0] = ([] : List Nat) ∧ masked 0 [0] = ([] : List Nat) := by decide +kernel

theorem wit_LostMembers_share :
    let b : Rebuild := ⟨0, 3, 40, 41, 1, 0, []⟩
    (withSet.putFld F.STR_RBCFG_RBSHARE 0 0 10).rebuildMay b aSet = true ∧ withSet.hld.flush = .none ∧ withSet.logHeld = false ∧
    ((withSet.putFld F.STR_RBCFG_RBSHARE 0 0 10).withSch { Sched.reset with dies := (List.range 18).map fun d => (d, { SDie.reset 0 with rebuildNs := 2 ^ 40 }) }).rebuildMay b aSet = false := by
  decide +kernel

theorem wit_DieScheduling_heads :
    let d := SDie.reset 0
    (dieWith { d with q1 := [aReq (.readHard 1) 1] }).headOf 0 1 = some (aReq (.readHard 1) 1) ∧ (dieWith d).headOf 0 1 = none ∧
    (dieWith d).bgAllowed 0 (aReq (.readHard 1) 2) = true ∧ ((dieWith { d with maintNs := 2 ^ 40 }).bgAllowed 0 { aReq (.readHard 1) 2 with maint := true }) = false ∧
    (dieWith { d with q1 := [{ aReq (.readHard 1) 1 with maint := true }], maintNs := 2 ^ 40 }).headOf 0 1 = none := by decide +kernel

theorem wit_DramReadsBackWrites_queue :
    let s := (aChan { Chan.reset with trained := true }).putFld F.DRM_CH_WQ_HIWM 0 0 48
    let x := (s.chan (s.dramPlace 0).ch).sub (s.dramPlace 0).sub
    let y := (aChan { Chan.reset with trained := true, sub0 := { SubChan.reset with draining := true } })
    let z := (y.chan (y.dramPlace 0).ch).sub (y.dramPlace 0).sub
    x.rq = [] ∧ x.draining = false ∧ x.wq.length + 1 < s.fld F.DRM_CH_WQ_HIWM (s.dramPlace 0).ch ∧ z.rq.length < 64 ∧ z.draining = true ∧ y.dramLive 0 = true ∧
    (0 : Nat) ∉ rst.drm.bad ∧ s.correctable (s.dramPlace 0).ch (s.dramPlace 0).sub (s.symErrs ⟨[], 0⟩) = true ∧
    s.correctable (s.dramPlace 0).ch (s.dramPlace 0).sub (s.symErrs ⟨[(0, 2 ^ 64 - 1), (1, 1)], 0⟩) = false := by decide +kernel

theorem wit_DramCommands_refresh :
    let s := (aChan { Chan.reset with trained := true, sub0 := { SubChan.reset with rq := [⟨0, ⟨[], 0⟩, 0⟩] } }).putFld F.DRM_CH_REF_PPMAX 0 0 8
    s.readsOf 0 0 0 = true ∧ ((s.chan 0).sub 0).postponed.getD 0 0 + 1 < s.fld F.DRM_CH_REF_PPMAX 0 ∧ s.drm.flushRefresh = false ∧
    (aChan { Chan.reset with trained := true }).readsOf 0 0 0 = false ∧ outOfRange .DRM_TRN_CTL 0 = false ∧ outOfRange .DRM_TRN_CTL (2 ^ 31) = false ∧
    outOfRange .DRM_TRN_CTL (2 ^ 31 - 1) = true ∧ outOfRange .DRM_TRN_DLY (2 ^ 31) = false ∧ outOfRange .DRM_TRN_DLY (2 ^ 31 + 7 * 2 ^ 28) = true := by decide +kernel

theorem wit_CalibrationAndEngines_reads : rst.sampleReads (bandKey 0 0 0 0) = 4 ∧
    (rst.withDdk { Didrinak.reset with samples := [(bandKey 0 0 0 0, 3)] }).sampleReads (bandKey 0 0 0 0) = 7 := by decide +kernel

theorem wit_EventRecordsAndRings_causes :
    let a : EvRec := ⟨0x011, 1, 3, none, 0, 0, 4, none, none⟩
    (rst.withEv { Events.reset with pend := [a] }).ev.causesOf 0x011 = [] ∧ (rst.ringCause 0 false = some 1) ∧
    ((portsUp [(0, { FnState.reset with en := true, bme := true })]).ringCause 0 false = none) ∧ ((portsUp [(0, { FnState.reset with en := true, bme := true })]).ringCause 0 true = some 3) ∧
    ((rst.withHost { HostSide.reset with fns := [(0, { FnState.reset with bme := true })] }).ringCause 0 false = some 2) := by decide +kernel

theorem wit_HostReads_lost :
    let n : Ns := { nsOf .placement with lbaf := 3, comp := some 1 }
    let c : Cmd := { cmdOf 1 (sqe 0x02 0 0 0 0) .reading with blocks := 1, bufs := ⟨[], [(2, 0)]⟩ }
    let s := withNs n (zoneOf .empty 0) [c]
    s.metaLost n 0 = false ∧ s.metaLost (nsOf .placement) 0 = false ∧ s.dataSpoiled c = false ∧
    ((s.withDrm { Dram.reset with bad := [s.fld F.BPM_POOL_BASE_BASE 2] }).dataSpoiled c = true) ∧
    ((s.withZon { s.zon with map := [(lbaKey 1 0, 0)] }).metaLost n 0 = true) := by decide +kernel

theorem wit_Controllers_granted : rst.granted 96 = false ∧ rst.granted 136 = false ∧
    ((rst.withPwr { Power.reset with doms := [(96, { Domain.reset with st := .entering, ap := 1 })] }).granted 96 = true) ∧
    (portsUp [(0, { FnState.reset with en := true, bme := true })]).fnLive 0 = true ∧ rst.fnLive 0 = false ∧ rst.txnIsOpen = false ∧ (withTxn 1 0).txnIsOpen = true := by
  decide +kernel

/-! ### A configuration that a commit accepts -/

theorem get_none {α : Type} : ∀ (m : AMap α) (q : Nat), (m.all fun e => e.1 != q) = true → m.get? q = none
  | [], _, _ => rfl
  | (k, v) :: m, q, h => by
    simp only [List.all_cons, Bool.and_eq_true, bne_iff_ne, ne_eq] at h
    rw [AMap.get?, if_neg h.1]
    exact get_none m q h.2

theorem get_some {α : Type} (x : α) : ∀ (m : AMap α) (q : Nat), (∀ e ∈ m, e.1 = q → e.2 = x) → (∃ e ∈ m, e.1 = q) → m.get? q = some x
  | [], _, _, h => by simp at h
  | (k, v) :: m, q, h, he => by
    rw [AMap.get?]
    split
    · exact congrArg some (h (k, v) List.mem_cons_self ‹_›)
    · apply get_some x m q fun e hm => h e (List.mem_cons_of_mem _ hm)
      obtain ⟨e, hm, hq⟩ := he
      rcases List.mem_cons.mp hm with rfl | hm
      · contradiction
      · exact ⟨e, hm, hq⟩

def cfgBase : State :=
  (List.range 6).foldl (fun s p => ((((s.putFld F.BPM_POOL_CNT_CNT p 0 3).putFld F.BPM_POOL_AMBER_THR p 0 2).putFld F.BPM_POOL_RED_THR p 0 1).putFld
      F.BPM_POOL_STOP_THR p 0 0).putFld F.BPM_POOL_HYST_HYST p 0 1)
    ((((((withTxn 1 0).putFld F.HLD_VOLT_VCHG 0 0 2500).putFld F.HLD_EFIXED_MJ 0 0 250).putFld F.HLD_CFG_STRINGS 0 0 2).putFld
      F.HLD_CFG_CAP_MIB 0 0 512).putFld F.STR_JCFG_JPKGB 0 0 1)

/-- A weight of 1 for every tenant. -/
def oneEach : AMap Word64 := (List.range 1024).map fun t => (0x41000 + 4 * t, 0x1000000#64)

/-- The reset state in a transaction of agent 0 with the registers that R207, R283 and R284 ask for set, and no shadow. -/
def cfg : State := rst.withWin { (withTxn 1 0).win with regs := cfgBase.win.regs ++ oneEach }

theorem cfg_absent (lo hi : Nat) (h : (cfg.win.regs.all fun e => e.1 < lo || hi ≤ e.1) = true) (r : RegRef) (h1 : lo ≤ r.off) (h2 : r.off < hi) :
    cfg.regWord r = r.reg.resetWord := by
  rw [State.regWord, get_none]
  · rfl
  · rw [List.all_eq_true] at h ⊢
    intro e he
    have := h e he
    simp only [Bool.or_eq_true, decide_eq_true_eq] at this
    simp only [bne_iff_ne, ne_eq]
    omega

theorem cfg_one (t : Nat) (h : t < 1024) : cfg.regWord ⟨.BPM_TN_RSV, t, 0⟩ = 0x1000000 := by
  rw [State.regWord, get_some 0x1000000#64]
  · rfl
  · have hk : (cfg.win.regs.all fun e => e.1 < 0x41000 || 0x42000 ≤ e.1 || e.2 == 0x1000000#64) = true := by decide +kernel
    intro e he hq
    have := List.all_eq_true.mp hk e he
    have ho : RegRef.off ⟨.BPM_TN_RSV, t, 0⟩ = 0x41000 + t * 4 + 0 * 0 := rfl
    simp only [Bool.or_eq_true, decide_eq_true_eq, beq_iff_eq] at this
    rw [ho] at hq
    rcases this with (h1 | h1) | h1
    · omega
    · omega
    · exact h1
  · refine ⟨(0x41000 + 4 * t, 0x1000000#64), List.mem_append_right _ (List.mem_map.mpr ⟨t, List.mem_range.mpr h, rfl⟩), ?_⟩
    show 0x41000 + 4 * t = 0x41000 + t * 4 + 0 * 0
    omega

theorem cfg_tn (f : Fld) (h : [RegName.SCH_TN_RCAP, .SCH_TN_RFLR, .SCH_TN_WCAP, .SCH_TN_WFLR, .ZON_TN_DS].contains f.reg = true) (t : Nat) (ht : t < 1024) :
    cfg.fld f t = bits 0 f.hi f.lo := by
  have hs : (cfg.win.regs.all fun e => e.1 < 0x81000 || 0x89020 ≤ e.1) = true := by decide +kernel
  have hz : (cfg.win.regs.all fun e => e.1 < 0x7A000 || 0x7B000 ≤ e.1) = true := by decide +kernel
  have key : cfg.regWord ⟨f.reg, t, 0⟩ = 0 := by
    revert h
    generalize f.reg = r
    intro h
    simp only [List.contains_eq_mem, List.mem_cons, List.not_mem_nil, or_false, decide_eq_true_eq] at h
    rcases h with rfl | rfl | rfl | rfl | rfl
    · exact cfg_absent 0x81000 0x89020 hs _ (by show _ ≤ 0x81004 + t * 0x20 + 0 * 0; omega) (by show 0x81004 + t * 0x20 + 0 * 0 < _; omega)
    · exact cfg_absent 0x81000 0x89020 hs _ (by show _ ≤ 0x8100C + t * 0x20 + 0 * 0; omega) (by show 0x8100C + t * 0x20 + 0 * 0 < _; omega)
    · exact cfg_absent 0x81000 0x89020 hs _ (by show _ ≤ 0x81008 + t * 0x20 + 0 * 0; omega) (by show 0x81008 + t * 0x20 + 0 * 0 < _; omega)
    · exact cfg_absent 0x81000 0x89020 hs _ (by show _ ≤ 0x81010 + t * 0x20 + 0 * 0; omega) (by show 0x81010 + t * 0x20 + 0 * 0 < _; omega)
    · exact cfg_absent 0x7A000 0x7B000 hz _ (by show _ ≤ 0x7A000 + t * 0x4 + 0 * 0; omega) (by show 0x7A000 + t * 0x4 + 0 * 0 < _; omega)
  rw [State.fld, key]

theorem cfg_map (d k : Nat) (hd : d < 128) (hk : k < 64) : cfg.fld F.ZON_DS_MAP_DIES d k = 0 := by
  have hs : (cfg.win.regs.all fun e => e.1 < 0x71000 || 0x79000 ≤ e.1) = true := by decide +kernel
  rw [State.fld, cfg_absent 0x71000 0x79000 hs]
  · rfl
  · show _ ≤ 0x71000 + d * 0x100 + k * 4; omega
  · show 0x71000 + d * 0x100 + k * 4 < _; omega

theorem cfg_rows (d : Nat) (hd : d < 128) : cfg.dsDies d = [] := by
  rw [State.dsDies, List.flatMap_eq_nil_iff]
  intro k hk
  rw [cfg_map d k hd (List.mem_range.mp hk)]
  rfl

theorem cfg_noDs (t : Nat) (h : t < 1024) : cfg.tenantDs t = none := by
  rw [State.tenantDs, State.flag, cfg_tn _ (by decide) t h]
  rfl

theorem sum_zero (f : Nat → Nat) (l : List Nat) (h : ∀ x ∈ l, f x = 0) : (l.map f).sum = 0 := by
  rw [List.sum_eq_zero_iff]
  simpa using h

theorem accepts_disjoint : disjointRules cfg = [] := by
  rw [disjointRules, List.filterMap_eq_nil_iff]
  intro k hk
  have : (((List.range 128).map fun d => (d, cfg.fld F.ZON_DS_MAP_DIES d k)).filter fun x => x.2 != 0) = [] := by
    rw [List.filter_eq_nil_iff]
    intro x hx
    obtain ⟨d, hd, rfl⟩ := List.mem_map.mp hx
    simp [cfg_map d k (List.mem_range.mp hd) (List.mem_range.mp hk)]
  simp only [this]
  rfl

theorem accepts_span : spanRules cfg = [] := by
  have : (tenants.filterMap fun t => (cfg.tenantDs t).map fun d => (t, d)) = [] := by
    rw [List.filterMap_eq_nil_iff]
    intro t ht
    rw [cfg_noDs t (List.mem_range.mp ht)]
    rfl
  simp only [spanRules, this]
  rfl

theorem accepts_limit : (limitRules cfg).all (·.ok) = true := by
  have : (tenants.filter fun t => cfg.flag F.ZON_TN_DS_VALID t) = [] := by
    rw [List.filter_eq_nil_iff]
    intro t ht
    rw [State.flag, cfg_tn _ (by decide) t (List.mem_range.mp ht)]
    decide
  simp only [limitRules, this]
  rfl

theorem cfg_reserves (dram : Bool) : cfg.allReserves dram = 0 := by
  have hc : ∀ c ∈ List.range 6, cfg.regWord ⟨.BPM_CL_RSV, c, 0⟩ = 0 := by decide +kernel
  cases dram <;>
  · simp only [State.allReserves, if_true, if_false, Bool.false_eq_true]
    rw [sum_zero, sum_zero]
    · intro c h
      rw [State.fld]
      show _ * bits (cfg.regWord ⟨.BPM_CL_RSV, c, 0⟩) _ _ = 0
      rw [hc c h]
      rfl
    · intro t h
      rw [State.fld]
      show _ * bits (cfg.regWord ⟨.BPM_TN_RSV, t, 0⟩) _ _ = 0
      rw [cfg_one t (List.mem_range.mp h)]
      rfl

theorem accepts_pool : (poolRules cfg).all (·.ok) = true := by
  have hp : ∀ p ∈ List.range 6, (cfg.fld F.BPM_POOL_RED_THR p < cfg.fld F.BPM_POOL_AMBER_THR p && cfg.fld F.BPM_POOL_STOP_THR p < cfg.fld F.BPM_POOL_RED_THR p) = true ∧
      cfg.fld F.BPM_POOL_AMBER_THR p + cfg.fld F.BPM_POOL_HYST_HYST p ≤ cfg.fld F.BPM_POOL_CNT_CNT p := by decide +kernel
  rw [poolRules, List.all_append, Bool.and_eq_true]
  constructor
  · rw [List.all_flatMap, List.all_eq_true]
    intro p h
    have := hp p h
    simp only [List.all_cons, List.all_nil, cfg_reserves, this, Nat.zero_le, decide_true, Bool.and_self]
  · rw [List.all_map, List.all_eq_true]
    intro t h
    have : cfg.fld F.BPM_TN_RSV_W t = 1 := by
      rw [State.fld]
      show bits (cfg.regWord ⟨.BPM_TN_RSV, t, 0⟩) _ _ = 1
      rw [cfg_one t (List.mem_range.mp h)]
      rfl
    simp only [Function.comp, this]
    decide

theorem cfg_floor (t : Nat) (ht : t < 1024) : floorBytes (cfg.fld F.SCH_TN_RFLR_BW t) (cfg.fld F.SCH_TN_RFLR_IOPS t) = 0 ∧
    floorBytes (cfg.fld F.SCH_TN_WFLR_BW t) (cfg.fld F.SCH_TN_WFLR_IOPS t) = 0 := by
  constructor <;> rw [cfg_tn _ (by decide) t ht, cfg_tn _ (by decide) t ht] <;> decide

theorem cfg_share (d : Nat) : (tenants.filter fun t => cfg.tenantDs t == some d) = [] := by
  rw [List.filter_eq_nil_iff]
  intro t ht
  rw [cfg_noDs t (List.mem_range.mp ht)]
  simp

theorem cfg_bench : cfg.fld F.SCH_BENCH_UNK < cfg.fld F.SCH_BENCH_K := by decide +kernel

theorem sum_pairs (f : Nat → Nat) (l : List Nat) (h : ∀ x ∈ l, f x = 0) : ((l.map fun t => (t, f t)).map (·.2)).sum = 0 := by
  rw [List.map_map]
  exact sum_zero f l h

theorem cfg_sum : ((tenants.map fun t => (t, floorBytes (cfg.fld F.SCH_TN_RFLR_BW t) (cfg.fld F.SCH_TN_RFLR_IOPS t))).map (·.2)).sum = 0 :=
  sum_pairs (fun t => floorBytes (cfg.fld F.SCH_TN_RFLR_BW t) (cfg.fld F.SCH_TN_RFLR_IOPS t)) tenants
    fun t h => (cfg_floor t (List.mem_range.mp h)).1

theorem cfg_caps (t : Nat) (h : t < 1024) :
    (floorOk (cfg.fld F.SCH_TN_RCAP_BW t) (cfg.fld F.SCH_TN_RFLR_BW t) && floorOk (cfg.fld F.SCH_TN_RCAP_IOPS t) (cfg.fld F.SCH_TN_RFLR_IOPS t)) = true ∧
    (floorOk (cfg.fld F.SCH_TN_WCAP_BW t) (cfg.fld F.SCH_TN_WFLR_BW t) && floorOk (cfg.fld F.SCH_TN_WCAP_IOPS t) (cfg.fld F.SCH_TN_WFLR_IOPS t)) = true := by
  rw [cfg_tn F.SCH_TN_RCAP_BW (by decide) t h, cfg_tn F.SCH_TN_RCAP_IOPS (by decide) t h, cfg_tn F.SCH_TN_RFLR_BW (by decide) t h,
    cfg_tn F.SCH_TN_RFLR_IOPS (by decide) t h, cfg_tn F.SCH_TN_WCAP_BW (by decide) t h, cfg_tn F.SCH_TN_WCAP_IOPS (by decide) t h,
    cfg_tn F.SCH_TN_WFLR_BW (by decide) t h, cfg_tn F.SCH_TN_WFLR_IOPS (by decide) t h]
  decide

theorem sched_ok (n : State)
    (h1 : ∀ t < 1024,
      (floorOk (n.fld F.SCH_TN_RCAP_BW t) (n.fld F.SCH_TN_RFLR_BW t) && floorOk (n.fld F.SCH_TN_RCAP_IOPS t) (n.fld F.SCH_TN_RFLR_IOPS t)) = true ∧
      (floorOk (n.fld F.SCH_TN_WCAP_BW t) (n.fld F.SCH_TN_WFLR_BW t) && floorOk (n.fld F.SCH_TN_WCAP_IOPS t) (n.fld F.SCH_TN_WFLR_IOPS t)) = true)
    (h2 : ∀ d, (tenants.filter fun t => n.tenantDs t == some d) = [])
    (h3 : ((tenants.map fun t => (t, floorBytes (n.fld F.SCH_TN_RFLR_BW t) (n.fld F.SCH_TN_RFLR_IOPS t))).map (·.2)).sum = 0)
    (h4 : n.ao.bifur = false) (h5 : n.fld F.SCH_BENCH_UNK < n.fld F.SCH_BENCH_K) : (schedRules n).all (·.ok) = true := by
  simp only [schedRules, List.all_append, Bool.and_eq_true, h3, h4, Bool.false_eq_true, if_false]
  refine ⟨⟨⟨⟨?_, ?_⟩, by simp⟩, by simp⟩, by simpa using h5⟩
  · rw [List.all_flatMap, List.all_eq_true]
    intro t h
    have := h1 t (List.mem_range.mp h)
    simp only [List.all_cons, this, List.all_nil, Bool.and_self]
  · rw [List.all_map, List.all_eq_true]
    intro d _
    simp [h2 d]

theorem accepts_sched : (schedRules cfg).all (·.ok) = true := sched_ok cfg cfg_caps cfg_share cfg_sum (by decide +kernel) cfg_bench

/-- Every lookup of the remaining rules. -/
theorem accepts_rest : (rangeRules cfg ++ leaveRules cfg cfg ++ moveRules cfg cfg ++ ringRules cfg cfg ++ holdupRules cfg).all (·.ok) = true := by
  decide +kernel

theorem accepts_media : (linkRules cfg ++ mediaRules cfg).all (·.ok) = true := by decide +kernel

theorem rules_ok (o n : State) (h0 : o.applyShadows = n) (hs : structuralChanges o n = []) (h : (txnRules o n).all (·.ok) = true) :
    o.rejection false = none := by
  have : (txnRules o n).filter (fun r => !r.ok) = [] := by
    rw [List.filter_eq_nil_iff]
    intro r hr
    simp [List.all_eq_true.mp h r hr]
  simp only [State.rejection, h0, this, List.map_nil, least, hs]
  rfl

/-- O7: a commit that no rule rejects. -/
theorem test_commit_accepted : cfg.owns .pf0 = true ∧ cfg.win.txn.state = 1 ∧
    (cfg.withWin { cfg.win with txn := { cfg.win.txn with lastWrite := cfg.ao.time } }).rejection false = none := by
  refine ⟨by decide +kernel, by decide +kernel, rules_ok cfg cfg rfl rfl ?_⟩
  have h := accepts_rest
  have h' := accepts_media
  simp only [List.all_append, Bool.and_eq_true] at h h'
  simp only [txnRules, List.all_append, Bool.and_eq_true, accepts_disjoint, accepts_span, accepts_limit, accepts_pool, accepts_sched, h, h']
  decide

theorem rules_fail (o : State) (save : Bool) (h : (holdupRules o.applyShadows).any (fun r => !r.ok) = true) :
    ∃ reason off, o.rejection save = some (reason, off) := by
  have hm : ∃ r, r ∈ (txnRules o o.applyShadows).filter fun r => !r.ok := by
    obtain ⟨r, hr, hk⟩ := List.any_eq_true.mp h
    refine ⟨r, List.mem_filter.mpr ⟨?_, hk⟩⟩
    exact List.mem_append_left _ (List.mem_append_left _ (List.mem_append_left _ (List.mem_append_right _ hr)))
  simp only [State.rejection]
  generalize (txnRules o o.applyShadows).filter (fun r => !r.ok) = l at hm
  cases l with
  | nil => simp at hm
  | cons x xs => exact ⟨1, _, rfl⟩

/-- O7: a commit that a rule of R283 rejects, the hold-up's design voltages being unset. -/
theorem test_commit_rejected : (withTxn 1 0).owns .pf0 = true ∧ (withTxn 1 0).win.txn.state = 1 ∧ ∃ reason off,
    ((withTxn 1 0).withWin { (withTxn 1 0).win with txn := { (withTxn 1 0).win.txn with lastWrite := (withTxn 1 0).ao.time } }).rejection true =
      some (reason, off) :=
  ⟨by decide +kernel, by decide +kernel, rules_fail _ _ (by decide +kernel)⟩

/-!
Clauses without a witness here, for want of a value that Lean can evaluate: a firmware image that verifies and a sealed blob that opens rest on
`Config.ecdsaVerify` and `Config.p384Shared`, which have no body. Of a stripe with its Q unit alone, `test_two_lost` above shows the arithmetic.
-/

end Sys2Proof.Tests
end

/-!
SUPPORT. The two dwords of a 64-bit register (R8 to R10): the keys of latches and held dwords, the read and the write of either dword, and the
three commands in those terms; then `Obligations.DwordPairs`.
-/

namespace Sys2Proof.Machine

open Sys2Proof

/-! ### Keys: one for each agent and register (R10) -/

theorem latchKey_div (a : Agent) (o : Nat) : latchKey a o / 32 = o := by
  cases a with
  | core c => simp only [latchKey]; omega
  | pf0 | pf1 | mgmt => simp only [latchKey]; omega

theorem latchKey_agent_inj {a b : Agent} {o : Nat} (h : latchKey a o = latchKey b o) : a = b := by
  have hs := Nat.add_left_cancel h
  cases a <;> cases b <;> dsimp only at hs
  case pf0.pf0 | pf1.pf1 | mgmt.mgmt => rfl
  case core.core c d => exact congrArg Agent.core (Fin.ext (Nat.add_left_cancel hs))
  all_goals omega

theorem latchKey_inj {a b : Agent} {o p : Nat} (h : latchKey a o = latchKey b p) : a = b ∧ o = p := by
  obtain rfl : o = p := by rw [← latchKey_div a o, h, latchKey_div]
  exact ⟨latchKey_agent_inj h, rfl⟩

/-! ### The read and the write of one dword -/

section
variable {s : State} {r : RegRef} {off : Nat} (a : Agent)

theorem State.readDword_low (h : s.regAt off = some (r, false)) (w : r.reg.place.wide = true) :
    s.readDword a off = (s.withWin { s.win with latch := s.win.latch.ins (latchKey a r.off) (BitVec.ofNat 32 (s.regView r / 2 ^ 32)) },
      s.regView r % 2 ^ 32) := by
  simp only [State.readDword, h, w, Bool.false_eq_true, if_false, if_true]

theorem State.readDword_high_latched {x : Word32} (h : s.regAt off = some (r, true)) (l : s.win.latch.get? (latchKey a r.off) = some x) :
    s.readDword a off = (s.withWin { s.win with latch := s.win.latch.del (latchKey a r.off) }, x.toNat) := by
  simp only [State.readDword, h, l, if_true]

theorem State.readDword_high_unlatched (h : s.regAt off = some (r, true)) (l : s.win.latch.get? (latchKey a r.off) = none) :
    s.readDword a off = (s, s.regView r / 2 ^ 32) := by
  simp only [State.readDword, h, l, if_true]

theorem State.writeDword_low (v : Nat) (h : s.regAt off = some (r, false)) (w : r.reg.place.wide = true) :
    s.writeDword a off v = s.withWin { s.win with held := s.win.held.ins (latchKey a r.off) (BitVec.ofNat 32 v) } := by
  simp only [State.writeDword, h, w, Bool.false_eq_true, if_false, if_true]

theorem State.writeDword_high_held (v : Nat) {x : Word32} (h : s.regAt off = some (r, true))
    (l : s.win.held.get? (latchKey a r.off) = some x) :
    s.writeDword a off v = (s.withWin { s.win with held := s.win.held.del (latchKey a r.off) }).writeReg a r (x.toNat + v % 2 ^ 32 * 2 ^ 32) := by
  simp only [State.writeDword, h, l, if_true]

/-- Log entry 137: the low half is the committed value, a transaction's shadow notwithstanding. -/
theorem State.writeDword_high_unheld (v : Nat) (h : s.regAt off = some (r, true)) (l : s.win.held.get? (latchKey a r.off) = none) :
    s.writeDword a off v = (s.withWin { s.win with held := s.win.held.del (latchKey a r.off) }).writeReg a r
      (s.regView r % 2 ^ 32 + v % 2 ^ 32 * 2 ^ 32) := by
  simp only [State.writeDword, h, l, if_true]

/-! ### The commands -/

theorem exec_lowDwordRead (x : ReadAt) (s : State) : exec (.lowDwordRead a x) s = execLowDwordRead a x s := rfl

theorem exec_lowDwordWrite (v : Nat) (s : State) : exec (.lowDwordWrite a off v) s = execLowDwordWrite a off v s := rfl

theorem exec_highDwordWrite (v : Nat) (s : State) : exec (.highDwordWrite a off v) s = execHighDwordWrite a off v s := rfl

theorem exec_lowDwordRead_dword (s : State) (ha : off % 4 = 0) :
    exec (.lowDwordRead a ⟨off, 4⟩) s = .next ((s.readDword a off).1.send (.readValue a off (s.readDword a off).2)) := by
  have hal : aligned off 4 = true := by simp [aligned, ha]
  simp only [exec_lowDwordRead, execLowDwordRead, hal, Bool.not_true, Bool.false_eq_true, if_false, if_true]

theorem exec_lowDwordWrite_low (v : Nat) (h : s.regAt off = some (r, false)) (w : r.reg.place.wide = true) :
    exec (.lowDwordWrite a off v) s = .next (s.writeDword a off v) := by
  simp only [exec_lowDwordWrite, execLowDwordWrite, h, w, if_true]

theorem exec_highDwordWrite_high (v : Nat) (h : s.regAt off = some (r, true)) :
    exec (.highDwordWrite a off v) s = .next (s.writeDword a off v) := by
  simp only [exec_highDwordWrite, execHighDwordWrite, h]

end

/-- Settles O5: each command is one read or write of a dword, which the dword's side and what the agent latched or holds decide; the rest are
the laws of finite maps and the keys of the agents' latches being distinct. That the half is consumed is log entry 10. -/
theorem dwordPairs : Obligations.DwordPairs := by
  refine ⟨?_, fun m k x y => ⟨AMap.get?_ins_same _ k y, AMap.get?_del_same m k⟩,
    fun m k q x hq => ⟨AMap.get?_ins_other m x hq, AMap.get?_del_other m hq⟩, fun a b o p => latchKey_inj⟩
  intro a r low high s hlow hhigh hwide hl4 hh4
  refine ⟨?_, fun x hx => ?_, fun hn => ?_, fun v => ?_, fun v x hx => ?_, fun v hn => ?_⟩
  · rw [exec_lowDwordRead_dword a s hl4, State.readDword_low a hlow hwide]
  · rw [exec_lowDwordRead_dword a s hh4, State.readDword_high_latched a hhigh hx]
  · rw [exec_lowDwordRead_dword a s hh4, State.readDword_high_unlatched a hhigh hn]
  · rw [exec_lowDwordWrite_low a v hlow hwide, State.writeDword_low a v hlow hwide]
  · rw [exec_highDwordWrite_high a v hhigh, State.writeDword_high_held a v hhigh hx]
  · rw [exec_highDwordWrite_high a v hhigh, State.writeDword_high_unheld a v hhigh hn]

end Sys2Proof.Machine

/-!
SUPPORT. The Colander's grant (R99): when two entries conflict, when a command is clear of the entries placed before its own, and what the
grant does to the table and to the buffer requests; then `Obligations.LocksAreGrantedInOrder`.
-/

namespace Sys2Proof.Machine

open Sys2Proof

/-! ### Conflicts -/

theorem overlap_iff (a b : LockEntry) : overlap a b = true ↔ a.nsix = b.nsix ∧ a.lo ≤ b.hi ∧ b.lo ≤ a.hi := by
  simp only [overlap, Bool.and_eq_true, beq_iff_eq, decide_eq_true_eq, and_assoc]

theorem conflict_iff (a b : LockEntry) :
    conflict a b = true ↔ (a.nsix = b.nsix ∧ a.lo ≤ b.hi ∧ b.lo ≤ a.hi) ∧ (a.excl = true ∨ b.excl = true) := by
  rw [conflict, Bool.and_eq_true, overlap_iff, Bool.or_eq_true]

/-- A command waits while an entry placed before its first one conflicts with one of its own, whether granted or waiting. -/
theorem lockClear_eq_false_iff (table : List LockEntry) (r : CmdRef) :
    lockClear table r = false ↔
      ∃ e ∈ table.takeWhile (fun e => e.ref != r), ∃ m ∈ table, m.ref = r ∧ conflict e m = true := by
  simp only [lockClear, Bool.not_eq_false', List.any_eq_true, List.mem_filter, beq_iff_eq, and_assoc]

theorem lockClear_eq_true_iff (table : List LockEntry) (r : CmdRef) :
    lockClear table r = true ↔
      ∀ e ∈ table.takeWhile (fun e => e.ref != r), ∀ m ∈ table, m.ref = r → conflict e m = false := by
  rw [← Bool.not_eq_false, lockClear_eq_false_iff]
  push Not
  simp only [ne_eq, Bool.not_eq_true]

/-! ### The grant's operations -/

@[simp] theorem State.grantLocks_table (s : State) (r : CmdRef) :
    (s.grantLocks r).col.table = s.col.table.map fun e => if e.ref = r then { e with granted := true } else e := rfl

@[simp] theorem State.grantLocks_bpm (s : State) (r : CmdRef) : (s.grantLocks r).bpm = s.bpm := rfl

/-- What a command asks for rests on its namespace alone, which a grant leaves as it is. -/
@[simp] theorem State.grantLocks_cmdBuffers (s : State) (r : CmdRef) (c : Cmd) : (s.grantLocks r).cmdBuffers c = s.cmdBuffers c := rfl

@[simp] theorem State.setCmd_col (s : State) (r : CmdRef) (f : Cmd → Cmd) : (s.setCmd r f).col = s.col := rfl

@[simp] theorem State.setCmd_bpm (s : State) (r : CmdRef) (f : Cmd → Cmd) : (s.setCmd r f).bpm = s.bpm := rfl

@[simp] theorem State.askBuffers_col (s : State) (t : Nat) (who : BufWho) (ps : List Nat) : (s.askBuffers t who ps).col = s.col := rfl

@[simp] theorem State.askBuffers_waits (s : State) (t : Nat) (who : BufWho) (ps : List Nat) :
    (s.askBuffers t who ps).bpm.waits = s.bpm.waits ++ ps.map fun p => ⟨p, t, who⟩ := rfl

/-! ### The command -/

section

variable {r : CmdRef} {c : Cmd} {s : State}

theorem exec_lockGrant (r : CmdRef) (s : State) : exec (.lockGrant r) s = execLockGrant r s := rfl

theorem exec_lockGrant_conflict (h : s.cmd? r = some c) (hw : c.phase = .lockWait) (hc : lockClear s.col.table r = false) :
    exec (.lockGrant r) s = .next s := by
  simp only [exec_lockGrant, execLockGrant, h, hw, hc, Bool.false_eq_true, if_false]

theorem exec_lockGrant_clear (h : s.cmd? r = some c) (hw : c.phase = .lockWait) (hc : lockClear s.col.table r = true) :
    exec (.lockGrant r) s = .next (((s.grantLocks r).setCmd r fun d =>
      { d with bufs := ⟨s.cmdBuffers c, []⟩, phase := if (s.cmdBuffers c).isEmpty then .data else .buffers }).askBuffers
        r.fn (.cmd r) (s.cmdBuffers c)) := by
  simp only [exec_lockGrant, execLockGrant, h, hw, hc, if_true]
  rw [State.grantLocks_cmdBuffers]

theorem exec_lockGrant_onlyChanges {t : State} (h : exec (.lockGrant r) s = .next t) : OnlyChanges [.host, .col, .bpm] s t :=
  (execLockGrant_keeps r s t h).onlyChanges fun p => by cases p <;> decide

end

/-- Settles O14: a waiting command's grant turns on `lockClear`, which says that no entry placed before its first one conflicts with any of
its own; the frame is the command's own. -/
theorem locksAreGrantedInOrder : Obligations.LocksAreGrantedInOrder := by
  refine ⟨conflict_iff, fun r c s hc hw => ⟨fun hconf => ?_, fun hclear => ?_⟩⟩
  · exact exec_lockGrant_conflict hc hw ((lockClear_eq_false_iff _ r).mpr hconf)
  · have hgrant := exec_lockGrant_clear hc hw ((lockClear_eq_true_iff _ r).mpr hclear)
    refine ⟨_, hgrant, ?_, ?_, exec_lockGrant_onlyChanges hgrant⟩
    · rw [State.askBuffers_col, State.setCmd_col, State.grantLocks_table]
    · rw [State.askBuffers_waits, State.setCmd_bpm, State.grantLocks_bpm]

end Sys2Proof.Machine

/-!
SUPPORT. Writes at the zone engine (R162 to R165): what a zone's rules answer, what a change of a zone leaves listed, and the three ways in which
a write is handled; then `Obligations.ZonedWrites`.
-/

namespace Sys2Proof.Machine

open Sys2Proof

/-! ### The zone that holds an LBA -/

theorem AMap.get?_adj_same {α : Type} (m : AMap α) (k : Nat) (f : α → α) : (m.adj k f).get? k = (m.get? k).map f := by
  cases h : m.get? k with
  | none => simp [AMap.adj, h]
  | some v => simp [AMap.adj, h]

theorem State.zoneAt_eq_some_iff {s : State} {n : Ns} {lba e : Nat} {z : Zone} :
    s.zoneAt n lba = some (e, z) ↔ n.entryOf (lba / 262144) = some e ∧ s.zone? e = some z := by
  simp only [State.zoneAt, Option.bind_eq_some_iff, Option.map_eq_some_iff, Prod.mk.injEq]
  constructor
  · rintro ⟨_, he, _, hz, rfl, rfl⟩
    exact ⟨he, hz⟩
  · rintro ⟨he, hz⟩
    exact ⟨e, he, z, hz, rfl, rfl⟩

@[simp] theorem State.zone?_setZone_same (s : State) (e : Nat) (f : Zone → Zone) : (s.setZone e f).zone? e = (s.zone? e).map f :=
  AMap.get?_adj_same s.zon.zdt e f

@[simp] theorem State.zone?_setCmd (s : State) (r : CmdRef) (f : Cmd → Cmd) (e : Nat) : (s.setCmd r f).zone? e = s.zone? e := rfl

@[simp] theorem State.cmd?_setZone (s : State) (e : Nat) (f : Zone → Zone) (r : CmdRef) : (s.setZone e f).cmd? r = s.cmd? r := rfl

/-! ### The rules that a write meets in its zone (R161, R164, R165) -/

section
variable {z : Zone} {append : Bool} {lba nlb : Nat}

theorem Zone.writeRules_of_unwritable (h : z.writeStatus ≠ .success) : z.writeRules append lba nlb = z.writeStatus := by
  unfold Zone.writeRules
  split
  · contradiction
  · rfl

theorem Zone.writeRules_of_writable (h : z.writeStatus = .success) :
    z.writeRules append lba nlb =
      if append = false ∧ lba ≠ lba / 262144 * 262144 + z.wpoff then .zoneInvalidWrite
      else if z.zcap < z.wpoff + nlb then .zoneBoundary
      else .success := by
  simp only [Zone.writeRules, h, Bool.and_eq_true, Bool.not_eq_true', bne_iff_ne]

theorem Zone.writeRules_off_pointer (h : z.writeStatus = .success) (ha : append = false) (hp : lba ≠ lba / 262144 * 262144 + z.wpoff) :
    z.writeRules append lba nlb = .zoneInvalidWrite := by
  rw [Zone.writeRules_of_writable h, if_pos ⟨ha, hp⟩]

theorem Zone.writeRules_at_pointer (h : z.writeStatus = .success) (hp : append = true ∨ lba = lba / 262144 * 262144 + z.wpoff) :
    z.writeRules append lba nlb = if z.zcap < z.wpoff + nlb then .zoneBoundary else .success := by
  rw [Zone.writeRules_of_writable h, if_neg]
  rintro ⟨ha, hne⟩
  rcases hp with ht | he
  · exact absurd (ht.symm.trans ha) (by decide)
  · exact hne he

end

/-! ### A write that is handled -/

/-- A zone whose write pointer has moved past n more blocks; it is full at its capacity. -/
def Zone.advance (n : Nat) (z : Zone) : Zone :=
  { z with wpoff := z.wpoff + n, written := z.wpoff + n, zs := if z.wpoff + n = z.zcap then .full else z.zs }

/-- The LBA of a zone's write pointer, for the zone that a command's first LBA names. -/
def Cmd.pointerLba (c : Cmd) (z : Zone) : Nat := c.sqe.slba / 262144 * 262144 + z.wpoff

/-- A command given its first block in a zone, with a note of whether it found the zone open. -/
def Cmd.placeAt (z : Zone) (lba : Nat) (c : Cmd) : Cmd := { c with lba := lba, opened := !z.zs.isOpen }

/-- What a write handled in an open zone changes before it asks for its lock entries. -/
def State.advanceZone (s : State) (c : Cmd) (e : Nat) (z : Zone) : State :=
  (s.setZone e fun z => z.advance c.nlb).setCmd c.ref fun d => d.placeAt z (c.pointerLba z)

section
variable {s : State} {c : Cmd} {n : Ns} {append : Bool} {e : Nat} {z : Zone}

theorem State.cmd?_advanceZone (hc : s.cmd? c.ref = some c) : (s.advanceZone c e z).cmd? c.ref = some (c.placeAt z (c.pointerLba z)) :=
  State.cmd?_setCmd (by rw [State.cmd?_setZone, hc]) rfl

theorem State.zone?_advanceZone (hz : s.zone? e = some z) : (s.advanceZone c e z).zone? e = some (z.advance c.nlb) := by
  rw [State.advanceZone, State.zone?_setCmd, State.zone?_setZone_same, hz, Option.map_some]

theorem State.advanceZone_onlyChanges (s : State) (c : Cmd) (e : Nat) (z : Zone) : OnlyChanges [.host, .zon] s (s.advanceZone c e z) := by
  have hsame : Same 520 s (s.advanceZone c e z) := by simp [State.advanceZone]
  exact hsame.onlyChanges fun p => by cases p <;> decide

/-- A zone that is open takes nothing to be written (R159, R160). -/
theorem State.openZone_of_isOpen (nsix : Nat) (h : z.zs.isOpen = true) : s.openZone n nsix e z false = (s, .success) := by
  simp only [State.openZone, h, if_true, Bool.false_eq_true, if_false]

theorem State.handleZoneWrite_waits (hz : s.zoneAt n c.sqe.slba = some (e, z)) (hw : (z.action.isSome || s.zoneQueued c) = true) :
    s.handleZoneWrite c n append = s.waitZone c := by
  simp only [State.handleZoneWrite, hz, hw, if_true]

theorem State.handleZoneWrite_refused {st : Status} (hz : s.zoneAt n c.sqe.slba = some (e, z))
    (hw : (z.action.isSome || s.zoneQueued c) = false) (hr : z.writeRules append c.sqe.slba c.nlb = st) (hst : st ≠ .success) :
    s.handleZoneWrite c n append = s.complete c st := by
  simp only [State.handleZoneWrite, hz, hw, hr, Bool.false_eq_true, if_false]

theorem State.handleZoneWrite_accepted (hz : s.zoneAt n c.sqe.slba = some (e, z)) (hc : s.cmd? c.ref = some c)
    (hw : (z.action.isSome || s.zoneQueued c) = false) (hr : z.writeRules append c.sqe.slba c.nlb = .success) (ho : z.zs.isOpen = true) :
    s.handleZoneWrite c n append = (s.advanceZone c e z).requestLocks (c.placeAt z (c.pointerLba z)) := by
  have hfound := State.cmd?_advanceZone (e := e) (z := z) hc
  simp only [State.advanceZone, Zone.advance, Cmd.placeAt, Cmd.pointerLba] at hfound ⊢
  simp only [State.handleZoneWrite, hz, hw, hr, State.openZone_of_isOpen _ ho, Bool.false_eq_true, if_false, hfound]

end

/-- Settles O17: a write waits, is refused with the status of its zone's rules, or advances the zone and asks for its lock entries from the
write pointer on; the rules of a writable zone turn on the pointer and then on the capacity. -/
theorem zonedWrites : Obligations.ZonedWrites := by
  intro c n append e z s hz hc
  refine ⟨State.handleZoneWrite_waits hz, fun hw hbad => ?_, fun hw hok => ⟨fun ha hp => ?_, fun hp => ⟨fun hcap => ?_, fun hcap ho => ?_⟩⟩⟩
  · exact State.handleZoneWrite_refused hz hw (Zone.writeRules_of_unwritable hbad) hbad
  · exact State.handleZoneWrite_refused hz hw (Zone.writeRules_off_pointer hok ha hp) (by decide)
  · have hrule := (Zone.writeRules_at_pointer hok hp).trans (if_pos hcap)
    exact State.handleZoneWrite_refused hz hw hrule (by decide)
  · have hrule := (Zone.writeRules_at_pointer hok hp).trans (if_neg (Nat.not_lt.mpr hcap))
    obtain ⟨-, hlisted⟩ := State.zoneAt_eq_some_iff.mp hz
    exact ⟨s.advanceZone c e z, c.placeAt z (c.pointerLba z), State.handleZoneWrite_accepted hz hc hw hrule ho, rfl, rfl, rfl,
      State.zone?_advanceZone hlisted, State.advanceZone_onlyChanges s c e z⟩

end Sys2Proof.Machine

/-!
SUPPORT. Frees and references at the buffer pool manager (R210 to R213): a granule given back, one reference less, a refused free, and the three
commands case by case of the tag that they meet; then `Obligations.BufferFrees`.
-/

namespace Sys2Proof.Machine

open Sys2Proof

section
variable {s : State} {p g engine owner : Nat} {x : Tag}

/-! ### The manager's operations -/

theorem State.giveBack_onlyChanges (s : State) (p g : Nat) : OnlyChanges [.ev, .host, .bpm] s (s.giveBack p g) :=
  (State.giveBack_same0 s p g).onlyChanges fun part => by cases part <;> decide

theorem State.refuseFree_onlyChanges (s : State) (p g o engine flags : Nat) : OnlyChanges [.ev] s (s.refuseFree p g o engine flags) :=
  (State.refuseFree_same0 s p g o engine flags).onlyChanges fun part => by cases part <;> decide

theorem State.refuseFree_ev (s : State) (p g o engine flags : Nat) : (s.refuseFree p g o engine flags).ev =
    (s.raise 0x018 0 2 [(8, s.fld F.BPM_POOL_BASE_BASE p + g * granule p), (2, o), (1, engine), (1, flags)]).ev := rfl

theorem State.countDown_last (h : x.count = 1) : s.countDown p g x = s.giveBack p g :=
  if_pos h.le

theorem State.countDown_shared (h : 2 ≤ x.count) : s.countDown p g x = s.withBpm { s.bpm with
    tags := s.bpm.tags.ins (tagKey p g) { x with count := x.count - 1 }
    refWaits := s.bpm.refWaits.filter fun w => w.2 != tagKey p g } :=
  if_neg (Nat.not_le.mpr h)

/-! ### The counted free -/

theorem exec_countedFree (engine p g : Nat) (s : State) : exec (.countedFree engine p g) s = execCountedFree engine p g s := rfl

theorem exec_countedFree_untagged (h : s.bpm.tags.get? (tagKey p g) = none) :
    exec (.countedFree engine p g) s = .next (s.refuseFree p g 0x7FF engine 1) := by
  simp only [exec_countedFree, execCountedFree, h]

theorem exec_countedFree_named (h : s.bpm.tags.get? (tagKey p g) = some x) (hn : x.named = true) :
    exec (.countedFree engine p g) s = .next (s.refuseFree p g x.owner engine 0) := by
  simp only [exec_countedFree, execCountedFree, h, hn, if_true]

theorem exec_countedFree_uncounted (h : s.bpm.tags.get? (tagKey p g) = some x) (hn : x.named = false) (h0 : x.count = 0) :
    exec (.countedFree engine p g) s = .next (s.refuseFree p g x.owner engine 1) := by
  simp only [exec_countedFree, execCountedFree, h, hn, h0, Bool.false_eq_true, if_false, if_true]

theorem exec_countedFree_counted (h : s.bpm.tags.get? (tagKey p g) = some x) (hn : x.named = false) (h0 : x.count ≠ 0) :
    exec (.countedFree engine p g) s = .next (s.countDown p g x) := by
  simp only [exec_countedFree, execCountedFree, h, hn, h0, Bool.false_eq_true, if_false]

/-! ### The named-owner free -/

theorem exec_namedOwnerFree (engine p g owner : Nat) (s : State) :
    exec (.namedOwnerFree engine p g owner) s = execNamedOwnerFree engine p g owner s := rfl

theorem exec_namedOwnerFree_untagged (h : s.bpm.tags.get? (tagKey p g) = none) :
    exec (.namedOwnerFree engine p g owner) s = .next (s.refuseFree p g 0x7FF engine 1) := by
  simp only [exec_namedOwnerFree, execNamedOwnerFree, h]

theorem exec_namedOwnerFree_owner (h : s.bpm.tags.get? (tagKey p g) = some x) (ho : x.owner = owner) :
    exec (.namedOwnerFree engine p g owner) s = .next (s.giveBack p g) := by
  simp only [exec_namedOwnerFree, execNamedOwnerFree, h, ho, if_true]

theorem exec_namedOwnerFree_other (h : s.bpm.tags.get? (tagKey p g) = some x) (ho : x.owner ≠ owner) :
    exec (.namedOwnerFree engine p g owner) s = .next (s.refuseFree p g x.owner engine 0) := by
  simp only [exec_namedOwnerFree, execNamedOwnerFree, h, ho, if_false]

/-! ### The reference -/

theorem exec_referenceTake (engine p g : Nat) (s : State) : exec (.referenceTake engine p g) s = execReferenceTake engine p g s := rfl

theorem exec_referenceTake_counted (h : s.bpm.tags.get? (tagKey p g) = some x) (hc : x.count ≠ 15) :
    exec (.referenceTake engine p g) s =
      .next (s.withBpm { s.bpm with tags := s.bpm.tags.ins (tagKey p g) { x with count := x.count + 1 } }) := by
  simp only [exec_referenceTake, execReferenceTake, h, hc, if_false]

theorem exec_referenceTake_full (h : s.bpm.tags.get? (tagKey p g) = some x) (hc : x.count = 15) :
    exec (.referenceTake engine p g) s = .next ((s.withBpm { s.bpm with
      refWaits := s.bpm.refWaits ++ [(engine, tagKey p g)] }).refuseFree p g x.owner engine 2) := by
  simp only [exec_referenceTake, execReferenceTake, h, hc, if_true]

end

/-- Settles O9: the tag decides each command. An accepted free counts down or gives the granule back, a reference counts up, and every refusal is
`State.refuseFree`, whose frame is the event rings alone. -/
theorem bufferFrees : Obligations.BufferFrees := by
  intro engine p g owner s
  obtain ⟨htags, hfreed⟩ := State.giveBack_spec s p g
  refine ⟨fun x hx => ⟨fun hn h2 => ?_, fun hn h1 => ?_, exec_countedFree_named hx, exec_countedFree_uncounted hx, fun ho => ?_,
      exec_namedOwnerFree_other hx, exec_referenceTake_counted hx, exec_referenceTake_full hx⟩,
    fun hnone => ⟨exec_countedFree_untagged hnone, exec_namedOwnerFree_untagged hnone⟩,
    fun o flags => ⟨State.refuseFree_onlyChanges s p g o engine flags, State.refuseFree_ev s p g o engine flags⟩⟩
  · have hcount : x.count ≠ 0 := by omega
    rw [exec_countedFree_counted hx hn hcount, State.countDown_shared h2]
  · have hcount : x.count ≠ 0 := by omega
    have hback := (exec_countedFree_counted (engine := engine) hx hn hcount).trans (congrArg _ (State.countDown_last h1))
    exact ⟨_, hback, htags, hfreed, State.giveBack_onlyChanges s p g⟩
  · exact ⟨_, exec_namedOwnerFree_owner hx ho, htags, hfreed, State.giveBack_onlyChanges s p g⟩

end Sys2Proof.Machine

/-!
PROOFS. Where a unit slot of a block lies (O59). `slotPlace` walks the wordline groups with the offset that is left; a range of slots is found by
induction on the groups, each step of which takes one group off the front of the list and its 64n slots off the offset.
-/

namespace Sys2Proof.Machine

open Sys2Proof

/-! ### The walk over the wordline groups (R361) -/

section
variable {n w o i : Nat} {ns : List Nat}

theorem slotPlace_head (h : o < 64 * n) : slotPlace (n :: ns) w o = some (w, 64 * w + o / n, o % n) := if_pos h

theorem slotPlace_tail (h : 64 * n ≤ o) : slotPlace (n :: ns) w o = slotPlace ns (w + 1) (o - 64 * n) := if_neg (Nat.not_lt.mpr h)

end

/-- The slots of wordline group i lie between the bases of i and i + 1; w is the number of the list's first group. -/
theorem slotPlace_of_mem_range {ns : List Nat} {i w o : Nat} (hlo : 64 * (ns.take i).sum ≤ o) (hhi : o < 64 * (ns.take (i + 1)).sum) :
    slotPlace ns w o = some (w + i, 64 * (w + i) + (o - 64 * (ns.take i).sum) / nth ns i 0, (o - 64 * (ns.take i).sum) % nth ns i 0) := by
  induction ns generalizing i w o with
  | nil => simp at hhi
  | cons n ns ih =>
    cases i with
    | zero =>
      have ho : o < 64 * n := by simpa using hhi
      simp [slotPlace_head ho, nth]
    | succ i =>
      rw [List.take_succ_cons, List.sum_cons, Nat.mul_add] at hlo hhi
      have hrest : o - 64 * n - 64 * (ns.take i).sum = o - 64 * ((n :: ns).take (i + 1)).sum := by
        rw [List.take_succ_cons, List.sum_cons, Nat.mul_add, Nat.sub_sub]
      rw [slotPlace_tail (by omega), ih (i := i) (by omega) (by omega), hrest, Nat.succ_add_eq_add_succ]
      rfl

theorem slotPlace_past {ns : List Nat} {w o : Nat} (h : 64 * ns.sum ≤ o) : slotPlace ns w o = none := by
  induction ns generalizing w o with
  | nil => rfl
  | cons n ns ih =>
    rw [List.sum_cons, Nat.mul_add] at h
    rw [slotPlace_tail (by omega), ih (by omega)]

/-- Settles O59: the walk from group 0 with the whole slot number as its offset, over the die's 16 groups. -/
theorem unitSlotsOfABlock : Obligations.UnitSlotsOfABlock := by
  rintro die k s w m n base rfl rfl
  refine ⟨fun _ hlo hhi => ?_, slotPlace_past⟩
  simpa using slotPlace_of_mem_range (w := 0) hlo hhi

end Sys2Proof.Machine

/-!
PROOFS. Where the roles of a row fall (O20, R400). A member's role depends on its offset from member `r % 18` alone, and every member lies
at one of 18 offsets: it holds P, Q or one data position. So `roleOf` reads each role back, and `memberOfRole` undoes it.
-/

namespace Sys2Proof.Machine

open Sys2Proof

/-! ### Roles and members of a row (R400) -/

section
variable {r m d j : Nat}

theorem roleOf_offset (hj : j < 18) : roleOf r ((r + j) % 18) = if j = 0 then 16 else if j = 1 then 17 else j - 2 := by
  have hoffset : ((r + j) % 18 + 18 - r % 18) % 18 = j := by omega
  rw [roleOf, hoffset]

@[simp] theorem roleOf_memberOfP : roleOf r (memberOfP r) = 16 := roleOf_offset (j := 0) (by decide)

@[simp] theorem roleOf_memberOfQ : roleOf r (memberOfQ r) = 17 := roleOf_offset (j := 1) (by decide)

theorem roleOf_memberOfData (hd : d < 16) : roleOf r (memberOfData r d) = d := by
  rw [memberOfData, Nat.add_assoc, roleOf_offset (by omega), if_neg (by omega), if_neg (by omega), Nat.add_sub_cancel_left]

/-- Each of the 18 members holds P, Q or a data position of the row. -/
theorem member_holds_role (r : Nat) (hm : m < 18) : m = memberOfP r ∨ m = memberOfQ r ∨ ∃ d < 16, m = memberOfData r d := by
  obtain ⟨j, hj, rfl⟩ : ∃ j < 18, m = (r + j) % 18 := ⟨(m + 18 - r % 18) % 18, by omega, by omega⟩
  match j with
  | 0 => exact .inl rfl
  | 1 => exact .inr (.inl rfl)
  | d + 2 => exact .inr (.inr ⟨d, by omega, by rw [memberOfData, Nat.add_assoc, Nat.add_comm 2]⟩)

theorem roleOf_lt (hm : m < 18) : roleOf r m < 18 := by
  obtain rfl | rfl | ⟨d, hd, rfl⟩ := member_holds_role r hm
  · simp
  · simp
  · rw [roleOf_memberOfData hd]
    omega

theorem memberOfRole_roleOf (hm : m < 18) : memberOfRole r (roleOf r m) = m := by
  obtain rfl | rfl | ⟨d, hd, rfl⟩ := member_holds_role r hm
  · rw [roleOf_memberOfP, memberOfRole, if_pos rfl]
  · rw [roleOf_memberOfQ, memberOfRole, if_neg (by decide), if_pos rfl]
  · rw [roleOf_memberOfData hd, memberOfRole, if_neg (by omega), if_neg (by omega)]

end

/-- Settles O20: each role is read back at its own member, and no two members of a row share a role, since `memberOfRole` undoes `roleOf`. -/
theorem rolePlacement : Obligations.RolePlacement := by
  refine fun r => ⟨roleOf_memberOfP, roleOf_memberOfQ, fun d hd => ⟨rfl, roleOf_memberOfData hd⟩, fun m hm => ⟨roleOf_lt hm, fun k hk heq => ?_⟩⟩
  calc k = memberOfRole r (roleOf r k) := (memberOfRole_roleOf hk).symm
    _ = memberOfRole r (roleOf r m) := by rw [heq]
    _ = m := memberOfRole_roleOf hm

end Sys2Proof.Machine

/-!
SUPPORT. What holds of every command alike: it goes on, but for a request to a DRAM address that does not exist, and it changes only the parts
listed for it. From that: the queue's order, the memories' canonical form, the fuses, and what stops.
-/

namespace Sys2Proof.Machine

open Sys2Proof

/-! ### A mask's bits among the parts listed -/

/-- Every part whose bit is on in the mask is listed. -/
def covers (l : List Part) (m : Nat) : Bool :=
  [Part.ao, .win, .ev, .host, .col, .bpm, .cap, .hld, .jnl, .zon, .str, .sch, .lnk, .ddk, .med, .sec, .drm, .pwr, .boot, .brd, .mgt, .free, .pending,
    .fuses, .stores, .bytes].all fun p => l.contains p || !m.testBit p.bit

theorem testBit_of_covers {l : List Part} {m : Nat} {p : Part} (h : covers l m = true) (hp : p ∉ l) : m.testBit p.bit = false := by
  have hall := (List.all_eq_true.mp h) p (by cases p <;> decide)
  simpa [hp] using hall

theorem Same.onlyChanges_of_covers {l : List Part} {m : Nat} {s t : State} (h : Same m s t) (hc : covers l m = true) : OnlyChanges l s t :=
  h.onlyChanges fun _ hp => testBit_of_covers hc hp

/-! ### Every command -/

/-- A request to DRAM names an address that exists; any other command names none. -/
def DramExists (s : State) : Instr → Prop
  | .dramWriteRequest a _ => a < s.dramSize
  | .dramReadRequest a _ => a < s.dramSize
  | _ => True

/-- A command's outcome: it goes on where its address exists, and a next state differs only in the parts listed for the command. -/
structure Lawful (c : Instr) (s : State) (o : Outcome) : Prop where
  goes : DramExists s c → GoesOn o
  frame : ∀ t, o = .next t → OnlyChanges (mayChange c) s t

theorem Lawful.of_keeps {c : Instr} {m : Nat} {s : State} {o : Outcome} (hg : DramExists s c → GoesOn o) (hk : Keeps m s o)
    (hc : covers (mayChange c) m = true) : Lawful c s o :=
  ⟨hg, fun t ht => (hk t ht).onlyChanges_of_covers hc⟩

theorem Lawful.of_goes {c : Instr} {m : Nat} {s : State} {o : Outcome} (hg : GoesOn o) (hk : Keeps m s o)
    (hc : covers (mayChange c) m = true) : Lawful c s o :=
  .of_keeps (fun _ => hg) hk hc

/-- Each meaning's own two laws, one arm for each command. -/
theorem exec_lawful (c : Instr) (s : State) : Lawful c s (exec c s) := by
  cases c with
  | misalignedAccess a off size write v => exact .of_goes (execMisalignedAccess_goes a off size write v s) (execMisalignedAccess_keeps a off size write v s) rfl
  | lowDwordRead a x => exact .of_goes (execLowDwordRead_goes a x s) (execLowDwordRead_keeps a x s) rfl
  | lowDwordWrite a off v => exact .of_goes (execLowDwordWrite_goes a off v s) (execLowDwordWrite_keeps a off v s) rfl
  | highDwordWrite a off v => exact .of_goes (execHighDwordWrite_goes a off v s) (execHighDwordWrite_keeps a off v s) rfl
  | registerWrite a off size v => exact .of_goes (execRegisterWrite_goes a off size v s) (execRegisterWrite_keeps a off size v s) rfl
  | txWrite a off size v => exact .of_goes (execTxWrite_goes a off size v s) (execTxWrite_keeps a off size v s) rfl
  | doorbellWrite => exact .of_goes (execDoorbellWrite_goes ..) (execDoorbellWrite_keeps _ _ _ _ s) rfl
  | cqHeadDoorbell => exact .of_goes (execCqHeadDoorbell_goes ..) (execCqHeadDoorbell_keeps _ _ _ s) rfl
  | commandFetch => exact .of_goes (execCommandFetch_goes ..) (execCommandFetch_keeps _ _ s) rfl
  | commandAdmission => exact .of_goes (execCommandAdmission_goes ..) (execCommandAdmission_keeps _ s) rfl
  | lockGrant => exact .of_goes (execLockGrant_goes ..) (execLockGrant_keeps _ s) rfl
  | bufferGrant => exact .of_goes (execBufferGrant_goes ..) (execBufferGrant_keeps _ s) rfl
  | hostDataBlock => exact .of_goes (execHostDataBlock_goes ..) (execHostDataBlock_keeps _ _ _ _ s) rfl
  | holdupCreditGrant => exact .of_goes (execHoldupCreditGrant_goes ..) (execHoldupCreditGrant_keeps s) rfl
  | writeCompletion => exact .of_goes (execWriteCompletion_goes ..) (execWriteCompletion_keeps _ s) rfl
  | readCompletion => exact .of_goes (execReadCompletion_goes ..) (execReadCompletion_keeps _ _ s) rfl
  | flushCompletion => exact .of_goes (execFlushCompletion_goes ..) (execFlushCompletion_keeps _ s) rfl
  | fuaCompletion => exact .of_goes (execFuaCompletion_goes ..) (execFuaCompletion_keeps _ s) rfl
  | createIoSubmissionQueue => exact .of_goes (execCreateIoSubmissionQueue_goes ..) (execCreateIoSubmissionQueue_keeps _ s) rfl
  | deleteIoSubmissionQueue => exact .of_goes (execDeleteIoSubmissionQueue_goes ..) (execDeleteIoSubmissionQueue_keeps _ s) rfl
  | createIoCompletionQueue => exact .of_goes (execCreateIoCompletionQueue_goes ..) (execCreateIoCompletionQueue_keeps _ s) rfl
  | deleteIoCompletionQueue => exact .of_goes (execDeleteIoCompletionQueue_goes ..) (execDeleteIoCompletionQueue_keeps _ s) rfl
  | getLogPage => exact .of_goes (execGetLogPage_goes ..) (execGetLogPage_keeps _ s) rfl
  | identify => exact .of_goes (execIdentify_goes ..) (execIdentify_keeps _ s) rfl
  | abort => exact .of_goes (execAbort_goes ..) (execAbort_keeps _ s) rfl
  | setFeatures => exact .of_goes (execSetFeatures_goes ..) (execSetFeatures_keeps _ s) rfl
  | getFeatures => exact .of_goes (execGetFeatures_goes ..) (execGetFeatures_keeps _ s) rfl
  | asynchronousEventRequest => exact .of_goes (execAsynchronousEventRequest_goes ..) (execAsynchronousEventRequest_keeps _ s) rfl
  | namespaceManagement => exact .of_goes (execNamespaceManagement_goes ..) (execNamespaceManagement_keeps _ s) rfl
  | firmwareCommit => exact .of_goes (execFirmwareCommit_goes ..) (execFirmwareCommit_keeps _ s) rfl
  | firmwareImageDownload => exact .of_goes (execFirmwareImageDownload_goes ..) (execFirmwareImageDownload_keeps _ s) rfl
  | deviceSelfTest => exact .of_goes (execDeviceSelfTest_goes ..) (execDeviceSelfTest_keeps _ s) rfl
  | namespaceAttachment => exact .of_goes (execNamespaceAttachment_goes ..) (execNamespaceAttachment_keeps _ s) rfl
  | directiveSend => exact .of_goes (execDirectiveSend_goes ..) (execDirectiveSend_keeps _ s) rfl
  | directiveReceive => exact .of_goes (execDirectiveReceive_goes ..) (execDirectiveReceive_keeps _ s) rfl
  | virtualizationManagement => exact .of_goes (execVirtualizationManagement_goes ..) (execVirtualizationManagement_keeps _ s) rfl
  | nvmeMiSend => exact .of_goes (execNvmeMiSend_goes ..) (execNvmeMiSend_keeps _ s) rfl
  | nvmeMiReceive => exact .of_goes (execNvmeMiReceive_goes ..) (execNvmeMiReceive_keeps _ s) rfl
  | formatNvm => exact .of_goes (execFormatNvm_goes ..) (execFormatNvm_keeps _ s) rfl
  | sanitize => exact .of_goes (execSanitize_goes ..) (execSanitize_keeps _ s) rfl
  | getLbaStatus => exact .of_goes (execGetLbaStatus_goes ..) (execGetLbaStatus_keeps _ s) rfl
  | sealedEnvelope => exact .of_goes (execSealedEnvelope_goes ..) (execSealedEnvelope_keeps _ s) rfl
  | sealCounterDurable => exact .of_goes (execSealCounterDurable_goes ..) (execSealCounterDurable_keeps _ s) rfl
  | tenantPolicySet => exact .of_goes (execTenantPolicySet_goes ..) (execTenantPolicySet_keeps _ s) rfl
  | tenantPolicyGet => exact .of_goes (execTenantPolicyGet_goes ..) (execTenantPolicyGet_keeps _ s) rfl
  | sealStatus => exact .of_goes (execSealStatus_goes ..) (execSealStatus_keeps _ s) rfl
  | securityProtocolInformation => exact .of_goes (execSecurityProtocolInformation_goes ..) (execSecurityProtocolInformation_keeps _ s) rfl
  | certificateChainReceive => exact .of_goes (execCertificateChainReceive_goes ..) (execCertificateChainReceive_keeps _ s) rfl
  | exchangeOfferReceive => exact .of_goes (execExchangeOfferReceive_goes ..) (execExchangeOfferReceive_keeps _ s) rfl
  | attestationNonceSend => exact .of_goes (execAttestationNonceSend_goes ..) (execAttestationNonceSend_keeps _ s) rfl
  | attestedReportReceive => exact .of_goes (execAttestedReportReceive_goes ..) (execAttestedReportReceive_keeps _ s) rfl
  | keyInstall => exact .of_goes (execKeyInstall_goes ..) (execKeyInstall_keeps _ s) rfl
  | tenantUnlock => exact .of_goes (execTenantUnlock_goes ..) (execTenantUnlock_keeps _ s) rfl
  | flush => exact .of_goes (execFlush_goes ..) (execFlush_keeps _ s) rfl
  | write => exact .of_goes (execWrite_goes ..) (execWrite_keeps _ s) rfl
  | read => exact .of_goes (execRead_goes ..) (execRead_keeps _ s) rfl
  | writeUncorrectable => exact .of_goes (execWriteUncorrectable_goes ..) (execWriteUncorrectable_keeps _ s) rfl
  | compare => exact .of_goes (execCompare_goes ..) (execCompare_keeps _ s) rfl
  | writeZeroes => exact .of_goes (execWriteZeroes_goes ..) (execWriteZeroes_keeps _ s) rfl
  | datasetManagement => exact .of_goes (execDatasetManagement_goes ..) (execDatasetManagement_keeps _ _ s) rfl
  | verify => exact .of_goes (execVerify_goes ..) (execVerify_keeps _ s) rfl
  | zoneOpen => exact .of_goes (execZoneOpen_goes ..) (execZoneOpen_keeps _ s) rfl
  | zoneClose => exact .of_goes (execZoneClose_goes ..) (execZoneClose_keeps _ s) rfl
  | zoneFinish => exact .of_goes (execZoneFinish_goes ..) (execZoneFinish_keeps _ s) rfl
  | zoneReset => exact .of_goes (execZoneReset_goes ..) (execZoneReset_keeps _ s) rfl
  | zoneOffline => exact .of_goes (execZoneOffline_goes ..) (execZoneOffline_keeps _ s) rfl
  | zoneActionAcknowledge => exact .of_goes (execZoneActionAcknowledge_goes ..) (execZoneActionAcknowledge_keeps _ s) rfl
  | zoneManagementReceive => exact .of_goes (execZoneManagementReceive_goes ..) (execZoneManagementReceive_keeps _ s) rfl
  | zoneAppend => exact .of_goes (execZoneAppend_goes ..) (execZoneAppend_keeps _ s) rfl
  | controllerEnable => exact .of_goes (execControllerEnable_goes ..) (execControllerEnable_keeps _ _ _ _ s) rfl
  | controllerReset => exact .of_goes (execControllerReset_goes ..) (execControllerReset_keeps _ s) rfl
  | normalShutdown => exact .of_goes (execNormalShutdown_goes ..) (execNormalShutdown_keeps _ s) rfl
  | shutdownComplete => exact .of_goes (execShutdownComplete_goes ..) (execShutdownComplete_keeps _ s) rfl
  | abruptShutdown => exact .of_goes (execAbruptShutdown_goes ..) (execAbruptShutdown_keeps _ s) rfl
  | functionLevelReset => exact .of_goes (execFunctionLevelReset_goes ..) (execFunctionLevelReset_keeps _ s) rfl
  | functionDisable => exact .of_goes (execFunctionDisable_goes ..) (execFunctionDisable_keeps _ _ s) rfl
  | perstAssert => exact .of_goes (execPerstAssert_goes ..) (execPerstAssert_keeps _ s) rfl
  | perstDeassert => exact .of_goes (execPerstDeassert_goes ..) (execPerstDeassert_keeps _ s) rfl
  | portLinkUp => exact .of_goes (execPortLinkUp_goes ..) (execPortLinkUp_keeps _ _ _ _ s) rfl
  | portLinkDown => exact .of_goes (execPortLinkDown_goes ..) (execPortLinkDown_keeps _ s) rfl
  | nvmSubsystemReset => exact .of_goes (execNvmSubsystemReset_goes ..) (execNvmSubsystemReset_keeps _ s) rfl
  | statClr a => exact .of_goes (execStatClr_goes a s) (execStatClr_keeps a s) rfl
  | countedFree => exact .of_goes (execCountedFree_goes ..) (execCountedFree_keeps _ _ _ s) rfl
  | namedOwnerFree => exact .of_goes (execNamedOwnerFree_goes ..) (execNamedOwnerFree_keeps _ _ _ _ s) rfl
  | referenceTake => exact .of_goes (execReferenceTake_goes ..) (execReferenceTake_keeps _ _ _ s) rfl
  | captureWindowWrite => exact .of_goes (execCaptureWindowWrite_goes ..) (execCaptureWindowWrite_keeps _ _ _ _ s) rfl
  | captureUnitAccept => exact .of_goes (execCaptureUnitAccept_goes ..) (execCaptureUnitAccept_keeps _ s) rfl
  | creditSpanGrant => exact .of_goes (execCreditSpanGrant_goes ..) (execCreditSpanGrant_keeps _ s) rfl
  | zoneQueuePush a ring v => exact .of_goes (execZoneQueuePush_goes a ring v s) (execZoneQueuePush_keeps a ring v s) rfl
  | stallTimeout => exact .of_goes (execStallTimeout_goes ..) (execStallTimeout_keeps _ s) rfl
  | ringArm a ring => exact .of_goes (execRingArm_goes a ring s) (execRingArm_keeps a ring s) rfl
  | ringRelease a ring => exact .of_goes (execRingRelease_goes a ring s) (execRingRelease_keeps a ring s) rfl
  | releaseComplete => exact .of_goes (execReleaseComplete_goes ..) (execReleaseComplete_keeps _ s) rfl
  | captureCountClear a ring => exact .of_goes (execCaptureCountClear_goes a ring s) (execCaptureCountClear_keeps a ring s) rfl
  | bankReady => exact .of_goes (execBankReady_goes ..) (execBankReady_keeps _ s) rfl
  | energyTestRequest a => exact .of_goes (execEnergyTestRequest_goes a s) (execEnergyTestRequest_keeps a s) rfl
  | testPeriodExpiry => exact .of_goes (execTestPeriodExpiry_goes ..) (execTestPeriodExpiry_keeps s) rfl
  | energyTestStart => exact .of_goes (execEnergyTestStart_goes ..) (execEnergyTestStart_keeps _ _ s) rfl
  | testDischargeEnd => exact .of_goes (execTestDischargeEnd_goes ..) (execTestDischargeEnd_keeps _ _ s) rfl
  | energyTestComplete => exact .of_goes (execEnergyTestComplete_goes ..) (execEnergyTestComplete_keeps _ s) rfl
  | forcedFlush a key test => exact .of_goes (execForcedFlush_goes a key test s) (execForcedFlush_keeps a key test s) rfl
  | vinBelowThreshold => exact .of_goes (execVinBelowThreshold_goes ..) (execVinBelowThreshold_keeps _ s) rfl
  | vinDip => exact .of_goes (execVinDip_goes ..) (execVinDip_keeps _ _ _ s) rfl
  | vinLossConfirmed => exact .of_goes (execVinLossConfirmed_goes ..) (execVinLossConfirmed_keeps s) rfl
  | flushDrainDone => exact .of_goes (execFlushDrainDone_goes ..) (execFlushDrainDone_keeps s) rfl
  | flushCommitProgrammed => exact .of_goes (execFlushCommitProgrammed_goes ..) (execFlushCommitProgrammed_keeps s) rfl
  | flushEnd => exact .of_goes (execFlushEnd_goes ..) (execFlushEnd_keeps s) rfl
  | journalPageTimer => exact .of_goes (execJournalPageTimer_goes ..) (execJournalPageTimer_keeps s) rfl
  | journalPageProgrammed => exact .of_goes (execJournalPageProgrammed_goes ..) (execJournalPageProgrammed_keeps _ s) rfl
  | rdata => exact .of_goes (execRdata_goes ..) (execRdata_keeps _ _ s) rfl
  | sdata => exact .of_goes (execSdata_goes ..) (execSdata_keeps _ _ s) rfl
  | done => exact .of_goes (execDone_goes ..) (execDone_keeps _ _ s) rfl
  | busy => exact .of_goes (execBusy_goes ..) (execBusy_keeps _ _ s) rfl
  | inhibit => exact .of_goes (execInhibit_goes ..) (execInhibit_keeps _ _ s) rfl
  | statusRsp => exact .of_goes (execStatusRsp_goes ..) (execStatusRsp_keeps _ _ s) rfl
  | nak => exact .of_goes (execNak_goes ..) (execNak_keeps _ _ s) rfl
  | alert => exact .of_goes (execAlert_goes ..) (execAlert_keeps _ _ s) rfl
  | regData => exact .of_goes (execRegData_goes ..) (execRegData_keeps _ _ s) rfl
  | trainRsp => exact .of_goes (execTrainRsp_goes ..) (execTrainRsp_keeps _ _ _ s) rfl
  | corruptFrame link lane hcrc => exact .of_goes (execCorruptFrame_goes link lane hcrc s) (execCorruptFrame_keeps link lane hcrc s) rfl
  | tagTimerExpiry => exact .of_goes (execTagTimerExpiry_goes ..) (execTagTimerExpiry_keeps _ _ s) rfl
  | quarantineExpiry => exact .of_goes (execQuarantineExpiry_goes ..) (execQuarantineExpiry_keeps _ _ s) rfl
  | frameLengthTimeout link lane => exact .of_goes (execFrameLengthTimeout_goes link lane s) (execFrameLengthTimeout_keeps link lane s) rfl
  | burstEnd link lane cut => exact .of_goes (execBurstEnd_goes link lane cut s) (execBurstEnd_keeps link lane cut s) rfl
  | trainDetectTimer link lane => exact .of_goes (execTrainDetectTimer_goes link lane s) (execTrainDetectTimer_keeps link lane s) rfl
  | inhibitPollTimer => exact .of_goes (execInhibitPollTimer_goes ..) (execInhibitPollTimer_keeps _ s) rfl
  | dieTempPoll => exact .of_goes (execDieTempPoll_goes ..) (execDieTempPoll_keeps _ s) rfl
  | resetbr a link => exact .of_goes (execResetbr_goes a link s) (execResetbr_keeps a link s) rfl
  | retrain a link => exact .of_goes (execRetrain_goes a link s) (execRetrain_keeps a link s) rfl
  | linkCounterClear a link => exact .of_goes (execLinkCounterClear_goes a link s) (execLinkCounterClear_keeps a link s) rfl
  | hardDecodeDone => exact .of_goes (execHardDecodeDone_goes ..) (execHardDecodeDone_keeps _ _ s) rfl
  | softDecodeDone => exact .of_goes (execSoftDecodeDone_goes ..) (execSoftDecodeDone_keeps _ _ s) rfl
  | effectiveHoursTick => exact .of_goes (execEffectiveHoursTick_goes ..) (execEffectiveHoursTick_keeps s) rfl
  | calibrationSampleStart => exact .of_goes (execCalibrationSampleStart_goes ..) (execCalibrationSampleStart_keeps _ _ _ _ _ _ s) rfl
  | calibrationSampleEnd => exact .of_goes (execCalibrationSampleEnd_goes ..) (execCalibrationSampleEnd_keeps _ _ _ _ _ _ s) rfl
  | ddkCounterClear a link => exact .of_goes (execDdkCounterClear_goes a link s) (execDdkCounterClear_keeps a link s) rfl
  | softEngineFault => exact .of_goes (execSoftEngineFault_goes ..) (execSoftEngineFault_keeps _ s) rfl
  | stripeUnitPlacement => exact .of_goes (execStripeUnitPlacement_goes ..) (execStripeUnitPlacement_keeps _ _ s) rfl
  | groupProgram => exact .of_goes (execGroupProgram_goes ..) (execGroupProgram_keeps _ _ _ s) rfl
  | stagedReadback => exact .of_goes (execStagedReadback_goes ..) (execStagedReadback_keeps _ _ s) rfl
  | memberReplacement => exact .of_goes (execMemberReplacement_goes ..) (execMemberReplacement_keeps _ _ s) rfl
  | rebuildRow => exact .of_goes (execRebuildRow_goes ..) (execRebuildRow_keeps s) rfl
  | reconstructionComplete => exact .of_goes (execReconstructionComplete_goes ..) (execReconstructionComplete_keeps _ s) rfl
  | lostLbaSearchEnd => exact .of_goes (execLostLbaSearchEnd_goes ..) (execLostLbaSearchEnd_keeps _ _ s) rfl
  | inhibitWaitTimeout => exact .of_goes (execInhibitWaitTimeout_goes ..) (execInhibitWaitTimeout_keeps _ s) rfl
  | stripeCounterClear a => exact .of_goes (execStripeCounterClear_goes a s) (execStripeCounterClear_keeps a s) rfl
  | dieDispatch => exact .of_goes (execDieDispatch_goes ..) (execDieDispatch_keeps _ s) rfl
  | classAgeingTimeout => exact .of_goes (execClassAgeingTimeout_goes ..) (execClassAgeingTimeout_keeps _ s) rfl
  | suspholdExpiry => exact .of_goes (execSuspholdExpiry_goes ..) (execSuspholdExpiry_keeps _ s) rfl
  | schedulerWindowEnd => exact .of_goes (execSchedulerWindowEnd_goes ..) (execSchedulerWindowEnd_keeps s) rfl
  | latencyMonitorConfig a v => exact .of_goes (execLatencyMonitorConfig_goes a v s) (execLatencyMonitorConfig_keeps a v s) rfl
  | epochEnd => exact .of_goes (execEpochEnd_goes ..) (execEpochEnd_keeps _ s) rfl
  | eraseRelease => exact .of_goes (execEraseRelease_goes ..) (execEraseRelease_keeps s) rfl
  | checkpointTimer => exact .of_goes (execCheckpointTimer_goes ..) (execCheckpointTimer_keeps s) rfl
  | checkpointStart => exact .of_goes (execCheckpointStart_goes ..) (execCheckpointStart_keeps _ s) rfl
  | checkpointComplete => exact .of_goes (execCheckpointComplete_goes ..) (execCheckpointComplete_keeps _ s) rfl
  | gcVictimSelect => exact .of_goes (execGcVictimSelect_goes ..) (execGcVictimSelect_keeps _ s) rfl
  | relocationCommit => exact .of_goes (execRelocationCommit_goes ..) (execRelocationCommit_keeps _ s) rfl
  | patrolVisit => exact .of_goes (execPatrolVisit_goes ..) (execPatrolVisit_keeps _ _ _ s) rfl
  | temperatureMinuteTick => exact .of_goes (execTemperatureMinuteTick_goes ..) (execTemperatureMinuteTick_keeps s) rfl
  | spdmRequest => exact .of_goes (execSpdmRequest_goes ..) (execSpdmRequest_keeps _ _ s) rfl
  | ideKmRequest => exact .of_goes (execIdeKmRequest_goes ..) (execIdeKmRequest_keeps _ _ s) rfl
  | vaultSelfTest a kat rng => exact .of_goes (execVaultSelfTest_goes a kat rng s) (execVaultSelfTest_keeps a kat rng s) rfl
  | vaultStoreCompact a => exact .of_goes (execVaultStoreCompact_goes a s) (execVaultStoreCompact_keeps a s) rfl
  | sealStatusQuery a => exact .of_goes (execSealStatusQuery_goes a s) (execSealStatusQuery_keeps a s) rfl
  | vaultStoreWriteDone => exact .of_goes (execVaultStoreWriteDone_goes ..) (execVaultStoreWriteDone_keeps _ _ s) rfl
  | dramWriteRequest => exact .of_keeps (execDramWriteRequest_goes _ _ s) (execDramWriteRequest_keeps _ _ s) rfl
  | dramReadRequest => exact .of_keeps (execDramReadRequest_goes _ _ s) (execDramReadRequest_keeps _ _ s) rfl
  | writeAgeTimeout => exact .of_goes (execWriteAgeTimeout_goes ..) (execWriteAgeTimeout_keeps _ _ s) rfl
  | refreshDue => exact .of_goes (execRefreshDue_goes ..) (execRefreshDue_keeps _ _ _ s) rfl
  | mr4Poll => exact .of_goes (execMr4Poll_goes ..) (execMr4Poll_keeps _ _ s) rfl
  | zqCalibrationTimer => exact .of_goes (execZqCalibrationTimer_goes ..) (execZqCalibrationTimer_keeps _ s) rfl
  | oscillatorTimer => exact .of_goes (execOscillatorTimer_goes ..) (execOscillatorTimer_keeps _ _ s) rfl
  | trainingOperation a ch v => exact .of_goes (execTrainingOperation_goes a ch v s) (execTrainingOperation_keeps a ch v s) rfl
  | trainingOperationDone => exact .of_goes (execTrainingOperationDone_goes ..) (execTrainingOperationDone_keeps _ _ _ _ s) rfl
  | delaySet a ch v => exact .of_goes (execDelaySet_goes a ch v s) (execDelaySet_keeps a ch v s) rfl
  | modeRegisterCommand a ch v rdata => exact .of_goes (execModeRegisterCommand_goes a ch v rdata s) (execModeRegisterCommand_keeps a ch v rdata s) rfl
  | scrubStart a v => exact .of_goes (execScrubStart_goes a v s) (execScrubStart_keeps a v s) rfl
  | scrubAbort a => exact .of_goes (execScrubAbort_goes a s) (execScrubAbort_keeps a s) rfl
  | scrubPassEnd => exact .of_goes (execScrubPassEnd_goes ..) (execScrubPassEnd_keeps s) rfl
  | domainCommand a v => exact .of_goes (execDomainCommand_goes a v s) (execDomainCommand_keeps a v s) rfl
  | handshakeReply => exact .of_goes (execHandshakeReply_goes ..) (execHandshakeReply_keeps _ _ s) rfl
  | handshakeDelayExpiry => exact .of_goes (execHandshakeDelayExpiry_goes ..) (execHandshakeDelayExpiry_keeps _ s) rfl
  | quiesceDone => exact .of_goes (execQuiesceDone_goes ..) (execQuiesceDone_keeps _ s) rfl
  | domainEntryComplete => exact .of_goes (execDomainEntryComplete_goes ..) (execDomainEntryComplete_keeps _ s) rfl
  | domainReturnComplete => exact .of_goes (execDomainReturnComplete_goes ..) (execDomainReturnComplete_keeps _ s) rfl
  | domainReturnFailed => exact .of_goes (execDomainReturnFailed_goes ..) (execDomainReturnFailed_keeps _ _ s) rfl
  | wakePinChange => exact .of_goes (execWakePinChange_goes ..) (execWakePinChange_keeps _ _ s) rfl
  | wakeEvent => exact .of_goes (execWakeEvent_goes ..) (execWakeEvent_keeps _ s) rfl
  | transactionBegin a => exact .of_goes (execTransactionBegin_goes a s) (execTransactionBegin_keeps a s) rfl
  | transactionCommit a save => exact .of_goes (execTransactionCommit_goes a save s) (execTransactionCommit_keeps a save s) rfl
  | transactionAbort a => exact .of_goes (execTransactionAbort_goes a s) (execTransactionAbort_keeps a s) rfl
  | commitImageSaved => exact .of_goes (execCommitImageSaved_goes ..) (execCommitImageSaved_keeps _ s) rfl
  | commitIslandsHeld => exact .of_goes (execCommitIslandsHeld_goes ..) (execCommitIslandsHeld_keeps s) rfl
  | transactionTimeout => exact .of_goes (execTransactionTimeout_goes ..) (execTransactionTimeout_keeps s) rfl
  | bootLock a => exact .of_goes (execBootLock_goes a s) (execBootLock_keeps a s) rfl
  | eventRecordArrival => exact .of_goes (execEventRecordArrival_goes ..) (execEventRecordArrival_keeps _ s) rfl
  | eventRingWrite => exact .of_goes (execEventRingWrite_goes ..) (execEventRingWrite_keeps _ _ s) rfl
  | eventHeadWrite a ring head => exact .of_goes (execEventHeadWrite_goes a ring head s) (execEventHeadWrite_keeps a ring head s) rfl
  | eventRingConfig a ring v => exact .of_goes (execEventRingConfig_goes a ring v s) (execEventRingConfig_keeps a ring v s) rfl
  | eventInterruptTimer => exact .of_goes (execEventInterruptTimer_goes ..) (execEventInterruptTimer_keeps _ s) rfl
  | mctpControlMessage => exact .of_goes (execMctpControlMessage_goes ..) (execMctpControlMessage_keeps _ s) rfl
  | readNvmeMiDataStructure => exact .of_goes (execReadNvmeMiDataStructure_goes ..) (execReadNvmeMiDataStructure_keeps _ _ _ s) rfl
  | nvmSubsystemHealthStatusPoll => exact .of_goes (execNvmSubsystemHealthStatusPoll_goes ..) (execNvmSubsystemHealthStatusPoll_keeps _ s) rfl
  | controllerHealthStatusPoll => exact .of_goes (execControllerHealthStatusPoll_goes ..) (execControllerHealthStatusPoll_keeps _ _ _ s) rfl
  | configurationSet => exact .of_goes (execConfigurationSet_goes ..) (execConfigurationSet_keeps _ _ _ s) rfl
  | configurationGet => exact .of_goes (execConfigurationGet_goes ..) (execConfigurationGet_keeps _ _ s) rfl
  | vpdRead => exact .of_goes (execVpdRead_goes ..) (execVpdRead_keeps _ _ s) rfl
  | vpdWrite => exact .of_goes (execVpdWrite_goes ..) (execVpdWrite_keeps _ _ s) rfl
  | miReset => exact .of_goes (execMiReset_goes ..) (execMiReset_keeps _ s) rfl
  | tunnelledAdminCommand => exact .of_goes (execTunnelledAdminCommand_goes ..) (execTunnelledAdminCommand_keeps _ _ s) rfl
  | setupWindowAccess => exact .of_goes (execSetupWindowAccess_goes ..) (execSetupWindowAccess_keeps _ _ _ s) rfl
  | vauxPorEnd => exact .of_goes (execVauxPorEnd_goes ..) (execVauxPorEnd_keeps _ _ _ s) rfl
  | vauxLoss => exact .of_goes (execVauxLoss_goes ..) (execVauxLoss_keeps s) rfl
  | isolationSwitchOn => exact .of_goes (execIsolationSwitchOn_goes ..) (execIsolationSwitchOn_keeps s) rfl
  | vinInRange => exact .of_goes (execVinInRange_goes ..) (execVinInRange_keeps s) rfl
  | startupStageComplete => exact .of_goes (execStartupStageComplete_goes ..) (execStartupStageComplete_keeps _ s) rfl
  | fwsProgram a v => exact .of_goes (execFwsProgram_goes a v s) (execFwsProgram_keeps a v s) rfl
  | fwsErase a v => exact .of_goes (execFwsErase_goes a v s) (execFwsErase_keeps a v s) rfl
  | fwsRead a v => exact .of_goes (execFwsRead_goes a v s) (execFwsRead_keeps a v s) rfl
  | fwsOperationDone => exact .of_goes (execFwsOperationDone_goes ..) (execFwsOperationDone_keeps _ s) rfl
  | coreReadBusyBank => exact .of_goes (execCoreReadBusyBank_goes ..) (execCoreReadBusyBank_keeps _ _ s) rfl
  | reboot a key => exact .of_goes (execReboot_goes a key s) (execReboot_keeps a key s) rfl
  | watchdogExpiry => exact .of_goes (execWatchdogExpiry_goes ..) (execWatchdogExpiry_keeps _ _ s) rfl
  | hotActivationQuiesced => exact .of_goes (execHotActivationQuiesced_goes ..) (execHotActivationQuiesced_keeps s) rfl
  | hotActivationTimeout => exact .of_goes (execHotActivationTimeout_goes ..) (execHotActivationTimeout_keeps s) rfl
  | activationImageLoaded => exact .of_goes (execActivationImageLoaded_goes ..) (execActivationImageLoaded_keeps _ s) rfl
  | activationComplete => exact .of_goes (execActivationComplete_goes ..) (execActivationComplete_keeps _ _ s) rfl
  | junctionTempSample => exact .of_goes (execJunctionTempSample_goes ..) (execJunctionTempSample_keeps _ s) rfl
  | thermalTrip => exact .of_goes (execThermalTrip_goes ..) (execThermalTrip_keeps s) rfl
  | thermalCooldown => exact .of_goes (execThermalCooldown_goes ..) (execThermalCooldown_keeps s) rfl
  | linkTrainingPhaseTimeout link lane => exact .of_goes (execLinkTrainingPhaseTimeout_goes link lane s) (execLinkTrainingPhaseTimeout_keeps link lane s) rfl
  | testAccessPortAccess addr len => exact .of_goes (execTestAccessPortAccess_goes addr len s) (execTestAccessPortAccess_keeps addr len s) rfl
  | crystalFault => exact .of_goes (execCrystalFault_goes ..) (execCrystalFault_keeps _ s) rfl
  | managementEndpointReset => exact .of_goes (execManagementEndpointReset_goes ..) (execManagementEndpointReset_keeps _ s) rfl
  | functionEnable => exact .of_goes (execFunctionEnable_goes ..) (execFunctionEnable_keeps _ _ s) rfl
  | interruptCoalescingTimer => exact .of_goes (execInterruptCoalescingTimer_goes ..) (execInterruptCoalescingTimer_keeps _ _ s) rfl
  | ideStreamInsecure pf stream cause => exact .of_goes (execIdeStreamInsecure_goes pf stream cause s) (execIdeStreamInsecure_keeps pf stream cause s) rfl
  | bankAboveVFloor => exact .of_goes (execBankAboveVFloor_goes ..) (execBankAboveVFloor_keeps _ s) rfl
  | dynamicAddressAssignment addr setdasa => exact .of_goes (execDynamicAddressAssignment_goes addr setdasa s) (execDynamicAddressAssignment_keeps addr setdasa s) rfl
  | fwsOperationTimeout => exact .of_goes (execFwsOperationTimeout_goes ..) (execFwsOperationTimeout_keeps s) rfl

theorem exec_onlyChanges {c : Instr} {s t : State} (h : exec c s = .next t) : OnlyChanges (mayChange c) s t :=
  (exec_lawful c s).frame t h

/-- Settles O3: each meaning goes on and keeps its frame (log entries 1 and 133). -/
theorem commandsKeepTheirFrame : Obligations.CommandsKeepTheirFrame := by
  refine ⟨fun c s t => exec_onlyChanges, fun c s hw hr => ?_⟩
  have hexists : DramExists s c := by
    cases c with
    | dramWriteRequest a d => exact hw a d rfl
    | dramReadRequest a y => exact hr a y rfl
    | _ => trivial
  obtain ⟨t, ht⟩ := (exec_lawful c s).goes hexists
  exact ⟨t, ht, exec_onlyChanges ht⟩

/-! ### The queue -/

/-- No command has the queue among its parts. -/
theorem pending_not_mem_mayChange (c : Instr) : Part.pending ∉ mayChange c := by
  have hno : (mayChange c).contains Part.pending = false := by cases c <;> rfl
  simpa using hno

theorem exec_pending {c : Instr} {s t : State} (h : exec c s = .next t) : t.pending = s.pending :=
  exec_onlyChanges h .pending (pending_not_mem_mayChange c)

theorem step_of_nil {s : State} (h : s.pending = []) : step s = .next s.idle := by
  rw [step, h]

theorem step_of_cons {s : State} {c : Instr} {rest : List Instr} (h : s.pending = c :: rest) : step s = exec c (s.withPending rest) := by
  rw [step, h]

/-- What a step can do: time passes on an empty queue, or the front command runs on the rest of the queue. -/
theorem step_cases {s t : State} (h : step s = .next t) :
    (s.pending = [] ∧ t = s.idle) ∨ ∃ c rest, s.pending = c :: rest ∧ exec c (s.withPending rest) = .next t := by
  cases hq : s.pending with
  | nil =>
    rw [step_of_nil hq] at h
    exact .inl ⟨rfl, (Host.Outcome.next.inj h).symm⟩
  | cons c rest =>
    rw [step_of_cons hq] at h
    exact .inr ⟨c, rest, rfl, h⟩

/-- Settles O1: the step's own definition, on a queue with a front and on an empty one (log entry 38). -/
theorem queueFront : Obligations.QueueFront := by
  refine ⟨fun c rest s => step_of_cons rfl, fun s hq => ⟨fun hv => ?_, fun hv => ?_⟩⟩
  · rw [step_of_nil hq, State.idle, if_pos hv]
  · rw [step_of_nil hq, State.idle, if_neg (by simp [hv])]

/-- Settles O2: the step itself takes the front, and neither a command nor an idle step has the queue among its parts (log entry 38). -/
theorem stepKeepsOrder : Obligations.StepKeepsOrder := by
  intro s t h
  obtain ⟨hq, rfl⟩ | ⟨c, rest, hq, hx⟩ := step_cases h
  · rw [(State.idle_same0 s).pending rfl, hq, List.tail_nil]
  · rw [exec_pending hx, hq, State.withPending_pending, List.tail_cons]

/-! ### The canonical form of the memories -/

theorem State.memWf_of_same {s t : State} (hs : Part.same s t .stores) (hb : Part.same s t .bytes) : t.memWf = s.memWf := by
  have hstores : (t.boot.nor, t.boot.image) = (s.boot.nor, s.boot.image) := hs
  obtain ⟨hnor, himage⟩ := Prod.mk.inj hstores
  have hmem : t.drm.mem = s.drm.mem := hb
  simp only [State.memWf, hnor, himage, hmem]

/-- A command that has neither memory among its parts keeps their form. -/
theorem staysWf_of_no_memory {c : Instr} {s : State} (h : s.memWf = true)
    (hno : ((mayChange c).contains .stores || (mayChange c).contains .bytes) = false) : StaysWf (exec c s) := by
  intro t ht
  simp only [Bool.or_eq_false_iff, List.contains_eq_mem, decide_eq_false_iff_not] at hno
  rw [State.memWf_of_same (exec_onlyChanges ht .stores hno.1) (exec_onlyChanges ht .bytes hno.2), h]

/-- Each command that writes a memory keeps its form, by the law of its meaning; no other command has one among its parts. -/
theorem exec_staysWf (c : Instr) {s : State} (h : s.memWf = true) : StaysWf (exec c s) := by
  cases c
  case lowDwordWrite => exact execLowDwordWrite_staysWf _ _ _ s h
  case highDwordWrite => exact execHighDwordWrite_staysWf _ _ _ s h
  case registerWrite => exact execRegisterWrite_staysWf _ _ _ _ s h
  case txWrite => exact execTxWrite_staysWf _ _ _ _ s h
  case firmwareCommit => exact execFirmwareCommit_staysWf _ s h
  case firmwareImageDownload => exact execFirmwareImageDownload_staysWf _ s h
  case nvmeMiSend => exact execNvmeMiSend_staysWf _ s h
  case nvmSubsystemReset => exact execNvmSubsystemReset_staysWf _ s h
  case forcedFlush a key test => exact execForcedFlush_staysWf a key test s h
  case vinLossConfirmed => exact execVinLossConfirmed_staysWf s h
  case flushDrainDone => exact execFlushDrainDone_staysWf s h
  case flushEnd => exact execFlushEnd_staysWf s h
  case dramReadRequest => exact execDramReadRequest_staysWf _ _ s h
  case writeAgeTimeout => exact execWriteAgeTimeout_staysWf _ _ s h
  case domainEntryComplete => exact execDomainEntryComplete_staysWf _ s h
  case domainReturnComplete => exact execDomainReturnComplete_staysWf _ s h
  case wakeEvent => exact execWakeEvent_staysWf _ s h
  case miReset => exact execMiReset_staysWf _ s h
  case setupWindowAccess => exact execSetupWindowAccess_staysWf _ _ _ s h
  case vauxLoss => exact execVauxLoss_staysWf s h
  case startupStageComplete => exact execStartupStageComplete_staysWf _ s h
  case fwsOperationDone => exact execFwsOperationDone_staysWf _ s h
  case reboot => exact execReboot_staysWf _ _ s h
  case watchdogExpiry => exact execWatchdogExpiry_staysWf _ _ s h
  case thermalTrip => exact execThermalTrip_staysWf s h
  case fwsOperationTimeout => exact execFwsOperationTimeout_staysWf s h
  all_goals exact staysWf_of_no_memory h rfl

/-- Settles O4: an idle step drains writes of canonical form, and every command keeps the form. -/
theorem stepKeepsMemoryForm : Obligations.StepKeepsMemoryForm := by
  intro s t h hstep
  obtain ⟨-, rfl⟩ | ⟨c, rest, -, hx⟩ := step_cases hstep
  · rw [State.idle]
    split
    · exact State.drainStep_wf _ h
    · exact h
  · exact exec_staysWf c (s := s.withPending rest) h t hx

/-! ### The fuses (R582, R583) -/

/-- What burning may do to the fuses: the floor rises, keys are revoked, and the rest stays. -/
structure Vault.Burned (v w : Vault) : Prop where
  floor : v.svnFloor ≤ w.svnFloor
  revoked : ∀ i, v.krevoked.testBit i = true → w.krevoked.testBit i = true
  kvalid : w.kvalid = v.kvalid
  prod : w.prod = v.prod
  gradeX : w.gradeX = v.gradeX

theorem Vault.Burned.refl (v : Vault) : v.Burned v := ⟨le_rfl, fun _ h => h, rfl, rfl, rfl⟩

/-- Burning speaks of the fuses alone. -/
theorem Vault.Burned.congr {v v' w w' : Vault} (h : v.Burned w) (hv : v'.fuses = v.fuses) (hw : w'.fuses = w.fuses) : v'.Burned w' := by
  simp only [Vault.fuses_eq, Prod.mk.injEq] at hv hw
  obtain ⟨hv1, hv2, hv3, hv4, hv5⟩ := hv
  obtain ⟨hw1, hw2, hw3, hw4, hw5⟩ := hw
  obtain ⟨h1, h2, h3, h4, h5⟩ := h
  exact ⟨by rw [hv1, hw1]; exact h1, by rw [hv2, hw2]; exact h2, by rw [hv3, hw3, h3], by rw [hv4, hw4, h4], by rw [hv5, hw5, h5]⟩

theorem Vault.Burned.of_fuses {v w : Vault} (h : w.fuses = v.fuses) : v.Burned w :=
  (Vault.Burned.refl v).congr rfl h

section
variable {s : State} {slot : Nat} {i : FwInfo}

theorem State.raiseFloor_of_invalid (h : (s.checkSlot slot).info? = none) : s.raiseFloor slot = s := by
  simp only [State.raiseFloor, h]

/-- The vault after a sound image's floor is raised and its keys are revoked, as its header asks. -/
theorem State.raiseFloor_sec (h : (s.checkSlot slot).info? = some i) :
    (s.raiseFloor slot).sec = { s.sec with
      svnFloor := if i.raise then max s.sec.svnFloor i.svn else s.sec.svnFloor
      krevoked := if i.raise && i.revoke then s.sec.krevoked ||| i.mask else s.sec.krevoked } := by
  cases hr : i.raise with
  | false => simp [State.raiseFloor, h, hr]
  | true =>
    simp only [State.raiseFloor, h, hr, Bool.not_true, Bool.false_eq_true, if_false, if_true, Bool.true_and]
    by_cases hsame : max s.sec.svnFloor i.svn = s.sec.svnFloor ∧ (if i.revoke then s.sec.krevoked ||| i.mask else s.sec.krevoked) = s.sec.krevoked
    · rw [if_pos hsame, hsame.1, hsame.2]
    · rw [if_neg hsame, (State.raise_same0 _ _ _ _ _).sec rfl, State.withSec_sec]

theorem State.raiseFloor_burned (s : State) (slot : Nat) : s.sec.Burned (s.raiseFloor slot).sec := by
  cases h : (s.checkSlot slot).info? with
  | none =>
    rw [State.raiseFloor_of_invalid h]
    exact .refl _
  | some i =>
    rw [State.raiseFloor_sec h]
    refine ⟨?_, fun k hk => ?_, rfl, rfl, rfl⟩
    · dsimp only
      split <;> omega
    · dsimp only
      split
      · rw [Nat.testBit_or, hk, Bool.true_or]
      · exact hk

end

/-- An operation whose mask leaves the fuses out burns nothing. -/
theorem Same.burned {m : Nat} {s t : State} (h : Same m s t) (hm : m.testBit 23 = false) : s.sec.Burned t.sec :=
  .of_fuses (h.fuses hm)

/-- The mask of every part but the fuses. -/
def notFuses : Nat := 58720255

theorem State.enablePorts_burned (s : State) : s.sec.Burned s.enablePorts.sec := by
  have hbefore : Same notFuses s s.readyPorts.keepTrial := by simp [notFuses]
  have hafter : Same notFuses (s.readyPorts.keepTrial.raiseFloor s.readyPorts.keepTrial.boot.run) s.enablePorts := by
    unfold State.enablePorts
    simp [notFuses]
  exact (State.raiseFloor_burned _ _).congr (hbefore.fuses rfl).symm (hafter.fuses rfl)

/-- Of the stages of start-up, port enable alone burns fuses. -/
theorem State.endStage_burned (s : State) : s.sec.Burned s.endStage.1.sec := by
  unfold State.endStage
  split
  case h_8 => exact State.enablePorts_burned s
  all_goals exact Same.burned (m := notFuses) (by simp [notFuses]) rfl

theorem execStartupStageComplete_burned {res : StageRes} {s t : State} (h : exec (.startupStageComplete res) s = .next t) :
    s.sec.Burned t.sec := by
  have hstage := State.endStage_burned s
  change execStartupStageComplete res s = .next t at h
  unfold execStartupStageComplete at h
  split at h
  · cases h
    exact .refl _
  · split at h
    · refine Same.burned (m := notFuses) ?_ rfl
      split at h <;> cases h
      · simp [notFuses]
        split_ifs <;> simp
      · simp
    · split at h
      · rename_i u heq
        rw [heq] at hstage
        cases h
        split <;> exact hstage
      · rename_i u heq
        rw [heq] at hstage
        cases h
        exact hstage.congr rfl (((State.recoveryMode_same0 _ _).fuses rfl).trans ((State.drew_same0 u).fuses rfl))

theorem State.adoptImage_burned (s : State) (slot pause : Nat) : s.sec.Burned (s.adoptImage slot pause).sec := by
  unfold State.adoptImage
  dsimp only
  refine (State.raiseFloor_burned _ slot).congr ?_ ((State.raise_same0 _ _ _ _ _).fuses rfl)
  exact (Same.fuses (m := notFuses) (by simp [notFuses]) rfl).symm

theorem execActivationComplete_burned {ok : Bool} {pause : Nat} {s t : State} (h : exec (.activationComplete ok pause) s = .next t) :
    s.sec.Burned t.sec := by
  change execActivationComplete ok pause s = .next t at h
  unfold execActivationComplete at h
  split at h
  · rename_i a _
    split at h <;> cases h
    · exact (State.adoptImage_burned s a.slot pause).congr rfl ((State.endActivation_same0 _ _ _).fuses rfl)
    · exact .refl _
  · cases h
    exact .refl _

/-- Every command but two has the fuses outside its parts. -/
theorem fuses_not_mem_mayChange {c : Instr} (h1 : ∀ res, c ≠ .startupStageComplete res) (h2 : ∀ ok pause, c ≠ .activationComplete ok pause) :
    Part.fuses ∉ mayChange c := by
  have hno : (mayChange c).contains Part.fuses = false := by
    cases c
    case startupStageComplete res => exact absurd rfl (h1 res)
    case activationComplete ok pause => exact absurd rfl (h2 ok pause)
    all_goals rfl
  simpa using hno

theorem exec_fuses {c : Instr} {s t : State} (h : exec c s = .next t) (h1 : ∀ res, c ≠ .startupStageComplete res)
    (h2 : ∀ ok pause, c ≠ .activationComplete ok pause) : t.sec.fuses = s.sec.fuses :=
  exec_onlyChanges h .fuses (fuses_not_mem_mayChange h1 h2)

theorem exec_burned {c : Instr} {s t : State} (h : exec c s = .next t) : s.sec.Burned t.sec := by
  by_cases h1 : ∃ res, c = .startupStageComplete res
  · obtain ⟨res, rfl⟩ := h1
    exact execStartupStageComplete_burned h
  · by_cases h2 : ∃ ok pause, c = .activationComplete ok pause
    · obtain ⟨ok, pause, rfl⟩ := h2
      exact execActivationComplete_burned h
    · push Not at h1 h2
      exact .of_fuses (exec_fuses h h1 h2)

/-- Settles O57: only port enable and an adopted image come to `State.raiseFloor`, which burns; every other command leaves the fuses out. -/
theorem fusesOnlyBurn : Obligations.FusesOnlyBurn := by
  refine ⟨fun s t h => ?_, fun c s t => exec_fuses, fun slot i s h => ?_⟩
  · have hburned : s.sec.Burned t.sec := by
      obtain ⟨-, rfl⟩ | ⟨c, rest, -, hx⟩ := step_cases h
      · exact (State.idle_same0 s).burned rfl
      · exact (exec_burned hx).congr rfl rfl
    exact ⟨hburned.floor, hburned.revoked, hburned.kvalid, hburned.prod, hburned.gradeX⟩
  · rw [State.raiseFloor_sec h]
    exact ⟨rfl, rfl⟩

/-! ### What stops, and the interleaving of DRAM addresses (R586, R588) -/

theorem exec_dramWriteRequest_missing {a d : Nat} {s : State} (h : s.dramSize ≤ a) :
    exec (.dramWriteRequest a d) s = .fault (.noSuchDramAddress a) := if_pos h

theorem exec_dramReadRequest_missing {a : Nat} {y : DramSyms} {s : State} (h : s.dramSize ≤ a) :
    exec (.dramReadRequest a y) s = .fault (.noSuchDramAddress a) := if_pos h

theorem exec_goes_or_stops (c : Instr) (s : State) : (∃ t, exec c s = .next t) ∨
    ∃ a, s.dramSize ≤ a ∧ exec c s = .fault (.noSuchDramAddress a) ∧ ((∃ d, c = .dramWriteRequest a d) ∨ ∃ y, c = .dramReadRequest a y) := by
  by_cases h : DramExists s c
  · exact .inl ((exec_lawful c s).goes h)
  · cases c with
    | dramWriteRequest a d => exact .inr ⟨a, not_lt.mp h, exec_dramWriteRequest_missing (not_lt.mp h), .inl ⟨d, rfl⟩⟩
    | dramReadRequest a y => exact .inr ⟨a, not_lt.mp h, exec_dramReadRequest_missing (not_lt.mp h), .inr ⟨y, rfl⟩⟩
    | _ => exact absurd trivial h

/-- A field that lies inside a wider one is a field of the wider one's value. -/
theorem bits_of_bits {v hi lo h l : Nat} (hl : lo ≤ l) (hlh : l ≤ h) (hh : h ≤ hi) : bits (bits v hi lo) (h - lo) (l - lo) = bits v h l := by
  apply Nat.eq_of_testBit_eq
  intro k
  simp only [bits, Nat.testBit_mod_two_pow, Nat.testBit_shiftRight, Nat.add_comm, ← Nat.add_assoc]
  by_cases hk : k < h + 1 - l
  · have h1 : k < h - lo + 1 - (l - lo) := by omega
    have h2 : k + (l - lo) < hi + 1 - lo := by omega
    have h3 : lo + k + (l - lo) = l + k := by omega
    simp [h1, h2, h3, hk]
  · have h1 : ¬ k < h - lo + 1 - (l - lo) := by omega
    simp [h1, hk]

theorem bits_congr {a b hi lo h l : Nat} (he : bits a hi lo = bits b hi lo) (hl : lo ≤ l) (hlh : l ≤ h) (hh : h ≤ hi) : bits a h l = bits b h l := by
  rw [← bits_of_bits hl hlh hh, he, bits_of_bits hl hlh hh]

/-- A pair of a high part and a low byte is given by its value. -/
theorem highLow_inj {x y p q : Nat} (hp : p < 256) (hq : q < 256) (h : x * 256 + p = y * 256 + q) : x = y ∧ p = q := by
  omega

theorem bits_low_byte_lt (a : Nat) : bits a 7 0 < 256 := Nat.mod_lt _ (by decide)

/-- The three fields of the index are exclusive-ored: with two of them known, the index gives the third. -/
theorem xor_fields_inj {x y p q r t : Nat} (hp : p = q) (hr : r = t) (h : x ^^^ p ^^^ r = y ^^^ q ^^^ t) : x = y := by
  subst hp hr
  exact Nat.xor_left_injective (Nat.xor_left_injective h)

/-- The local address gives its fields. -/
theorem localAddr_fields {a b n : Nat} (h : bits a 35 n * 256 + bits a 7 0 = bits b 35 n * 256 + bits b 7 0) :
    bits a 35 n = bits b 35 n ∧ bits a 7 0 = bits b 7 0 :=
  highLow_inj (bits_low_byte_lt a) (bits_low_byte_lt b) h

theorem addr_ext_four {a b : Nat} (ha : a < 2 ^ 36) (hb : b < 2 ^ 36) (hlow : bits a 7 0 = bits b 7 0) (hmid : bits a 10 8 = bits b 10 8)
    (hhigh : bits a 35 11 = bits b 35 11) : a = b := by
  simp only [bits, Nat.shiftRight_eq_div_pow] at hlow hmid hhigh
  omega

theorem addr_ext_two {a b : Nat} (ha : a < 2 ^ 36) (hb : b < 2 ^ 36) (hlow : bits a 7 0 = bits b 7 0) (hmid : bits a 9 8 = bits b 9 8)
    (hhigh : bits a 35 10 = bits b 35 10) : a = b := by
  simp only [bits, Nat.shiftRight_eq_div_pow] at hlow hmid hhigh
  omega

theorem dram_interleave_inj {a b : Nat} {s : State} (ha : a < 2 ^ 36) (hb : b < 2 ^ 36) (hi : s.subIndex a = s.subIndex b)
    (hl : s.localAddr a = s.localAddr b) : a = b := by
  unfold State.subIndex at hi
  unfold State.localAddr at hl
  by_cases hch : s.channels.length = 4
  · rw [if_pos hch, if_pos hch] at hi hl
    obtain ⟨hhigh, hlow⟩ := localAddr_fields hl
    have hp := bits_congr (h := 21) (l := 19) hhigh (by decide) (by decide) (by decide)
    have hr := bits_congr (h := 32) (l := 30) hhigh (by decide) (by decide) (by decide)
    exact addr_ext_four ha hb hlow (xor_fields_inj hp hr hi) hhigh
  · rw [if_neg hch, if_neg hch] at hi hl
    obtain ⟨hhigh, hlow⟩ := localAddr_fields hl
    have hp := bits_congr (h := 20) (l := 19) hhigh (by decide) (by decide) (by decide)
    have hr := bits_congr (h := 31) (l := 30) hhigh (by decide) (by decide) (by decide)
    exact addr_ext_two ha hb hlow (xor_fields_inj hp hr hi) hhigh

/-- Settles O28: every command goes on or is a request to an address that is missing (log entries 1 and 133); with one local address, two
addresses share the fields that the index is folded with, so that an equal index makes them equal. -/
theorem dramAddresses : Obligations.DramAddresses :=
  ⟨fun _ _ _ _ h => ⟨exec_dramWriteRequest_missing h, exec_dramReadRequest_missing h⟩, exec_goes_or_stops, fun _ _ _ => dram_interleave_inj⟩

end Sys2Proof.Machine

/-!
SUPPORT. Where the Setup Window's registers stand (R6, R652): the bytes that a register takes at its indices, why no two registers share one, and
what `locate` answers; then `Obligations.RegisterLocations`.
-/

namespace Sys2Proof.Machine

open Sys2Proof

/-! ### One index of a register -/

/-- An index in its table's range; a dimension without a stride has the index 0 alone. -/
def IxOk (s n k : Nat) : Prop := if s = 0 then k = 0 else k < n

theorem IxOk.mul_le {s n k : Nat} (h : IxOk s n k) : k * s ≤ (n - 1) * s := by
  unfold IxOk at h
  split at h
  · simp [*]
  · exact Nat.mul_le_mul_right s (by omega)

theorem splitIx_eq_some_iff {d s n k e : Nat} : splitIx d s n = some (k, e) ↔ IxOk s n k ∧ d = k * s + e ∧ (s ≠ 0 → e < s) := by
  unfold splitIx IxOk
  by_cases hs : s = 0
  · subst hs
    simp [eq_comm]
  · have hpos : 0 < s := Nat.pos_of_ne_zero hs
    simp only [hs, if_false, ne_eq, not_false_eq_true, forall_const, Option.ite_none_right_eq_some, Option.some.injEq, Prod.mk.injEq]
    constructor
    · rintro ⟨hlt, rfl, rfl⟩
      exact ⟨hlt, (Nat.div_add_mod' d s).symm, Nat.mod_lt d hpos⟩
    · rintro ⟨hk, rfl, he⟩
      have hdiv : (k * s + e) / s = k := by rw [Nat.mul_comm, Nat.mul_add_div hpos, Nat.div_eq_of_lt he, Nat.add_zero]
      have hmod : (k * s + e) % s = e := by rw [Nat.mul_add_mod', Nat.mod_eq_of_lt he]
      exact ⟨hdiv.symm ▸ hk, hdiv, hmod⟩

/-! ### The bytes of a register -/

/-- Bytes of one register. -/
def Place.size (p : Place) : Nat := if p.wide then 8 else 4

/-- Bytes from the first to the last register of one outer index. -/
def Place.inner (p : Place) : Nat := (p.n2 - 1) * p.s2 + p.size

/-- Bytes from the first to the last register of the name. -/
def Place.span (p : Place) : Nat := (p.n1 - 1) * p.s1 + p.inner

/-- Each stride is at least as long as what it steps over. -/
def Place.strided (p : Place) : Bool := (p.s1 == 0 || decide (p.inner ≤ p.s1)) && (p.s2 == 0 || decide (p.size ≤ p.s2))

/-- The offset is a byte of the register at these indices. -/
structure Place.Holds (p : Place) (i j off : Nat) : Prop where
  ix1 : IxOk p.s1 p.n1 i
  ix2 : IxOk p.s2 p.n2 j
  low : p.base + i * p.s1 + j * p.s2 ≤ off
  high : off < p.base + i * p.s1 + j * p.s2 + p.size

/-- Two names with one outer stride whose rows take different bytes of it. -/
def Place.interleaved (p q : Place) : Bool :=
  p.s1 == q.s1 && p.s1 != 0 && decide (p.base % p.s1 + p.inner ≤ p.s1) && decide (q.base % p.s1 + q.inner ≤ p.s1) &&
    (decide (p.base % p.s1 + p.inner ≤ q.base % p.s1) || decide (q.base % p.s1 + q.inner ≤ p.base % p.s1))

/-- Two names that share no byte: one ends before the other begins, or they interleave. -/
def Place.apart (p q : Place) : Bool :=
  decide (p.base + p.span ≤ q.base) || decide (q.base + q.span ≤ p.base) || p.interleaved q

section
variable {p q : Place} {i j off : Nat}

theorem Place.Holds.in_row (h : p.Holds i j off) : p.base + i * p.s1 ≤ off ∧ off < p.base + i * p.s1 + p.inner := by
  have hj := h.ix2.mul_le
  have hlow := h.low
  have hhigh := h.high
  unfold Place.inner
  omega

theorem Place.Holds.in_span (h : p.Holds i j off) : p.base ≤ off ∧ off < p.base + p.span := by
  have hi := h.ix1.mul_le
  obtain ⟨hlow, hhigh⟩ := h.in_row
  unfold Place.span
  omega

/-- Where a row fits the stride from its residue on, a byte's residue lies within it. -/
theorem Place.Holds.residue (h : p.Holds i j off) (hfit : p.base % p.s1 + p.inner ≤ p.s1) :
    p.base % p.s1 ≤ off % p.s1 ∧ off % p.s1 < p.base % p.s1 + p.inner := by
  obtain ⟨hlow, hhigh⟩ := h.in_row
  obtain ⟨d, rfl⟩ := Nat.exists_eq_add_of_le hlow
  have hd : d < p.inner := by omega
  have hmod : (p.base + i * p.s1 + d) % p.s1 = p.base % p.s1 + d := by
    rw [Nat.add_right_comm, Nat.add_mul_mod_self_right, ← Nat.mod_add_mod, Nat.mod_eq_of_lt (by omega)]
  omega

theorem Place.Holds.not_apart {k l : Nat} (hp : p.Holds i j off) (hq : q.Holds k l off) : p.apart q = false := by
  rw [← Bool.not_eq_true]
  intro h
  have hpspan := hp.in_span
  have hqspan := hq.in_span
  simp only [Place.apart, Place.interleaved, Bool.or_eq_true, Bool.and_eq_true, decide_eq_true_eq, beq_iff_eq] at h
  obtain (hbefore | hafter) | ⟨⟨⟨⟨hstride, -⟩, hpfit⟩, hqfit⟩, hdisjoint⟩ := h
  · omega
  · omega
  · have hpres := hp.residue hpfit
    rw [hstride] at hqfit hdisjoint hpres
    have hqres := hq.residue hqfit
    omega

end

/-! ### The register tables -/

theorem RegName.mem_all (r : RegName) : r ∈ RegName.all := by
  cases r <;> decide

theorem RegName.place_strided (r : RegName) : r.place.strided = true := by
  cases r <;> rfl

/-- Every two names of the tables take different bytes: a check of the tables, row against row. -/
theorem RegName.all_apart : (RegName.all.all fun r => RegName.all.all fun q => r == q || r.place.apart q.place) = true := by
  decide +kernel

/-- A byte belongs to one name. -/
theorem RegName.eq_of_holds {r q : RegName} {i j k l off : Nat} (hr : r.place.Holds i j off) (hq : q.place.Holds k l off) : r = q := by
  have hpair := List.all_eq_true.mp (List.all_eq_true.mp RegName.all_apart r r.mem_all) q q.mem_all
  rw [hr.not_apart hq, Bool.or_false, beq_iff_eq] at hpair
  exact hpair

/-! ### What `locate` answers -/

theorem RegRef.size_eq (q : RegRef) : q.size = q.reg.place.size := rfl

/-- What a name answers for the byte d of its register at two indices in range. -/
theorem RegName.at?_of_byte {r : RegName} {i j d : Nat} (hi : IxOk r.place.s1 r.place.n1 i) (hj : IxOk r.place.s2 r.place.n2 j)
    (hd : d < r.place.size) : r.at? (r.place.base + (i * r.place.s1 + (j * r.place.s2 + d))) = some (⟨r, i, j⟩, decide (4 ≤ d)) := by
  have hstrided := r.place_strided
  simp only [Place.strided, Bool.and_eq_true, Bool.or_eq_true, beq_iff_eq, decide_eq_true_eq] at hstrided
  obtain ⟨h1, h2⟩ := hstrided
  have hrow := hj.mul_le
  have houter : splitIx (i * r.place.s1 + (j * r.place.s2 + d)) r.place.s1 r.place.n1 = some (i, j * r.place.s2 + d) :=
    splitIx_eq_some_iff.mpr ⟨hi, rfl, fun hs => by
      have hle := h1.resolve_left hs
      unfold Place.inner at hle
      omega⟩
  have hinner : splitIx (j * r.place.s2 + d) r.place.s2 r.place.n2 = some (j, d) :=
    splitIx_eq_some_iff.mpr ⟨hj, rfl, fun hs => by
      have hle := h2.resolve_left hs
      omega⟩
  have hbase : ¬ r.place.base + (i * r.place.s1 + (j * r.place.s2 + d)) < r.place.base := by omega
  simp only [RegName.at?, if_neg hbase, Nat.add_sub_cancel_left, houter, hinner]
  unfold Place.size at hd
  by_cases hlow : d < 4
  · simp [hlow, Nat.not_le.mpr hlow]
  · cases hw : r.place.wide
    · simp only [hw, Bool.false_eq_true, if_false] at hd
      exact absurd hd hlow
    · simp only [hw, if_true] at hd
      simp [hlow, hd, Nat.not_lt.mp hlow]

theorem RegName.holds_of_at? {r : RegName} {off : Nat} {q : RegRef} {h : Bool} (hat : r.at? off = some (q, h)) :
    q.reg = r ∧ r.place.Holds q.i q.j off := by
  simp only [RegName.at?] at hat
  split at hat
  · cases hat
  · rename_i hbase
    split at hat
    · cases hat
    · rename_i i d houter
      obtain ⟨hi, hd, -⟩ := splitIx_eq_some_iff.mp houter
      split at hat
      · cases hat
      · rename_i j e hinner
        obtain ⟨hj, he, -⟩ := splitIx_eq_some_iff.mp hinner
        have hbytes : q = ⟨r, i, j⟩ ∧ e < r.place.size := by
          unfold Place.size
          split_ifs at hat ⊢ <;> cases hat
          all_goals simp_all
          all_goals omega
        obtain ⟨rfl, hsize⟩ := hbytes
        exact ⟨rfl, hi, hj, by dsimp only; omega, by dsimp only; omega⟩

theorem RegName.at?_of_holds {r : RegName} {i j off : Nat} (h : r.place.Holds i j off) :
    r.at? off = some (⟨r, i, j⟩, decide (RegRef.off ⟨r, i, j⟩ + 4 ≤ off)) := by
  obtain ⟨hi, hj, hlow, hhigh⟩ := h
  obtain ⟨d, rfl⟩ := Nat.exists_eq_add_of_le hlow
  have hd : d < r.place.size := by omega
  have hsum : r.place.base + i * r.place.s1 + j * r.place.s2 + d = r.place.base + (i * r.place.s1 + (j * r.place.s2 + d)) := by omega
  have hhalf : (4 ≤ d) = (RegRef.off ⟨r, i, j⟩ + 4 ≤ r.place.base + i * r.place.s1 + j * r.place.s2 + d) := by
    simp only [RegRef.off, Nat.add_le_add_iff_left]
  rw [hsum, RegName.at?_of_byte hi hj hd, ← hsum]
  simp only [hhalf]

/-- Only the name whose byte it is answers for an offset. -/
theorem RegName.at?_eq_none {r q : RegName} {i j off : Nat} (h : r.place.Holds i j off) (hne : q ≠ r) : q.at? off = none := by
  cases hat : q.at? off with
  | none => rfl
  | some x => exact absurd (RegName.eq_of_holds (RegName.holds_of_at? hat).2 h) hne

theorem locate_of_holds {r : RegName} {i j off : Nat} (h : r.place.Holds i j off) :
    locate off = some (⟨r, i, j⟩, decide (RegRef.off ⟨r, i, j⟩ + 4 ≤ off)) := by
  cases hloc : locate off with
  | none =>
    have hnone := (List.findSome?_eq_none_iff.mp hloc) r r.mem_all
    rw [RegName.at?_of_holds h] at hnone
    cases hnone
  | some x =>
    obtain ⟨q, -, hat⟩ := List.exists_of_findSome?_eq_some hloc
    obtain rfl := RegName.eq_of_holds (RegName.holds_of_at? hat).2 h
    rw [← hat, RegName.at?_of_holds h]

/-- Settles O58: a name answers exactly for its own registers' bytes, and the tables' bytes are apart, so that `locate` finds the register whose
byte an offset is. -/
theorem registerLocations : Obligations.RegisterLocations := by
  refine ⟨fun r i j hi hj => ⟨?_, fun hwide => ?_⟩, fun off q h hloc => ?_⟩
  · have hpos : 0 < r.place.size := by
      unfold Place.size
      split <;> decide
    have hholds : r.place.Holds i j (RegRef.off ⟨r, i, j⟩) := ⟨hi, hj, le_rfl, Nat.lt_add_of_pos_right hpos⟩
    rw [locate_of_holds hholds]
    simp
  · have hholds : r.place.Holds i j (RegRef.off ⟨r, i, j⟩ + 4) := ⟨hi, hj, Nat.le_add_right _ 4, by
      rw [Place.size, if_pos hwide]
      exact Nat.add_lt_add_left (by decide) _⟩
    rw [locate_of_holds hholds, decide_eq_true le_rfl]
  · obtain ⟨r, -, hat⟩ := List.exists_of_findSome?_eq_some hloc
    obtain ⟨rfl, hholds⟩ := RegName.holds_of_at? hat
    have hsame := hat.symm.trans (RegName.at?_of_holds hholds)
    simp only [Option.some.injEq, Prod.mk.injEq] at hsame
    exact ⟨hholds.low, hholds.high, by rw [hsame.2, decide_eq_true_iff], hholds.ix1, hholds.ix2⟩

end Sys2Proof.Machine

/-!
SUPPORT. Reading DRAM back (R589, R591, R593, R604 to R610): the queues of a sub-channel after a write and a read of one granule, the writes that
a bank in in-order mode issues before the read, and the answer; then `Obligations.DramReadsBackWrites`.
-/

namespace Sys2Proof.Machine

open Sys2Proof

/-! ### A sub-channel, and the place of an address -/

/-- An address's place rests on the configuration alone. -/
theorem State.dramPlace_of_win {s t : State} (h : t.win = s.win) (a : Nat) : t.dramPlace a = s.dramPlace a := by
  cases s; cases t; subst h; rfl

@[simp] theorem Chan.sub_putSub (c : Chan) (k : Nat) (x : SubChan) : (c.putSub k x).sub k = x := by
  unfold Chan.putSub Chan.sub
  split <;> rfl

@[simp] theorem State.chan_setChan (s : State) (n : Nat) (f : Chan → Chan) : (s.setChan n f).chan n = f (s.chan n) := by
  simp [State.setChan, State.putChan, State.chan]

@[simp] theorem State.sub_setSub (s : State) (n k : Nat) (f : SubChan → SubChan) :
    ((s.setSub n k f).chan n).sub k = f ((s.chan n).sub k) := by
  simp [State.setSub]

@[simp] theorem State.sub_countChan (s : State) (n i k j : Nat) : ((s.countChan n i k).chan n).sub j = (s.chan n).sub j := by
  simp [State.countChan, Chan.sub]

theorem State.sub_holdOrder (s : State) (n k : Nat) (h : OrderHold) :
    ((s.holdOrder n k h).chan n).sub k = { (s.chan n).sub k with holds := ((s.chan n).sub k).holds ++ [h] } := by
  unfold State.holdOrder
  dsimp only
  split <;> simp

theorem State.trained_setSub (s : State) (n k : Nat) (f : SubChan → SubChan) : ((s.setSub n k f).chan n).trained = (s.chan n).trained := by
  simp only [State.setSub, State.chan_setChan, Chan.putSub]
  split <;> rfl

@[simp] theorem State.bad_setSub (s : State) (n k : Nat) (f : SubChan → SubChan) : (s.setSub n k f).drm.bad = s.drm.bad := rfl

@[simp] theorem State.bad_countChan (s : State) (n i k : Nat) : (s.countChan n i k).drm.bad = s.drm.bad := rfl

@[simp] theorem State.bad_pruneHolds (s : State) (n k : Nat) : (s.pruneHolds n k).drm.bad = s.drm.bad := rfl

@[simp] theorem State.bad_openBank (s : State) (p : DramPlace) : (s.openBank p).drm.bad = s.drm.bad := by
  unfold State.openBank
  dsimp only
  split
  · rfl
  · (repeat' split) <;> rfl

/-! ### Commands in order of arrival -/

theorem mem_insCmd {c d : DramCmd} {l : List DramCmd} : d ∈ insCmd c l ↔ d = c ∨ d ∈ l := by
  induction l with
  | nil => simp [insCmd]
  | cons e l ih =>
    unfold insCmd
    split
    · simp
    · simp only [List.mem_cons, ih]
      tauto

/-- A command that arrived after every other one, or with the last, comes last. -/
theorem insCmd_last {c : DramCmd} {l : List DramCmd} (h : ∀ d ∈ l, d.seq ≤ c.seq) : insCmd c l = l ++ [c] := by
  induction l with
  | nil => rfl
  | cons e l ih =>
    have he : ¬ c.seq < e.seq := Nat.not_lt.mpr (h e List.mem_cons_self)
    rw [insCmd, if_neg he, ih fun d hd => h d (List.mem_cons_of_mem e hd), List.cons_append]

theorem mem_foldl_insCmd {d : DramCmd} {l acc : List DramCmd} : d ∈ l.foldl (fun l d => insCmd d l) acc ↔ d ∈ l ∨ d ∈ acc := by
  induction l generalizing acc with
  | nil => simp
  | cons e l ih =>
    rw [List.foldl_cons, ih, mem_insCmd, List.mem_cons]
    tauto

theorem foldl_insCmd_last {c : DramCmd} {l : List DramCmd} (h : ∀ d ∈ l, d.seq ≤ c.seq) :
    (l ++ [c]).foldl (fun l d => insCmd d l) [] = l.foldl (fun l d => insCmd d l) [] ++ [c] := by
  rw [List.foldl_append, List.foldl_cons, List.foldl_nil]
  exact insCmd_last fun d hd => h d ((mem_foldl_insCmd.mp hd).resolve_right List.not_mem_nil)

/-- Writes issued one after another change the DRAM alone. -/
theorem issueWrites_same (l : List DramCmd) (s : State) (h : ∀ d ∈ l, ∃ e, d = .wr e) : Same 33619968 s (l.foldl (fun s d => s.issueCmd d) s) := by
  induction l generalizing s with
  | nil => exact Same.refl _ s
  | cons d l ih =>
    obtain ⟨e, rfl⟩ := h d List.mem_cons_self
    exact (State.issueWrite_same0 s e).trans (ih _ fun d hd => h d (List.mem_cons_of_mem _ hd))

theorem issueCmds_wf (l : List DramCmd) (s : State) (h : s.memWf = true) : (l.foldl (fun s d => s.issueCmd d) s).memWf = true := by
  induction l generalizing s with
  | nil => exact h
  | cons d l ih => exact ih _ (State.issueCmd_wf s d h)

/-! ### The answer of a read (R604 to R610) -/

section
variable {s : State} {r : RqEntry}

theorem State.decodeRead_answers (hbad : r.addr ∉ s.drm.bad) (hvirt : r.sym.virt % 2 ^ 32 = 0)
    (hcorr : s.correctable (s.dramPlace r.addr).ch (s.dramPlace r.addr).sub (s.symErrs r.sym) = true) :
    (s.decodeRead r).host.out = .dram r.addr (Mem.readLE 0 64 s.drm.mem r.addr) :: s.host.out := by
  have hgood : (s.drm.bad.contains r.addr || r.sym.virt % 2 ^ 32 != 0 ||
      !s.correctable (s.dramPlace r.addr).ch (s.dramPlace r.addr).sub (s.symErrs r.sym)) = false := by
    rw [hvirt, hcorr]
    simp [hbad]
  unfold State.decodeRead
  dsimp only
  rw [if_neg (by rw [hgood]; decide)]
  split
  · rfl
  · have hhost := (State.corrected_same0 s r (Mem.readLE 0 64 s.drm.mem r.addr) (s.symErrs r.sym)).host rfl
    simp only [State.send, State.withHost_host, hhost]

theorem State.uncorrectable_bad (s : State) (a addrErr : Nat) : a ∈ (s.uncorrectable a addrErr).drm.bad := by
  change a ∈ (if s.drm.bad.contains a then s.drm.bad else s.drm.bad ++ [a])
  split
  · rename_i h
    exact List.contains_iff_mem.mp h
  · simp

theorem State.decodeRead_refuses (h : r.addr ∈ s.drm.bad ∨ r.sym.virt % 2 ^ 32 ≠ 0 ∨
      s.correctable (s.dramPlace r.addr).ch (s.dramPlace r.addr).sub (s.symErrs r.sym) = false) :
    (s.decodeRead r).host.out = s.host.out ∧ r.addr ∈ (s.decodeRead r).drm.bad := by
  have hbad : (s.drm.bad.contains r.addr || r.sym.virt % 2 ^ 32 != 0 ||
      !s.correctable (s.dramPlace r.addr).ch (s.dramPlace r.addr).sub (s.symErrs r.sym)) = true := by
    simp only [Bool.or_eq_true, List.contains_iff_mem, bne_iff_ne, Bool.not_eq_true']
    exact or_assoc.mpr h
  unfold State.decodeRead
  dsimp only
  rw [if_pos hbad]
  exact ⟨congrArg HostSide.out ((State.uncorrectable_same0 _ _ _).host rfl), State.uncorrectable_bad _ _ _⟩

/-- A granule without an error is correctable, whether a device is marked or not. -/
theorem State.correctable_nil (s : State) (ch sub : Nat) : s.correctable ch sub [] = true := by
  unfold State.correctable
  split
  · rfl
  · split <;> rfl

/-- A read issued without an error of a granule that is good sends the granule's bytes. -/
theorem State.issueRead_clean (hbad : r.addr ∉ s.drm.bad) (hsym : r.sym = ⟨[], 0⟩) :
    (s.issueRead r).host.out = .dram r.addr (Mem.readLE 0 64 s.drm.mem r.addr) :: s.host.out := by
  let p := s.dramPlace r.addr
  let u := (((s.setSub p.ch p.sub fun x => { x with rq := x.rq.filter fun w => w.seq != r.seq }).pruneHolds p.ch p.sub).openBank p).countChan p.ch 0 1
  have hsame : Same 65536 s u := by simp [u]
  have hgood : r.addr ∉ u.drm.bad := by simpa [u] using hbad
  have herrs : u.symErrs r.sym = [] := by rw [hsym]; rfl
  have hout : (u.decodeRead r).host.out = .dram r.addr (Mem.readLE 0 64 u.drm.mem r.addr) :: u.host.out :=
    State.decodeRead_answers hgood (by rw [hsym]; rfl) (by rw [herrs]; exact State.correctable_nil _ _ _)
  have hissue : s.issueRead r = (u.decodeRead r).refreshFreed p.ch p.sub p.rank := rfl
  rw [hissue, (State.refreshFreed_same0 _ _ _ _).host rfl, hout, hsame.dmem rfl, hsame.host rfl]

end

/-! ### A write that is queued, and a read of its granule behind it -/

/-- The entry that a write request queues. -/
def wroteEntry (s : State) (a d : Nat) (x : SubChan) : WqEntry := ⟨a, d % 2 ^ 512, s.ao.time, x.next⟩

/-- The entry that a read request without an error queues. -/
def cleanRead (a : Nat) (y : SubChan) : RqEntry := ⟨a, ⟨[], 0⟩, y.next⟩

/-- A sub-channel that has queued one write more. -/
def SubChan.withWrite (x : SubChan) (w : WqEntry) : SubChan := { x with wq := x.wq ++ [w], next := x.next + 1 }

/-- A sub-channel that has queued one read more, which a write of its row holds in order. -/
def SubChan.withRead (y : SubChan) (bank : Nat) (r : RqEntry) : SubChan :=
  { y with holds := y.holds ++ [⟨bank, false, y.next⟩], rq := y.rq ++ [r], next := y.next + 1 }

section
variable {a d : Nat} {s t : State} {p : DramPlace} {x y : SubChan} {w : WqEntry}

theorem State.queueWrite_unread (hp : p = s.dramPlace a) (hx : x = (s.chan p.ch).sub p.sub) (hrq : x.rq = []) :
    s.queueWrite a d = s.setSub p.ch p.sub fun x =>
      { x with wq := x.wq ++ [⟨a, d % 2 ^ 512, s.ao.time, x.next⟩], next := x.next + 1,
               draining := x.draining || decide (s.fld F.DRM_CH_WQ_HIWM p.ch ≤ (x.wq ++ [(⟨a, d % 2 ^ 512, s.ao.time, x.next⟩ : WqEntry)]).length) } := by
  subst hp
  have hnil : ((s.chan (s.dramPlace a).ch).sub (s.dramPlace a).sub).rq = [] := hx ▸ hrq
  unfold State.queueWrite
  simp only [hnil, List.filter_nil, List.getLast?_nil]

/-- The sub-channel after the write: the write is its last, no drain has started, and no read waits. -/
theorem State.sub_queueWrite (hp : p = s.dramPlace a) (hx : x = (s.chan p.ch).sub p.sub) (hrq : x.rq = []) (hdrain : x.draining = false)
    (hmark : x.wq.length + 1 < s.fld F.DRM_CH_WQ_HIWM p.ch) :
    ((s.queueWrite a d).chan p.ch).sub p.sub = x.withWrite (wroteEntry s a d x) := by
  have hbelow : ¬ s.fld F.DRM_CH_WQ_HIWM p.ch ≤ x.wq.length + 1 := by omega
  rw [State.queueWrite_unread hp hx hrq, State.sub_setSub, ← hx]
  simp [SubChan.withWrite, wroteEntry, hdrain, hbelow]

theorem State.dramLive_queueWrite (hp : p = s.dramPlace a) (hx : x = (s.chan p.ch).sub p.sub) (hrq : x.rq = []) :
    (s.queueWrite a d).dramLive a = s.dramLive a := by
  have hplace := State.dramPlace_of_win ((State.queueWrite_same0 s a d).win rfl) a
  rw [State.dramLive, State.dramLive, hplace, State.queueWrite_unread hp hx hrq, hp, State.trained_setSub]

/-- A read behind a write of its granule is held in order. -/
theorem State.sub_joinReads (hp : p = t.dramPlace a) (hy : (t.chan p.ch).sub p.sub = y) (hw : w ∈ y.wq) (hwa : w.addr = a) :
    ((t.joinReads a ⟨[], 0⟩).chan p.ch).sub p.sub = y.withRead p.bank (cleanRead a y) := by
  have hrow : (y.wq.any fun e => t.dramPlace e.addr == p) = true :=
    List.any_eq_true.mpr ⟨w, hw, by rw [hwa, hp, beq_self_eq_true]⟩
  unfold State.joinReads
  simp only [← hp, hy, hrow, if_true, State.sub_setSub, State.sub_holdOrder]
  rfl

theorem State.ordered_withRead {u : State} {ch sub bank : Nat} {r : RqEntry} (hu : (u.chan ch).sub sub = y.withRead bank r) (hw : w ∈ y.wq)
    (hseq : w.seq < y.next) (hbank : (u.dramPlace w.addr).bank = bank) : u.ordered ch sub bank = true := by
  unfold State.ordered
  rw [hu]
  refine List.any_eq_true.mpr ⟨⟨bank, false, y.next⟩, by simp [SubChan.withRead], ?_⟩
  have hholds : u.holds (y.withRead bank r) ⟨bank, false, y.next⟩ = true := by
    unfold State.holds
    exact List.any_eq_true.mpr ⟨w, hw, by simp [hseq, hbank]⟩
  simp [hholds]

/-- Before the read, the bank issues writes alone, and the write of the read's granule last. -/
theorem State.before_cleanRead {u : State} {ch sub : Nat} (hrq : x.rq = []) (hwa : w.addr = a) (hseq : w.seq = x.next)
    (hu : (u.chan ch).sub sub = (x.withWrite w).withRead (u.dramPlace a).bank (cleanRead a (x.withWrite w))) :
    ∃ l : List DramCmd, u.before ch sub (.rd (cleanRead a (x.withWrite w))) = l ++ [.wr w] ∧ ∀ c ∈ l, ∃ e, c = .wr e := by
  let keep : DramCmd → Bool := fun c => decide (c.seq < x.next + 1) && (u.dramPlace c.addr).bank == (u.dramPlace a).bank
  have hself : keep (.rd (cleanRead a (x.withWrite w))) = false := by
    simp [keep, DramCmd.seq, cleanRead, SubChan.withWrite]
  have hwrote : keep (.wr w) = true := by
    simp [keep, DramCmd.seq, DramCmd.addr, hwa, hseq]
  have hlist : u.before ch sub (.rd (cleanRead a (x.withWrite w))) =
      (((x.wq.map DramCmd.wr).filter keep) ++ [DramCmd.wr w]).foldl (fun l d => insCmd d l) [] := by
    have hall : ((u.chan ch).sub sub).rq.map DramCmd.rd ++ ((u.chan ch).sub sub).wq.map DramCmd.wr =
        DramCmd.rd (cleanRead a (x.withWrite w)) :: (x.wq.map DramCmd.wr ++ [DramCmd.wr w]) := by
      rw [hu]
      simp [SubChan.withRead, SubChan.withWrite, hrq]
    change (((((u.chan ch).sub sub).rq.map DramCmd.rd ++ ((u.chan ch).sub sub).wq.map DramCmd.wr).filter keep).foldl _ []) = _
    rw [hall, List.filter_cons, hself, List.filter_append, List.filter_cons, hwrote]
    rfl
  refine ⟨((x.wq.map DramCmd.wr).filter keep).foldl (fun l d => insCmd d l) [], ?_, fun c hc => ?_⟩
  · rw [hlist]
    refine foldl_insCmd_last fun c hc => ?_
    have hkeep := (List.mem_filter.mp hc).2
    simp only [keep, Bool.and_eq_true, decide_eq_true_eq] at hkeep
    have hlast : (DramCmd.wr w).seq = x.next := hseq
    omega
  · have hmem := (mem_foldl_insCmd.mp hc).resolve_right List.not_mem_nil
    obtain ⟨e, -, rfl⟩ := List.mem_map.mp (List.mem_filter.mp hmem).1
    exact ⟨e, rfl⟩

theorem State.mem_issueWrite (s : State) (w : WqEntry) : (s.issueWrite w).drm.mem = Mem.writeLE 0 64 s.drm.mem w.addr w.data := by
  unfold State.issueWrite
  dsimp only [State.withDrm_drm]
  congr 1
  exact Same.dmem (m := 65536) (by simp) rfl

theorem State.bad_issueWrite (s : State) (w : WqEntry) : (s.issueWrite w).drm.bad = s.drm.bad.filter fun a => a != w.addr := by
  simp [State.issueWrite]

/-- The widths of a granule in bytes and in bits. -/
theorem granule_pow : (256 : Nat) ^ 64 = 2 ^ 512 := by
  rw [show (256 : Nat) = 2 ^ 8 from rfl, ← Nat.pow_mul]

/-- A write issued is read back whole, and its granule is good. -/
theorem State.issueRead_after_write (hwf : s.memWf = true) {r : RqEntry} (hr : r.addr = w.addr) (hsym : r.sym = ⟨[], 0⟩) :
    ((s.issueWrite w).issueRead r).host.out = .dram r.addr (w.data % 2 ^ 512) :: s.host.out := by
  have hgood : r.addr ∉ (s.issueWrite w).drm.bad := by
    simp [State.bad_issueWrite, hr]
  obtain ⟨hmem, -, -⟩ := (memWf_iff s).mp hwf
  rw [State.issueRead_clean hgood hsym, (State.issueWrite_same0 s w).host rfl, State.mem_issueWrite, hr, Mem.readLE_writeLE 64 hmem, granule_pow]

/-- The read of a granule behind its write, in a bank held in order: whatever other writes wait, it answers with the data written. -/
theorem State.issue_after_write {u : State} {ch sub : Nat} (hwf : u.memWf = true) (hrq : x.rq = []) (hwa : w.addr = a) (hseq : w.seq = x.next)
    (hu : (u.chan ch).sub sub = (x.withWrite w).withRead (u.dramPlace a).bank (cleanRead a (x.withWrite w))) :
    (u.issue ch sub (.rd (cleanRead a (x.withWrite w)))).host.out = .dram a (w.data % 2 ^ 512) :: u.host.out := by
  have hmem : w ∈ (x.withWrite w).wq := List.mem_append_right _ List.mem_cons_self
  have hordered : u.ordered ch sub (u.dramPlace (DramCmd.rd (cleanRead a (x.withWrite w))).addr).bank = true :=
    State.ordered_withRead hu hmem (by rw [hseq]; exact Nat.lt_succ_self _) (by rw [hwa]; rfl)
  obtain ⟨l, hbefore, hwrites⟩ := State.before_cleanRead hrq hwa hseq hu
  have hissue : u.issue ch sub (.rd (cleanRead a (x.withWrite w))) =
      ((l.foldl (fun s d => s.issueCmd d) u).issueWrite w).issueRead (cleanRead a (x.withWrite w)) := by
    unfold State.issue
    dsimp only
    rw [if_pos hordered, hbefore, List.foldl_append]
    rfl
  rw [hissue, State.issueRead_after_write (issueCmds_wf l u hwf) hwa.symm rfl, (issueWrites_same l u hwrites).host rfl]
  rfl

/-! ### The two requests -/

theorem exec_dramWriteRequest_accepted (hsize : a < s.dramSize) (hal : a % 64 = 0) (hlive : s.dramLive a = true)
    (hroom : ((s.chan (s.dramPlace a).ch).sub (s.dramPlace a).sub).wq.length < 64) :
    exec (.dramWriteRequest a d) s = .next (s.queueWrite a d) := by
  change execDramWriteRequest a d s = _
  unfold execDramWriteRequest
  dsimp only
  rw [if_neg (Nat.not_le.mpr hsize), if_pos ⟨hal, hlive, hroom⟩]

theorem exec_dramReadRequest_accepted {y : DramSyms} (hsize : a < s.dramSize) (hal : a % 64 = 0) (hlive : s.dramLive a = true)
    (hx : x = (s.chan (s.dramPlace a).ch).sub (s.dramPlace a).sub) (hroom : x.rq.length < 64) :
    exec (.dramReadRequest a y) s = .next (if x.draining || !x.rq.isEmpty then s.joinReads a y
      else (s.joinReads a y).issue (s.dramPlace a).ch (s.dramPlace a).sub (.rd ⟨a, y, x.next⟩)) := by
  subst hx
  change execDramReadRequest a y s = _
  unfold execDramReadRequest
  dsimp only
  rw [if_neg (Nat.not_le.mpr hsize), if_pos ⟨hal, hlive, hroom⟩]

/-- The populated capacity rests on the configuration alone. -/
theorem State.dramSize_of_win (h : t.win = s.win) : t.dramSize = s.dramSize := by
  cases s; cases t; subst h; rfl

end

/-- Settles O27: the write's entry holds its bank in order for the read behind it, so that the read issues the bank's writes first and that
write last (log entry 113); a read behind another joins the queue; and a decode answers or refuses. -/
theorem dramReadsBackWrites : Obligations.DramReadsBackWrites := by
  refine ⟨fun a d s x hwf hsize hal hlive hx hrq hdrain hroom hmark => ?_, fun a y s x hsize hal hlive hx hroom hbusy => ?_,
    fun r s => ⟨State.decodeRead_answers, State.decodeRead_refuses⟩⟩
  · obtain ⟨t, ht⟩ : ∃ t, t = s.queueWrite a d := ⟨_, rfl⟩
    obtain ⟨w, hw⟩ : ∃ w, w = wroteEntry s a d x := ⟨_, rfl⟩
    obtain ⟨u, hu⟩ : ∃ u, u = t.joinReads a ⟨[], 0⟩ := ⟨_, rfl⟩
    have htsame : Same 65536 s t := ht ▸ State.queueWrite_same0 s a d
    have husame : Same 65536 t u := hu ▸ State.joinReads_same0 t a ⟨[], 0⟩
    have hplace := State.dramPlace_of_win (htsame.win rfl) a
    have hplace' := State.dramPlace_of_win (husame.win rfl) a
    have hsub : (t.chan (t.dramPlace a).ch).sub (t.dramPlace a).sub = x.withWrite w := by
      rw [hplace, ht, hw]
      exact State.sub_queueWrite rfl hx hrq hdrain hmark
    have hlive' : t.dramLive a = true := by rw [ht, State.dramLive_queueWrite rfl hx hrq, hlive]
    have hwrite := exec_dramWriteRequest_accepted (d := d) hsize hal hlive (hx ▸ hroom)
    have hread := exec_dramReadRequest_accepted (y := ⟨[], 0⟩) ((State.dramSize_of_win (htsame.win rfl)).symm ▸ hsize) hal hlive' hsub.symm
      (by simp [SubChan.withWrite, hrq])
    have hidle : ((x.withWrite w).draining || !(x.withWrite w).rq.isEmpty) = false := by
      simp [SubChan.withWrite, hdrain, hrq]
    rw [if_neg (by rw [hidle]; decide), ← hu] at hread
    refine ⟨t, _, ht ▸ hwrite, hread, ?_⟩
    have hwa : w.addr = a := by rw [hw]; rfl
    have hqueued : (u.chan (t.dramPlace a).ch).sub (t.dramPlace a).sub =
        (x.withWrite w).withRead (u.dramPlace a).bank (cleanRead a (x.withWrite w)) := by
      rw [hu, State.sub_joinReads rfl hsub (List.mem_append_right _ List.mem_cons_self) hwa, ← hu, hplace']
    have hwf' : u.memWf = true := by rw [husame.memWf rfl rfl, htsame.memWf rfl rfl, hwf]
    have hout := State.issue_after_write hwf' hrq hwa (by rw [hw]; rfl) hqueued
    rw [husame.host rfl, htsame.host rfl] at hout
    refine hout.trans (congrArg (fun v => HostOut.dram a v :: s.host.out) ?_)
    rw [hw]
    exact Nat.mod_mod _ _
  · rw [exec_dramReadRequest_accepted hsize hal hlive hx hroom, if_pos]
    rcases hbusy with hd | hne
    · simp [hd]
    · simp [hne]

end Sys2Proof.Machine

/-!
SUPPORT. Accesses of the Setup Window and configuration transactions (R6 to R12, R652 to R660, R745): what a write of a register does where no row
of its own takes it, whole reads and writes of 32 and 64 bits, and the ends of a transaction; then `Obligations.WindowAccesses` and
`Obligations.TransactionCommands`.
-/

namespace Sys2Proof.Machine

open Sys2Proof

/-! ### Writes of one register -/

/-- The registers whose write is an operation of their own, or is open to some agents only. -/
def writeTakers : List RegName :=
  [.EVT_CFG, .EVT_BASE, .EVT_TAILADDR, .SCH_LMON_CFG, .DRM_MR_CMD, .DRM_TRN_CTL, .DRM_TRN_DLY, .MEM_SCR_CTL, .FWS_CMD, .FWS_ADDR, .FWS_BUF]

/-- The registers on which a write acts besides storing its fields. -/
def writeActors : List RegName :=
  [.RLK_CTL, .BPM_POOL_CNT, .CAP_CTL, .CAP_ZQ_PUSH, .HLD_CTL, .LNK_CTL, .LNK_CNT_CLR, .DDK_CNT_CLR, .STR_CNT_CLR, .SEC_MB_CTL, .PWR_CMD,
    .PWR_WAKE_STAT, .GLB_LOCK, .GLB_TXN_CTL, .GLB_TXN_STAT, .FWS_CTL, .FWS_FAULT]

section
variable {s : State} {a : Agent} {r : RegRef} {v : Nat}

theorem State.actOnWrite_of_not_mem (h : r.reg ∉ writeActors) : s.actOnWrite a r v = s := by
  unfold State.actOnWrite
  split
  case h_18 => rfl
  all_goals
    rename_i heq
    exact absurd (heq ▸ (by decide) : r.reg ∈ writeActors) h

/-- The part of a write that every register but those of `writeTakers` has alike. -/
theorem State.writeReg_of_not_mem (h : r.reg ∉ writeTakers) :
    s.writeReg a r v = if outOfRange r.reg v then (if r.reg.maskOf (· == .tx) = 0 then s else s.writeTx a r v).raiseDiscarded r.off a
      else ((if r.reg.maskOf (· == .tx) = 0 then s else s.writeTx a r v).storeFields r v).actOnWrite a r v := by
  have hfws : ¬ ((r.reg = .FWS_ADDR ∨ r.reg = .FWS_BUF) ∧
      (if r.reg.maskOf (· == .tx) = 0 then s else s.writeTx a r v).fwsMay a = false) := by
    rintro ⟨h1 | h1, -⟩ <;> exact h (h1 ▸ (by decide))
  unfold State.writeReg
  dsimp only
  split
  case h_10 => rw [if_neg hfws]
  all_goals
    rename_i heq
    exact absurd (heq ▸ (by decide) : r.reg ∈ writeTakers) h

theorem State.storeFields_of_mask_zero (h : r.reg.maskOf (fun x => x == .rw || (x == .lk && !s.win.locked)) = 0) : s.storeFields r v = s := by
  unfold State.storeFields
  rw [if_pos h]

theorem State.storeFields_of_mask (h : r.reg.maskOf (fun x => x == .rw || (x == .lk && !s.win.locked)) ≠ 0) :
    s.storeFields r v = s.putReg r (merge (s.regWord r) v (r.reg.maskOf fun x => x == .rw || (x == .lk && !s.win.locked))) := by
  unfold State.storeFields
  rw [if_neg h]

/-- A register written leaves the stored word of every register at another offset. -/
theorem State.regWord_putReg_other {q : RegRef} (h : q.off ≠ r.off) : (s.putReg r v).regWord q = s.regWord q := by
  unfold State.regWord State.putReg Window.put Window.defaultWord
  dsimp only [State.withWin_win]
  rw [AMap.get?_ins_other _ _ h]

/-! ### The register tables -/

/-- Every field of a register passes a test of its access code. -/
def RegName.onlyAcc (r : RegName) (p : Acc → Bool) : Bool := r.fields.all fun f => p f.acc

/-- A name that has a property of the tables has it. -/
theorem RegName.of_all {p : RegName → Bool} (h : RegName.all.all p = true) (r : RegName) : p r = true :=
  List.all_eq_true.mp h r r.mem_all

/-- No register of TX and read-only fields alone is written by a row of its own or acts on a write; nor has it fields stored at once. -/
theorem RegName.tx_only_plain {r : RegName} (h : r.onlyAcc (fun a => a == .tx || a == .ro) = true) (htx : r.maskOf (· == .tx) ≠ 0) :
    r ∉ writeTakers ∧ r ∉ writeActors := by
  have htable := RegName.of_all (p := fun r => !r.onlyAcc (fun a => a == .tx || a == .ro) || r.maskOf (· == .tx) == 0 ||
    (!writeTakers.contains r && !writeActors.contains r)) (by decide +kernel) r
  simpa [h, htx] using htable

theorem RegName.maskOf_eq_zero {r : RegName} {p : Acc → Bool} (h : ∀ f ∈ r.fields, p f.acc = false) : r.maskOf p = 0 := by
  have hnone : (r.fields.filter fun f => p f.acc) = [] := List.filter_eq_nil_iff.mpr fun f hf => by simp [h f hf]
  rw [RegName.maskOf, hnone, List.foldl_nil]

/-- A register of RW, LK and read-only fields alone, but for those named, has a write that only stores. -/
theorem RegName.rw_only_plain {r : RegName} (h : r.onlyAcc (fun a => a == .rw || a == .lk || a == .ro) = true)
    (hno : r ∉ [.EVT_CFG, .EVT_BASE, .EVT_TAILADDR, .SCH_LMON_CFG, .DRM_TRN_DLY, .FWS_ADDR, .FWS_BUF, .BPM_POOL_CNT]) :
    r ∉ writeTakers ∧ r ∉ writeActors ∧ r.maskOf (· == .tx) = 0 := by
  have htable := RegName.of_all (p := fun r => !r.onlyAcc (fun a => a == .rw || a == .lk || a == .ro) ||
    [RegName.EVT_CFG, .EVT_BASE, .EVT_TAILADDR, .SCH_LMON_CFG, .DRM_TRN_DLY, .FWS_ADDR, .FWS_BUF, .BPM_POOL_CNT].contains r ||
    (!writeTakers.contains r && !writeActors.contains r && r.maskOf (· == .tx) == 0)) (by decide +kernel) r
  simpa [h, hno, and_assoc] using htable

/-- A 64-bit register with TX fields, but for those named, is written by no row of its own. -/
theorem RegName.wide_tx_plain {r : RegName} (htx : r.maskOf (· == .tx) ≠ 0) (hw : r.place.wide = true)
    (hno : r ∉ [.EVT_BASE, .EVT_TAILADDR, .FWS_ADDR, .FWS_BUF]) : r ∉ writeTakers := by
  have htable := RegName.of_all (p := fun r => r.maskOf (· == .tx) == 0 || !r.place.wide ||
    [RegName.EVT_BASE, .EVT_TAILADDR, .FWS_ADDR, .FWS_BUF].contains r || !writeTakers.contains r) (by decide +kernel) r
  simpa [htx, hw, hno] using htable

/-! ### Registers of RW and LK fields alone (R12, R745) -/

theorem State.writeReg_rw_only (h : r.reg.onlyAcc (fun a => a == .rw || a == .lk || a == .ro) = true)
    (hno : r.reg ∉ [.EVT_CFG, .EVT_BASE, .EVT_TAILADDR, .SCH_LMON_CFG, .DRM_TRN_DLY, .FWS_ADDR, .FWS_BUF, .BPM_POOL_CNT]) :
    s.writeReg a r v = if outOfRange r.reg v then s.raiseDiscarded r.off a else s.storeFields r v := by
  obtain ⟨htakers, hactors, htx⟩ := RegName.rw_only_plain h hno
  rw [State.writeReg_of_not_mem htakers, if_pos htx, State.actOnWrite_of_not_mem hactors]

/-- EVT_BASE and EVT_TAILADDR go to the event ring's own write (R672). -/
theorem State.writeReg_ringAddr (h : r.reg = .EVT_BASE ∨ r.reg = .EVT_TAILADDR) : s.writeReg a r v = s.writeRingAddr a r v := by
  have htx : r.reg.maskOf (· == .tx) = 0 := by rcases h with h | h <;> rw [h] <;> rfl
  unfold State.writeReg
  simp only [htx, if_true]
  rcases h with h | h <;> simp only [h]

/-! ### Whole reads and writes -/

end

section
variable {s : State} {a : Agent} {r : RegRef} {v off : Nat}

theorem State.regAt_of_recov {t : State} (h : t.boot.recov = s.boot.recov) (off : Nat) : t.regAt off = s.regAt off := by
  unfold State.regAt State.blockOpen
  rw [h]

theorem aligned_dword (h : off % 4 = 0) : aligned off 4 = true := by simp [aligned, h]

theorem aligned_qword (h : off % 8 = 0) : aligned off 8 = true := by simp [aligned, h]

theorem State.readDword_undefined (h : s.regAt off = none) : s.readDword a off = (s, 0) := by
  simp only [State.readDword, h]

theorem State.readDword_narrow (h : s.regAt off = some (r, false)) (w : r.reg.place.wide = false) :
    s.readDword a off = (s, s.regView r % 2 ^ 32) := by
  simp only [State.readDword, h, w, Bool.false_eq_true, if_false]

theorem State.writeDword_undefined (h : s.regAt off = none) : s.writeDword a off v = s := by
  simp only [State.writeDword, h]

theorem State.writeDword_narrow (h : s.regAt off = some (r, false)) (w : r.reg.place.wide = false) :
    s.writeDword a off v = s.writeReg a r (v % 2 ^ 32) := by
  simp only [State.writeDword, h, w, Bool.false_eq_true, if_false]

theorem State.writeQword_wide (h : s.regAt off = some (r, false)) (w : r.reg.place.wide = true) :
    s.writeQword a off v = (s.withWin { s.win with held := s.win.held.del (latchKey a r.off) }).writeReg a r (v % 2 ^ 64) := by
  simp only [State.writeQword, h, w, if_true]

/-- A number's two dwords put together again. -/
theorem dwords_joined (n : Nat) : n % 2 ^ 32 + 2 ^ 32 * (n / 2 ^ 32 % 2 ^ 32) = n % 2 ^ 64 := by
  rw [show (2 : Nat) ^ 64 = 2 ^ 32 * 2 ^ 32 from rfl, Nat.mod_mul]

/-- A 64-bit read latches the high dword and takes it at once (R8). -/
theorem State.readQword_wide (hlow : s.regAt off = some (r, false)) (hhigh : s.regAt (off + 4) = some (r, true)) (w : r.reg.place.wide = true) :
    s.readQword a off = (s.withWin { s.win with
      latch := (s.win.latch.ins (latchKey a r.off) (BitVec.ofNat 32 (s.regView r / 2 ^ 32))).del (latchKey a r.off) }, s.regView r % 2 ^ 64) := by
  have hhigh' : (s.withWin { s.win with latch := s.win.latch.ins (latchKey a r.off) (BitVec.ofNat 32 (s.regView r / 2 ^ 32)) }).regAt (off + 4) =
      some (r, true) := (State.regAt_of_recov rfl _).trans hhigh
  unfold State.readQword
  rw [State.readDword_low a hlow w]
  dsimp only
  rw [State.readDword_high_latched a hhigh' (AMap.get?_ins_same _ _ _), BitVec.toNat_ofNat, dwords_joined]
  rfl

/-! ### The commands of an access -/

theorem exec_registerWrite_dword (h : off % 4 = 0) : exec (.registerWrite a off 4 v) s = .next (s.writeDword a off v) := by
  change execRegisterWrite a off 4 v s = _
  simp only [execRegisterWrite, aligned_dword h, Bool.not_true, Bool.false_eq_true, if_false, if_true]

theorem exec_registerWrite_qword (h : off % 8 = 0) : exec (.registerWrite a off 8 v) s = .next (s.writeQword a off v) := by
  change execRegisterWrite a off 8 v s = _
  simp only [execRegisterWrite, aligned_qword h, Bool.not_true, Bool.false_eq_true, if_false, Nat.reduceEqDiff]

theorem exec_lowDwordRead_qword (h : off % 8 = 0) :
    exec (.lowDwordRead a ⟨off, 8⟩) s = .next ((s.readQword a off).1.send (.readValue a off (s.readQword a off).2)) := by
  change execLowDwordRead a ⟨off, 8⟩ s = _
  simp only [execLowDwordRead, aligned_qword h, Bool.not_true, Bool.false_eq_true, if_false, Nat.reduceEqDiff]

theorem exec_misalignedAccess {size : Nat} {write : Bool} (h0 : size ≠ 0) (h8 : size ≤ 8) (hal : aligned off size = false) :
    exec (.misalignedAccess a off size write v) s =
      .next (if write then s.raise 0 0 1 [(4, off), (1, size), (1, b2n write), (1, agentCode a)]
        else (s.raise 0 0 1 [(4, off), (1, size), (1, b2n write), (1, agentCode a)]).send (.readValue a off
          ((s.raise 0 0 1 [(4, off), (1, size), (1, b2n write), (1, agentCode a)]).dwordAt off / 2 ^ (8 * (off % 4)) % 2 ^ (8 * size)))) := by
  change execMisalignedAccess a off size write v s = _
  unfold execMisalignedAccess
  rw [if_neg (by simp [h0, h8, hal])]

end

/-- Settles O6: an access is misaligned, or one dword or quadword of what stands at its offset (log entries 10, 11 and 136); a register of RW and
LK fields alone is stored or, out of range, discarded. -/
theorem windowAccesses : Obligations.WindowAccesses := by
  refine ⟨fun a off size v s h0 h8 hal => ⟨exec_misalignedAccess h0 h8 hal, exec_misalignedAccess h0 h8 hal⟩,
    fun a off v s hal hat => ⟨?_, ?_⟩, fun a r off v s hal hat hw => ⟨?_, ?_⟩, fun a r off v s hal hlow hhigh hw => ⟨?_, ?_⟩,
    fun a r v s hacc hno => ⟨fun hout => ?_, fun hin hm => ?_, fun hin hm => ?_⟩,
    fun a r v s hr => ⟨fun hon => ?_, fun hoff hout => ?_, fun hoff hin => ?_⟩⟩
  · rw [exec_lowDwordRead_dword a s hal, State.readDword_undefined hat]
  · rw [exec_registerWrite_dword hal, State.writeDword_undefined hat]
  · rw [exec_lowDwordRead_dword a s hal, State.readDword_narrow hat hw]
  · rw [exec_registerWrite_dword hal, State.writeDword_narrow hat hw]
  · rw [exec_lowDwordRead_qword hal, State.readQword_wide hlow hhigh hw]
  · rw [exec_registerWrite_qword hal, State.writeQword_wide hlow hw]
  · rw [State.writeReg_rw_only hacc hno, if_pos hout]
  · rw [State.writeReg_rw_only hacc hno, if_neg (by simp [hin]), State.storeFields_of_mask_zero hm]
  · rw [State.writeReg_rw_only hacc hno, if_neg (by simp [hin]), State.storeFields_of_mask hm]
    exact ⟨rfl, fun q hq => State.regWord_putReg_other hq⟩
  · rw [State.writeReg_ringAddr hr, State.writeRingAddr, if_pos hon]
  · rw [State.writeReg_ringAddr hr, State.writeRingAddr, if_neg (by simp [hoff]), if_pos hout]
  · rw [State.writeReg_ringAddr hr, State.writeRingAddr, if_neg (by simp [hoff]), if_neg (by simp [hin])]

/-! ### The ends of a transaction (R655 to R660) -/

section
variable {s : State} {a : Agent} {r : RegRef} {v : Nat}

theorem exec_transactionCommit (a : Agent) (save : Bool) (s : State) : exec (.transactionCommit a save) s = .next (s.commitTxn a save) := rfl

theorem exec_transactionAbort (a : Agent) (s : State) : exec (.transactionAbort a) s = .next (s.abortBy a) := rfl

theorem State.beginTxn_closed (h : s.win.txn.state = 0) : s.beginTxn a = s.withWin { s.win with
    shadow := []
    txn := { s.win.txn with state := 1, owner := agentCode a, txnum := (s.win.txn.txnum + 1) % 65536, lastWrite := s.ao.time, save := false } } := by
  rw [State.beginTxn, if_pos h]

theorem State.beginTxn_open (h : s.win.txn.state ≠ 0) : s.beginTxn a = s.setTxn fun t => { t with beginerr := true } := by
  rw [State.beginTxn, if_neg h]

theorem State.commitTxn_not_owner {save : Bool} (h : s.owns a = false) : s.commitTxn a save = s.setTxn fun t => { t with ownerr := true } := by
  simp [State.commitTxn, h]

theorem State.abortBy_not_owner (h : s.owns a = false) : s.abortBy a = s.setTxn fun t => { t with ownerr := true } := by
  simp [State.abortBy, h]

theorem State.commitTxn_during {save : Bool} (h : s.owns a = true) (hs : s.win.txn.state ≠ 1) : s.commitTxn a save = s := by
  simp [State.commitTxn, h, hs]

theorem State.abortBy_during (h : s.owns a = true) (hs : s.win.txn.state ≠ 1) : s.abortBy a = s := by
  simp [State.abortBy, h, hs]

theorem State.abortBy_owner (h : s.owns a = true) (hs : s.win.txn.state = 1) : s.abortBy a = s.abortTxn 4 := by
  simp [State.abortBy, h, hs]

/-- The state in which the owner's commit validates: the idle time begins anew. -/
def State.touchTxn (s : State) : State := s.setTxn fun t => { t with lastWrite := s.ao.time }

theorem State.commitTxn_rejected {save : Bool} {reason off : Nat} (h : s.owns a = true) (hs : s.win.txn.state = 1)
    (hrej : s.touchTxn.rejection save = some (reason, off)) : s.commitTxn a save = s.touchTxn.rejectTxn reason off := by
  rw [State.commitTxn, if_neg (by simp [h]), if_neg (by simp [hs])]
  unfold State.touchTxn at hrej ⊢
  simp only [hrej]

theorem State.commitTxn_accepted {save : Bool} (h : s.owns a = true) (hs : s.win.txn.state = 1) (hrej : s.touchTxn.rejection save = none) :
    s.commitTxn a save = s.touchTxn.setTxn fun t => { t with state := if save then 3 else 4, save := save } := by
  rw [State.commitTxn, if_neg (by simp [h]), if_neg (by simp [hs])]
  unfold State.touchTxn at hrej ⊢
  simp only [hrej]

/-- An ended transaction has closed with its result and its shadows gone, no register changed, and raised one event. -/
theorem State.endTxn_spec (s : State) (result reason off src code sev : Nat) (pay : List (Nat × Nat)) :
    ((s.endTxn result reason off).raise src code sev pay).win =
        { s.win with shadow := [], txn := { s.win.txn with state := 0, result := result, reason := reason, offset := off, save := false } } ∧
      ((s.endTxn result reason off).raise src code sev pay).ev = (s.raise src code sev pay).ev ∧
      OnlyChanges [.win, .ev] s ((s.endTxn result reason off).raise src code sev pay) := by
  refine ⟨rfl, rfl, Same.onlyChanges_of_covers (m := 6) ?_ rfl⟩
  rw [State.raise_same (by decide)]
  unfold State.endTxn
  simp

theorem OnlyChanges.trans {l : List Part} {s t u : State} (h : OnlyChanges l s t) (k : OnlyChanges l t u) : OnlyChanges l s u := by
  intro p hp
  have h1 := h p hp
  have h2 := k p hp
  cases p <;> exact h2.trans h1

theorem State.rejectTxn_eq (s : State) (reason off : Nat) : s.rejectTxn reason off =
    (s.endTxn 3 reason off).raise 0 3 1 [(2, s.win.txn.txnum), (1, reason), (4, off)] := rfl

theorem State.abortTxn_eq (s : State) (result : Nat) : s.abortTxn result =
    (s.endTxn result s.win.txn.reason s.win.txn.offset).raise 0 4 0 [(2, s.win.txn.txnum), (1, result)] := rfl

theorem State.abortTxn_ends (s : State) (result : Nat) : (s.abortTxn result).win.txn.state = 0 ∧ (s.abortTxn result).win.txn.result = result ∧
    (s.abortTxn result).win.shadow = [] ∧ (s.abortTxn result).win.regs = s.win.regs ∧
    (s.abortTxn result).ev = (s.raise 0 4 0 [(2, s.win.txn.txnum), (1, result)]).ev ∧ OnlyChanges [.win, .ev] s (s.abortTxn result) := by
  obtain ⟨hwin, hev, hframe⟩ := State.endTxn_spec s result s.win.txn.reason s.win.txn.offset 0 4 0 [(2, s.win.txn.txnum), (1, result)]
  rw [State.abortTxn_eq]
  rw [hwin]
  exact ⟨rfl, rfl, rfl, rfl, hev, hframe⟩

/-! ### TX writes (R655) -/

theorem State.writeTx_owner (h : s.owns a = true) (hs : s.win.txn.state = 1) : s.writeTx a r v = s.withWin { s.win with
    shadow := s.win.shadow.ins r.off (BitVec.ofNat 64 (v &&& r.reg.maskOf (· == .tx)))
    txn := { s.win.txn with lastWrite := s.ao.time } } := by
  simp [State.writeTx, h, hs]

theorem State.writeTx_discarded (h : ¬(s.owns a = true ∧ s.win.txn.state = 1)) : s.writeTx a r v = (s.withWin { s.win with
    txn := { s.win.txn with txerr := true } }).raise 0 1 1 [(4, r.off), (1, agentCode a)] := by
  rw [State.writeTx, if_neg (by simpa using h)]
  rfl

/-- A register of TX and read-only fields alone has nothing stored at once. -/
theorem State.storeFields_tx_only (h : r.reg.onlyAcc (fun a => a == .tx || a == .ro) = true) : s.storeFields r v = s := by
  refine State.storeFields_of_mask_zero (RegName.maskOf_eq_zero fun f hf => ?_)
  have hacc := List.all_eq_true.mp h f hf
  cases hf' : f.acc <;> simp [hf'] at hacc ⊢

theorem State.writeReg_tx_only (h : r.reg.onlyAcc (fun a => a == .tx || a == .ro) = true) (htx : r.reg.maskOf (· == .tx) ≠ 0)
    (hin : outOfRange r.reg v = false) : s.writeReg a r v = s.writeTx a r v := by
  obtain ⟨htakers, hactors⟩ := RegName.tx_only_plain h htx
  rw [State.writeReg_of_not_mem htakers, if_neg (by simp [hin]), if_neg htx, State.storeFields_tx_only h, State.actOnWrite_of_not_mem hactors]

theorem State.writeReg_wide_tx (htx : r.reg.maskOf (· == .tx) ≠ 0) (hw : r.reg.place.wide = true) (hin : outOfRange r.reg v = false)
    (hno : r.reg ∉ [.EVT_BASE, .EVT_TAILADDR, .FWS_ADDR, .FWS_BUF]) :
    s.writeReg a r v = ((s.writeTx a r v).storeFields r v).actOnWrite a r v := by
  rw [State.writeReg_of_not_mem (RegName.wide_tx_plain htx hw hno), if_neg (by simp [hin]), if_neg htx]

theorem exec_txWrite_dword {off : Nat} {high : Bool} (hat : s.regAt off = some (r, high)) (htx : r.reg.maskOf (· == .tx) ≠ 0) (hal : off % 4 = 0) :
    exec (.txWrite a off 4 v) s = .next (s.writeDword a off v) := by
  change execTxWrite a off 4 v s = _
  simp [execTxWrite, hat, htx, aligned_dword hal]

theorem exec_txWrite_qword {off : Nat} {high : Bool} (hat : s.regAt off = some (r, high)) (htx : r.reg.maskOf (· == .tx) ≠ 0) (hal : off % 8 = 0) :
    exec (.txWrite a off 8 v) s = .next (s.writeQword a off v) := by
  change execTxWrite a off 8 v s = _
  simp [execTxWrite, hat, htx, aligned_qword hal]

end

theorem beginTxn_opens {a : Agent} {s : State} (h : s.win.txn.state = 0) : ∃ t, exec (.transactionBegin a) s = .next t ∧ t.win.txn.state = 1 ∧
    t.win.txn.owner = agentCode a ∧ t.win.shadow = [] ∧ t.win.txn.txnum = (s.win.txn.txnum + 1) % 65536 ∧
    t.win.regs = s.win.regs ∧ OnlyChanges [.win] s t :=
  ⟨_, congrArg Host.Outcome.next (State.beginTxn_closed h), rfl, rfl, rfl, rfl, rfl, (same_withWin0 s _).onlyChanges_of_covers rfl⟩

/-- Settles O7: the owner and the transaction's state decide each command; a TX write is a register write whose register no row of its own takes
(log entries 13, 15 and 16). -/
theorem transactionCommands : Obligations.TransactionCommands := by
  refine ⟨fun a s => beginTxn_opens, fun a s h => congrArg Host.Outcome.next (State.beginTxn_open h), fun a r off v s hat hal hw hacc htx hin hv => ?_,
    fun a r off v s hat htx => ⟨fun hal hw => ?_, fun hal hw => ?_⟩,
    fun a r v s => ⟨State.writeTx_owner, State.writeTx_discarded, State.writeReg_wide_tx⟩,
    fun a save s h => ⟨congrArg Host.Outcome.next (State.commitTxn_not_owner h), congrArg Host.Outcome.next (State.abortBy_not_owner h)⟩,
    fun a save s h hs => ⟨congrArg Host.Outcome.next (State.commitTxn_during h hs), congrArg Host.Outcome.next (State.abortBy_during h hs)⟩,
    fun a save s h hs => ⟨fun reason off hrej => ?_, fun hrej => ?_⟩, fun a s h hs => ?_, fun s hs htmo => ?_, fun a s => rfl⟩
  · have hwrite : exec (.txWrite a off 4 v) s = .next (s.writeTx a r v) := by
      rw [exec_txWrite_dword hat htx hal, State.writeDword_narrow hat hw, Nat.mod_eq_of_lt hv, State.writeReg_tx_only hacc htx hin]
    exact ⟨fun ho hs => hwrite.trans (congrArg Host.Outcome.next (State.writeTx_owner ho hs)), fun hno => hwrite.trans (congrArg Host.Outcome.next (State.writeTx_discarded hno))⟩
  · rw [exec_txWrite_dword hat htx hal, State.writeDword_narrow hat hw]
  · rw [exec_txWrite_qword hat htx hal, State.writeQword_wide hat hw]
  · obtain ⟨hwin, hev, hframe⟩ := State.endTxn_spec s.touchTxn 3 reason off 0 3 1 [(2, s.touchTxn.win.txn.txnum), (1, reason), (4, off)]
    have htouch : OnlyChanges [.win, .ev] s s.touchTxn := (same_withWin0 s _).onlyChanges_of_covers rfl
    refine ⟨_, congrArg Host.Outcome.next (State.commitTxn_rejected h hs hrej), ?_⟩
    rw [State.rejectTxn_eq, hwin]
    exact ⟨rfl, rfl, rfl, rfl, rfl, rfl, hev, htouch.trans hframe⟩
  · exact congrArg Host.Outcome.next (State.commitTxn_accepted h hs hrej)
  · exact ⟨_, congrArg Host.Outcome.next (State.abortBy_owner h hs), State.abortTxn_ends s 4⟩
  · exact ⟨_, if_pos ⟨hs, htmo⟩, State.abortTxn_ends s 6⟩

end Sys2Proof.Machine

/-!
SUPPORT. The buffer pool manager's grant (R201, R203, R224): what serving a request does to tags, waits and stack, and a credit span whose ring may
not grow any more; then `Obligations.BufferGrants`.
-/

namespace Sys2Proof.Machine

open Sys2Proof

section
variable {s t : State} {p g n : Nat} {r : BufReq}

theorem exec_bufferGrant (p : Nat) (s : State) : exec (.bufferGrant p) s = execBufferGrant p s := rfl

theorem exec_bufferGrant_served (hr : s.nextRequest p = some r) (hg : s.topGranule p = some g) : exec (.bufferGrant p) s = .next (s.serve r g) := by
  simp only [exec_bufferGrant, execBufferGrant, hr, hg]

theorem exec_bufferGrant_waits (h : s.nextRequest p = none ∨ s.topGranule p = none) : exec (.bufferGrant p) s = .next s := by
  rw [exec_bufferGrant, execBufferGrant]
  rcases h with h | h
  · rw [h]
  · cases s.nextRequest p <;> rw [h]

/-- The next request of a pool asks for a granule of that pool. -/
theorem State.nextRequest_pool (h : s.nextRequest p = some r) : r.pool = p := by
  unfold State.nextRequest at h
  split at h
  · rename_i q hq
    have hfound := List.find?_some hq
    simp only [Bool.and_eq_true, beq_iff_eq] at hfound
    rw [← Option.some.inj h]
    exact hfound.1
  · have hfound := List.find?_some h
    simp only [Bool.and_eq_true, beq_iff_eq] at hfound
    exact hfound.1

/-! ### The credit of a ring after a loan -/

theorem State.relevel_paused (s : State) (p : Nat) : (s.relevel p).host.paused = s.host.paused := by
  unfold State.relevel
  dsimp only
  split
  · rfl
  · rw [(State.raise_same0 _ _ _ _ _).host rfl]
    split <;> rfl

/-- Whether a ring's credit may grow rests on the ring, its registers, the flush and the pause. -/
theorem State.spanOpen_congr (hwin : t.win = s.win) (hcap : t.cap = s.cap) (hhld : t.hld = s.hld) (hpause : t.host.paused = s.host.paused) :
    t.spanOpen n = s.spanOpen n := by
  have hring : t.capRing n = s.capRing n := by rw [State.capRing, State.capRing, hcap]
  unfold State.spanOpen State.creditMax
  rw [hring, hhld, hpause, State.fld_win hwin]

theorem State.spanOpen_lend (owner : Nat) : (s.lend p g owner).spanOpen n = s.spanOpen n := by
  have hsame := State.lend_same0 s p g owner
  exact State.spanOpen_congr (hsame.win rfl) (hsame.cap rfl) (hsame.hld rfl) (State.relevel_paused _ _)

/-! ### Delivery -/

theorem State.takeSpan_open (h : s.spanOpen n = true) : s.takeSpan n g =
    (s.setCapRing n fun r => { r with spans := r.spans ++ [(r.crlim / mib, g)], crlim := r.crlim + mib }).pushCredit n := by
  rw [State.takeSpan, if_pos h]

theorem State.takeSpan_closed (h : s.spanOpen n = false) : s.takeSpan n g = s.giveBackAll [(5, g)] := by
  rw [State.takeSpan, if_neg (by simp [h])]

/-- A granule delivered leaves the pools as they were, but for a span that its ring may not take. -/
theorem State.deliver_bpm {who : BufWho} (h : ∀ n, who = .span n → s.spanOpen n = true) : (s.deliver who p g).bpm = s.bpm := by
  cases who with
  | cmd r => rfl
  | span n =>
    rw [State.deliver, State.takeSpan_open (h n rfl), (State.pushCredit_same0 _ _).bpm rfl, (State.setCapRing_same0 _ _ _).bpm rfl]
  | marker n => exact (State.setCapRing_same0 _ _ _).bpm rfl
  | record q => rfl

/-- The request served has left the queue, and its granule the stack, with the owner's tag. -/
theorem State.serve_spec (h : ∀ n, r.who = .span n → s.spanOpen n = true) :
    (s.serve r g).bpm.tags = s.bpm.tags.ins (tagKey r.pool g) { owner := r.owner, named := s.flag F.BPM_CTL_NOM || r.owner == ownerSelfTest, count := 1 } ∧
    (s.serve r g).bpm.waits = removeFirst r s.bpm.waits ∧ (s.serve r g).bpm.refWaits = s.bpm.refWaits ∧
    ((s.serve r g).pool r.pool).freed = (s.pool r.pool).freed.tail := by
  have hbpm : (s.serve r g).bpm = ((s.withBpm { s.bpm with waits := removeFirst r s.bpm.waits }).lend r.pool g r.owner).bpm :=
    State.deliver_bpm fun n hn => (State.spanOpen_lend r.owner).trans (h n hn)
  obtain ⟨htags, hwaits, hrefs, hfreed⟩ := State.lend_spec (s.withBpm { s.bpm with waits := removeFirst r s.bpm.waits }) r.pool g r.owner
  rw [State.pool] at hfreed ⊢
  rw [hbpm]
  exact ⟨htags, hwaits, hrefs, hfreed⟩

theorem State.serve_closed_span (hn : r.who = .span n) (h : s.spanOpen n = false) :
    s.serve r g = ((s.withBpm { s.bpm with waits := removeFirst r s.bpm.waits }).lend r.pool g r.owner).giveBackAll [(5, g)] := by
  rw [State.serve, hn]
  exact State.takeSpan_closed ((State.spanOpen_lend r.owner).trans h)

end

/-- Settles O8: a grant is the service of the pool's next request with its top granule; a span that its ring may not take goes back at once
(log entry 63). -/
theorem bufferGrants : Obligations.BufferGrants := by
  refine fun p s => ⟨fun r g hr hg hspan => ?_, fun r g n hr hg hwho hclosed => ?_, exec_bufferGrant_waits⟩
  · have hserved := exec_bufferGrant_served hr hg
    obtain ⟨htags, hwaits, hrefs, hfreed⟩ := State.serve_spec (g := g) hspan
    obtain rfl := State.nextRequest_pool hr
    exact ⟨_, hserved, htags, hwaits, hrefs, hfreed, exec_onlyChanges hserved⟩
  · rw [exec_bufferGrant_served hr hg, State.serve_closed_span hwho hclosed, State.nextRequest_pool hr]

end Sys2Proof.Machine

/-!
SUPPORT. The hold-up bank and its energy tests (R244 to R256): each command of a test from the state that enables it; then
`Obligations.EnergyTests`.
-/

namespace Sys2Proof.Machine

open Sys2Proof

section
variable {s : State} {v v0 v1 tns : Nat}

theorem exec_bankReady (v : Nat) (s : State) : exec (.bankReady v) s = execBankReady v s := rfl

theorem exec_energyTestStart (v0 v1 : Nat) (s : State) : exec (.energyTestStart v0 v1) s = execEnergyTestStart v0 v1 s := rfl

theorem exec_energyTestComplete (v : Nat) (s : State) : exec (.energyTestComplete v) s = execEnergyTestComplete v s := rfl

/-! ### Requests for a test (R246) -/

theorem State.requestTest_none (h : s.hld.test = .none) : s.requestTest = s.withHld { s.hld with test := .waiting } := by
  rw [State.requestTest, h]

theorem State.requestTest_waiting (h : s.hld.test = .waiting) : s.requestTest = s := by
  rw [State.requestTest, h]

theorem State.requestTest_running (h : s.hld.test = .loaded ∨ s.hld.test = .recharging) : s.requestTest = s.withHld { s.hld with again := true } := by
  rw [State.requestTest]
  rcases h with h | h <;> rw [h]

/-! ### The bank (R244, R246) -/

theorem exec_bankReady_again (hb : s.hld.bank = .uncharged ∨ s.hld.bank = .charging) (hlo : s.fld F.HLD_VOLT_VCHG ≤ v + 25)
    (hhi : v ≤ s.fld F.HLD_VOLT_VCHG + 25) (hw : s.hld.wasReady = true) :
    exec (.bankReady v) s = .next (s.withHld { s.hld with bank := .ready, vbank := v, wasReady := true }) := by
  rw [exec_bankReady, execBankReady]
  simp only [hb, hlo, hhi, hw, and_self, if_true, Bool.not_true, Bool.false_eq_true, if_false]

theorem exec_bankReady_first (hb : s.hld.bank = .uncharged ∨ s.hld.bank = .charging) (hlo : s.fld F.HLD_VOLT_VCHG ≤ v + 25)
    (hhi : v ≤ s.fld F.HLD_VOLT_VCHG + 25) (hw : s.hld.wasReady = false) (ht : s.hld.test = .none) :
    exec (.bankReady v) s = .next ((s.withHld { s.hld with bank := .ready, vbank := v, wasReady := true, test := .waiting }).raise 0x010 0 0
      [(2, v), (4, s.ao.time / 1000)]) := by
  rw [exec_bankReady, execBankReady]
  simp only [hb, hlo, hhi, hw, and_self, if_true, Bool.not_false]
  exact congrArg Host.Outcome.next (State.requestTest_none (s := State.raise _ _ _ _ _) ht)

/-! ### The start of a test (R247) -/

/-- The bank under load: the budget is b_test, and the ESR follows from the two voltages. -/
def State.loadBank (s : State) (v0 v1 : Nat) : State := s.withHld { s.hld with
  test := .loaded, bank := .testing, v0 := v0, v1 := v1, vbank := v1, budget := s.testBudget
  esr := (v0 - v1) * 10000 / s.fld F.HLD_TEST_IMA }

theorem exec_energyTestStart_starts (ht : s.hld.test = .waiting) (hb : s.hld.bank = .ready) (hr : s.hld.resv ≤ s.testBudget) (hv : v1 ≤ v0) :
    exec (.energyTestStart v0 v1) s = .next (if s.hld.result = 0
      then (if s.testBudget < budgetMin then (s.loadBank v0 v1).enterWt (s.loadBank v0 v1).wtWhy else s.loadBank v0 v1)
      else (if s.testBudget < budgetMin then (s.loadBank v0 v1).enterWt (s.loadBank v0 v1).wtWhy else s.loadBank v0 v1).checkMargin).pressCredit := by
  have hresult : (if s.testBudget < budgetMin then (s.loadBank v0 v1).enterWt (s.loadBank v0 v1).wtWhy else s.loadBank v0 v1).hld.result =
      s.hld.result := by
    split
    · unfold State.enterWt
      split <;> rfl
    · rfl
  rw [exec_energyTestStart, execEnergyTestStart, if_pos ⟨ht, hb, hr, hv⟩, ← hresult]
  rfl

/-- Entering write-through mode is what the hold-up controller's flag and its event say of it. -/
theorem State.raise_hld (s : State) (fam code sev : Nat) (data : List (Nat × Nat)) :
    (s.raise fam code sev data).hld = s.hld := rfl

theorem State.enterWt_hld (s : State) (cause : Nat) :
    (s.enterWt cause).hld = { s.hld with wt := true, wtCause := if s.hld.wt then s.hld.wtCause else cause } := by
  unfold State.enterWt
  split
  · rename_i h
    cases hh : s.hld
    simp_all
  · rename_i h
    simp [State.raise]

theorem State.leaveWt_hld (s : State) : (s.leaveWt).hld = { s.hld with wt := false, wtCause := if s.hld.wt then 0 else s.hld.wtCause } := by
  unfold State.leaveWt
  split
  · rename_i h
    simp [State.raise]
  · rename_i h
    cases hh : s.hld
    simp_all

theorem State.checkMargin_hld (s : State) : s.checkMargin.hld = s.hld := (State.checkMargin_same0 s).hld rfl

theorem energyTestStart_spec (ht : s.hld.test = .waiting) (hb : s.hld.bank = .ready) (hr : s.hld.resv ≤ s.testBudget) (hv : v1 ≤ v0) :
    ∃ t : State, exec (.energyTestStart v0 v1) s = .next t.pressCredit ∧ t.hld.test = .loaded ∧ t.hld.bank = .testing ∧
      t.hld.budget = s.testBudget ∧ t.hld.esr = (v0 - v1) * 10000 / s.fld F.HLD_TEST_IMA ∧ t.hld.v1 = v1 ∧ t.hld.resv = s.hld.resv ∧
      t.hld.wt = (s.hld.wt || decide (s.testBudget < budgetMin)) ∧
      OnlyChanges [.ev, .host, .col, .bpm, .hld, .med, .sec, .drm, .mgt] s t := by
  refine ⟨_, exec_energyTestStart_starts ht hb hr hv, ?_⟩
  obtain ⟨u, hu⟩ : ∃ u, u = if s.testBudget < budgetMin then (s.loadBank v0 v1).enterWt (s.loadBank v0 v1).wtWhy else s.loadBank v0 v1 := ⟨_, rfl⟩
  rw [← hu]
  have hhld : (if s.hld.result = 0 then u else u.checkMargin).hld = u.hld := by
    split
    · rfl
    · exact State.checkMargin_hld u
  have husame : Same 1097916 s u := by
    rw [hu]
    split <;> simp [State.loadBank]
  have hframe : OnlyChanges [.ev, .host, .col, .bpm, .hld, .med, .sec, .drm, .mgt] s (if s.hld.result = 0 then u else u.checkMargin) := by
    refine Same.onlyChanges_of_covers (m := 1097916) ?_ rfl
    split
    · exact husame
    · exact husame.trans ((State.checkMargin_same0 u).mono (by decide))
  rw [hhld]
  refine ⟨?_, ?_, ?_, ?_, ?_, ?_, ?_, hframe⟩
  all_goals
    rw [hu]
    split
    all_goals simp [State.enterWt_hld, State.loadBank, *]

/-! ### The end of a test (R247, R248, R255) -/

/-- A test passes exactly if the ESR is at most its limit and the new budget at least the least one. -/
def State.testPasses (s : State) : Bool :=
  decide (s.hld.esr ≤ s.fld F.HLD_ESRMAX_MOHM) && decide (budgetMin ≤ s.budgetOf s.hld.cuf (s.fld F.HLD_VOLT_VCHG))

/-- The hold-up controller once a test has ended, before its report. -/
def State.testEnded (s : State) (v : Nat) : Holdup := { s.hld with
  test := if s.hld.again then .waiting else .none
  again := false, bank := .ready, vbank := v, testEnd := s.ao.time
  result := if s.testPasses then 1 else if s.hld.esr ≤ s.fld F.HLD_ESRMAX_MOHM then 3 else 2
  cPass := if s.testPasses then s.hld.cuf else s.hld.cPass
  limit := s.budgetLimit s.hld.cuf (s.fld F.HLD_VOLT_VCHG)
  budget := if s.testPasses then s.budgetOf s.hld.cuf (s.fld F.HLD_VOLT_VCHG) else 0 }

theorem energyTestComplete_ends (ht : s.hld.test = .recharging) (hlo : s.fld F.HLD_VOLT_VCHG ≤ v + 25) (hhi : v ≤ s.fld F.HLD_VOLT_VCHG + 25) :
    ∃ t : State, exec (.energyTestComplete v) s = .next t.pressCredit ∧ t.hld = { s.testEnded v with
      wt := !s.testPasses
      wtCause := if s.testPasses then (if s.hld.wt then 0 else s.hld.wtCause) else (if s.hld.wt then s.hld.wtCause else 2) } := by
  rw [exec_energyTestComplete, execEnergyTestComplete]
  simp only [ht, hlo, hhi, and_self, if_true]
  refine ⟨_, rfl, ?_⟩
  rw [State.checkMargin_hld]
  have hpass : (decide (s.hld.esr ≤ s.fld F.HLD_ESRMAX_MOHM) && decide (budgetMin ≤ s.budgetOf s.hld.cuf (s.fld F.HLD_VOLT_VCHG))) = s.testPasses := rfl
  simp only [hpass]
  have hraised : ∀ (b : Bool) (x : State) fam code sev data, (if b then x.raise fam code sev data else x).hld = x.hld := by
    intro b x fam code sev data
    split <;> rfl
  cases hp : s.testPasses
  · simp only [Bool.false_eq_true, if_false]
    rw [State.enterWt_hld, hraised, State.raise_hld]
    simp [State.testEnded, hp]
    rfl
  · simp only [if_true]
    rw [State.leaveWt_hld, hraised, State.raise_hld]
    simp [State.testEnded, hp]
    rfl

theorem State.testPasses_eq_true : s.testPasses = true ↔
    s.hld.esr ≤ s.fld F.HLD_ESRMAX_MOHM ∧ budgetMin ≤ s.budgetOf s.hld.cuf (s.fld F.HLD_VOLT_VCHG) := by
  simp [State.testPasses]

theorem energyTestComplete_spec (ht : s.hld.test = .recharging) (hlo : s.fld F.HLD_VOLT_VCHG ≤ v + 25) (hhi : v ≤ s.fld F.HLD_VOLT_VCHG + 25) :
    ∃ t : State, exec (.energyTestComplete v) s = .next t.pressCredit ∧ t.hld.bank = .ready ∧ t.hld.vbank = v ∧ t.hld.testEnd = s.ao.time ∧
      t.hld.test = (if s.hld.again then TestPhase.waiting else TestPhase.none) ∧ t.hld.again = false ∧
      t.hld.limit = s.budgetLimit s.hld.cuf (s.fld F.HLD_VOLT_VCHG) ∧
      (s.hld.esr ≤ s.fld F.HLD_ESRMAX_MOHM ∧ budgetMin ≤ s.budgetOf s.hld.cuf (s.fld F.HLD_VOLT_VCHG) →
        t.hld.result = 1 ∧ t.hld.budget = s.budgetOf s.hld.cuf (s.fld F.HLD_VOLT_VCHG) ∧ t.hld.cPass = s.hld.cuf ∧ t.hld.wt = false) ∧
      (¬(s.hld.esr ≤ s.fld F.HLD_ESRMAX_MOHM ∧ budgetMin ≤ s.budgetOf s.hld.cuf (s.fld F.HLD_VOLT_VCHG)) →
        t.hld.result = (if s.fld F.HLD_ESRMAX_MOHM < s.hld.esr then 2 else 3) ∧ t.hld.budget = 0 ∧ t.hld.cPass = s.hld.cPass ∧ t.hld.wt = true) := by
  obtain ⟨t, hexec, hhld⟩ := energyTestComplete_ends ht hlo hhi
  refine ⟨t, hexec, ?_⟩
  rw [hhld]
  refine ⟨rfl, rfl, rfl, rfl, rfl, rfl, fun hpass => ?_, fun hfail => ?_⟩
  · have hp := State.testPasses_eq_true.mpr hpass
    simp [State.testEnded, hp]
  · have hp : s.testPasses = false := by rw [← Bool.not_eq_true, State.testPasses_eq_true]; exact hfail
    simp only [State.testEnded, hp, Bool.not_false, Bool.false_eq_true, if_false, and_self, and_true]
    by_cases hesr : s.hld.esr ≤ s.fld F.HLD_ESRMAX_MOHM
    · rw [if_pos hesr, if_neg (Nat.not_lt.mpr hesr)]
    · rw [if_neg hesr, if_pos (Nat.lt_of_not_le hesr)]

end

/-- While reserved credit is within three quarters of the budget, no stripe closes early. -/
theorem State.pressCredit_within {t : State} (h : 4 * t.hld.resv ≤ 3 * t.hld.budget) : t.pressCredit = t := by
  rw [State.pressCredit, if_neg]
  simp only [Bool.and_eq_true, decide_eq_true_eq, not_and, not_lt]
  exact fun _ => h

/-- Settles O10: each command by the phase of the test and of the bank that enables it. -/
theorem energyTests : Obligations.EnergyTests := by
  refine ⟨fun v s hb hv => if_pos ⟨hb, hv⟩, fun v s hb hlo hhi => ⟨exec_bankReady_again hb hlo hhi, exec_bankReady_first hb hlo hhi⟩,
    fun a s => ⟨fun h => ?_, fun h => ?_, fun h => ?_⟩, fun v0 v1 s => energyTestStart_spec, fun v tns s ht hv => if_pos ⟨ht, hv⟩,
    fun v s => energyTestComplete_spec, fun t => State.pressCredit_within⟩
  · exact ⟨congrArg Host.Outcome.next (State.requestTest_none h), congrArg Host.Outcome.next (State.requestTest_none h)⟩
  · exact ⟨congrArg Host.Outcome.next (State.requestTest_waiting h), congrArg Host.Outcome.next (State.requestTest_waiting h)⟩
  · exact ⟨congrArg Host.Outcome.next (State.requestTest_running h), congrArg Host.Outcome.next (State.requestTest_running h)⟩

end Sys2Proof.Machine

/-! SUPPORT: the loss of VIN and the Schuss flush (R257 to R266, R401): O11. The area of an image, its sequence number mod 2, is log entry 74, the
model's choice. -/
namespace Sys2Proof.Machine
open Sys2Proof

section
variable {s : State} {cause : Nat}

/-! ### Starting a flush (R258, R266) -/

/-- A flush that starts changes the hold-up controller, the DRAM's refresh, the links' lanes, the board and the domains alone. -/
theorem State.startFlush_starts (hf : s.hld.flush = .none) (he : s.host.enabled = true) :
    (s.startFlush cause).hld = { s.hld with bank := .flushing, flush := .draining, flushCause := cause, test := .none } ∧
    (s.startFlush cause).brd.vin = s.brd.vin ∧ (s.startFlush cause).str = s.str ∧ (s.startFlush cause).jnl = s.jnl ∧
    (s.startFlush cause).med = s.med := by
  rw [State.startFlush, if_neg (not_not.mpr hf), he]
  simp only [Bool.not_true, Bool.false_eq_true, if_false]
  split
  · exact ⟨(State.domainsForFlush_same0 _).hld rfl, (congrArg Board.vin ((State.domainsForFlush_same0 _).brd rfl)).trans rfl, (State.domainsForFlush_same0 _).str rfl,
      (State.domainsForFlush_same0 _).jnl rfl, (State.domainsForFlush_same0 _).med rfl⟩
  · exact ⟨(State.domainsForFlush_same0 _).hld rfl, (congrArg Board.vin ((State.domainsForFlush_same0 _).brd rfl)).trans rfl, (State.domainsForFlush_same0 _).str rfl,
      (State.domainsForFlush_same0 _).jnl rfl, (State.domainsForFlush_same0 _).med rfl⟩

theorem vinLossConfirmed_starts {since : Nat} (hv : s.hld.vinLow = some since) (hf : s.hld.flush = .none) (he : s.host.enabled = true) :
    ∃ t, exec .vinLossConfirmed s = .next t ∧ t.hld.flush = .draining ∧ t.hld.flushCause = 2 ∧ t.hld.bank = .flushing ∧ t.hld.test = .none ∧
      t.brd.vin = false ∧ t.str = s.str ∧ t.jnl = s.jnl ∧ t.med.flash = s.med.flash := by
  obtain ⟨hhld, hvin, hstr, hjnl, hmed⟩ :=
    State.startFlush_starts (s := s.withBrd { s.brd with vin := false, iso := false }) (cause := 2) hf he
  refine ⟨_, if_pos ⟨by rw [hv]; rfl, hf⟩, ?_⟩
  rw [hhld, hmed]
  exact ⟨rfl, rfl, rfl, rfl, hvin, hstr, hjnl, rfl⟩

/-- The value a forced flush writes to HLD_CTL: FORCE, KEY and TEST (R246, R266). -/
theorem forcedFlush_word (key test : Nat) :
    (key % 256 * 256 + 2 + test % 2).testBit 1 = true ∧ bits (key % 256 * 256 + 2 + test % 2) 15 8 = key % 256 := by
  constructor
  · rw [Nat.testBit_eq_decide_div_mod_eq, decide_eq_true_eq]
    omega
  · simp only [bits]
    omega

theorem exec_forcedFlush_eq (a : Agent) (key test : Nat) (s : State) :
    exec (.forcedFlush a key test) s = .next (if key % 256 = 0x5C then s.startFlush 6 else s) := by
  change Host.Outcome.next (s.writeHldCtl _) = _
  rw [State.writeHldCtl, (forcedFlush_word key test).1, (forcedFlush_word key test).2, if_pos rfl]

theorem forcedFlush_starts (a : Agent) {key : Nat} (test : Nat) (hf : s.hld.flush = .none) (he : s.host.enabled = true) (hk : key % 256 = 0x5C) :
    ∃ t, exec (.forcedFlush a key test) s = .next t ∧ t.hld.flush = .draining ∧ t.hld.flushCause = 6 ∧ t.hld.bank = .flushing ∧
      t.hld.test = .none ∧ t.str = s.str ∧ t.jnl = s.jnl := by
  obtain ⟨hhld, -, hstr, hjnl, -⟩ := State.startFlush_starts (cause := 6) hf he
  refine ⟨_, (exec_forcedFlush_eq a key test s).trans (by rw [if_pos hk]), ?_⟩
  rw [hhld]
  exact ⟨rfl, rfl, rfl, rfl, hstr, hjnl⟩

/-! ### The image (R259 to R263) -/

/-- The image that a composition puts in its area. -/
def State.newImage (s : State) : Image :=
  let tail := (s.jnl.closePage.recs.filter JRec.inTail).map fun r => { r with credit := false, buf := none }
  { area := (s.hld.imgSeq + 1) % 2, seq := s.hld.imgSeq + 1, ceiling := s.jnl.ceiling, time := s.hld.vinLow.getD s.ao.time, budget := s.hld.budget / mib
    units := s.imageUnits
    pages := s.jnl.closePage.pages.map fun p => { p with used := ((tail.filter fun r => r.page == some p.seq).map fun r => r.body.slots).sum }
    tail := tail, pkgs := s.flushPkgs, part := 0, committed := false, took := 0 }

theorem State.composeImage_spec (s : State) : s.composeImage.hld.flush = .writing ∧ s.composeImage.hld.imgSeq = s.hld.imgSeq + 1 ∧
    s.composeImage.image? = some s.newImage := by
  simp only [State.image?, State.composeImage, State.newImage, State.withHld]
  by_cases h : (s.hld.imgSeq + 1) % 2 = 0 <;> simp [h]

theorem flushDrainDone_composes (hf : s.hld.flush = .draining) (hd : s.chanDoms.all (fun d => (s.dom d).st != .returning) = true) :
    ∃ t i, exec .flushDrainDone s = .next t ∧ t.hld.flush = .writing ∧ t.hld.imgSeq = s.hld.imgSeq + 1 ∧ t.image? = some i ∧
      i.seq = s.hld.imgSeq + 1 ∧ i.area = (s.hld.imgSeq + 1) % 2 ∧ i.ceiling = s.jnl.ceiling ∧ i.units = s.drainEverything.imageUnits ∧
      i.pages.length = s.jnl.closePage.pages.length ∧ i.pkgs = s.drainEverything.flushPkgs ∧ i.part = 0 ∧ i.committed = false ∧
      OnlyChanges [.hld, .drm, .bytes] s t := by
  have hexec : exec .flushDrainDone s = .next s.drainEverything.composeImage := if_pos ⟨hf, hd⟩
  have hhld : s.drainEverything.hld = s.hld := (State.drainEverything_same0 s).hld rfl
  have hjnl : s.drainEverything.jnl = s.jnl := (State.drainEverything_same0 s).jnl rfl
  obtain ⟨hflush, hseq, himg⟩ := State.composeImage_spec s.drainEverything
  refine ⟨_, _, hexec, hflush, by rw [hseq, hhld], himg, ?_, ?_, ?_, rfl, ?_, rfl, rfl, rfl, exec_onlyChanges hexec⟩
  · rw [← hhld]; rfl
  · rw [← hhld]; rfl
  · rw [← hjnl]; rfl
  · rw [State.newImage, List.length_map, hjnl]

theorem flushCommitProgrammed_commits {i : Image} (hf : s.hld.flush = .writing) (hi : s.image? = some i) (ha : i.area = s.hld.imgSeq % 2) :
    ∃ t, exec .flushCommitProgrammed s = .next t ∧ t.hld.flush = .committed ∧
      t.image? = some { i with part := i.size, committed := true, took := (s.ao.time - i.time) / 1000 } ∧ OnlyChanges [.hld] s t := by
  have hexec : exec .flushCommitProgrammed s = execFlushCommitProgrammed s := rfl
  simp only [execFlushCommitProgrammed, hf, hi] at hexec
  refine ⟨_, hexec, rfl, ?_, exec_onlyChanges hexec⟩
  simp only [State.image?, State.putImage, ha, State.withHld]
  by_cases h : s.hld.imgSeq % 2 = 0 <;> simp [h]

/-! ### The end of a flush (R264) -/

end

/-- The part after a flush starts again exactly where VIN and VAUX are present and nothing has tripped. -/
theorem State.afterPower_spec (s : State) (rtype : Nat) :
    (s.afterPower rtype).hld = (s.powerOff (rtype ≠ 3)).hld ∧ (s.afterPower rtype).med = (s.powerOff (rtype ≠ 3)).med ∧
    (s.afterPower rtype).host = (s.powerOff (rtype ≠ 3)).host ∧ (s.afterPower rtype).boot.nor = (s.powerOff (rtype ≠ 3)).boot.nor ∧
    (s.afterPower rtype).boot.rtype = rtype ∧
    (s.afterPower rtype).boot.stage = (if s.cutProgram.brd.vin && s.cutProgram.brd.iso && s.cutProgram.brd.vaux && !s.cutProgram.brd.tripped then 1 else 0) := by
  rw [State.afterPower]
  dsimp only
  have hbrd : ((s.powerOff (rtype ≠ 3)).brd.vin && (s.powerOff (rtype ≠ 3)).brd.vaux && !(s.powerOff (rtype ≠ 3)).brd.tripped) =
      (s.cutProgram.brd.vin && s.cutProgram.brd.iso && s.cutProgram.brd.vaux && !s.cutProgram.brd.tripped) := rfl
  rw [hbrd]
  split <;> exact ⟨rfl, rfl, rfl, rfl, rfl, rfl⟩

theorem flushEnd_spec {s : State} (hf : s.hld.flush ≠ .none) : ∃ t, exec .flushEnd s = .next t ∧ t.hld.flush = .none ∧ t.hld.bank = .uncharged ∧
    t.hld.area0 = s.cutImage.hld.area0 ∧ t.hld.area1 = s.cutImage.hld.area1 ∧ t.med.flash = s.med.flash ∧ (s.boot.op = none → t.boot.nor = s.boot.nor) ∧
    t.host.cmds = [] ∧ t.boot.rtype = s.hld.flushCause ∧
    t.boot.stage = (if s.brd.vin && s.brd.iso && s.brd.vaux && !s.brd.tripped then 1 else 0) := by
  obtain ⟨hhld, hmed, hhost, hnor, hrtype, hstage⟩ := State.afterPower_spec s.cutImage s.hld.flushCause
  have hbrd : s.cutImage.cutProgram.brd = s.brd := ((State.cutProgram_same0 _).brd rfl).trans ((State.cutImage_same0 s).brd rfl)
  have hboot : s.cutImage.boot = s.boot := (State.cutImage_same0 s).boot rfl
  have hprog : s.cutImage.cutProgram.hld = s.cutImage.hld := (State.cutProgram_same0 _).hld rfl
  have hflash : s.cutImage.cutProgram.med = s.med := ((State.cutProgram_same0 _).med rfl).trans ((State.cutImage_same0 s).med rfl)
  refine ⟨_, if_neg hf, ?_⟩
  rw [hhld, hmed, hhost, hnor, hrtype, hstage, hbrd]
  refine ⟨rfl, rfl, (show s.cutImage.cutProgram.hld.area0 = _ by rw [hprog]), (show s.cutImage.cutProgram.hld.area1 = _ by rw [hprog]),
    (show s.cutImage.cutProgram.med.flash = _ by rw [hflash]), fun hop => ?_, rfl, rfl, rfl⟩
  have hcut : s.cutImage.cutProgram = s.cutImage := by simp only [State.cutProgram, hboot, hop]
  change s.cutImage.cutProgram.boot.nor = _
  rw [hcut, hboot]

theorem State.cutImage_committed {s : State} (hf : s.hld.flush = .committed) : s.cutImage = s := by
  simp only [State.cutImage, hf]

theorem Image.unitBytes_length (i : Image) (magic : Nat) : (i.unitBytes magic).length = 4096 := by
  simp [Image.unitBytes]

theorem ImageUnit.entry_length (x : ImageUnit) : x.entry.length = 32 := by
  simp [ImageUnit.entry]

theorem Image.size_eq (i : Image) : i.size = 1 + (i.units.length + 127) / 128 + 4 * i.pages.length + i.units.length := by
  simp only [Image.size, Image.dataAt, Image.tailAt, Image.indexUnits, ceilDiv]
  omega

theorem Image.stripe_length (i : Image) (k : Nat) : (i.stripe k).length = 18 := by
  rw [Image.stripe]
  simp only [List.length_append, List.length_map, List.length_range, List.length_cons, List.length_nil]

/-- Eighteen successive positions of a ring of at least eighteen places are different. -/
theorem ring_positions_ne {len b m n : Nat} (hlen : 18 ≤ len) (hm : m < 18) (hn : n < 18) (hne : m ≠ n) : (b + m) % len ≠ (b + n) % len := by
  intro h
  have hmod : m ≡ n [MOD len] := Nat.ModEq.add_left_cancel' b h
  rw [Nat.ModEq, Nat.mod_eq_of_lt (by omega), Nat.mod_eq_of_lt (by omega)] at hmod
  exact hne hmod

theorem Image.package_ne {i : Image} (k : Nat) {m n : Nat} (hlen : 18 ≤ i.pkgs.length) (hnd : i.pkgs.Nodup) (hm : m < 18) (hn : n < 18) (hne : m ≠ n) :
    i.package k m ≠ i.package k n := by
  have hpos : ∀ a, a % i.pkgs.length < i.pkgs.length := fun a => Nat.mod_lt a (by omega)
  simp only [Image.package, nth, List.getD_eq_getElem _ _ (hpos _)]
  exact fun h => ring_positions_ne hlen hm hn hne ((List.Nodup.getElem_inj_iff hnd).mp h)

/-- Settles O11. -/
theorem vinAndFlush : Obligations.VinAndFlush := by
  refine ⟨fun v s hv hlow hf => if_pos ⟨hv, by rw [hlow]; rfl, hf⟩,
    fun v low us since s hlow hv hl hus hf => if_pos ⟨by rw [hlow]; rfl, hv, hl, hus, hf⟩,
    fun since s => vinLossConfirmed_starts,
    fun a key test s hf he => ⟨forcedFlush_starts a test hf he, fun hk => (exec_forcedFlush_eq a key test s).trans (by rw [if_neg hk])⟩,
    fun s => flushDrainDone_composes, fun i s => flushCommitProgrammed_commits, fun s => flushEnd_spec, fun s => State.cutImage_committed,
    fun i magic x => ⟨i.unitBytes_length magic, x.entry_length, i.size_eq⟩, Image.stripe_length, fun i k m n => Image.package_ne k⟩

end Sys2Proof.Machine

/-! SUPPORT: journal pages and the queue of Holdup Budget credit (R251, R252, R273): O12. Pages are numbered in order as log entry 71 has it, and a
full copy buffer draws on as log entry 168 has it, both the model's choice. -/
namespace Sys2Proof.Machine
open Sys2Proof

section
variable {s : State}

/-! ### The open page (R273) -/

theorem Journal.closePage_of_open {j : Journal} {first : Nat} (h : j.openFirst = some first) :
    j.closePage.openFirst = none ∧
    j.closePage.pages = j.pages ++ [{ seq := j.pseq + j.pages.length + 1, first := first, used := j.openUsed, void := false }] ∧
    ∀ r ∈ j.closePage.recs, r.page.isSome = true := by
  simp only [Journal.closePage, h]
  refine ⟨trivial, trivial, fun r hr => ?_⟩
  obtain ⟨x, -, rfl⟩ := List.mem_map.mp hr
  split
  · rfl
  · rename_i hpage
    exact Option.isSome_iff_ne_none.mpr (mt Option.isNone_iff_eq_none.mpr hpage)

theorem Journal.closePage_of_closed {j : Journal} (h : j.openFirst = none) : j.closePage = j := by
  simp only [Journal.closePage, h]

theorem journalPageTimer_closes {first : Nat} (h : s.jnl.openFirst = some first) :
    ∃ t, exec .journalPageTimer s = .next t ∧ t.jnl.openFirst = none ∧
      t.jnl.pages = s.jnl.pages ++ [{ seq := s.jnl.pseq + s.jnl.pages.length + 1, first := first, used := s.jnl.openUsed, void := false }] ∧
      (∀ r ∈ t.jnl.recs, r.page.isSome = true) ∧ OnlyChanges [.jnl] s t := by
  obtain ⟨hopen, hpages, hrecs⟩ := Journal.closePage_of_open h
  have hexec : exec .journalPageTimer s = .next (s.withJnl s.jnl.closePage) := rfl
  exact ⟨_, hexec, hopen, hpages, hrecs, exec_onlyChanges hexec⟩

/-! ### A page on both copies (R252, R277) -/

/-- What a page on both copies does to the journal besides its ceiling and its records. -/
theorem State.recordOnBoth_pages (s : State) (r : JRec) :
    (s.recordOnBoth r).jnl.pages = s.jnl.pages ∧ (s.recordOnBoth r).jnl.kept = s.jnl.kept := by
  have hgive : (s.giveBackAll r.buf.toList).jnl = s.jnl := (State.giveBackAll_same0 _ _).jnl rfl
  have hpages : (s.giveBackAll r.buf.toList).jnl.pages = s.jnl.pages := by rw [hgive]
  have hkept : (s.giveBackAll r.buf.toList).jnl.kept = s.jnl.kept := by rw [hgive]
  simp only [State.recordOnBoth]
  split_ifs <;> exact ⟨hpages, hkept⟩

theorem State.foldl_recordOnBoth_pages (l : List JRec) (s : State) :
    (l.foldl (fun s r => s.recordOnBoth r) s).jnl.pages = s.jnl.pages ∧ (l.foldl (fun s r => s.recordOnBoth r) s).jnl.kept = s.jnl.kept := by
  induction l generalizing s with
  | nil => exact ⟨rfl, rfl⟩
  | cons r l ih =>
    obtain ⟨hpages, hkept⟩ := s.recordOnBoth_pages r
    exact ⟨(ih _).1.trans hpages, (ih _).2.trans hkept⟩

theorem State.pageOnBoth_jnl (s : State) (seq : Nat) : (s.pageOnBoth seq).jnl.pages = s.jnl.pages ∧ (s.pageOnBoth seq).jnl.kept = s.jnl.kept ∧
    ∀ r ∈ (s.pageOnBoth seq).jnl.recs, r.page = some seq → r.onBoth = true ∧ r.credit = false := by
  obtain ⟨hpages, hkept⟩ := s.foldl_recordOnBoth_pages (s.jnl.recs.filter fun r => r.page == some seq && !r.onBoth)
  refine ⟨hpages, hkept, fun r hr hpage => ?_⟩
  obtain ⟨x, -, rfl⟩ := List.mem_map.mp hr
  by_cases hx : x.page = some seq
  · rw [if_pos hx]
    exact ⟨rfl, rfl⟩
  · rw [if_neg hx] at hpage
    exact absurd hpage hx

theorem State.cutPage_of_none {p : JPage} {rest : List JPage} (h : s.goneRecord p.seq 1 (s.jnl.recs.filter fun r => r.page == some p.seq) = none) :
    s.cutPage p rest = s := by
  simp only [State.cutPage, h]

/-- The journal's page list once the oldest page is on both copies. -/
def State.pageKept (s : State) (seq : Nat) : State :=
  let s := s.withJnl { s.jnl with pages := s.jnl.pages.drop 1, kept := s.jnl.kept ++ s.jnl.pages.take 1, pseq := seq }
  (if s.jnl.reest then s.withJnl { s.jnl with reest := false, okA := true, okB := true } else s).countFree

theorem State.pageKept_jnl (s : State) (seq : Nat) : (s.pageKept seq).jnl.pages = s.jnl.pages.drop 1 ∧
    (s.pageKept seq).jnl.kept = s.jnl.kept ++ s.jnl.pages.take 1 ∧ (s.pageKept seq).jnl.pseq = seq ∧ (s.pageKept seq).jnl.reest = false ∧
    (s.pageKept seq).jnl.recs = s.jnl.recs := by
  cases h : s.jnl.reest <;> simp [State.pageKept, State.countFree, State.withJnl, h]

theorem journalPageProgrammed_spec {p : JPage} {rest : List JPage} (hp : s.jnl.pages = p :: rest) (hc : s.copiesReady = true) :
    ∃ t : State, exec (.journalPageProgrammed p.seq) s = .next (if t.fewPkgs && ((t.jnl.okA && t.jnl.freeA ≤ 1) || (t.jnl.okB && t.jnl.freeB ≤ 1)) then t.protectAll else t) ∧
      t.jnl.pages = (s.cutPage p rest).jnl.pages.drop 1 ∧ t.jnl.pseq = p.seq ∧ t.jnl.reest = false ∧
      (s.goneRecord p.seq 1 (s.jnl.recs.filter fun r => r.page == some p.seq) = none → t.jnl.pages = rest ∧ t.jnl.kept = s.jnl.kept ++ [p]) ∧
      (∀ r ∈ t.jnl.recs, r.page = some p.seq → r.onBoth = true ∧ r.credit = false) := by
  obtain ⟨hpages, hkept, hrecs⟩ := (s.cutPage p rest).pageOnBoth_jnl p.seq
  obtain ⟨kpages, kkept, kpseq, kreest, krecs⟩ := ((s.cutPage p rest).pageOnBoth p.seq).pageKept_jnl p.seq
  refine ⟨((s.cutPage p rest).pageOnBoth p.seq).pageKept p.seq, ?_, by rw [kpages, hpages], kpseq, kreest, fun hgone => ?_, by rw [krecs]; exact hrecs⟩
  · have hexec : exec (.journalPageProgrammed p.seq) s = execJournalPageProgrammed p.seq s := rfl
    simp only [execJournalPageProgrammed, hp, hc, and_self, if_true] at hexec
    exact hexec
  · rw [kpages, kkept, hpages, hkept, State.cutPage_of_none hgone, hp]
    exact ⟨rfl, rfl⟩

/-! ### The queue of credit (R251, R255, R502) -/

variable {q : CreditReq} {rest : List CreditReq}

theorem exec_holdupCreditGrant_front (hq : s.hld.queue = q :: rest) (hf : s.hld.flush = .none) (hg : s.granted 137 = false) :
    exec .holdupCreditGrant s =
      if s.ckFull && q.who.isWrite then .next s.drew
      else if s.hld.wt then
        .next (match q.who with
          | .write r => (s.withHld { s.hld with queue := rest }).creditWrite r false
          | .capture ring => (s.withHld { s.hld with queue := rest }).creditCapture ring false
          | .record _ => s.withHld { s.hld with queue := rest })
      else if s.hld.resv + q.bytes ≤ s.creditLimit then
        .next (match q.who with
          | .write r => (s.withHld { s.hld with queue := rest, resv := s.hld.resv + q.bytes }).creditWrite r true
          | .capture ring => (s.withHld { s.hld with queue := rest, resv := s.hld.resv + q.bytes }).creditCapture ring true
          | .record seq => (s.withHld { s.hld with queue := rest, resv := s.hld.resv + q.bytes }).creditRecord seq).pressCredit
      else .next s := by
  have hexec : exec .holdupCreditGrant s = execHoldupCreditGrant s := rfl
  rw [hexec, execHoldupCreditGrant]
  simp only [hq, hf, hg, ne_eq, not_true, Bool.false_eq_true, or_self, if_false] <;> rfl

theorem holdupCreditGrant_writeThrough (hq : s.hld.queue = q :: rest) (hf : s.hld.flush = .none) (hg : s.granted 137 = false)
    (hfull : (s.ckFull && q.who.isWrite) = false) (hwt : s.hld.wt = true) :
    ∃ t, exec .holdupCreditGrant s = .next t ∧ t.hld.queue = rest ∧ t.hld.resv = s.hld.resv := by
  refine ⟨_, by rw [exec_holdupCreditGrant_front hq hf hg, hfull, hwt]; rfl, ?_⟩
  cases q.who with
  | write r =>
    have h : ((s.withHld { s.hld with queue := rest }).creditWrite r false).hld = { s.hld with queue := rest } := (State.creditWrite_same0 _ _ _).hld rfl
    dsimp only
    rw [h]
    exact ⟨rfl, rfl⟩
  | capture ring =>
    have h : ((s.withHld { s.hld with queue := rest }).creditCapture ring false).hld = { s.hld with queue := rest } := (State.creditCapture_same0 _ _ _).hld rfl
    dsimp only
    rw [h]
    exact ⟨rfl, rfl⟩
  | record _ => exact ⟨rfl, rfl⟩

theorem exec_holdupCreditGrant_grants (hq : s.hld.queue = q :: rest) (hf : s.hld.flush = .none) (hg : s.granted 137 = false)
    (hfull : (s.ckFull && q.who.isWrite) = false) (hwt : s.hld.wt = false) (hfits : s.hld.resv + q.bytes ≤ s.creditLimit) :
    exec .holdupCreditGrant s = .next (match q.who with
      | .write r => (s.withHld { s.hld with queue := rest, resv := s.hld.resv + q.bytes }).creditWrite r true
      | .capture ring => (s.withHld { s.hld with queue := rest, resv := s.hld.resv + q.bytes }).creditCapture ring true
      | .record seq => (s.withHld { s.hld with queue := rest, resv := s.hld.resv + q.bytes }).creditRecord seq).pressCredit := by
  rw [exec_holdupCreditGrant_front hq hf hg, hfull, hwt]
  simp only [Bool.false_eq_true, if_false, if_pos hfits]

end

/-- Settles O12: the open page, the oldest page waiting, and the request at the head of the queue, each by its own equation. -/
theorem journalAndCredit : Obligations.JournalAndCredit := by
  refine ⟨fun first s => journalPageTimer_closes, fun s h => ?_, fun p rest s => journalPageProgrammed_spec, fun q rest s hq hf hg => ?_,
    fun s => State.pressCredit_within⟩
  · have hexec : exec .journalPageTimer s = .next (s.withJnl s.jnl.closePage) := rfl
    rw [hexec, Journal.closePage_of_closed h]
    rfl
  · refine ⟨fun hfull hwrite => ?_, fun hfull => ⟨fun hwt hover => ?_, fun hwt hfits => ⟨?_, ?_, ?_⟩, holdupCreditGrant_writeThrough hq hf hg hfull⟩⟩
    · rw [exec_holdupCreditGrant_front hq hf hg, hfull, hwrite]
      rfl
    · rw [exec_holdupCreditGrant_front hq hf hg, hfull, hwt]
      simp only [Bool.false_eq_true, if_false, if_neg (Nat.not_le.mpr hover)]
    all_goals
      intro x hx
      rw [exec_holdupCreditGrant_grants hq hf hg hfull hwt hfits, hx]

end Sys2Proof.Machine

/-! SUPPORT: completing a command (R36, R103, R120 to R124, R209): O13. The form and the bus of a tunnelled command's answer are log entries 23, 41
and 43, the model's choice. -/
namespace Sys2Proof.Machine
open Sys2Proof

/-! ### The completion entry -/

/-- Signalling a completion queue touches no command in flight, and takes back nothing that was sent. -/
theorem State.signal_host (s : State) (t cqid : Nat) :
    (s.signal t cqid).host.cmds = s.host.cmds ∧ ∀ o ∈ s.host.out, o ∈ (s.signal t cqid).host.out := by
  unfold State.signal
  split
  · exact ⟨rfl, fun o ho => ho⟩
  · dsimp only
    split
    · exact ⟨rfl, fun o ho => ho⟩
    · split
      · exact ⟨rfl, fun o ho => List.mem_cons_of_mem _ ho⟩
      · exact ⟨rfl, fun o ho => ho⟩

theorem State.postCqe_cmds (s : State) (c : Cmd) (st : Status) (d0 d1 : Nat) : (s.postCqe c st d0 d1).host.cmds = s.host.cmds := by
  unfold State.postCqe
  dsimp only
  split
  · rfl
  · split
    · rfl
    · split
      · rfl
      · split
        · rfl
        · rw [(State.signal_host _ _ _).1]
          split <;> split <;> rfl

theorem State.postCqe_tunnel {c : Cmd} (h : c.tunnel = true) (s : State) (st : Status) (d0 d1 : Nat) :
    HostOut.mgmt (miAnswer 0 0 (toBytes 4 d0 ++ toBytes 4 d1 ++ toBytes 4 (c.ref.cid % 65536 + 2 ^ 17 * st.field))) ∈ (s.postCqe c st d0 d1).host.out := by
  rw [State.postCqe, if_pos h]
  exact List.mem_cons_self

/-- The completion entry of a command whose queues are q and cq. -/
def State.cqeOf (s : State) (c : Cmd) (q : Sq) (cq : Cq) (st : Status) (d0 d1 : Nat) : Cqe :=
  let ext := (s.feature c.ref.fn 0xC0).testBit 0
  let n := (s.fn c.ref.fn).deferred c.sqe.nsid
  { sqid := c.ref.qid, sqhd := q.head, cid := c.ref.cid, status := st, dnr := st.dnr
    dw0 := if eligible c.ref.qid c.sqe.opc then dword0 (decide (0 < n)) (ext && c.hold) (if ext then c.press else 0) (ext && c.snow) n else d0
    dw1 := d1, phase := cq.phase }

theorem State.postCqe_posts {s : State} {c : Cmd} {q : Sq} {cq : Cq} (ht : c.tunnel = false) (hq : s.sq? c.ref.fn c.ref.qid = some q)
    (hcq : s.cq? c.ref.fn q.cqid = some cq) (hlive : s.fnLive c.ref.fn = true) (st : Status) (d0 d1 : Nat) :
    ∃ e : Cqe, HostOut.cqe c.ref.fn q.cqid cq.tail e ∈ (s.postCqe c st d0 d1).host.out ∧ e.sqid = c.ref.qid ∧ e.cid = c.ref.cid ∧
      e.sqhd = q.head ∧ e.status = st ∧ e.phase = cq.phase ∧ e.dw1 = d1 ∧ (eligible c.ref.qid c.sqe.opc = false → e.dw0 = d0) := by
  simp only [State.postCqe, ht, hq, hcq, hlive, Bool.false_eq_true, Bool.not_true, if_false]
  refine ⟨s.cqeOf c q cq st d0 d1, (State.signal_host _ _ _).2 _ ?_, rfl, rfl, rfl, rfl, rfl, rfl, fun hel => if_neg (by rw [hel]; exact Bool.false_ne_true)⟩
  split <;> split <;> exact List.mem_cons_self

/-! ### The rest of a completion -/

theorem State.completeEv_host {s : State} {c : Cmd} {st : Status} {d0 d1 : Nat} {ev : State → State} (hev : ∀ t : State, (ev t).host = t.host) :
    (s.completeEv c st d0 d1 ev).host.cmds = s.host.cmds.filter (fun x => x.ref != c.ref) ∧
    (s.completeEv c st d0 d1 ev).host.out = (s.postCqe c st d0 d1).host.out := by
  obtain ⟨hcmds, hout⟩ := State.giveBackAll_host ((ev (s.postCqe c st d0 d1)).retireLocks c.ref) c.bufs.got
  have hhost : ((ev (s.postCqe c st d0 d1)).retireLocks c.ref).host = (s.postCqe c st d0 d1).host := hev _
  rw [hhost] at hcmds hout
  rw [State.postCqe_cmds] at hcmds
  rw [State.completeEv]
  dsimp only
  split
  · exact ⟨congrArg (List.filter fun x : Cmd => x.ref != c.ref) hcmds, hout⟩
  · exact ⟨congrArg (List.filter fun x : Cmd => x.ref != c.ref) hcmds, hout⟩

theorem State.statusEvent_host (s : State) (t opc nsid presented last : Nat) (st : Status) : (s.statusEvent t opc nsid presented last st).host = s.host :=
  (State.statusEvent_same0 s t opc nsid presented last st).host rfl

theorem State.complete_cmds (s : State) (c : Cmd) (st : Status) (d0 d1 : Nat) :
    (s.complete c st d0 d1).host.cmds = s.host.cmds.filter fun x => x.ref != c.ref :=
  (State.completeEv_host fun t => t.statusEvent_host ..).1

theorem State.complete_out (s : State) (c : Cmd) (st : Status) (d0 d1 : Nat) : (s.complete c st d0 d1).host.out = (s.postCqe c st d0 d1).host.out :=
  (State.completeEv_host fun t => t.statusEvent_host ..).2

theorem State.complete_cmd? (s : State) (c : Cmd) (st : Status) (d0 d1 : Nat) : (s.complete c st d0 d1).cmd? c.ref = none := by
  rw [State.cmd?, State.complete_cmds, List.find?_eq_none]
  intro x hx
  have := (List.mem_filter.mp hx).2
  simpa using this

theorem State.complete_table (s : State) (c : Cmd) (st : Status) (d0 d1 : Nat) :
    (s.complete c st d0 d1).col.table = s.col.table.filter fun e => e.ref != c.ref := by
  have hpost : (s.postCqe c st d0 d1).col = s.col := (State.postCqe_same0 s c st d0 d1).col rfl
  have hev : ∀ t : State, (t.statusEvent c.ref.fn c.sqe.opc c.named 0 (t.tsec c.ref.fn).counter st).col = t.col :=
    fun t => (State.statusEvent_same0 ..).col rfl
  have hgive : ∀ (t : State) l, (t.giveBackAll l).col = t.col := fun t l => (State.giveBackAll_same0 t l).col rfl
  have hret : ∀ t : State, ((t.retireLocks c.ref).giveBackAll c.bufs.got).col.table = t.col.table.filter fun e => e.ref != c.ref := by
    intro t
    rw [hgive]
    rfl
  rw [State.complete, State.completeEv]
  dsimp only
  split
  · exact (hret _).trans (by rw [hev, hpost])
  · exact (hret _).trans (by rw [hev, hpost])

theorem State.complete_waits (s : State) (c : Cmd) (st : Status) (d0 d1 : Nat) : ∀ w ∈ (s.complete c st d0 d1).bpm.waits, w.who ≠ .cmd c.ref := by
  have hfilter : ∀ l : List BufReq, ∀ w ∈ l.filter (fun w => w.who != .cmd c.ref), w.who ≠ .cmd c.ref := by
    intro l w hw
    simpa using (List.mem_filter.mp hw).2
  rw [State.complete, State.completeEv]
  dsimp only
  split <;> exact hfilter _

theorem State.complete_onlyChanges (s : State) (c : Cmd) (st : Status) (d0 d1 : Nat) : OnlyChanges [.ev, .host, .col, .bpm, .sec] s (s.complete c st d0 d1) :=
  (State.complete_same0 s c st d0 d1).onlyChanges_of_covers rfl

/-- Settles O13: the completion entry is posted first, and nothing that follows takes back what was sent. -/
theorem completionEndsACommand : Obligations.CompletionEndsACommand := by
  refine ⟨fun s c st d0 d1 => ⟨s.complete_cmd? c st d0 d1, fun e he => ?_, s.complete_waits c st d0 d1, fun q cq ht hq hcq hlive => ?_, fun ht => ?_,
    s.complete_onlyChanges c st d0 d1⟩, fun s c b d0 => rfl⟩
  · rw [State.complete_table] at he
    simpa using (List.mem_filter.mp he).2
  · rw [State.complete_out]
    exact State.postCqe_posts ht hq hcq hlive st d0 d1
  · rw [State.complete_out]
    exact State.postCqe_tunnel ht s st d0 d1

end Sys2Proof.Machine

/-! SUPPORT: doorbells, fetch, admission and the placing of lock entries (R84, R93, R98, R448 to R453, R751): O15. -/
namespace Sys2Proof.Machine
open Sys2Proof

section
variable {s : State}

/-! ### Doorbells (R84, R93) -/

theorem State.pumpAsync_of_none {fn : Nat} (h : (s.fn fn).aev = []) : s.pumpAsync fn = s := by
  simp only [State.pumpAsync, h]

theorem exec_doorbellWrite_adds {fn qid tail : Nat} {l : List Sqe} {q : Sq} (hq : s.sq? fn qid = some q) (ht : tail < q.size)
    (hl : tail = (q.tail + l.length) % q.size) (hroom : q.entries.length + l.length < q.size) :
    exec (.doorbellWrite fn qid tail l) s = .next (s.putSq fn qid { q with tail := tail, entries := q.entries ++ l, bell := s.ao.time }) := by
  have hexec : exec (.doorbellWrite fn qid tail l) s = execDoorbellWrite fn qid tail l s := rfl
  rw [hexec, execDoorbellWrite]
  simp only [hq]
  exact if_pos ⟨ht, hl, hroom⟩

theorem exec_cqHeadDoorbell_moves {fn qid head : Nat} {q : Cq} (hq : s.cq? fn qid = some q) (hh : head < q.size)
    (hp : (head + q.size - q.head) % q.size ≤ (q.tail + q.size - q.head) % q.size) (ha : (s.fn fn).aev = []) :
    exec (.cqHeadDoorbell fn qid head) s = .next (s.putCq fn qid { q with head := head }) := by
  have hexec : exec (.cqHeadDoorbell fn qid head) s = execCqHeadDoorbell fn qid head s := rfl
  have hput : ((s.putCq fn qid { q with head := head }).fn fn).aev = [] := ha
  rw [hexec, execCqHeadDoorbell]
  simp only [hq]
  rw [if_pos ⟨hh, hp⟩, State.pumpAsync_of_none hput]

/-! ### Fetch (R93 to R96) -/

theorem State.amberAdvance_cmds (s : State) : s.amberAdvance.host.cmds = s.host.cmds := by
  unfold State.amberAdvance
  split <;> rfl

theorem State.sq?_putSq_same (s : State) (fn qid : Nat) (q : Sq) : (s.putSq fn qid q).sq? fn qid = some q := AMap.get?_ins_same ..

/-- The queue once its oldest entry has been fetched. -/
def Sq.fetched (q : Sq) (e : Sqe) (rest : List Sqe) : Sq :=
  { q with head := (q.head + 1) % q.size, entries := rest, seen := if q.seen.contains e.opc then q.seen else q.seen ++ [e.opc] }

variable {fn qid : Nat} {q : Sq} {e : Sqe} {rest : List Sqe}

theorem exec_commandFetch_front (hq : s.sq? fn qid = some q) (he : q.entries = e :: rest) (hmay : s.mayFetch fn = true)
    (hfmt : s.formatWaits fn qid e = false) (hroom : s.cqRoom ⟨fn, qid, e.cid⟩ = true) (hnew : s.cmd? ⟨fn, qid, e.cid⟩ = none) :
    exec (.commandFetch fn qid) s =
      match (s.amberAdvance.putSq fn qid (q.fetched e rest)).fetchStatus fn qid e false with
      | .success => .next ((s.amberAdvance.putSq fn qid (q.fetched e rest)).withHost
          { (s.amberAdvance.putSq fn qid (q.fetched e rest)).host with
            cmds := (s.amberAdvance.putSq fn qid (q.fetched e rest)).host.cmds ++ [(s.amberAdvance.putSq fn qid (q.fetched e rest)).newCmd fn qid q e false false] })
      | st => .next ((s.amberAdvance.putSq fn qid (q.fetched e rest)).complete
          ((s.amberAdvance.putSq fn qid (q.fetched e rest)).newCmd fn qid q e false false) st) := by
  have hexec : exec (.commandFetch fn qid) s = execCommandFetch fn qid s := rfl
  rw [hexec, execCommandFetch]
  simp only [hq, he, hmay, hfmt, hroom, hnew, Bool.not_false, Option.isNone_none, Bool.and_self, if_true] <;> rfl

theorem commandFetch_spec (hq : s.sq? fn qid = some q) (he : q.entries = e :: rest) (hmay : s.mayFetch fn = true)
    (hfmt : s.formatWaits fn qid e = false) (hroom : s.cqRoom ⟨fn, qid, e.cid⟩ = true) (hnew : s.cmd? ⟨fn, qid, e.cid⟩ = none) {u : State}
    (hu : u = s.amberAdvance.putSq fn qid (q.fetched e rest)) :
    (∃ q', u.sq? fn qid = some q' ∧ q'.entries = rest ∧ q'.head = (q.head + 1) % q.size ∧ q'.tail = q.tail) ∧ u.host.cmds = s.host.cmds ∧
      OnlyChanges [.host] s u ∧
      (u.fetchStatus fn qid e false = .success → exec (.commandFetch fn qid) s =
        .next (u.withHost { u.host with cmds := u.host.cmds ++ [u.newCmd fn qid q e false false] })) ∧
      (u.fetchStatus fn qid e false ≠ .success → exec (.commandFetch fn qid) s =
        .next (u.complete (u.newCmd fn qid q e false false) (u.fetchStatus fn qid e false))) := by
  have hexec := exec_commandFetch_front hq he hmay hfmt hroom hnew
  rw [← hu] at hexec
  refine ⟨⟨q.fetched e rest, by rw [hu, State.sq?_putSq_same], rfl, rfl, rfl⟩, by rw [hu]; exact s.amberAdvance_cmds, ?_, fun hok => ?_, fun hno => ?_⟩
  · rw [hu]
    exact Same.onlyChanges_of_covers (m := 8) ((State.amberAdvance_same0 s).trans (State.putSq_same0 _ _ _ _)) rfl
  · rw [hexec, hok]
  · rw [hexec]
    split
    · rename_i hok
      exact absurd hok hno
    · rfl

/-! ### Admission (R448 to R453) -/

theorem State.serveDeficit_cmds (s : State) (dir t : Nat) : (s.serveDeficit dir t).host.cmds = s.host.cmds := by
  unfold State.serveDeficit
  repeat' split
  all_goals rfl

theorem State.amberCharge_cmds (s : State) (t bytes : Nat) : (s.amberCharge t bytes).host.cmds = s.host.cmds := by
  unfold State.amberCharge
  split <;> rfl

/-- The charges of an admitted command. -/
def State.charged (s : State) (r : CmdRef) (dir cost bytes : Nat) : State :=
  let s := (s.serveDeficit dir r.fn).amberCharge r.fn bytes
  let s := [4 * dir, 4 * dir + 2].foldl (fun s k => s.chargeBucket r.fn k 1) s
  let s := [4 * dir + 1, 4 * dir + 3].foldl (fun s k => s.chargeBucket r.fn k cost) s
  s.chargeSnow r.fn dir cost

theorem State.charged_spec (s : State) (r : CmdRef) (dir cost bytes : Nat) :
    (s.charged r dir cost bytes).host.cmds = s.host.cmds ∧ Same 2056 s (s.charged r dir cost bytes) := by
  have hbucket : ∀ (t : State) a k c, (t.chargeBucket a k c).host = t.host := fun t a k c => (State.chargeBucket_same0 t a k c).host rfl
  have hsnow : ∀ (t : State) a d c, (t.chargeSnow a d c).host = t.host := fun t a d c => (State.chargeSnow_same0 t a d c).host rfl
  constructor
  · simp only [State.charged, List.foldl_cons, List.foldl_nil, hbucket, hsnow, State.amberCharge_cmds, State.serveDeficit_cmds]
  · simp [State.charged]

theorem commandAdmission_spec {r : CmdRef} {c : Cmd} {dir cost : Nat} (hc : s.cmd? r = some c) (hcost : s.cmdCharge c = some (dir, cost))
    (hph : c.phase = .admission) (hfirst : s.firstAwaiting r.fn dir = some r) (hserved : s.servedNext dir = some r.fn)
    (hopen : s.amberAdvance.amberOpen r.fn (xferBytes c.sqe r.qid) = true) :
    ∃ u, u.host.cmds = s.host.cmds ∧ OnlyChanges [.host, .sch] s u ∧ exec (.commandAdmission r) s =
      .next (if dir = 0 then u.requestLocks c else u.setCmd r fun c => { c with phase := .ready }) := by
  obtain ⟨hcmds, hsame⟩ := s.amberAdvance.charged_spec r dir cost (xferBytes c.sqe r.qid)
  refine ⟨s.amberAdvance.charged r dir cost (xferBytes c.sqe r.qid), hcmds.trans s.amberAdvance_cmds,
    Same.onlyChanges_of_covers (((State.amberAdvance_same0 s).mono rfl).trans hsame) rfl, ?_⟩
  have hexec : exec (.commandAdmission r) s = execCommandAdmission r s := rfl
  rw [hexec, execCommandAdmission]
  simp only [hc, hcost, hph, hfirst, hserved, hopen, and_self, if_true]
  split <;> rfl

/-! ### Lock entries (R98, R751) -/

theorem State.requestLocks_placed {c : Cmd} {excl : Bool} {es : List (Nat × Nat × Nat)} (hl : s.cmdLocks c = some (excl, es))
    (hfits : s.lockFits c.ref.fn es.length = true) (hheld : s.heldBefore c.ref = false) :
    (s.requestLocks c).col.table = s.col.table ++ es.map fun x =>
      { ref := c.ref, nsix := x.1, lo := x.2.1, hi := x.2.2, excl := excl, granted := false, arrive := s.ao.time } := by
  simp only [State.requestLocks, hl, hfits, hheld, Bool.not_false, Bool.and_self, if_true]
  rfl

theorem State.requestLocks_held {c : Cmd} {excl : Bool} {es : List (Nat × Nat × Nat)} (hl : s.cmdLocks c = some (excl, es))
    (h : s.lockFits c.ref.fn es.length = false ∨ s.heldBefore c.ref = true) :
    s.requestLocks c = s.setCmd c.ref fun c => { c with phase := .held } := by
  have hno : (s.lockFits c.ref.fn es.length && !s.heldBefore c.ref) = false := by
    rcases h with h | h <;> simp [h]
  simp only [State.requestLocks, hl, hno, Bool.false_eq_true, if_false]

theorem State.requestLocks_none {c : Cmd} (hl : s.cmdLocks c = none) : s.requestLocks c = s.setCmd c.ref fun c => { c with phase := .data } := by
  simp only [State.requestLocks, hl]

theorem exec_lockGrant_held {r : CmdRef} {c : Cmd} (hc : s.cmd? r = some c) (hph : c.phase = .held) :
    exec (.lockGrant r) s = .next (s.requestLocks c) := by
  have hexec : exec (.lockGrant r) s = execLockGrant r s := rfl
  rw [hexec, execLockGrant]
  simp only [hc, hph]

end

/-- Settles O15: each command of the front end on the branch that the hypotheses of its clause choose. -/
theorem frontEnd : Obligations.FrontEnd :=
  ⟨fun _ _ _ _ _ _ => exec_doorbellWrite_adds, fun _ _ _ _ _ => exec_cqHeadDoorbell_moves,
    fun _ _ _ _ _ _ hq he hmay hfmt hroom hnew _ hu => commandFetch_spec hq he hmay hfmt hroom hnew hu,
    fun _ _ _ _ _ => commandAdmission_spec,
    fun c _ _ s hl => ⟨fun hfits hheld => ⟨_, rfl, State.requestLocks_placed hl hfits hheld, (State.requestLocks_same0 s c).onlyChanges_of_covers rfl⟩,
      State.requestLocks_held hl⟩,
    fun _ _ => State.requestLocks_none, fun _ _ _ => exec_lockGrant_held⟩

end Sys2Proof.Machine

/-! SUPPORT: host data, acknowledgement, Flush and Abort (R26, R36, R37, R111, R112, R115, R139, R755): O16. What a failed or aborted write undoes is
log entry 145, and that a Flush covers units by their CSN is log entry 123, both the model's choice. -/
namespace Sys2Proof.Machine
open Sys2Proof

section
variable {s : State} {r : CmdRef} {c : Cmd}

/-! ### Host data (R26, R36, R755) -/

/-- Does a command carry host data to be written? -/
def Cmd.writesData (c : Cmd) : Bool := c.sqe.opc == 0x01 || c.sqe.opc == 0x7D

/-- A command that holds one more block. -/
def Cmd.withBlock (c : Cmd) (b : Block × Nat) : Cmd := { c with blocks := c.blocks + 1, got := c.got ++ [b] }

theorem exec_hostDataBlock {n : Ns} {d : Block} {m : Nat} {pi : PiCheck} (hc : s.cmd? r = some c) (hn : s.nsAt c.nsix = some n) (hph : c.phase = .data)
    (hopc : (c.writesData || c.sqe.opc == 0x05) = true) (hlt : c.blocks < c.nlb) (hcsn : s.csnReady (c.nlb + 8) = true) (hf : s.hld.flush = .none)
    (hroom : s.cqRoom r = true) :
    exec (.hostDataBlock r d m pi) s = .next (match pi with
      | .ok =>
        if c.writesData && c.blocks + 1 == c.nlb && n.wp then s.failWrite c .nsWriteProtected
        else
          let c' := c.withBlock (if c.writesData then s.crypt true c.nsix (c.lba + c.blocks) d else d, m)
          if c.writesData && c.blocks + 1 == c.nlb then (s.setCmd r fun _ => c').grantCsns c' n else s.setCmd r fun _ => c'
      | bad => s.failWrite c (piStatus bad)) := by
  have hexec : exec (.hostDataBlock r d m pi) s = execHostDataBlock r d m pi s := rfl
  rw [hexec, execHostDataBlock]
  simp only [hc, hn]
  rw [if_pos ⟨hph, hopc, hlt, hcsn, hf, hroom⟩]
  cases pi with
  | ok =>
    exact next_ite _ _ _
  | _ => rfl

theorem Cmd.writesData_of {c : Cmd} (h : c.sqe.opc = 0x01 ∨ c.sqe.opc = 0x7D) : c.writesData = true := by
  rcases h with h | h <;> simp [Cmd.writesData, h]

theorem Cmd.writesData_compare {c : Cmd} (h : c.sqe.opc = 0x05) : c.writesData = false := by
  simp [Cmd.writesData, h]

/-! ### Acknowledgement (R36, R37, R111, R165, R193) -/

theorem exec_writeCompletion_accepted (hc : s.cmd? r = some c) (hroom : s.cqRoom r = true) (hf : s.hld.flush = .none) (hq : c.ref.qid ≠ 0)
    (hph : c.phase = .accepted) (hcarries : c.carriesUnits = true) (hfua : c.sqe.fua = false) :
    exec (.writeCompletion r) s = .next (if s.writeCovered c then s.finishWrite c else s) := by
  have hexec : exec (.writeCompletion r) s = execWriteCompletion r s := rfl
  rw [hexec, execWriteCompletion]
  simp only [hc]
  rw [if_pos ⟨hroom, hf, hq⟩]
  simp only [hph, hcarries, hfua, Bool.not_false, Bool.true_and]
  exact next_ite _ _ _

theorem exec_writeCompletion_record (hc : s.cmd? r = some c) (hroom : s.cqRoom r = true) (hf : s.hld.flush = .none) (hq : c.ref.qid ≠ 0)
    (hph : c.phase = .record) (hopc : c.sqe.opc = 0x08 ∨ c.sqe.opc = 0x04 ∨ c.sqe.opc = 0x09) :
    exec (.writeCompletion r) s = .next (if c.recs.all s.durable then (s.applyMapChange c).complete c .success else s) := by
  have hexec : exec (.writeCompletion r) s = execWriteCompletion r s := rfl
  have hmap : (c.sqe.opc == 0x08 || c.sqe.opc == 0x04 || c.sqe.opc == 0x09) = true := by
    rcases hopc with h | h | h <;> simp [h]
  rw [hexec, execWriteCompletion]
  simp only [hc]
  rw [if_pos ⟨hroom, hf, hq⟩]
  simp only [hph, hmap, Bool.true_and]
  exact next_ite _ _ _

theorem fuaCompletion_spec (hc : s.cmd? r = some c) (hroom : s.cqRoom r = true) (hf : s.hld.flush = .none) (hph : c.phase = .accepted)
    (hcarries : c.carriesUnits = true) (hfua : c.sqe.fua = true) :
    (c.units.all (fun k => (s.str.dram.get? k).isNone) = true → s.coverDurable (s.nsOwner c.nsix) c.recs = true →
      exec (.fuaCompletion r) s = .next (s.finishWrite c)) ∧
    (c.units.all (fun k => (s.str.dram.get? k).isNone) = false ∨ s.coverDurable (s.nsOwner c.nsix) c.recs = false →
      exec (.fuaCompletion r) s = .next s) := by
  have hexec : exec (.fuaCompletion r) s = execFuaCompletion r s := rfl
  rw [hexec, execFuaCompletion]
  simp only [hc]
  refine ⟨fun hall hcov => if_pos ⟨hroom, hf, hph, hcarries, hfua, hall, hcov⟩, fun hno => if_neg ?_⟩
  rintro ⟨-, -, -, -, -, hall, hcov⟩
  rcases hno with h | h
  · rw [hall] at h; cases h
  · rw [hcov] at h; cases h

theorem State.accepted_host (s : State) (c : Cmd) (ns : Nat) : ((s.acceptWrite c).monitor 1 ns).host = s.host :=
  ((State.monitor_same0 _ _ _).host rfl).trans ((State.acceptWrite_same0 s c).host rfl)

/-! ### Flush and Abort (R112, R115, R139) -/

/-- A command found ready for its row runs (see `State.mayRun.eq`). -/
theorem State.mayRun_of {adm : Bool} {opc : Nat} (hc : s.cmd? r = some c) (hph : c.phase = .ready) (hopc : c.sqe.opc = opc)
    (hq : decide (r.qid = 0) = adm) (hroom : s.cqRoom r = true) : s.mayRun r c adm opc :=
  ⟨hc, hph, hopc, by rw [State.cmd?_ref hc]; exact hq, hroom⟩

theorem flush_waits (hrun : s.mayRun r c false 0x00) : ∃ t, exec (.flush r) s = .next t ∧
    t = (s.setCmd r fun c => { c with phase := .flushing, recs := s.openCloses r.fn c.sqe.nsid }).closeFor r.fn c.sqe.nsid (c.csn.getD 0) ∧
    OnlyChanges [.ev, .host, .bpm, .hld, .jnl, .zon, .str, .med] s t := by
  have hexec : exec (.flush r) s = .next ((s.setCmd r fun c => { c with phase := .flushing, recs := s.openCloses r.fn c.sqe.nsid }).closeFor
    r.fn c.sqe.nsid (c.csn.getD 0)) := hrun.eq _
  exact ⟨_, hexec, rfl, exec_onlyChanges hexec⟩

theorem exec_flushCompletion (hc : s.cmd? r = some c) (hph : c.phase = .flushing) (hroom : s.cqRoom r = true) (hf : s.hld.flush = .none) :
    exec (.flushCompletion r) s = .next (if s.flushDone r.fn c.sqe.nsid (c.csn.getD 0) c.recs then s.complete c .success else s) := by
  have hexec : exec (.flushCompletion r) s = execFlushCompletion r s := rfl
  rw [hexec, execFlushCompletion]
  simp only [hc, hph, hroom, hf, true_and]
  exact next_ite _ _ _

theorem exec_abort (hrun : s.mayRun r c true 0x08) :
    exec (.abort r) s = .next (match s.cmd? ⟨r.fn, c.sqe.cdw10 % 65536, c.sqe.cdw10 / 65536⟩ with
      | none => s.complete c .success 1
      | some t =>
        if s.abortable t && t.ref != r then
          if s.cqRoom t.ref then ((s.amberAdvance.takeBack t).failWrite t .abortRequested).complete c .success 0 else s
        else s.complete c .success 1) := hrun.eq _

theorem abort_spec (hrun : s.mayRun r c true 0x08) :
    (s.cmd? ⟨r.fn, c.sqe.cdw10 % 65536, c.sqe.cdw10 / 65536⟩ = none → exec (.abort r) s = .next (s.complete c .success 1)) ∧
    (∀ x, s.cmd? ⟨r.fn, c.sqe.cdw10 % 65536, c.sqe.cdw10 / 65536⟩ = some x →
      (s.abortable x = true → x.ref ≠ r → s.cqRoom x.ref = true →
        exec (.abort r) s = .next (((s.amberAdvance.takeBack x).failWrite x .abortRequested).complete c .success 0)) ∧
      (s.abortable x = false ∨ x.ref = r → exec (.abort r) s = .next (s.complete c .success 1))) := by
  have hexec := exec_abort hrun
  refine ⟨fun hx => ?_, fun x hx => ⟨fun hab hne hroom => ?_, fun hno => ?_⟩⟩
  · rw [hexec, hx]
  · rw [hexec, hx]
    simp only [hab, bne_iff_ne.mpr hne, hroom, Bool.and_self, if_true]
  · have hnot : (s.abortable x && x.ref != r) = false := by
      rcases hno with h | h <;> simp [h]
    rw [hexec, hx]
    simp only [hnot, Bool.false_eq_true, if_false]

end

/-- Settles O16: each command on the branch that the hypotheses of its clause choose. -/
theorem hostDataAndAcknowledgement : Obligations.HostDataAndAcknowledgement := by
  refine ⟨fun r c n d m s hc hn hph hlt hcsn hf hroom => ?_, fun r c s hc hroom hf hq => ⟨fun hph hcar hfua => ?_, fun hph hopc => ?_,
    fun hph hcar hfua => fuaCompletion_spec hc hroom hf hph hcar hfua⟩, fun c s => ?_, fun r c s hc hroom => ?_⟩
  · have hexec : ∀ pi, (c.writesData || c.sqe.opc == 0x05) = true → _ := fun pi hopc => exec_hostDataBlock (d := d) (m := m) (pi := pi) hc hn hph hopc hlt hcsn hf hroom
    refine ⟨fun hopc hlast hwp => ?_, fun hopc => ⟨fun hmore => ?_, fun hlast hwp => ⟨_, rfl, ?_⟩⟩, fun hopc => ?_, fun hopc pi hpi => ?_⟩
    · rw [hexec _ (by simp [Cmd.writesData_of hopc])]
      simp only [Cmd.writesData_of hopc, beq_iff_eq.mpr hlast, hwp, Bool.and_self, if_true]
    · rw [hexec _ (by simp [Cmd.writesData_of hopc])]
      simp only [Cmd.writesData_of hopc, beq_eq_false_iff_ne.mpr (Nat.ne_of_lt hmore), Bool.and_false, Bool.false_and, Bool.false_eq_true, if_false, if_true]
      rfl
    · rw [hexec _ (by simp [Cmd.writesData_of hopc])]
      simp only [Cmd.writesData_of hopc, beq_iff_eq.mpr hlast, hwp, Bool.and_self, Bool.and_false, Bool.false_eq_true, if_false, if_true]
      rfl
    · rw [hexec _ (by simp [hopc])]
      simp only [Cmd.writesData_compare hopc, Bool.false_and, Bool.false_eq_true, if_false]
      rfl
    · have hany : (c.writesData || c.sqe.opc == 0x05) = true := by
        rcases hopc with h | h | h <;> simp [Cmd.writesData, h]
      rw [hexec _ hany]
      cases pi with
      | ok => exact absurd rfl hpi
      | _ => rfl
  · rw [exec_writeCompletion_accepted hc hroom hf hq hph hcar hfua]
    exact ⟨fun h => by rw [h]; rfl, fun h => by rw [h]; rfl⟩
  · rw [exec_writeCompletion_record hc hroom hf hq hph hopc]
    exact ⟨fun h => by rw [h]; rfl, fun h => by rw [h]; rfl⟩
  · exact ⟨_, rfl, by rw [State.accepted_host], fun h => if_pos h, fun h => if_neg h⟩
  · refine ⟨fun hph hopc hq => flush_waits (State.mayRun_of hc hph hopc (decide_eq_false hq) hroom), fun hph hf => ?_,
      fun hph hopc hq => abort_spec (State.mayRun_of hc hph hopc (decide_eq_true hq) hroom)⟩
    rw [exec_flushCompletion hc hph hroom hf]
    exact ⟨fun h => by rw [h]; rfl, fun h => by rw [h]; rfl⟩

end Sys2Proof.Machine

/-! SUPPORT: the write commands at the zone and placement engines (R164 to R167, R186, R190, R193, R196, R197): O18. -/
namespace Sys2Proof.Machine
open Sys2Proof

section
variable {s : State} {r : CmdRef} {c : Cmd} {n : Ns}

/-- A writing command has its turn: it is found, its namespace exists, and neither the CSNs, the completion queue nor a flush stops it. -/
structure State.WriteTurn (s : State) (r : CmdRef) (c : Cmd) (n : Ns) : Prop where
  cmd : s.cmd? r = some c
  ns : s.nsAt c.nsix = some n
  io : r.qid ≠ 0
  csn : s.csnReady (c.nlb + 8) = true
  room : s.cqRoom r = true
  flush : s.hld.flush = .none

theorem State.WriteTurn.runWrite {opc : Nat} (h : s.WriteTurn r c n) (hopc : c.sqe.opc = opc) (hph : c.phase = .ready ∨ c.phase = .zoneWait ∨ c.phase = .data)
    (f : Cmd → Ns → State) : s.runWrite r opc f = .next (if n.wp then s.failWrite c .nsWriteProtected else f c n) := by
  rw [State.runWrite]
  simp only [h.cmd, h.ns]
  rw [if_pos ⟨hopc, h.io, hph, h.csn, h.room, h.flush⟩]
  exact next_ite _ _ _

/-- A command that waits for its turn has no locks yet. -/
theorem Cmd.not_data {c : Cmd} (h : c.phase = .ready ∨ c.phase = .zoneWait) : c.phase ≠ .data := by
  rcases h with h | h <;> simp [h]

theorem State.WriteTurn.protected (h : s.WriteTurn r c n) (hwp : n.wp = true) (hph : c.phase = .ready ∨ c.phase = .zoneWait ∨ c.phase = .data) :
    ∀ op ∈ [(Instr.write r, 0x01), (Instr.zoneAppend r, 0x7D), (Instr.writeZeroes r, 0x08), (Instr.writeUncorrectable r, 0x04),
      (Instr.datasetManagement r 0, 0x09)], c.sqe.opc = op.2 → exec op.1 s = .next (s.failWrite c .nsWriteProtected) := by
  simp only [List.mem_cons, List.not_mem_nil, or_false]
  rintro op (rfl | rfl | rfl | rfl | rfl) hopc
  all_goals exact (h.runWrite hopc hph _).trans (by rw [hwp]; rfl)

/-- What each write command does at its first turn (R164, R167, R190, R193). -/
theorem State.WriteTurn.first (h : s.WriteTurn r c n) (hwp : n.wp = false) (hph : c.phase = .ready ∨ c.phase = .zoneWait) :
    (c.sqe.opc = 0x01 → exec (.write r) s = .next (if n.kind = .zoned then s.handleZoneWrite c n false else s.handlePlacementWrite c n)) ∧
    (c.sqe.opc = 0x7D → exec (.zoneAppend r) s = .next (s.handleZoneWrite c n true)) ∧
    (c.sqe.opc = 0x08 → exec (.writeZeroes r) s = .next (if n.kind = .zoned then s.handleZoneWrite c n false else s.requestLocks c)) ∧
    (c.sqe.opc = 0x04 → exec (.writeUncorrectable r) s = .next (s.requestLocks c)) ∧
    (∀ taken, c.sqe.opc = 0x09 → exec (.datasetManagement r taken) s =
      .next (if c.sqe.dealloc = false ∨ c.mapRanges = [] then s.complete c .success else s.requestLocks c)) := by
  have hrun : ∀ {opc f}, c.sqe.opc = opc → s.runWrite r opc f = .next (f c n) := fun {opc f} hopc =>
    (h.runWrite hopc (hph.imp_right Or.inl) f).trans (by rw [hwp]; rfl)
  have hnd := Cmd.not_data hph
  refine ⟨fun hopc => (hrun hopc).trans ?_, fun hopc => (hrun hopc).trans ?_, fun hopc => (hrun hopc).trans ?_, fun hopc => (hrun hopc).trans ?_,
    fun taken hopc => (hrun hopc).trans ?_⟩
  all_goals simp only [hnd, if_false]

/-- What the commands that hold their locks do (R167, R190, R193). -/
theorem State.WriteTurn.locked (h : s.WriteTurn r c n) (hwp : n.wp = false) (hph : c.phase = .data) :
    (c.sqe.opc = 0x08 → exec (.writeZeroes r) s = .next (if n.kind = .zoned then
        s.grantCsns { c with got := (List.range c.nlb).map fun i => (s.crypt true c.nsix (c.lba + i) 0, 0) } n
      else s.recordMap c n 2 c.nlb c.mapRanges)) ∧
    (c.sqe.opc = 0x04 → exec (.writeUncorrectable r) s = .next (s.recordMap c n 3 c.nlb c.mapRanges)) ∧
    (∀ taken, c.sqe.opc = 0x09 → exec (.datasetManagement r taken) s =
      .next (if n.kind = .zoned ∨ masked taken c.mapRanges = [] then s.complete c .success else s.recordMap c n 1 1 (masked taken c.mapRanges))) := by
  have hrun : ∀ {opc f}, c.sqe.opc = opc → s.runWrite r opc f = .next (f c n) := fun {opc f} hopc =>
    (h.runWrite hopc (Or.inr (Or.inr hph)) f).trans (by rw [hwp]; rfl)
  refine ⟨fun hopc => (hrun hopc).trans ?_, fun hopc => (hrun hopc).trans ?_, fun taken hopc => (hrun hopc).trans ?_⟩
  all_goals simp only [hph, if_true]

/-! ### The placement engine (R186, R196) -/

theorem State.handlePlacementWrite_full (hs : s.slotsFor c.nsix n (n.groupOf c.sqe c.lba) c.nlb = false) :
    s.handlePlacementWrite c n = if s.gcCould c.nsix then s else (s.protectNs c.nsix).complete c .capacityExceeded := by
  simp only [State.handlePlacementWrite, hs, Bool.false_eq_true, if_false]

/-- A command whose group is fixed and whose slots are reserved. -/
def State.withSlots (s : State) (c : Cmd) (g : Nat) : State :=
  (s.withZon { s.zon with reserved := s.zon.reserved.upd (c.nsix * 32 + g) 0 (· + c.nlb) }).setCmd c.ref fun c => { c with group := g }

theorem State.handlePlacementWrite_fits (hc : s.cmd? c.ref = some c) (hs : s.slotsFor c.nsix n (n.groupOf c.sqe c.lba) c.nlb = true) :
    ∃ u, OnlyChanges [.host, .zon] s u ∧ u.zon.reserved = s.zon.reserved.upd (c.nsix * 32 + n.groupOf c.sqe c.lba) 0 (· + c.nlb) ∧
      s.handlePlacementWrite c n = u.requestLocks { c with group := n.groupOf c.sqe c.lba } := by
  have hset : (s.withSlots c (n.groupOf c.sqe c.lba)).cmd? c.ref = some { c with group := n.groupOf c.sqe c.lba } := by
    rw [State.withSlots, State.cmd?_setCmd (c := c) (by exact hc) rfl]
  refine ⟨s.withSlots c (n.groupOf c.sqe c.lba), Same.onlyChanges_of_covers (m := 520) (by simp [State.withSlots]) rfl, rfl, ?_⟩
  rw [State.withSlots] at hset ⊢
  simp only [State.handlePlacementWrite, hs, if_true, hset]

end

/-- Settles O18. -/
theorem writeCommands : Obligations.WriteCommands := by
  intro r c n s hc hn hq hcsn hroom hf
  have h : s.WriteTurn r c n := ⟨hc, hn, hq, hcsn, hroom, hf⟩
  have hself : s.cmd? c.ref = some c := by rw [State.cmd?_ref hc]; exact hc
  refine ⟨fun op hop hopc hwp hph => h.protected hwp hph op hop hopc, fun hwp hph => ?_, fun hwp hph => ?_, fun hs hgc => ?_, fun hs hgc => ?_,
    State.handlePlacementWrite_fits hself⟩
  · obtain ⟨hwrite, happend, hzeroes, huncor, hdsm⟩ := h.first hwp hph
    refine ⟨fun hopc hk => ?_, fun hopc hk => ?_, happend, fun hopc hk => ?_, fun hopc hk => ?_, huncor, fun taken hopc => ⟨fun hno => ?_, fun hd hr => ?_⟩⟩
    · rw [hwrite hopc, if_pos hk]
    · rw [hwrite hopc, if_neg hk]
    · rw [hzeroes hopc, if_pos hk]
    · rw [hzeroes hopc, if_neg hk]
    · rw [hdsm taken hopc, if_pos hno]
    · rw [hdsm taken hopc, if_neg (by simp [hd, hr])]
  · obtain ⟨hzeroes, huncor, hdsm⟩ := h.locked hwp hph
    refine ⟨fun hopc hk => ?_, fun hopc hk => ?_, huncor, fun taken hopc => ⟨fun hno => ?_, fun hk hr => ?_⟩⟩
    · rw [hzeroes hopc, if_pos hk]
    · rw [hzeroes hopc, if_neg hk]
    · rw [hdsm taken hopc, if_pos hno]
    · rw [hdsm taken hopc, if_neg (not_or.mpr ⟨hk, hr⟩)]
  · rw [State.handlePlacementWrite_full hs, hgc]
    rfl
  · rw [State.handlePlacementWrite_full hs, hgc]
    rfl

end Sys2Proof.Machine

/-! SUPPORT: zone actions (R100, R157, R163, R168, R171, R233): O19. When an action takes effect, and which actions go through lock entries before
their record, is log entry 124, the model's choice. -/
namespace Sys2Proof.Machine
open Sys2Proof

section
variable {s : State} {r : CmdRef} {c : Cmd} {n : Ns} {act e : Nat} {z : Zone}

/-! ### What an action does to a zone (R157) -/

theorem actionResult_error {st : Status} (h : actionResult act z = .error st) : st = .zoneInvalidTransition := by
  unfold actionResult at h
  split at h <;> cases h
  rfl

theorem actionResult_state {nz : ZState} (h : actionResult act z = .ok (some nz)) :
    (act, nz) ∈ [(1, ZState.explicitOpen), (2, .closed), (3, .full), (4, .empty), (5, .offline)] := by
  unfold actionResult at h
  split at h <;> cases h <;> simp

/-! ### The handling of one zone (R157, R163, R168) -/

/-- The zone and the command once an action has been handled on a zone that opens no resources. -/
def State.actedOn (s : State) (r : CmdRef) (act e : Nat) (z : Zone) (nz : ZState) : State :=
  (s.setZone e fun z => { z with
    zs := nz
    wpoff := if act = 3 then z.zcap else z.wpoff
    action := if act = 3 ∨ act = 4 then some r else z.action }).setCmd r fun c => { c with acts := c.acts ++ [⟨e, act, 0, none, [], z.zs, z.wpoff⟩] }

theorem State.actedOn_zone (s : State) (r : CmdRef) (act e : Nat) (z : Zone) (nz : ZState) : (s.actedOn r act e z nz).zone? e =
    (s.zone? e).map fun z => { z with
      zs := nz, wpoff := if act = 3 then z.zcap else z.wpoff, action := if act = 3 ∨ act = 4 then some r else z.action } :=
  s.zone?_setZone_same e _

theorem State.actedOn_cmd (hc : s.cmd? r = some c) (ha : c.acts = []) (act e : Nat) (z : Zone) (nz : ZState) :
    (s.actedOn r act e z nz).cmd? r = some { c with acts := [⟨e, act, 0, none, [], z.zs, z.wpoff⟩] } := by
  rw [State.actedOn, State.cmd?_setCmd (c := c) (by exact hc) rfl, ha]
  rfl

theorem State.actedOn_onlyChanges (s : State) (r : CmdRef) (act e : Nat) (z : Zone) (nz : ZState) : OnlyChanges [.host, .zon] s (s.actedOn r act e z nz) :=
  Same.onlyChanges_of_covers (m := 520) (by simp [State.actedOn]) rfl

section
variable (hz : s.zone? e = some z)
include hz

theorem State.handleAction_bound (hr : z.ring.isSome = true) : s.handleAction c n act e = (s, .zoneCaptureBound) := by
  simp only [State.handleAction, hz, hr, if_true]

theorem State.handleAction_error {st : Status} (hr : z.ring = none) (h : actionResult act z = .error st) : s.handleAction c n act e = (s, st) := by
  simp only [State.handleAction, hz, hr, h, Option.isSome_none, Bool.false_eq_true, if_false]

theorem State.handleAction_reached (hr : z.ring = none) (h : actionResult act z = .ok none) : s.handleAction c n act e = (s, .success) := by
  simp only [State.handleAction, hz, hr, h, Option.isSome_none, Bool.false_eq_true, if_false]

theorem State.handleAction_acts {nz : ZState} (hr : z.ring = none) (h : actionResult act z = .ok (some nz)) (hact : act ≠ 1) :
    s.handleAction c n act e = (s.actedOn c.ref act e z nz, .success) := by
  simp only [State.handleAction, hz, hr, h, hact, Option.isSome_none, Bool.false_eq_true, if_false]
  rfl

theorem State.handleAction_opens {nz : ZState} {u : State} (hr : z.ring = none) (h : actionResult 1 z = .ok (some nz))
    (ho : s.openZone n c.nsix e z true = (u, .success)) : s.handleAction c n 1 e = (u.actedOn c.ref 1 e z nz, .success) := by
  simp only [State.handleAction, hz, hr, h, ho, Option.isSome_none, Bool.false_eq_true, if_false, if_true]
  rfl

end

/-! ### An action on one zone -/

/-- What follows the handling of an action's zones. -/
def State.actionEnd (c : Cmd) (n : Ns) (act : Nat) (a : State × Status) : State :=
  match a.2 with
  | .success =>
    match a.1.cmd? c.ref with
    | none => a.1
    | some c' =>
      if c'.acts.isEmpty then a.1.complete c' .success
      else if act = 1 ∨ act = 2 then a.1.recordActions c' n
      else a.1.requestLocks c'
  | st => a.1.complete c st

theorem State.zoneAction_single (hsel : c.sqe.selectAll = false) (he : n.entryOf (c.sqe.slba / 262144) = some e) :
    s.zoneAction c n act = State.actionEnd c n act (s.handleAction c n act e) := by
  have hzones : s.actionZones c n act = [e] := by
    simp only [State.actionZones, hsel, he, Bool.false_eq_true, if_false, Option.toList]
  rw [State.zoneAction, hzones]
  rfl

theorem State.actionEnd_failed {st : Status} (h : st ≠ .success) : State.actionEnd c n act (s, st) = s.complete c st := by
  unfold State.actionEnd
  split
  · rename_i hst
    exact absurd hst h
  · rfl

theorem State.actionEnd_reached (hc : s.cmd? c.ref = some c) (ha : c.acts = []) : State.actionEnd c n act (s, .success) = s.complete c .success := by
  simp only [State.actionEnd, hc, ha, List.isEmpty_nil, if_true]

theorem State.actionEnd_acted {u : State} {c' : Cmd} (hc : u.cmd? c.ref = some c') (ha : c'.acts.isEmpty = false) :
    State.actionEnd c n act (u, .success) = if act = 1 ∨ act = 2 then u.recordActions c' n else u.requestLocks c' := by
  simp only [State.actionEnd, hc, ha, Bool.false_eq_true, if_false]

/-! ### The rows of the actions (R162, R196, R197) -/

/-- The turn of a zone action: it is found, with its namespace, its Zone Send Action and room for its CSNs and its completion. -/
structure State.ActionTurn (s : State) (r : CmdRef) (c : Cmd) (n : Ns) (act : Nat) : Prop where
  cmd : s.cmd? r = some c
  ns : s.nsAt c.nsix = some n
  opc : c.sqe.opc = 0x79
  zsa : actOfZsa c.sqe.zsa = some act
  csn : s.csnReady (262144 + 8) = true
  room : s.cqRoom r = true

theorem State.ActionTurn.locked (h : s.ActionTurn r c n act) (hph : c.phase = .data) :
    s.runZoneAction r act = .next (if n.wp then s.failWrite c .nsWriteProtected else s.recordActions c n) := by
  rw [State.runZoneAction]
  simp only [h.cmd, h.ns]
  rw [if_pos ⟨h.opc, h.zsa, h.csn, h.room⟩]
  simp only [hph]
  exact next_ite _ _ _

theorem State.ActionTurn.first (h : s.ActionTurn r c n act) (hph : c.phase = .ready ∨ c.phase = .zoneWait) :
    s.runZoneAction r act = .next (if s.actionBlocked c n act then s.waitZone c else if n.wp then s.complete c .nsWriteProtected else s.zoneAction c n act) := by
  rw [State.runZoneAction]
  simp only [h.cmd, h.ns]
  rw [if_pos ⟨h.opc, h.zsa, h.csn, h.room⟩]
  rcases hph with hph | hph
  · simp only [hph]
    rw [next_ite, next_ite]
  · simp only [hph]
    rw [next_ite, next_ite]

/-- Each row of a zone action is the run of its own action. -/
theorem exec_zoneAction {op : CmdRef → Instr} {zsa : Nat}
    (h : (op, zsa, act) ∈ [(Instr.zoneOpen, 0x03, 1), (Instr.zoneClose, 0x01, 2), (Instr.zoneFinish, 0x02, 3), (Instr.zoneReset, 0x04, 4), (Instr.zoneOffline, 0x05, 5)]) :
    (∀ (r : CmdRef) (s : State), exec (op r) s = s.runZoneAction r act) ∧ actOfZsa zsa = some act := by
  simp only [List.mem_cons, Prod.mk.injEq, List.not_mem_nil, or_false] at h
  obtain ⟨rfl, rfl, rfl⟩ | ⟨rfl, rfl, rfl⟩ | ⟨rfl, rfl, rfl⟩ | ⟨rfl, rfl, rfl⟩ | ⟨rfl, rfl, rfl⟩ := h
  all_goals exact ⟨fun _ _ => rfl, rfl⟩

theorem State.ActionTurn.single (h : s.ActionTurn r c n act) (hph : c.phase = .ready ∨ c.phase = .zoneWait) (hb : s.actionBlocked c n act = false)
    (hwp : n.wp = false) (hsel : c.sqe.selectAll = false) (he : n.entryOf (c.sqe.slba / 262144) = some e) :
    s.runZoneAction r act = .next (State.actionEnd c n act (s.handleAction c n act e)) := by
  rw [h.first hph, hb, hwp, State.zoneAction_single hsel he]
  rfl

/-! ### The acknowledge point (R168) -/

theorem exec_zoneActionAcknowledge (hc : s.cmd? r = some c) (hn : s.nsAt c.nsix = some n) (hopc : c.sqe.opc = 0x79) (hph : c.phase = .record)
    (hroom : s.cqRoom r = true) (hf : s.hld.flush = .none) :
    exec (.zoneActionAcknowledge r) s = .next (if c.acts.all (fun a => s.durable (a.jrec.getD 0)) then
      (c.acts.foldl (fun s a => s.applyAction c.nsix n a) s).complete c .success else s) := by
  have hexec : exec (.zoneActionAcknowledge r) s = execZoneActionAcknowledge r s := rfl
  rw [hexec, execZoneActionAcknowledge]
  simp only [hc, hn, hopc, hph, hroom, hf, true_and, and_true]
  exact next_ite _ _ _

theorem State.applyAction_zone {a : ZoneAct} (nsix : Nat) (n : Ns) (ha : a.act = 1 ∨ a.act = 2) (hz : s.zone? a.entry = some z) :
    (s.applyAction nsix n a).zone? a.entry = some { z with action := none } := by
  have hset : ∀ t : State, t.zone? a.entry = some z → (t.setZone a.entry fun z => { z with action := none, bound := z.bound && a.act != 5 }).zone? a.entry =
      some { z with action := none, bound := z.bound && a.act != 5 } := fun t ht => by rw [State.zone?_setZone_same, ht]; rfl
  rcases ha with ha | ha <;> simp only [State.applyAction, ha] at hset ⊢ <;> exact (hset s hz).trans (by simp)

/-- An action on one zone, by the result that the zone's state gives it. -/
theorem State.ActionTurn.outcome (h : s.ActionTurn r c n act) (hph : c.phase = .ready ∨ c.phase = .zoneWait) (hb : s.actionBlocked c n act = false)
    (hwp : n.wp = false) (hsel : c.sqe.selectAll = false) (he : n.entryOf (c.sqe.slba / 262144) = some e) (hz : s.zone? e = some z) (ha : c.acts = []) :
    (z.ring.isSome = true → s.runZoneAction r act = .next (s.complete c .zoneCaptureBound)) ∧
    (z.ring = none →
      (∀ st, actionResult act z = .error st → s.runZoneAction r act = .next (s.complete c st) ∧ st = .zoneInvalidTransition) ∧
      (actionResult act z = .ok none → s.runZoneAction r act = .next (s.complete c .success)) ∧
      (∀ nz, actionResult act z = .ok (some nz) → act ≠ 1 → ∃ (u : State) (c' : Cmd), c' = { c with acts := [⟨e, act, 0, none, [], z.zs, z.wpoff⟩] } ∧ u.cmd? r = some c' ∧
        u.zone? e = some { z with zs := nz, wpoff := if act = 3 then z.zcap else z.wpoff, action := if act = 3 ∨ act = 4 then some r else z.action } ∧
        OnlyChanges [.host, .zon] s u ∧ s.runZoneAction r act = .next (if act = 2 then u.recordActions c' n else u.requestLocks c')) ∧
      (∀ nz u, actionResult act z = .ok (some nz) → act = 1 → s.openZone n c.nsix e z true = (u, .success) → u.cmd? r = some c →
        ∃ (w : State) (c' : Cmd), c' = { c with acts := [⟨e, 1, 0, none, [], z.zs, z.wpoff⟩] } ∧ w.cmd? r = some c' ∧ w.zone? e = (u.zone? e).map (fun z => { z with zs := .explicitOpen }) ∧
          s.runZoneAction r act = .next (w.recordActions c' n))) := by
  have hrun := h.single hph hb hwp hsel he
  obtain rfl : c.ref = r := State.cmd?_ref h.cmd
  refine ⟨fun hr => ?_, fun hr => ⟨fun st hst => ?_, fun hok => ?_, fun nz hok hact => ?_, fun nz u hok hact hopen hu => ?_⟩⟩
  · rw [hrun, State.handleAction_bound hz hr, State.actionEnd_failed (by simp)]
  · have hst' := actionResult_error hst
    rw [hrun, State.handleAction_error hz hr hst, State.actionEnd_failed (by simp [hst'])]
    exact ⟨rfl, hst'⟩
  · rw [hrun, State.handleAction_reached hz hr hok, State.actionEnd_reached h.cmd ha]
  · have hcmd := State.actedOn_cmd h.cmd ha act e z nz
    refine ⟨s.actedOn c.ref act e z nz, _, rfl, hcmd, by rw [State.actedOn_zone, hz]; rfl, State.actedOn_onlyChanges _ _ _ _ _ _, ?_⟩
    rw [hrun, State.handleAction_acts hz hr hok hact, State.actionEnd_acted hcmd rfl]
    simp only [hact, false_or]
  · subst hact
    have hnz : nz = .explicitOpen := by simpa using actionResult_state hok
    subst hnz
    have hcmd := State.actedOn_cmd hu ha 1 e z .explicitOpen
    refine ⟨u.actedOn c.ref 1 e z .explicitOpen, _, rfl, hcmd, State.actedOn_zone .., ?_⟩
    rw [hrun, State.handleAction_opens hz hr hok hopen, State.actionEnd_acted hcmd rfl]
    rfl

end

/-- Settles O19: every row is the run of one action, whose zone decides the outcome. -/
theorem zoneActions : Obligations.ZoneActions := by
  refine ⟨fun r c n act zsa op s hop hc hn hopc hzsa hcsn hroom => ?_, fun act z nz => actionResult_state, fun r c n s hc hn hopc hph hroom hf => ?_,
    fun a nsix n z s => State.applyAction_zone nsix n⟩
  · obtain ⟨hexec, hact⟩ := exec_zoneAction hop
    have h : s.ActionTurn r c n act := ⟨hc, hn, hopc, hzsa ▸ hact, hcsn, hroom⟩
    rw [hexec]
    refine ⟨h.locked, fun hph => ⟨fun hb => ?_, fun hb hwp => ?_, fun e z hb hwp hsel he hz ha => h.outcome hph hb hwp hsel he hz ha⟩⟩
    · rw [h.first hph, hb]
      rfl
    · rw [h.first hph, hb, hwp]
      rfl
  · rw [exec_zoneActionAcknowledge hc hn hopc hph hroom hf]
    exact ⟨fun h => by rw [h]; rfl, fun h => by rw [h]; rfl⟩

end Sys2Proof.Machine

/-! SUPPORT: the stripe engine's commands, and what a row's parity recovers (R153, R403, R412, R414, R415, R426): O21. That the groups which wait on
a die fail at the inhibit time limit is log entry 92, the model's choice. -/
namespace Sys2Proof.Machine
open Sys2Proof

section
variable {s : State}

/-! ### Units placed (R153, R414) -/

theorem exec_stripeUnitPlacement_eq {csn : Nat} {comp : Bool} {u : DramUnit} (h : s.str.dram.get? (unitKey csn comp) = some u) :
    exec (.stripeUnitPlacement csn comp) s = .next (if u.place.isNone && (u.reloc || s.mayPlace u) && !s.logHeld then
      ((s.placeUnit (unitKey csn comp) u).wtClose (unitKey csn comp)).closeForFlushes.pressCredit else s) := by
  have hexec : exec (.stripeUnitPlacement csn comp) s = execStripeUnitPlacement csn comp s := rfl
  rw [hexec, execStripeUnitPlacement]
  simp only [h]
  exact next_ite _ _ _

/-! ### Programs of groups (R412, R414, R426, R455) -/

theorem State.sdie_setSdie_same (s : State) (die : Nat) (f : SDie → SDie) : (s.setSdie die f).sdie die = f (s.sdie die) := AMap.getD_ins_same ..

theorem State.setSdie_str (s : State) (die : Nat) (f : SDie → SDie) : (s.setSdie die f).str = s.str := rfl

theorem State.queueProgram_spec (s : State) (setid : Nat) (r : SetRec) (m grp : Nat) :
    (s.queueProgram setid r m grp).groupState setid m grp = some .sent ∧
    ((s.queueProgram setid r m grp).sdie (nth r.members m (0, 0)).1).mw = (s.sdie (nth r.members m (0, 0)).1).mw ++
      [{ kind := .program setid m grp, cls := 1, arrive := s.ao.time, maint := false }] ∧
    OnlyChanges [.str, .sch] s (s.queueProgram setid r m grp) := by
  refine ⟨?_, ?_, (State.queueProgram_same0 s setid r m grp).onlyChanges_of_covers rfl⟩
  · simp only [State.queueProgram, State.groupState, State.setSdie_str, State.withStr_str, AMap.get?_ins_same]
    rfl
  · simp only [State.queueProgram, State.sdie_setSdie_same]
    rfl

/-- A group of a member in service whose turn to be programmed has come. -/
structure State.GroupTurn (s : State) (setid m grp : Nat) (r : SetRec) : Prop where
  set : s.set? setid = some r
  member : m < 18
  group : grp < 1024
  kept : r.memberLost m = false
  unsent : s.groupState setid m grp = none
  full : s.groupFull setid r m grp = true
  inSet : (s.groupSpan r m grp).1 < r.rows
  lower : grp = 0 ∨ s.groupState setid m (grp - 1) = some .done
  flush : s.hld.flush = .none

theorem State.GroupTurn.exec {setid m grp : Nat} {r : SetRec} (h : s.GroupTurn setid m grp r) : exec (.groupProgram setid m grp) s =
    .next (((s.badUnits setid r m grp).foldl (fun s x => s.padBad setid r x) s).queueProgram setid r m grp) := by
  have hexec : Machine.exec (.groupProgram setid m grp) s = execGroupProgram setid m grp s := rfl
  rw [hexec, execGroupProgram]
  simp only [h.set]
  exact if_pos ⟨h.member, h.group, h.kept, by rw [h.unsent]; rfl, h.full, h.inSet, h.lower, h.flush⟩

/-- The groups that wait on a die have failed. -/
def State.failWaiting (s : State) (die : Nat) : State :=
  s.withStr { s.str with groups := s.str.groups.mapV fun k g =>
    if (g.inhSince.isSome = true ∧ s.groupDie k = some die) ∨ s.suspendedGroup die = some k then { g with st := .failed, inhSince := none } else g }

theorem exec_inhibitWaitTimeout_eq (die : Nat) (s : State) : exec (.inhibitWaitTimeout die) s =
    .next (if (s.link (pkgOf die)).inh = 0 then s.resendInhibited (pkgOf die) else s.failWaiting die) := next_ite _ _ _

theorem inhibitWaitTimeout_fails {die : Nat} (h : (s.link (pkgOf die)).inh ≠ 0) :
    ∃ t, exec (.inhibitWaitTimeout die) s = .next t ∧ OnlyChanges [.str] s t ∧
      ∀ k g, s.str.groups.get? k = some g → t.str.groups.get? k = some (if (g.inhSince.isSome = true ∧ s.groupDie k = some die) ∨ s.suspendedGroup die = some k then
        { g with st := .failed, inhSince := none } else g) := by
  refine ⟨s.failWaiting die, (exec_inhibitWaitTimeout_eq die s).trans (by rw [if_neg h]), Same.onlyChanges_of_covers (m := 1024) (by simp [State.failWaiting]) rfl,
    fun k g hg => ?_⟩
  rw [State.failWaiting, State.withStr_str, AMap.get?_mapV, hg]
  rfl

/-! ### The epoch of a namespace -/

theorem State.nsAt_setNs_same {nsix : Nat} {n : Ns} (f : Ns → Ns) (h : s.nsAt nsix = some n) : (s.setNs nsix f).nsAt nsix = some (f n) := by
  rw [State.nsAt] at h
  rw [State.nsAt, State.setNs, State.withZon_zon, AMap.get?_adj_same, h]
  rfl

theorem epochEnd_cuts {nsix : Nat} {n : Ns} (h : s.nsAt nsix = some n) (hk : n.kind = .placement) (hpos : 0 < s.fld F.ZON_PL_EPOCH_EPOCH_GIB)
    (hlen : s.fld F.ZON_PL_EPOCH_EPOCH_GIB * 2 ^ 30 ≤ n.epochBytes) : ∃ t, exec (.epochEnd nsix) s = .next t ∧ OnlyChanges [.zon] s t ∧
      t.nsAt nsix = some { n with epochBytes := n.epochBytes - s.fld F.ZON_PL_EPOCH_EPOCH_GIB * 2 ^ 30, hist := n.hist.mapV fun _ h => h - h / 4 } := by
  have hexec : exec (.epochEnd nsix) s = execEpochEnd nsix s := rfl
  simp only [execEpochEnd, h] at hexec
  rw [if_pos ⟨hk, hlen, Nat.mul_pos hpos (by omega)⟩] at hexec
  exact ⟨_, hexec, exec_onlyChanges hexec, State.nsAt_setNs_same _ h⟩

end

/-! ### What parity recovers (R402, R403) -/

theorem foldl_xor (l : List Info) (a : Info) : l.foldl (fun p d => p ^^^ d) a = a ^^^ parityP l := by
  induction l generalizing a with
  | nil => exact BitVec.xor_zero.symm
  | cons x l ih =>
    rw [parityP, List.foldl_cons, List.foldl_cons, ih, ih, BitVec.ofNat_eq_ofNat, BitVec.zero_xor, BitVec.xor_assoc]

theorem parityP_append (l k : List Info) : parityP (l ++ k) = parityP l ^^^ parityP k := by
  rw [parityP, List.foldl_append, foldl_xor]
  rfl

theorem parityP_cons (x : Info) (l : List Info) : parityP (x :: l) = x ^^^ parityP l := by
  rw [parityP, List.foldl_cons, foldl_xor, BitVec.ofNat_eq_ofNat, BitVec.zero_xor]

theorem recoverByP_rest (pre post : List Info) (x : Info) (num : Nat → Nat) :
    recoverByP (parityP (pre ++ x :: post)) ((pre ++ post).zipIdx.map fun y => (num y.2, y.1)) = x := by
  have hrest : ((pre ++ post).zipIdx.map fun y => (num y.2, y.1)).map (·.2) = pre ++ post := by
    rw [List.map_map]
    exact List.zipIdx_map_fst 0 _
  have hcancel : ∀ a b : Info, a ^^^ (x ^^^ b) ^^^ (a ^^^ b) = x := fun a b => by
    rw [BitVec.xor_comm x b, ← BitVec.xor_assoc a b x, BitVec.xor_comm (a ^^^ b) x, BitVec.xor_assoc, BitVec.xor_self, BitVec.xor_zero]
  rw [recoverByP, hrest, parityP_append, parityP_append, parityP_cons]
  exact hcancel _ _

theorem recoverRow_of_three {avail : AMap Info} (useQ : Bool) (h : 3 ≤ ((List.range 16).filter fun d => (avail.get? d).isNone).length) :
    recoverRow avail useQ = none := by
  unfold recoverRow
  dsimp only
  split <;> rename_i hgone _ _ <;> simp_all

theorem recoverRow_of_no_parity {avail : AMap Info} (useQ : Bool) (hp : avail.get? 16 = none) (hq : avail.get? 17 = none)
    (h : 1 ≤ ((List.range 16).filter fun d => (avail.get? d).isNone).length) : recoverRow avail useQ = none := by
  unfold recoverRow
  dsimp only
  split <;> simp_all

/-- Settles O21. -/
theorem stripesAndRecovery : Obligations.StripesAndRecovery := by
  refine ⟨⟨fun csn comp u s hu => ⟨fun hn hm hl => ?_, fun hno => ?_⟩, fun setid m grp r s hset hm hg hlost hst hfull hin hlow hf => ?_,
    fun die s => ⟨fun h => ?_, inhibitWaitTimeout_fails⟩, fun nsix n s => epochEnd_cuts, fun a s => rfl⟩,
    recoverByP_rest, fun avail useQ => recoverRow_of_three useQ, fun avail useQ => recoverRow_of_no_parity useQ⟩
  · have hmay : (u.reloc || s.mayPlace u) = true := by rw [Bool.or_eq_true]; exact hm
    rw [exec_stripeUnitPlacement_eq hu, hn, hmay, hl]
    rfl
  · have hnot : (u.place.isNone && (u.reloc || s.mayPlace u) && !s.logHeld) = false := by
      rcases hno with h | ⟨hr, hm⟩ | h
      · rw [Option.isNone_eq_false_iff.mpr h]; rfl
      · rw [hr, hm, Bool.or_self, Bool.and_false]; rfl
      · rw [h, Bool.not_true, Bool.and_false]
    rw [exec_stripeUnitPlacement_eq hu, hnot]
    rfl
  · have hexec := State.GroupTurn.exec ⟨hset, hm, hg, hlost, hst, hfull, hin, hlow, hf⟩
    refine ⟨fun hbad => ?_, hexec⟩
    rw [hbad] at hexec
    obtain ⟨hsent, hmw, hframe⟩ := s.queueProgram_spec setid r m grp
    exact ⟨_, hexec, hsent, hmw, hframe⟩
  · rw [exec_inhibitWaitTimeout_eq, if_pos h]

end Sys2Proof.Machine

/-! SUPPORT: replaced and rebuilt members, staged rows, lost placement positions and reconstructions (R420, R428, R430, R431, R433, R434, R439): O22.
The cause of a lost row is log entry 82, and when a rebuild may go on is log entry 155, both the model's choice. -/
namespace Sys2Proof.Machine
open Sys2Proof

section
variable {s : State}

/-! ### Replacing and rebuilding (R428, R433, R434) -/

theorem memberReplacement_spec {setid : Nat} (m : Nat) {r : SetRec} (hr : s.set? setid = some r) :
    (m < 18 → s.mustReplace setid r m = true → s.hld.flush = .none → s.logHeld = false → exec (.memberReplacement setid m) s = .next (s.replaceMember setid m)) ∧
    (s.mustReplace setid r m = false ∨ s.hld.flush ≠ .none ∨ s.logHeld = true → exec (.memberReplacement setid m) s = .next s) := by
  have hexec : exec (.memberReplacement setid m) s = execMemberReplacement setid m s := rfl
  rw [hexec, execMemberReplacement]
  simp only [hr]
  refine ⟨fun hm hmust hf hl => if_pos ⟨hm, hmust, hf, hl⟩, fun hno => if_neg ?_⟩
  rintro ⟨-, hmust, hf, hl⟩
  rw [hmust, hl] at hno
  simp [hf] at hno

theorem rebuildRow_idle (h : s.flag F.STR_RBCFG_RBEN = false ∨ s.hld.flush ≠ .none ∨ s.logHeld = true) : exec .rebuildRow s = .next s := by
  refine if_neg ?_
  rintro ⟨hen, hf, hl⟩
  rw [hen, hl] at h
  simp [hf] at h

section
variable (hen : s.flag F.STR_RBCFG_RBEN = true) (hf : s.hld.flush = .none) (hl : s.logHeld = false)
include hen hf hl

theorem exec_rebuildRow_none (hb : s.str.rebuild = none) : exec .rebuildRow s = .next s.startRebuild := by
  have hexec : exec .rebuildRow s = execRebuildRow s := rfl
  rw [hexec, execRebuildRow, if_pos ⟨hen, hf, hl⟩]
  simp only [hb]

theorem exec_rebuildRow_some {b : Rebuild} {r : SetRec} (hb : s.str.rebuild = some b) (hr : s.set? b.setid = some r) : exec .rebuildRow s =
    .next (if b.doneRows < s.programmedRows b.setid r then (if s.rebuildMay b r = true then s.rebuildNext b r else s) else s.endRebuild b r) := by
  have hexec : exec .rebuildRow s = execRebuildRow s := rfl
  rw [hexec, execRebuildRow, if_pos ⟨hen, hf, hl⟩]
  simp only [hb, hr]
  rw [next_ite, next_ite]

theorem exec_rebuildRow_gone {b : Rebuild} (hb : s.str.rebuild = some b) (hr : s.set? b.setid = none) :
    exec .rebuildRow s = .next (s.withStr { s.str with rebuild := none }) := by
  have hexec : exec .rebuildRow s = execRebuildRow s := rfl
  rw [hexec, execRebuildRow, if_pos ⟨hen, hf, hl⟩]
  simp only [hb, hr]

end

/-! ### Staged rows (R420) -/

theorem exec_stagedReadback_full {setid row lba : Nat} {r : SetRec} (hr : s.set? setid = some r) (hz : setid < 0x100000) (hrow : row < r.rows)
    (hfull : s.groupsFilled setid r row = true) (hlba : s.rowLba setid row = some lba) (hno : ∀ d < 16, nth (s.row setid row).pos d .empty ≠ .staged) :
    exec (.stagedReadback setid row) s = .next (s.parityRow setid r row (s.row setid row).early) := by
  have hexec : exec (.stagedReadback setid row) s = execStagedReadback setid row s := rfl
  have hds : ((List.range 16).filter fun d => nth (s.row setid row).pos d .empty == .staged) = [] := by
    rw [List.filter_eq_nil_iff]
    intro d hd
    simpa using hno d (List.mem_range.mp hd)
  rw [hexec, execStagedReadback]
  simp only [hr, hz, hrow, hfull, hlba, hds, and_self, if_true, List.foldl_nil]

/-! ### Lost placement positions (R439) -/

/-- The search for a lost position is over. -/
def State.searchOver (s : State) (record pos : Nat) : State :=
  s.withStr { s.str with lost := s.str.lost.map fun x => if x.index = record then { x with search := x.search.filter fun p => p != pos } else x }

theorem lostLbaSearchEnd_spec {record pos : Nat} {e : LostRec} (he : (s.str.lost.find? fun e => e.index == record && e.search.contains pos) = some e) :
    (∀ x, (s.zon.map.find? fun x => x.2 == (stripeSet e.stripe - 0x100000) * 2 ^ 18 + 16 * stripeRow e.stripe + pos) = some x →
      exec (.lostLbaSearchEnd record pos) s = .next ((s.searchOver record pos).deferLost (x.1 / 2 ^ 48) (x.1 % 2 ^ 48) e.tag e.index)) ∧
    ((s.zon.map.find? fun x => x.2 == (stripeSet e.stripe - 0x100000) * 2 ^ 18 + 16 * stripeRow e.stripe + pos) = none →
      exec (.lostLbaSearchEnd record pos) s = .next (s.searchOver record pos)) := by
  have hexec : exec (.lostLbaSearchEnd record pos) s = execLostLbaSearchEnd record pos s := rfl
  rw [hexec, execLostLbaSearchEnd]
  simp only [he, State.withStr_zon]
  refine ⟨fun x hx => ?_, fun hx => ?_⟩
  · rw [hx]
    rfl
  · rw [hx]
    rfl

/-! ### Reconstructions (R430, R431) -/

section
variable {id : Nat} {c : Recon} {r : SetRec} {v : UnitRead}
variable (hc : s.str.recon.get? id = some c) (hr : s.set? c.setid = some r) (hv : s.uread c.rid = some v) (ho : c.out = [])
include hc hr hv ho

/-- A reconstruction that is gone. -/
def State.dropRecon (s : State) (id : Nat) : State := s.withStr { s.str with recon := s.str.recon.del id }

omit hc hr hv ho in
theorem State.dropRecon_counted (s : State) (id : Nat) :
    ((s.countStr 5 1).dropRecon id).str.recon = s.str.recon.del id ∧ OnlyChanges [.str] s ((s.countStr 5 1).dropRecon id) ∧
    (((s.countStr 5 1).countStr 6 1).dropRecon id).str.recon = s.str.recon.del id ∧ OnlyChanges [.str] s (((s.countStr 5 1).countStr 6 1).dropRecon id) :=
  ⟨rfl, Same.onlyChanges_of_covers (m := 1024) (by simp [State.dropRecon]) rfl, rfl, Same.onlyChanges_of_covers (m := 1024) (by simp [State.dropRecon]) rfl⟩

theorem exec_reconstructionComplete_first (h1 : s.reconOut c r v false ≠ .unreadable) : exec (.reconstructionComplete id) s =
    .next ((((s.countStr 5 1).dropRecon id).countHealth v.nsix 1 1).resolveRead c.rid (s.reconOut c r v false)) := by
  have hexec : exec (.reconstructionComplete id) s = execReconstructionComplete id s := rfl
  rw [hexec, execReconstructionComplete]
  simp only [hc, hr, hv, ho, if_true, if_false, ne_eq, h1, not_false_eq_true]
  rfl

theorem exec_reconstructionComplete_second (h1 : s.reconOut c r v false = .unreadable) (h2 : s.reconOut c r v true ≠ .unreadable) :
    exec (.reconstructionComplete id) s =
      .next (((((s.countStr 5 1).countStr 6 1).dropRecon id).countHealth v.nsix 1 1).resolveRead c.rid (s.reconOut c r v true)) := by
  have hexec : exec (.reconstructionComplete id) s = execReconstructionComplete id s := rfl
  rw [hexec, execReconstructionComplete]
  simp only [hc, hr, hv, ho, if_true, h1, ne_eq, h2, not_false_eq_true]
  rfl

theorem exec_reconstructionComplete_again (h1 : s.reconOut c r v false = .unreadable) (h2 : s.reconOut c r v true = .unreadable) (h3 : c.retried = false) :
    exec (.reconstructionComplete id) s = .next (((s.countStr 5 1).countStr 6 1).finalReads id) := by
  have hexec : exec (.reconstructionComplete id) s = execReconstructionComplete id s := rfl
  rw [hexec, execReconstructionComplete]
  simp only [hc, hr, hv, ho, if_true, h1, h2, h3, ne_eq, not_true, if_false]

theorem reconstructionComplete_lost (h1 : s.reconOut c r v false = .unreadable) (h2 : s.reconOut c r v true = .unreadable) (h3 : c.retried = true) :
    ∃ mask : Nat, exec (.reconstructionComplete id) s =
      .next (((((s.countStr 5 1).countStr 6 1).dropRecon id).rowLost c.setid c.row 2 mask).resolveRead c.rid .lost) := by
  have hexec : exec (.reconstructionComplete id) s = execReconstructionComplete id s := rfl
  rw [hexec, execReconstructionComplete]
  simp only [hc, hr, hv, ho, if_true, h1, h2, h3, ne_eq, not_true, if_false, Bool.true_eq_false]
  exact ⟨_, rfl⟩

end

end

/-- Settles O22. -/
theorem lostMembers : Obligations.LostMembers := by
  refine ⟨fun setid m r s => memberReplacement_spec m, fun s => ⟨fun hen hf hl => ⟨exec_rebuildRow_none hen hf hl, fun b r => exec_rebuildRow_some hen hf hl,
    fun b => exec_rebuildRow_gone hen hf hl⟩, rebuildRow_idle⟩, fun setid row lba r s => exec_stagedReadback_full, fun record pos e s he => ?_,
    fun id c r v s hc hr hv ho => ?_⟩
  · obtain ⟨hfound, hnone⟩ := lostLbaSearchEnd_spec he
    exact ⟨s.searchOver record pos, rfl, Same.onlyChanges_of_covers (m := 1024) (by simp [State.searchOver]) rfl, hfound, hnone⟩
  · obtain ⟨hrecon1, honly1, hrecon2, honly2⟩ := s.dropRecon_counted id
    refine ⟨fun h1 => ⟨_, exec_reconstructionComplete_first hc hr hv ho h1, hrecon1, honly1⟩,
      fun h1 h2 => ⟨_, exec_reconstructionComplete_second hc hr hv ho h1 h2, hrecon2, honly2⟩, exec_reconstructionComplete_again hc hr hv ho,
      fun h1 h2 h3 => ?_⟩
    obtain ⟨mask, hexec⟩ := reconstructionComplete_lost hc hr hv ho h1 h2 h3
    exact ⟨_, mask, hexec, hrecon2, honly2⟩

end Sys2Proof.Machine

/-! SUPPORT: what a die is sent next, and the scheduler's other events (R447, R457, R458, R461, R470 to R478): O23. The scheduler's order rests in part
on log entry 170, the model's choice. -/
namespace Sys2Proof.Machine
open Sys2Proof

section
variable {s : State} {die : Nat}

/-! ### The dies' schedulers -/

/-- A die's scheduler rests on the scheduler and the registers alone. -/
theorem State.sdie_congr {t : State} (hsch : t.sch = s.sch) (hwin : t.win = s.win) (die : Nat) : t.sdie die = s.sdie die := by
  rw [State.sdie, State.sdie, hsch, State.fld_win hwin]

theorem State.sdie_setSdie_other (s : State) {die d : Nat} (f : SDie → SDie) (h : d ≠ die) : (s.setSdie die f).sdie d = s.sdie d := AMap.getD_ins_other _ _ _ h

/-! ### What a die is sent (R457, R458) -/

theorem exec_dieDispatch_failed (h : s.dieFailed die = true) : exec (.dieDispatch die) s = .next (s.failReads die) := if_pos h

theorem exec_dieDispatch_stopped (h : s.dieFailed die = false) (hno : s.hld.flush ≠ .none ∨ s.canSend die = false) : exec (.dieDispatch die) s = .next s :=
  (if_neg (by rw [h]; exact Bool.false_ne_true)).trans (if_pos hno)

section
variable (hd : s.dieFailed die = false) (hf : s.hld.flush = .none) (hs : s.canSend die = true)
include hd hf hs

/-- The guards of a die that may be sent something. -/
theorem dieDispatch_open : ¬ s.dieFailed die = true ∧ ¬ (s.hld.flush ≠ .none ∨ s.canSend die = false) := by
  simp [hd, hf, hs]

theorem exec_dieDispatch_busy {o : DieOp} (ho : (s.sdie die).op = some o) : exec (.dieDispatch die) s = .next (if o.susp then s.serveSuspended die o else s) := by
  obtain ⟨h1, h2⟩ := dieDispatch_open hd hf hs
  have hexec : exec (.dieDispatch die) s = execDieDispatch die s := rfl
  rw [hexec, execDieDispatch]
  simp only [h1, h2, if_false, ho]
  exact next_ite _ _ _

variable (ho : (s.sdie die).op = none)
include ho

theorem exec_dieDispatch_class0 (h0 : (s.sdie die).q0 ≠ []) (hroom : (s.sdie die).reads < s.fld F.SCH_SUSP_RQMAX) :
    exec (.dieDispatch die) s = .next (s.sendHead die 0) := by
  obtain ⟨h1, h2⟩ := dieDispatch_open hd hf hs
  have hexec : exec (.dieDispatch die) s = execDieDispatch die s := rfl
  rw [hexec, execDieDispatch]
  simp only [h2, hd, if_false, ho, List.isEmpty_eq_false_iff.mpr h0, hroom, decide_true, Bool.not_false, Bool.and_self, if_true, Bool.false_eq_true]

variable (h0 : (s.sdie die).q0 = [])
include h0

/-- What an idle die without class 0 requests is sent. -/
theorem exec_dieDispatch_idle : exec (.dieDispatch die) s = .next (
    if s.writeOverdue (s.sdie die) && s.writeReady die (s.sdie die) then s.startWrite die
    else if (s.headOf die 1).isSome && decide ((s.sdie die).reads < s.fld F.SCH_SUSP_RQMAX) then s.sendHead die 1
    else if (s.headOf die 1).isNone && s.writeReady die (s.sdie die) then s.startWrite die
    else if (s.headOf die 1).isNone && decide ((s.sdie die).reads < s.fld F.SCH_SUSP_RQMAX) then
      ((s.sdie die).q2.head?.elim s fun q => if s.bgAllowed die q then s.sendHead die 2 else s)
    else s) := by
  obtain ⟨h1, h2⟩ := dieDispatch_open hd hf hs
  have hexec : exec (.dieDispatch die) s = execDieDispatch die s := rfl
  rw [hexec, execDieDispatch]
  simp only [h1, h2, if_false, ho, h0, List.isEmpty_nil, Bool.not_true, Bool.false_and, Bool.true_and, Bool.false_eq_true, ← next_ite]
  cases (s.sdie die).q2 with
  | nil => rfl
  | cons q rest => simp only [List.head?_cons, Option.elim_some, next_ite]

theorem exec_dieDispatch_overdue (hover : s.writeOverdue (s.sdie die) = true) (hready : s.writeReady die (s.sdie die) = true) :
    exec (.dieDispatch die) s = .next (s.startWrite die) := by
  rw [exec_dieDispatch_idle hd hf hs ho h0, hover, hready]
  rfl

theorem exec_dieDispatch_class1 (hover : s.writeOverdue (s.sdie die) = false) (hhead : (s.headOf die 1).isSome = true)
    (hroom : (s.sdie die).reads < s.fld F.SCH_SUSP_RQMAX) : exec (.dieDispatch die) s = .next (s.sendHead die 1) := by
  rw [exec_dieDispatch_idle hd hf hs ho h0, hover, hhead, decide_eq_true hroom]
  rfl

theorem exec_dieDispatch_write (hhead : s.headOf die 1 = none) (hready : s.writeReady die (s.sdie die) = true) :
    exec (.dieDispatch die) s = .next (s.startWrite die) := by
  rw [exec_dieDispatch_idle hd hf hs ho h0, hhead, hready]
  simp

theorem exec_dieDispatch_class2 {q : DieReq} {rest : List DieReq} (hhead : s.headOf die 1 = none) (hready : s.writeReady die (s.sdie die) = false)
    (h2 : (s.sdie die).q2 = q :: rest) (hroom : (s.sdie die).reads < s.fld F.SCH_SUSP_RQMAX) :
    exec (.dieDispatch die) s = .next (if s.bgAllowed die q then s.sendHead die 2 else s) := by
  rw [exec_dieDispatch_idle hd hf hs ho h0, hhead, hready, h2, decide_eq_true hroom]
  simp

end

/-! ### Ageing (R447) -/

/-- Has a request waited the ageing time? -/
def State.aged (s : State) (q : DieReq) : Bool := decide (q.arrive + 1000000 * s.fld F.SCH_WIN_AGE ≤ s.ao.time)

/-- A die's queues once its aged requests have joined class 1. -/
def State.joinAged (s : State) (die : Nat) : State :=
  s.setSdie die fun d => { d with q1 := d.q1 ++ ((d.q2.filter s.aged).map fun q => { q with cls := 1 }), q2 := d.q2.filter fun q => !s.aged q }

/-- The reads of a die that have aged, but for maintenance. -/
def State.agedReads (s : State) (die : Nat) : List Nat := ((s.sdie die).q2.filter fun q => s.aged q && !q.maint).filterMap fun q => q.kind.rid?

/-- The scheduler once the aged requests are of class 1. -/
def State.ageReads (s : State) (die : Nat) : State :=
  (s.agedReads die).foldl (fun s rid => s.setRead rid fun u => { u with cls := 1 }) (s.joinAged die)

theorem State.ageReads_sdie (s : State) (die d : Nat) : (s.ageReads die).sdie d = (s.joinAged die).sdie d := by
  have hsame : Same 8192 (s.joinAged die) (s.ageReads die) := by
    rw [State.ageReads, foldl_same _ (fun s x => State.setRead_same0 s x _)]
    exact Same.refl _ _
  exact State.sdie_congr (hsame.sch rfl) (hsame.win rfl) d

theorem State.ageReads_onlyChanges (s : State) (die : Nat) : OnlyChanges [.sch, .ddk] s (s.ageReads die) := by
  refine Same.onlyChanges_of_covers (m := 10240) ?_ rfl
  simp [State.ageReads, State.joinAged, foldl_same]

theorem State.ageReads_queues (s : State) (die : Nat) :
    (∀ q, q ∈ ((s.ageReads die).sdie die).q2 ↔ q ∈ (s.sdie die).q2 ∧ s.ao.time < q.arrive + 1000000 * s.fld F.SCH_WIN_AGE) ∧
    (∀ q, q ∈ ((s.ageReads die).sdie die).q1 ↔ q ∈ (s.sdie die).q1 ∨
      ∃ p ∈ (s.sdie die).q2, p.arrive + 1000000 * s.fld F.SCH_WIN_AGE ≤ s.ao.time ∧ q = { p with cls := 1 }) ∧
    ((s.ageReads die).sdie die).q0 = (s.sdie die).q0 ∧ ((s.ageReads die).sdie die).mw = (s.sdie die).mw ∧
    ∀ d, d ≠ die → (s.ageReads die).sdie d = s.sdie d := by
  simp only [State.ageReads_sdie, State.joinAged, State.sdie_setSdie_same]
  refine ⟨fun q => ?_, fun q => ?_, trivial, trivial, fun d hd => State.sdie_setSdie_other s _ hd⟩
  · simp [State.aged]
  · simp [State.aged, and_assoc, eq_comm]

theorem exec_classAgeingTimeout_eq (die : Nat) (s : State) : exec (.classAgeingTimeout die) s =
    .next (if (s.sdie die).op.isSome || (s.sdie die).benched || (s.sdie die).held then (s.ageReads die).decideReads die (s.agedReads die) true
      else s.ageReads die) := by
  have hd := s.ageReads_sdie die die
  rw [State.joinAged, State.sdie_setSdie_same] at hd
  have hexec : exec (.classAgeingTimeout die) s =
    .next (if ((s.ageReads die).sdie die).op.isSome || ((s.ageReads die).sdie die).benched || ((s.ageReads die).sdie die).held then
      (s.ageReads die).decideReads die (s.agedReads die) true else s.ageReads die) := rfl
  rw [hexec, hd]

/-! ### Suspended operations, windows and the monitor (R461, R470 to R478) -/

theorem suspholdExpiry_resumes {o : DieOp} (ho : (s.sdie die).op = some o) (hs : o.susp = true) {u : State}
    (hu : u = (s.setSdie die fun d => { d with op := some { o with holdOver := true } }).redecide die) :
    exec (.suspholdExpiry die) s = .next (if s.hld.flush = .none ∧ u.canSend die = true then u.serveSuspended die { o with holdOver := true } else u) := by
  subst hu
  have hhld : ((s.setSdie die fun d => { d with op := some { o with holdOver := true } }).redecide die).hld = s.hld := (State.redecide_same0 _ die).hld rfl
  have hexec : exec (.suspholdExpiry die) s = execSuspholdExpiry die s := rfl
  rw [hexec, execSuspholdExpiry]
  simp only [ho]
  rw [if_pos hs, hhld]
  exact next_ite _ _ _

theorem exec_suspholdExpiry_running {o : DieOp} (ho : (s.sdie die).op = some o) (hs : o.susp = false) : exec (.suspholdExpiry die) s = .next s := by
  have hexec : exec (.suspholdExpiry die) s = execSuspholdExpiry die s := rfl
  rw [hexec, execSuspholdExpiry]
  simp only [ho, hs, Bool.false_eq_true, if_false]

/-- The shares of every die begin again with their debts. -/
def State.shareDebts (s : State) : State := s.withSch { s.sch with
  dies := s.sch.dies.mapV fun _ d => { d with maintNs := d.maintNs - s.maintLimit, rebuildNs := d.rebuildNs - s.rebuildLimit } }

theorem State.shareDebts_get? {d : Nat} {x : SDie} (h : s.sch.dies.get? d = some x) : s.shareDebts.sch.dies.get? d = some { x with
    maintNs := x.maintNs - s.fld F.SCH_WIN_WIN * s.fld F.SCH_WIN_MAINT * 10000
    rebuildNs := x.rebuildNs - s.fld F.SCH_WIN_WIN * s.fld F.STR_RBCFG_RBSHARE * 10000 } := by
  rw [State.shareDebts, State.withSch_sch, AMap.get?_mapV, h]
  rfl

theorem latencyMonitorConfig_clears (a : Agent) (v : Nat) (s : State) : ∃ t, exec (.latencyMonitorConfig a v) s = .next t ∧ OnlyChanges [.sch, .win] s t ∧
    t.sch.total = 0 ∧ t.sch.overN = 0 ∧ t.sch.max = 0 ∧ t.sch.dies = s.sch.dies := by
  have hsch : (s.writeLmon v).sch = { s.sch with total := 0, overN := 0, max := 0 } := (State.putReg_same0 _ _ _).sch rfl
  refine ⟨s.writeLmon v, rfl, (State.writeLmon_same0 s v).onlyChanges_of_covers rfl, ?_⟩
  rw [hsch]
  exact ⟨rfl, rfl, rfl, rfl⟩

end

/-- Settles O23. -/
theorem dieScheduling : Obligations.DieScheduling := by
  refine ⟨fun die s => ⟨exec_dieDispatch_failed, exec_dieDispatch_stopped, fun hd hf hs => ⟨fun o => exec_dieDispatch_busy hd hf hs, fun ho =>
      ⟨exec_dieDispatch_class0 hd hf hs ho, exec_dieDispatch_overdue hd hf hs ho, exec_dieDispatch_class1 hd hf hs ho, exec_dieDispatch_write hd hf hs ho,
        fun q rest h0 => exec_dieDispatch_class2 hd hf hs ho h0⟩⟩⟩,
    fun die s => ⟨s.ageReads die, s.agedReads die, rfl, exec_classAgeingTimeout_eq die s, s.ageReads_onlyChanges die, s.ageReads_queues die⟩,
    fun die o s ho => ⟨fun u hs => suspholdExpiry_resumes ho hs, exec_suspholdExpiry_running ho⟩,
    fun s => ⟨s.windowBenched.shareDebts, rfl, Same.onlyChanges_of_covers (m := 2048) (by simp [State.shareDebts]) rfl, fun d x => State.shareDebts_get?⟩,
    latencyMonitorConfig_clears⟩

end Sys2Proof.Machine

/-! SUPPORT: frames that refuse a request, and alerts (R316, R317, R319, R322, R331, R332, R341, R343, R462, R464, R523): O25. The free supply voltage of
an INHIBIT's event is log entry 97, the model's choice. -/
namespace Sys2Proof.Machine
open Sys2Proof

section
variable {s : State} {n : Nat} {f : Frame} {q : TagRec}

/-! ### Links and counters -/

theorem State.linkCount_link (s : State) (n i k : Nat) : (s.linkCount n i k).link n = { s.link n with cnt := (s.link n).cnt.upd i 0 fun c => sat 64 (c + k) } :=
  State.link_setLink ..

theorem State.linkCount_dies (s : State) (n i k : Nat) : ((s.linkCount n i k).link n).dies = (s.link n).dies := by
  rw [State.linkCount_link]

theorem State.linkCount_ao (s : State) (n i k : Nat) : (s.linkCount n i k).ao = s.ao := rfl

theorem State.freeTag_tags (s : State) (n tag : Nat) : ((s.freeTag n tag).link n).tags = (s.link n).tags.del tag := by
  rw [State.freeTag, State.link_setLink]

section
variable (hq : (s.link n).tags.get? f.tag = some q) (hd : q.die % 64 = f.die)
include hq hd

/-- A frame that names a tag in use, once it has been counted under its kind too. -/
theorem State.receive_counted (i : Nat) : (s.linkCount n i 1).receive n f = ((s.linkCount n i 1).linkCount n 10 1, some q) :=
  State.receive_known (by rw [State.link_linkCount_tags]; exact hq) hd

/-! ### BUSY (R316, R322, R464) -/

theorem exec_busy_read {rid : Nat} {x : UnitRead} {v u : State} (hrid : q.req.kind.rid? = some rid)
    (hv : v = (((s.linkCount n 5 1).linkCount n 10 1).freeTag n f.tag).setSdie q.die (fun d => { d with busy := f.arg % 1024 * 10000, busyAt := s.ao.time }))
    (hu : u = ((v.readBack q).setRead rid fun y => { y with st := .queued }).setSdie q.die (fun d =>
      if q.req.cls = 0 then { d with q0 := q.req :: d.q0 } else if q.req.cls = 1 then { d with q1 := q.req :: d.q1 } else { d with q2 := q.req :: d.q2 }))
    (hx : u.uread rid = some x) : exec (.busy n f) s = .next (match u.slalom x true with
      | .wait => u
      | .suspend => u.sendSuspend q.die
      | .reconstruct picks => (u.unqueue q.die rid).startRecon rid picks) := by
  have hexec : exec (.busy n f) s = execBusy n f s := rfl
  subst hv hu
  rw [hexec, execBusy]
  simp only [State.receive_counted hq hd, hrid, State.linkCount_ao, hx]
  generalize State.slalom _ x true = choice
  cases choice <;> rfl

/-! ### INHIBIT (R332, R462) -/

/-- The flags that an INHIBIT tells of, with the free supply voltage of its event. -/
def State.inhibited (s u : State) (n : Nat) (f : Frame) (die : Nat) : State :=
  u.drew.setInh n f.die (f.arg % 16) (Config.freeNat s.free % 65536) ((s.lnk.temps.getD die 0).emod 65536).toNat

/-- A refused program waits for its link. -/
def State.programRefused (s : State) (n : Nat) (f : Frame) (die key : Nat) : State :=
  ((((s.linkCount n 6 1).linkCount n 10 1).freeTag n f.tag).clearOp die).setGroup key fun g => { g with inhSince := some s.ao.time }

/-- A refused erase goes back to the head of its die's media writes. -/
def State.eraseRefused (s : State) (n : Nat) (f : Frame) (q : TagRec) : State :=
  ((((s.linkCount n 6 1).linkCount n 10 1).freeTag n f.tag).clearOp q.die).setSdie q.die fun d => { d with op := none, mw := q.req :: d.mw }

omit hq hd in
theorem State.counted_tags (s : State) (n i tag : Nat) : ((((s.linkCount n i 1).linkCount n 10 1).freeTag n tag).link n).tags = (s.link n).tags.del tag := by
  rw [State.freeTag_tags, State.link_linkCount_tags, State.link_linkCount_tags]

omit hq hd in
theorem State.counted_sdie (s : State) (n i tag die : Nat) : (((s.linkCount n i 1).linkCount n 10 1).freeTag n tag).sdie die = s.sdie die := rfl

omit hq hd in
theorem State.programRefused_spec (s : State) (n : Nat) (f : Frame) (die key : Nat) : OnlyChanges [.lnk, .sch, .str] s (s.programRefused n f die key) ∧
    ((s.programRefused n f die key).link n).tags = (s.link n).tags.del f.tag ∧
    (∀ g, s.str.groups.get? key = some g → (s.programRefused n f die key).str.groups.get? key = some { g with inhSince := some s.ao.time }) ∧
    ((s.programRefused n f die key).sdie die).op = none := by
  refine ⟨Same.onlyChanges_of_covers (m := 7168) (by simp [State.programRefused]) rfl, State.counted_tags s n 6 f.tag, fun g hg => ?_, ?_⟩
  · have h := AMap.get?_adj_same s.str.groups key fun g : Group => { g with inhSince := some s.ao.time }
    rw [hg] at h
    exact h
  · change (State.sdie (State.clearOp _ die) die).op = none
    rw [State.clearOp, State.sdie_setSdie_same]

omit hq hd in
theorem State.eraseRefused_spec (s : State) (n : Nat) (f : Frame) (q : TagRec) : OnlyChanges [.lnk, .sch] s (s.eraseRefused n f q) ∧
    ((s.eraseRefused n f q).link n).tags = (s.link n).tags.del f.tag ∧
    ((s.eraseRefused n f q).sdie q.die).op = none ∧ ((s.eraseRefused n f q).sdie q.die).mw = q.req :: (s.sdie q.die).mw := by
  refine ⟨Same.onlyChanges_of_covers (m := 6144) (by simp [State.eraseRefused]) rfl, State.counted_tags s n 6 f.tag, ?_⟩
  rw [State.eraseRefused, State.sdie_setSdie_same, State.clearOp, State.sdie_setSdie_same, State.counted_sdie]
  exact ⟨rfl, rfl⟩

theorem exec_inhibit_program {setid m grp : Nat} (hk : q.req.kind = .program setid m grp) :
    exec (.inhibit n f) s = .next (s.inhibited (s.programRefused n f q.die (groupKey setid m grp)) n f q.die) := by
  have hexec : exec (.inhibit n f) s = execInhibit n f s := rfl
  rw [hexec, execInhibit]
  simp only [State.receive_counted hq hd, hk]
  rfl

theorem exec_inhibit_erase {block r : _} (hk : q.req.kind = .erase block r) :
    exec (.inhibit n f) s = .next (s.inhibited (s.eraseRefused n f q) n f q.die) := by
  have hexec : exec (.inhibit n f) s = execInhibit n f s := rfl
  rw [hexec, execInhibit]
  simp only [State.receive_counted hq hd, hk]
  rfl

/-! ### NAK (R317, R341, R523) -/

theorem exec_nak_known : exec (.nak n f) s = .next (if f.arg = 1 ∨ f.arg = 3 then ((s.linkCount n 7 1).linkCount n 10 1).reissue n f.tag
    else (if f.arg = 4 ∧ (s.link n).dies.testBit f.die = true then (((s.linkCount n 7 1).linkCount n 10 1).freeTag n f.tag).dieFail q.die 1
      else ((s.linkCount n 7 1).linkCount n 10 1).freeTag n f.tag).requestFailed n q false) := by
  have hdies : ((((s.linkCount n 7 1).linkCount n 10 1).freeTag n f.tag).link n).dies = (s.link n).dies := by
    rw [State.freeTag, State.link_setLink, State.linkCount_dies, State.linkCount_dies]
  have hexec : exec (.nak n f) s = execNak n f s := rfl
  rw [hexec, execNak]
  simp only [State.receive_counted hq hd, hdies]
  exact next_ite _ _ _

end

/-! ### ALERT (R319, R331, R343, R523) -/

theorem exec_alert_taken (ht : f.tag = 0x3FF) : exec (.alert n f) s = .next ((if f.arg = 3 then
    (((s.linkCount n 10 1).statusBlock n f).raise (0x0A0 + n) 1 2 [(1, f.die)]).dieFail (64 * n + f.die) 2
    else (s.linkCount n 10 1).statusBlock n f).control (64 * n) (.bridgeRead 0x04)) := if_pos ht

theorem alert_stray (ht : f.tag ≠ 0x3FF) : ∃ t, exec (.alert n f) s = .next t ∧ OnlyChanges [.lnk] s t ∧ (t.link n).tags = (s.link n).tags := by
  refine ⟨(s.linkCount n 10 1).linkCount n 8 1, if_neg ht, Same.onlyChanges_of_covers (m := 4096) (by simp) rfl, ?_⟩
  rw [State.link_linkCount_tags, State.link_linkCount_tags]

end

/-- Settles O25: each frame once its tag is known (`State.receive_counted`). -/
theorem refusalFrames : Obligations.RefusalFrames := by
  refine ⟨fun n f q s hq hd => ⟨fun rid x hrid v u hv hu hx => ?_, fun setid m grp hk => ?_, fun block r hk => ?_, fun harg => ?_,
    fun v hv h1 h3 => ⟨fun h4 hdie => ?_, fun h4 => ?_⟩⟩, fun n f s => ⟨fun ht h3 => ?_, fun ht h3 => ?_, alert_stray⟩⟩
  · rw [exec_busy_read hq hd hrid hv hu hx] <;> rfl
  · obtain ⟨hframe, htags, hgroup, hop⟩ := s.programRefused_spec n f q.die (groupKey setid m grp)
    exact ⟨_, exec_inhibit_program hq hd hk, hframe, htags, hgroup, hop⟩
  · obtain ⟨hframe, htags, hop, hmw⟩ := s.eraseRefused_spec n f q
    exact ⟨_, exec_inhibit_erase hq hd hk, hframe, htags, hop, hmw⟩
  · rw [exec_nak_known hq hd, if_pos harg]
  · rw [exec_nak_known hq hd, if_neg (not_or.mpr ⟨h1, h3⟩), if_pos ⟨h4, hdie⟩, hv]
  · rw [exec_nak_known hq hd, if_neg (not_or.mpr ⟨h1, h3⟩), if_neg (fun h => h4 h.1), hv]
  · rw [exec_alert_taken ht, if_neg h3]
  · rw [exec_alert_taken ht, if_pos h3]

end Sys2Proof.Machine

/-! SUPPORT: training a link, its timers and its controls (R302, R304, R326, R331, R338, R339, R345, R347, R348, R369): O26. That both kinds of CRC error
count in one sliding window is log entries 34 and 94, the model's choice. -/
namespace Sys2Proof.Machine
open Sys2Proof

section
variable {s : State} {n lane : Nat}

/-! ### Lanes -/

theorem State.linkCount_lane (s : State) (n i k lane : Nat) : ((s.linkCount n i k).link n).lane lane = (s.link n).lane lane := by
  rw [State.linkCount_link]
  rfl

theorem Link.putLane_tags (l : Link) (k : Nat) (x : Lane) : (l.putLane k x).tags = l.tags := by
  unfold Link.putLane
  split <;> rfl

theorem State.setLane_tags (s : State) (n k : Nat) (f : Lane → Lane) : ((s.setLane n k f).link n).tags = (s.link n).tags := by
  rw [State.setLane, State.link_setLink, Link.putLane_tags]

/-! ### Training responses (R345, R347) -/

theorem exec_trainRsp_ignored (f : Frame) (errs : Nat) (h : ((s.link n).lane f.lane).training = false ∨ f.arg / 512 % 8 ≠ ((s.link n).lane f.lane).phase) :
    exec (.trainRsp n f errs) s = .next (s.linkCount n 10 1) := by
  refine if_pos ?_
  rw [State.linkCount_lane]
  rcases h with h | h
  · rw [h]; rfl
  · rw [bne_iff_ne.mpr h, Bool.or_true, Bool.true_or]

/-- The patterns of a lane that differ in phase 3, upstream and downstream, once a frame more has been checked. -/
def Lane.upErrs (x : Lane) (errs : Nat) : Nat := x.errs + (if errs = 0 then 0 else 1)
def Lane.downErrs (x : Lane) (got : Nat) : Nat := x.dnErrs + (if got = (if x.frames % 1024 = 0 then 0 else x.dnLast) then 0 else 1)

section
variable {f : Frame} (errs : Nat) (hl : f.lane < 2) (ht : ((s.link n).lane f.lane).training = true)
variable (hp : f.arg / 512 % 8 = ((s.link n).lane f.lane).phase)
include hl ht hp

/-- A response to the phase that its lane is in. -/
theorem trainRsp_open : ¬(!((s.link n).lane f.lane).training || f.arg / 512 % 8 != ((s.link n).lane f.lane).phase || decide (2 ≤ f.lane)) = true := by
  simp [ht, hp, hl]

theorem exec_trainRsp_phase0 (h : ((s.link n).lane f.lane).phase = 0) : exec (.trainRsp n f errs) s = .next ((s.linkCount n 10 1).nextPhase n f.lane 1) := by
  have hexec : exec (.trainRsp n f errs) s = execTrainRsp n f errs s := rfl
  rw [hexec, execTrainRsp]
  simp only [State.linkCount_lane]
  rw [if_neg (trainRsp_open hl ht hp)]
  simp only [h]

theorem exec_trainRsp_phase1 (h : ((s.link n).lane f.lane).phase = 1) : exec (.trainRsp n f errs) s =
    .next (if ((s.link n).lane f.lane).frames + 1 < 64 then
        (s.linkCount n 10 1).setLane n f.lane fun x => { x with frames := x.frames + 1, dnPreset := frameNum f 4 4 % 8 }
      else ((s.linkCount n 10 1).setLane n f.lane fun x => { x with frames := x.frames + 1, dnPreset := frameNum f 4 4 % 8 }).nextPhase n f.lane 2) := by
  have hexec : exec (.trainRsp n f errs) s = execTrainRsp n f errs s := rfl
  rw [hexec, execTrainRsp]
  simp only [State.linkCount_lane]
  rw [if_neg (trainRsp_open hl ht hp)]
  simp only [h]
  exact next_ite _ _ _

theorem exec_trainRsp_phase2 {best : Nat × Nat} (hbest : ∀ b, ((s.link n).lane f.lane).best = some b → best = if errs < b.1 then (errs, f.arg / 8 % 8) else b)
    (hnone : ((s.link n).lane f.lane).best = none → best = (errs, f.arg / 8 % 8)) (h : ((s.link n).lane f.lane).phase = 2) : exec (.trainRsp n f errs) s =
    .next (if ((s.link n).lane f.lane).frames + 1 < 8 then
        (s.linkCount n 10 1).setLane n f.lane fun x => { x with frames := x.frames + 1, best := some best }
      else (((s.linkCount n 10 1).setLane n f.lane fun x => { x with frames := x.frames + 1, best := some best }).setLane n f.lane
        fun x => { x with upPreset := best.2 }).nextPhase n f.lane 3) := by
  have hexec : exec (.trainRsp n f errs) s = execTrainRsp n f errs s := rfl
  rw [hexec, execTrainRsp]
  simp only [State.linkCount_lane]
  rw [if_neg (trainRsp_open hl ht hp)]
  simp only [h]
  cases hb : ((s.link n).lane f.lane).best with
  | none =>
    rw [hnone hb]
    exact next_ite _ _ _
  | some b =>
    rw [hbest b hb]
    exact next_ite _ _ _

/-- The link once a frame more of phase 3 has been checked. -/
def State.checked (s : State) (n : Nat) (f : Frame) (errs : Nat) : State :=
  let x := (s.link n).lane f.lane
  (s.linkCount n 10 1).setLane n f.lane fun y =>
    { y with frames := y.frames + 1, errs := x.upErrs errs, dnErrs := x.downErrs (frameNum f 3 0), dnLast := frameNum f 3 0 }

theorem exec_trainRsp_phase3 (h : ((s.link n).lane f.lane).phase = 3) : exec (.trainRsp n f errs) s =
    .next (if ((s.link n).lane f.lane).frames + 1 < 4096 then s.checked n f errs
      else if ((s.link n).lane f.lane).upErrs errs ≤ 1 ∧ ((s.link n).lane f.lane).downErrs (frameNum f 3 0) ≤ 1 then (s.checked n f errs).nextPhase n f.lane 4
      else (s.checked n f errs).attemptFails n f.lane) := by
  have hexec : exec (.trainRsp n f errs) s = execTrainRsp n f errs s := rfl
  rw [hexec, execTrainRsp]
  simp only [State.linkCount_lane]
  rw [if_neg (trainRsp_open hl ht hp)]
  simp only [h]
  rw [← next_ite, ← next_ite]
  rfl

omit hl ht hp in
theorem State.checked_frame (s : State) (n : Nat) (f : Frame) (errs : Nat) : OnlyChanges [.lnk] s (s.checked n f errs) ∧
    ((s.checked n f errs).link n).tags = (s.link n).tags := by
  refine ⟨Same.onlyChanges_of_covers (m := 4096) (by simp [State.checked]) rfl, ?_⟩
  rw [State.checked, State.setLane_tags, State.link_linkCount_tags]

end

/-! ### Timers (R302, R304, R338, R339, R347) -/

theorem exec_trainDetectTimer_phase0 (ht : ((s.link n).lane lane).training = true) (hp : ((s.link n).lane lane).phase = 0) :
    exec (.trainDetectTimer n lane) s = .next (s.sendTrain n 0) := if_pos (by rw [ht, hp]; rfl)

theorem exec_corruptFrame_eq (n lane : Nat) (hcrc : Bool) (s : State) : exec (.corruptFrame n lane hcrc) s =
    let times := s.ao.time :: ((s.link n).lane lane).crcTimes.filter fun t => s.ao.time < t + 1000000 * s.fld F.LNK_RETRAIN_WIN n
    let u := (s.linkCount n (if hcrc then 0 else 1) 1).setLane n lane fun x => { x with crcTimes := times }
    .next (if ((s.link n).lane lane).up then (if s.fld F.LNK_RETRAIN_CRCN n ≤ times.length then u.trainLane n lane 1 1 else u)
      else s.linkCount n (if hcrc then 0 else 1) 1) := by
  have hexec : exec (.corruptFrame n lane hcrc) s = execCorruptFrame n lane hcrc s := rfl
  rw [hexec, execCorruptFrame]
  simp only [State.linkCount_lane]
  rw [← next_ite, ← next_ite]
  rfl

theorem exec_tagTimerExpiry_known {tag : Nat} {q : TagRec} {v u : State} (hq : (s.link n).tags.get? tag = some q) (hup : s.linkUp n = true)
    (hv : v = (s.linkCount n 3 1).setLink n fun l => { l with touts := l.touts + 1 })
    (hu : u = if q.req.kind.queried then (if q.query then v else
      (v.setLink n fun l => { l with tags := l.tags.adj tag fun t => { t with query := true } }).control q.die (.status tag)) else v.reissue n tag) :
    exec (.tagTimerExpiry n tag) s = .next (if u.fld F.LNK_RETRAIN_TOUTN n ≤ (u.link n).touts ∧ u.linkUp n = true then
      (u.setLink n fun l => { l with touts := 0 }).trainLink n 1 2 else u) := by
  have hexec : exec (.tagTimerExpiry n tag) s = execTagTimerExpiry n tag s := rfl
  rw [hexec, execTagTimerExpiry]
  simp only [hq, hup, if_true, ← hv, ← hu]
  exact next_ite _ _ _

theorem quarantineExpiry_spec (n tag : Nat) (s : State) : ∃ t, exec (.quarantineExpiry n tag) s = .next t ∧ OnlyChanges [.lnk] s t ∧ tag ∉ (t.link n).quar ∧
    (∀ x, x ≠ tag → (x ∈ (t.link n).quar ↔ x ∈ (s.link n).quar)) := by
  refine ⟨s.setLink n fun l => { l with quar := l.quar.filter fun q => q != tag }, rfl, Same.onlyChanges_of_covers (m := 4096) (by simp) rfl, ?_⟩
  rw [State.link_setLink]
  exact ⟨by simp, fun x hx => by simp [hx]⟩

/-! ### Controls (R348) -/

theorem linkControls_enabled (a : Agent) (h : s.flag F.LNK_CTL_EN n = true) :
    exec (.resetbr a n) s = .next (s.trainLink n 0 5) ∧ exec (.retrain a n) s = .next (s.trainLink n 1 4) := ⟨if_pos h, if_pos h⟩

theorem linkControls_disabled (a : Agent) (h : s.flag F.LNK_CTL_EN n = false) : exec (.resetbr a n) s = .next s ∧ exec (.retrain a n) s = .next s := by
  have hno : ¬ s.flag F.LNK_CTL_EN n = true := by rw [h]; exact Bool.false_ne_true
  exact ⟨if_neg hno, if_neg hno⟩

theorem linkCounterClear_spec (a : Agent) (n : Nat) (s : State) :
    ∃ t, exec (.linkCounterClear a n) s = .next t ∧ OnlyChanges [.lnk] s t ∧ t.link n = { s.link n with cnt := [] } :=
  ⟨s.setLink n fun l => { l with cnt := [] }, rfl, Same.onlyChanges_of_covers (m := 4096) (by simp) rfl, State.link_setLink ..⟩

end

/-- Settles O26. -/
theorem linkTraining : Obligations.LinkTraining := by
  refine ⟨fun n errs f s hl => ⟨exec_trainRsp_ignored f errs, fun ht hp => ⟨exec_trainRsp_phase0 errs hl ht hp, fun u hu h => ?_, fun u best hbest hu h => ?_,
      fun h => ⟨_, (s.checked_frame n f errs).1, (s.checked_frame n f errs).2, exec_trainRsp_phase3 errs hl ht hp h⟩⟩⟩,
    fun n lane s hl ht => ⟨exec_trainDetectTimer_phase0 ht, if_pos ⟨hl, ht⟩⟩, fun n lane hcrc s => ⟨fun hup => ?_, fun u times htimes hu hup => ?_⟩,
    fun n lane s => ⟨rfl, rfl, rfl⟩, fun n tag q s hq hup => ⟨_, _, rfl, rfl, exec_tagTimerExpiry_known hq hup rfl rfl⟩, quarantineExpiry_spec,
    fun n die s => ⟨fun hinh hsend => if_pos ⟨hinh, hsend⟩, fun hdie hsend => if_pos ⟨hdie, hsend⟩⟩,
    fun a n s => ⟨linkControls_enabled a, linkControls_disabled a, linkCounterClear_spec a n s⟩⟩
  · rw [exec_trainRsp_phase1 errs hl ht hp h, hu]
  · rw [hu]
    exact exec_trainRsp_phase2 errs hl ht hp (fun b hb => by rw [hbest, hb]) (fun hb => by rw [hbest, hb]) h
  · rw [exec_corruptFrame_eq, hup]
    rfl
  · rw [exec_corruptFrame_eq, hup, hu, htimes]
    rfl

end Sys2Proof.Machine

/-! SUPPORT: power commands, handshakes and entries (R635, R637 to R640, R643, R644): O30. -/
namespace Sys2Proof.Machine
open Sys2Proof

section
variable {s : State} {d : Nat}

/-! ### Domains -/

theorem State.dom_putDom_same (s : State) (d : Nat) (x : Domain) : (s.putDom d x).dom d = x := AMap.getD_ins_same ..

theorem State.dom_setDom_same (s : State) (d : Nat) (f : Domain → Domain) : (s.setDom d f).dom d = f (s.dom d) := State.dom_putDom_same ..

theorem State.dom_raise (s : State) (fam code sev : Nat) (data : List (Nat × Nat)) (d : Nat) : (s.raise fam code sev data).dom d = s.dom d := rfl

theorem State.atPoint_of_kept (ap : Nat) (h : (s.dom d).abandon = none) : s.atPoint d ap = s.setDom d fun x => { x with ap := ap } := by
  have hno : ((s.setDom d fun x => { x with ap := ap }).dom d).abandon = none := by rw [State.dom_setDom_same]; exact h
  rw [State.atPoint, hno]
  rfl

theorem State.atPoint_of_abandoned {w : Nat} (ap : Nat) (h : (s.dom d).abandon = some w) : s.atPoint d ap = (s.setDom d fun x => { x with ap := ap }).undoEntry d := by
  have hsome : ((s.setDom d fun x => { x with ap := ap }).dom d).abandon = some w := by rw [State.dom_setDom_same]; exact h
  rw [State.atPoint, hsome]
  rfl

/-! ### Commands (R643, R644) -/

/-- The part once a power command has been recorded. -/
def State.commanded (s : State) (v : Nat) : State :=
  s.withPwr { s.pwr with cmdDom := bits v 7 0, cmdRes := s.domResult (bits v 7 0) (bits v 9 8), lockok := if s.domResult (bits v 7 0) (bits v 9 8) = 0 ∧ bits v 9 8 ≠ 0 ∧ bits v 7 0 = 136 then v.testBit 11 else s.pwr.lockok }

theorem exec_domainCommand_refused (a : Agent) {v : Nat} (h : s.domResult (bits v 7 0) (bits v 9 8) ≠ 0) : exec (.domainCommand a v) s = .next (s.commanded v) :=
  congrArg Host.Outcome.next (if_pos h)

theorem exec_domainCommand_accepted (a : Agent) {v : Nat} (h : s.domResult (bits v 7 0) (bits v 9 8) = 0) : exec (.domainCommand a v) s =
    .next (if bits v 9 8 ≠ 0 then (s.commanded v).beginEntry (bits v 7 0) (domTarget (bits v 9 8))
      else if ((s.commanded v).dom (bits v 7 0)).st = .entering then (s.commanded v).abandonEntry (bits v 7 0) 8 else (s.commanded v).beginReturn (bits v 7 0)) := by
  rw [ite_not]
  exact congrArg Host.Outcome.next (if_neg (not_not.mpr h))

/-! ### The handshake (R640) -/

theorem State.refuseEntry_spec (s : State) (d reason : Nat) : OnlyChanges [.pwr, .ev] s (s.refuseEntry d reason) ∧
    (s.refuseEntry d reason).dom d =
      { s.dom d with st := (s.dom d).prev, ap := 7, result := 2, reason := reason, abandon := none, waiting := false, delays := 0 } :=
  ⟨(State.refuseEntry_same0 s d reason).onlyChanges_of_covers rfl, State.dom_putDom_same ..⟩

theorem State.setDom_onlyChanges (s : State) (d : Nat) (f : Domain → Domain) : OnlyChanges [.pwr] s (s.setDom d f) :=
  (State.setDom_same0 s d f).onlyChanges_of_covers rfl

section
variable (hh : domHs d = true) (hst : (s.dom d).st = .entering) (hap : (s.dom d).ap = 0) (hw : (s.dom d).waiting = false)
include hh hst hap hw

theorem exec_handshakeReply_refuse {r : Nat} (hr : s.hsRefuses d (s.dom d).target = some r) : exec (.handshakeReply d .refuse) s = .next (s.refuseEntry d r) := by
  have hexec : exec (.handshakeReply d .refuse) s = execHandshakeReply d .refuse s := rfl
  rw [hexec]
  unfold execHandshakeReply
  rw [if_pos ⟨hh, hst, hap, hw⟩, hr]

theorem handshakeReply_grants (hr : s.hsRefuses d (s.dom d).target = none) (hd : s.hsDelays d = false) (ha : (s.dom d).abandon = none) :
    ∃ t, exec (.handshakeReply d .grant) s = .next t ∧ OnlyChanges [.pwr] s t ∧ t.dom d = { s.dom d with delays := 0, ap := 1 } := by
  have hexec : exec (.handshakeReply d .grant) s = execHandshakeReply d .grant s := rfl
  unfold execHandshakeReply at hexec
  rw [if_pos ⟨hh, hst, hap, hw⟩, hr] at hexec
  dsimp only at hexec
  rw [hd, if_neg Bool.false_ne_true, State.atPoint_of_kept 1 (by rw [State.dom_setDom_same]; exact ha)] at hexec
  refine ⟨_, hexec, Same.onlyChanges_of_covers (m := 131072) (by simp) rfl, ?_⟩
  rw [State.dom_setDom_same, State.dom_setDom_same]

theorem handshakeReply_delays {us : Nat} (hr : s.hsRefuses d (s.dom d).target = none) (hd : s.hsDelays d = true) (h1 : 1 ≤ us) (h2 : us ≤ 65535) :
    exec (.handshakeReply d (.delay us)) s = .next (if s.fld F.PWR_HS_CFG_HSMAX ≤ (s.dom d).delays + 1 then s.refuseEntry d 7
      else s.putDom d { s.dom d with delays := (s.dom d).delays + 1, waiting := true }) := by
  have hexec : exec (.handshakeReply d (.delay us)) s = execHandshakeReply d (.delay us) s := rfl
  rw [hexec]
  unfold execHandshakeReply
  rw [if_pos ⟨hh, hst, hap, hw⟩, hr]
  dsimp only
  rw [if_pos ⟨hd, h1, h2⟩]
  exact next_ite _ _ _

end

/-! ### Quiesce and the end of an entry (R635, R637 to R639) -/

theorem quiesceDone_spec (hst : (s.dom d).st = .entering) (hap : (s.dom d).ap = 1) (hp : (s.dom d).prev = .on) :
    (s.quiesced d = true → (s.dom d).abandon = none → ∃ t, exec (.quiesceDone d) s = .next t ∧ OnlyChanges [.pwr] s t ∧ t.dom d = { s.dom d with ap := 2 }) ∧
    (s.quiesced d = false → exec (.quiesceDone d) s = .next s.closeAllPartial) := by
  have hexec : exec (.quiesceDone d) s = execQuiesceDone d s := rfl
  rw [hexec, execQuiesceDone, if_pos ⟨hst, hap, hp⟩]
  refine ⟨fun hq ha => ?_, fun hq => if_neg (by rw [hq]; exact Bool.false_ne_true)⟩
  rw [if_pos hq, State.atPoint_of_kept 2 ha]
  exact ⟨_, rfl, s.setDom_onlyChanges d _, State.dom_setDom_same ..⟩

/-- What an undone entry leaves of its domain (R639). -/
theorem State.undoEntry_dom (s : State) (d : Nat) : ((s.undoEntry d).dom d).result = 3 ∧ ((s.undoEntry d).dom d).abandon = none ∧
    ((s.undoEntry d).dom d).st = (if (s.dom d).abandon ≠ some 9 ∧ ((s.dom d).prev = .retention ∨ (s.dom d).prev = .off) then .returning else (s.dom d).prev) := by
  have hput : ∀ (x : Domain) a b c l, (((s.putDom d x).drew).raise a b c l).dom d = x := fun x a b c l => State.dom_putDom_same s d x
  rw [State.undoEntry]
  by_cases ha : (s.dom d).abandon = some 9
  · rw [if_pos ha, hput]
    exact ⟨rfl, rfl, by simp [ha]⟩
  · rw [if_neg ha, State.beginReturn, hput]
    dsimp only
    split
    · rename_i hp
      rw [State.dom_putDom_same]
      exact ⟨rfl, rfl, by simp [ha, hp]⟩
    · rename_i hp
      rw [hput]
      exact ⟨rfl, rfl, by rw [if_neg (fun h => hp h.2)]⟩

/-- The steps of an entry that are left: 3 to 5 from On, step 5 from Retention. -/
def Domain.lastSteps (x : Domain) : Prop := (x.prev = .on ∧ x.ap = 2) ∨ (x.prev = .retention ∧ x.ap = 1)

section
variable (hst : (s.dom d).st = .entering) (hl : (s.dom d).lastSteps)
include hst hl

theorem exec_domainEntryComplete_kept (ha : (s.dom d).abandon = none) : exec (.domainEntryComplete d) s = .next (s.completeEntry d) := by
  have hexec : exec (.domainEntryComplete d) s = execDomainEntryComplete d s := rfl
  rw [hexec, execDomainEntryComplete, if_pos ⟨hst, hl⟩, ha]
  rfl

theorem exec_domainEntryComplete_abandoned {w : Nat} (ha : (s.dom d).abandon = some w) :
    exec (.domainEntryComplete d) s = .next (if (s.dom d).prev = .on then s.atPoint d 3 else s.undoEntry d) := by
  have hexec : exec (.domainEntryComplete d) s = execDomainEntryComplete d s := rfl
  rw [hexec, execDomainEntryComplete, if_pos ⟨hst, hl⟩, ha]
  rfl

/-- The entry's end, before what an Off domain loses. -/
def State.entered (s : State) (d : Nat) : State :=
  (s.putDom d { s.dom d with st := (s.dom d).target, ap := 7, result := 1, abandon := none }).raise (0x120 + d) 0 0 [(1, (s.dom d).target.code)]

omit hst hl in
theorem State.entered_spec (s : State) (d : Nat) : OnlyChanges [.pwr, .ev] s (s.entered d) ∧
    (s.entered d).dom d = { s.dom d with st := (s.dom d).target, ap := 7, result := 1, abandon := none } :=
  ⟨Same.onlyChanges_of_covers (m := 131076) (by simp [State.entered]) rfl, State.dom_putDom_same ..⟩

omit hst hl in
theorem State.completeEntry_eq (s : State) (d : Nat) :
    s.completeEntry d = if (s.dom d).target = .off then (s.entered d).loseDomain d else s.entered d := rfl

theorem domainEntryComplete_undone {w : Nat} (ha : (s.dom d).abandon = some w) : ∃ t, exec (.domainEntryComplete d) s = .next t ∧ OnlyChanges [.pwr, .ev, .free] s t ∧
    (t.dom d).st = (if w ≠ 9 ∧ ((s.dom d).prev = .retention ∨ (s.dom d).prev = .off) then .returning else (s.dom d).prev) ∧
    (t.dom d).result = 3 ∧ (t.dom d).abandon = none := by
  have hexec := exec_domainEntryComplete_abandoned hst hl ha
  rw [State.atPoint_of_abandoned 3 ha, ← apply_ite (fun u : State => u.undoEntry d)] at hexec
  obtain ⟨hres, hab, hstate⟩ := State.undoEntry_dom (if (s.dom d).prev = .on then s.setDom d fun x => { x with ap := 3 } else s) d
  have hdom : ∀ u : State, u = (if (s.dom d).prev = .on then s.setDom d fun x => { x with ap := 3 } else s) →
      (u.dom d).abandon = some w ∧ (u.dom d).prev = (s.dom d).prev ∧ Same 131072 s u := by
    intro u hu
    split at hu
    · rw [hu, State.dom_setDom_same]
      exact ⟨ha, rfl, State.setDom_same0 ..⟩
    · rw [hu]
      exact ⟨ha, rfl, Same.refl _ _⟩
  obtain ⟨hw, hprev, hsame⟩ := hdom _ rfl
  refine ⟨_, hexec, ((hsame.mono rfl).trans (State.undoEntry_same0 _ d)).onlyChanges_of_covers rfl, ?_, hres, hab⟩
  rw [hstate, hw, hprev]
  simp only [ne_eq, Option.some.injEq]

end
end

/-- Settles O30: the domain's record before and after each command. -/
theorem domainEntries : Obligations.DomainEntries := by
  refine ⟨fun a v s u hu => ?_, fun d s hh hst hap hw => ⟨fun r hr => ?_, handshakeReply_grants hh hst hap hw, fun us hr hd h1 h2 => ⟨fun hmax => ?_, fun hmax => ?_⟩⟩,
    fun d s hst hw => ⟨_, if_pos ⟨hst, hw⟩, s.setDom_onlyChanges d _, State.dom_setDom_same ..⟩, fun d s => quiesceDone_spec,
    fun d s hst hl => ⟨fun ha ht => ?_, fun ha ht => ?_, fun w => domainEntryComplete_undone hst hl⟩⟩
  · subst hu
    exact ⟨exec_domainCommand_refused a, exec_domainCommand_accepted a⟩
  · obtain ⟨hframe, hdom⟩ := s.refuseEntry_spec d r
    exact ⟨_, exec_handshakeReply_refuse hh hst hap hw hr, hframe, hdom⟩
  · refine ⟨_, (handshakeReply_delays hh hst hap hw hr hd h1 h2).trans (by rw [if_neg (Nat.not_le.mpr hmax)]),
      (State.putDom_same0 s d _).onlyChanges_of_covers rfl, State.dom_putDom_same ..⟩
  · obtain ⟨hframe, hdom⟩ := s.refuseEntry_spec d 7
    exact ⟨_, (handshakeReply_delays hh hst hap hw hr hd h1 h2).trans (by rw [if_pos hmax]), hframe, hdom⟩
  · obtain ⟨hframe, hdom⟩ := s.entered_spec d
    rw [ht] at hdom
    refine ⟨s.entered d, ?_, hframe, hdom⟩
    rw [exec_domainEntryComplete_kept hst hl ha, State.completeEntry_eq, ht]
    rfl
  · obtain ⟨hframe, hdom⟩ := s.entered_spec d
    rw [ht] at hdom
    refine ⟨s.entered d, ?_, hframe, hdom⟩
    rw [exec_domainEntryComplete_kept hst hl ha, State.completeEntry_eq, if_pos ht]

end Sys2Proof.Machine

/-! SUPPORT: the end of a hard and of a soft decode (R351 to R354, R381, R384, R387): O32. The estimate of a soft decode that takes too long is log
entry 100, the model's choice. -/
namespace Sys2Proof.Machine
open Sys2Proof

section
variable {id : Nat} {u : UnitRead} {s : State}

theorem exec_hardDecodeDone_other (res : DecodeRes) (hu : s.uread id = some u) (hst : u.st ≠ .hardDecoding) : exec (.hardDecodeDone id res) s = .next s := by
  have hexec : exec (.hardDecodeDone id res) s = execHardDecodeDone id res s := rfl
  rw [hexec, execHardDecodeDone]
  simp only [hu]
  exact if_pos hst

section
variable (hu : s.uread id = some u) (hst : u.st = .hardDecoding)
include hu hst

theorem exec_hardDecodeDone_erased : exec (.hardDecodeDone id .erased) s = .next ((s.countDdk (pkgOf u.die) 6 1).resolveRead id .unreadable) := by
  have hexec : exec (.hardDecodeDone id .erased) s = execHardDecodeDone id .erased s := rfl
  rw [hexec, execHardDecodeDone]
  simp only [hu]
  exact if_neg (not_not.mpr hst)

/-- The counts of a hard decode that succeeded with c corrected bits. -/
def State.decodedHard (s : State) (n c : Nat) : State := (s.countDdk n 0 1).countDdk n 1 c

theorem exec_hardDecodeDone_ok (c : Nat) : exec (.hardDecodeDone id (.ok c)) s = .next ((if s.fld F.DDK_THR_RECALBITS (pkgOf u.die) < c then
    (s.decodedHard (pkgOf u.die) c).recalRead u else s.decodedHard (pkgOf u.die) c).decoded id) := by
  have hexec : exec (.hardDecodeDone id (.ok c)) s = execHardDecodeDone id (.ok c) s := rfl
  rw [hexec, execHardDecodeDone]
  simp only [hu]
  exact if_neg (not_not.mpr hst)

/-- The read's unit once a hard decode has failed. -/
def State.failedHard (s : State) (u : UnitRead) : State := (s.countDdk (pkgOf u.die) 2 1).recalRead u

omit hu hst in
theorem State.countDdk_reads (s : State) (n i k : Nat) : (s.countDdk n i k).ddk.reads = s.ddk.reads ∧ (s.countDdk n i k).ddk.engFault = s.ddk.engFault :=
  ⟨rfl, rfl⟩

omit hu hst in
theorem State.recalRead_reads (s : State) (u : UnitRead) : (s.recalRead u).ddk.reads = s.ddk.reads ∧ (s.recalRead u).ddk.engFault = s.ddk.engFault := by
  unfold State.recalRead State.setRecal State.putBand
  dsimp only
  split <;> exact ⟨rfl, rfl⟩

omit hu hst in
/-- A failed hard decode changes the read channel's counts and bands alone. -/
theorem State.failedHard_spec (s : State) (u : UnitRead) : Same 8192 s (s.failedHard u) ∧ (s.failedHard u).uread id = s.uread id ∧
    (s.failedHard u).enginesLeft = s.enginesLeft := by
  obtain ⟨hreads, hfault⟩ := (s.countDdk (pkgOf u.die) 2 1).recalRead_reads u
  refine ⟨by simp [State.failedHard], congrArg (fun m => AMap.get? m id) hreads, ?_⟩
  rw [State.enginesLeft, State.failedHard, hfault]
  rfl

/-- A failed hard decode goes on as SOFTEN, the soft values and the engines have it. -/
theorem exec_hardDecodeDone_fail : exec (.hardDecodeDone id .fail) s = .next (
    if s.flag F.DDK_CTL_SOFTEN (pkgOf u.die) = false then (s.failedHard u).ladderFails id u false
    else if u.soft then
      if s.enginesLeft.isEmpty then (s.failedHard u).ladderFails id u true
      else
        let t := (s.failedHard u).setRead id fun u => { u with hardFailed := true, st := .softQueued }
        t.withDdk { t.ddk with softQ := t.ddk.softQ ++ [id] }
    else if ((s.failedHard u).softTooLong u).2 then ((s.failedHard u).softTooLong u).1.ladderFails id u true
    else ((((s.failedHard u).softTooLong u).1.setRead id fun u => { u with hardFailed := true }).arriveWith id true fun s r p =>
      match u.who with
      | .recon _ _ => s
      | _ => s.startRecon r p)) := by
  obtain ⟨hsame, -, hleft⟩ := s.failedHard_spec (id := id) u
  have hflag : ∀ f i j, (s.failedHard u).flag f i j = s.flag f i j := State.flag_win (hsame.win rfl)
  have hexec : exec (.hardDecodeDone id .fail) s = execHardDecodeDone id .fail s := rfl
  rw [hexec, execHardDecodeDone]
  simp only [hu]
  rw [if_neg (not_not.mpr hst)]
  change (if (s.failedHard u).flag F.DDK_CTL_SOFTEN (pkgOf u.die) = false then _ else if u.soft then
    (if (s.failedHard u).enginesLeft.isEmpty then _ else _) else _) = _
  rw [hflag, hleft]
  simp only [← next_ite] <;> rfl

theorem hardDecodeDone_queues (hen : s.flag F.DDK_CTL_SOFTEN (pkgOf u.die) = true) (hsoft : u.soft = true) (hleft : s.enginesLeft ≠ []) :
    ∃ t, exec (.hardDecodeDone id .fail) s = .next t ∧
      OnlyChanges [.ddk] s t ∧ id ∈ t.ddk.softQ ∧ t.uread id = some { u with hardFailed := true, st := .softQueued } := by
  obtain ⟨hsame, hread, -⟩ := s.failedHard_spec (id := id) u
  have hexec := exec_hardDecodeDone_fail hu hst
  rw [if_neg (by simp [hen]), if_pos hsoft, if_neg (by simpa using hleft)] at hexec
  refine ⟨_, hexec, Same.onlyChanges_of_covers (m := 8192) ?_ rfl, List.mem_append_right _ (List.mem_singleton_self id), ?_⟩
  · simpa using hsame
  · have hadj := AMap.get?_adj_same (s.failedHard u).ddk.reads id fun u : UnitRead => { u with hardFailed := true, st := .softQueued }
    have hread' : (s.failedHard u).ddk.reads.get? id = some u := hread.trans hu
    rw [hread'] at hadj
    exact hadj

end

/-! ### Soft decodes (R353, R387) -/

theorem exec_softDecodeDone_other (res : DecodeRes) (hu : s.uread id = some u) (h : u.st ≠ .softQueued ∨ s.enginesOn.length ≤ s.softRank id u) :
    exec (.softDecodeDone id res) s = .next s := by
  have hexec : exec (.softDecodeDone id res) s = execSoftDecodeDone id res s := rfl
  rw [hexec, execSoftDecodeDone]
  simp only [hu]
  exact if_pos h

theorem softDecodeDone_spec {v : State} (hu : s.uread id = some u) (hst : u.st = .softQueued) (hrank : s.softRank id u < s.enginesOn.length)
    (hv : v = s.withDdk { s.ddk with softQ := s.ddk.softQ.filter fun q => q != id }) :
    (∀ c, exec (.softDecodeDone id (.ok c)) s = .next (((((v.countDdk (pkgOf u.die) 3 1).recalRead u).reportBlock u.die u.block).countHealth u.nsix 0 1).decoded id)) ∧
    exec (.softDecodeDone id .fail) s = .next ((v.recalRead u).ladderFails id u false) := by
  have hexec : ∀ res, exec (.softDecodeDone id res) s = execSoftDecodeDone id res s := fun _ => rfl
  have hno : ¬ (u.st ≠ .softQueued ∨ s.enginesOn.length ≤ s.softRank id u) := by
    rintro (h | h)
    · exact h hst
    · exact Nat.not_le.mpr hrank h
  refine ⟨fun c => ?_, ?_⟩
  · rw [hexec, execSoftDecodeDone, hv]
    simp only [hu]
    exact if_neg hno
  · rw [hexec, execSoftDecodeDone, hv]
    simp only [hu]
    exact if_neg hno

end

/-- Settles O32. -/
theorem hardAndSoftDecoding : Obligations.HardAndSoftDecoding := by
  refine ⟨fun id res u s => exec_hardDecodeDone_other res, fun id u s hu hst => ⟨exec_hardDecodeDone_erased hu hst,
      fun c => ⟨_, rfl, exec_hardDecodeDone_ok hu hst c⟩, fun hen => ⟨_, rfl, ?_⟩, fun hen hsoft hleft => ⟨_, rfl, ?_⟩, hardDecodeDone_queues hu hst,
      fun w hen hsoft hw hlong => ?_⟩, fun id u s v => softDecodeDone_spec, fun id res u s => exec_softDecodeDone_other res⟩
  · rw [exec_hardDecodeDone_fail hu hst, if_pos hen]
    rfl
  · rw [exec_hardDecodeDone_fail hu hst, if_neg (by simp [hen]), if_pos hsoft, if_pos (by rw [hleft]; rfl)]
    rfl
  · subst hw
    rw [exec_hardDecodeDone_fail hu hst, if_neg (by simp [hen]), if_neg (by rw [hsoft]; exact Bool.false_ne_true)]
    exact congrArg Host.Outcome.next (if_pos hlong)

end Sys2Proof.Machine

/-! SUPPORT: the firmware store's operations (R683 to R687): O39. Which bits a failed or cut program clears is the device's choice, log entry 118. -/
namespace Sys2Proof.Machine
open Sys2Proof

/-! ### Bytes of the store -/

/-- Bytes programmed at an address on: a bit that neither the byte nor its kept bits have is cleared. -/
def Mem.programmed (m : Mem) (addr : Nat) (keep : Nat → Byte) (l : List (Byte × Nat)) : Mem :=
  l.foldl (fun m x => Mem.write 0xFF m (addr + x.2) (Mem.read 0xFF m (addr + x.2) &&& (x.1 ||| keep x.2))) m

theorem Mem.read_programmed (keep : Nat → Byte) (addr : Nat) (bs : List Byte) (k : Nat) {m : Mem} (h : Mem.wf 0xFF m = true) (x : Nat) :
    Mem.read 0xFF (m.programmed addr keep (bs.zipIdx k)) x =
      if addr + k ≤ x ∧ x < addr + k + bs.length then Mem.read 0xFF m x &&& (nth bs (x - addr - k) 0 ||| keep (x - addr)) else Mem.read 0xFF m x := by
  induction bs generalizing k m with
  | nil =>
    rw [if_neg (by rw [List.length_nil]; omega)]
    rfl
  | cons b bs ih =>
    have hstep : m.programmed addr keep ((b :: bs).zipIdx k) =
        (Mem.write 0xFF m (addr + k) (Mem.read 0xFF m (addr + k) &&& (b ||| keep k))).programmed addr keep (bs.zipIdx (k + 1)) := by
      rw [List.zipIdx_cons]
      rfl
    rw [hstep, ih (k + 1) (Mem.wf_write _ _ h)]
    simp only [List.length_cons]
    by_cases hx : x = addr + k
    · subst hx
      rw [if_neg (by omega), if_pos (by omega), Mem.read_write_same h, Nat.sub_sub, Nat.sub_self, Nat.add_sub_cancel_left]
      rfl
    · rw [Mem.read_write_other h _ hx]
      by_cases hin : addr + (k + 1) ≤ x ∧ x < addr + (k + 1) + bs.length
      · obtain ⟨hlo, hhi⟩ := hin
        obtain ⟨i, hi⟩ : ∃ i, x - addr - k = i + 1 := ⟨x - addr - k - 1, by omega⟩
        rw [if_pos ⟨hlo, hhi⟩, if_pos (by omega), hi, show x - addr - (k + 1) = i by omega]
        rfl
      · rw [if_neg hin, if_neg (by omega)]

theorem Mem.read_clear (m : Mem) (a n x : Nat) : Mem.read 0xFF (m.clear a n) x = if a ≤ x ∧ x < a + n then 0xFF else Mem.read 0xFF m x := by
  induction m with
  | nil => simp [Mem.clear, Mem.read]
  | cons c m ih =>
    obtain ⟨k, v⟩ := c
    simp only [Mem.clear, List.filter_cons] at ih ⊢
    by_cases hk : a ≤ k ∧ k < a + n
    · rw [if_neg (by simp [hk.1, hk.2]), ih]
      by_cases hx : a ≤ x ∧ x < a + n
      · rw [if_pos hx, if_pos hx]
      · rw [if_neg hx, if_neg hx, Mem.read, if_neg (fun e : k = x => hx (e ▸ hk))]
    · rw [if_pos (by simp only [Bool.not_eq_true', Bool.and_eq_false_iff, decide_eq_false_iff_not]; omega), Mem.read, ih, Mem.read]
      by_cases hkx : k = x
      · subst hkx
        rw [if_pos rfl, if_neg hk, if_pos rfl]
      · rw [if_neg hkx, if_neg hkx]

/-! ### The operations (R684, R685) -/

/-- The bits that a program keeps besides those of its data: none where it completes, else the device's choice. -/
def State.keptBits (s : State) (whole : Bool) (i : Nat) : Byte := if whole then 0 else BitVec.ofNat 8 (Config.freeNat (s.free + i))

theorem State.programNor_nor (s : State) (addr : Nat) (bs : List Byte) (whole : Bool) :
    (s.programNor addr bs whole).boot.nor = s.boot.nor.programmed addr (s.keptBits whole) bs.zipIdx := by
  cases whole <;> rfl

theorem State.programNor_op (s : State) (addr : Nat) (bs : List Byte) (whole : Bool) : (s.programNor addr bs whole).boot.op = s.boot.op := by
  cases whole <;> rfl

/-- A program that completes takes nothing of the device's choice. -/
theorem State.programNor_whole_same (s : State) (addr : Nat) (bs : List Byte) : Same 17039360 s (s.programNor addr bs true) := by
  simp [State.programNor]

theorem State.fwsBuf_length (s : State) : s.fwsBuf.length = 256 := by
  simp [State.fwsBuf, List.length_flatMap]

section
variable {s : State} {o : FwsOp}

/-- The store once the operation in progress has left it. -/
def State.opOver (s : State) : State := s.withBoot { s.boot with op := none }

/-- The store once a program has ended, with its result. -/
def State.programEnded (s : State) (o : FwsOp) (whole : Bool) (result : Nat) : State :=
  (s.opOver.programNor o.addr (s.fwsBuf.take o.len) whole).fwsResult result

theorem State.programEnded_read (hwf : s.memWf = true) (whole : Bool) (result x : Nat) :
    Mem.read 0xFF (s.programEnded o whole result).boot.nor x =
      if o.addr ≤ x ∧ x < o.addr + min o.len 256 then
        Mem.read 0xFF s.boot.nor x &&& (nth (s.fwsBuf.take o.len) (x - o.addr) 0 ||| s.keptBits whole (x - o.addr))
      else Mem.read 0xFF s.boot.nor x := by
  have hnor : Mem.wf 0xFF s.boot.nor = true := by
    simp only [State.memWf, Bool.and_eq_true] at hwf
    exact hwf.1.2
  have hbytes : (s.programEnded o whole result).boot.nor = s.boot.nor.programmed o.addr (s.keptBits whole) (s.fwsBuf.take o.len).zipIdx :=
    State.programNor_nor s.opOver o.addr _ whole
  rw [hbytes, Mem.read_programmed _ _ _ _ hnor, List.length_take, State.fwsBuf_length]
  rfl

theorem State.programEnded_boot (s : State) (o : FwsOp) (whole : Bool) (result : Nat) :
    (s.programEnded o whole result).boot.op = none ∧ (s.programEnded o whole result).boot.result = result :=
  ⟨State.programNor_op s.opOver o.addr _ whole, rfl⟩

theorem State.programEnded_outside (hwf : s.memWf = true) (whole : Bool) (result : Nat) {x : Nat} (hx : x < o.addr ∨ o.addr + o.len ≤ x) :
    Mem.read 0xFF (s.programEnded o whole result).boot.nor x = Mem.read 0xFF s.boot.nor x := by
  rw [State.programEnded_read hwf, if_neg]
  omega

theorem State.programEnded_whole (hwf : s.memWf = true) (result : Nat) {i : Nat} (hi : i < o.len) (h256 : i < 256) :
    Mem.read 0xFF (s.programEnded o true result).boot.nor (o.addr + i) = Mem.read 0xFF s.boot.nor (o.addr + i) &&& nth s.fwsBuf i 0 := by
  have htake : nth (s.fwsBuf.take o.len) i 0 = nth s.fwsBuf i 0 := by
    simp only [nth, List.getD_eq_getElem?_getD, List.getElem?_take_of_lt hi]
  have hkeep : s.keptBits true i = 0 := rfl
  rw [State.programEnded_read hwf, if_pos (by omega), Nat.add_sub_cancel_left, htake, hkeep]
  exact congrArg _ BitVec.or_zero

/-- A program only ever clears bits. -/
theorem State.programEnded_clears (hwf : s.memWf = true) (whole : Bool) (result x : Nat) :
    Mem.read 0xFF (s.programEnded o whole result).boot.nor x = Mem.read 0xFF (s.programEnded o whole result).boot.nor x &&& Mem.read 0xFF s.boot.nor x := by
  rw [State.programEnded_read hwf]
  split
  · rw [BitVec.and_assoc, BitVec.and_comm _ (Mem.read 0xFF s.boot.nor x), ← BitVec.and_assoc, BitVec.and_self]
  · exact BitVec.and_self.symm

/-- The store once an erase has completed. -/
def State.eraseEnded (s : State) (o : FwsOp) : State :=
  let t := s.opOver.eraseSector (sectorOf o.addr)
  (t.withBoot (t.boot.clearFlag (sectorOf o.addr))).fwsResult 0

theorem State.eraseEnded_read (s : State) (o : FwsOp) (x : Nat) :
    Mem.read 0xFF (s.eraseEnded o).boot.nor x = if x / 65536 = o.addr / 65536 then 0xFF else Mem.read 0xFF s.boot.nor x := by
  have hnor : (s.eraseEnded o).boot.nor = s.boot.nor.clear (sectorOf o.addr * 65536) 65536 := rfl
  have hiff : (sectorOf o.addr * 65536 ≤ x ∧ x < sectorOf o.addr * 65536 + 65536) ↔ x / 65536 = o.addr / 65536 := by
    rw [sectorOf]
    omega
  rw [hnor, Mem.read_clear]
  simp only [hiff]

/-- A word cleared where it is a sector's flag names no sector but others (R685 to R687). -/
theorem flagOf_cleared (x w : Nat) : flagOf (if w = flagWord x then 0 else w) = (flagOf w).filter fun y => decide (y ≠ x % 4096) := by
  have hzero : flagOf 0 = none := by decide
  have hmod : flagWord x = flagWord (x % 4096) := by simp only [flagWord, Nat.mod_mod]
  have hname : flagWord x / 4096 % 4096 = x % 4096 := by
    have hdiv : flagWord x / 4096 = 385024 + x % 4096 := by
      simp only [flagWord]
      omega
    rw [hdiv]
    omega
  by_cases hw : w = flagWord x
  · rw [if_pos hw, hzero, flagOf, hw, hname, if_pos hmod]
    simp [Option.filter]
  · rw [if_neg hw, flagOf]
    by_cases hf : w = flagWord (w / 4096 % 4096)
    · rw [if_pos hf]
      have hne : w / 4096 % 4096 ≠ x % 4096 := fun e => hw (by rw [hmod, ← e]; exact hf)
      simp [Option.filter, hne]
    · rw [if_neg hf]
      rfl

theorem Boot.clearFlag_pending (b : Boot) (x : Nat) : (b.clearFlag x).pending = b.pending.filter fun y => decide (y ≠ x % 4096) := by
  have hlist : ∀ l : List Nat, (l.map fun w => if w = flagWord x then 0 else w).filterMap flagOf = (l.filterMap flagOf).filter fun y => decide (y ≠ x % 4096) := by
    intro l
    rw [List.filterMap_map, List.filter_filterMap]
    exact congrArg (fun f => l.filterMap f) (funext (flagOf_cleared x))
  rw [Boot.pending, Boot.pending, Boot.clearFlag, ← List.map_append, hlist]

theorem State.eraseEnded_boot (s : State) (o : FwsOp) : (s.eraseEnded o).boot.op = none ∧ (s.eraseEnded o).boot.result = 0 ∧
    (s.eraseEnded o).boot.pending = s.boot.pending.filter fun x => decide (x ≠ o.addr / 65536 % 4096) :=
  ⟨rfl, rfl, Boot.clearFlag_pending s.boot (sectorOf o.addr)⟩

/-! ### The commands -/

theorem exec_fwsOperationDone_program (ho : s.boot.op = some o) (hop : o.op = 0) (ok : Bool) : exec (.fwsOperationDone ok) s = .next (s.programEnded o ok 0) := by
  have hexec : exec (.fwsOperationDone ok) s = execFwsOperationDone ok s := rfl
  rw [hexec, execFwsOperationDone]
  simp only [ho]
  exact if_pos hop

theorem exec_fwsOperationTimeout_program (ho : s.boot.op = some o) (hop : o.op = 0) : exec .fwsOperationTimeout s = .next (s.programEnded o false 4) := by
  have hexec : exec .fwsOperationTimeout s = execFwsOperationTimeout s := rfl
  rw [hexec, execFwsOperationTimeout]
  simp only [ho]
  exact if_pos hop

theorem exec_fwsOperationDone_erase (ho : s.boot.op = some o) (hop : o.op ≠ 0) :
    exec (.fwsOperationDone true) s = .next (s.eraseEnded o) ∧ exec (.fwsOperationDone false) s = .next (s.opOver.fwsResult 5) := by
  have hexec : ∀ ok, exec (.fwsOperationDone ok) s = execFwsOperationDone ok s := fun _ => rfl
  rw [hexec, hexec, execFwsOperationDone, execFwsOperationDone]
  simp only [ho]
  exact ⟨if_neg hop, if_neg hop⟩

theorem exec_fwsOperationTimeout_erase (ho : s.boot.op = some o) (hop : o.op ≠ 0) : exec .fwsOperationTimeout s = .next (s.opOver.fwsResult 4) := by
  have hexec : exec .fwsOperationTimeout s = execFwsOperationTimeout s := rfl
  rw [hexec, execFwsOperationTimeout]
  simp only [ho]
  exact if_neg hop

/-- A program that failed, or whose time ran out. -/
theorem State.programEnded_cut (hwf : s.memWf = true) (result : Nat) : OnlyChanges [.boot, .stores, .free] s (s.programEnded o false result) ∧
    (s.programEnded o false result).boot.op = none ∧ (s.programEnded o false result).boot.result = result ∧
    (∀ x, Mem.read 0xFF (s.programEnded o false result).boot.nor x =
      Mem.read 0xFF (s.programEnded o false result).boot.nor x &&& Mem.read 0xFF s.boot.nor x) ∧
    (∀ x, x < o.addr ∨ o.addr + o.len ≤ x → Mem.read 0xFF (s.programEnded o false result).boot.nor x = Mem.read 0xFF s.boot.nor x) :=
  ⟨Same.onlyChanges_of_covers (m := 19136512) (by simp [State.programEnded, State.opOver]) rfl, (s.programEnded_boot o false result).1, rfl,
    State.programEnded_clears hwf false result, fun _ => State.programEnded_outside hwf false result⟩

end

/-- Settles O39. -/
theorem firmwareStore : Obligations.FirmwareStore := by
  refine ⟨fun a v s hgo => ⟨fun h => ⟨if_pos ⟨h, hgo⟩, ?_, ?_⟩, fun h => ⟨if_pos ⟨h, hgo⟩, ?_, ?_⟩, fun h => ⟨if_pos ⟨h, hgo⟩, ?_, ?_⟩⟩,
    fun o s ho hop hwf => ⟨⟨_, exec_fwsOperationDone_program ho hop true, Same.onlyChanges_of_covers (m := 17039360) ?_ rfl, (s.programEnded_boot o true 0).1, rfl,
      fun i => State.programEnded_whole hwf 0, fun x => State.programEnded_outside hwf true 0⟩, ?_⟩,
    fun o s ho hop hwf => ⟨⟨_, (exec_fwsOperationDone_erase ho hop).1, Same.onlyChanges_of_covers (m := 17039360) (by simp [State.eraseEnded, State.opOver]) rfl, rfl, rfl,
        s.eraseEnded_read o, (s.eraseEnded_boot o).2.2⟩,
      ⟨_, (exec_fwsOperationDone_erase ho hop).2, Same.onlyChanges_of_covers (m := 262144) (by simp [State.opOver]) rfl, rfl, rfl, rfl⟩,
      ⟨_, exec_fwsOperationTimeout_erase ho hop, Same.onlyChanges_of_covers (m := 262144) (by simp [State.opOver]) rfl, rfl, rfl, rfl⟩⟩⟩
  iterate 6 exact if_neg (by rw [h]; simp)
  · have hstart : Same 17039360 s s.opOver := by simp [State.opOver]
    exact (hstart.trans (State.programNor_whole_same _ _ _)).trans ((State.fwsResult_same0 _ _).mono rfl)
  · simp only [List.mem_cons, List.not_mem_nil, or_false]
    rintro c (rfl | rfl)
    · exact ⟨_, exec_fwsOperationDone_program ho hop false, State.programEnded_cut hwf 0⟩
    · exact ⟨_, exec_fwsOperationTimeout_program ho hop, State.programEnded_cut hwf 4⟩

end Sys2Proof.Machine

/-! SUPPORT: firmware download, commit and hot activation (R133, R581, R684, R688, R700 to R702): O40. The commit of a stored slot and the activation's
steps rest on log entry 121, the model's choice. -/
namespace Sys2Proof.Machine
open Sys2Proof

section
variable {r : CmdRef} {c : Cmd} {s : State}

/-! ### Download (R700) -/

/-- The downloaded image with one more part stored. -/
def State.downloaded (s : State) (off len : Nat) (data : List Byte) : State :=
  s.withBoot { s.boot with image := Mem.writeBytes 0 s.boot.image off (data.take len), imageLen := max s.boot.imageLen (off + len) }

theorem exec_firmwareImageDownload (h : s.mayRun r c true 0x11) : exec (.firmwareImageDownload r) s =
    .next (if slotSize < 4 * c.sqe.cdw11 + 4 * (c.sqe.cdw10 + 1) ∨ 2097152 < 4 * (c.sqe.cdw10 + 1) then s.complete c .invalidField
      else (s.downloaded (4 * c.sqe.cdw11) (4 * (c.sqe.cdw10 + 1)) c.sqe.data).complete c .success) := h.eq _

/-! ### Commit (R700) -/

/-- A Commit that is to run, by the slot it names. -/
structure State.CommitRuns (s : State) (r : CmdRef) (c : Cmd) (slot : Nat) : Prop where
  run : s.mayRun r c true 0x10
  idle : s.boot.act = none
  free : s.boot.op = none
  slot_eq : slot = if bits c.sqe.cdw10 2 0 = 0 then otherSlot s.boot.run else bits c.sqe.cdw10 2 0

/-- What a Commit with a checked slot does, by its action. -/
def State.commitSound (s : State) (c : Cmd) (slot : Nat) (i : FwInfo) : State :=
  if bits c.sqe.cdw10 5 3 = 0 then s.complete c .success
  else if bits c.sqe.cdw10 5 3 = 3 then
    (if s.otherLayout then s.drew.complete c .fwNeedsSubsysReset else s.drew.activate c slot i.build)
  else (s.appendBoot slot 1).complete c .fwNeedsSubsysReset

/-- The end of a Commit, from the check of its slot. -/
def State.commitChecked (s : State) (c : Cmd) (slot : Nat) : FwCheck → State
  | .ok i => s.commitSound c slot i
  | k => s.commitFails c slot k

theorem State.commitChecked_failed {k : FwCheck} (slot : Nat) (h : k.info? = none) : s.commitChecked c slot k = s.commitFails c slot k := by
  cases k with
  | ok i => cases h
  | _ => rfl

variable {slot : Nat}

theorem State.CommitRuns.exec (h : s.CommitRuns r c slot) : exec (.firmwareCommit r) s = .next (
    if 3 < bits c.sqe.cdw10 5 3 then s.complete c .invalidField
    else if 2 < slot ∨ (bits c.sqe.cdw10 5 3 < 2 ∧ slot = s.boot.run) then s.complete c .invalidFwSlot
    else if bits c.sqe.cdw10 5 3 < 2 ∧ s.boot.imageLen = 0 then s.complete c .invalidFwImage
    else if bits c.sqe.cdw10 5 3 < 2 then (s.writeSlot slot).commitChecked c slot ((s.writeSlot slot).checkSlot slot)
    else s.commitChecked c slot (s.checkSlot slot)) := by
  have hexec : Machine.exec (.firmwareCommit r) s = execFirmwareCommit r s := rfl
  have hidle : ¬ (s.boot.act.isSome = true ∨ s.boot.op.isSome = true) := by simp [h.idle, h.free]
  rw [hexec, execFirmwareCommit, if_neg hidle, h.run.eq]
  dsimp only
  rw [← h.slot_eq]
  by_cases hca : bits c.sqe.cdw10 5 3 < 2
  · simp only [hca, if_true]
    generalize (s.writeSlot slot).checkSlot slot = k
    cases k <;> rfl
  · simp only [hca, if_false]
    generalize s.checkSlot slot = k
    cases k <;> rfl

theorem State.CommitRuns.stored (h : s.CommitRuns r c slot) (hca : bits c.sqe.cdw10 5 3 < 2) (hslot : slot ≤ 2) (hrun : slot ≠ s.boot.run) :
    Machine.exec (.firmwareCommit r) s = .next (if s.boot.imageLen = 0 then s.complete c .invalidFwImage
      else (s.writeSlot slot).commitChecked c slot ((s.writeSlot slot).checkSlot slot)) := by
  have h3 : ¬ 3 < bits c.sqe.cdw10 5 3 := by omega
  have hbad : ¬ (2 < slot ∨ (bits c.sqe.cdw10 5 3 < 2 ∧ slot = s.boot.run)) := by omega
  rw [h.exec, if_neg h3, if_neg hbad]
  simp only [hca, true_and, if_true]

theorem State.CommitRuns.kept (h : s.CommitRuns r c slot) (h2 : 2 ≤ bits c.sqe.cdw10 5 3) (h3 : bits c.sqe.cdw10 5 3 ≤ 3) (hslot : slot ≤ 2) :
    Machine.exec (.firmwareCommit r) s = .next (s.commitChecked c slot (s.checkSlot slot)) := by
  have hca : ¬ bits c.sqe.cdw10 5 3 < 2 := by omega
  have hbad : ¬ (2 < slot ∨ (bits c.sqe.cdw10 5 3 < 2 ∧ slot = s.boot.run)) := by omega
  rw [h.exec, if_neg (by omega), if_neg hbad, if_neg (fun e => hca e.1), if_neg hca]

/-! ### Hot activation (R701, R702) -/

section
variable {a : Activation} (ha : s.boot.act = some a)
include ha

theorem exec_hotActivationQuiesced_idle (hph : a.phase = .quiescing) (hidle : s.coresIdle a = true) :
    exec .hotActivationQuiesced s = .next ((s.appendBoot a.slot 2).actPhase a .loading) := by
  have hexec : exec .hotActivationQuiesced s = execHotActivationQuiesced s := rfl
  rw [hexec, execHotActivationQuiesced]
  simp only [ha]
  exact if_pos ⟨hph, hidle⟩

theorem exec_hotActivationTimeout_quiescing (hph : a.phase = .quiescing) : exec .hotActivationTimeout s = .next (s.endActivation a .fwProhibited) := by
  have hexec : exec .hotActivationTimeout s = execHotActivationTimeout s := rfl
  rw [hexec, execHotActivationTimeout]
  simp only [ha]
  exact if_pos hph

theorem exec_activationImageLoaded_loading (ok : Bool) (hph : a.phase = .loading) :
    exec (.activationImageLoaded ok) s = .next (if ok then s.actPhase a .adopting else s.endActivation a .invalidFwImage) := by
  have hexec : exec (.activationImageLoaded ok) s = execActivationImageLoaded ok s := rfl
  rw [hexec, execActivationImageLoaded]
  simp only [ha]
  exact if_pos hph

theorem exec_activationComplete_adopting (pause : Nat) (hph : a.phase = .adopting) :
    exec (.activationComplete true pause) s = .next ((s.adoptImage a.slot pause).endActivation a .success) := by
  have hexec : exec (.activationComplete true pause) s = execActivationComplete true pause s := rfl
  rw [hexec, execActivationComplete]
  simp only [ha]
  exact if_pos ⟨hph, trivial⟩

end
end

/-- Settles O40. -/
theorem firmwareCommands : Obligations.FirmwareCommands := by
  refine ⟨fun r c s h => ⟨fun hoff hlen => ⟨s.downloaded (4 * c.sqe.cdw11) (4 * (c.sqe.cdw10 + 1)) c.sqe.data, ?_,
      Same.onlyChanges_of_covers (m := 17039360) (by simp [State.downloaded]) rfl, rfl, rfl, rfl⟩, fun hbad => ?_⟩,
    fun r c slot s hrun hact hop hslot => ?_,
    fun a s ha => ⟨exec_hotActivationQuiesced_idle ha, exec_hotActivationTimeout_quiescing ha,
      fun hph => ⟨exec_activationImageLoaded_loading ha true hph, exec_activationImageLoaded_loading ha false hph⟩, fun pause => exec_activationComplete_adopting ha pause⟩⟩
  · rw [exec_firmwareImageDownload h, if_neg (by omega)]
  · rw [exec_firmwareImageDownload h, if_pos hbad]
  · have h : s.CommitRuns r c slot := ⟨hrun, hact, hop, hslot⟩
    refine ⟨fun h3 => ?_, fun h3 hbad => ?_, fun hca hle hne hlen => ?_, fun hca hle hne hlen => ⟨fun i hi => ?_, fun k hk hno => ?_⟩, fun i h2 h3 hle hi => ?_⟩
    · rw [h.exec, if_pos h3]
    · rw [h.exec, if_neg (Nat.not_lt.mpr h3), if_pos hbad]
    · rw [h.stored hca hle hne, if_pos hlen]
    · rw [h.stored hca hle hne, if_neg hlen, hi, State.commitChecked, State.commitSound]
      by_cases h0 : bits c.sqe.cdw10 5 3 = 0
      · rw [if_pos h0, if_pos h0]
      · rw [if_neg h0, if_neg h0, if_neg (by omega)]
    · rw [h.stored hca hle hne, if_neg hlen, hk, State.commitChecked_failed slot hno]
    · rw [h.kept h2 h3 hle, hi, State.commitChecked, State.commitSound, if_neg (by omega)]
      by_cases h4 : bits c.sqe.cdw10 5 3 = 3
      · have h5 : ¬ bits c.sqe.cdw10 5 3 = 2 := by omega
        rw [if_pos h4, if_neg h5]
      · have h5 : bits c.sqe.cdw10 5 3 = 2 := by omega
        rw [if_neg h4, if_pos h5]

end Sys2Proof.Machine

/-! SUPPORT: event records and event rings (R34, R258, R663, R664, R668 to R673): O41. That a record waits for those that can have caused it is log entry
138, and that enabling a ring clears its unsignalled records is log entry 39, both the model's choice. -/
namespace Sys2Proof.Machine
open Sys2Proof

section
variable {s : State}

/-! ### Event sequence numbers (R663) -/

theorem Events.advance_nextEsn {e : Events} (hepoch : e.epoch < 0x3FFFF) (hcount : e.count < 2 ^ 30) : e.advance.nextEsn = e.nextEsn + 1 := by
  unfold Events.advance
  split
  · exact (Nat.add_assoc _ _ _).symm
  · rename_i h
    have hlast : e.count + 1 = 2 ^ 30 := Nat.le_antisymm hcount (Nat.not_lt.mp h)
    have hmin : min (e.epoch + 1) 0x3FFFF = e.epoch + 1 := Nat.min_eq_left hepoch
    rw [Events.nextEsn, Events.nextEsn, hmin, Nat.add_mul, Nat.one_mul, Nat.add_zero, Nat.add_assoc, hlast]

/-! ### Rings -/

theorem State.ring_putRing_same (s : State) (k : Nat) (x : EvRing) : (s.putRing k x).ring k = x := by
  unfold State.putRing State.ring
  split <;> rfl

theorem State.ring_setRing_same (s : State) (k : Nat) (f : EvRing → EvRing) : (s.setRing k f).ring k = f (s.ring k) := State.ring_putRing_same ..

theorem State.ring_setRing_other (s : State) (f : EvRing → EvRing) : (s.setRing 1 f).ring 0 = s.ring 0 := rfl

/-- The rings' holds aside, a change of a ring leaves the fabric as it is. -/
theorem State.setRing_fabric (s : State) (k : Nat) (f : EvRing → EvRing) :
    (s.setRing k f).ev.pend = s.ev.pend ∧ (s.setRing k f).ev.nextEsn = s.ev.nextEsn ∧ (s.setRing k f).ev.esns = s.ev.esns := by
  unfold State.setRing State.putRing
  split <;> exact ⟨rfl, rfl, rfl⟩

theorem State.routed_congr {t : State} (h : t.win = s.win) (k : Nat) (e : EvRec) : t.routed k e = s.routed k e := by
  simp only [State.routed, State.passes, State.fld_win h]

/-- A record goes to each of the two rings it is for. -/
def State.takeBoth (s : State) (e : EvRec) (o : EvOut) : State :=
  let s := if s.routed 0 e then s.setRing 0 (·.take o) else s
  if s.routed 1 e then s.setRing 1 (·.take o) else s

theorem State.takeBoth_fabric (s : State) (e : EvRec) (o : EvOut) : (s.takeBoth e o).ev.pend = s.ev.pend ∧ (s.takeBoth e o).ev.nextEsn = s.ev.nextEsn ∧
    (s.takeBoth e o).ev.esns = s.ev.esns ∧ Same 4 s (s.takeBoth e o) := by
  obtain ⟨p0, n0, e0⟩ := s.setRing_fabric 0 (·.take o)
  unfold State.takeBoth
  dsimp only
  split <;> split
  · obtain ⟨p1, n1, e1⟩ := (s.setRing 0 (·.take o)).setRing_fabric 1 (·.take o)
    exact ⟨p1.trans p0, n1.trans n0, e1.trans e0, by simp⟩
  · exact ⟨p0, n0, e0, by simp⟩
  · obtain ⟨p1, n1, e1⟩ := s.setRing_fabric 1 (·.take o)
    exact ⟨p1, n1, e1, by simp⟩
  · exact ⟨rfl, rfl, rfl, Same.refl _ _⟩

theorem State.setRing_win (s : State) (k : Nat) (f : EvRing → EvRing) : (s.setRing k f).win = s.win := by
  unfold State.setRing State.putRing
  split <;> rfl

theorem State.takeBoth_ring {k : Nat} {e : EvRec} (o : EvOut) (hk : k < 2) (h : s.routed k e = true) : (s.takeBoth e o).ring k = (s.ring k).take o := by
  have hwin : ∀ u : State, u.win = s.win → u.routed k e = true := fun u hu => (State.routed_congr hu k e).trans h
  unfold State.takeBoth
  dsimp only
  obtain rfl | rfl : k = 0 ∨ k = 1 := by omega
  · rw [if_pos h]
    split
    · exact (State.ring_setRing_other (s.setRing 0 (·.take o)) (·.take o)).trans (State.ring_setRing_same s 0 _)
    · exact State.ring_setRing_same s 0 _
  · rw [if_pos (hwin _ (by split <;> simp [State.setRing_win])), State.ring_setRing_same]
    split <;> rfl

theorem EvRing.take_spec (x : EvRing) (o : EvOut) : (x.hold.length < holdSize → (x.take o).hold = x.hold ++ [o]) ∧
    (holdSize ≤ x.hold.length → (x.take o).hold = x.hold ∧ (x.take o).lost = x.lost + 1) := by
  refine ⟨fun h => by rw [EvRing.take, if_pos h], fun h => ?_⟩
  rw [EvRing.take, if_neg (Nat.not_lt.mpr h)]
  exact ⟨rfl, rfl⟩

theorem State.routed_of_passes {k : Nat} {e : EvRec} (h : s.passes k e = true) (hx : e.except ≠ some k) : s.routed k e = true := by
  rw [State.routed, h, bne_iff_ne.mpr hx, Bool.or_true, Bool.and_true]

/-! ### Arrival (R34, R663, R664) -/

theorem takeFirst_none {α : Type} {p : α → Bool} {l : List α} (h : ∀ x ∈ l, p x = false) : takeFirst p l = none := by
  induction l with
  | nil => rfl
  | cons x l ih =>
    rw [takeFirst, h x List.mem_cons_self, ih fun y hy => h y (List.mem_cons_of_mem x hy)]
    rfl

/-- The record that the oldest one of a source on its way becomes. -/
def State.arrived (s : State) (e : EvRec) : EvOut := { esn := s.ev.nextEsn, src := e.src, code := e.code, sev := e.sev, time := e.time, pay := e.pay }

/-- The fabric once the oldest record of a source has its number. -/
def State.numbered (s : State) (e : EvRec) (rest : List EvRec) : State :=
  s.withEv { s.ev.advance with pend := rest, esns := s.ev.esns.ins e.tag s.ev.nextEsn }

theorem exec_eventRecordArrival_first {src : Nat} {e : EvRec} {rest : List EvRec} (h : takeFirst (fun e : EvRec => e.src == src) s.ev.pend = some (e, rest))
    (ht : e.tenant = none) (hc : s.ev.causesOf src = []) : exec (.eventRecordArrival src) s = .next ((s.numbered e rest).takeBoth e (s.arrived e)) := by
  have hexec : exec (.eventRecordArrival src) s = execEventRecordArrival src s := rfl
  rw [hexec, execEventRecordArrival]
  simp only [h, hc, ht, List.isEmpty_nil, Bool.not_true, Bool.false_eq_true, if_false]
  rfl

theorem eventRecordArrival_numbers {src : Nat} {e : EvRec} {rest : List EvRec} (h : takeFirst (fun e : EvRec => e.src == src) s.ev.pend = some (e, rest))
    (ht : e.tenant = none) (hc : s.ev.causesOf src = []) (hepoch : s.ev.epoch < 0x3FFFF) (hcount : s.ev.count < 2 ^ 30) :
    ∃ t, exec (.eventRecordArrival src) s = .next t ∧ OnlyChanges [.ev] s t ∧ t.ev.pend = rest ∧
      t.ev.nextEsn = s.ev.nextEsn + 1 ∧ t.ev.esns.get? e.tag = some s.ev.nextEsn ∧
      ∀ k < 2, s.passes k e = true → e.except ≠ some k →
        ((s.ring k).hold.length < holdSize → (t.ring k).hold = (s.ring k).hold ++ [⟨s.ev.nextEsn, e.src, e.code, e.sev, e.time, e.pay⟩]) ∧
        (holdSize ≤ (s.ring k).hold.length → (t.ring k).hold = (s.ring k).hold ∧ (t.ring k).lost = (s.ring k).lost + 1) := by
  obtain ⟨hpend, hesn, hesns, hsame⟩ := (s.numbered e rest).takeBoth_fabric e (s.arrived e)
  have hnum : Same 4 s (s.numbered e rest) := by simp [State.numbered]
  refine ⟨_, exec_eventRecordArrival_first h ht hc, (hnum.trans hsame).onlyChanges_of_covers rfl, hpend, hesn.trans (Events.advance_nextEsn hepoch hcount),
    ?_, fun k hk hpass hx => ?_⟩
  · rw [hesns]
    exact AMap.get?_ins_same ..
  · have hring : ((s.numbered e rest).takeBoth e (s.arrived e)).ring k = (s.ring k).take (s.arrived e) := by
      have hsame : (s.numbered e rest).ring k = s.ring k := by
        unfold State.ring State.numbered Events.advance
        split <;> split <;> rfl
      rw [State.takeBoth_ring (s.arrived e) hk (State.routed_of_passes (s := s.numbered e rest) hpass hx), hsame]
    rw [hring]
    exact EvRing.take_spec (s.ring k) (s.arrived e)

theorem eventRecordArrival_waits {src : Nat} (h : (∀ e ∈ s.ev.pend, e.src ≠ src) ∨ s.ev.causesOf src ≠ []) : exec (.eventRecordArrival src) s = .next s := by
  have hexec : exec (.eventRecordArrival src) s = execEventRecordArrival src s := rfl
  rw [hexec, execEventRecordArrival]
  rcases h with h | h
  · simp only [takeFirst_none fun e he => beq_eq_false_iff_ne.mpr (h e he)]
  · split
    · rfl
    · rw [if_pos]
      rw [List.isEmpty_eq_false_iff.mpr h]
      rfl

/-! ### Writes to a ring (R669, R671, R673) -/

section
variable {k : Nat} {e : EvOut} {rest : List EvOut}
variable (hk : k < 2) (hopen : s.ringOpen k = true) (hhold : (s.ring k).hold = e :: rest)
include hk hopen hhold

theorem exec_eventRingWrite_fails {err : Bool} {cause : Nat} (hc : s.ringCause k err = some cause) : exec (.eventRingWrite k err) s = .next (s.disableRing k cause) := by
  have hexec : exec (.eventRingWrite k err) s = execEventRingWrite k err s := rfl
  rw [hexec, execEventRingWrite, if_pos ⟨hk, hopen⟩]
  simp only [hhold, hc]

/-- The part once the first record held is written at the tail, and the tail after it. -/
def State.ringWritten (s : State) (k : Nat) (e : EvOut) (rest : List EvOut) : State :=
  ((s.send (.evRecord k (4096 * s.fld F.EVT_BASE_BASE k + 32 * (s.ring k).tail) e.esn e.src e.code e.sev e.time e.pay)).putRing k
    { s.ring k with hold := rest, tail := ((s.ring k).tail + 1) % s.ringSize k }).send
    (.evTail k (4 * s.fld F.EVT_TAILADDR_ADDR k) (((s.ring k).tail + 1) % s.ringSize k))

omit hk hopen hhold in
theorem State.putRing_host (s : State) (k : Nat) (x : EvRing) : (s.putRing k x).host = s.host := by
  unfold State.putRing
  split <;> rfl

omit hk hopen hhold in
theorem State.putRing_win (s : State) (k : Nat) (x : EvRing) : (s.putRing k x).win = s.win := by
  unfold State.putRing
  split <;> rfl

omit hk hopen hhold in
theorem State.ringWritten_spec (s : State) (k : Nat) (e : EvOut) (rest : List EvOut) : OnlyChanges [.ev, .host] s (s.ringWritten k e rest) ∧
    (s.ringWritten k e rest).ring k = { s.ring k with hold := rest, tail := ((s.ring k).tail + 1) % s.ringSize k } ∧
    (s.ringWritten k e rest).host.out = .evTail k (4 * s.fld F.EVT_TAILADDR_ADDR k) (((s.ring k).tail + 1) % s.ringSize k) ::
      .evRecord k (4096 * s.fld F.EVT_BASE_BASE k + 32 * (s.ring k).tail) e.esn e.src e.code e.sev e.time e.pay :: s.host.out := by
  refine ⟨Same.onlyChanges_of_covers (m := 12) (by simp [State.ringWritten]) rfl, State.ring_putRing_same .., ?_⟩
  rw [State.ringWritten, State.send, State.withHost_host, State.putRing_host]
  rfl

theorem exec_eventRingWrite_writes (hc : s.ringCause k false = none) :
    exec (.eventRingWrite k false) s = .next (((s.ringWritten k e rest).signalRing k).reportLost k) := by
  have hfld : ∀ x f, ((s.send x).putRing k { s.ring k with hold := rest, tail := ((s.ring k).tail + 1) % s.ringSize k }).fld f k = s.fld f k :=
    fun x f => State.fld_win ((State.putRing_win _ _ _).trans rfl) f k 0
  have hexec : exec (.eventRingWrite k false) s = execEventRingWrite k false s := rfl
  rw [hexec, execEventRingWrite, if_pos ⟨hk, hopen⟩]
  simp only [hhold, hc, hfld]
  rfl

end

theorem State.ringCause_spec (s : State) (k : Nat) : ((s.fn (s.fld F.EVT_CFG_PF k)).bme = false → s.ringCause k false = some 1) ∧
    ((s.fn (s.fld F.EVT_CFG_PF k)).bme = true → s.fnLive (s.fld F.EVT_CFG_PF k) = false → s.ringCause k false = some 2) ∧
    ((s.fn (s.fld F.EVT_CFG_PF k)).bme = true → s.fnLive (s.fld F.EVT_CFG_PF k) = true → s.ringCause k true = some 3) := by
  refine ⟨fun h => if_pos h, fun h hl => ?_, fun h hl => ?_⟩
  · simp [State.ringCause, h, hl]
  · simp [State.ringCause, h, hl]

theorem exec_eventRingWrite_idle {k : Nat} (err : Bool) (h : s.ringOpen k = false ∨ (s.ring k).hold = []) : exec (.eventRingWrite k err) s = .next s := by
  have hexec : exec (.eventRingWrite k err) s = execEventRingWrite k err s := rfl
  rw [hexec, execEventRingWrite]
  rcases h with h | h
  · exact if_neg (by rw [h]; simp)
  · simp only [h, ite_self]

/-! ### Configuration and the interrupt timer (R258, R669, R671, R672) -/

theorem exec_eventRingConfig_inRange {a : Agent} {k v : Nat} (hk : k < 2) (hvec : F.EVT_CFG_VEC.inRange v = true) (hcnt : F.EVT_CFG_INTCNT.inRange v = true)
    (hage : F.EVT_CFG_INTAGE.inRange v = true) : exec (.eventRingConfig a k v) s = .next (if !s.ringOn k && (s.putReg ⟨.EVT_CFG, k, 0⟩ v).ringOn k then
      (((s.putReg ⟨.EVT_CFG, k, 0⟩ v).setRing k fun x => { x with tail := 0, unsig := 0 }).putReg ⟨.EVT_HEAD, k, 0⟩ 0).reportLost k
      else s.putReg ⟨.EVT_CFG, k, 0⟩ v) := by
  have hexec : exec (.eventRingConfig a k v) s = execEventRingConfig a k v s := rfl
  rw [hexec, execEventRingConfig, if_pos hk, State.writeEvtCfg, hvec, hcnt, hage]
  rfl

theorem eventInterruptTimer_sends {k : Nat} (hk : k < 2) (hon : s.ringOn k = true) (hen : s.flag F.EVT_CFG_INTEN k = true) (hn : 0 < (s.ring k).unsig)
    (hf : s.hld.flush = .none) : ∃ t, exec (.eventInterruptTimer k) s = .next t ∧ OnlyChanges [.ev, .host] s t ∧
      t.ring k = { s.ring k with unsig := 0 } ∧ t.host.out = .msix (s.fld F.EVT_CFG_PF k) (s.fld F.EVT_CFG_VEC k) :: s.host.out := by
  refine ⟨_, if_pos ⟨hk, hon, hen, hn, hf⟩, Same.onlyChanges_of_covers (m := 12) (by simp) rfl, State.ring_setRing_same s k _, ?_⟩
  rw [State.send, State.withHost_host, State.setRing, State.putRing_host]

end

/-- Settles O41. -/
theorem eventRecordsAndRings : Obligations.EventRecordsAndRings := by
  refine ⟨⟨fun src e rest s => eventRecordArrival_numbers, fun src s => eventRecordArrival_waits⟩, fun k e rest s hk hopen hhold => ?_,
    fun k s err hk => exec_eventRingWrite_idle err, fun a k v s hk => ⟨⟨_, if_pos hk, (State.putReg_same0 s _ v).onlyChanges_of_covers rfl, rfl⟩,
      fun hvec hcnt hage => ⟨_, rfl, exec_eventRingConfig_inRange hk hvec hcnt hage⟩⟩,
    fun k s hk => ⟨eventInterruptTimer_sends hk, fun h => if_neg (fun hc => by rw [h] at hc; exact absurd hc.2.2.2.1 (Nat.lt_irrefl 0))⟩⟩
  obtain ⟨hbme, hlive, herr⟩ := s.ringCause_spec k
  refine ⟨fun err cause => exec_eventRingWrite_fails hk hopen hhold, hbme, hlive, herr, fun hc => ?_⟩
  obtain ⟨hframe, hring, hout⟩ := s.ringWritten_spec k e rest
  exact ⟨_, exec_eventRingWrite_writes hk hopen hhold hc, hframe, hring, hout⟩

end Sys2Proof.Machine

/-! SUPPORT: features, asynchronous event requests, Identify and Get Log Page (R83, R86, R92, R110, R125): O45. The offset of a log page in
multiples of 4 and the transfer limit are log entries 25 and 28, the model's choice. -/
namespace Sys2Proof.Machine
open Sys2Proof

/-- What a function knows once a value of a feature has been set. -/
def State.featSet (s : State) (t : Nat) (e : Sqe) (v : Nat) : State :=
  s.setFn t fun f =>
    let m := f.feat.ins (featKey (bits e.cdw10 7 0) e.cdw11) v
    let m := if e.cdw10.testBit 31 then m.ins (bits e.cdw10 7 0 + 256) v else m
    { f with feat := if bits e.cdw10 7 0 = 0x0E then m.ins 512 s.ao.time else m }

theorem State.fn_setFn_same (s : State) (t : Nat) (f : FnState → FnState) : (s.setFn t f).fn t = f (s.fn t) := by
  simp [State.setFn, State.putFn, State.fn]

theorem State.featSet_onlyChanges (s : State) (t : Nat) (e : Sqe) (v : Nat) : OnlyChanges [.host] s (s.featSet t e v) :=
  (State.setFn_same0 s t _).onlyChanges_of_covers rfl

theorem State.featSet_fn (s : State) (t : Nat) (e : Sqe) (v : Nat) (hsave : e.cdw10.testBit 31 = false) :
    (s.featSet t e v).fn t = { s.fn t with feat := (if bits e.cdw10 7 0 = 0x0E then
      ((s.fn t).feat.ins (featKey (bits e.cdw10 7 0) e.cdw11) v).ins 512 s.ao.time else (s.fn t).feat.ins (featKey (bits e.cdw10 7 0) e.cdw11) v) } := by
  rw [State.featSet, State.fn_setFn_same, hsave]
  rfl

theorem State.featSet_feat_saved (s : State) (t : Nat) (e : Sqe) (v : Nat) (hsave : e.cdw10.testBit 31 = true) (hfid : bits e.cdw10 7 0 = 0xC0) :
    ((s.featSet t e v).fn t).feat = ((s.fn t).feat.ins (featKey 0xC0 e.cdw11) v).ins (0xC0 + 256) v := by
  rw [State.featSet, State.fn_setFn_same, hsave, hfid]
  rfl

section
variable {r : CmdRef} {c : Cmd} {fid v : Nat} {s : State}

/-! ### Set Features (R83, R92, R110) -/

/-- What Set Features does with the value it has checked. -/
def State.featKept (s : State) (r : CmdRef) (c : Cmd) : Except Status Nat → State
  | .error st => s.complete c st
  | .ok v =>
    if bits c.sqe.cdw10 7 0 = 0x07 then s.complete c .success (s.queuesAssigned r.fn) else (s.featSet r.fn c.sqe v).complete c .success

theorem exec_setFeatures (h : s.mayRun r c true 0x09) (hfid : fid = bits c.sqe.cdw10 7 0) : exec (.setFeatures r) s = .next (
    if !featSupported.contains fid then s.complete c .invalidField
    else if c.sqe.cdw10.testBit 31 ∧ fid ≠ 0xC0 then s.complete c .featNotSaveable
    else if fid = 0x09 ∧ s.ioVectors r.fn < c.sqe.cdw11 % 65536 then s.complete c .invalidField
    else s.featKept r c (featValue c.sqe)) := by
  subst hfid
  have hexec : exec (.setFeatures r) s = execSetFeatures r s := rfl
  rw [hexec, execSetFeatures, h.eq]
  dsimp only
  generalize featValue c.sqe = k
  cases k <;> rfl

/-- A supported feature whose save is allowed and whose vector exists has its value kept. -/
theorem exec_setFeatures_keeps (h : s.mayRun r c true 0x09) (hfid : fid = bits c.sqe.cdw10 7 0) (hsup : featSupported.contains fid = true)
    (hsave : c.sqe.cdw10.testBit 31 = false ∨ fid = 0xC0) (hvec : fid ≠ 0x09 ∨ c.sqe.cdw11 % 65536 ≤ s.ioVectors r.fn) :
    exec (.setFeatures r) s = .next (s.featKept r c (featValue c.sqe)) := by
  have hnosave : ¬ (c.sqe.cdw10.testBit 31 = true ∧ fid ≠ 0xC0) := fun hc => hsave.elim (fun hf => by simp [hf] at hc) hc.2
  have hnovec : ¬ (fid = 0x09 ∧ s.ioVectors r.fn < c.sqe.cdw11 % 65536) := by omega
  rw [exec_setFeatures h hfid, hsup, Bool.not_true, if_neg Bool.false_ne_true, if_neg hnosave, if_neg hnovec]

theorem setFeatures_spec (h : s.mayRun r c true 0x09) (hfid : fid = bits c.sqe.cdw10 7 0) :
    (featSupported.contains fid = false → exec (.setFeatures r) s = .next (s.complete c .invalidField)) ∧
    (featSupported.contains fid = true → c.sqe.cdw10.testBit 31 = true → fid ≠ 0xC0 → exec (.setFeatures r) s = .next (s.complete c .featNotSaveable)) ∧
    (featSupported.contains fid = true → c.sqe.cdw10.testBit 31 = false → fid ≠ 0x07 → fid ≠ 0x09 ∨ c.sqe.cdw11 % 65536 ≤ s.ioVectors r.fn → featValue c.sqe = .ok v →
      ∃ u : State, exec (.setFeatures r) s = .next (u.complete c .success) ∧ OnlyChanges [.host] s u ∧
        u.fn r.fn = { s.fn r.fn with feat := (if fid = 0x0E then ((s.fn r.fn).feat.ins (featKey fid c.sqe.cdw11) v).ins 512 s.ao.time else (s.fn r.fn).feat.ins (featKey fid c.sqe.cdw11) v) }) ∧
    (featSupported.contains fid = true → c.sqe.cdw10.testBit 31 = false → fid = 0x09 → s.ioVectors r.fn < c.sqe.cdw11 % 65536 →
      exec (.setFeatures r) s = .next (s.complete c .invalidField)) ∧
    (∀ st, featSupported.contains fid = true → c.sqe.cdw10.testBit 31 = false → fid ≠ 0x09 → featValue c.sqe = .error st →
      exec (.setFeatures r) s = .next (s.complete c st)) ∧
    (c.sqe.cdw10.testBit 31 = true → fid = 0xC0 → featValue c.sqe = .ok v → ∃ u : State, exec (.setFeatures r) s = .next (u.complete c .success) ∧
        OnlyChanges [.host] s u ∧ (u.fn r.fn).feat = ((s.fn r.fn).feat.ins (featKey 0xC0 c.sqe.cdw11) v).ins (0xC0 + 256) v) ∧
    (c.sqe.cdw10.testBit 31 = false → fid = 0x07 → featValue c.sqe = .ok v → exec (.setFeatures r) s = .next (s.complete c .success (s.queuesAssigned r.fn))) := by
  have keeps := fun hsup hsave hvec => exec_setFeatures_keeps h hfid hsup hsave hvec
  refine ⟨fun hsup => ?_, fun hsup hsave hid => ?_, fun hsup hsave hid hvec hv => ?_, fun hsup hsave hid hvec => ?_, fun st hsup hsave hid hv => ?_,
    fun hsave hid hv => ?_, fun hsave hid hv => ?_⟩
  · rw [exec_setFeatures h hfid, hsup]; rfl
  · rw [exec_setFeatures h hfid, hsup, Bool.not_true, if_neg Bool.false_ne_true, if_pos ⟨hsave, hid⟩]
  · refine ⟨s.featSet r.fn c.sqe v, ?_, s.featSet_onlyChanges _ _ _, hfid ▸ s.featSet_fn _ _ _ hsave⟩
    rw [keeps hsup (.inl hsave) hvec, hv, State.featKept, if_neg (hfid ▸ hid)]
  · rw [exec_setFeatures h hfid, hsup, Bool.not_true, if_neg Bool.false_ne_true, if_neg (by simp [hsave]), if_pos ⟨hid, hvec⟩]
  · rw [keeps hsup (.inl hsave) (.inl hid), hv, State.featKept]
  · refine ⟨s.featSet r.fn c.sqe v, ?_, s.featSet_onlyChanges _ _ _, s.featSet_feat_saved _ _ _ hsave (hfid.symm.trans hid)⟩
    rw [keeps (by rw [hid]; rfl) (.inr hid) (.inl (by omega)), hv, State.featKept, if_neg (by omega)]
  · rw [keeps (by rw [hid]; rfl) (.inl hsave) (.inl (by omega)), hv, State.featKept, if_pos (hfid.symm.trans hid)]

/-! ### Get Features -/

/-- What Get Features answers for a supported feature where nothing was set: its default. -/
def State.featDefault (s : State) (t fid dw11 : Nat) : Nat :=
  if fid = 0x07 then s.queuesAssigned t else if fid = 0x09 then dw11 % 65536 else s.defaultFeature (featKey fid dw11)

variable {sel : Nat}

theorem exec_getFeatures (h : s.mayRun r c true 0x0A) (hfid : fid = bits c.sqe.cdw10 7 0) (hsel : sel = bits c.sqe.cdw10 10 8) :
    exec (.getFeatures r) s = .next (
      if !featSupported.contains fid ∨ 3 < sel then s.complete c .invalidField
      else if fid = 0x0E ∧ sel ≠ 3 then
        s.completeBytes c (layRow [(6, if sel = 0 then s.timestamp r.fn else 0), (1, 2 * b2n (((s.fn r.fn).feat.get? 512).isSome && sel == 0)), (1, 0)])
      else s.complete c .success (if sel = 0 then s.featNow r.fn fid c.sqe.cdw11 else if sel = 3 then 4 + b2n (fid == 0xC0)
        else if sel = 2 then (s.fn r.fn).feat.getD (fid + 256) (s.featDefault r.fn fid c.sqe.cdw11) else s.featDefault r.fn fid c.sqe.cdw11)) := by
  subst hfid hsel
  exact h.eq _

theorem getFeatures_spec (h : s.mayRun r c true 0x0A) (hfid : fid = bits c.sqe.cdw10 7 0) (hsel : sel = bits c.sqe.cdw10 10 8) :
    (featSupported.contains fid = false ∨ 3 < sel → exec (.getFeatures r) s = .next (s.complete c .invalidField)) ∧
    (featSupported.contains fid = true → sel = 3 → exec (.getFeatures r) s = .next (s.complete c .success (4 + b2n (fid == 0xC0)))) ∧
    (featSupported.contains fid = true → sel = 0 → fid ≠ 0x0E → exec (.getFeatures r) s = .next (s.complete c .success (s.featNow r.fn fid c.sqe.cdw11))) ∧
    (featSupported.contains fid = true → fid ≠ 0x0E →
      (sel = 1 → exec (.getFeatures r) s = .next (s.complete c .success (s.featDefault r.fn fid c.sqe.cdw11))) ∧
      (sel = 2 → exec (.getFeatures r) s =
        .next (s.complete c .success ((s.fn r.fn).feat.getD (fid + 256) (s.featDefault r.fn fid c.sqe.cdw11))))) ∧
    (fid = 0x0E → sel = 0 → exec (.getFeatures r) s =
      .next (s.completeBytes c (layRow [(6, s.timestamp r.fn), (1, 2 * b2n ((s.fn r.fn).feat.get? 512).isSome), (1, 0)]))) := by
  have runs := exec_getFeatures h hfid hsel
  have refused : ∀ {n}, featSupported.contains fid = true → sel = n → n ≤ 3 → ¬ ((!featSupported.contains fid) = true ∨ 3 < sel) := by
    rintro n hsup rfl hn (hc | hc)
    · rw [hsup] at hc; exact absurd hc (by decide)
    · omega
  refine ⟨fun hbad => ?_, fun hsup hs => ?_, fun hsup hs hid => ?_, fun hsup hid => ⟨fun hs => ?_, fun hs => ?_⟩, fun hid hs => ?_⟩
  · rw [runs, if_pos (hbad.imp (fun h => by rw [h]; rfl) id)]
  · rw [runs, if_neg (refused hsup hs (by decide)), if_neg (fun hc => hc.2 hs), hs]; rfl
  · rw [runs, if_neg (refused hsup hs (by decide)), if_neg (fun hc => hid hc.1), if_pos hs]
  · rw [runs, if_neg (refused hsup hs (by decide)), if_neg (fun hc => hid hc.1), hs]; rfl
  · rw [runs, if_neg (refused hsup hs (by decide)), if_neg (fun hc => hid hc.1), hs]; rfl
  · rw [runs, if_neg (refused (by rw [hid]; rfl) hs (by decide)), if_pos ⟨hid, by omega⟩, hs]; simp

/-! ### Asynchronous event requests, Identify and Get Log Page (R86, R125) -/

theorem exec_asynchronousEventRequest {n : Nat} (h : s.mayRun r c true 0x0C)
    (hn : n = (s.host.cmds.filter fun x => x.ref.fn == r.fn && x.ref.qid == 0 && x.sqe.opc == 0x0C && x.phase == .background).length) :
    exec (.asynchronousEventRequest r) s = .next (if aerMax ≤ n then s.complete c .aerLimit
      else (s.setCmd r fun c => { c with phase := .background }).pumpAsync r.fn) := by
  subst hn
  exact h.eq _

/-- What Identify answers from the structure it has looked up. -/
def State.identifyAnswer (s : State) (c : Cmd) : Except Status (List Byte) → State
  | .ok b => s.completeBytes c b
  | .error st => s.complete c st

theorem exec_identify (h : s.mayRun r c true 0x06) : exec (.identify r) s = .next (s.identifyAnswer c (s.identifyData c.ref.fn c.sqe)) := by
  have hexec : exec (.identify r) s = execIdentify r s := rfl
  rw [hexec, execIdentify, h.eq]
  generalize s.identifyData c.ref.fn c.sqe = k
  cases k <;> rfl

/-- What Get Log Page does with the page it has found. -/
def State.logAnswer (s : State) (c : Cmd) : Except Status (List Byte) → State
  | .error st => s.complete c st
  | .ok b => if b.length < c.sqe.lpo then s.complete c .invalidField
    else ((s.afterLog c.ref.fn c.sqe).completeBytes c (padTo c.sqe.logLen (b.drop c.sqe.lpo))).drew

theorem exec_getLogPage (h : s.mayRun r c true 0x02) : exec (.getLogPage r) s = .next (
    if maxTransfer < c.sqe.logLen ∨ c.sqe.lpo % 4 ≠ 0 then s.complete c .invalidField
    else if c.sqe.lid = 0xC6 then s.tableRead c else s.logAnswer c (s.logPage c.ref.fn c.sqe)) := by
  have hexec : exec (.getLogPage r) s = execGetLogPage r s := rfl
  rw [hexec, execGetLogPage, h.eq]
  dsimp only
  generalize s.logPage c.ref.fn c.sqe = k
  cases k <;> rfl

theorem getLogPage_spec (h : s.mayRun r c true 0x02) :
    (maxTransfer < c.sqe.logLen ∨ c.sqe.lpo % 4 ≠ 0 → exec (.getLogPage r) s = .next (s.complete c .invalidField)) ∧
    (c.sqe.logLen ≤ maxTransfer → c.sqe.lpo % 4 = 0 → c.sqe.lid ≠ 0xC6 →
      (∀ st, s.logPage c.ref.fn c.sqe = .error st → exec (.getLogPage r) s = .next (s.complete c st)) ∧
      (∀ b, s.logPage c.ref.fn c.sqe = .ok b → c.sqe.lpo ≤ b.length →
        exec (.getLogPage r) s = .next ((s.afterLog c.ref.fn c.sqe).completeBytes c (padTo c.sqe.logLen (b.drop c.sqe.lpo))).drew)) ∧
    (c.sqe.logLen ≤ maxTransfer → c.sqe.lpo % 4 = 0 → c.sqe.lid = 0xC6 → exec (.getLogPage r) s = .next (s.tableRead c)) := by
  have runs := exec_getLogPage h
  have fits : c.sqe.logLen ≤ maxTransfer → c.sqe.lpo % 4 = 0 → ¬ (maxTransfer < c.sqe.logLen ∨ c.sqe.lpo % 4 ≠ 0) := by omega
  refine ⟨fun hbad => ?_, fun hlen hoff hid => ⟨fun st hst => ?_, fun b hb hin => ?_⟩, fun hlen hoff hid => ?_⟩
  · rw [runs, if_pos hbad]
  · rw [runs, if_neg (fits hlen hoff), if_neg hid, hst, State.logAnswer]
  · rw [runs, if_neg (fits hlen hoff), if_neg hid, hb, State.logAnswer, if_neg (Nat.not_lt.mpr hin)]
  · rw [runs, if_neg (fits hlen hoff), if_pos hid]

end

/-- Settles O45. -/
theorem featuresAndEvents : Obligations.FeaturesAndEvents := by
  refine ⟨fun r c fid v s h hfid => setFeatures_spec h hfid, fun r c fid sel s h hfid hsel => ?_, fun r c n s h hn => ⟨fun hmax => ?_, fun hmax => ?_⟩,
    fun r c s h => ⟨fun b hb => ?_, fun st hst => ?_⟩, fun r c s h => getLogPage_spec h⟩
  · obtain ⟨hbad, hcap, hnow, hdef, htime⟩ := getFeatures_spec h hfid hsel
    refine ⟨hbad, hcap, hnow, fun d hsup hid hd => ?_, htime⟩
    subst hd
    exact hdef hsup hid
  · rw [exec_asynchronousEventRequest h hn, if_pos hmax]
  · refine ⟨s.setCmd r fun c => { c with phase := .background }, ?_, (State.setCmd_same0 s r _).onlyChanges_of_covers rfl, State.cmd?_setCmd h.1 rfl⟩
    rw [exec_asynchronousEventRequest h hn, if_neg (Nat.not_le.mpr hmax)]
  · rw [exec_identify h, hb, State.identifyAnswer]
  · rw [exec_identify h, hst, State.identifyAnswer]

end Sys2Proof.Machine

/-! SUPPORT: Read, Compare and Verify (R46, R90, R100, R103, R407, R412, R615): O46. -/
namespace Sys2Proof.Machine
open Sys2Proof

section
variable {r : CmdRef} {c : Cmd} {n : Ns} {s : State}

/-! ### Starting the reads (R46, R100) -/

/-- What the lookup of Read, Compare and Verify does with a command that has what it needs. -/
theorem State.runRead_of (hc : s.cmd? r = some c) (hn : s.nsAt c.nsix = some n) (hq : r.qid ≠ 0) (opc : Nat) (ready : Cmd → Bool)
    (hopc : c.sqe.opc = opc) (hph : c.phase = .data) (hroom : s.cqRoom r = true) : s.runRead r opc ready =
      if ready c = true ∧ s.hld.flush = .none then
        (if s.touchesOffline n c.lba c.nlb = true then .next (s.complete c .zoneOffline) else .next (s.startReads c n))
      else .next s := by
  unfold State.runRead
  simp only [hc, hn, hq, hopc, hph, hroom, true_and, ne_eq, not_false_eq_true]

/-- Read, Compare and Verify differ in one thing before their reads start: a Compare waits for its data. -/
theorem exec_lookup {op : Instr} {opc : Nat} (hop : (op, opc) ∈ [(Instr.read r, 0x02), (Instr.compare r, 0x05), (Instr.verify r, 0x0C)])
    (hc : s.cmd? r = some c) (hn : s.nsAt c.nsix = some n) (hq : r.qid ≠ 0) (hopc : c.sqe.opc = opc) (hph : c.phase = .data)
    (hroom : s.cqRoom r = true) : exec op s =
      if (opc = 0x05 → c.blocks = c.nlb) ∧ s.hld.flush = .none then
        (if s.touchesOffline n c.lba c.nlb = true then .next (s.complete c .zoneOffline) else .next (s.startReads c n))
      else .next s := by
  have hrun := fun opc ready hopc => State.runRead_of hc hn hq opc ready hopc hph hroom
  simp only [List.mem_cons, Prod.mk.injEq, List.not_mem_nil, or_false] at hop
  rcases hop with ⟨rfl, rfl⟩ | ⟨rfl, rfl⟩ | ⟨rfl, rfl⟩
  · exact (hrun 0x02 (fun _ => true) hopc).trans (by simp)
  · exact (hrun 0x05 (fun c => c.blocks == c.nlb) hopc).trans (by simp)
  · exact (hrun 0x0C (fun _ => true) hopc).trans (by simp)

/-- A command whose blocks are being read, none of them in yet. -/
def Cmd.readStarted (c : Cmd) : Cmd :=
  { c with phase := .reading, blocks := 0, got := if c.sqe.opc = 0x05 then c.got ++ List.replicate c.nlb (0, 0) else List.replicate c.nlb (0, 0) }

/-- What a block's place does for the read of one block of a command. -/
def State.lookedUp (s : State) (c : Cmd) (n : Ns) (k : Nat) : UnitAt → State
  | .info i => s.giveUnit c.ref k (.ok i)
  | .zero => s.giveUnit c.ref k .zero
  | .bad => s.giveUnit c.ref k .lost
  | .media setid row d lo hi => s.readMedia c n k setid row d lo hi

theorem State.findBlock_setCmd (s : State) (f : Cmd → Cmd) (nsix lba : Nat) : (s.setCmd r f).findBlock nsix n lba = s.findBlock nsix n lba := rfl

theorem State.startReads_one (h : c.nlb = 1) :
    s.startReads c n = (s.setCmd c.ref Cmd.readStarted).lookedUp c n 0 (s.findBlock c.nsix n c.lba) := by
  have hfold : s.startReads c n = (List.range c.nlb).foldl (fun s k => s.lookedUp c n k (s.findBlock c.nsix n (c.lba + k)))
      (s.setCmd c.ref Cmd.readStarted) := rfl
  rw [hfold, h]
  exact congrArg (State.lookedUp _ c n 0) (State.findBlock_setCmd s _ _ _)

theorem Cmd.readStarted_one (h : c.nlb = 1) : c.readStarted =
    { c with phase := .reading, blocks := 0, got := if c.sqe.opc = 0x05 then c.got ++ [(0, 0)] else [(0, 0)] } := by
  rw [Cmd.readStarted, h]
  rfl

/-! ### A unit that comes in -/

theorem State.cmd?_giveUnit (hc : s.cmd? r = some c) (h : c.sqe.opc ≠ 0x05) (k : Nat) (i : Info) :
    (s.giveUnit r k (.ok i)).cmd? r = some { c with got := c.got.set k (i.data, i.hmeta + 2 ^ 128), blocks := c.blocks + 1 } ∧
    (s.giveUnit r k .zero).cmd? r = some { c with blocks := c.blocks + 1 } ∧
    (s.giveUnit r k .lost).cmd? r = some { c with blocks := c.blocks + 1, status := .unrecoveredRead } := by
  refine ⟨(State.cmd?_setCmd hc rfl).trans ?_, State.cmd?_setCmd hc rfl, State.cmd?_setCmd hc rfl⟩
  rw [if_neg h]

/-! ### Completion (R103, R412, R615) -/

/-- The content a command has read, decrypted for its blocks. -/
def State.plain (s : State) (c : Cmd) (n : Ns) (got : List (Block × Nat)) : List (Block × Nat) := got.zipIdx.map fun x => s.plainOf c n x.2 x.1

/-- The blocks of a Read sent to the host in their order. -/
def State.sentBlocks (s : State) (r : CmdRef) (plain : List (Block × Nat)) : State :=
  plain.zipIdx.foldl (fun s x => s.send (.block r x.2 x.1.1 x.1.2)) s

/-- The state a Read completes in: its blocks sent and its latency counted. -/
def State.readSent (s : State) (r : CmdRef) (c : Cmd) (n : Ns) : State :=
  (s.sentBlocks r (s.plain c n c.got)).monitor 0 ((s.sentBlocks r (s.plain c n c.got)).ao.time - c.bellTime -
    (List.range c.nlb).foldl (fun m k => max m (s.senseOf c.nsix n (c.lba + k))) 0)

theorem State.foldl_send_host {α : Type} (f : α → HostOut) (l : List α) (s : State) :
    (l.foldl (fun s x => s.send (f x)) s).host = { s.host with out := (l.map f).reverse ++ s.host.out } := by
  induction l generalizing s with
  | nil => rfl
  | cons x l ih => rw [List.foldl_cons, ih, State.send, State.withHost_host]; simp

theorem State.sentBlocks_same (s : State) (r : CmdRef) (l : List (Block × Nat)) : Same 8 s (s.sentBlocks r l) := by simp [State.sentBlocks, foldl_same]

theorem State.readSent_spec (s : State) (r : CmdRef) (c : Cmd) (n : Ns) : OnlyChanges [.host, .sch] s (s.readSent r c n) ∧
    (s.readSent r c n).host.cmds = s.host.cmds ∧
    (s.readSent r c n).host.out = ((s.plain c n c.got).zipIdx.map fun x => HostOut.block r x.2 x.1.1 x.1.2).reverse ++ s.host.out := by
  have hhost : (s.readSent r c n).host = (s.sentBlocks r (s.plain c n c.got)).host := (State.monitor_same0 _ _ _).host rfl
  rw [hhost, State.sentBlocks, State.foldl_send_host]
  exact ⟨(((s.sentBlocks_same r _).mono rfl).trans ((State.monitor_same0 _ _ _).mono (q := 2056) rfl)).onlyChanges_of_covers rfl, rfl, rfl⟩

/-- The end of a command whose blocks and metadata are all there and sound. -/
def State.readEnds (s : State) (r : CmdRef) (c : Cmd) (n : Ns) : State :=
  if c.sqe.opc = 0x02 then (s.readSent r c n).complete c .success
  else if c.sqe.opc = 0x05 then
    s.complete c (if ((c.got.take c.nlb).zip (s.plain c n (c.got.drop c.nlb))).all fun x => x.1.1 == x.2.1 && (n.lbaf == 0 || x.1.2 == x.2.2)
      then .success else .compareFailure)
  else s.complete c .success

/-- The metadata of some block of a command is lost (R48). -/
def State.anyMetaLost (s : State) (c : Cmd) (n : Ns) : Bool := (List.range c.nlb).any fun k => s.metaLost n (c.lba + k)

/-- A command whose blocks may complete: what READ_COMPLETION finds in it. -/
structure State.Reading (s : State) (r : CmdRef) (c : Cmd) (n : Ns) : Prop where
  cmd : s.cmd? r = some c
  ns : s.nsAt c.nsix = some n
  phase : c.phase = .reading
  room : s.cqRoom r = true
  noFlush : s.hld.flush = .none

theorem State.Reading.exec (h : s.Reading r c n) (pi : PiCheck) : exec (.readCompletion r pi) s = .next (
    if c.blocks = c.nlb then
      if s.dataSpoiled c ∧ c.sqe.opc = 0x02 ∧ c.reread = false then s.readAgain c
      else if s.dataSpoiled c = true ∨ s.anyMetaLost c n = true then (s.countHealth c.nsix 2 1).complete c .unrecoveredRead
      else if c.status ≠ .success then (s.countHealth c.nsix 2 1).complete c c.status
      else if pi ≠ .ok then (s.piFailed c n).complete c (piStatus pi)
      else s.readEnds r c n
    else s) := by
  have hexec : Machine.exec (.readCompletion r pi) s = execReadCompletion r pi s := rfl
  rw [hexec, execReadCompletion]
  simp only [h.cmd, h.ns, h.phase, h.room, h.noFlush, true_and, and_true]
  simp only [next_ite, State.readEnds]
  by_cases hopc : c.sqe.opc = 0x05
  · simp only [hopc, if_true]; rfl
  · simp only [hopc, if_false]; rfl

theorem State.Reading.exec_spoiled (h : s.Reading r c n) (pi : PiCheck) (hall : c.blocks = c.nlb) (hspoiled : s.dataSpoiled c = true) :
    (c.sqe.opc = 0x02 → c.reread = false → Machine.exec (.readCompletion r pi) s = .next (s.readAgain c)) ∧
    (c.sqe.opc ≠ 0x02 ∨ c.reread = true →
      Machine.exec (.readCompletion r pi) s = .next ((s.countHealth c.nsix 2 1).complete c .unrecoveredRead)) := by
  refine ⟨fun hopc hre => ?_, fun hno => ?_⟩
  · rw [h.exec, if_pos hall, if_pos ⟨hspoiled, hopc, hre⟩]
  · have hnot : ¬ (s.dataSpoiled c = true ∧ c.sqe.opc = 0x02 ∧ c.reread = false) := fun hc => hno.elim (fun h => h hc.2.1) (fun h => by simp [h] at hc)
    rw [h.exec, if_pos hall, if_neg hnot, if_pos (.inl hspoiled)]

theorem State.Reading.exec_sound (h : s.Reading r c n) (pi : PiCheck) (hall : c.blocks = c.nlb) (hsound : s.dataSpoiled c = false) :
    (s.anyMetaLost c n = true → Machine.exec (.readCompletion r pi) s = .next ((s.countHealth c.nsix 2 1).complete c .unrecoveredRead)) ∧
    (s.anyMetaLost c n = false →
      (c.status ≠ .success → Machine.exec (.readCompletion r pi) s = .next ((s.countHealth c.nsix 2 1).complete c c.status)) ∧
      (c.status = .success → pi ≠ .ok → Machine.exec (.readCompletion r pi) s = .next ((s.piFailed c n).complete c (piStatus pi))) ∧
      (c.status = .success → pi = .ok → Machine.exec (.readCompletion r pi) s = .next (s.readEnds r c n))) := by
  have hnot : ¬ (s.dataSpoiled c = true ∧ c.sqe.opc = 0x02 ∧ c.reread = false) := by simp [hsound]
  refine ⟨fun hm => ?_, fun hm => ?_⟩
  · rw [h.exec, if_pos hall, if_neg hnot, if_pos (.inr hm)]
  · have hno : ¬ (s.dataSpoiled c = true ∨ s.anyMetaLost c n = true) := by simp [hsound, hm]
    have hrest := h.exec pi
    rw [if_pos hall, if_neg hnot, if_neg hno] at hrest
    refine ⟨fun hst => ?_, fun hst hpi => ?_, fun hst hpi => ?_⟩
    · rw [hrest, if_pos hst]
    · rw [hrest, if_neg (not_not.mpr hst), if_pos hpi]
    · rw [hrest, if_neg (not_not.mpr hst), if_neg (not_not.mpr hpi)]

theorem State.readEnds_compare (hopc : c.sqe.opc = 0x05) (hlbaf : n.lbaf = 0) : s.readEnds r c n = s.complete c
    (if ((c.got.take c.nlb).zip (s.plain c n (c.got.drop c.nlb))).all (fun x => x.1.1 == x.2.1) then .success else .compareFailure) := by
  rw [State.readEnds, if_neg (by omega), if_pos hopc]
  simp only [hlbaf, beq_self_eq_true, Bool.true_or, Bool.and_true]

end

/-- Settles O46. -/
theorem hostReads : Obligations.HostReads := by
  refine ⟨fun r c n op opc s hop hc hn hq hopc hph hroom => ?_, fun c n s hc hone => ?_, fun r c i s hc hopc => State.cmd?_giveUnit hc hopc 0 i,
    fun r c n pi s hc hn hph hroom hf => ?_⟩
  · rw [exec_lookup hop hc hn hq hopc hph hroom]
    refine ⟨fun _ hcmp hblocks => if_neg fun h => hblocks (h.1 hcmp), fun hf hready => ?_, fun hf => if_neg fun h => hf h.2⟩
    rw [if_pos ⟨hready, hf⟩]
    exact ⟨fun h => if_pos h, fun h => if_neg (by rw [h]; decide)⟩
  · refine ⟨s.setCmd c.ref Cmd.readStarted, (State.setCmd_same0 s _ _).onlyChanges_of_covers rfl,
      by rw [State.cmd?_setCmd (f := Cmd.readStarted) hc rfl, Cmd.readStarted_one hone], ?_⟩
    rw [State.startReads_one hone]
    exact ⟨fun x h => by rw [h]; rfl, fun h => by rw [h]; rfl, fun h => by rw [h]; rfl, fun id row d lo hi h => by rw [h]; rfl⟩
  · have h : s.Reading r c n := ⟨hc, hn, hph, hroom, hf⟩
    refine ⟨fun hne => by rw [h.exec, if_neg hne], fun hall => h.exec_spoiled pi hall, fun hall hs => (h.exec_sound pi hall hs).1, fun hall hs hm => ?_⟩
    obtain ⟨hst, hpi, hok⟩ := (h.exec_sound pi hall hs).2 hm
    refine ⟨hst, hpi, fun h1 h2 => ⟨fun hopc => ?_, fun hopc hlbaf => ?_, fun hread hcmp => ?_⟩⟩
    · exact ⟨s.readSent r c n, by rw [hok h1 h2, State.readEnds, if_pos hopc], s.readSent_spec r c n⟩
    · rw [hok h1 h2, State.readEnds_compare hopc hlbaf]; rfl
    · rw [hok h1 h2, State.readEnds, if_neg hread, if_neg hcmp]

end Sys2Proof.Machine

/-! SUPPORT: Report Zones and Get LBA Status (R175, R176, R193): O47. The layout of the zone and of the block descriptors is log entry 36, presumed. -/
namespace Sys2Proof.Machine
open Sys2Proof

/-! ### Records of 64-bit fields -/

theorem ofBytes_toBytes_of_lt {v : Nat} (h : v < 2 ^ 64) : ofBytes (toBytes 8 v) = v := by
  rw [ofBytes_toBytes]
  exact Nat.mod_eq_of_lt h

/-- The first four fields of a record of 64-bit fields, each read back at its own offset. -/
theorem fields_of_words (a b c d : Nat) (rest : List Byte) (l : List Byte)
    (hl : l = toBytes 8 a ++ toBytes 8 b ++ toBytes 8 c ++ toBytes 8 d ++ rest) :
    l.take 8 = toBytes 8 a ∧ (l.drop 8).take 8 = toBytes 8 b ∧ (l.drop 16).take 8 = toBytes 8 c ∧ (l.drop 24).take 8 = toBytes 8 d := by
  subst hl
  have past : ∀ {k} v, 8 ≤ k → (toBytes 8 v).drop k = [] := fun v hk => List.drop_eq_nil_of_le (by rw [toBytes_length]; exact hk)
  simp [List.drop_append, past]

/-! ### The descriptor of a zone (log entry 36) -/

/-- The write pointer that a zone's descriptor gives: all ones where the zone has none. -/
def Zone.reportedWp (d : Zone) (z : Nat) : Nat :=
  match d.zs with
  | .full => 2 ^ 64 - 1
  | .readOnly => 2 ^ 64 - 1
  | .offline => 2 ^ 64 - 1
  | _ => 262144 * z + d.wpoff

theorem Zone.reportedWp_none {d : Zone} (z : Nat) (h : d.zs = .full ∨ d.zs = .readOnly ∨ d.zs = .offline) : d.reportedWp z = 2 ^ 64 - 1 := by
  rcases h with h | h | h <;> rw [Zone.reportedWp, h]

theorem Zone.reportedWp_some {d : Zone} (z : Nat) (hf : d.zs ≠ .full) (hr : d.zs ≠ .readOnly) (ho : d.zs ≠ .offline) :
    d.reportedWp z = 262144 * z + d.wpoff := by
  unfold Zone.reportedWp
  cases hz : d.zs with
  | full => exact absurd hz hf
  | readOnly => exact absurd hz hr
  | offline => exact absurd hz ho
  | _ => rfl

theorem ZState.code_le (z : ZState) : z.code ≤ 15 := by cases z <;> decide

theorem b2n_le (b : Bool) : b2n b ≤ 1 := by cases b <;> decide

section
variable (s : State) (e z : Nat) (d : Zone)

theorem State.zoneDesc_eq : s.zoneDesc e z d =
    toBytes 8 (2 + 2 ^ 8 * (16 * d.zs.code) + 2 ^ 16 * (4 * b2n (s.zoneBenched e))) ++ toBytes 8 d.zcap ++ toBytes 8 (262144 * z) ++
      toBytes 8 (d.reportedWp z) ++ toBytes 32 0 := by
  unfold State.zoneDesc Zone.reportedWp
  cases d.zs <;> rfl

theorem State.zoneDesc_spec : (s.zoneDesc e z d).length = 64 ∧
    ofBytes ((s.zoneDesc e z d).take 8) = 2 + 2 ^ 8 * (16 * d.zs.code) + 2 ^ 16 * (4 * b2n (s.zoneBenched e)) ∧
    (d.zcap < 2 ^ 64 → ofBytes (((s.zoneDesc e z d).drop 8).take 8) = d.zcap) ∧
    (z < 2 ^ 40 → ofBytes (((s.zoneDesc e z d).drop 16).take 8) = 262144 * z) ∧
    (d.zs = .full ∨ d.zs = .readOnly ∨ d.zs = .offline → ofBytes (((s.zoneDesc e z d).drop 24).take 8) = 2 ^ 64 - 1) ∧
    (d.zs ≠ .full → d.zs ≠ .readOnly → d.zs ≠ .offline → z < 2 ^ 40 → d.wpoff ≤ 262144 →
      ofBytes (((s.zoneDesc e z d).drop 24).take 8) = 262144 * z + d.wpoff) := by
  have hcode := d.zs.code_le
  have hbench := b2n_le (s.zoneBenched e)
  obtain ⟨htype, hcap, hstart, hwp⟩ := fields_of_words _ _ _ _ _ _ (s.zoneDesc_eq e z d)
  rw [htype, hcap, hstart, hwp]
  refine ⟨?_, ofBytes_toBytes_of_lt (by omega), ofBytes_toBytes_of_lt, fun hz => ofBytes_toBytes_of_lt (by omega), fun hno => ?_, fun hf hr ho hz hw => ?_⟩
  · rw [s.zoneDesc_eq]
    simp only [List.length_append, toBytes_length]
  · rw [Zone.reportedWp_none z hno]
    exact ofBytes_toBytes_of_lt (by omega)
  · rw [Zone.reportedWp_some z hf hr ho]
    exact ofBytes_toBytes_of_lt (by omega)

end

section
variable {r : CmdRef} {c : Cmd} {n : Ns} {s : State}

/-! ### Report Zones (R175, R176) -/

/-- The descriptors of the zones that a report takes. -/
def State.reportedZones (s : State) (c : Cmd) (n : Ns) (opt : Nat) : List (List Byte) :=
  (List.range (n.zones - c.sqe.slba / 262144)).filterMap fun i => (n.entryOf (c.sqe.slba / 262144 + i)).bind fun e =>
    (s.zone? e).bind fun d => if reportTakes opt d.zs then some (s.zoneDesc e (c.sqe.slba / 262144 + i) d) else none

theorem exec_zoneManagementReceive (h : s.mayRun r c false 0x7A) (hn : s.nsAt c.nsix = some n) {zs : List (List Byte)} {opt : Nat}
    (hopt : opt = bits c.sqe.cdw13 15 8) (hzs : zs = s.reportedZones c n opt) : exec (.zoneManagementReceive r) s = .next (
      if bits c.sqe.cdw13 7 0 ≠ 0 ∨ 7 < opt then s.complete c .invalidField
      else s.completeBytes c ((toBytes 8 (if c.sqe.cdw13.testBit 16 then (zs.take ((4 * (c.sqe.cdw12 + 1) - 64) / 64)).length else zs.length) ++
        toBytes 56 0 ++ (zs.take ((4 * (c.sqe.cdw12 + 1) - 64) / 64)).flatten).take (4 * (c.sqe.cdw12 + 1)))) := by
  subst hopt hzs
  have hexec : exec (.zoneManagementReceive r) s = execZoneManagementReceive r s := rfl
  rw [hexec, execZoneManagementReceive, h.eq]
  simp only [hn]
  rfl

/-! ### Get LBA Status (R193) -/

/-- The runs of unmapped and of lost blocks that Get LBA Status looks at. -/
def State.lbaRuns (s : State) (c : Cmd) (n : Ns) : List (Nat × Nat × Nat) :=
  (stateRuns (s.lbaState c.nsix) c.sqe.slba (if c.sqe.cdw13 % 65536 = 0 then n.nsze - c.sqe.slba
    else min (c.sqe.cdw13 % 65536) (n.nsze - c.sqe.slba))).filter (fun x => x.2.2 != 0)

/-- The LBA Status Descriptor of a run (log entry 36). -/
def lbaDesc (x : Nat × Nat × Nat) : List Byte :=
  toBytes 8 x.1 ++ toBytes 4 (x.2.1 - 1) ++ toBytes 1 0 ++ toBytes 1 (if x.2.2 = 2 then 1 else 0) ++ toBytes 2 0

/-- The bytes that Get LBA Status answers of some runs, for a buffer of `bytes`. -/
def lbaAnswer (runs : List (Nat × Nat × Nat)) (bytes : Nat) : List Byte :=
  (toBytes 4 (runs.take ((bytes - 8) / 16)).length ++ toBytes 4 (if decide ((runs.take ((bytes - 8) / 16)).length = runs.length) then 2 else 1) ++
    ((runs.take ((bytes - 8) / 16)).map lbaDesc).flatten).take bytes

theorem lbaDesc_length (x : Nat × Nat × Nat) : (lbaDesc x).length = 16 := by simp [lbaDesc]

/-- Where every run fits, the answer holds all of them and says so. -/
theorem lbaAnswer_of_fits {runs : List (Nat × Nat × Nat)} {bytes : Nat} (h : 8 + 16 * runs.length ≤ bytes) :
    lbaAnswer runs bytes = toBytes 4 runs.length ++ toBytes 4 2 ++ (runs.map lbaDesc).flatten := by
  have hfit : runs.take ((bytes - 8) / 16) = runs := List.take_of_length_le (by omega)
  have hdesc : (runs.map lbaDesc).flatten.length = 16 * runs.length := by
    rw [List.length_flatten, List.map_map, List.map_congr_left (f := List.length ∘ lbaDesc) (g := fun _ => 16) (fun x _ => lbaDesc_length x)]
    simp [Nat.mul_comm]
  rw [lbaAnswer, hfit, decide_eq_true rfl, if_pos rfl]
  exact List.take_of_length_le (by simp only [List.length_append, toBytes_length, hdesc]; omega)

theorem exec_getLbaStatus (h : s.mayRun r c true 0x86) (hn : s.nsAt c.nsix = some n) : exec (.getLbaStatus r) s = .next (
    if n.kind = .zoned then s.complete c .invalidOpcode
    else if n.nsze ≤ c.sqe.slba then s.complete c .lbaOutOfRange
    else s.completeBytes c (lbaAnswer (s.lbaRuns c n) (4 * (c.sqe.cdw12 + 1)))) := by
  have hexec : exec (.getLbaStatus r) s = execGetLbaStatus r s := rfl
  rw [hexec, execGetLbaStatus, h.eq]
  simp only [hn]
  rfl

theorem getLbaStatus_spec (h : s.mayRun r c true 0x86) (hn : s.nsAt c.nsix = some n) :
    (n.kind = .zoned → exec (.getLbaStatus r) s = .next (s.complete c .invalidOpcode)) ∧
    (n.kind ≠ .zoned → n.nsze ≤ c.sqe.slba → exec (.getLbaStatus r) s = .next (s.complete c .lbaOutOfRange)) ∧
    (n.kind ≠ .zoned → c.sqe.slba < n.nsze →
      exec (.getLbaStatus r) s = .next (s.completeBytes c (lbaAnswer (s.lbaRuns c n) (4 * (c.sqe.cdw12 + 1))))) := by
  refine ⟨fun hk => ?_, fun hk hpast => ?_, fun hk hin => ?_⟩
  · rw [exec_getLbaStatus h hn, if_pos hk]
  · rw [exec_getLbaStatus h hn, if_neg hk, if_pos hpast]
  · rw [exec_getLbaStatus h hn, if_neg hk, if_neg (Nat.not_le.mpr hin)]

theorem State.lbaState_of_dram {nsix lba : Nat} (h : (s.dramUnit nsix lba).isSome = true) : s.lbaState nsix lba = 0 := if_pos h

theorem State.lbaState_of_unmapped {nsix lba : Nat} (hd : s.dramUnit nsix lba = none) (hm : s.zon.map.get? (lbaKey nsix lba) = none) :
    s.lbaState nsix lba = 1 := by
  simp [State.lbaState, hd, hm]

end

/-- Settles O47. -/
theorem reportsOfZonesAndBlocks : Obligations.ReportsOfZonesAndBlocks := by
  refine ⟨fun r c n s h hn => ⟨fun hbad => ?_, fun opt zs hopt hact hle hzs => ⟨fun hpart => ?_, fun hpart => ?_⟩⟩, fun e z d s => s.zoneDesc_spec e z d,
    fun r c n s h hn => ?_, fun nsix lba s => State.lbaState_of_dram, fun nsix lba s => State.lbaState_of_unmapped⟩
  · rw [exec_zoneManagementReceive h hn rfl rfl, if_pos hbad]
  · rw [exec_zoneManagementReceive h hn hopt hzs, if_neg (by omega), hpart]; rfl
  · rw [exec_zoneManagementReceive h hn hopt hzs, if_neg (by omega), hpart]; rfl
  · obtain ⟨hzoned, hpast, hruns⟩ := getLbaStatus_spec h hn
    exact ⟨hzoned, hpast, fun hk hin => ⟨s.lbaRuns c n, _, hruns hk hin, List.length_take_le _ _, rfl, lbaAnswer_of_fits⟩⟩

end Sys2Proof.Machine

/-! SUPPORT: Namespace Management and Attachment (R195, R199, R534, R535, R538, R568, R570, R571): O48. The order of the checks and the time of the
change are log entries 51, 53 and 55, the model's choice. -/
namespace Sys2Proof.Machine
open Sys2Proof

section
variable {r : CmdRef} {c : Cmd} {s : State}

/-! ### A command that waits for the vault's store (R538) -/

/-- A command put in the background behind a write of the vault's store. -/
def State.storing (s : State) (r : CmdRef) : State := (s.setCmd r fun c => { c with phase := .background }).storeWrite

theorem State.storing_spec (hc : s.cmd? r = some c) : OnlyChanges [.host, .sec] s (s.storing r) ∧
    (s.storing r).cmd? r = some { c with phase := .background } ∧ (s.storing r).sec.writes = s.sec.writes + 1 := by
  refine ⟨Same.onlyChanges_of_covers (m := 32776) (by simp [State.storing]) rfl, ?_, rfl⟩
  exact (State.cmd?_setCmd (f := fun c => { c with phase := .background }) hc rfl : _)

section
variable {opc : Nat} {waits : Cmd → Bool} {plan : Cmd → Except Status (State × Nat)} (hc : s.cmd? r = some c) (hopc : c.sqe.opc = opc)
  (hq : c.ref.qid = 0) (hroom : s.cqRoom r = true)
include hc hopc hq hroom

theorem State.runStored_ready (hph : c.phase = .ready) :
    (∀ st, plan c = .error st → s.runStored r opc waits plan = .next (s.complete c st)) ∧
    (∀ x, plan c = .ok x → ∃ u, s.runStored r opc waits plan = .next u ∧ OnlyChanges [.host, .sec] s u ∧
      u.cmd? r = some { c with phase := .background } ∧ u.sec.writes = s.sec.writes + 1) := by
  unfold State.runStored
  simp only [hc, hopc, hq, hroom, hph, and_self, if_true]
  exact ⟨fun st h => by rw [h], fun x h => ⟨s.storing r, by rw [h]; rfl, State.storing_spec hc⟩⟩

theorem State.runStored_background (hph : c.phase = .background) :
    (waits c = true ∨ 0 < s.sec.writes → s.runStored r opc waits plan = .next s) ∧
    (waits c = false → s.sec.writes = 0 →
      (∀ st, plan c = .error st → s.runStored r opc waits plan = .next (s.complete c st)) ∧
      (∀ t d, plan c = .ok (t, d) → s.runStored r opc waits plan = .next (t.complete c .success d))) := by
  unfold State.runStored
  simp only [hc, hopc, hq, hroom, hph, and_self, if_true]
  refine ⟨fun h => if_pos (by simpa using h), fun hw hz => ?_⟩
  rw [if_neg (by simp [hw, hz])]
  exact ⟨fun st h => by rw [h], fun t d h => by rw [h]⟩

end

/-! ### What a delete checks (R195, R571) -/

theorem State.targets_one {t nsid : Nat} {x : Nat × Ns} (hid : nsid ≠ 0xFFFFFFFF) (hx : s.nsOf? nsid = some x) :
    s.targets t nsid = if mayErase t x.2.owner then .ok [x] else .error .tenantScope := by
  rw [State.targets, if_neg hid, hx]

theorem State.txnIsOpen_of_idle (h : s.win.txn.state = 0) : s.txnIsOpen = false := by simp [State.txnIsOpen, h]

theorem State.txnIsOpen_of_open (h : s.win.txn.state ≠ 0) : s.txnIsOpen = true := by simp [State.txnIsOpen, h]

theorem State.planNamespace_delete {x : Nat × Ns} (htxn : s.win.txn.state = 0) (hsel : c.sqe.cdw10 % 16 = 1) (hid : c.sqe.nsid ≠ 0xFFFFFFFF)
    (hx : s.nsOf? c.sqe.nsid = some x) : s.planNamespace c =
      if mayErase c.ref.fn x.2.owner = true then
        (if s.ringBound x.1 = true then .error .zoneCaptureBound else .ok (s.deleteNs x.1 0x0D x.2, 0))
      else .error .tenantScope := by
  rw [State.planNamespace, State.txnIsOpen_of_idle htxn, hsel, State.targets_one hid hx]
  cases mayErase c.ref.fn x.2.owner
  · rfl
  · simp

theorem State.planNamespace_spec (c : Cmd) (s : State) :
    (s.win.txn.state ≠ 0 → s.planNamespace c = .error .txnOpen) ∧
    (s.win.txn.state = 0 → 2 ≤ c.sqe.cdw10 % 16 → s.planNamespace c = .error .invalidField) ∧
    (∀ x, s.win.txn.state = 0 → c.sqe.cdw10 % 16 = 1 → c.sqe.nsid ≠ 0xFFFFFFFF → s.nsOf? c.sqe.nsid = some x →
      (mayErase c.ref.fn x.2.owner = false → s.planNamespace c = .error .tenantScope) ∧
      (mayErase c.ref.fn x.2.owner = true → s.ringBound x.1 = true → s.planNamespace c = .error .zoneCaptureBound) ∧
      (mayErase c.ref.fn x.2.owner = true → s.ringBound x.1 = false → s.planNamespace c = .ok (s.deleteNs x.1 0x0D x.2, 0))) := by
  refine ⟨fun htxn => ?_, fun htxn hsel => ?_, fun x htxn hsel hid hx => ?_⟩
  · rw [State.planNamespace, State.txnIsOpen_of_open htxn, if_pos rfl]
  · rw [State.planNamespace, State.txnIsOpen_of_idle htxn, if_neg Bool.false_ne_true, if_neg (by omega), if_neg (by omega)]
  · rw [State.planNamespace_delete htxn hsel hid hx]
    exact ⟨fun h => by rw [h]; rfl, fun h hb => by rw [h, hb]; rfl, fun h hb => by rw [h, hb]; rfl⟩

/-! ### What a create checks (R195, R570) -/

/-- A check that did not give its failure was passed. -/
theorem of_ite_eq {α : Type} {p : Prop} [Decidable p] {a b x : α} (h : (if p then a else b) = x) (ha : a ≠ x) : ¬ p ∧ b = x := by
  by_cases hp : p
  · exact absurd ((if_pos hp).symm.trans h) ha
  · exact ⟨hp, (if_neg hp).symm.trans h⟩

/-- What holds of a namespace whose create succeeded. -/
theorem State.create_ok {issuer csi d : Nat} {b : List Byte} {x : NewNs} {t : State} (hx : x = NewNs.parse b) (h : s.create issuer csi b = .ok (t, d)) :
    d = s.freeNsid ∧ x.ncap = x.nsze ∧ (csi = 0 ∨ csi = 2) ∧ (csi = 2 → x.nsze % 262144 = 0 ∧ x.nph = 0 ∧ (s.runsFor (x.nsze / 262144)).isSome = true) ∧
      (csi = 0 → x.nsze % 256 = 0 ∧ x.nph ≤ 16) ∧ formatOk x.lbaf x.pit x.pil = true ∧
      (x.named.getD issuer = issuer ∨ governs issuer (x.named.getD issuer) = true ∧ (s.tsec (x.named.getD issuer)).claimed = true) ∧
      (s.owned (x.named.getD issuer)).length < min 16 (s.tsec (x.named.getD issuer)).nsquota ∧
      (∃ ds, s.tenantDs (x.named.getD issuer) = some ds ∧ 18 ≤ s.dsSpan ds) := by
  unfold State.create at h
  dsimp only at h
  rw [← hx] at h
  obtain ⟨hscope, h⟩ := of_ite_eq h nofun
  obtain ⟨hquota, h⟩ := of_ite_eq h nofun
  cases hds : s.tenantDs (x.named.getD issuer) with
  | none => rw [hds] at h; cases h
  | some ds =>
    rw [hds] at h
    obtain ⟨hspan, h⟩ := of_ite_eq h nofun
    obtain ⟨hcsi, h⟩ := of_ite_eq h nofun
    obtain ⟨hsize, h⟩ := of_ite_eq h nofun
    obtain ⟨hform, h⟩ := of_ite_eq h nofun
    cases hruns : (if (csi == 2) = true then s.runsFor (x.nsze / 262144) else some []) with
    | none => rw [hruns] at h; cases h
    | some runs =>
      rw [hruns] at h
      obtain ⟨hhandles, h⟩ := of_ite_eq h nofun
      obtain ⟨hfits, h⟩ := of_ite_eq h nofun
      obtain ⟨hindex, h⟩ := of_ite_eq h nofun
      have hnsid : s.freeNsid = d := (Prod.mk.inj (Except.ok.inj h)).2
      simp only [beq_iff_eq, beq_eq_false_iff_ne] at hsize
      refine ⟨hnsid.symm, by omega, by omega, fun hz => ⟨by omega, by omega, ?_⟩, fun hp => ⟨by omega, by omega⟩, by simpa using hform, ?_,
        by omega, ds, rfl, by omega⟩
      · rw [hz, beq_self_eq_true, if_pos rfl] at hruns
        rw [hruns]; rfl
      · by_cases how : x.named.getD issuer = issuer
        · exact .inl how
        · exact .inr (by simpa [how] using hscope)

/-! ### Attachment (R199, R534, R535, R568) -/

theorem exec_namespaceAttachment (h : s.mayRun r c true 0x15) : exec (.namespaceAttachment r) s = .next (
    if s.txnIsOpen then s.complete c .txnOpen
    else match s.nsOf? c.sqe.nsid with
    | none => s.complete c .invalidNsOrFormat
    | some (k, n) =>
      if 1 < c.sqe.cdw10 % 16 then s.complete c .invalidField
      else if s.attachStatus r.fn n (c.sqe.cdw10 % 16 == 1) (controllerList c.sqe.data) = .success then
        ((controllerList c.sqe.data).foldl (fun s t => if c.sqe.cdw10 % 16 = 0 then s.attach k t else s.detach k t) s).complete c .success
      else s.complete c (s.attachStatus r.fn n (c.sqe.cdw10 % 16 == 1) (controllerList c.sqe.data))) := by
  have hexec : exec (.namespaceAttachment r) s = execNamespaceAttachment r s := rfl
  rw [hexec, execNamespaceAttachment, h.eq]
  dsimp only
  cases s.nsOf? c.sqe.nsid with
  | none => rfl
  | some x =>
    dsimp only
    generalize s.attachStatus r.fn x.2 (c.sqe.cdw10 % 16 == 1) (controllerList c.sqe.data) = st
    cases st <;> rfl

/-- What an attachment does on a namespace that is there, with no transaction open. -/
theorem namespaceAttachment_spec (h : s.mayRun r c true 0x15) {k : Nat} {n : Ns} {ids : List Nat} (htxn : s.txnIsOpen = false)
    (hn : s.nsOf? c.sqe.nsid = some (k, n)) (hids : ids = controllerList c.sqe.data) :
    (1 < c.sqe.cdw10 % 16 → exec (.namespaceAttachment r) s = .next (s.complete c .invalidField)) ∧
    (c.sqe.cdw10 % 16 = 0 → s.attachStatus r.fn n false ids = .success →
      exec (.namespaceAttachment r) s = .next ((ids.foldl (fun s t => s.attach k t) s).complete c .success)) ∧
    (c.sqe.cdw10 % 16 = 1 → s.attachStatus r.fn n true ids = .success →
      exec (.namespaceAttachment r) s = .next ((ids.foldl (fun s t => s.detach k t) s).complete c .success)) ∧
    (∀ st, c.sqe.cdw10 % 16 ≤ 1 → s.attachStatus r.fn n (c.sqe.cdw10 % 16 == 1) ids = st → st ≠ .success →
      exec (.namespaceAttachment r) s = .next (s.complete c st)) := by
  subst hids
  rw [exec_namespaceAttachment h, htxn, hn, if_neg Bool.false_ne_true]
  dsimp only
  refine ⟨fun hsel => by rw [if_pos hsel], fun hsel hst => ?_, fun hsel hst => ?_, fun st hsel hst hno => ?_⟩
  · rw [hsel, if_neg (by decide)]; exact congrArg _ (if_pos hst)
  · rw [hsel, if_neg (by decide)]; exact congrArg _ (if_pos hst)
  · rw [if_neg (Nat.not_lt.mpr hsel), hst, if_neg hno]

theorem State.attachStatus_attach {t : Nat} {n : Ns} {ids : List Nat} (h : s.attachStatus t n false ids = .success) :
    t = n.owner ∧ ids ≠ [] ∧ ∀ i ∈ ids, i < 1024 ∧ (i = n.owner ∨ s.partnerOf n.owner = some i) ∧ i ∉ n.attached := by
  unfold State.attachStatus at h
  obtain ⟨hlist, h⟩ := of_ite_eq h nofun
  rw [if_neg Bool.false_ne_true] at h
  have howner : t = n.owner := by
    by_contra hne
    rw [if_pos hne] at h
    exact absurd (of_ite_eq h nofun).2 nofun
  rw [if_neg (not_not.mpr howner)] at h
  dsimp only at h
  cases hbad : ids.filter fun i => i != n.owner && s.partnerOf n.owner != some i with
  | cons i rest =>
    rw [hbad] at h
    exact absurd (of_ite_eq h nofun).2 nofun
  | nil =>
    rw [hbad] at h
    obtain ⟨hnone, -⟩ := of_ite_eq h nofun
    simp only [Bool.or_eq_true, List.isEmpty_iff, List.any_eq_true, decide_eq_true_eq, not_or, not_exists, not_and, Nat.not_le] at hlist
    simp only [List.filter_eq_nil_iff, Bool.and_eq_true, bne_iff_ne, ne_eq] at hbad
    simp only [List.any_eq_true, Ns.attachedTo, List.contains_iff_mem, not_exists, not_and] at hnone
    refine ⟨howner, hlist.1, fun i hi => ⟨hlist.2 i hi, ?_, hnone i hi⟩⟩
    by_contra hno
    exact hbad i hi (not_or.mp hno)

theorem State.attachStatus_detach {t : Nat} {n : Ns} {ids : List Nat} (h : s.attachStatus t n true ids = .success) :
    mayErase t n.owner = true ∧ ids ≠ [] ∧ ∀ i ∈ ids, i < 1024 ∧ i ∈ n.attached := by
  unfold State.attachStatus at h
  obtain ⟨hlist, h⟩ := of_ite_eq h nofun
  rw [if_pos rfl] at h
  obtain ⟨hscope, h⟩ := of_ite_eq h nofun
  have hall : ids.all n.attachedTo = true := by
    by_contra hno
    rw [if_neg hno] at h
    exact absurd h nofun
  simp only [Bool.or_eq_true, List.isEmpty_iff, List.any_eq_true, decide_eq_true_eq, not_or, not_exists, not_and, Nat.not_le] at hlist
  simp only [List.all_eq_true, Ns.attachedTo, List.contains_iff_mem] at hall
  exact ⟨by simpa using hscope, hlist.1, fun i hi => ⟨hlist.2 i hi, hall i hi⟩⟩

end

theorem exec_namespaceManagement {r : CmdRef} {s : State} (h : s.manyCsns = true) :
    exec (.namespaceManagement r) s = s.runStored r 0x0D (fun c => c.sqe.cdw10 % 16 == 1 && s.eraseWaits c) s.planNamespace := if_pos h

/-- Settles O48. -/
theorem namespaceManagement : Obligations.NamespaceManagement := by
  refine ⟨fun r c s hc hopc hq hroom hcsn => ?_, fun c s => s.planNamespace_spec c, fun issuer csi d b x s t hx => State.create_ok hx,
    fun r c s h => ⟨fun htxn => ?_, fun htxn hn => ?_, fun k n ids => namespaceAttachment_spec h⟩,
    fun t n ids s => ⟨State.attachStatus_attach, State.attachStatus_detach⟩⟩
  · rw [exec_namespaceManagement hcsn]
    refine ⟨State.runStored_ready hc hopc hq hroom, fun hph => ?_⟩
    obtain ⟨hwait, hgo⟩ := State.runStored_background hc hopc hq hroom (waits := fun c => c.sqe.cdw10 % 16 == 1 && s.eraseWaits c)
      (plan := s.planNamespace) hph
    refine ⟨fun h => hwait (h.symm.imp (fun h => by simp [h.1, h.2]) id), fun hz hno => hgo ?_ hz⟩
    by_cases hsel : c.sqe.cdw10 % 16 = 1
    · simp [hno hsel]
    · simp [hsel]
  · rw [exec_namespaceAttachment h, if_pos htxn]
  · rw [exec_namespaceAttachment h, htxn, hn]; rfl

end Sys2Proof.Machine

/-! SUPPORT: Format NVM and Sanitize (R87, R88, R104, R535, R538, R571): O49. What they wait for and refuse is log entries 22, 54 and 55, the model's
choice. -/
namespace Sys2Proof.Machine
open Sys2Proof

theorem formatOk_iff (lbaf pit pil : Nat) : formatOk lbaf pit pil = true ↔ lbaf ≤ 3 ∧ pit ≤ 3 ∧ pil = 0 ∧ (pit = 0 ∨ lbaf ≠ 0) := by
  simp [formatOk, and_assoc]

section
variable {r : CmdRef} {c : Cmd} {s : State}

/-! ### Format NVM (R571) -/

theorem exec_formatNvm (h : s.manyCsns = true) : exec (.formatNvm r) s = s.runStored r 0x80 s.eraseWaits s.planFormat := if_pos h

/-- The end of a format's checks: the namespaces reformatted, or not. -/
def reformatted : Option State → Except Status (State × Nat)
  | some t => .ok (t, 0)
  | none => .error .nsInsufficientCapacity

/-- The checks of a format of one namespace, in their order. -/
theorem State.planFormat_one {x : Nat × Ns} (htxn : s.win.txn.state = 0) (hses : bits c.sqe.cdw10 11 9 ≤ 2)
    (hform : formatOk (c.sqe.cdw10 % 16 + 16 * bits c.sqe.cdw10 13 12) (bits c.sqe.cdw10 7 5) (bits c.sqe.cdw10 8 8) = true)
    (hid : c.sqe.nsid ≠ 0xFFFFFFFF) (hx : s.nsOf? c.sqe.nsid = some x) : s.planFormat c =
      if mayErase c.ref.fn x.2.owner = true then
        (if s.ringBound x.1 = true then .error .zoneCaptureBound
        else reformatted (s.reformat x.1 (c.sqe.cdw10 % 16 + 16 * bits c.sqe.cdw10 13 12) (bits c.sqe.cdw10 7 5) (c.sqe.cdw10.testBit 4) x.2))
      else .error .tenantScope := by
  rw [State.planFormat, State.txnIsOpen_of_idle htxn, if_neg Bool.false_ne_true, if_neg (Nat.not_lt.mpr hses), hform, Bool.not_true,
    if_neg Bool.false_ne_true, State.targets_one hid hx]
  by_cases hscope : mayErase c.ref.fn x.2.owner = true
  · rw [if_pos hscope, if_pos hscope]
    simp only [List.any_cons, List.any_nil, Bool.or_false, List.foldl_cons, List.foldl_nil, Option.bind_some]
    generalize s.reformat x.1 (c.sqe.cdw10 % 16 + 16 * bits c.sqe.cdw10 13 12) (bits c.sqe.cdw10 7 5) (c.sqe.cdw10.testBit 4) x.2 = k
    cases k <;> rfl
  · rw [if_neg hscope, if_neg hscope]

theorem State.planFormat_spec {lbaf pit : Nat} (hlbaf : lbaf = c.sqe.cdw10 % 16 + 16 * bits c.sqe.cdw10 13 12) (hpit : pit = bits c.sqe.cdw10 7 5) :
    (s.win.txn.state ≠ 0 → s.planFormat c = .error .txnOpen) ∧
    (s.win.txn.state = 0 →
      (2 < bits c.sqe.cdw10 11 9 → s.planFormat c = .error .invalidField) ∧
      (bits c.sqe.cdw10 11 9 ≤ 2 →
        (formatOk lbaf pit (bits c.sqe.cdw10 8 8) = false → s.planFormat c = .error .invalidFormat) ∧
        (∀ x, formatOk lbaf pit (bits c.sqe.cdw10 8 8) = true → c.sqe.nsid ≠ 0xFFFFFFFF → s.nsOf? c.sqe.nsid = some x →
          (mayErase c.ref.fn x.2.owner = false → s.planFormat c = .error .tenantScope) ∧
          (mayErase c.ref.fn x.2.owner = true → s.ringBound x.1 = true → s.planFormat c = .error .zoneCaptureBound) ∧
          (mayErase c.ref.fn x.2.owner = true → s.ringBound x.1 = false →
            (s.reformat x.1 lbaf pit (c.sqe.cdw10.testBit 4) x.2 = none → s.planFormat c = .error .nsInsufficientCapacity) ∧
            (∀ t, s.reformat x.1 lbaf pit (c.sqe.cdw10.testBit 4) x.2 = some t → s.planFormat c = .ok (t, 0)))))) := by
  subst hlbaf hpit
  refine ⟨fun htxn => ?_, fun htxn => ⟨fun hses => ?_, fun hses => ⟨fun hform => ?_, fun x hform hid hx => ?_⟩⟩⟩
  · rw [State.planFormat, State.txnIsOpen_of_open htxn, if_pos rfl]
  · rw [State.planFormat, State.txnIsOpen_of_idle htxn, if_neg Bool.false_ne_true, if_pos hses]
  · rw [State.planFormat, State.txnIsOpen_of_idle htxn, if_neg Bool.false_ne_true, if_neg (Nat.not_lt.mpr hses), hform, Bool.not_false, if_pos rfl]
  · rw [State.planFormat_one htxn hses hform hid hx]
    exact ⟨fun h => by rw [h]; rfl, fun h hb => by rw [h, hb]; rfl,
      fun h hb => ⟨fun hno => by rw [h, hb, hno]; rfl, fun t ht => by rw [h, hb, ht]; rfl⟩⟩

/-! ### Sanitize (R104, R571) -/

/-- Some namespace in a sanitize's reach is bound to a capture ring. -/
def State.sanitizeBound (s : State) (r : CmdRef) : Bool := (s.sanitized r.fn).any fun x => s.ringBound x.1

theorem State.sanitizeBound_true (h : ∃ x ∈ s.sanitized r.fn, s.ringBound x.1 = true) : s.sanitizeBound r = true := List.any_eq_true.mpr h

theorem State.sanitizeBound_false (h : ∀ x ∈ s.sanitized r.fn, s.ringBound x.1 = false) : s.sanitizeBound r = false :=
  List.any_eq_false.mpr fun x hx => by simp [h x hx]

/-- The state of a function whose sanitize is over. -/
def State.sanitizeOver (s : State) (r : CmdRef) : State := s.setFn r.fn fun f => { f with sanState := 1, sanBlocks := [] }

/-- A Sanitize that has room for its completion and the CSNs it needs. -/
structure State.Sanitizes (s : State) (r : CmdRef) (c : Cmd) : Prop where
  cmd : s.cmd? r = some c
  opc : c.sqe.opc = 0x84
  admin : c.ref.qid = 0
  room : s.cqRoom r = true
  csns : s.manyCsns = true

section
variable (h : s.Sanitizes r c)
include h

theorem State.Sanitizes.exec_ready (hph : c.phase = .ready) : Machine.exec (.sanitize r) s = .next (
    if s.txnIsOpen then s.complete c .txnOpen
    else if c.sqe.cdw10 % 8 = 1 then s.complete c .success
    else if c.sqe.cdw10 % 8 ≠ 2 ∧ c.sqe.cdw10 % 8 ≠ 4 then s.complete c .invalidField
    else if s.sanitizing r.fn then s.complete c .sanitizeInProgress
    else if s.sanitizeBound r then s.complete c .zoneCaptureBound
    else s.storing r) := by
  have hexec : Machine.exec (.sanitize r) s = execSanitize r s := rfl
  rw [hexec, execSanitize]
  simp only [h.cmd, h.opc, h.admin, h.room, h.csns, hph, and_self, if_true, next_ite]
  rfl

theorem State.Sanitizes.exec_background (hph : c.phase = .background) : Machine.exec (.sanitize r) s = .next (
    if (s.eraseWaits c || 0 < s.sec.writes) = true then s
    else if s.sanitizeBound r then s.complete c .zoneCaptureBound
    else (s.runSanitize c).setCmd r fun c => { c with phase := .sealing }) := by
  have hexec : Machine.exec (.sanitize r) s = execSanitize r s := rfl
  rw [hexec, execSanitize]
  simp only [h.cmd, h.opc, h.admin, h.room, h.csns, hph, and_self, if_true, next_ite]
  rfl

theorem State.Sanitizes.exec_sealing (hph : c.phase = .sealing) : Machine.exec (.sanitize r) s = .next (
    if s.sanitizing r.fn then s else (s.sanitizeOver r).complete c .success) := by
  have hexec : Machine.exec (.sanitize r) s = execSanitize r s := rfl
  rw [hexec, execSanitize]
  simp only [h.cmd, h.opc, h.admin, h.room, h.csns, hph, and_self, if_true, next_ite]
  rfl

/-- A block or crypto erase asked for with no transaction open is begun, unless another runs or a ring binds its reach. -/
theorem State.Sanitizes.ready_erase (hph : c.phase = .ready) (htxn : s.win.txn.state = 0) (hact : c.sqe.cdw10 % 8 = 2 ∨ c.sqe.cdw10 % 8 = 4) :
    (s.sanitizing r.fn = true → Machine.exec (.sanitize r) s = .next (s.complete c .sanitizeInProgress)) ∧
    (s.sanitizing r.fn = false → (∃ x ∈ s.sanitized r.fn, s.ringBound x.1 = true) → Machine.exec (.sanitize r) s = .next (s.complete c .zoneCaptureBound)) ∧
    (s.sanitizing r.fn = false → (∀ x ∈ s.sanitized r.fn, s.ringBound x.1 = false) → ∃ u, Machine.exec (.sanitize r) s = .next u ∧
      OnlyChanges [.host, .sec] s u ∧ u.cmd? r = some { c with phase := .background } ∧ u.sec.writes = s.sec.writes + 1) := by
  rw [h.exec_ready hph, State.txnIsOpen_of_idle htxn, if_neg Bool.false_ne_true, if_neg (by omega), if_neg (by omega)]
  refine ⟨fun hs => ?_, fun hs hb => ?_, fun hs hb => ⟨s.storing r, ?_, State.storing_spec h.cmd⟩⟩
  · rw [if_pos hs]
  · rw [hs, if_neg Bool.false_ne_true, if_pos (State.sanitizeBound_true hb)]
  · rw [hs, if_neg Bool.false_ne_true, State.sanitizeBound_false hb, if_neg Bool.false_ne_true]

theorem State.Sanitizes.ready_spec (hph : c.phase = .ready) :
    (s.win.txn.state ≠ 0 → Machine.exec (.sanitize r) s = .next (s.complete c .txnOpen)) ∧
    (s.win.txn.state = 0 →
      (c.sqe.cdw10 % 8 = 1 → Machine.exec (.sanitize r) s = .next (s.complete c .success)) ∧
      (c.sqe.cdw10 % 8 ≠ 1 → c.sqe.cdw10 % 8 ≠ 2 → c.sqe.cdw10 % 8 ≠ 4 → Machine.exec (.sanitize r) s = .next (s.complete c .invalidField)) ∧
      (c.sqe.cdw10 % 8 = 2 ∨ c.sqe.cdw10 % 8 = 4 →
        (s.sanitizing r.fn = true → Machine.exec (.sanitize r) s = .next (s.complete c .sanitizeInProgress)) ∧
        (s.sanitizing r.fn = false → (∃ x ∈ s.sanitized r.fn, s.ringBound x.1 = true) → Machine.exec (.sanitize r) s = .next (s.complete c .zoneCaptureBound)) ∧
        (s.sanitizing r.fn = false → (∀ x ∈ s.sanitized r.fn, s.ringBound x.1 = false) → ∃ u, Machine.exec (.sanitize r) s = .next u ∧
          OnlyChanges [.host, .sec] s u ∧ u.cmd? r = some { c with phase := .background } ∧ u.sec.writes = s.sec.writes + 1))) := by
  refine ⟨fun htxn => ?_, fun htxn => ⟨fun hact => ?_, fun h1 h2 h4 => ?_, h.ready_erase hph htxn⟩⟩
  · rw [h.exec_ready hph, State.txnIsOpen_of_open htxn, if_pos rfl]
  · rw [h.exec_ready hph, State.txnIsOpen_of_idle htxn, if_neg Bool.false_ne_true, if_pos hact]
  · rw [h.exec_ready hph, State.txnIsOpen_of_idle htxn, if_neg Bool.false_ne_true, if_neg h1, if_pos ⟨h2, h4⟩]

theorem State.Sanitizes.background_spec (hph : c.phase = .background) :
    (s.eraseWaits c = true ∨ 0 < s.sec.writes → Machine.exec (.sanitize r) s = .next s) ∧
    (s.eraseWaits c = false → s.sec.writes = 0 → (∀ x ∈ s.sanitized r.fn, s.ringBound x.1 = false) →
      Machine.exec (.sanitize r) s = .next ((s.runSanitize c).setCmd r fun c => { c with phase := .sealing }) ∧
      ((s.runSanitize c).fn c.ref.fn).sanState = 2 ∧ ((s.runSanitize c).fn c.ref.fn).sanCdw10 = c.sqe.cdw10) := by
  refine ⟨fun hw => ?_, fun hw hz hb => ⟨?_, ?_, ?_⟩⟩
  · rw [h.exec_background hph, if_pos (by simpa using hw)]
  · rw [h.exec_background hph, if_neg (by simp [hw, hz]), State.sanitizeBound_false hb, if_neg Bool.false_ne_true]
  · rw [State.runSanitize, State.fn_setFn_same]
  · rw [State.runSanitize, State.fn_setFn_same]

theorem State.Sanitizes.sealing_spec (hph : c.phase = .sealing) :
    (s.sanitizing r.fn = true → Machine.exec (.sanitize r) s = .next s) ∧
    (s.sanitizing r.fn = false → ∃ u : State, Machine.exec (.sanitize r) s = .next (u.complete c .success) ∧ OnlyChanges [.host] s u ∧
      u.fn r.fn = { s.fn r.fn with sanState := 1, sanBlocks := [] }) := by
  rw [h.exec_sealing hph]
  refine ⟨fun hs => by rw [if_pos hs], fun hs => ⟨s.sanitizeOver r, by rw [hs, if_neg Bool.false_ne_true], ?_, State.fn_setFn_same s _ _⟩⟩
  exact (State.setFn_same0 s _ _).onlyChanges_of_covers rfl

end

end

/-- Settles O49. -/
theorem formatAndSanitize : Obligations.FormatAndSanitize := by
  refine ⟨fun r c s hc hopc hq hroom hcsn => ?_, fun c lbaf pit s => State.planFormat_spec, formatOk_iff, fun r c s hc hopc hq hroom hcsn => ?_⟩
  · rw [exec_formatNvm hcsn]
    refine ⟨State.runStored_ready hc hopc hq hroom, fun hph => ?_⟩
    obtain ⟨hwait, hgo⟩ := State.runStored_background hc hopc hq hroom (waits := s.eraseWaits) (plan := s.planFormat) hph
    exact ⟨fun h => hwait h.symm, fun hz hw => hgo hw hz⟩
  · have h : s.Sanitizes r c := ⟨hc, hopc, hq, hroom, hcsn⟩
    exact ⟨h.ready_spec, h.background_spec, h.sealing_spec⟩

end Sys2Proof.Machine

/-! SUPPORT: device self-test, directives and virtualization management (R72, R79, R80, R480): O50. Their forms are log entries 28, 29 and 49, the
model's choice. -/
namespace Sys2Proof.Machine
open Sys2Proof

section
variable {r : CmdRef} {c : Cmd} {s : State}

/-! ### Device self-test (R480) -/

/-- The state of a function whose running self-test, if any, is aborted by command. -/
def State.testAborted (s : State) (t : Nat) : State :=
  (if (s.fn t).dst != 0 then s.releaseTest t else s).setFn t fun f => if f.dst = 0 then f else { f with dst := 0, dstResult := 16 * f.dst + 1 }

theorem State.testAborted_onlyChanges (s : State) (t : Nat) : OnlyChanges [.host, .ddk] s (s.testAborted t) :=
  Same.onlyChanges_of_covers (m := 8200) (by unfold State.testAborted; split <;> simp) rfl

theorem State.testAborted_fn (s : State) (t : Nat) :
    (s.testAborted t).fn t = if (s.fn t).dst = 0 then s.fn t else { s.fn t with dst := 0, dstResult := 16 * (s.fn t).dst + 1 } := by
  have hfn : (if (s.fn t).dst != 0 then s.releaseTest t else s).fn t = s.fn t := by split <;> rfl
  rw [State.testAborted, State.fn_setFn_same, hfn]

theorem exec_deviceSelfTest (h : s.mayRun r c true 0x14) : exec (.deviceSelfTest r) s = .next (
    if c.sqe.cdw10 % 16 = 1 ∨ c.sqe.cdw10 % 16 = 2 then
      (if (s.fn r.fn).dst != 0 then s.complete c .selfTestInProgress else (s.startTest r.fn (c.sqe.cdw10 % 16)).complete c .success)
    else if c.sqe.cdw10 % 16 = 15 then (s.testAborted r.fn).complete c .success
    else s.complete c .invalidField) := h.eq _

theorem deviceSelfTest_spec (h : s.mayRun r c true 0x14) {k : Nat} (hk : k = c.sqe.cdw10 % 16) :
    (k = 1 ∨ k = 2 →
      ((s.fn r.fn).dst ≠ 0 → exec (.deviceSelfTest r) s = .next (s.complete c .selfTestInProgress)) ∧
      ((s.fn r.fn).dst = 0 → exec (.deviceSelfTest r) s = .next ((s.startTest r.fn k).complete c .success))) ∧
    (k = 15 → ∃ u : State, exec (.deviceSelfTest r) s = .next (u.complete c .success) ∧ OnlyChanges [.host, .ddk] s u ∧
      ((s.fn r.fn).dst ≠ 0 → u.fn r.fn = { s.fn r.fn with dst := 0, dstResult := 16 * (s.fn r.fn).dst + 1 }) ∧
      ((s.fn r.fn).dst = 0 → u.fn r.fn = s.fn r.fn)) ∧
    (k ≠ 1 → k ≠ 2 → k ≠ 15 → exec (.deviceSelfTest r) s = .next (s.complete c .invalidField)) := by
  rw [exec_deviceSelfTest h, ← hk]
  refine ⟨fun hstart => ?_, fun hstop => ⟨s.testAborted r.fn, ?_, s.testAborted_onlyChanges _, fun hd => ?_, fun hd => ?_⟩, fun h1 h2 h15 => ?_⟩
  · rw [if_pos hstart]
    exact ⟨fun hd => by rw [if_pos (bne_iff_ne.mpr hd)], fun hd => by rw [if_neg (by simp [hd])]⟩
  · rw [if_neg (by omega), if_pos hstop]
  · rw [s.testAborted_fn, if_neg hd]
  · rw [s.testAborted_fn, if_pos hd]
  · rw [if_neg (not_or.mpr ⟨h1, h2⟩), if_neg h15]

/-! ### Directives -/

theorem exec_directiveSend (h : s.mayRun r c true 0x19) : exec (.directiveSend r) s = .next (
    match s.visible r.fn c.sqe.nsid false with
    | none => s.complete c .invalidNsOrFormat
    | some (_, n) =>
      if bits c.sqe.cdw11 15 8 = 0 ∧ bits c.sqe.cdw11 7 0 = 1 ∧ bits c.sqe.cdw12 15 8 = 2 ∧ c.sqe.cdw12.testBit 0 = true ∧ n.kind = .placement then
        s.complete c .success
      else s.complete c .invalidField) := h.eq _

theorem directiveSend_spec (h : s.mayRun r c true 0x19) {k : Nat} {n : Ns} (hn : s.visible r.fn c.sqe.nsid false = some (k, n)) :
    (bits c.sqe.cdw11 15 8 = 0 → bits c.sqe.cdw11 7 0 = 1 → bits c.sqe.cdw12 15 8 = 2 → c.sqe.cdw12.testBit 0 = true → n.kind = .placement →
      exec (.directiveSend r) s = .next (s.complete c .success)) ∧
    (bits c.sqe.cdw11 15 8 ≠ 0 ∨ bits c.sqe.cdw11 7 0 ≠ 1 ∨ bits c.sqe.cdw12 15 8 ≠ 2 ∨ c.sqe.cdw12.testBit 0 = false ∨ n.kind ≠ .placement →
      exec (.directiveSend r) s = .next (s.complete c .invalidField)) := by
  rw [exec_directiveSend h, hn]
  refine ⟨fun hop htype hdir hen hk => congrArg _ (if_pos ⟨hop, htype, hdir, hen, hk⟩), fun hbad => congrArg _ (if_neg ?_)⟩
  rintro ⟨hop, htype, hdir, hen, hk⟩
  simp [hop, htype, hdir, hen, hk] at hbad

theorem exec_directiveReceive (h : s.mayRun r c true 0x1A) : exec (.directiveReceive r) s = .next (
    match s.visible r.fn c.sqe.nsid false with
    | none => s.complete c .invalidNsOrFormat
    | some (_, n) =>
      if bits c.sqe.cdw11 15 8 = 0 ∧ bits c.sqe.cdw11 7 0 = 1 ∧ 4 * (c.sqe.cdw10 + 1) ≤ maxTransfer then
        s.completeBytes c (padTo (4 * (c.sqe.cdw10 + 1))
          (layAt 0 [(0, 1, if n.kind = .placement then 5 else 1), (32, 1, if n.kind = .placement then 5 else 1)] 4096))
      else s.complete c .invalidField) := h.eq _

theorem directiveReceive_spec (h : s.mayRun r c true 0x1A) {k : Nat} {n : Ns} (hn : s.visible r.fn c.sqe.nsid false = some (k, n)) :
    (bits c.sqe.cdw11 15 8 = 0 → bits c.sqe.cdw11 7 0 = 1 → 4 * (c.sqe.cdw10 + 1) ≤ maxTransfer →
      exec (.directiveReceive r) s = .next (s.completeBytes c (padTo (4 * (c.sqe.cdw10 + 1))
        (layAt 0 [(0, 1, if n.kind = .placement then 5 else 1), (32, 1, if n.kind = .placement then 5 else 1)] 4096)))) ∧
    (bits c.sqe.cdw11 15 8 ≠ 0 ∨ bits c.sqe.cdw11 7 0 ≠ 1 ∨ maxTransfer < 4 * (c.sqe.cdw10 + 1) →
      exec (.directiveReceive r) s = .next (s.complete c .invalidField)) := by
  rw [exec_directiveReceive h, hn]
  exact ⟨fun hop htype hlen => congrArg _ (if_pos ⟨hop, htype, hlen⟩), fun hbad => congrArg _ (if_neg (by omega))⟩

/-! ### Virtualization management (R79, R80) -/

/-- A number of flexible resources given to a function, where its limit and its share allow. -/
def State.giveFlex (s : State) (c : Cmd) (id kind n : Nat) : State :=
  if overLimit id (kind == 1) n then s.complete c .invalidField
  else match s.assignFlex id (kind == 1) n with
    | some s => s.complete c .success n
    | none => s.complete c .invalidResourceCount

theorem State.assignFlex_fn {id kind n : Nat} {t : State} (h : s.assignFlex id (kind == 1) n = some t) :
    t.fn id = if kind = 1 then { s.fn id with vi := n } else { s.fn id with vq := n } := by
  unfold State.assignFlex at h
  obtain ⟨-, h⟩ := Option.ite_none_right_eq_some.mp h
  rw [← Option.some.inj h, State.fn_setFn_same]
  simp only [beq_iff_eq]

theorem State.giveFlex_spec (s : State) (c : Cmd) (id kind n : Nat) : (overLimit id (kind == 1) n = true → s.giveFlex c id kind n = s.complete c .invalidField) ∧
    (overLimit id (kind == 1) n = false →
      (s.assignFlex id (kind == 1) n = none → s.giveFlex c id kind n = s.complete c .invalidResourceCount) ∧
      (∀ t, s.assignFlex id (kind == 1) n = some t → s.giveFlex c id kind n = t.complete c .success n ∧
        t.fn id = (if kind = 1 then { s.fn id with vi := n } else { s.fn id with vq := n }))) := by
  refine ⟨fun h => if_pos h, fun h => ⟨fun hno => ?_, fun t ht => ⟨?_, State.assignFlex_fn ht⟩⟩⟩
  · rw [State.giveFlex, h, if_neg Bool.false_ne_true, hno]
  · rw [State.giveFlex, h, if_neg Bool.false_ne_true, ht]

/-- A Virtualization Management command and its fields: the action, the kind of resource, the controller and the number. -/
structure State.Virtualizes (s : State) (r : CmdRef) (c : Cmd) (act kind id n : Nat) : Prop where
  run : s.mayRun r c true 0x1C
  act_eq : act = c.sqe.cdw10 % 16
  kind_eq : kind = bits c.sqe.cdw10 10 8
  id_eq : id = c.sqe.cdw10 / 65536
  n_eq : n = c.sqe.cdw11 % 65536

section
variable {act kind id n : Nat} (h : s.Virtualizes r c act kind id n)
include h

theorem State.Virtualizes.exec : Machine.exec (.virtualizationManagement r) s = .next (
    if act = 1 then
      (if id ≠ r.fn then s.complete c .invalidControllerId else if 1 < kind then s.complete c .invalidResourceId else s.giveFlex c id kind n)
    else if act = 7 then
      (if !(isVf id && pfOf id == r.fn) then s.complete c .invalidControllerId
        else ((s.resetController id).setFn id fun f => { f with online := false }).complete c .success)
    else if act = 8 then
      (if !(isVf id && pfOf id == r.fn) then s.complete c .invalidControllerId
        else if 1 < kind then s.complete c .invalidResourceId
        else if (s.fn id).online then s.complete c .invalidSecondaryState
        else s.giveFlex c id kind n)
    else if act = 9 then
      (if !(isVf id && pfOf id == r.fn) then s.complete c .invalidControllerId
        else if (s.fn id).vq = 0 ∨ (s.fn id).vi = 0 then s.complete c .invalidSecondaryState
        else (s.setFn id fun f => { f with online := true }).complete c .success)
    else s.complete c .invalidField) := by
  obtain ⟨hrun, rfl, rfl, rfl, rfl⟩ := h
  exact hrun.eq _

/-- Actions on a controller that is not a virtual function of the issuer's are refused. -/
theorem State.Virtualizes.exec_foreign (hact : act = 7 ∨ act = 8 ∨ act = 9) (hno : ¬ (isVf id = true ∧ pfOf id = r.fn)) :
    Machine.exec (.virtualizationManagement r) s = .next (s.complete c .invalidControllerId) := by
  have hmine : (!(isVf id && pfOf id == r.fn)) = true := by
    rw [Bool.not_eq_true', Bool.eq_false_iff]
    exact fun hc => hno (by simpa using hc)
  rw [h.exec, if_pos hmine, if_pos hmine, if_pos hmine, if_neg (by omega)]
  rcases hact with rfl | rfl | rfl <;> rfl

theorem State.Virtualizes.exec_secondary (hvf : isVf id = true) (hpf : pfOf id = r.fn) :
    (act = 7 → Machine.exec (.virtualizationManagement r) s =
      .next (((s.resetController id).setFn id fun f => { f with online := false }).complete c .success)) ∧
    (act = 8 → Machine.exec (.virtualizationManagement r) s = .next (if 1 < kind then s.complete c .invalidResourceId
      else if (s.fn id).online then s.complete c .invalidSecondaryState else s.giveFlex c id kind n)) ∧
    (act = 9 → Machine.exec (.virtualizationManagement r) s = .next (if (s.fn id).vq = 0 ∨ (s.fn id).vi = 0 then s.complete c .invalidSecondaryState
      else (s.setFn id fun f => { f with online := true }).complete c .success)) := by
  have hmine : (!(isVf id && pfOf id == r.fn)) = false := by rw [hvf, hpf, beq_self_eq_true]; rfl
  rw [h.exec, hmine, if_neg Bool.false_ne_true, if_neg Bool.false_ne_true, if_neg Bool.false_ne_true]
  exact ⟨fun hact => by subst hact; rfl, fun hact => by subst hact; rfl, fun hact => by subst hact; rfl⟩

/-- Both ways to set flexible resources refuse and grant alike; a virtual function must be offline besides. -/
theorem State.Virtualizes.exec_give (hto : (act = 1 ∧ id = r.fn) ∨ (act = 8 ∧ isVf id = true ∧ pfOf id = r.fn)) :
    (1 < kind → Machine.exec (.virtualizationManagement r) s = .next (s.complete c .invalidResourceId)) ∧
    (kind ≤ 1 → act = 8 → (s.fn id).online = true → Machine.exec (.virtualizationManagement r) s = .next (s.complete c .invalidSecondaryState)) ∧
    (kind ≤ 1 → (act = 8 → (s.fn id).online = false) → Machine.exec (.virtualizationManagement r) s = .next (s.giveFlex c id kind n)) := by
  rcases hto with ⟨hact, hid⟩ | ⟨hact, hvf, hpf⟩
  · rw [h.exec, if_pos hact, if_neg (not_not.mpr hid)]
    exact ⟨fun hk => by rw [if_pos hk], fun _ h8 => absurd (hact.symm.trans h8) (by decide), fun hk _ => by rw [if_neg (Nat.not_lt.mpr hk)]⟩
  · rw [(h.exec_secondary hvf hpf).2.1 hact]
    exact ⟨fun hk => by rw [if_pos hk], fun hk _ hon => by rw [if_neg (Nat.not_lt.mpr hk), if_pos hon],
      fun hk hoff => by rw [if_neg (Nat.not_lt.mpr hk), hoff hact, if_neg Bool.false_ne_true]⟩

theorem State.Virtualizes.exec_other (hact : act ∉ [1, 7, 8, 9]) : Machine.exec (.virtualizationManagement r) s = .next (s.complete c .invalidField) := by
  simp only [List.mem_cons, List.not_mem_nil, or_false, not_or] at hact
  obtain ⟨h1, h7, h8, h9⟩ := hact
  rw [h.exec, if_neg h1, if_neg h7, if_neg h8, if_neg h9]

theorem State.Virtualizes.spec :
    (act ∉ [1, 7, 8, 9] → Machine.exec (.virtualizationManagement r) s = .next (s.complete c .invalidField)) ∧
    (act = 1 → id ≠ r.fn → Machine.exec (.virtualizationManagement r) s = .next (s.complete c .invalidControllerId)) ∧
    (act = 7 ∨ act = 8 ∨ act = 9 → ¬ (isVf id = true ∧ pfOf id = r.fn) →
      Machine.exec (.virtualizationManagement r) s = .next (s.complete c .invalidControllerId)) ∧
    ((act = 1 ∧ id = r.fn) ∨ (act = 8 ∧ isVf id = true ∧ pfOf id = r.fn) →
      (1 < kind → Machine.exec (.virtualizationManagement r) s = .next (s.complete c .invalidResourceId)) ∧
      (kind ≤ 1 → act = 8 → (s.fn id).online = true → Machine.exec (.virtualizationManagement r) s = .next (s.complete c .invalidSecondaryState)) ∧
      (kind ≤ 1 → (act = 8 → (s.fn id).online = false) →
        (overLimit id (kind == 1) n = true → Machine.exec (.virtualizationManagement r) s = .next (s.complete c .invalidField)) ∧
        (overLimit id (kind == 1) n = false →
          (s.assignFlex id (kind == 1) n = none → Machine.exec (.virtualizationManagement r) s = .next (s.complete c .invalidResourceCount)) ∧
          (∀ t, s.assignFlex id (kind == 1) n = some t → Machine.exec (.virtualizationManagement r) s = .next (t.complete c .success n) ∧
            t.fn id = (if kind = 1 then { s.fn id with vi := n } else { s.fn id with vq := n }))))) ∧
    (act = 7 → isVf id = true → pfOf id = r.fn → Machine.exec (.virtualizationManagement r) s =
      .next (((s.resetController id).setFn id fun f => { f with online := false }).complete c .success)) ∧
    (act = 9 → isVf id = true → pfOf id = r.fn →
      ((s.fn id).vq = 0 ∨ (s.fn id).vi = 0 → Machine.exec (.virtualizationManagement r) s = .next (s.complete c .invalidSecondaryState)) ∧
      ((s.fn id).vq ≠ 0 → (s.fn id).vi ≠ 0 → ∃ u : State, Machine.exec (.virtualizationManagement r) s = .next (u.complete c .success) ∧
        OnlyChanges [.host] s u ∧ u.fn id = { s.fn id with online := true })) := by
  refine ⟨h.exec_other, fun h1 hid => ?_, h.exec_foreign, fun hto => ?_, fun h7 hvf hpf => (h.exec_secondary hvf hpf).1 h7, fun h9 hvf hpf => ?_⟩
  · rw [h.exec, if_pos h1, if_pos hid]
  · obtain ⟨hkind, honline, hgive⟩ := h.exec_give hto
    refine ⟨hkind, honline, fun hk hoff => ?_⟩
    obtain ⟨hover, hfits⟩ := s.giveFlex_spec c id kind n
    rw [hgive hk hoff]
    refine ⟨fun hl => congrArg _ (hover hl), fun hl => ⟨fun hno => congrArg _ ((hfits hl).1 hno), fun t ht => ?_⟩⟩
    obtain ⟨hdone, hfn⟩ := (hfits hl).2 t ht
    exact ⟨congrArg _ hdone, hfn⟩
  · rw [(h.exec_secondary hvf hpf).2.2 h9]
    refine ⟨fun hnone => by rw [if_pos hnone], fun hq hi => ⟨s.setFn id fun f => { f with online := true }, ?_, ?_, State.fn_setFn_same s _ _⟩⟩
    · rw [if_neg (not_or.mpr ⟨hq, hi⟩)]
    · exact (State.setFn_same0 s _ _).onlyChanges_of_covers rfl

end

end

/-- Settles O50. -/
theorem selfTestsDirectivesAndResources : Obligations.SelfTestsDirectivesAndResources := by
  refine ⟨fun r c k s h hk => deviceSelfTest_spec h hk, fun r c s h => ⟨fun hn => ?_, fun k n => directiveSend_spec h⟩,
    fun r c s h => ⟨fun hn => ?_, fun k n => directiveReceive_spec h⟩,
    fun r c act kind id n s hrun hact hkind hid hn => State.Virtualizes.spec ⟨hrun, hact, hkind, hid, hn⟩⟩
  · rw [exec_directiveSend h, hn]
  · rw [exec_directiveReceive h, hn]

end Sys2Proof.Machine
